-- ==== Sys2Proof/Word.lean ====
section
/-! DEFINITION. The word types of the HX7 and the plain readings of a bit vector that every later file uses. -/

namespace Sys2Proof

/-- A register word (R11: registers are 32 bits wide and little-endian). -/
abbrev Word := BitVec 32

/-- One byte of a frame, of host memory or of the NVM. -/
abbrev Byte := BitVec 8

/-- The word whose bits are the number's low 32 bits. -/
def Word.of (n : Nat) : Word := BitVec.ofNat 32 n

/-- A flag as a number, 1 for true. -/
def b2n (b : Bool) : Nat := if b then 1 else 0

/-- The largest value of a 32-bit saturating counter (R445). -/
def maxU32 : Nat := 4294967295

end Sys2Proof
end

