-- ==== Sys2Proof/Syntax.lean ====
section
/-! DEFINITION. The commands of the HX7, one for each row of the opcode table, with the operands each brings from outside. -/

namespace Sys2Proof

/-- Who sends a register access: the host port or a management core (R451). -/
inductive Requester where
  | host
  | core (c : Fin 4)
  deriving DecidableEq, Repr

/-- What host software has written into the configuration space of the function (R246), whose header and capabilities are otherwise fixed
by Table 9.1: Bus Master Enable, the bus addresses of BAR0/BAR1 and BAR2/BAR3, Interrupt Line, and the codes of Max Payload Size (128 bytes
shifted left by it, at most 512) and Max Read Request Size (the same, at most 4096). -/
structure HostConf where
  master : Bool
  bar0   : BitVec 64
  bar2   : BitVec 64
  line   : Byte
  mps    : Fin 3
  mrrs   : Fin 6
  deriving DecidableEq, Repr

/-- What a starting-block stage found (R313 to R321). -/
structure StageReport where
  tests     : List Bool     -- self-tests 1 to 9 of Table 14.7
  lineStore : Bool          -- the line store self-test
  nvm       : Option (Nat × Nat × Nat)    -- SIZE, manufacturer and device of the flash that answers
  badRead   : List Nat      -- image areas that could not be read
  mc0       : Bool          -- MC0 is ready
  hostLoop  : Bool          -- loopback tests
  ethLoop   : List Bool
  chainLoop : List Bool
  blown     : Bool          -- every fuse position to be blown read back as blown
  deriving DecidableEq, Repr

/-- What the converter measured in a housekeeping slot (R431, R433): a die diode's reading in 1/16 °C, a remote diode's
measurement before scaling, a thermistor's resistance in units of 0.01 Ω, or a supply in mV; and in the last slot of a round
the canary margins of stages 1 to 4 in ‰ (R441). -/
structure HkReading where
  raw     : Int
  margins : List Nat
  deriving DecidableEq, Repr

/-- Where the HX7 places its buffers after training (R264), in units of 512 bytes: canvas buffer b of view v at 2 v + b, frame buffer b of flow
f at 10 f + b, and slot k of host surface n at 3 n + k. -/
structure HbmPlaces where
  canvasBase : List Word
  flowBase   : List Word
  slotBase   : List Word
  deriving DecidableEq, Repr

/-- What the flash reports of staging's work: the sectors or pages that have come to an end together, and whether they did so well. -/
structure FlashRun where
  n  : Nat
  ok : Bool
  deriving DecidableEq, Repr

/-- What an uncorrectable read burst held, where only the port that asked can say (Table 10.6): the lamps of a probe table or
pair state read, the pixels of a layer read by the compositor, or the core that asked. -/
inductive BurstHit where
  | other
  | lamps (l : List Nat)
  | pixels (view layer : Nat) (outgoing : Bool) (px : List (Nat × Nat))
  | core (c : Nat)
  deriving DecidableEq, Repr

/-- An access of the test port (R484). -/
inductive TapOp where
  | trst (high : Bool)      -- DBG_TRST_N changes
  | scan (pins : List Bool) -- a boundary scan instruction that drives or samples the pins
  | ident                   -- the identification register
  | other                   -- any other instruction
  deriving DecidableEq, Repr

/-- What the upstream lane of a port lost before a frame: invalid and stray blocks (R142, R143), frames aborted (R143), and blocks
discarded at the receive boundary (Table 11.5). -/
structure UpLoss where
  bad    : Nat
  aborts : Nat
  full   : Nat
  deriving DecidableEq, Repr

/-- How an Ethernet frame came in: the codewords corrected and not correctable since the frame before (R198), whether one of the latter
held the frame, whether the receive boundary was full (Table 11.5), and the eighth of a tick at which it arrived (R231). -/
structure EthRx where
  corrected : Nat
  lost      : Nat
  errored   : Bool
  full      : Bool
  phase     : Fin 8
  deriving DecidableEq, Repr
/-- The commands of the block, one constructor for each row of the table. -/
inductive Instr where
  /-- REGISTER_WRITE (R11). A BAR0 write to a register that has no row of its own, applied by its fields' access codes, including W1C clears and RWS settings before the seal. -/
  | registerWrite (who : Requester) (off : BitVec 26) (first : BitVec 4) (last : BitVec 4) (data : List Word)
  /-- BAR2_READ (R251). A host read through BAR2 returns the stored HBM bytes, after any self-refresh exit, or zero beyond HBM or in limp service. -/
  | bar2Read (addr : BitVec 40) (len : Nat)
  /-- BAR2_WRITE (R251). A host write through BAR2 is applied before the seal except to the lamp table after the seal, and is discarded and counted after the seal. -/
  | bar2Write (addr : BitVec 40) (data : List Byte)
  /-- CUE_GO (R61). Writing GO to CUE_GO submits the scene cue held in CUE_SCENE and the split registers, accepted at the write's tick. -/
  | cueGo (value : Word)
  /-- CUE_FLUSH (R62). Writing CUE_FLUSH discards every pending scene cue, each recorded as CUE_SUPERSEDED. -/
  | cueFlush (value : Word)
  /-- HS_FENCE_HI_WRITE (R54). A write to HS_FENCE_HI stages the upper half of a host surface's next fence value. -/
  | hsFenceHiWrite (surf : Fin 16) (value : Word)
  /-- HS_FENCE_LO_WRITE (R54). A write to HS_FENCE_LO commits the 64-bit fence value if it is greater than the current one, and otherwise discards it and counts a regression. -/
  | hsFenceLoWrite (surf : Fin 16) (value : Word)
  /-- SCENE_QUERY_WRITE (R70). Writing FROM and TO to SCENE_QUERY makes it report the scene's usability reason and the pair's fadeability. -/
  | sceneQueryWrite (value : Word)
  /-- LAMP_RECHECK (R92). Writing GO to LAMP_RECHECK schedules one probe of an OPEN or SHORTED lamp, or refuses and counts the request. -/
  | lampRecheck (value : Word)
  /-- LAMP_WATCH_WRITE (R102). Writing LAMP_WATCH selects the watched lamp and leg and clears VALID of LAMP_WATCH_TARGET. -/
  | lampWatchWrite (value : Word)
  /-- PLAN_CUE (R105). Writing GO to PLAN_CUE submits a plan cue, which is accepted as pending, held or replacing, or refused. -/
  | planCue (value : Word)
  /-- TB_RESTEP (R235). Writing GO to TB_RESTEP requests a re-step, which fixes the boundary B, is held behind a fixed change, or is refused. -/
  | tbRestep (value : Word)
  /-- TB_NOW_NS_READ (R225). A read of TB_NOW_NS copies the whole local time counter into the snapshot registers in one tick. -/
  | tbNowNsRead
  /-- ATTACH (R252). Writing ATTACH to HOST_ATTACH enters the attached state if the attach registers and Bus Master Enable are valid, and otherwise records the reason. -/
  | attach (value : Word)
  /-- DETACH (R247). Writing DETACH leaves the attached state, stopping pulls, staging pulls and host memory writes. -/
  | detach (value : Word)
  /-- STAGE_GO (R258). Writing GO to STAGE_CTRL while attached and idle starts staging an NVM image from the host list. -/
  | stageGo (value : Word)
  /-- STAGE_ABORT (R259). Writing ABORT to STAGE_CTRL ends staging at the next page or sector boundary with code 9. -/
  | stageAbort (value : Word)
  /-- EVT_HOST_CI_WRITE (R381). A write to EVT_HOST_CI sets the consumer index and frees ring space for waiting records. -/
  | evtHostCiWrite (value : Word)
  /-- EVT_POP (R377). A core's write of POP removes the head record of its queue of the given class and makes its source active. -/
  | evtPop (who : Requester) (core : Fin 4) (value : Word)
  /-- EVT_DONE (R377). A core's write of DONE ends the active record of a source, clearing pending when none remains, or counts an inactive DONE. -/
  | evtDone (who : Requester) (core : Fin 4) (value : Word)
  /-- EVT_CORE_STATE_WRITE (R380). A core write of EVT_CORE STATE sets RUN, LIGHT, DEEP or OFFLINE, moving an OFFLINE core's queued records to MC0. -/
  | evtCoreStateWrite (who : Requester) (core : Fin 4) (value : Word)
  /-- EVT_LINE_ENABLE_WRITE (R378). A write of a core line enable or of global DISABLE masks or unmasks event lines, asserting at once a line whose queue is non-empty. -/
  | evtLineEnableWrite (who : Requester) (core : Option (Fin 4)) (value : Word)
  /-- EVT_ROUTE_WRITE (R379). A write to EVT_ROUTE changes a source's target, class and enables for records not yet queued. -/
  | evtRouteWrite (who : Requester) (src : Fin 512) (value : Word)
  /-- FAULT_CLEAR (R400). Writing GO with SOURCE and KIND to FAULT_CLEAR removes the entry if its cause is absent, and otherwise refuses it. -/
  | faultClear (value : Word)
  /-- FAULT_CLEAR_ALL (R400). Writing GO with ALL clears every active entry whose cause is absent and refuses the rest. -/
  | faultClearAll (value : Word)
  /-- HOLD_REQUEST (R397). Writing GO with KEY 0x401D to HOLD_REQUEST raises the HOST_HOLD fault, which puts the wall in hold. -/
  | holdRequest (value : Word)
  /-- FAULT_LOG_READ (R396). A write to FAULT_LOG_READ loads the named fault log record into FAULT_LOG_DATA, or zeros if it is not held. -/
  | faultLogRead (value : Word)
  /-- ACTIVE_READ (R404). A write to ACTIVE_READ selects the active-table entry shown in ACTIVE_ENTRY. -/
  | activeRead (value : Word)
  /-- JOURNAL_READ (R350). A write to JOURNAL_READ clears VALID and NOT_FOUND and queues a read of the journal record with that SEQ. -/
  | journalRead (value : Word)
  /-- JOURNAL_READ_DONE (R350). The queued journal read completes and JOURNAL_DATA holds the record, or NOT_FOUND is set. -/
  | journalReadDone
  /-- RESTART (R321). Writing RESTART with KEY 0x5A3C to SB_CTRL in a false start or limp service requests a new start. -/
  | restart (value : Word)
  /-- RESTART_TAKES_EFFECT (R321). Once any NVM write in flight has finished, the requested restart zeroises and begins again at SB0. -/
  | restartTakesEffect
  /-- OWNER_ENROL (R358). Writing GO with KEY 0x0E4C to OWNER_ENROL blows the written owner hash into the fuses and sets ENROLLED or ENROL_FAILED. -/
  | ownerEnrol (value : Word) (blown : Bool)
  /-- ATTEST_NONCE_WRITE (R361). A write to ATTEST_NONCE sets nonce bytes and clears VALID of the attestation report. -/
  | attestNonceWrite (word : Fin 8) (value : Word)
  /-- ATTEST_GO (R361). Writing GO to ATTEST_CTRL starts a signed attestation report, or sets REFUSED if the identity key is cleared. -/
  | attestGo (value : Word)
  /-- ATTEST_REPORT_DONE (R361). The security core places the signed report in ATTEST_REPORT and sets VALID. -/
  | attestReportDone
  /-- DEBUG_SUBMIT (R366). Writing SUBMIT to DEBUG_CTRL checks the debug token and either zeroises and opens its scopes or counts a failure. -/
  | debugSubmit (value : Word)
  /-- ZEROISE (R369). Writing GO with KEY 0xD1E5 to SEC_ZEROISE overwrites and verifies every secret key and the DRBG state. -/
  | zeroise (value : Word)
  /-- ZEROISE_PERMANENT (R369). A zeroise write with PERMANENT set also blows the RETIRED fuse. -/
  | zeroisePermanent (value : Word)
  /-- HANDOVER (R425). Writing HANDOVER with KEY 0x6E1A to RELAY_CTRL of the ACTIVE unit releases its shared ports to the partner. -/
  | handover (value : Word)
  /-- MEND (R426). Writing MEND with KEY 0x6E1A to RELAY_CTRL mends two SOLO units at once. -/
  | mend (value : Word)
  /-- HURDLE_QUERY_WRITE (R294). A write to HURDLE_QUERY clears VALID and asks for the usage of a plan with a scene or fade pair. -/
  | hurdleQueryWrite (value : Word)
  /-- HURDLE_QUERY_DONE (R294). Within 1 ms the queried combination is judged and HURDLE_QUERY_USE and VALID are set, or UNJUDGED. -/
  | hurdleQueryDone
  /-- CORE_KICK (R398). A management core's write of KICK restarts its watchdog, and a restarting core becomes RUNNING. -/
  | coreKick (who : Requester) (core : Fin 4) (value : Word)
  /-- CORE_WDT_EXPIRY (R398). A core's watchdog period passes without KICK, raising CORE_LOST and stopping MC1 to MC3. -/
  | coreWdtExpiry (core : Fin 4)
  /-- PORT_STOP_COMPLETE (R399). A stopping port or core completes its stop and becomes STOPPED, restarting at once if its enable is pending. -/
  | portStopComplete (unit : Fin 19)
  /-- HOLD_TIME_EXPIRY (R397). HOLD_TIME passes after the hold entry instant and the phase becomes HELD_DARK. -/
  | holdTimeExpiry
  /-- PCIE_LINK_TRAINED (R248). The host link completes training at some rate and width. -/
  | pcieLinkTrained (speed : Fin 7) (width : Fin 17) (flit : Bool) (conf : HostConf)
  /-- PCIE_LINK_DOWN (R247). The host link goes down and the host port leaves the attached state. -/
  | pcieLinkDown
  /-- FUNCTION_LEVEL_RESET (R247). A Function Level Reset makes the host port leave the attached state without resetting any other block. -/
  | functionLevelReset
  /-- HOT_RESET (R247). A hot reset makes the host port leave the attached state. -/
  | hotReset
  /-- D3HOT_ENTRY (R247). A transition to D3hot makes the host port leave the attached state. -/
  | d3hotEntry
  /-- BUS_MASTER_ENABLE_CLEAR (R247). Clearing Bus Master Enable makes the host port leave the attached state. -/
  | busMasterEnableClear
  /-- PE_PERST_ASSERT (R483). PE_PERST_N going low holds the host port in reset and takes the link down. -/
  | pePerstAssert
  /-- PE_PERST_RELEASE (R483). PE_PERST_N released lets the host port train within 100 ms. -/
  | pePerstRelease
  /-- PULL_COMPLETION_RX (R255). A PCI Express completion for a host surface pull delivers a line into the HBM slot, or fails the pull on UR, CA or poison. -/
  | pullCompletionRx (surf : Fin 16) (status : Fin 4) (data : List Byte)
  /-- PULL_COMPLETION_TIMEOUT (R257). A pull read's completion timeout expires and the pull fails. -/
  | pullCompletionTimeout (surf : Fin 16)
  /-- HS_PULL_COMPLETE (R59). The last line of a host surface pull arrives and the buffer is retired. -/
  | hsPullComplete (surf : Fin 16)
  /-- STAGE_PULL_DONE (R258). The staged image has been read into the HBM staging area and checking begins. -/
  | stagePullDone (entries : List (Nat × Nat)) (data : List Byte) (fail : Bool)
  /-- STAGE_CHECK_DONE (R258). Container, signature and anti-rollback checks of the staged image complete, failing it or moving to erase. -/
  | stageCheckDone
  /-- STAGE_ERASE_RESUME (R341). Staging waiting in CHECKING proceeds to erase once TRIAL of its kind clears, writing the ERASING header. -/
  | stageEraseResume
  /-- STAGE_ERASE_DONE (R258). Erasure of the inactive area completes and programming begins. -/
  | stageEraseDone (run : FlashRun)
  /-- STAGE_PROGRAM_DONE (R258). Programming of the image completes and read-back begins. -/
  | stageProgramDone (run : FlashRun)
  /-- STAGE_VERIFY_DONE (R258). The read-back SHA-256 is compared, and on a match the STAGED header is written and staging ends DONE. -/
  | stageVerifyDone
  /-- HOST_RING_WRITE (R381). A record waiting in the host queue is written to its ring slot once ring space allows, with the index block after it. -/
  | hostRingWrite
  /-- INDEX_BLOCK_TIMER (R381). 100 ms pass while attached and the index block is written even without new records. -/
  | indexBlockTimer
  /-- LEG_BOUNDARY (R242). The counter reaches a leg boundary of the plan in force, with the latch, commit and every boundary action of that instant. -/
  | legBoundary
  /-- PIN_PULSE_START (R131). The counter reaches a boundary plus PIN_OFFSET and the LAP_OUT or LEG_OUT pulse begins. -/
  | pinPulseStart (leg : Bool)
  /-- PIN_PULSE_END (R131). The pulse width expires and the pin returns to its inactive level. -/
  | pinPulseEnd (leg : Bool)
  /-- PLAN_CUE_FIX_POINT (R106). 2,000 µs before lap boundary B − 2P the pending plan cue becomes fixed. -/
  | planCueFixPoint
  /-- RESTEP_DECISION_POINT (R236). 2,000 µs before B the re-step is committed or cancelled from the offset estimate. -/
  | restepDecisionPoint
  /-- LAP_FRAME_SEND (R173). The LAP frame for a boundary starts leaving the port within its window before that boundary. -/
  | lapFrameSend (port : Fin 16)
  /-- SCHEDULE_OCCURRENCE (R339). The counter reaches a schedule occurrence's submission instant and a timed cue is submitted or skipped. -/
  | scheduleOccurrence (entry : Nat)
  /-- BLOCK_CORRECTION_DUE (R129). Correction of a canvas block must begin, and if its composition is unfinished the block is sampled as background. -/
  | blockCorrectionDue (view : Fin 8) (block : Nat)
  /-- SEND_DEADLINE (R130). A pair's send deadline passes and an unsent dirty pair is skipped for that leg. -/
  | sendDeadline (port : Fin 16) (pos : Fin 32) (leg : Fin 8) (seg : Nat)
  /-- VIEW_COMPOSE_DONE (R256). A latch's composition finishes, freeing the flow buffers and host surface slots it held. -/
  | viewComposeDone (view : Fin 8)
  /-- PROBE_COUNT_SECOND (R122). Once per second each lamp's probe count resets if any leg was checkable and otherwise rises. -/
  | probeCountSecond
  /-- TILE_TEMP_STALE (R87). A tile sends no valid temperature for 1 s and its applied temperature is held and recorded stale. -/
  | tileTempStale (port : Fin 16) (pos : Fin 32)
  /-- DELAY_RECOMPUTE (R183). At least once per second each position's chain delay is recomputed from the latest round-trip measurements. -/
  | delayRecompute
  /-- PTP_ANNOUNCE (R230). An Announce message is taken and the slot's master chosen by the dataset comparison. -/
  | ptpAnnounce (sub : Fin 8) (data : List Byte)
  /-- PTP_SYNC (R230). A Sync message from the selected master is stamped and completes a measurement if one-step. -/
  | ptpSync (sub : Fin 8) (data : List Byte) (phase : Fin 8)
  /-- PTP_FOLLOW_UP (R230). A Follow_Up completes the two-step Sync measurement. -/
  | ptpFollowUp (sub : Fin 8) (data : List Byte)
  /-- PTP_DELAY_RESP (R230). A Delay_Resp completes an end-to-end delay measurement and sets the granted interval. -/
  | ptpDelayResp (sub : Fin 8) (data : List Byte)
  /-- PTP_PDELAY_REQ (R230). A peer's Pdelay_Req is answered two-step. -/
  | ptpPdelayReq (sub : Fin 8) (data : List Byte) (phase : Fin 8)
  /-- PTP_PDELAY_RESP (R230). A Pdelay_Resp contributes to the peer delay measurement. -/
  | ptpPdelayResp (sub : Fin 8) (data : List Byte) (phase : Fin 8)
  /-- PTP_PDELAY_RESP_FOLLOW_UP (R230). A Pdelay_Resp_Follow_Up completes the peer delay measurement. -/
  | ptpPdelayRespFollowUp (sub : Fin 8) (data : List Byte)
  /-- PTP_MANAGEMENT (R230). A Management message is ignored. -/
  | ptpManagement (sub : Fin 8) (data : List Byte)
  /-- PTP_SIGNALING (R230). A Signaling message is ignored. -/
  | ptpSignaling (sub : Fin 8) (data : List Byte)
  /-- DELAY_REQ_SEND (R230). The granted interval expires and a Delay_Req is sent. -/
  | delayReqSend (slot : Fin 2) (phase : Fin 8)
  /-- PDELAY_REQ_SEND (R230). Once per second a Pdelay_Req is sent to the peer. -/
  | pdelayReqSend (slot : Fin 2) (phase : Fin 8)
  /-- ANNOUNCE_RECEIPT_TIMEOUT (R229). announceReceiptTimeout expires, the master is lost and the slot loses qualification. -/
  | announceReceiptTimeout (slot : Fin 2)
  /-- SYNC_INTERVAL_MISS (R229). A Sync interval passes without a complete measurement, and the third in a row unqualifies the slot. -/
  | syncIntervalMiss (slot : Fin 2)
  /-- SOURCE_REVERT_TIMER (R227). A lower-ranked source has been qualified for REVERT_S seconds and replaces the selected source. -/
  | sourceRevertTimer
  /-- LAPREF_PULSE (R238). A LAPREF_IN pulse is stamped and decoded as a bit, marker or invalid symbol. -/
  | laprefPulse (width : Nat) (phase : Fin 8)
  /-- LAPREF_EDGE_TIMEOUT (R240). Two seconds pass without a valid edge and LAPREF loses qualification. -/
  | laprefEdgeTimeout
  /-- REF_CLK_STOP (R475). REF_CLK stops and the device changes to its on-package oscillator, or false-starts in SB0. -/
  | refClkStop
  /-- ETH_FRAME_RX (R199). An Ethernet frame arrives at a sub-port and is accepted or discarded by MAC, MACsec and IP rules. -/
  | ethFrameRx (sub : Fin 8) (rx : EthRx) (data : List Byte)
  /-- ARP_REQUEST (R200). An ARP request for a sub-port's own address is answered. -/
  | arpRequest (sub : Fin 8) (data : List Byte)
  /-- IGMP_QUERY (R213). An IGMP query is answered with IGMPv3 reports. -/
  | igmpQuery (sub : Fin 8) (data : List Byte)
  /-- IGMP_REPORT_TIMER (R213). An unsolicited report interval expires and a report is sent. -/
  | igmpReportTimer (sub : Fin 8)
  /-- FLOW_PACKET_RX (R207). An RTP video packet of a flow path is taken and written into the frame buffer. -/
  | flowPacketRx (flow : Fin 64) (sec : Bool) (data : List Byte)
  /-- FLOW_FRAME_CLOSE (R208). The reorder allowance or two frame periods expire, and an incomplete frame is dropped or concealed. -/
  | flowFrameClose (flow : Fin 64)
  /-- FLOW_PATH_TIMEOUT (R211). 1 s passes without a valid packet on a path. -/
  | flowPathTimeout (flow : Fin 64) (sec : Bool)
  /-- FLOW_LEAVE_TIMER (R212). An on-demand flow is left 2 s after it ceased to be used. -/
  | flowLeaveTimer (flow : Fin 64)
  /-- CUE_DATAGRAM_RX (R215). A cue datagram is checked in order and, if it passes, set to be accepted 20 µs after its arrival stamp. -/
  | cueDatagramRx (sub : Fin 8) (data : List Byte)
  /-- CUE_DATAGRAM_ACCEPT (R215). 20 µs after arrival the datagram cue is accepted by the cue unit. -/
  | cueDatagramAccept
  /-- RELAY_DELAYED_ACCEPT (R416). In an ACTIVE unit with a standby, a cue or tile input counts as accepted 50 µs later. -/
  | relayDelayedAccept
  /-- MONITOR_PACKET_SEND (R218). The next monitor packet falls due in the even spread over the lap and is sent. -/
  | monitorPacketSend
  /-- ETH_LINK_CHANGE (R220). A sub-port gains or loses PCS lock and FEC alignment. -/
  | ethLinkChange (sub : Fin 8) (up : Bool) (hiSer : Bool)
  /-- MEM_REQUEST (R265). A memory request reaches a pseudo-channel controller and is queued by rank. -/
  | memRequest (port : Fin 8) (addr : BitVec 40) (write : Bool) (level : Fin 16385) (busy : Bool)
  /-- MEM_READ_BURST (R283). A read burst returns with its severity, corrected or uncorrectable. -/
  | memReadBurst (pc : Fin 128) (sev : Fin 3) (hit : BurstHit)
  /-- REFRESH_DUE (R269). A per-bank refresh falls due and is issued or postponed. -/
  | refreshDue (pc : Fin 128)
  /-- PAGE_IDLE_TIMEOUT (R268). PAGE_IDLE passes since a bank's last access and the bank is precharged. -/
  | pageIdleTimeout (pc : Fin 128) (bank : Fin 48)
  /-- STACK_TEMP_READING (R271). A stack's 1 ms temperature reading sets it hot or cool and is judged against thermal limits. -/
  | stackTempReading (stack : Fin 4) (temp : BitVec 16)
  /-- STACK_READ_TIMEOUT (R438). A stack yields no reading for 16 ms and is treated as hot. -/
  | stackReadTimeout (stack : Fin 4)
  /-- STACK_QUIET (R273). A stack quiet for 2,000 ns meeting the conditions enters rest or begins a step. -/
  | stackQuiet (stack : Fin 4) (step : Bool)
  /-- STACK_WAKE (R274). A request or need reaches a resting or stepping stack and causes an exit after minimum residency. -/
  | stackWake (stack : Fin 4) (need : Bool)
  /-- STACK_EXIT_DONE (R272). A stack's rest exit or rate step completes and waiting requests are served. -/
  | stackExitDone (stack : Fin 4)
  /-- PARITY_ALERT (R281). A command parity alert stops the controller from issuing. -/
  | parityAlert (pc : Fin 128) (cmd : Fin 32)
  /-- PARITY_ALERT_CLEAR (R281). The alert clears and the controller precharges and replays the named and later commands. -/
  | parityAlertClear (pc : Fin 128) (again : Bool)
  /-- TRIM_SLOT_DUE (R278). A pseudo-channel's calibration slot falls due and starts or is postponed. -/
  | trimSlotDue (pc : Fin 128)
  /-- TRIM_SLOT_END (R280). The 2 µs slot ends with PASS, MARGINAL, INVALID or ABORTED and moves the delays. -/
  | trimSlotEnd (pc : Fin 128) (found : Bool) (eye : List Nat) (centre : List Int)
  /-- HBM_TRAINING_DONE (R277). Training of the stacks completes with repairs recorded or a failure that leads to limp service. -/
  | hbmTrainingDone (eyes : List (List Nat)) (fails : List (Fin 128 × Fin 8)) (lampBase : Word) (place : HbmPlaces)
  /-- FABRIC_TRIM_DONE (R440). The delay-line trim chooses elements and sets each stage's status, or loses a stage. -/
  | fabricTrimDone (lines : List (List (List Int)))
  /-- FABRIC_STALL_TIMEOUT (R300). A fabric stage with queued work completes no handshake for 1 ms. -/
  | fabricStallTimeout (stage : Fin 5)
  /-- HURDLE_CHECK_DONE (R292). A run of the hurdle check completes and sets plan, scene and pair usability. -/
  | hurdleCheckDone
  /-- RESET_RELEASE (R467). RESET_N is released with PWRGD_OUT released and a start begins at SB0. -/
  | resetRelease
  /-- RESET_ASSERT (R468). RESET_N held low for 10 µs stops clocks, finishes NVM work, zeroises and removes the rails. -/
  | resetAssert
  /-- SB_STAGE_COMPLETE (R314). A starting-block stage produces everything it lists and the next stage begins. -/
  | sbStageComplete (report : StageReport)
  /-- SB_STAGE_TIMEOUT (R314). A stage exceeds its longest duration and ends in a false start, or limp or warm-up for SB4 and SB5. -/
  | sbStageTimeout (report : StageReport)
  /-- SLATE_LOAD_DONE (R311). The slate finishes loading into a warm-up buffer and can be latched. -/
  | slateLoadDone
  /-- WARM_SOURCE_TIMEOUT (R311). The warm-up source completes no frame for 1 s, ceases to be present and the slate is loaded. -/
  | warmSourceTimeout
  /-- NVM_OP_DONE (R347). An NVM read, program or erase completes and the next queued operation starts by priority. -/
  | nvmOpDone (ok : Bool)
  /-- NVM_GRACE_TIMEOUT (R348). 5 ms after a shutdown or restart the in-flight program or erase suspend is given up waiting for. -/
  | nvmGraceTimeout
  /-- ENTROPY_HEALTH_FAILURE (R368). A continuous entropy test or signature self-check fails during operation. -/
  | entropyHealthFailure (test : Fin 3)
  /-- PORT_ENABLE (R150). An enabled chain port starts its forwarded clock. -/
  | portEnable (port : Fin 16)
  /-- PORT_BLOCKS_START (R150). 10 µs after the clock the port starts sending IDLE blocks and ALIGN markers. -/
  | portBlocksStart (port : Fin 16)
  /-- PORT_START_TIMEOUT (R150). A port not up 10 ms after its start is recorded down. -/
  | portStartTimeout (port : Fin 16)
  /-- PORT_RESTART_TIMER (R150). 100 ms after a failed start the port is started again. -/
  | portRestartTimer (port : Fin 16)
  /-- ALIGN_SEND (R147). At each block time that is a multiple of 16,384 every active lane sends an ALIGN marker. -/
  | alignSend
  /-- UP_ALIGN_RX (R182). An ALIGN arrives on the upstream lane, measuring RT_0 and bringing the port up when echoed. -/
  | upAlignRx (port : Fin 16) (count : BitVec 16) (echo : Bool) (bip : Bool) (rt : Nat)
  /-- ALIGN_MISSED (R149). A due marker is absent, and after 3 misses the port falls out of alignment. -/
  | alignMissed (port : Fin 16)
  /-- UPSTREAM_LOCK_LOSS (R146). The upstream lane loses block lock after 16 invalid headers in a window. -/
  | upstreamLockLoss (port : Fin 16)
  /-- IDLE_ENTRY (R151). With no frame queued and none due within IDLE_MIN, the data lanes enter electrical idle. -/
  | idleEntry (port : Fin 16)
  /-- IDLE_EXIT (R152). A TRAIN burst begins in time for the next scheduled frame. -/
  | idleExit (port : Fin 16)
  /-- CHAIN_FRAME_START (R448). A downstream frame begins on a port at a block time by the arbitration order. -/
  | chainFrameStart (port : Fin 16)
  /-- CHAIN_TX_DRY (R301). The chain transmit buffer runs dry inside a frame and an invalid block aborts it. -/
  | chainTxDry (port : Fin 16)
  /-- BEACON_SEND (R178). Every 100 µs a BEACON is sent on each enabled port. -/
  | beaconSend
  /-- CAL_START (R154). A due lane calibration starts with LANE_DROP or UP_CAL, or is retried later. -/
  | calStart (port : Fin 16)
  /-- CAL_DROP_CHANGE (R155). 64 blocks after LANE_DROP every node stripes over three lanes and the pattern starts. -/
  | calDropChange (port : Fin 16)
  /-- CAL_PATTERN_END (R155). The 7,758-block pattern ends, the TRAIN burst and LANE_RESTORE are sent. -/
  | calPatternEnd (port : Fin 16) (eye : Option (Nat × Nat)) (ctle : Fin 16) (phase : Fin 64)
  /-- CAL_RESTORE_CHANGE (R155). 64 blocks after LANE_RESTORE four-lane striping resumes. -/
  | calRestoreChange (port : Fin 16)
  /-- CAL_REPORT_TIMEOUT (R157). No result 1 ms after a calibration's end ends it ABORTED. -/
  | calReportTimeout (port : Fin 16)
  /-- STATUS_FRAME_RX (R179). A valid STATUS frame from a tile is taken whole and its records applied. -/
  | statusFrameRx (port : Fin 16) (loss : UpLoss) (data : List Byte)
  /-- CENSUS_DATA_RX (R186). A CENSUS_DATA answer brings a tile record or calibration or life table data, advancing the census. -/
  | censusDataRx (port : Fin 16) (loss : UpLoss) (data : List Byte)
  /-- CENSUS_ENUM_TIMEOUT (R186). No answer to an ENUM within 1 ms ends enumeration. -/
  | censusEnumTimeout (port : Fin 16)
  /-- CENSUS_READ_TIMEOUT (R186). A read unanswered in 1 ms is resent, and after 8 tries the tile is refused. -/
  | censusReadTimeout (port : Fin 16)
  /-- AGE_ACK_TIMEOUT (R190). An AGE frame unacknowledged in 20 ms is resent, or after 3 retries recorded unacked. -/
  | ageAckTimeout (port : Fin 16) (pos : Fin 32)
  /-- BATON_CLAIM_REPEAT (R194). Every 100 µs a claimant repeats its claim until every tile it reaches has granted it. -/
  | batonClaimRepeat
  /-- RELAY_HEARTBEAT_SEND (R413). Every 100 µs a HEARTBEAT is sent on the relay link. -/
  | relayHeartbeatSend
  /-- RELAY_HEARTBEAT_RX (R420). A partner HEARTBEAT resets the link path's misses and may decide the role. -/
  | relayHeartbeatRx (data : List Byte) (standby : Bool)
  /-- RELAY_LINK_TIMEOUT (R406). 1 ms without a HEARTBEAT or loss of lane lock takes the relay link down. -/
  | relayLinkTimeout (lanes : Bool)
  /-- RELAY_LINK_RETRIM (R406). The link down for 10 ms starts a receiver trim over received TRAIN bursts. -/
  | relayLinkRetrim
  /-- RELAY_TRIM_DONE (R406). A relay receiver trim over 10 ms of TRAIN bursts ends, valid or INVALID. -/
  | relayTrimDone (valid : Bool)
  /-- RELAY_TRAIN_SEND (R406). Once per millisecond while the link is not up a TRAIN burst is sent on both relay lanes. -/
  | relayTrainSend
  /-- RELAY_TIME_SEND (R414). Every 1 ms a TIME message with marker stamps is sent. -/
  | relayTimeSend
  /-- RELAY_TIME_RX (R414). A TIME message yields the partner's offset for RELAY time. -/
  | relayTimeRx (data : List Byte) (mark : BitVec 16) (age : Nat)
  /-- RELAY_CUE_RX (R415). A mirrored CUE is applied by the standby at the latch it names. -/
  | relayCueRx (data : List Byte)
  /-- RELAY_TILE_RX (R415). A mirrored TILE message sets a paired tile's temperatures, cap and trims. -/
  | relayTileRx (data : List Byte)
  /-- RELAY_LAMP_RX (R415). A mirrored LAMP message sets a lamp's STATE. -/
  | relayLampRx (data : List Byte)
  /-- RELAY_FLUSH_RX (R415). A mirrored FLUSH performs steps 1 to 3 of the flush without AGE frames. -/
  | relayFlushRx (data : List Byte)
  /-- RELAY_SIGS_RX (R418). Line signatures from the ACTIVE unit are compared with the standby's own. -/
  | relaySigsRx (data : List Byte)
  /-- RELAY_DELAYS_RX (R412). A DELAYS message gives the standby its hop delays. -/
  | relayDelaysRx (data : List Byte)
  /-- RELAY_CENSUS_READY_RX (R409). CENSUS_READY lets the standby run its census on the shared port. -/
  | relayCensusReadyRx (data : List Byte)
  /-- RELAY_PLACE_RX (R409). A PLACE message gives the partner's placement words for pairing. -/
  | relayPlaceRx (data : List Byte)
  /-- RELAY_HANDOVER_RX (R425). A HANDOVER release makes the receiving unit claim the released ports. -/
  | relayHandoverRx (data : List Byte)
  /-- PARTNER_BEACON_RX (R420). A BEACON from the partner on a paired port resets the chain path's misses. -/
  | partnerBeaconRx (port : Fin 16) (data : List Byte)
  /-- HEARTBEAT_PATH_MISS (R420). 105 µs pass without a heartbeat on a path, and three misses on both paths lose the partner. -/
  | heartbeatPathMiss (chain : Bool)
  /-- PAIRING_TIMEOUT (R408). Nothing heard from the partner 100 ms after SB3 makes the unit SOLO. -/
  | pairingTimeout
  /-- HANDOVER_SILENCE_END (R425). 400 µs after a release the releaser resumes BEACONs and becomes STANDBY or resumes driving. -/
  | handoverSilenceEnd
  /-- MEND_TIMER (R426). Two SOLO units with both paths up and equal digests for MEND_S seconds mend. -/
  | mendTimer
  /-- HK_SLOT (R431). A 1 ms housekeeping slot ends and its channel's reading is taken and judged. -/
  | hkSlot (reading : HkReading)
  /-- SHUTDOWN_CLOCK_STOP (R401). 200 µs after the S3 stamp the forwarded clocks stop and VCORE, HBM and host link go down. -/
  | shutdownClockStop
  /-- FEED_PRESENT (R466). A feed rises through 4.3 V and the always-on domain runs, releasing PWRGD_OUT when ready. -/
  | feedPresent (feedB : Bool)
  /-- FEED_ABSENT (R466). A feed falls through 4.0 V, with no effect while the other stays in range. -/
  | feedAbsent (feedB : Bool)
  /-- POWER_LOSS (R469). Both feeds absent lets every rail fall and loses the shutdown latch. -/
  | powerLoss
  /-- UPSTREAM_BLOCK_LOCK (R145). The HX7's upstream lane takes block lock after 64 consecutive valid headers, at port start or after a loss of lock. -/
  | upstreamBlockLock (port : Fin 16)
  /-- REF_CLK_START (R467). REF_CLK begins running, which lets PWRGD_OUT be released once a feed is present and the always-on rail is good. -/
  | refClkStart
  /-- DEBUG_TAP_ACCESS (R484). An IEEE 1149.1 instruction arrives on the DBG pins, or DBG_TRST_N changes; boundary scan is served and other instructions are refused unless a debug scope is open. -/
  | debugTapAccess (op : TapOp)
  deriving DecidableEq, Repr

end Sys2Proof
end

