-- ==== Sys2Proof/Decode.lean ====
section
/-! DEFINITION. The commands that words spell: no row of the opcode table gives bits, so no word spells one. -/

namespace Sys2Proof

/-- The command a word spells by the table's bits. The rows' lists of fields are all empty, so there is none. -/
def decodeTableWord (_nbits _w : Nat) : Option Instr := none

end Sys2Proof
end

