-- ==== Sys2Proof/Machine/Bits.lean ====
section
/-! DEFINITION. Bit fields, byte orders, two's complement, saturation, the CRC-32 of R170, and the sparse store in one
canonical form that every register file and memory of the model is held in. -/

namespace Sys2Proof.Machine

/-- Bits `hi` down to `lo` of a word, as a number. -/
def wfld (w : Word) (hi lo : Nat) : Nat := (w.toNat >>> lo) % 2 ^ (hi - lo + 1)

/-- Bit `i` of a word. -/
def wbit (w : Word) (i : Nat) : Bool := (w.toNat >>> i) % 2 == 1

/-- A word with bits `hi` down to `lo` replaced. -/
def wput (w : Word) (hi lo n : Nat) : Word :=
  Word.of (w.toNat - wfld w hi lo * 2 ^ lo + (n % 2 ^ (hi - lo + 1)) * 2 ^ lo)

/-- `n` as a field at bit `lo`. -/
def at_ (n lo : Nat) : Nat := n <<< lo

/-- Bits `hi` down to `lo` of a number. -/
def nfld (n hi lo : Nat) : Nat := (n >>> lo) % 2 ^ (hi - lo + 1)

/-- Bit `i` of a number. -/
def nbit (n i : Nat) : Bool := (n >>> i) % 2 == 1

/-- A number with bit `i` set. -/
def setBit (n i : Nat) : Nat := if nbit n i then n else n + 2 ^ i

/-- A number with bit `i` clear. -/
def clrBit (n i : Nat) : Nat := if nbit n i then n - 2 ^ i else n

/-- A number with bit `i` set to `b`. -/
def putBit (n i : Nat) (b : Bool) : Nat := if b then setBit n i else clrBit n i

/-- The number whose bit `i` is the `i`-th flag. -/
def maskOf : List Bool → Nat
  | [] => 0
  | b :: bs => b2n b + 2 * maskOf bs

/-- The number of bits of an integer's two's complement in `w` bits. -/
def twos (w : Nat) (x : Int) : Nat := (x % (2 ^ w : Int)).toNat

/-- The integer a `w`-bit two's complement number stands for. -/
def sint (w n : Nat) : Int := if n % 2 ^ w < 2 ^ (w - 1) then (n % 2 ^ w : Nat) else (n % 2 ^ w : Nat) - (2 ^ w : Nat)

/-- An integer held to the range of `w` signed bits. -/
def satS (w : Nat) (x : Int) : Int :=
  if x > (2 ^ (w - 1) - 1 : Nat) then (2 ^ (w - 1) - 1 : Nat) else if x < -(2 ^ (w - 1) : Nat) then -(2 ^ (w - 1) : Nat) else x

/-- An integer held between two bounds. -/
def clampI (lo hi x : Int) : Int := if x < lo then lo else if hi < x then hi else x

/-- A number held to a largest value. -/
def satN (m n : Nat) : Nat := if m < n then m else n

/-- Ceiling division; 0 for a zero divisor. -/
def ceilDiv (a b : Nat) : Nat := if b == 0 then 0 else (a + b - 1) / b

/-- Ceiling of `a / b` for an integer numerator. -/
def ceilDivI (a : Int) (b : Nat) : Int := -((-a) / (b : Int))

/-- The little-endian number of a byte list. -/
def leNat : List Byte → Nat
  | [] => 0
  | b :: bs => b.toNat + 256 * leNat bs

/-- The big-endian number of a byte list. -/
def beNat (bs : List Byte) : Nat := leNat bs.reverse

/-- `k` little-endian bytes of a number. -/
def leBytes : Nat → Nat → List Byte
  | 0, _ => []
  | k + 1, n => BitVec.ofNat 8 n :: leBytes k (n / 256)

/-- `k` big-endian bytes of a number. -/
def beBytes (k n : Nat) : List Byte := (leBytes k n).reverse

/-- `k` bytes of a list from `off` on, missing bytes read as zero. -/
def slice (bs : List Byte) (off k : Nat) : List Byte :=
  let t := (bs.drop off).take k
  t ++ List.replicate (k - t.length) 0

/-- The little-endian field of `k` bytes at `off`. -/
def leAt (bs : List Byte) (off k : Nat) : Nat := leNat (slice bs off k)

/-- The big-endian field of `k` bytes at `off`. -/
def beAt (bs : List Byte) (off k : Nat) : Nat := beNat (slice bs off k)

/-- Zero bytes up to a length. -/
def padTo (k : Nat) (bs : List Byte) : List Byte := bs ++ List.replicate (k - bs.length) 0

/-- One bit of the reflected CRC-32 register. -/
def crcBit (c : BitVec 32) : BitVec 32 :=
  if c.getLsbD 0 then (c >>> 1) ^^^ 0xEDB88320#32 else c >>> 1

/-- One byte of the reflected CRC-32. -/
def crcByte (c : BitVec 32) (b : Byte) : BitVec 32 :=
  let c := c ^^^ b.zeroExtend 32
  crcBit (crcBit (crcBit (crcBit (crcBit (crcBit (crcBit (crcBit c)))))))

/-- The CRC-32 of a byte string: reflected, initial value and final inversion all ones (R170). -/
def crc32 (bs : List Byte) : BitVec 32 := ~~~ (bs.foldl crcByte 0xFFFFFFFF#32)

/-- Replace the `i`-th element of a list; the list unchanged beyond its end. -/
def setAt {α : Type} (l : List α) (i : Nat) (x : α) : List α := l.set i x

/-- Apply a function to the `i`-th element of a list. -/
def modAt {α : Type} (l : List α) (i : Nat) (f : α → α) : List α := l.modify i f

/-- The indices `0 … n-1` where a predicate holds, ascending. -/
def idxs (n : Nat) (p : Nat → Bool) : List Nat := (List.range n).filter p

/-- Whether a sparse store is in canonical form: keys strictly rising and no entry equal to what an unlisted key reads as. -/
def Sparse.wf {w : Nat} (d : Nat → BitVec w) : List (Nat × BitVec w) → Bool
  | [] => true
  | [(k, v)] => v != d k
  | (k, v) :: (k', v') :: r => v != d k && k < k' && Sparse.wf d ((k', v') :: r)

/-- What a sparse store reads at a key: its entry, or the value of an unlisted key. -/
def Sparse.get {w : Nat} (d : Nat → BitVec w) : List (Nat × BitVec w) → Nat → BitVec w
  | [], k => d k
  | (a, v) :: r, k => if a = k then v else Sparse.get d r k

/-- A sparse store with one key written, in canonical form: writing the value of an unlisted key removes the entry. -/
def Sparse.set {w : Nat} (d : Nat → BitVec w) : List (Nat × BitVec w) → Nat → BitVec w → List (Nat × BitVec w)
  | [], k, v => if v = d k then [] else [(k, v)]
  | (a, x) :: r, k, v =>
    if a < k then (a, x) :: Sparse.set d r k v
    else if a = k then (if v = d k then r else (k, v) :: r)
    else (if v = d k then (a, x) :: r else (k, v) :: (a, x) :: r)

/-- Write a run of values at rising keys. -/
def Sparse.setList {w : Nat} (d : Nat → BitVec w) (m : List (Nat × BitVec w)) (k : Nat) : List (BitVec w) → List (Nat × BitVec w)
  | [] => m
  | v :: vs => Sparse.setList d (Sparse.set d m k v) (k + 1) vs

/-- Read a run of `n` values at rising keys. -/
def Sparse.getList {w : Nat} (d : Nat → BitVec w) (m : List (Nat × BitVec w)) (k : Nat) : Nat → List (BitVec w)
  | 0 => []
  | n + 1 => Sparse.get d m k :: Sparse.getList d m (k + 1) n

/-- A rate and width that the host port supports (Table 9.1): ×1, ×2, ×4, ×8 or ×16, and 64 GT/s in FLIT mode only. -/
def linkOk (speed width : Nat) (flit : Bool) : Bool :=
  1 ≤ speed && speed ≤ 6 && [1, 2, 4, 8, 16].contains width && (speed != 6 || flit)

end Sys2Proof.Machine
end

