-- ==== Sys2Proof/Machine/Crypto.lean ====
section
/-! DEFINITION. The cryptographic functions the security rules name (14_security.md): SHA-256 (FIPS 180-4), HMAC and the nonce of
RFC 6979, AES-256 (FIPS 197), CMAC (SP 800-38B), key unwrapping (RFC 3394), GCM (SP 800-38D), and P-256 with ECDSA (FIPS 186-5)
and ECDH. Byte strings are lists of bytes. -/

namespace Sys2Proof.Machine

/-- The first 64 primes, from which FIPS 180-4 takes its constants. -/
def shaPrimes : List Nat := (List.range 312).filter fun n => 2 ≤ n && (List.range 18).all fun d => d < 2 || n ≤ d || n % d != 0

/-- The first 32 bits of the fractional part of the `k`-th root of `p`, bit by bit from 2^37 down. -/
def rootBits (k p : Nat) : BitVec 32 :=
  BitVec.ofNat 32 ((List.range 38).foldl (fun r i => if (r + 2 ^ (37 - i)) ^ k ≤ p * 2 ^ (32 * k) then r + 2 ^ (37 - i) else r) 0)

/-- The eight words that SHA-256 carries from round to round and from block to block. -/
structure ShaWords where
  a : BitVec 32
  b : BitVec 32
  c : BitVec 32
  d : BitVec 32
  e : BitVec 32
  f : BitVec 32
  g : BitVec 32
  h : BitVec 32
  deriving DecidableEq, Repr

def ShaWords.ofList (l : List (BitVec 32)) : ShaWords :=
  ⟨l.getD 0 0, l.getD 1 0, l.getD 2 0, l.getD 3 0, l.getD 4 0, l.getD 5 0, l.getD 6 0, l.getD 7 0⟩

def ShaWords.toList (v : ShaWords) : List (BitVec 32) := [v.a, v.b, v.c, v.d, v.e, v.f, v.g, v.h]

/-- The initial hash value: from the square roots of the first eight primes. -/
def shaStart : ShaWords := ShaWords.ofList ((shaPrimes.take 8).map (rootBits 2))

/-- A word turned by three amounts and combined; `shr` combines two turns and a shift. -/
def spin (x : BitVec 32) (i j k : Nat) : BitVec 32 := x.rotateRight i ^^^ x.rotateRight j ^^^ x.rotateRight k
def spinShr (x : BitVec 32) (i j k : Nat) : BitVec 32 := x.rotateRight i ^^^ x.rotateRight j ^^^ x >>> k

/-- One round with the sum of its constant and its message word. -/
def ShaWords.round (v : ShaWords) (x : BitVec 32) : ShaWords :=
  let up := x + v.h + spin v.e 6 11 25 + (v.g ^^^ (v.e &&& (v.f ^^^ v.g)))
  ⟨up + spin v.a 2 13 22 + ((v.a &&& (v.b ||| v.c)) ||| (v.b &&& v.c)), v.a, v.b, v.c, up + v.d, v.e, v.f, v.g⟩

/-- The rounds of the constants given, over a window of the next sixteen message words, oldest first, which each round moves on by one. -/
def shaRounds : List (BitVec 32) → List (BitVec 32) → ShaWords → ShaWords
  | [], _, v => v
  | k :: ks, w, v =>
    let next := spinShr (w.getD 14 0) 17 19 10 + w.getD 9 0 + spinShr (w.getD 1 0) 7 18 3 + w.getD 0 0
    shaRounds ks (w.tail ++ [next]) (v.round (k + w.getD 0 0))

/-- One block of 64 bytes: 64 rounds, their constants from the cube roots of the primes, added to the words before them. -/
def ShaWords.block (v : ShaWords) (bytes : List Byte) : ShaWords :=
  let w := (List.range 16).map fun i => BitVec.ofNat 32 (beAt bytes (4 * i) 4)
  ShaWords.ofList ((v.toList.zip (shaRounds (shaPrimes.map (rootBits 3)) w v).toList).map fun x => x.1 + x.2)

/-- A byte string cut into blocks of `k`, at most `n` of them. -/
def chunks {α : Type} : Nat → Nat → List α → List (List α)
  | 0, _, _ => []
  | n + 1, k, l => if l.isEmpty then [] else l.take k :: chunks n k (l.drop k)

/-- SHA-256. -/
def sha256 (m : List Byte) : List Byte :=
  let z := (119 - m.length % 64) % 64
  let p := m ++ [0x80] ++ List.replicate z 0 ++ beBytes 8 (8 * m.length)
  ((chunks (p.length / 64) 64 p).foldl ShaWords.block shaStart).toList.flatMap fun w => beBytes 4 w.toNat

/-- HMAC-SHA-256, the key at most 64 bytes. -/
def hmac (k m : List Byte) : List Byte :=
  let k := padTo 64 k
  sha256 ((k.map (· ^^^ 0x5c)) ++ sha256 ((k.map (· ^^^ 0x36)) ++ m))

/-- The S-box of AES. -/
def aesSA : List Nat :=
  [99, 124, 119, 123, 242, 107, 111, 197, 48, 1, 103, 43, 254, 215, 171, 118,
   202, 130, 201, 125, 250, 89, 71, 240, 173, 212, 162, 175, 156, 164, 114, 192,
   183, 253, 147, 38, 54, 63, 247, 204, 52, 165, 229, 241, 113, 216, 49, 21,
   4, 199, 35, 195, 24, 150, 5, 154, 7, 18, 128, 226, 235, 39, 178, 117,
   9, 131, 44, 26, 27, 110, 90, 160, 82, 59, 214, 179, 41, 227, 47, 132,
   83, 209, 0, 237, 32, 252, 177, 91, 106, 203, 190, 57, 74, 76, 88, 207,
   208, 239, 170, 251, 67, 77, 51, 133, 69, 249, 2, 127, 80, 60, 159, 168,
   81, 163, 64, 143, 146, 157, 56, 245, 188, 182, 218, 33, 16, 255, 243, 210]

def aesSB : List Nat :=
  [205, 12, 19, 236, 95, 151, 68, 23, 196, 167, 126, 61, 100, 93, 25, 115,
   96, 129, 79, 220, 34, 42, 144, 136, 70, 238, 184, 20, 222, 94, 11, 219,
   224, 50, 58, 10, 73, 6, 36, 92, 194, 211, 172, 98, 145, 149, 228, 121,
   231, 200, 55, 109, 141, 213, 78, 169, 108, 86, 244, 234, 101, 122, 174, 8,
   186, 120, 37, 46, 28, 166, 180, 198, 232, 221, 116, 31, 75, 189, 139, 138,
   112, 62, 181, 102, 72, 3, 246, 14, 97, 53, 87, 185, 134, 193, 29, 158,
   225, 248, 152, 17, 105, 217, 142, 148, 155, 30, 135, 233, 206, 85, 40, 223,
   140, 161, 137, 13, 191, 230, 66, 104, 65, 153, 45, 15, 176, 84, 187, 22]

def aesS : List Nat := aesSA ++ aesSB

/-- Its inverse. -/
def aesIA : List Nat :=
  [82, 9, 106, 213, 48, 54, 165, 56, 191, 64, 163, 158, 129, 243, 215, 251,
   124, 227, 57, 130, 155, 47, 255, 135, 52, 142, 67, 68, 196, 222, 233, 203,
   84, 123, 148, 50, 166, 194, 35, 61, 238, 76, 149, 11, 66, 250, 195, 78,
   8, 46, 161, 102, 40, 217, 36, 178, 118, 91, 162, 73, 109, 139, 209, 37,
   114, 248, 246, 100, 134, 104, 152, 22, 212, 164, 92, 204, 93, 101, 182, 146,
   108, 112, 72, 80, 253, 237, 185, 218, 94, 21, 70, 87, 167, 141, 157, 132,
   144, 216, 171, 0, 140, 188, 211, 10, 247, 228, 88, 5, 184, 179, 69, 6,
   208, 44, 30, 143, 202, 63, 15, 2, 193, 175, 189, 3, 1, 19, 138, 107]

def aesIB : List Nat :=
  [58, 145, 17, 65, 79, 103, 220, 234, 151, 242, 207, 206, 240, 180, 230, 115,
   150, 172, 116, 34, 231, 173, 53, 133, 226, 249, 55, 232, 28, 117, 223, 110,
   71, 241, 26, 113, 29, 41, 197, 137, 111, 183, 98, 14, 170, 24, 190, 27,
   252, 86, 62, 75, 198, 210, 121, 32, 154, 219, 192, 254, 120, 205, 90, 244,
   31, 221, 168, 51, 136, 7, 199, 49, 177, 18, 16, 89, 39, 128, 236, 95,
   96, 81, 127, 169, 25, 181, 74, 13, 45, 229, 122, 159, 147, 201, 156, 239,
   160, 224, 59, 77, 174, 42, 245, 176, 200, 235, 187, 60, 131, 83, 153, 97,
   23, 43, 4, 126, 186, 119, 214, 38, 225, 105, 20, 99, 85, 33, 12, 125]

def aesI : List Nat := aesIA ++ aesIB

/-- Multiplication by x and in the field of AES. -/
def xtime (a : Nat) : Nat := if 128 ≤ a then (2 * a - 256) ^^^ 27 else 2 * a

def gfMul : Nat → Nat → Nat → Nat
  | 0, _, _ => 0
  | n + 1, a, b => (if b % 2 == 1 then a else 0) ^^^ gfMul n (xtime a) (b / 2)

/-- Bytes exclusive-ored. -/
def xorN (a b : List Nat) : List Nat := a.zipWith (· ^^^ ·) b

def subBytes (l : List Nat) : List Nat := l.map fun x => aesS.getD x 0

/-- The key schedule of AES-256: words newest first, from 8 up to 60. -/
def aesExpand : Nat → List (List Nat) → Nat → List (List Nat)
  | 0, w, _ => w
  | n + 1, w, i =>
    let t := w.headD []
    let t := if i % 8 == 0 then xorN (subBytes (t.drop 1 ++ t.take 1)) [2 ^ (i / 8 - 1), 0, 0, 0]
      else if i % 8 == 4 then subBytes t else t
    aesExpand n (xorN (w.getD 7 []) t :: w) (i + 1)

/-- The 15 round keys of a 32-byte key. -/
def aesKeys (key : List Byte) : List (List Nat) :=
  let w := chunks 8 4 (key.map (·.toNat))
  (chunks 15 4 (aesExpand 52 w.reverse 8).reverse).map List.flatten

/-- ShiftRows and its inverse on a column-major state. -/
def shiftRows (s : List Nat) : List Nat := (List.range 16).map fun i => s.getD ((i + 4 * (i % 4)) % 16) 0
def unshiftRows (s : List Nat) : List Nat := (List.range 16).map fun i => s.getD ((i + 12 * (i % 4)) % 16) 0

/-- A column times a circulant row. -/
def mixCol (m : List Nat) (c : List Nat) : List Nat :=
  (List.range 4).map fun i => ((List.range 4).map fun j => gfMul 8 (c.getD j 0) (m.getD ((j + 4 - i) % 4) 0)).foldl (· ^^^ ·) 0

def mixCols (m s : List Nat) : List Nat := ((chunks 4 4 s).map (mixCol m)).flatten

/-- AES-256 of one block under round keys. -/
def aesEnc (ks : List (List Nat)) (b : List Nat) : List Nat :=
  let s := ((ks.drop 1).take 13).foldl (fun s k => xorN (mixCols [2, 3, 1, 1] (shiftRows (subBytes s))) k) (xorN b (ks.headD []))
  xorN (shiftRows (subBytes s)) (ks.getD 14 [])

/-- The inverse of AES-256 on one block. -/
def aesDec (ks : List (List Nat)) (b : List Nat) : List Nat :=
  let inv := fun s => (unshiftRows s).map fun x => aesI.getD x 0
  let s := (((ks.drop 1).take 13).reverse).foldl (fun s k => mixCols [14, 11, 13, 9] (xorN (inv s) k)) (xorN b (ks.getD 14 []))
  xorN (inv s) (ks.headD [])

/-- Bytes of numbers. -/
def toBytes (l : List Nat) : List Byte := l.map (BitVec.ofNat 8)
def natBe (l : List Nat) : Nat := l.foldl (fun a x => 256 * a + x) 0
def beNats (k n : Nat) : List Nat := (beBytes k n).map (·.toNat)

/-- The doubled subkey of CMAC. -/
def cmacDbl (n : Nat) : Nat := if 2 ^ 127 ≤ n then (2 * n - 2 ^ 128) ^^^ 0x87 else 2 * n

/-- AES-256 CMAC. -/
def cmac (key m : List Byte) : List Byte :=
  let ks := aesKeys key
  let k1 := cmacDbl (natBe (aesEnc ks (List.replicate 16 0)))
  let bs := chunks (m.length / 16 + 1) 16 (m.map (·.toNat))
  let last := bs.getLastD []
  let fin := if last.length == 16 then xorN last (beNats 16 k1)
    else xorN (last ++ [0x80] ++ List.replicate (15 - last.length) 0) (beNats 16 (cmacDbl k1))
  toBytes (((bs.dropLast ++ [fin])).foldl (fun x b => aesEnc ks (xorN x b)) (List.replicate 16 0))

/-- One inner step of the key unwrap of RFC 3394: A and R[i] under the step's counter. -/
def unwrapStep (ks : List (List Nat)) (s : List Nat × List (List Nat)) (ji : Nat × Nat) : List Nat × List (List Nat) :=
  let (a, r) := s
  let n := r.length
  let t := n * ji.1 + ji.2
  let b := aesDec ks (xorN a (beNats 8 t) ++ r.getD (ji.2 - 1) [])
  (b.take 8, setAt r (ji.2 - 1) (b.drop 8))

/-- The key unwrap of RFC 3394; none when its integrity check fails. -/
def keyUnwrap (kek c : List Byte) : Option (List Byte) :=
  let ks := aesKeys kek
  let bs := chunks (c.length / 8) 8 (c.map (·.toNat))
  let n := bs.length - 1
  let steps := (List.range 6).reverse.flatMap fun j => (List.range n).reverse.map fun i => (j, i + 1)
  let (a, r) := steps.foldl (unwrapStep ks) (bs.headD [], bs.drop 1)
  if a == List.replicate 8 0xA6 then some (toBytes r.flatten) else none

/-- Multiplication in the field of GHASH. -/
def ghMul : Nat → Nat → Nat → Nat → Nat
  | 0, _, _, z => z
  | n + 1, x, v, z =>
    let z := if nbit x n then z ^^^ v else z
    ghMul n x (if v % 2 == 1 then (v / 2) ^^^ (0xe1 <<< 120) else v / 2) z

/-- GHASH of a byte string whose length is a multiple of 16. -/
def ghash (h : Nat) (m : List Nat) : Nat :=
  (chunks (m.length / 16 + 1) 16 m).foldl (fun y b => ghMul 128 (y ^^^ natBe b) h 0) 0

/-- Zeros up to a multiple of 16. -/
def pad16 (l : List Nat) : List Nat := l ++ List.replicate ((16 - l.length % 16) % 16) 0

/-- The counter stream of GCM exclusive-ored onto a text, from counter 2 on. -/
def gcmCtr (ks : List (List Nat)) (iv : List Nat) : List (List Nat) → Nat → List Nat
  | [], _ => []
  | b :: bs, c => xorN b (aesEnc ks (iv ++ beNats 4 c)) ++ gcmCtr ks iv bs (c + 1)

/-- The tag of GCM over additional data and a ciphertext. -/
def gcmTag (ks : List (List Nat)) (iv aad c : List Nat) : List Byte :=
  let h := natBe (aesEnc ks (List.replicate 16 0))
  let g := ghash h (pad16 aad ++ pad16 c ++ beNats 8 (8 * aad.length) ++ beNats 8 (8 * c.length))
  toBytes (xorN (beNats 16 g) (aesEnc ks (iv ++ [0, 0, 0, 1])))

/-- GCM-AES-256 encryption with a 12-byte nonce: the ciphertext and its 16-byte tag. -/
def gcmSeal (key iv aad p : List Byte) : List Byte × List Byte :=
  let ks := aesKeys key
  let n := fun (l : List Byte) => l.map (·.toNat)
  let c := gcmCtr ks (n iv) (chunks (p.length / 16 + 1) 16 (n p)) 2
  (toBytes c, gcmTag ks (n iv) (n aad) c)

/-- GCM-AES-256 decryption; none when the tag differs. -/
def gcmOpen (key iv aad c tag : List Byte) : Option (List Byte) :=
  let ks := aesKeys key
  let n := fun (l : List Byte) => l.map (·.toNat)
  if gcmTag ks (n iv) (n aad) (n c) == tag then
    some (toBytes (gcmCtr ks (n iv) (chunks (c.length / 16 + 1) 16 (n c)) 2))
  else none

/-- The prime, the order, the coefficient b and the base point of P-256. -/
def p256P : Nat := 0xffffffff00000001000000000000000000000000ffffffffffffffffffffffff
def p256N : Nat := 0xffffffff00000000ffffffffffffffffbce6faada7179e84f3b9cac2fc632551
def p256B : Nat := 0x5ac635d8aa3a93e7b3ebbd55769886bc651d06b0cc53b0f63bce3c3e27d2604b
def p256Gx : Nat := 0x6b17d1f2e12c4247f8bce6e563a440f277037d812deb33a0f4a13945d898c296
def p256Gy : Nat := 0x4fe342e2fe1a7f9b8ee7eb4a7c0f9e162bce33576b315ececbb6406837bf51f5

/-- A power modulo `m` by the exponent's bits from bit `n − 1` down. -/
def powMod (m a e : Nat) : Nat → Nat → Nat
  | 0, r => r
  | n + 1, r => powMod m a e n (let q := r * r % m; if nbit e n then q * a % m else q)

/-- The inverse modulo an odd prime. -/
def invMod (m a : Nat) : Nat := powMod m a (m - 2) 256 1

/-- A point in Jacobian coordinates; Z = 0 is the point at infinity. -/
structure JPoint where
  x : Nat
  y : Nat
  z : Nat
  deriving DecidableEq, Repr

/-- A difference modulo p. -/
def subP (a b : Nat) : Nat := (a + p256P - b) % p256P

/-- A point doubled. -/
def JPoint.dbl (a : JPoint) : JPoint :=
  if a.z == 0 || a.y == 0 then ⟨1, 1, 0⟩ else
  let p := p256P
  let yy := a.y * a.y % p
  let s := 4 * a.x * yy % p
  let zz := a.z * a.z % p
  let m := 3 * subP a.x zz * (a.x + zz) % p
  let x := subP (m * m % p) (2 * s % p)
  ⟨x, subP (m * subP s x % p) (8 * yy * yy % p), 2 * a.y * a.z % p⟩

/-- Two points added. -/
def JPoint.add (a b : JPoint) : JPoint :=
  if a.z == 0 then b else if b.z == 0 then a else
  let p := p256P
  let z1 := a.z * a.z % p
  let z2 := b.z * b.z % p
  let u1 := a.x * z2 % p
  let u2 := b.x * z1 % p
  let s1 := a.y * b.z % p * z2 % p
  let s2 := b.y * a.z % p * z1 % p
  if u1 == u2 then (if s1 == s2 then a.dbl else ⟨1, 1, 0⟩) else
  let h := subP u2 u1
  let r := subP s2 s1
  let hh := h * h % p
  let hhh := h * hh % p
  let v := u1 * hh % p
  let x := subP (subP (r * r % p) hhh) (2 * v % p)
  ⟨x, subP (r * subP v x % p) (s1 * hhh % p), a.z * b.z % p * h % p⟩

/-- A point multiplied by the low `n` bits of a number, from the top. -/
def JPoint.mul (g : JPoint) (k : Nat) : Nat → JPoint → JPoint
  | 0, r => r
  | n + 1, r => JPoint.mul g k n (if nbit k n then r.dbl.add g else r.dbl)

def JPoint.times (g : JPoint) (k : Nat) : JPoint := g.mul k 256 ⟨1, 1, 0⟩

/-- Affine coordinates; none for the point at infinity. -/
def JPoint.affine (a : JPoint) : Option (Nat × Nat) :=
  if a.z == 0 then none else
  let i := invMod p256P a.z
  let ii := i * i % p256P
  some (a.x * ii % p256P, a.y * ii % p256P * i % p256P)

def p256G : JPoint := ⟨p256Gx, p256Gy, 1⟩

/-- The point checks of R355: coordinates below p, on the curve, not the point at infinity. -/
def pointOk (x y : Nat) : Bool :=
  x < p256P && y < p256P && y * y % p256P == (x * x % p256P * x + (p256P - 3) * x + p256B) % p256P

/-- The X coordinate's number of a 64-byte public key, with Y. -/
def keyXY (k : List Byte) : Nat × Nat := (beAt k 0 32, beAt k 32 32)

/-- ECDSA verification over P-256 with SHA-256 (R355): public key X then Y, signature r then s. -/
def ecdsaOk (key sig m : List Byte) : Bool :=
  let (x, y) := keyXY key
  let r := beAt sig 0 32
  let s := beAt sig 32 32
  if !(pointOk x y) || r == 0 || p256N ≤ r || s == 0 || p256N ≤ s then false else
  let e := beNat (sha256 m)
  let w := invMod p256N s
  let q := (p256G.times (e * w % p256N)).add ((JPoint.mk x y 1).times (r * w % p256N))
  match q.affine with
  | none => false
  | some (x, _) => x % p256N == r

/-- The candidates for a nonce of RFC 6979 from K and V, at most `n`. -/
def rfcNonce : Nat → List Byte → List Byte → Option Nat
  | 0, _, _ => none
  | n + 1, k, v =>
    let v := hmac k v
    let t := beNat v
    if 1 ≤ t && t < p256N then some t
    else
      let k := hmac k (v ++ [0])
      rfcNonce n k (hmac k v)

/-- ECDSA with the deterministic nonce of RFC 6979: r then s. -/
def ecdsaSign (d : Nat) (m : List Byte) : List Byte :=
  let e := beNat (sha256 m)
  let x := beBytes 32 d ++ beBytes 32 (e % p256N)
  let v := List.replicate 32 (1 : Byte)
  let k := hmac (List.replicate 32 0) (v ++ [0] ++ x)
  let v := hmac k v
  let k := hmac k (v ++ [1] ++ x)
  let v := hmac k v
  match rfcNonce 8 k v with
  | none => List.replicate 64 0
  | some t =>
    match (p256G.times t).affine with
    | none => List.replicate 64 0
    | some (x, _) =>
      let r := x % p256N
      beBytes 32 r ++ beBytes 32 (invMod p256N t * (e + r * d) % p256N)

/-- The x-coordinate of d × E as 32 bytes (R362); none when E fails the point checks. -/
def ecdhZ (d : Nat) (e : List Byte) : Option (List Byte) :=
  let (x, y) := keyXY e
  if !(pointOk x y) then none else
  ((JPoint.mk x y 1).times d).affine.map fun q => beBytes 32 q.1

/-- The public key of a private key, X then Y. -/
def pubOf (d : Nat) : List Byte :=
  match (p256G.times d).affine with
  | some (x, y) => beBytes 32 x ++ beBytes 32 y
  | none => List.replicate 64 0

end Sys2Proof.Machine
end

