-- ==== Sys2Proof/Machine/Codes.lean ====
section
/-! DEFINITION. Event codes (R372): the high byte is the block's number of Table 15.1, the low byte the event's ordinal in the order
in which its chapter names its events; and fault kinds (Table 16.2, 17.5 and the housekeeping kinds). -/

namespace Sys2Proof.Machine

namespace Ev

def cueTaken : Nat := 0x0200
def cueRefused : Nat := 0x0201
def cueSuperseded : Nat := 0x0202
def fadeCutShort : Nat := 0x0203
def groupLate : Nat := 0x0204
def layerStale : Nat := 0x0205
def layerFrozen : Nat := 0x0206
def layerLive : Nat := 0x0207
def hsRetired : Nat := 0x0208
def lampOpen : Nat := 0x0300
def lampShorted : Nat := 0x0301
def lampRestored : Nat := 0x0302
def lampRecheckFailed : Nat := 0x0303
def entryInvalid : Nat := 0x0304
def tileTempStale : Nat := 0x0305
def corrSettingDefaulted : Nat := 0x0306
def planTaken : Nat := 0x0400
def planRefused : Nat := 0x0401
def planSuperseded : Nat := 0x0402
def tileDerated : Nat := 0x0403
def tileUnderated : Nat := 0x0404
def trimLimit : Nat := 0x0405
def probeNoRoom : Nat := 0x0406
def viewUnderrun : Nat := 0x0407
def sendUnderrun : Nat := 0x0408
def lateSegment : Nat := 0x0409
def trimSensorDark : Nat := 0x040A
def portDown : Nat := 0x0500
def laneLockLost : Nat := 0x0501
def laneMarginal : Nat := 0x0502
def calInvalid : Nat := 0x0503
def calPostponed : Nat := 0x0504
def laneDegraded : Nat := 0x0505
def laneFirDefaulted : Nat := 0x0506
def censusDone : Nat := 0x0600
def tileRefused : Nat := 0x0601
def calibRejected : Nat := 0x0602
def tileLinkState : Nat := 0x0603
def ageUnacked : Nat := 0x0604
def batonGranted : Nat := 0x0605
def ethLinkDown : Nat := 0x0700
def ethLinkUp : Nat := 0x0701
def ethModeInvalid : Nat := 0x0702
def ethMacsecAbsent : Nat := 0x0703
def flowInvalid : Nat := 0x0704
def flowRestart : Nat := 0x0705
def flowPathDown : Nat := 0x0706
def flowPathUp : Nat := 0x0707
def flowNoBuffer : Nat := 0x0708
def igmpOldQuerier : Nat := 0x0709
def cueDgRejected : Nat := 0x070A
def tbStepped : Nat := 0x0800
def tbSourceChange : Nat := 0x0801
def tbHoldover : Nat := 0x0802
def tbOffsetLarge : Nat := 0x0803
def restepCancelled : Nat := 0x0804
def ptpMasterChange : Nat := 0x0805
def laprefMismatch : Nat := 0x0806
def tbIncrDefaulted : Nat := 0x0807
def memHot : Nat := 0x0A00
def memCool : Nat := 0x0A01
def memLaneRepaired : Nat := 0x0A02
def memTrainFailed : Nat := 0x0A03
def memTrimPostponed : Nat := 0x0A04
def memTrimInvalid : Nat := 0x0A05
def memLaneWeak : Nat := 0x0A06
def memReplayFailed : Nat := 0x0A07
def memSettingDefaulted : Nat := 0x0A08
def hurdleChanged : Nat := 0x0B00
def hurdleInForceUnusable : Nat := 0x0B01
def pacerSurge : Nat := 0x0B02
def pacerVcoreMismatch : Nat := 0x0B03
def fabricSlow : Nat := 0x0B04
def fabricStall : Nat := 0x0B05
def elasticLoss : Nat := 0x0B06
def sbStage : Nat := 0x0C00
def slotFallback : Nat := 0x0C01
def warmupSource : Nat := 0x0C02
def fullServiceRefused : Nat := 0x0C03
def limpEntered : Nat := 0x0C04
def evtHostDropped : Nat := 0x0F00
def evtCoreOverflow : Nat := 0x0F01
def evtRedirectBegan : Nat := 0x0F02
def faultRaised : Nat := 0x1000
def faultCleared : Nat := 0x1001
def faultClearRefused : Nat := 0x1002
def holdEntered : Nat := 0x1003
def holdDark : Nat := 0x1004
def holdLeft : Nat := 0x1005
def unitStopped : Nat := 0x1006
def unitStarted : Nat := 0x1007
def relayRole : Nat := 0x1100
def relayPartnerLost : Nat := 0x1101
def relayLinkDown : Nat := 0x1102
def relayLinkUp : Nat := 0x1103
def relaySigMismatch : Nat := 0x1104
def relayConfigMismatch : Nat := 0x1105
def relayPortUnpaired : Nat := 0x1106
def relaySplit : Nat := 0x1107
def relayMended : Nat := 0x1108
def relayHandoverFailed : Nat := 0x1109
def relayTakeover : Nat := 0x110A
def hostLinkSlow : Nat := 0x0900
def hsPullFailed : Nat := 0x0901
def stageDone : Nat := 0x0902
def stageFailed : Nat := 0x0903
def cfgOptionalIgnored : Nat := 0x0D00
def tileUnplaced : Nat := 0x0D01
def schedSkipped : Nat := 0x0D02
def trialReverted : Nat := 0x0D03
def journalLost : Nat := 0x0D04
def nvmReerased : Nat := 0x0D05
def secFuseBlowFailed : Nat := 0x0E00
def secKeyInvalid : Nat := 0x0E01
def debugUnlocked : Nat := 0x0E02
def debugRefused : Nat := 0x0E03
def secSelftestFailed : Nat := 0x0E04
def secZeroised : Nat := 0x0E05
def hkSensorBroken : Nat := 0x1200
def hkLevel : Nat := 0x1201
def fabricMarginLow : Nat := 0x1202

end Ev

/-- The unit source of an event's block (Table 15.1). -/
def unitSrc (code : Nat) : Nat := 242 + code / 256

/-- The source of an event: the instance of Table 15.2 that its first item names, a chain port, a pseudo-channel or a stack, else the unit
source of its block (R373). Events that name a view, a flow, a surface or a sub-port are raised with that source. -/
def evSrc (code : Nat) (items : List Nat) : Nat :=
  let i := items.headD 0
  if code / 256 == 0x05 || code / 256 == 0x06 || [Ev.sendUnderrun, Ev.lateSegment, Ev.tileUnplaced, Ev.relaySigMismatch, Ev.relayPortUnpaired,
      Ev.relaySplit, Ev.relayMended].contains code then i
  else if [Ev.memLaneRepaired, Ev.memTrainFailed, Ev.memTrimPostponed, Ev.memTrimInvalid, Ev.memLaneWeak, Ev.memReplayFailed].contains code then 112 + i
  else if [Ev.memHot, Ev.memCool].contains code then 240 + i
  else unitSrc code

namespace Fk

def tileRefused : Nat := 0x01
def calibRejected : Nat := 0x02
def tileUnplaced : Nat := 0x03
def lampOpen : Nat := 0x04
def lampShorted : Nat := 0x05
def laneDegraded : Nat := 0x06
def portStuck : Nat := 0x07
def fullServiceRefused : Nat := 0x08
def slotFallback : Nat := 0x09
def memPcLost : Nat := 0x0A
def memUe : Nat := 0x0B
def pacerVcoreMismatch : Nat := 0x0C
def fabricSlow : Nat := 0x0D
def fabricStall : Nat := 0x0E
def nvmWriteFailed : Nat := 0x0F
def secFuseBlowFailed : Nat := 0x10
def secSelftestFailed : Nat := 0x11
def macsecPnBlock : Nat := 0x12
def coreBusError : Nat := 0x13
def coreLost : Nat := 0x14
def hostHold : Nat := 0x15
def hkShutdown : Nat := 0x40
def hkDieChannels : Nat := 0x41
def hkSensorBroken : Nat := 0x42
def hkHot : Nat := 0x43
def hkHold : Nat := 0x44
def hkStackHot : Nat := 0x45
def hkStackShutdown : Nat := 0x46
def hkStackUnread : Nat := 0x47
def hkFeedRange : Nat := 0x48
def hkSupplyRange : Nat := 0x49
def relayPartnerLost : Nat := 0x60
def relayLinkDown : Nat := 0x61
def relaySigMismatch : Nat := 0x62
def relayConfigMismatch : Nat := 0x63
def relayPortUnpaired : Nat := 0x64
def relaySplit : Nat := 0x65
def relayHandoverFailed : Nat := 0x66

end Fk

end Sys2Proof.Machine
end

