-- ==== Sys2Proof/Machine/RegMap.lean ====
section
/-! DEFINITION. The BAR0 register map (20_register_map.md, Table 20.5, and the field tables of every chapter): one row per
register family with its offset, its index ranges, the masks of its fields by access code (R11) and the reset value of its
stored fields; the name of every register's offset; and the registers absent on a variant (R455). -/

namespace Sys2Proof.Machine

/-- One register family of Table 20.5. `d1`/`n1` and `d2`/`n2` are the spacing and count of its first and second index
(count 1 where there is none); the masks gather its fields of each access code (R11). -/
structure RegRow where
  name : String
  base : Nat
  d1   : Nat
  n1   : Nat
  d2   : Nat
  n2   : Nat
  rws  : Nat
  rw   : Nat
  w1c  : Nat
  wo   : Nat
  rst  : Nat
  deriving DecidableEq, Repr

/-- Whether `off` is an offset of the row (R450: an index beyond its range names no register). -/
def RegRow.covers (r : RegRow) (off : Nat) : Bool :=
  if off < r.base then false else
  let x := off - r.base
  if r.n1 ≤ 1 then x == 0 else
  let i := x / r.d1
  let y := x % r.d1
  if r.n2 ≤ 1 then i < r.n1 && y == 0
  else i < r.n1 && y / r.d2 < r.n2 && y % r.d2 == 0

namespace Reg

def cueScene : Nat := 0x01000000
def cueSplitLo : Nat := 0x01000004
def cueSplitHi : Nat := 0x01000008
def cueGo : Nat := 0x0100000C
def cueStatus : Nat := 0x01000010
def cueRefusal : Nat := 0x01000014
def cueRefusedCount : Nat := 0x01000018
def sceneUsableLo : Nat := 0x01000020
def sceneUsableHi : Nat := 0x01000024
def sceneQuery : Nat := 0x01000028
def hsFenceLo (i : Nat) : Nat := 0x01001000 + 0x10 * i
def hsFenceHi (i : Nat) : Nat := 0x01001004 + 0x10 * i
def hsFenceRegress (i : Nat) : Nat := 0x01001008 + 0x10 * i
def viewLayers (i : Nat) : Nat := 0x01002000 + 0x100 * i
def viewHealth (i : Nat) : Nat := 0x01002004 + 0x100 * i
def viewGroups (i : Nat) : Nat := 0x01002008 + 0x100 * i
def canvasBase (i : Nat) : Nat := 0x01002010 + 0x100 * i
def canvasPitch (i : Nat) : Nat := 0x01002014 + 0x100 * i
def lampTableBase : Nat := 0x01400000
def lampCount : Nat := 0x01400004
def corrTol : Nat := 0x01400008
def boostMax : Nat := 0x0140000C
def lampRecheck : Nat := 0x01400010
def recheckStatus : Nat := 0x01400014
def openCount : Nat := 0x01400018
def shortedCount : Nat := 0x0140001C
def retiredCount : Nat := 0x01400020
def offCount : Nat := 0x01400024
def clipCount : Nat := 0x01400028
def boostCapCount : Nat := 0x0140002C
def recheckRefused : Nat := 0x01400030
def censusEntryErrors : Nat := 0x01400034
def corrBlockedWrites : Nat := 0x01400038
def segSent : Nat := 0x01400040
def segForced : Nat := 0x01400044
def refreshAgeMax : Nat := 0x01400048
def lampWatch : Nat := 0x01400050
def lampWatchTarget : Nat := 0x01400054
def lampWatchSeq : Nat := 0x01400058
def tileTemp (i : Nat) : Nat := 0x01401000 + 0x4 * i
def planCue : Nat := 0x01800000
def planSplitLo : Nat := 0x01800004
def planSplitHi : Nat := 0x01800008
def planStatus : Nat := 0x0180000C
def planBoundaryLo : Nat := 0x01800010
def planBoundaryHi : Nat := 0x01800014
def planUsable : Nat := 0x01800018
def planRefusal : Nat := 0x0180001C
def planReason (i : Nat) : Nat := 0x01800020 + 0x4 * i
def legStatus : Nat := 0x01800040
def legSeq : Nat := 0x01800044
def lapNumber : Nat := 0x01800048
def pinCtrl : Nat := 0x01800060
def pinOffset : Nat := 0x01800064
def probeCtrl : Nat := 0x01800080
def probeStatus : Nat := 0x01800084
def probeDue : Nat := 0x01800088
def probesIssued : Nat := 0x0180008C
def probeNoResult : Nat := 0x01800090
def underrunCount : Nat := 0x018000A0
def lateSegmentCount : Nat := 0x018000A4
def derateClipCount : Nat := 0x018000A8
def tileDrive (i : Nat) : Nat := 0x01801000 + 0x10 * i
def tileTrimRg (i : Nat) : Nat := 0x01801004 + 0x10 * i
def tileTrimB (i : Nat) : Nat := 0x01801008 + 0x10 * i
def portCfg (i : Nat) : Nat := 0x01C00000 + 0x10000 * i
def txFir (i j : Nat) : Nat := 0x01C00010 + 0x10000 * i + 0x4 * j
def calCfg (i : Nat) : Nat := 0x01C00020 + 0x10000 * i
def portStatus (i : Nat) : Nat := 0x01C00100 + 0x10000 * i
def upTrim (i : Nat) : Nat := 0x01C00104 + 0x10000 * i
def calResult (i j : Nat) : Nat := 0x01C00400 + 0x10000 * i + 0x20 * j
def upLockLoss (i : Nat) : Nat := 0x01C00200 + 0x10000 * i
def upBipErrors (i : Nat) : Nat := 0x01C00204 + 0x10000 * i
def upBadBlocks (i : Nat) : Nat := 0x01C00208 + 0x10000 * i
def upFrameAborts (i : Nat) : Nat := 0x01C0020C + 0x10000 * i
def idleExits (i : Nat) : Nat := 0x01C00210 + 0x10000 * i
def calInvalidCount (i : Nat) : Nat := 0x01C00214 + 0x10000 * i
def calPostponedCount (i : Nat) : Nat := 0x01C00218 + 0x10000 * i
def censusStatus (i : Nat) : Nat := 0x01C00800 + 0x10000 * i
def upCrcErrors (i : Nat) : Nat := 0x01C00220 + 0x10000 * i
def upSeqGaps (i : Nat) : Nat := 0x01C00224 + 0x10000 * i
def upSeqRejects (i : Nat) : Nat := 0x01C00228 + 0x10000 * i
def ageUnackedCount (i : Nat) : Nat := 0x01C0022C + 0x10000 * i
def censusRetries (i : Nat) : Nat := 0x01C00230 + 0x10000 * i
def tileIdLo (i j : Nat) : Nat := 0x01C01000 + 0x10000 * i + 0x20 * j
def tileIdHi (i j : Nat) : Nat := 0x01C01004 + 0x10000 * i + 0x20 * j
def tileInfo (i j : Nat) : Nat := 0x01C01008 + 0x10000 * i + 0x20 * j
def tileLamps (i j : Nat) : Nat := 0x01C0100C + 0x10000 * i + 0x20 * j
def tileBase (i j : Nat) : Nat := 0x01C01010 + 0x10000 * i + 0x20 * j
def tileDelay (i j : Nat) : Nat := 0x01C01014 + 0x10000 * i + 0x20 * j
def ethCfg (i : Nat) : Nat := 0x00800000 + 0x100 * i
def ethMacLo (i : Nat) : Nat := 0x00800004 + 0x100 * i
def ethMacHi (i : Nat) : Nat := 0x00800008 + 0x100 * i
def ethIp (i j : Nat) : Nat := 0x00800010 + 0x100 * i + 0x4 * j
def ethStatus (i : Nat) : Nat := 0x00800020 + 0x100 * i
def fecCorrected (i : Nat) : Nat := 0x00800040 + 0x100 * i
def fecUncorrected (i : Nat) : Nat := 0x00800044 + 0x100 * i
def rxDiscards (i : Nat) : Nat := 0x00800048 + 0x100 * i
def macsecDiscards (i : Nat) : Nat := 0x0080004C + 0x100 * i
def flowStatus (i : Nat) : Nat := 0x00804000 + 0x40 * i
def flowFrames (i : Nat) : Nat := 0x00804004 + 0x40 * i
def flowLost (i : Nat) : Nat := 0x00804008 + 0x40 * i
def flowLostPri (i : Nat) : Nat := 0x0080400C + 0x40 * i
def flowLostSec (i : Nat) : Nat := 0x00804010 + 0x40 * i
def flowConcealed (i : Nat) : Nat := 0x00804014 + 0x40 * i
def flowDropped (i : Nat) : Nat := 0x00804018 + 0x40 * i
def flowBad (i : Nat) : Nat := 0x0080401C + 0x40 * i
def flowRtpTs (i : Nat) : Nat := 0x00804020 + 0x40 * i
def flowPd (i : Nat) : Nat := 0x00804024 + 0x40 * i
def cueDgCfg : Nat := 0x00808000
def cueDgGroup : Nat := 0x00808004
def cueDgAccepted : Nat := 0x00808010
def cueDgMalformed : Nat := 0x00808014
def cueDgAuthFail : Nat := 0x00808018
def cueDgOther : Nat := 0x0080801C
def cueDgNoTime : Nat := 0x00808020
def cueDgStale : Nat := 0x00808024
def cueDgReplay : Nat := 0x00808028
def cueDgDup : Nat := 0x0080802C
def monCfg : Nat := 0x00809000
def monDst : Nat := 0x00809004
def monUdp : Nat := 0x00809008
def monPqRef : Nat := 0x0080900C
def monMatrix (i : Nat) : Nat := 0x00809020 + 0x4 * i
def monStatus : Nat := 0x00809010
def monFrames : Nat := 0x00809014
def monSkipped : Nat := 0x00809018
def tbCfg : Nat := 0x00600000
def tbIncrNomLo : Nat := 0x00600004
def tbIncrNomHi : Nat := 0x00600008
def tbIncrLo : Nat := 0x0060000C
def tbIncrHi : Nat := 0x00600010
def tbStatus : Nat := 0x00600020
def tbOffset : Nat := 0x00600024
def tbNowNs : Nat := 0x00600030
def tbNowSecLo : Nat := 0x00600034
def tbNowSecHi : Nat := 0x00600038
def tbNowFrac : Nat := 0x0060003C
def tbSplitLo : Nat := 0x00600040
def tbSplitHi : Nat := 0x00600044
def tbRestep : Nat := 0x00600050
def tbRestepAtLo : Nat := 0x00600054
def tbRestepAtHi : Nat := 0x00600058
def tbSwitches : Nat := 0x00600060
def restepRefused : Nat := 0x00600064
def laprefBad : Nat := 0x00600068
def ptpCfg (i : Nat) : Nat := 0x00600100 + 0x80 * i
def ptpStatus (i : Nat) : Nat := 0x00600104 + 0x80 * i
def ptpMasterIdLo (i : Nat) : Nat := 0x00600108 + 0x80 * i
def ptpMasterIdHi (i : Nat) : Nat := 0x0060010C + 0x80 * i
def ptpOffset (i : Nat) : Nat := 0x00600110 + 0x80 * i
def ptpDelay (i : Nat) : Nat := 0x00600114 + 0x80 * i
def ptpRate (i : Nat) : Nat := 0x00600118 + 0x80 * i
def syncMissed (i : Nat) : Nat := 0x00600120 + 0x80 * i
def announceTimeouts (i : Nat) : Nat := 0x00600124 + 0x80 * i
def masterChanges (i : Nat) : Nat := 0x00600128 + 0x80 * i
def badMessages (i : Nat) : Nat := 0x0060012C + 0x80 * i
def tsAdj (i : Nat) : Nat := 0x00600200 + 0x4 * i
def laprefStatus : Nat := 0x00600300
def hostStatus : Nat := 0x00C00000
def hostAttach : Nat := 0x00C00010
def hostRingBaseLo : Nat := 0x00C00014
def hostRingBaseHi : Nat := 0x00C00018
def hostIndexAddrLo : Nat := 0x00C00020
def hostIndexAddrHi : Nat := 0x00C00024
def hsTableBaseLo : Nat := 0x00C00028
def hsTableBaseHi : Nat := 0x00C0002C
def hostRingSize : Nat := 0x00C0001C
def hostBadAccess : Nat := 0x00C00040
def hostBar2Blocked : Nat := 0x00C00044
def hsPullFailed : Nat := 0x00C00048
def hsSlotWait : Nat := 0x00C0004C
def hsStatus (i : Nat) : Nat := 0x00C01000 + 0x10 * i
def stageListLo : Nat := 0x00C02000
def stageListHi : Nat := 0x00C02004
def stageEntries : Nat := 0x00C02008
def stageCtrl : Nat := 0x00C0200C
def stageStatus : Nat := 0x00C02010
def stageProgress : Nat := 0x00C02014
def memCfg : Nat := 0x02000000
def memStatus : Nat := 0x02000004
def stackStatus (i : Nat) : Nat := 0x02000100 + 0x20 * i
def stackDemand (i : Nat) : Nat := 0x02000104 + 0x20 * i
def stackCe (i : Nat) : Nat := 0x02000108 + 0x20 * i
def stackUe (i : Nat) : Nat := 0x0200010C + 0x20 * i
def stackRestEntries (i : Nat) : Nat := 0x02000110 + 0x20 * i
def stackRestAborts (i : Nat) : Nat := 0x02000114 + 0x20 * i
def stackSteps (i : Nat) : Nat := 0x02000118 + 0x20 * i
def rtPortCfg (i : Nat) : Nat := 0x02000200 + 0x10 * i
def rtPortStatus (i : Nat) : Nat := 0x02000204 + 0x10 * i
def rtPortLevel (i : Nat) : Nat := 0x02000208 + 0x10 * i
def rtPanics (i : Nat) : Nat := 0x0200020C + 0x10 * i
def ueAddrLo : Nat := 0x02000300
def ueAddrHi : Nat := 0x02000304
def uePort : Nat := 0x02000308
def refreshForced : Nat := 0x02000310
def trimPostponedCount : Nat := 0x02000314
def trimInvalidCount : Nat := 0x02000318
def pcStatus (i : Nat) : Nat := 0x02001000 + 0x10 * i
def pcEye (i : Nat) : Nat := 0x02001004 + 0x10 * i
def pcReplays (i : Nat) : Nat := 0x02001008 + 0x10 * i
def phyDelay (i j : Nat) : Nat := 0x02010000 + 0x100 * i + 0x4 * j
def shadowTiming (i j : Nat) : Nat := 0x02080000 + 0x40 * i + 0x4 * j
def pacerCfg : Nat := 0x02800000
def pacerStatus : Nat := 0x02800004
def pacerSlack : Nat := 0x02800008
def pacerSurges : Nat := 0x0280000C
def fabricStatus : Nat := 0x02800010
def elasticEvents (i : Nat) : Nat := 0x02800040 + 0x4 * i
def hurdleStatus : Nat := 0x02800080
def hurdleQuery : Nat := 0x02800084
def hurdleUse (i : Nat) : Nat := 0x02800100 + 0x4 * i
def hurdleQueryUse (i : Nat) : Nat := 0x02800200 + 0x4 * i
def sbStatus : Nat := 0x00100000
def falseStart : Nat := 0x00100004
def sbEntryMs (i : Nat) : Nat := 0x00100010 + 0x4 * i
def sbCtrl : Nat := 0x00100030
def warmupTiles : Nat := 0x00100040
def warmupFrames : Nat := 0x00100044
def nvmInfo : Nat := 0x00100100
def nvmHeader : Nat := 0x00100104
def nvmHseq : Nat := 0x00100108
def fwVersion : Nat := 0x0010010C
def cfgVersion : Nat := 0x00100110
def nvmStatus : Nat := 0x00100114
def journalNext : Nat := 0x00100120
def journalOverwrites : Nat := 0x00100124
def journalDropped : Nat := 0x00100128
def nvmErrors : Nat := 0x0010012C
def journalRead : Nat := 0x00100130
def journalReadStatus : Nat := 0x00100134
def journalData (i : Nat) : Nat := 0x00100140 + 0x4 * i
def secStatus : Nat := 0x00200000
def secTherm : Nat := 0x00200004
def ownerHash (i : Nat) : Nat := 0x00200010 + 0x4 * i
def vendorHash (i : Nat) : Nat := 0x00200040 + 0x4 * i
def ownerEnrol : Nat := 0x00200030
def identUidLo : Nat := 0x00200060
def identUidHi : Nat := 0x00200064
def identCert (i : Nat) : Nat := 0x00200100 + 0x4 * i
def attestNonce (i : Nat) : Nat := 0x00200200 + 0x4 * i
def attestCtrl : Nat := 0x00200220
def attestStatus : Nat := 0x00200224
def attestReport (i : Nat) : Nat := 0x00200300 + 0x4 * i
def debugChallenge (i : Nat) : Nat := 0x00200400 + 0x4 * i
def debugToken (i : Nat) : Nat := 0x00200440 + 0x4 * i
def debugCtrl : Nat := 0x00200500
def debugStatus : Nat := 0x00200504
def secZeroise : Nat := 0x00200600
def macsecPnBlock (i : Nat) : Nat := 0x00200700 + 0x4 * i
def sigFails : Nat := 0x00200800
def evtGlobal : Nat := 0x00400000
def evtHostCi : Nat := 0x00400004
def evtHostPi : Nat := 0x00400008
def evtHostStatus : Nat := 0x0040000C
def evtHostDropped : Nat := 0x00400010
def evtRedirected : Nat := 0x00400014
def evtInactiveDone : Nat := 0x00400018
def evtCore (i : Nat) : Nat := 0x00400100 + 0x20 * i
def evtCoreOverflows (i : Nat) : Nat := 0x00400104 + 0x20 * i
def evtPop (i : Nat) : Nat := 0x00400108 + 0x20 * i
def evtDone (i : Nat) : Nat := 0x0040010C + 0x20 * i
def evtPending (i : Nat) : Nat := 0x00400800 + 0x4 * i
def evtRoute (i : Nat) : Nat := 0x00401000 + 0x4 * i
def faultStatus : Nat := 0x00500000
def faultCfg : Nat := 0x00500004
def faultCount (i : Nat) : Nat := 0x00500010 + 0x4 * i
def faultSev (i : Nat) : Nat := 0x00500100 + 0x4 * i
def feStatus : Nat := 0x00500200
def feWord (i : Nat) : Nat := 0x00500204 + 0x4 * i
def feLegSeq : Nat := 0x00500224
def faultClear : Nat := 0x00500300
def faultClearStatus : Nat := 0x00500304
def clearRefused : Nat := 0x00500308
def holdRequest : Nat := 0x00500310
def faultLogNext : Nat := 0x00500400
def faultLogRead : Nat := 0x00500404
def faultLogStatus : Nat := 0x00500408
def faultLogData (i : Nat) : Nat := 0x00500420 + 0x4 * i
def activeRead : Nat := 0x00500500
def activeEntry : Nat := 0x00500504
def unitState (i : Nat) : Nat := 0x00500600 + 0x4 * i
def coreWdt (i : Nat) : Nat := 0x00500700 + 0x4 * i
def coreKick (i : Nat) : Nat := 0x00500720 + 0x4 * i
def relayCfg : Nat := 0x02A00000
def relayStatus : Nat := 0x02A00004
def relayCtrl : Nat := 0x02A00008
def relayPorts : Nat := 0x02A0000C
def relayTakeoverUs : Nat := 0x02A00010
def relayOffset : Nat := 0x02A00014
def relayHbMissedLink : Nat := 0x02A00020
def relayHbMissedChain : Nat := 0x02A00024
def relaySigMismatches : Nat := 0x02A00028
def relayCuesIgnored : Nat := 0x02A0002C
def relayLinkErrors : Nat := 0x02A00030
def relayDigest (i : Nat) : Nat := 0x02A00040 + 0x4 * i
def relayPort (i : Nat) : Nat := 0x02A00100 + 0x4 * i
def hkCfg : Nat := 0x02C00000
def hkStatus : Nat := 0x02C00004
def hkRounds : Nat := 0x02C00008
def hkShutdown : Nat := 0x02C00010
def hkReading (i : Nat) : Nat := 0x02C00100 + 0x4 * i
def hkChanCfg (i : Nat) : Nat := 0x02C00200 + 0x4 * i
def hkSensorCfg (i : Nat) : Nat := 0x02C00300 + 0x4 * i
def fabricTrim (i : Nat) : Nat := 0x02E00000 + 0x10 * i
def fabricLines (i : Nat) : Nat := 0x02E00004 + 0x10 * i
def marginLow (i : Nat) : Nat := 0x02E00008 + 0x10 * i
def idDevice : Nat := 0x00000000
def idRevision : Nat := 0x00000004
def idVariant : Nat := 0x00000008
def idScratch : Nat := 0x00000020
def feature : Nat := 0x00000010
def featureCap : Nat := 0x00000014
def sealStatus : Nat := 0x00100200
def sealSplitLo : Nat := 0x00100204
def sealSplitHi : Nat := 0x00100208
def sealViolations : Nat := 0x0010020C
def sealLast : Nat := 0x00100210

end Reg

/-- Registers of Scenes and composition (R75). -/
def regRows02 : List RegRow :=
  [ ⟨"CUE_SCENE", 0x01000000, 0x0, 1, 0x0, 1, 0x0, 0x3FFF3F, 0x0, 0x0, 0x0⟩,
    ⟨"CUE_SPLIT_LO", 0x01000004, 0x0, 1, 0x0, 1, 0x0, 0xFFFFFFFF, 0x0, 0x0, 0x0⟩,
    ⟨"CUE_SPLIT_HI", 0x01000008, 0x0, 1, 0x0, 1, 0x0, 0xFF, 0x0, 0x0, 0x0⟩,
    ⟨"CUE_GO", 0x0100000C, 0x0, 1, 0x0, 1, 0x0, 0x0, 0x0, 0x3, 0x0⟩,
    ⟨"CUE_STATUS", 0x01000010, 0x0, 1, 0x0, 1, 0x0, 0x0, 0x0, 0x0, 0x0⟩,
    ⟨"CUE_REFUSAL", 0x01000014, 0x0, 1, 0x0, 1, 0x0, 0x0, 0x0, 0x0, 0x0⟩,
    ⟨"CUE_REFUSED_COUNT", 0x01000018, 0x0, 1, 0x0, 1, 0x0, 0x0, 0xFFFFFFFF, 0x0, 0x0⟩,
    ⟨"SCENE_USABLE_LO", 0x01000020, 0x0, 1, 0x0, 1, 0x0, 0x0, 0x0, 0x0, 0x0⟩,
    ⟨"SCENE_USABLE_HI", 0x01000024, 0x0, 1, 0x0, 1, 0x0, 0x0, 0x0, 0x0, 0x0⟩,
    ⟨"SCENE_QUERY", 0x01000028, 0x0, 1, 0x0, 1, 0x0, 0x3F3F, 0x0, 0x0, 0x0⟩,
    ⟨"HS_FENCE_LO", 0x01001000, 0x10, 16, 0x0, 1, 0x0, 0xFFFFFFFF, 0x0, 0x0, 0x0⟩,
    ⟨"HS_FENCE_HI", 0x01001004, 0x10, 16, 0x0, 1, 0x0, 0xFFFFFFFF, 0x0, 0x0, 0x0⟩,
    ⟨"HS_FENCE_REGRESS", 0x01001008, 0x10, 16, 0x0, 1, 0x0, 0x0, 0xFFFFFFFF, 0x0, 0x0⟩,
    ⟨"VIEW_LAYERS", 0x01002000, 0x100, 8, 0x0, 1, 0x0, 0x0, 0x0, 0x0, 0x0⟩,
    ⟨"VIEW_HEALTH", 0x01002004, 0x100, 8, 0x0, 1, 0x0, 0x0, 0x0, 0x0, 0x0⟩,
    ⟨"VIEW_GROUPS", 0x01002008, 0x100, 8, 0x0, 1, 0x0, 0x0, 0x0, 0x0, 0x0⟩,
    ⟨"CANVAS_BASE", 0x01002010, 0x100, 8, 0x0, 1, 0x0, 0x0, 0x0, 0x0, 0x0⟩,
    ⟨"CANVAS_PITCH", 0x01002014, 0x100, 8, 0x0, 1, 0x0, 0x0, 0x0, 0x0, 0x0⟩ ]

/-- Registers of lamp correction (R102). -/
def regRows03 : List RegRow :=
  [ ⟨"LAMP_TABLE_BASE", 0x01400000, 0x0, 1, 0x0, 1, 0x0, 0x0, 0x0, 0x0, 0x0⟩,
    ⟨"LAMP_COUNT", 0x01400004, 0x0, 1, 0x0, 1, 0x0, 0x0, 0x0, 0x0, 0x0⟩,
    ⟨"CORR_TOL", 0x01400008, 0x0, 1, 0x0, 1, 0xFFF0FF3F, 0x0, 0x0, 0x0, 0x7D001008⟩,
    ⟨"BOOST_MAX", 0x0140000C, 0x0, 1, 0x0, 1, 0x7FF, 0x0, 0x0, 0x0, 0x400⟩,
    ⟨"LAMP_RECHECK", 0x01400010, 0x0, 1, 0x0, 1, 0x0, 0x0, 0x0, 0x81FFFFFF, 0x0⟩,
    ⟨"RECHECK_STATUS", 0x01400014, 0x0, 1, 0x0, 1, 0x0, 0x0, 0x0, 0x0, 0x0⟩,
    ⟨"OPEN_COUNT", 0x01400018, 0x0, 1, 0x0, 1, 0x0, 0x0, 0x0, 0x0, 0x0⟩,
    ⟨"SHORTED_COUNT", 0x0140001C, 0x0, 1, 0x0, 1, 0x0, 0x0, 0x0, 0x0, 0x0⟩,
    ⟨"RETIRED_COUNT", 0x01400020, 0x0, 1, 0x0, 1, 0x0, 0x0, 0x0, 0x0, 0x0⟩,
    ⟨"OFF_COUNT", 0x01400024, 0x0, 1, 0x0, 1, 0x0, 0x0, 0x0, 0x0, 0x0⟩,
    ⟨"CLIP_COUNT", 0x01400028, 0x0, 1, 0x0, 1, 0x0, 0x0, 0xFFFFFFFF, 0x0, 0x0⟩,
    ⟨"BOOST_CAP_COUNT", 0x0140002C, 0x0, 1, 0x0, 1, 0x0, 0x0, 0xFFFFFFFF, 0x0, 0x0⟩,
    ⟨"RECHECK_REFUSED", 0x01400030, 0x0, 1, 0x0, 1, 0x0, 0x0, 0xFFFFFFFF, 0x0, 0x0⟩,
    ⟨"CENSUS_ENTRY_ERRORS", 0x01400034, 0x0, 1, 0x0, 1, 0x0, 0x0, 0x0, 0x0, 0x0⟩,
    ⟨"CORR_BLOCKED_WRITES", 0x01400038, 0x0, 1, 0x0, 1, 0x0, 0x0, 0xFFFFFFFF, 0x0, 0x0⟩,
    ⟨"SEG_SENT", 0x01400040, 0x0, 1, 0x0, 1, 0x0, 0x0, 0x0, 0x0, 0x0⟩,
    ⟨"SEG_FORCED", 0x01400044, 0x0, 1, 0x0, 1, 0x0, 0x0, 0x0, 0x0, 0x0⟩,
    ⟨"REFRESH_AGE_MAX", 0x01400048, 0x0, 1, 0x0, 1, 0x0, 0x0, 0x0, 0x0, 0x0⟩,
    ⟨"LAMP_WATCH", 0x01400050, 0x0, 1, 0x0, 1, 0x0, 0xFFFFFFF, 0x0, 0x0, 0x0⟩,
    ⟨"LAMP_WATCH_TARGET", 0x01400054, 0x0, 1, 0x0, 1, 0x0, 0x0, 0x0, 0x0, 0x0⟩,
    ⟨"LAMP_WATCH_SEQ", 0x01400058, 0x0, 1, 0x0, 1, 0x0, 0x0, 0x0, 0x0, 0x0⟩,
    ⟨"TILE_TEMP", 0x01401000, 0x4, 512, 0x0, 1, 0x0, 0x0, 0x0, 0x0, 0x0⟩ ]

/-- Registers of drive synthesis (R133). -/
def regRows04a : List RegRow :=
  [ ⟨"PLAN_CUE", 0x01800000, 0x0, 1, 0x0, 1, 0x0, 0x207, 0x0, 0x80000000, 0x0⟩,
    ⟨"PLAN_SPLIT_LO", 0x01800004, 0x0, 1, 0x0, 1, 0x0, 0xFFFFFFFF, 0x0, 0x0, 0x0⟩,
    ⟨"PLAN_SPLIT_HI", 0x01800008, 0x0, 1, 0x0, 1, 0x0, 0xFF, 0x0, 0x0, 0x0⟩,
    ⟨"PLAN_STATUS", 0x0180000C, 0x0, 1, 0x0, 1, 0x0, 0x0, 0x0, 0x0, 0x0⟩,
    ⟨"PLAN_BOUNDARY_LO", 0x01800010, 0x0, 1, 0x0, 1, 0x0, 0x0, 0x0, 0x0, 0x0⟩,
    ⟨"PLAN_BOUNDARY_HI", 0x01800014, 0x0, 1, 0x0, 1, 0x0, 0x0, 0x0, 0x0, 0x0⟩,
    ⟨"PLAN_USABLE", 0x01800018, 0x0, 1, 0x0, 1, 0x0, 0x0, 0x0, 0x0, 0x0⟩,
    ⟨"PLAN_REFUSAL", 0x0180001C, 0x0, 1, 0x0, 1, 0x0, 0x0, 0x0, 0x0, 0x0⟩,
    ⟨"PLAN_REASON", 0x01800020, 0x4, 8, 0x0, 1, 0x0, 0x0, 0x0, 0x0, 0x0⟩,
    ⟨"LEG_STATUS", 0x01800040, 0x0, 1, 0x0, 1, 0x0, 0x0, 0x0, 0x0, 0x0⟩,
    ⟨"LEG_SEQ", 0x01800044, 0x0, 1, 0x0, 1, 0x0, 0x0, 0x0, 0x0, 0x0⟩,
    ⟨"LAP_NUMBER", 0x01800048, 0x0, 1, 0x0, 1, 0x0, 0x0, 0x0, 0x0, 0x0⟩,
    ⟨"PIN_CTRL", 0x01800060, 0x0, 1, 0x0, 1, 0xFFFFFF0F, 0x0, 0x0, 0x0, 0x10A0A00⟩,
    ⟨"PIN_OFFSET", 0x01800064, 0x0, 1, 0x0, 1, 0xFFFFFFFF, 0x0, 0x0, 0x0, 0x0⟩,
    ⟨"PROBE_CTRL", 0x01800080, 0x0, 1, 0x0, 1, 0x13F, 0x0, 0x0, 0x0, 0x10A⟩,
    ⟨"PROBE_STATUS", 0x01800084, 0x0, 1, 0x0, 1, 0x0, 0x0, 0x0, 0x0, 0x0⟩,
    ⟨"PROBE_DUE", 0x01800088, 0x0, 1, 0x0, 1, 0x0, 0x0, 0x0, 0x0, 0x0⟩,
    ⟨"PROBES_ISSUED", 0x0180008C, 0x0, 1, 0x0, 1, 0x0, 0x0, 0xFFFFFFFF, 0x0, 0x0⟩,
    ⟨"PROBE_NO_RESULT", 0x01800090, 0x0, 1, 0x0, 1, 0x0, 0x0, 0xFFFFFFFF, 0x0, 0x0⟩,
    ⟨"UNDERRUN_COUNT", 0x018000A0, 0x0, 1, 0x0, 1, 0x0, 0x0, 0xFFFFFFFF, 0x0, 0x0⟩,
    ⟨"LATE_SEGMENT_COUNT", 0x018000A4, 0x0, 1, 0x0, 1, 0x0, 0x0, 0xFFFFFFFF, 0x0, 0x0⟩,
    ⟨"DERATE_CLIP_COUNT", 0x018000A8, 0x0, 1, 0x0, 1, 0x0, 0x0, 0xFFFFFFFF, 0x0, 0x0⟩,
    ⟨"TILE_DRIVE", 0x01801000, 0x10, 512, 0x0, 1, 0x0, 0x0, 0x0, 0x0, 0x0⟩,
    ⟨"TILE_TRIM_RG", 0x01801004, 0x10, 512, 0x0, 1, 0x0, 0x0, 0x0, 0x0, 0x0⟩ ]

/-- Registers of drive synthesis (R133). -/
def regRows04b : List RegRow :=
  [ ⟨"TILE_TRIM_B", 0x01801008, 0x10, 512, 0x0, 1, 0x0, 0x0, 0x0, 0x0, 0x0⟩ ]

/-- Registers of chain lanes (R161). -/
def regRows05 : List RegRow :=
  [ ⟨"PORT_CFG", 0x01C00000, 0x10000, 16, 0x0, 1, 0x83FF013F, 0x0, 0x0, 0x0, 0xA0000⟩,
    ⟨"TX_FIR", 0x01C00010, 0x10000, 16, 0x4, 4, 0x1F3F0F, 0x0, 0x0, 0x0, 0xB3004⟩,
    ⟨"CAL_CFG", 0x01C00020, 0x10000, 16, 0x0, 1, 0xFFF03FFF, 0x0, 0x0, 0x0, 0x3C01028⟩,
    ⟨"PORT_STATUS", 0x01C00100, 0x10000, 16, 0x0, 1, 0x0, 0x0, 0x0, 0x0, 0x0⟩,
    ⟨"UP_TRIM", 0x01C00104, 0x10000, 16, 0x0, 1, 0x0, 0x0, 0x0, 0x0, 0x0⟩,
    ⟨"CAL_RESULT", 0x01C00400, 0x10000, 16, 0x20, 32, 0x0, 0x0, 0x0, 0x0, 0x0⟩,
    ⟨"CAL_RESULT", 0x01C00404, 0x10000, 16, 0x20, 32, 0x0, 0x0, 0x0, 0x0, 0x0⟩,
    ⟨"CAL_RESULT", 0x01C00408, 0x10000, 16, 0x20, 32, 0x0, 0x0, 0x0, 0x0, 0x0⟩,
    ⟨"CAL_RESULT", 0x01C0040C, 0x10000, 16, 0x20, 32, 0x0, 0x0, 0x0, 0x0, 0x0⟩,
    ⟨"CAL_RESULT", 0x01C00410, 0x10000, 16, 0x20, 32, 0x0, 0x0, 0x0, 0x0, 0x0⟩,
    ⟨"UP_LOCK_LOSS", 0x01C00200, 0x10000, 16, 0x0, 1, 0x0, 0x0, 0xFFFFFFFF, 0x0, 0x0⟩,
    ⟨"UP_BIP_ERRORS", 0x01C00204, 0x10000, 16, 0x0, 1, 0x0, 0x0, 0xFFFFFFFF, 0x0, 0x0⟩,
    ⟨"UP_BAD_BLOCKS", 0x01C00208, 0x10000, 16, 0x0, 1, 0x0, 0x0, 0xFFFFFFFF, 0x0, 0x0⟩,
    ⟨"UP_FRAME_ABORTS", 0x01C0020C, 0x10000, 16, 0x0, 1, 0x0, 0x0, 0xFFFFFFFF, 0x0, 0x0⟩,
    ⟨"IDLE_EXITS", 0x01C00210, 0x10000, 16, 0x0, 1, 0x0, 0x0, 0xFFFFFFFF, 0x0, 0x0⟩,
    ⟨"CAL_INVALID_COUNT", 0x01C00214, 0x10000, 16, 0x0, 1, 0x0, 0x0, 0xFFFFFFFF, 0x0, 0x0⟩,
    ⟨"CAL_POSTPONED_COUNT", 0x01C00218, 0x10000, 16, 0x0, 1, 0x0, 0x0, 0xFFFFFFFF, 0x0, 0x0⟩ ]

/-- Registers of chain protocol (R197). -/
def regRows06 : List RegRow :=
  [ ⟨"CENSUS_STATUS", 0x01C00800, 0x10000, 16, 0x0, 1, 0x0, 0x0, 0x0, 0x0, 0x0⟩,
    ⟨"UP_CRC_ERRORS", 0x01C00220, 0x10000, 16, 0x0, 1, 0x0, 0x0, 0xFFFFFFFF, 0x0, 0x0⟩,
    ⟨"UP_SEQ_GAPS", 0x01C00224, 0x10000, 16, 0x0, 1, 0x0, 0x0, 0xFFFFFFFF, 0x0, 0x0⟩,
    ⟨"UP_SEQ_REJECTS", 0x01C00228, 0x10000, 16, 0x0, 1, 0x0, 0x0, 0xFFFFFFFF, 0x0, 0x0⟩,
    ⟨"AGE_UNACKED_COUNT", 0x01C0022C, 0x10000, 16, 0x0, 1, 0x0, 0x0, 0xFFFFFFFF, 0x0, 0x0⟩,
    ⟨"CENSUS_RETRIES", 0x01C00230, 0x10000, 16, 0x0, 1, 0x0, 0x0, 0xFFFFFFFF, 0x0, 0x0⟩,
    ⟨"TILE_ID_LO", 0x01C01000, 0x10000, 16, 0x20, 32, 0x0, 0x0, 0x0, 0x0, 0x0⟩,
    ⟨"TILE_ID_HI", 0x01C01004, 0x10000, 16, 0x20, 32, 0x0, 0x0, 0x0, 0x0, 0x0⟩,
    ⟨"TILE_INFO", 0x01C01008, 0x10000, 16, 0x20, 32, 0x0, 0x0, 0x0, 0x0, 0x0⟩,
    ⟨"TILE_LAMPS", 0x01C0100C, 0x10000, 16, 0x20, 32, 0x0, 0x0, 0x0, 0x0, 0x0⟩,
    ⟨"TILE_BASE", 0x01C01010, 0x10000, 16, 0x20, 32, 0x0, 0x0, 0x0, 0x0, 0x0⟩,
    ⟨"TILE_DELAY", 0x01C01014, 0x10000, 16, 0x20, 32, 0x0, 0x0, 0x0, 0x0, 0x0⟩ ]

/-- Registers of network ingest (R221). -/
def regRows07a : List RegRow :=
  [ ⟨"ETH_CFG", 0x00800000, 0x100, 4, 0x0, 1, 0xE0000FFF, 0x0, 0x0, 0x0, 0x0⟩,
    ⟨"ETH_MAC_LO", 0x00800004, 0x100, 4, 0x0, 1, 0xFFFFFFFF, 0x0, 0x0, 0x0, 0x0⟩,
    ⟨"ETH_MAC_HI", 0x00800008, 0x100, 4, 0x0, 1, 0xFFFF, 0x0, 0x0, 0x0, 0x0⟩,
    ⟨"ETH_IP", 0x00800010, 0x100, 4, 0x4, 2, 0xFFFFFFFF, 0x0, 0x0, 0x0, 0x0⟩,
    ⟨"ETH_STATUS", 0x00800020, 0x100, 4, 0x0, 1, 0x0, 0x0, 0x0, 0x0, 0x0⟩,
    ⟨"FEC_CORRECTED", 0x00800040, 0x100, 4, 0x0, 1, 0x0, 0x0, 0xFFFFFFFF, 0x0, 0x0⟩,
    ⟨"FEC_UNCORRECTED", 0x00800044, 0x100, 4, 0x0, 1, 0x0, 0x0, 0xFFFFFFFF, 0x0, 0x0⟩,
    ⟨"RX_DISCARDS", 0x00800048, 0x100, 4, 0x0, 1, 0x0, 0x0, 0xFFFFFFFF, 0x0, 0x0⟩,
    ⟨"MACSEC_DISCARDS", 0x0080004C, 0x100, 4, 0x0, 1, 0x0, 0x0, 0xFFFFFFFF, 0x0, 0x0⟩,
    ⟨"FLOW_STATUS", 0x00804000, 0x40, 64, 0x0, 1, 0x0, 0x0, 0x0, 0x0, 0x0⟩,
    ⟨"FLOW_FRAMES", 0x00804004, 0x40, 64, 0x0, 1, 0x0, 0x0, 0x0, 0x0, 0x0⟩,
    ⟨"FLOW_LOST", 0x00804008, 0x40, 64, 0x0, 1, 0x0, 0x0, 0xFFFFFFFF, 0x0, 0x0⟩,
    ⟨"FLOW_LOST_PRI", 0x0080400C, 0x40, 64, 0x0, 1, 0x0, 0x0, 0xFFFFFFFF, 0x0, 0x0⟩,
    ⟨"FLOW_LOST_SEC", 0x00804010, 0x40, 64, 0x0, 1, 0x0, 0x0, 0xFFFFFFFF, 0x0, 0x0⟩,
    ⟨"FLOW_CONCEALED", 0x00804014, 0x40, 64, 0x0, 1, 0x0, 0x0, 0xFFFFFFFF, 0x0, 0x0⟩,
    ⟨"FLOW_DROPPED", 0x00804018, 0x40, 64, 0x0, 1, 0x0, 0x0, 0xFFFFFFFF, 0x0, 0x0⟩,
    ⟨"FLOW_BAD", 0x0080401C, 0x40, 64, 0x0, 1, 0x0, 0x0, 0xFFFFFFFF, 0x0, 0x0⟩,
    ⟨"FLOW_RTP_TS", 0x00804020, 0x40, 64, 0x0, 1, 0x0, 0x0, 0x0, 0x0, 0x0⟩,
    ⟨"FLOW_PD", 0x00804024, 0x40, 64, 0x0, 1, 0x0, 0x0, 0x0, 0x0, 0x0⟩,
    ⟨"CUE_DG_CFG", 0x00808000, 0x0, 1, 0x0, 1, 0xFFFF1FFF, 0x0, 0x0, 0x0, 0x3E8⟩,
    ⟨"CUE_DG_GROUP", 0x00808004, 0x0, 1, 0x0, 1, 0xFFFFFFFF, 0x0, 0x0, 0x0, 0x0⟩,
    ⟨"CUE_DG_ACCEPTED", 0x00808010, 0x0, 1, 0x0, 1, 0x0, 0x0, 0xFFFFFFFF, 0x0, 0x0⟩,
    ⟨"CUE_DG_MALFORMED", 0x00808014, 0x0, 1, 0x0, 1, 0x0, 0x0, 0xFFFFFFFF, 0x0, 0x0⟩,
    ⟨"CUE_DG_AUTH_FAIL", 0x00808018, 0x0, 1, 0x0, 1, 0x0, 0x0, 0xFFFFFFFF, 0x0, 0x0⟩ ]

/-- Registers of network ingest (R221). -/
def regRows07b : List RegRow :=
  [ ⟨"CUE_DG_OTHER", 0x0080801C, 0x0, 1, 0x0, 1, 0x0, 0x0, 0xFFFFFFFF, 0x0, 0x0⟩,
    ⟨"CUE_DG_NO_TIME", 0x00808020, 0x0, 1, 0x0, 1, 0x0, 0x0, 0xFFFFFFFF, 0x0, 0x0⟩,
    ⟨"CUE_DG_STALE", 0x00808024, 0x0, 1, 0x0, 1, 0x0, 0x0, 0xFFFFFFFF, 0x0, 0x0⟩,
    ⟨"CUE_DG_REPLAY", 0x00808028, 0x0, 1, 0x0, 1, 0x0, 0x0, 0xFFFFFFFF, 0x0, 0x0⟩,
    ⟨"CUE_DG_DUP", 0x0080802C, 0x0, 1, 0x0, 1, 0x0, 0x0, 0xFFFFFFFF, 0x0, 0x0⟩,
    ⟨"MON_CFG", 0x00809000, 0x0, 1, 0x0, 1, 0xFFFFFF00, 0x0, 0x0, 0x0, 0x180000⟩,
    ⟨"MON_DST", 0x00809004, 0x0, 1, 0x0, 1, 0xFFFFFFFF, 0x0, 0x0, 0x0, 0x0⟩,
    ⟨"MON_UDP", 0x00809008, 0x0, 1, 0x0, 1, 0xFFFFFFFF, 0x0, 0x0, 0x0, 0x0⟩,
    ⟨"MON_PQ_REF", 0x0080900C, 0x0, 1, 0x0, 1, 0xFFFFFFFF, 0x0, 0x0, 0x0, 0x0⟩,
    ⟨"MON_MATRIX", 0x00809020, 0x4, 9, 0x0, 1, 0xFFFFFFFF, 0x0, 0x0, 0x0, 0x0⟩,
    ⟨"MON_STATUS", 0x00809010, 0x0, 1, 0x0, 1, 0x0, 0x0, 0x0, 0x0, 0x0⟩,
    ⟨"MON_FRAMES", 0x00809014, 0x0, 1, 0x0, 1, 0x0, 0x0, 0x0, 0x0, 0x0⟩,
    ⟨"MON_SKIPPED", 0x00809018, 0x0, 1, 0x0, 1, 0x0, 0x0, 0xFFFFFFFF, 0x0, 0x0⟩ ]

/-- Registers of time base (R245). -/
def regRows08a : List RegRow :=
  [ ⟨"TB_CFG", 0x00600000, 0x0, 1, 0x0, 1, 0xFFFFE000, 0x0, 0x0, 0x0, 0xF0A14000⟩,
    ⟨"TB_INCR_NOM_LO", 0x00600004, 0x0, 1, 0x0, 1, 0xFFFFFFFF, 0x0, 0x0, 0x0, 0x9999999A⟩,
    ⟨"TB_INCR_NOM_HI", 0x00600008, 0x0, 1, 0x0, 1, 0xFFFFFFFF, 0x0, 0x0, 0x0, 0x1⟩,
    ⟨"TB_INCR_LO", 0x0060000C, 0x0, 1, 0x0, 1, 0x0, 0x0, 0x0, 0x0, 0x0⟩,
    ⟨"TB_INCR_HI", 0x00600010, 0x0, 1, 0x0, 1, 0x0, 0x0, 0x0, 0x0, 0x0⟩,
    ⟨"TB_STATUS", 0x00600020, 0x0, 1, 0x0, 1, 0x0, 0x0, 0x0, 0x0, 0x0⟩,
    ⟨"TB_OFFSET", 0x00600024, 0x0, 1, 0x0, 1, 0x0, 0x0, 0x0, 0x0, 0x0⟩,
    ⟨"TB_NOW_NS", 0x00600030, 0x0, 1, 0x0, 1, 0x0, 0x0, 0x0, 0x0, 0x0⟩,
    ⟨"TB_NOW_SEC_LO", 0x00600034, 0x0, 1, 0x0, 1, 0x0, 0x0, 0x0, 0x0, 0x0⟩,
    ⟨"TB_NOW_SEC_HI", 0x00600038, 0x0, 1, 0x0, 1, 0x0, 0x0, 0x0, 0x0, 0x0⟩,
    ⟨"TB_NOW_FRAC", 0x0060003C, 0x0, 1, 0x0, 1, 0x0, 0x0, 0x0, 0x0, 0x0⟩,
    ⟨"TB_SPLIT_LO", 0x00600040, 0x0, 1, 0x0, 1, 0x0, 0x0, 0x0, 0x0, 0x0⟩,
    ⟨"TB_SPLIT_HI", 0x00600044, 0x0, 1, 0x0, 1, 0x0, 0x0, 0x0, 0x0, 0x0⟩,
    ⟨"TB_RESTEP", 0x00600050, 0x0, 1, 0x0, 1, 0x0, 0x0, 0x0, 0x1, 0x0⟩,
    ⟨"TB_RESTEP_AT_LO", 0x00600054, 0x0, 1, 0x0, 1, 0x0, 0x0, 0x0, 0x0, 0x0⟩,
    ⟨"TB_RESTEP_AT_HI", 0x00600058, 0x0, 1, 0x0, 1, 0x0, 0x0, 0x0, 0x0, 0x0⟩,
    ⟨"TB_SWITCHES", 0x00600060, 0x0, 1, 0x0, 1, 0x0, 0x0, 0xFFFFFFFF, 0x0, 0x0⟩,
    ⟨"RESTEP_REFUSED", 0x00600064, 0x0, 1, 0x0, 1, 0x0, 0x0, 0xFFFFFFFF, 0x0, 0x0⟩,
    ⟨"LAPREF_BAD", 0x00600068, 0x0, 1, 0x0, 1, 0x0, 0x0, 0xFFFFFFFF, 0x0, 0x0⟩,
    ⟨"PTP_CFG", 0x00600100, 0x80, 2, 0x0, 1, 0x3FFF0FFF, 0x0, 0x0, 0x0, 0x2E3D007F⟩,
    ⟨"PTP_STATUS", 0x00600104, 0x80, 2, 0x0, 1, 0x0, 0x0, 0x0, 0x0, 0x0⟩,
    ⟨"PTP_MASTER_ID_LO", 0x00600108, 0x80, 2, 0x0, 1, 0x0, 0x0, 0x0, 0x0, 0x0⟩,
    ⟨"PTP_MASTER_ID_HI", 0x0060010C, 0x80, 2, 0x0, 1, 0x0, 0x0, 0x0, 0x0, 0x0⟩,
    ⟨"PTP_OFFSET", 0x00600110, 0x80, 2, 0x0, 1, 0x0, 0x0, 0x0, 0x0, 0x0⟩ ]

/-- Registers of time base (R245). -/
def regRows08b : List RegRow :=
  [ ⟨"PTP_DELAY", 0x00600114, 0x80, 2, 0x0, 1, 0x0, 0x0, 0x0, 0x0, 0x0⟩,
    ⟨"PTP_RATE", 0x00600118, 0x80, 2, 0x0, 1, 0x0, 0x0, 0x0, 0x0, 0x0⟩,
    ⟨"SYNC_MISSED", 0x00600120, 0x80, 2, 0x0, 1, 0x0, 0x0, 0xFFFFFFFF, 0x0, 0x0⟩,
    ⟨"ANNOUNCE_TIMEOUTS", 0x00600124, 0x80, 2, 0x0, 1, 0x0, 0x0, 0xFFFFFFFF, 0x0, 0x0⟩,
    ⟨"MASTER_CHANGES", 0x00600128, 0x80, 2, 0x0, 1, 0x0, 0x0, 0xFFFFFFFF, 0x0, 0x0⟩,
    ⟨"BAD_MESSAGES", 0x0060012C, 0x80, 2, 0x0, 1, 0x0, 0x0, 0xFFFFFFFF, 0x0, 0x0⟩,
    ⟨"TS_ADJ", 0x00600200, 0x4, 4, 0x0, 1, 0xFFFFFFFF, 0x0, 0x0, 0x0, 0x0⟩,
    ⟨"LAPREF_STATUS", 0x00600300, 0x0, 1, 0x0, 1, 0x0, 0x0, 0x0, 0x0, 0x0⟩ ]

/-- Registers of host port (R261). -/
def regRows09 : List RegRow :=
  [ ⟨"HOST_STATUS", 0x00C00000, 0x0, 1, 0x0, 1, 0x0, 0x0, 0x0, 0x0, 0x0⟩,
    ⟨"HOST_ATTACH", 0x00C00010, 0x0, 1, 0x0, 1, 0x0, 0x0, 0x0, 0x3, 0x0⟩,
    ⟨"HOST_RING_BASE_LO", 0x00C00014, 0x0, 1, 0x0, 1, 0x0, 0xFFFFFFFF, 0x0, 0x0, 0x0⟩,
    ⟨"HOST_RING_BASE_HI", 0x00C00018, 0x0, 1, 0x0, 1, 0x0, 0xFFFFFFFF, 0x0, 0x0, 0x0⟩,
    ⟨"HOST_INDEX_ADDR_LO", 0x00C00020, 0x0, 1, 0x0, 1, 0x0, 0xFFFFFFFF, 0x0, 0x0, 0x0⟩,
    ⟨"HOST_INDEX_ADDR_HI", 0x00C00024, 0x0, 1, 0x0, 1, 0x0, 0xFFFFFFFF, 0x0, 0x0, 0x0⟩,
    ⟨"HS_TABLE_BASE_LO", 0x00C00028, 0x0, 1, 0x0, 1, 0x0, 0xFFFFFFFF, 0x0, 0x0, 0x0⟩,
    ⟨"HS_TABLE_BASE_HI", 0x00C0002C, 0x0, 1, 0x0, 1, 0x0, 0xFFFFFFFF, 0x0, 0x0, 0x0⟩,
    ⟨"HOST_RING_SIZE", 0x00C0001C, 0x0, 1, 0x0, 1, 0x0, 0x1F, 0x0, 0x0, 0x0⟩,
    ⟨"HOST_BAD_ACCESS", 0x00C00040, 0x0, 1, 0x0, 1, 0x0, 0x0, 0xFFFFFFFF, 0x0, 0x0⟩,
    ⟨"HOST_BAR2_BLOCKED", 0x00C00044, 0x0, 1, 0x0, 1, 0x0, 0x0, 0xFFFFFFFF, 0x0, 0x0⟩,
    ⟨"HS_PULL_FAILED", 0x00C00048, 0x0, 1, 0x0, 1, 0x0, 0x0, 0xFFFFFFFF, 0x0, 0x0⟩,
    ⟨"HS_SLOT_WAIT", 0x00C0004C, 0x0, 1, 0x0, 1, 0x0, 0x0, 0xFFFFFFFF, 0x0, 0x0⟩,
    ⟨"HS_STATUS", 0x00C01000, 0x10, 16, 0x0, 1, 0x0, 0x0, 0x0, 0x0, 0x0⟩,
    ⟨"STAGE_LIST_LO", 0x00C02000, 0x0, 1, 0x0, 1, 0x0, 0xFFFFFFFF, 0x0, 0x0, 0x0⟩,
    ⟨"STAGE_LIST_HI", 0x00C02004, 0x0, 1, 0x0, 1, 0x0, 0xFFFFFFFF, 0x0, 0x0, 0x0⟩,
    ⟨"STAGE_ENTRIES", 0x00C02008, 0x0, 1, 0x0, 1, 0x0, 0x1FFFF, 0x0, 0x0, 0x0⟩,
    ⟨"STAGE_CTRL", 0x00C0200C, 0x0, 1, 0x0, 1, 0x0, 0x0, 0x0, 0x3, 0x0⟩,
    ⟨"STAGE_STATUS", 0x00C02010, 0x0, 1, 0x0, 1, 0x0, 0x0, 0x0, 0x0, 0x0⟩,
    ⟨"STAGE_PROGRESS", 0x00C02014, 0x0, 1, 0x0, 1, 0x0, 0x0, 0x0, 0x0, 0x0⟩ ]

/-- Registers of memory system (R286). -/
def regRows10a : List RegRow :=
  [ ⟨"MEM_CFG", 0x02000000, 0x0, 1, 0x0, 1, 0xFCFF00F3, 0x0, 0x0, 0x0, 0x28190023⟩,
    ⟨"MEM_STATUS", 0x02000004, 0x0, 1, 0x0, 1, 0x0, 0x0, 0x0, 0x0, 0x0⟩,
    ⟨"STACK_STATUS", 0x02000100, 0x20, 4, 0x0, 1, 0x0, 0x0, 0x0, 0x0, 0x0⟩,
    ⟨"STACK_DEMAND", 0x02000104, 0x20, 4, 0x0, 1, 0x0, 0x0, 0x0, 0x0, 0x0⟩,
    ⟨"STACK_CE", 0x02000108, 0x20, 4, 0x0, 1, 0x0, 0x0, 0xFFFFFFFF, 0x0, 0x0⟩,
    ⟨"STACK_UE", 0x0200010C, 0x20, 4, 0x0, 1, 0x0, 0x0, 0xFFFFFFFF, 0x0, 0x0⟩,
    ⟨"STACK_REST_ENTRIES", 0x02000110, 0x20, 4, 0x0, 1, 0x0, 0x0, 0xFFFFFFFF, 0x0, 0x0⟩,
    ⟨"STACK_REST_ABORTS", 0x02000114, 0x20, 4, 0x0, 1, 0x0, 0x0, 0xFFFFFFFF, 0x0, 0x0⟩,
    ⟨"STACK_STEPS", 0x02000118, 0x20, 4, 0x0, 1, 0x0, 0x0, 0xFFFFFFFF, 0x0, 0x0⟩,
    ⟨"RT_PORT_CFG", 0x02000200, 0x0, 1, 0x0, 1, 0x7FFF, 0x0, 0x0, 0x0, 0x800⟩,
    ⟨"RT_PORT_CFG", 0x02000210, 0x0, 1, 0x0, 1, 0x7FFF, 0x0, 0x0, 0x0, 0x400⟩,
    ⟨"RT_PORT_CFG", 0x02000220, 0x0, 1, 0x0, 1, 0x7FFF, 0x0, 0x0, 0x0, 0x200⟩,
    ⟨"RT_PORT_STATUS", 0x02000204, 0x10, 3, 0x0, 1, 0x0, 0x0, 0x0, 0x0, 0x0⟩,
    ⟨"RT_PORT_LEVEL", 0x02000208, 0x10, 3, 0x0, 1, 0x0, 0x0, 0x0, 0x0, 0x0⟩,
    ⟨"RT_PANICS", 0x0200020C, 0x10, 3, 0x0, 1, 0x0, 0x0, 0xFFFFFFFF, 0x0, 0x0⟩,
    ⟨"UE_ADDR_LO", 0x02000300, 0x0, 1, 0x0, 1, 0x0, 0x0, 0x0, 0x0, 0x0⟩,
    ⟨"UE_ADDR_HI", 0x02000304, 0x0, 1, 0x0, 1, 0x0, 0x0, 0x0, 0x0, 0x0⟩,
    ⟨"UE_PORT", 0x02000308, 0x0, 1, 0x0, 1, 0x0, 0x0, 0x0, 0x0, 0x0⟩,
    ⟨"REFRESH_FORCED", 0x02000310, 0x0, 1, 0x0, 1, 0x0, 0x0, 0xFFFFFFFF, 0x0, 0x0⟩,
    ⟨"TRIM_POSTPONED_COUNT", 0x02000314, 0x0, 1, 0x0, 1, 0x0, 0x0, 0xFFFFFFFF, 0x0, 0x0⟩,
    ⟨"TRIM_INVALID_COUNT", 0x02000318, 0x0, 1, 0x0, 1, 0x0, 0x0, 0xFFFFFFFF, 0x0, 0x0⟩,
    ⟨"PC_STATUS", 0x02001000, 0x10, 128, 0x0, 1, 0x0, 0x0, 0x0, 0x0, 0x0⟩,
    ⟨"PC_EYE", 0x02001004, 0x10, 128, 0x0, 1, 0x0, 0x0, 0x0, 0x0, 0x0⟩,
    ⟨"PC_REPLAYS", 0x02001008, 0x10, 128, 0x0, 1, 0x0, 0x0, 0xFFFFFFFF, 0x0, 0x0⟩ ]

/-- Registers of memory system (R286). -/
def regRows10b : List RegRow :=
  [ ⟨"PHY_DELAY", 0x02010000, 0x100, 128, 0x4, 34, 0x3FFFFF00, 0x0, 0x0, 0x0, 0x0⟩,
    ⟨"SHADOW_TIMING", 0x02080000, 0x40, 3, 0x4, 16, 0xFFFFFFFF, 0x0, 0x0, 0x0, 0x0⟩ ]

/-- Registers of fabric pacer (R305). -/
def regRows11 : List RegRow :=
  [ ⟨"PACER_CFG", 0x02800000, 0x0, 1, 0x0, 1, 0x8FFFFFFF, 0x0, 0x0, 0x0, 0x88401A00⟩,
    ⟨"PACER_STATUS", 0x02800004, 0x0, 1, 0x0, 1, 0x0, 0x0, 0x0, 0x0, 0x0⟩,
    ⟨"PACER_SLACK", 0x02800008, 0x0, 1, 0x0, 1, 0x0, 0x0, 0x0, 0x0, 0x0⟩,
    ⟨"PACER_SURGES", 0x0280000C, 0x0, 1, 0x0, 1, 0x0, 0x0, 0xFFFFFFFF, 0x0, 0x0⟩,
    ⟨"FABRIC_STATUS", 0x02800010, 0x0, 1, 0x0, 1, 0x0, 0x0, 0x0, 0x0, 0x0⟩,
    ⟨"ELASTIC_EVENTS", 0x02800040, 0x4, 4, 0x0, 1, 0x0, 0x0, 0xFFFFFFFF, 0x0, 0x0⟩,
    ⟨"HURDLE_STATUS", 0x02800080, 0x0, 1, 0x0, 1, 0x0, 0x0, 0x0, 0x0, 0x0⟩,
    ⟨"HURDLE_QUERY", 0x02800084, 0x0, 1, 0x0, 1, 0x0, 0x7BF3F, 0x0, 0x0, 0x0⟩,
    ⟨"HURDLE_USE", 0x02800100, 0x4, 48, 0x0, 1, 0x0, 0x0, 0x0, 0x0, 0x0⟩,
    ⟨"HURDLE_QUERY_USE", 0x02800200, 0x4, 48, 0x0, 1, 0x0, 0x0, 0x0, 0x0, 0x0⟩ ]

/-- Registers of starting blocks (R326). -/
def regRows12 : List RegRow :=
  [ ⟨"SB_STATUS", 0x00100000, 0x0, 1, 0x0, 1, 0x0, 0x0, 0x0, 0x0, 0x0⟩,
    ⟨"FALSE_START", 0x00100004, 0x0, 1, 0x0, 1, 0x0, 0x0, 0x0, 0x0, 0x0⟩,
    ⟨"SB_ENTRY_MS", 0x00100010, 0x4, 6, 0x0, 1, 0x0, 0x0, 0x0, 0x0, 0x0⟩,
    ⟨"SB_CTRL", 0x00100030, 0x0, 1, 0x0, 1, 0x0, 0x0, 0x0, 0xFFFF0001, 0x0⟩,
    ⟨"WARMUP_TILES", 0x00100040, 0x0, 1, 0x0, 1, 0x0, 0x0, 0x0, 0x0, 0x0⟩,
    ⟨"WARMUP_FRAMES", 0x00100044, 0x0, 1, 0x0, 1, 0x0, 0x0, 0x0, 0x0, 0x0⟩ ]

/-- Registers of configuration and NVM (R350). -/
def regRows13 : List RegRow :=
  [ ⟨"NVM_INFO", 0x00100100, 0x0, 1, 0x0, 1, 0x0, 0x0, 0x0, 0x0, 0x0⟩,
    ⟨"NVM_HEADER", 0x00100104, 0x0, 1, 0x0, 1, 0x0, 0x0, 0x0, 0x0, 0x0⟩,
    ⟨"NVM_HSEQ", 0x00100108, 0x0, 1, 0x0, 1, 0x0, 0x0, 0x0, 0x0, 0x0⟩,
    ⟨"FW_VERSION", 0x0010010C, 0x0, 1, 0x0, 1, 0x0, 0x0, 0x0, 0x0, 0x0⟩,
    ⟨"CFG_VERSION", 0x00100110, 0x0, 1, 0x0, 1, 0x0, 0x0, 0x0, 0x0, 0x0⟩,
    ⟨"NVM_STATUS", 0x00100114, 0x0, 1, 0x0, 1, 0x0, 0x0, 0x0, 0x0, 0x0⟩,
    ⟨"JOURNAL_NEXT", 0x00100120, 0x0, 1, 0x0, 1, 0x0, 0x0, 0x0, 0x0, 0x0⟩,
    ⟨"JOURNAL_OVERWRITES", 0x00100124, 0x0, 1, 0x0, 1, 0x0, 0x0, 0x0, 0x0, 0x0⟩,
    ⟨"JOURNAL_DROPPED", 0x00100128, 0x0, 1, 0x0, 1, 0x0, 0x0, 0xFFFFFFFF, 0x0, 0x0⟩,
    ⟨"NVM_ERRORS", 0x0010012C, 0x0, 1, 0x0, 1, 0x0, 0x0, 0xFFFFFFFF, 0x0, 0x0⟩,
    ⟨"JOURNAL_READ", 0x00100130, 0x0, 1, 0x0, 1, 0x0, 0xFFFFFFFF, 0x0, 0x0, 0x0⟩,
    ⟨"JOURNAL_READ_STATUS", 0x00100134, 0x0, 1, 0x0, 1, 0x0, 0x0, 0x0, 0x0, 0x0⟩,
    ⟨"JOURNAL_DATA", 0x00100140, 0x4, 16, 0x0, 1, 0x0, 0x0, 0x0, 0x0, 0x0⟩ ]

/-- Registers of security (R371). -/
def regRows14 : List RegRow :=
  [ ⟨"SEC_STATUS", 0x00200000, 0x0, 1, 0x0, 1, 0x0, 0x0, 0x0, 0x0, 0x0⟩,
    ⟨"SEC_THERM", 0x00200004, 0x0, 1, 0x0, 1, 0x0, 0x0, 0x0, 0x0, 0x0⟩,
    ⟨"OWNER_HASH", 0x00200010, 0x4, 8, 0x0, 1, 0x0, 0xFFFFFFFF, 0x0, 0x0, 0x0⟩,
    ⟨"VENDOR_HASH", 0x00200040, 0x4, 8, 0x0, 1, 0x0, 0x0, 0x0, 0x0, 0x0⟩,
    ⟨"OWNER_ENROL", 0x00200030, 0x0, 1, 0x0, 1, 0x0, 0x0, 0x0, 0xFFFF0001, 0x0⟩,
    ⟨"IDENT_UID_LO", 0x00200060, 0x0, 1, 0x0, 1, 0x0, 0x0, 0x0, 0x0, 0x0⟩,
    ⟨"IDENT_UID_HI", 0x00200064, 0x0, 1, 0x0, 1, 0x0, 0x0, 0x0, 0x0, 0x0⟩,
    ⟨"IDENT_CERT", 0x00200100, 0x4, 40, 0x0, 1, 0x0, 0x0, 0x0, 0x0, 0x0⟩,
    ⟨"ATTEST_NONCE", 0x00200200, 0x4, 8, 0x0, 1, 0x0, 0xFFFFFFFF, 0x0, 0x0, 0x0⟩,
    ⟨"ATTEST_CTRL", 0x00200220, 0x0, 1, 0x0, 1, 0x0, 0x0, 0x0, 0x1, 0x0⟩,
    ⟨"ATTEST_STATUS", 0x00200224, 0x0, 1, 0x0, 1, 0x0, 0x0, 0x0, 0x0, 0x0⟩,
    ⟨"ATTEST_REPORT", 0x00200300, 0x4, 64, 0x0, 1, 0x0, 0x0, 0x0, 0x0, 0x0⟩,
    ⟨"DEBUG_CHALLENGE", 0x00200400, 0x4, 8, 0x0, 1, 0x0, 0x0, 0x0, 0x0, 0x0⟩,
    ⟨"DEBUG_TOKEN", 0x00200440, 0x4, 48, 0x0, 1, 0x0, 0xFFFFFFFF, 0x0, 0x0, 0x0⟩,
    ⟨"DEBUG_CTRL", 0x00200500, 0x0, 1, 0x0, 1, 0x0, 0x0, 0x0, 0x1, 0x0⟩,
    ⟨"DEBUG_STATUS", 0x00200504, 0x0, 1, 0x0, 1, 0x0, 0x0, 0x0, 0x0, 0x0⟩,
    ⟨"SEC_ZEROISE", 0x00200600, 0x0, 1, 0x0, 1, 0x0, 0x0, 0x0, 0xFFFF0003, 0x0⟩,
    ⟨"MACSEC_PN_BLOCK", 0x00200700, 0x4, 4, 0x0, 1, 0x0, 0x0, 0x0, 0x0, 0x0⟩,
    ⟨"SIG_FAILS", 0x00200800, 0x0, 1, 0x0, 1, 0x0, 0x0, 0xFFFFFFFF, 0x0, 0x0⟩ ]

/-- Registers of events (R387). -/
def regRows15 : List RegRow :=
  [ ⟨"EVT_GLOBAL", 0x00400000, 0x0, 1, 0x0, 1, 0x1, 0x0, 0x0, 0x0, 0x0⟩,
    ⟨"EVT_HOST_CI", 0x00400004, 0x0, 1, 0x0, 1, 0x0, 0xFFFFFFFF, 0x0, 0x0, 0x0⟩,
    ⟨"EVT_HOST_PI", 0x00400008, 0x0, 1, 0x0, 1, 0x0, 0x0, 0x0, 0x0, 0x0⟩,
    ⟨"EVT_HOST_STATUS", 0x0040000C, 0x0, 1, 0x0, 1, 0x0, 0x0, 0x0, 0x0, 0x0⟩,
    ⟨"EVT_HOST_DROPPED", 0x00400010, 0x0, 1, 0x0, 1, 0x0, 0x0, 0xFFFFFFFF, 0x0, 0x0⟩,
    ⟨"EVT_REDIRECTED", 0x00400014, 0x0, 1, 0x0, 1, 0x0, 0x0, 0xFFFFFFFF, 0x0, 0x0⟩,
    ⟨"EVT_INACTIVE_DONE", 0x00400018, 0x0, 1, 0x0, 1, 0x0, 0x0, 0xFFFF, 0x0, 0x0⟩,
    ⟨"EVT_CORE", 0x00400100, 0x20, 4, 0x0, 1, 0xC0000003, 0x0, 0x1000000, 0x0, 0x3⟩,
    ⟨"EVT_CORE_OVERFLOWS", 0x00400104, 0x20, 4, 0x0, 1, 0x0, 0x0, 0xFFFFFFFF, 0x0, 0x0⟩,
    ⟨"EVT_POP", 0x00400108, 0x20, 4, 0x0, 1, 0x0, 0x0, 0x0, 0x3, 0x0⟩,
    ⟨"EVT_DONE", 0x0040010C, 0x20, 4, 0x0, 1, 0x0, 0x0, 0x0, 0x800001FF, 0x0⟩,
    ⟨"EVT_PENDING", 0x00400800, 0x4, 16, 0x0, 1, 0x0, 0x0, 0x0, 0x0, 0x0⟩,
    ⟨"EVT_ROUTE", 0x00401000, 0x4, 512, 0x0, 1, 0x73, 0x0, 0x0, 0x0, 0x60⟩ ]

/-- Registers of faults (R404). -/
def regRows16a : List RegRow :=
  [ ⟨"FAULT_STATUS", 0x00500000, 0x0, 1, 0x0, 1, 0x0, 0x0, 0x1000000, 0x0, 0x0⟩,
    ⟨"FAULT_CFG", 0x00500004, 0x0, 1, 0x0, 1, 0xF, 0x0, 0x0, 0x0, 0x5⟩,
    ⟨"FAULT_COUNT", 0x00500010, 0x4, 4, 0x0, 1, 0x0, 0x0, 0xFFFFFFFF, 0x0, 0x0⟩,
    ⟨"FAULT_SEV", 0x00500100, 0x0, 1, 0x0, 1, 0xFFFFFFFF, 0x0, 0x0, 0x0, 0x55115054⟩,
    ⟨"FAULT_SEV", 0x00500104, 0x0, 1, 0x0, 1, 0xFFFFFFFF, 0x0, 0x0, 0x0, 0x905⟩,
    ⟨"FAULT_SEV", 0x00500108, 0x0, 1, 0x0, 1, 0xFFFFFFFF, 0x0, 0x0, 0x0, 0x0⟩,
    ⟨"FAULT_SEV", 0x0050010C, 0x0, 1, 0x0, 1, 0xFFFFFFFF, 0x0, 0x0, 0x0, 0x0⟩,
    ⟨"FAULT_SEV", 0x00500110, 0x0, 1, 0x0, 1, 0xFFFFFFFF, 0x0, 0x0, 0x0, 0x5765F⟩,
    ⟨"FAULT_SEV", 0x00500114, 0x0, 1, 0x0, 1, 0xFFFFFFFF, 0x0, 0x0, 0x0, 0x0⟩,
    ⟨"FAULT_SEV", 0x00500118, 0x0, 1, 0x0, 1, 0xFFFFFFFF, 0x0, 0x0, 0x0, 0x555⟩,
    ⟨"FAULT_SEV", 0x0050011C, 0x0, 1, 0x0, 1, 0xFFFFFFFF, 0x0, 0x0, 0x0, 0x0⟩,
    ⟨"FE_STATUS", 0x00500200, 0x0, 1, 0x0, 1, 0x0, 0x0, 0x80000000, 0x0, 0x0⟩,
    ⟨"FE_WORD", 0x00500204, 0x4, 8, 0x0, 1, 0x0, 0x0, 0x0, 0x0, 0x0⟩,
    ⟨"FE_LEG_SEQ", 0x00500224, 0x0, 1, 0x0, 1, 0x0, 0x0, 0x0, 0x0, 0x0⟩,
    ⟨"FAULT_CLEAR", 0x00500300, 0x0, 1, 0x0, 1, 0x0, 0x0, 0x0, 0xC00FFFFF, 0x0⟩,
    ⟨"FAULT_CLEAR_STATUS", 0x00500304, 0x0, 1, 0x0, 1, 0x0, 0x0, 0x0, 0x0, 0x0⟩,
    ⟨"CLEAR_REFUSED", 0x00500308, 0x0, 1, 0x0, 1, 0x0, 0x0, 0xFFFFFFFF, 0x0, 0x0⟩,
    ⟨"HOLD_REQUEST", 0x00500310, 0x0, 1, 0x0, 1, 0x0, 0x0, 0x0, 0xFFFF0001, 0x0⟩,
    ⟨"FAULT_LOG_NEXT", 0x00500400, 0x0, 1, 0x0, 1, 0x0, 0x0, 0x0, 0x0, 0x0⟩,
    ⟨"FAULT_LOG_READ", 0x00500404, 0x0, 1, 0x0, 1, 0x0, 0xFFFFFFFF, 0x0, 0x0, 0x0⟩,
    ⟨"FAULT_LOG_STATUS", 0x00500408, 0x0, 1, 0x0, 1, 0x0, 0x0, 0x0, 0x0, 0x0⟩,
    ⟨"FAULT_LOG_DATA", 0x00500420, 0x4, 8, 0x0, 1, 0x0, 0x0, 0x0, 0x0, 0x0⟩,
    ⟨"ACTIVE_READ", 0x00500500, 0x0, 1, 0x0, 1, 0x0, 0x7FF, 0x0, 0x0, 0x0⟩,
    ⟨"ACTIVE_ENTRY", 0x00500504, 0x0, 1, 0x0, 1, 0x0, 0x0, 0x0, 0x0, 0x0⟩ ]

/-- Registers of faults (R404). -/
def regRows16b : List RegRow :=
  [ ⟨"UNIT_STATE", 0x00500600, 0x4, 19, 0x0, 1, 0x0, 0x0, 0x0, 0x0, 0x0⟩,
    ⟨"CORE_WDT", 0x00500700, 0x4, 4, 0x0, 1, 0xFF, 0x0, 0x0, 0x0, 0x0⟩,
    ⟨"CORE_KICK", 0x00500720, 0x4, 4, 0x0, 1, 0x0, 0x0, 0x0, 0x1, 0x0⟩ ]

/-- Registers of relay (R430). -/
def regRows17 : List RegRow :=
  [ ⟨"RELAY_CFG", 0x02A00000, 0x0, 1, 0x0, 1, 0x1FF, 0x0, 0x0, 0x0, 0x10A⟩,
    ⟨"RELAY_STATUS", 0x02A00004, 0x0, 1, 0x0, 1, 0x0, 0x0, 0x0, 0x0, 0x0⟩,
    ⟨"RELAY_CTRL", 0x02A00008, 0x0, 1, 0x0, 1, 0x0, 0x0, 0x0, 0xFFFF0003, 0x0⟩,
    ⟨"RELAY_PORTS", 0x02A0000C, 0x0, 1, 0x0, 1, 0x0, 0x0, 0x0, 0x0, 0x0⟩,
    ⟨"RELAY_TAKEOVER_US", 0x02A00010, 0x0, 1, 0x0, 1, 0x0, 0x0, 0x0, 0x0, 0x0⟩,
    ⟨"RELAY_OFFSET", 0x02A00014, 0x0, 1, 0x0, 1, 0x0, 0x0, 0x0, 0x0, 0x0⟩,
    ⟨"RELAY_HB_MISSED_LINK", 0x02A00020, 0x0, 1, 0x0, 1, 0x0, 0x0, 0xFFFFFFFF, 0x0, 0x0⟩,
    ⟨"RELAY_HB_MISSED_CHAIN", 0x02A00024, 0x0, 1, 0x0, 1, 0x0, 0x0, 0xFFFFFFFF, 0x0, 0x0⟩,
    ⟨"RELAY_SIG_MISMATCHES", 0x02A00028, 0x0, 1, 0x0, 1, 0x0, 0x0, 0xFFFFFFFF, 0x0, 0x0⟩,
    ⟨"RELAY_CUES_IGNORED", 0x02A0002C, 0x0, 1, 0x0, 1, 0x0, 0x0, 0xFFFFFFFF, 0x0, 0x0⟩,
    ⟨"RELAY_LINK_ERRORS", 0x02A00030, 0x0, 1, 0x0, 1, 0x0, 0x0, 0xFFFFFFFF, 0x0, 0x0⟩,
    ⟨"RELAY_DIGEST", 0x02A00040, 0x4, 8, 0x0, 1, 0x0, 0x0, 0x0, 0x0, 0x0⟩,
    ⟨"RELAY_PORT", 0x02A00100, 0x4, 16, 0x0, 1, 0x0, 0x0, 0x0, 0x0, 0x0⟩ ]

/-- Registers of housekeeping (R443). -/
def regRows18 : List RegRow :=
  [ ⟨"HK_CFG", 0x02C00000, 0x0, 1, 0x0, 1, 0xFFFF00, 0x0, 0x0, 0x0, 0x5F6E00⟩,
    ⟨"HK_STATUS", 0x02C00004, 0x0, 1, 0x0, 1, 0x0, 0x0, 0x0, 0x0, 0x0⟩,
    ⟨"HK_ROUNDS", 0x02C00008, 0x0, 1, 0x0, 1, 0x0, 0x0, 0x0, 0x0, 0x0⟩,
    ⟨"HK_SHUTDOWN", 0x02C00010, 0x0, 1, 0x0, 1, 0x0, 0x0, 0x0, 0x0, 0x0⟩,
    ⟨"HK_READING", 0x02C00100, 0x4, 16, 0x0, 1, 0x0, 0x0, 0x0, 0x0, 0x0⟩,
    ⟨"HK_CHAN_CFG", 0x02C00210, 0x4, 8, 0x0, 1, 0xFFFFFF00, 0x0, 0x0, 0x0, 0xFF000000⟩,
    ⟨"HK_SENSOR_CFG", 0x02C00310, 0x4, 4, 0x0, 1, 0xFFFFFFFF, 0x0, 0x0, 0x0, 0x3E84083⟩,
    ⟨"HK_SENSOR_CFG", 0x02C00320, 0x4, 4, 0x0, 1, 0xFFFFFFFF, 0x0, 0x0, 0x0, 0x3E80D6B⟩,
    ⟨"FABRIC_TRIM", 0x02E00000, 0x10, 4, 0x0, 1, 0x0, 0x0, 0x0, 0x0, 0x0⟩,
    ⟨"FABRIC_LINES", 0x02E00004, 0x10, 4, 0x0, 1, 0x0, 0x0, 0x0, 0x0, 0x0⟩,
    ⟨"MARGIN_LOW", 0x02E00008, 0x10, 4, 0x0, 1, 0x0, 0x0, 0xFFFFFFFF, 0x0, 0x0⟩ ]

/-- Registers of identity and seal (R449 to R457). -/
def regRows20 : List RegRow :=
  [ ⟨"ID_DEVICE", 0x00000000, 0x0, 1, 0x0, 1, 0x0, 0x0, 0x0, 0x0, 0x0⟩,
    ⟨"ID_REVISION", 0x00000004, 0x0, 1, 0x0, 1, 0x0, 0x0, 0x0, 0x0, 0x0⟩,
    ⟨"ID_VARIANT", 0x00000008, 0x0, 1, 0x0, 1, 0x0, 0x0, 0x0, 0x0, 0x0⟩,
    ⟨"ID_SCRATCH", 0x00000020, 0x0, 1, 0x0, 1, 0x0, 0xFFFFFFFF, 0x0, 0x0, 0x0⟩,
    ⟨"FEATURE", 0x00000010, 0x0, 1, 0x0, 1, 0x0, 0x0, 0x0, 0x0, 0x0⟩,
    ⟨"FEATURE_CAP", 0x00000014, 0x0, 1, 0x0, 1, 0x0, 0x0, 0x0, 0x0, 0x0⟩,
    ⟨"SEAL_STATUS", 0x00100200, 0x0, 1, 0x0, 1, 0x0, 0x0, 0x0, 0x0, 0x0⟩,
    ⟨"SEAL_SPLIT_LO", 0x00100204, 0x0, 1, 0x0, 1, 0x0, 0x0, 0x0, 0x0, 0x0⟩,
    ⟨"SEAL_SPLIT_HI", 0x00100208, 0x0, 1, 0x0, 1, 0x0, 0x0, 0x0, 0x0, 0x0⟩,
    ⟨"SEAL_VIOLATIONS", 0x0010020C, 0x0, 1, 0x0, 1, 0x0, 0x0, 0xFFFFFFFF, 0x0, 0x0⟩,
    ⟨"SEAL_LAST", 0x00100210, 0x0, 1, 0x0, 1, 0x0, 0x0, 0x0, 0x0, 0x0⟩ ]

/-- Every register of BAR0 (R458). -/
def regTable : List RegRow :=
  regRows02 ++ regRows03 ++ regRows04a ++ regRows04b ++ regRows05 ++ regRows06 ++ regRows07a ++ regRows07b ++ regRows08a ++ regRows08b ++ regRows09 ++ regRows10a ++ regRows10b ++ regRows11 ++ regRows12 ++ regRows13 ++ regRows14 ++ regRows15 ++ regRows16a ++ regRows16b ++ regRows17 ++ regRows18 ++ regRows20

/-- The register an offset names, or none (R450). -/
def regFind (off : Nat) : Option RegRow := regTable.find? (·.covers off)

/-- The reset value of a register's stored fields (the Reset columns of the field tables). -/
def regReset (off : Nat) : BitVec 32 :=
  match regFind off with
  | some r => BitVec.ofNat 32 r.rst
  | none => 0

/-- The reset value of the RWS fields of a register. -/
def rwsReset (off : Nat) : BitVec 32 :=
  match regFind off with
  | some r => BitVec.ofNat 32 (r.rst &&& r.rws)
  | none => 0

/-- The reset value of the RW fields of a register. -/
def rwReset (off : Nat) : BitVec 32 :=
  match regFind off with
  | some r => BitVec.ofNat 32 (r.rst &&& r.rw)
  | none => 0

end Sys2Proof.Machine
end

