-- ==== Sys2Proof/Config.lean ====
section
/-! DEFINITION. What the spec leaves open and each part fixes: the free values of the model. Every one is opaque, so nothing in Lean can
evaluate it and a claim holds whatever it is. Each is named in a row of notes/assumptions. -/

namespace Sys2Proof.Config

/-- The goal of a colour trim whose measured efficiency is zero, or whose E_k is zero (R121 divides by both). -/
opaque trimGoalZero : Nat → BitVec 32

/-- The temperature a thermistor channel reads for a resistance, RNOM and BETA where the formula of R433 gives an infinity or no number,
in 1/16 °C. -/
opaque thermistor : Nat → Nat → Nat → BitVec 16

/-- The temperature of a remote diode from its measurement and FACTOR (R433 gives no formula), in 1/16 °C. -/
opaque diodeScale : Int → Nat → BitVec 16

/-- The n-th value of a sequence nothing constrains: values the spec leaves undefined after an operation that goes on. -/
opaque freeWord : Nat → BitVec 32

/-- The byte an address of HBM holds before anything has been written there (R42: unspecified). -/
opaque hbmByte : Nat → BitVec 8

/-- The number a record or a field carries for a choice that the spec names but does not number, by event or fault and choice: the
cause of PACER_SURGE and SEC_ZEROISED, the kinds of TRIAL_REVERTED, the level kind of HK_LEVEL, the field of MEM_SETTING_DEFAULTED,
the reason of MEM_TRAIN_FAILED, the test of SEC_SELFTEST_FAILED, the CODE of a header or re-erase record, and the TTL of a PTP event
message over UDP. -/
opaque code : Nat → Nat → BitVec 32

/-- The rate estimate of a source after a measurement, in units of 2^−32, from its number, the span of its time and the span of the
counter's (R233 gives its use, not its filter). -/
opaque rateEstimate : Nat → Int → Int → BitVec 32

/-- The filtered offset of a PTP slot's master, in ns, from the previous filtered offset and the measured one, each in units of
1/655,360 ns (R233 names the filter and gives none). -/
opaque offsetFilter : Int → Int → BitVec 64

/-- The pull-in term for an offset in ns, in units of 2^−32 of the increment, before the limit of R233. -/
opaque pullIn : Int → BitVec 32

/-- The n-th block of the random bit generator's output (R368 gives its tests, not its bits). -/
opaque drbgByte : Nat → Nat → BitVec 8

/-- E' of a linear monitor value (binary32) above 10,000 cd/m² with MON_PQ_REF, in units of 2^−31 (R217: outside the domain of the
inverse of ST 2084). -/
opaque pqInverse : Nat → Nat → BitVec 32

/-- How far a monitor code lies from the exactly rounded one, modulo 3, less 1 (R217: within ±1). -/
opaque monOff : Nat → BitVec 2

/-- SSRC of the monitor flow (R218 gives none). -/
opaque monSsrc : BitVec 32

end Sys2Proof.Config
end

