-- ==== Sys2Proof/Machine/Float.lean ====
section
/-! DEFINITION. IEEE 754 binary16 and binary32 arithmetic, rounding to nearest with ties to even, as the data plane uses it
(R46, R49, R51, R52, R67, R206, R254): exact dyadic arithmetic and one rounding per operation. Subnormals are kept. -/

namespace Sys2Proof.Machine

/-- A binary floating value: sign, significand and exponent of a finite value ±m × 2^e, an infinity or a NaN. -/
inductive Fl where
  | fin (neg : Bool) (m : Nat) (e : Int)
  | inf (neg : Bool)
  | nan
  deriving DecidableEq, Repr

/-- Shift right by `k` bits, rounding to nearest, ties to even. -/
def shrRne (m k : Nat) : Nat :=
  let q := m >>> k
  let r := m - (q <<< k)
  if 2 * r < 2 ^ k then q
  else if 2 ^ k < 2 * r then q + 1
  else if k == 0 then q
  else q + q % 2

/-- Bit length of a number. -/
def bitLen (m : Nat) : Nat := if m == 0 then 0 else m.log2 + 1

/-- Round ±m × 2^e to a format of precision `p` and lowest exponent `emin`: the magnitude's bits, the sign apart. -/
def roundMag (p : Nat) (emin : Int) (m : Nat) (e : Int) : Nat :=
  if m == 0 then 0
  else
    let lead : Int := e + bitLen m - 1
    let qmin : Int := emin - (p - 1 : Nat)
    let q : Int := max (lead - (p - 1 : Nat)) qmin
    let m' := if q ≤ e then m <<< (e - q).toNat else shrRne m (q - e).toNat
    (q - qmin).toNat * 2 ^ (p - 1) + m'

/-- The bits of binary32. -/
def Fl.to32 : Fl → Nat
  | .nan => 0x7FC00000
  | .inf n => (b2n n) * 0x80000000 + 0x7F800000
  | .fin n m e => (b2n n) * 0x80000000 + min (roundMag 24 (-126) m e) 0x7F800000

/-- The value of a binary32 pattern. -/
def Fl.of32 (b : Nat) : Fl :=
  let n := nbit b 31
  let x := nfld b 30 23
  let f := nfld b 22 0
  if x == 255 then (if f == 0 then .inf n else .nan)
  else if x == 0 then .fin n f (-149)
  else .fin n (f + 8388608) ((x : Int) - 150)

/-- The bits of binary16. -/
def Fl.to16 : Fl → Nat
  | .nan => 0x7E00
  | .inf n => (b2n n) * 0x8000 + 0x7C00
  | .fin n m e => (b2n n) * 0x8000 + min (roundMag 11 (-14) m e) 0x7C00

/-- The value of a binary16 pattern. -/
def Fl.of16 (b : Nat) : Fl :=
  let n := nbit b 15
  let x := nfld b 14 10
  let f := nfld b 9 0
  if x == 31 then (if f == 0 then .inf n else .nan)
  else if x == 0 then .fin n f (-24)
  else .fin n (f + 1024) ((x : Int) - 25)

/-- The signed significand of a finite value at a lower exponent. -/
def scaled (neg : Bool) (m : Nat) (e q : Int) : Int :=
  let v : Int := (m <<< (e - q).toNat : Nat)
  if neg then -v else v

/-- Round to binary32 and read back: the value an operation leaves. -/
def Fl.r32 (x : Fl) : Fl := .of32 x.to32

/-- The exact sum of two values; an exact zero sum is positive unless both are negative. -/
def Fl.addX : Fl → Fl → Fl
  | .nan, _ => .nan
  | _, .nan => .nan
  | .inf a, .inf b => if a == b then .inf a else .nan
  | .inf a, _ => .inf a
  | _, .inf b => .inf b
  | .fin a m e, .fin b n f =>
    let q := min e f
    let s := scaled a m e q + scaled b n f q
    if s == 0 then .fin (a && b) 0 q else .fin (s < 0) s.natAbs q

/-- The exact product of two values. -/
def Fl.mulX : Fl → Fl → Fl
  | .nan, _ => .nan
  | _, .nan => .nan
  | .inf a, .inf b => .inf (a != b)
  | .inf a, .fin b n _ => if n == 0 then .nan else .inf (a != b)
  | .fin a m _, .inf b => if m == 0 then .nan else .inf (a != b)
  | .fin a m e, .fin b n f => .fin (a != b) (m * n) (e + f)

/-- Negation. -/
def Fl.neg : Fl → Fl
  | .nan => .nan
  | .inf a => .inf (!a)
  | .fin a m e => .fin (!a) m e

/-- binary32 sum. -/
def Fl.add (x y : Fl) : Fl := (x.addX y).r32
/-- binary32 difference. -/
def Fl.sub (x y : Fl) : Fl := (x.addX y.neg).r32
/-- binary32 product. -/
def Fl.mul (x y : Fl) : Fl := (x.mulX y).r32
/-- binary32 fused multiply-add x × y + z, rounded once. -/
def Fl.fma (x y z : Fl) : Fl := ((x.mulX y).addX z).r32

/-- binary32 quotient of finite values: the exact quotient to 64 extra bits with a sticky bit, rounded once. -/
def Fl.div : Fl → Fl → Fl
  | .nan, _ => .nan
  | _, .nan => .nan
  | .inf a, .inf b => if a == b then .nan else .nan
  | .inf a, .fin b _ _ => .inf (a != b)
  | .fin a _ _, .inf b => .fin (a != b) 0 0
  | .fin a m e, .fin b n f =>
    if n == 0 then (if m == 0 then .nan else .inf (a != b))
    else
      let k := 64 + bitLen n
      let q := (m <<< k) / n
      let st := if (m <<< k) % n == 0 then 0 else 1
      (Fl.fin (a != b) (2 * q + st) (e - f - k - 1)).r32

/-- A natural number as a value. -/
def Fl.ofNat (n : Nat) : Fl := .fin false n 0
/-- An integer over 2^k as a value. -/
def Fl.ofInt (x : Int) (k : Nat) : Fl := .fin (x < 0) x.natAbs (-(k : Int))

/-- The value is negative and not zero. -/
def Fl.isNeg : Fl → Bool
  | .fin n m _ => n && m != 0
  | .inf n => n
  | .nan => false

/-- The value is zero. -/
def Fl.isZero : Fl → Bool
  | .fin _ m _ => m == 0
  | _ => false

/-- Whether x < y for finite values and infinities. -/
def Fl.lt (x y : Fl) : Bool :=
  match x.addX y.neg with
  | .nan => false
  | d => d.isNeg

/-- Clamp to 0.0 … 1.0. -/
def Fl.clamp01 (x : Fl) : Fl :=
  if x.isNeg then .fin false 0 0 else if (Fl.ofNat 1).lt x then .ofNat 1 else x

/-- Sanitise a value (R46): a NaN becomes 0.0, an infinity the largest binary16 magnitude of its sign. -/
def Fl.sane : Fl → Fl
  | .nan => .fin false 0 0
  | .inf n => .fin n 65504 0
  | x => x

/-- Round a finite value to an integer, half to even. -/
def Fl.rne : Fl → Int
  | .fin n m e =>
    let v : Int := if 0 ≤ e then ((m <<< e.toNat : Nat) : Int) else (shrRne m (-e).toNat : Nat)
    if n then -v else v
  | _ => 0

/-- Floor of a non-negative finite value times 2^k. -/
def Fl.floorMul (x : Fl) (k : Nat) : Nat :=
  match x with
  | .fin false m e => if 0 ≤ e + k then m <<< (e + k).toNat else m >>> (-(e + k)).toNat
  | _ => 0

/-- A canvas value (R52): rounded once to binary16, held to ±65504, with zero always positive. -/
def Fl.canvas (x : Fl) : Nat :=
  let b := x.sane.to16
  let mag := b % 32768
  if mag == 0 then 0 else (b / 32768) * 32768 + min mag 0x7BFF

end Sys2Proof.Machine
end

