-- ==== Sys2Proof/Machine/Wall.lean ====
section
/-! DEFINITION. Laps, legs and splits (01_wall_model.md): split arithmetic, the lap plan record (R103, Table 4.1) with the times it
fixes, and the exact boundaries of R33. -/

namespace Sys2Proof.Machine

/-- 10^9, the nanoseconds of a second. -/
def giga : Nat := 1000000000

/-- The split of a wall time in nanoseconds (R30). -/
def splitOf (ns : Int) : Nat := (ns % (2 ^ 40 : Int)).toNat

/-- The signed distance of two splits, a 40-bit two's complement number (R31). -/
def splitDiff (a b : Nat) : Int := sint 40 ((a + 2 ^ 40 - b % 2 ^ 40) % 2 ^ 40)

/-- `a` is after `b` (R31); the distance −2^39 counts as before. -/
def splitAfter (a b : Nat) : Bool := 0 < splitDiff a b

/-- How far ahead of its acceptance a split may lie, ns: 549 s (R32). -/
def splitReach : Int := 549000000000

/-- Whether a split at distance `d` from the acceptance instant lies ahead of it; one farther ahead than 549 s counts as past (R32). -/
def splitAhead (d : Int) : Bool := decide (0 < d) && decide (d ≤ splitReach)

/-- A lap plan record as loaded (Table 4.1). `tint` holds nine coefficients for each view; `badRes` says that a reserved
field of the record is not zero or a leg beyond the leg count is not. -/
structure LapPlan where
  num       : Nat
  lineOrder : Nat
  lines     : Nat
  strides   : Nat
  legs      : Nat
  rateD     : Nat
  rateN     : Nat
  legView   : List Nat
  winOff    : List Nat
  winLen    : List Nat
  tint      : List (List Word)
  badRes    : Bool
  deriving DecidableEq, Repr

/-- A word of a record, zero beyond its end. -/
def wAt (ws : List Word) (i : Nat) : Word := ws.getD i 0

/-- A matrix word is ill-formed (R43): its bits 31 to 20 do not all equal bit 19. -/
def tintIll (w : Word) : Bool :=
  let hi := wfld w 31 19
  !(hi == 0 || hi == 0x1FFF)

/-- The lap plan record of 92 words (R103). -/
def LapPlan.parse (ws : List Word) : LapPlan :=
  let w0 := wAt ws 0
  let w1 := wAt ws 1
  let legs := wfld w0 9 7 + 1
  let views := (List.range 8).map fun j => nfld ((wAt ws 2).toNat) (4 * j + 2) (4 * j)
  let offs := (List.range 8).map fun j => (wAt ws (3 + 2 * j)).toNat
  let lens := (List.range 8).map fun j => (wAt ws (4 + 2 * j)).toNat
  let tint := (List.range 8).map fun v => (List.range 9).map fun i => wAt ws (19 + 9 * v + i)
  let badLeg := (List.range 8).any fun j =>
    nbit (wAt ws 2).toNat (4 * j + 3) ||
    (legs ≤ j && (views.getD j 0 != 0 || offs.getD j 0 != 0 || lens.getD j 0 != 0))
  { num := wfld w0 2 0, lineOrder := wfld w0 23 22, lines := wfld w0 21 16 + 1, strides := wfld w0 15 10 + 1, legs := legs
    rateD := if wbit w1 31 then 1001 else 1000, rateN := wfld w1 17 0
    legView := views, winOff := offs, winLen := lens, tint := tint
    badRes := wfld w0 31 24 != 0 || wfld w0 6 3 != 0 || wfld w1 30 18 != 0 || wAt ws 91 != 0 || badLeg }

/-- The numerator of the lap period in nanoseconds, over `rateN` (R25): P = D × 10^9 / N. -/
def LapPlan.pNum (p : LapPlan) : Nat := p.rateD * giga

/-- Half the lap period in whole nanoseconds (R255). -/
def LapPlan.halfLap (p : LapPlan) : Nat := p.rateD * 1000000000 / (2 * p.rateN)

/-- The denominator of a leg period: P / L = D × 10^9 / (N × L). -/
def LapPlan.legDen (p : LapPlan) : Nat := p.rateN * p.legs

/-- Global leg boundary `m` in wall nanoseconds: the first whole nanosecond at or after epoch + m × P / L (R33). -/
def LapPlan.legAt (p : LapPlan) (epoch : Nat) (m : Int) : Int := (epoch : Int) + ceilDivI (m * p.pNum) p.legDen

/-- Lap boundary `k` (R33). -/
def LapPlan.lapAt (p : LapPlan) (epoch : Nat) (k : Int) : Int := (epoch : Int) + ceilDivI (k * p.pNum) p.rateN

/-- The first global leg boundary at or after a wall time (R33). Boundary m is at or after `t` exactly when its exact
instant lies above t − 1 ns. -/
def LapPlan.legFrom (p : LapPlan) (epoch : Nat) (t : Int) : Int :=
  if p.pNum == 0 then 0 else ((t - epoch - 1) * p.legDen) / (p.pNum : Int) + 1

/-- The first lap boundary at or after a wall time. -/
def LapPlan.lapFrom (p : LapPlan) (epoch : Nat) (t : Int) : Int :=
  if p.pNum == 0 then 0 else ((t - epoch - 1) * p.rateN) / (p.pNum : Int) + 1

/-- The first lap boundary strictly after a wall time. -/
def LapPlan.lapAfter (p : LapPlan) (epoch : Nat) (t : Int) : Int := p.lapFrom epoch (t + 1)

/-- The first wall time, whole nanoseconds, at or after `t` plus `n` lap periods plus `us` microseconds, as an exact
comparison of lap boundaries needs it: a boundary is at or after an instant exactly when it is at or after its ceiling. -/
def LapPlan.plusLaps (p : LapPlan) (t : Int) (n us : Nat) : Int :=
  t + ceilDivI ((n * p.pNum : Nat) : Int) p.rateN + (us * 1000 : Nat)

/-- The view shown in leg `j`. -/
def LapPlan.view (p : LapPlan) (j : Nat) : Nat := p.legView.getD j 0

/-- The leg of a view, if the plan enables it (R22, R23). -/
def LapPlan.legOf (p : LapPlan) (v : Nat) : Option Nat := (List.range p.legs).find? fun j => p.view j == v

/-- Whether a view is enabled (R22). -/
def LapPlan.enables (p : LapPlan) (v : Nat) : Bool := (p.legOf v).isSome

/-- Lap rates are compared by value (R36). -/
def LapPlan.sameRate (a b : LapPlan) : Bool := a.rateN * b.rateD == b.rateN * a.rateD

/-- Whether a change between two plans needs a dark lap (R36). -/
def LapPlan.needsDark (a b : LapPlan) : Bool :=
  !(a.sameRate b) || a.legs != b.legs || a.strides != b.strides || a.lines != b.lines || a.lineOrder != b.lineOrder

/-- Length of a line slot in leg `j`, ns (R108). -/
def LapPlan.slotLen (p : LapPlan) (j : Nat) : Nat := p.winLen.getD j 0 / (p.strides * p.lines)

/-- Start of stride `i` of leg `j` after the window opens, ns (R108). -/
def LapPlan.strideStart (p : LapPlan) (j i : Nat) : Nat := i * p.winLen.getD j 0 / p.strides

/-- Start of the slot of the line at position `q` in stride `i`, after the window opens, ns (R108). -/
def LapPlan.slotStart (p : LapPlan) (j i q : Nat) : Nat := (i * p.lines + q) * p.winLen.getD j 0 / (p.strides * p.lines)

/-- The scan line of lamp `s` of a tile of `n` lamps (R108). -/
def LapPlan.lineOf (p : LapPlan) (n s : Nat) : Nat := if n == 0 then 0 else s * p.lines / n

/-- Bit reversal of `k` bits, for LINE_ORDER 2 (R103). -/
def bitRev : Nat → Nat → Nat
  | 0, _ => 0
  | k + 1, n => (n % 2) * 2 ^ k + bitRev k (n / 2)

/-- The position of scan line `l` in a stride (R103). -/
def LapPlan.linePos (p : LapPlan) (l : Nat) : Nat :=
  match p.lineOrder with
  | 1 => if l % 2 == 0 then l / 2 else (p.lines + 1) / 2 + l / 2
  | 2 => bitRev p.lines.log2 l
  | _ => l

/-- Whether a number is a power of two. -/
def isPow2 (n : Nat) : Bool := n != 0 && 2 ^ n.log2 == n

/-- Guard of leg `j` after its window closes, to the opening of the next window in the lap taken cyclically, as a rational
over `legDen` (R125). -/
def LapPlan.gapNum (p : LapPlan) (j : Nat) : Int :=
  let nx := if j + 1 < p.legs then j + 1 else 0
  (p.pNum : Int) + ((p.winOff.getD nx 0 : Int) - (p.winOff.getD j 0 + p.winLen.getD j 0 : Nat)) * p.legDen

end Sys2Proof.Machine
end

