-- ==== Sys2Proof/Machine/DriveMath.lean ====
section
/-! DEFINITION. The arithmetic of drive synthesis (04_drive_synthesis.md): current steps, the longest pulse, the drive word and
its playback, duty, pre-charge, derating and trim. Integers are exact (R114). -/

namespace Sys2Proof.Machine

/-- IQ[c] of R112: round_half_even(65536 × 2^(−4c/31)). -/
def iqTable : List Nat :=
  [65536, 59929, 54802, 50113, 45826, 41905, 38320, 35041, 32043, 29302, 26795, 24503, 22406, 20489, 18736, 17133,
   15667, 14327, 13101, 11980, 10955, 10018, 9161, 8377, 7661, 7005, 6406, 5858, 5357, 4898, 4479, 4096]

/-- The current of a step, in 65536ths of full current (R112). -/
def iq (c : Nat) : Nat := iqTable.getD c 4096

/-- A tile type record (Table 13.8, Table 4.3). -/
structure TileType where
  id      : Nat
  lamps   : Nat
  tb      : Nat
  minSlot : Nat
  capMax  : Nat
  detFloor : Nat
  pmin    : Nat
  lineMask : Nat
  tknee   : Int
  tref    : Int
  preDark : Nat
  warmStep : Nat
  slope   : Nat
  pre     : List Nat        -- PRECHARGE[0..31]
  senseK  : List Nat
  senseMin : List Nat
  ht      : Nat
  wt      : Nat
  gw      : List Nat
  badRes  : Bool
  deriving DecidableEq, Repr

/-- Wt_j of R109: the longest pulse in ticks of 1.25 ns. -/
def wt (ty : TileType) (p : LapPlan) (j : Nat) : Int := ((p.slotLen j : Int) - ty.tb) * 4 / 5

/-- shift_j of R109, if one of 0 to 3 fits. -/
def pulseShift (ty : TileType) (p : LapPlan) (j : Nat) : Option Nat :=
  (List.range 4).find? fun k => wt ty p j / (2 ^ k : Nat) ≤ 65535

/-- The shift, 0 where none fits (such a plan is unusable with code 7). -/
def shiftOf (ty : TileType) (p : LapPlan) (j : Nat) : Nat := (pulseShift ty p j).getD 0

/-- Wmax_j of R109 in units U_j. -/
def wmax (ty : TileType) (p : LapPlan) (j : Nat) : Nat := (wt ty p j / (2 ^ shiftOf ty p j : Nat)).toNat

/-- PMIN_j of R109 in units U_j. -/
def pminJ (ty : TileType) (p : LapPlan) (j : Nat) : Nat := ceilDiv ty.pmin (2 ^ shiftOf ty p j)

/-- The fields of a drive word (Table 4.4). -/
structure DriveWord where
  cur   : Nat
  dither : Bool
  width : Nat               -- WIDTH, or COUNT in MODE 1
  frac  : Nat
  deriving DecidableEq, Repr

/-- The dark word (R111). -/
def DriveWord.dark : DriveWord := ⟨0, false, 0, 0⟩

/-- The 24 bits of a drive word (Table 4.4). -/
def DriveWord.bits (w : DriveWord) : Nat :=
  if w.dither then at_ w.cur 19 + at_ 1 18 + at_ w.width 11 else at_ w.cur 19 + at_ w.width 2 + w.frac

/-- A word is dark when its mode is 0 and it has no width (R111). -/
def DriveWord.isDark (w : DriveWord) : Bool := !w.dither && w.width == 0 && w.frac == 0

/-- T1 of R114: the target with the tile's trim. -/
def trimmed (t : Nat) (tr : Int) : Nat :=
  min (2 ^ 24) ((((t : Int) * (65536 + tr) + 2 ^ 15) / 65536).toNat)

/-- The largest step from `cc` to 31 whose full width reaches T1. -/
def stepFor (cc t1 : Nat) : Nat :=
  ((List.range 32).filter fun c => cc ≤ c && t1 ≤ iq c * 256).getLastD cc

/-- The drive word of R114 with whether it was clipped at the cap. `n` is the strides, `wm` is Wmax_j and `pm` is PMIN_j. -/
def driveWord (t : Nat) (tr : Int) (cc n wm pm : Nat) : DriveWord × Bool :=
  let t1 := trimmed t tr
  if t1 == 0 then (.dark, false)
  else if iq cc * 256 < t1 then (⟨cc, false, wm, 0⟩, true)
  else
    let c := stepFor cc t1
    let q := (4 * wm * t1 + iq c * 128) / (iq c * 256)
    if c < 31 || 4 * pm ≤ q then (⟨c, false, q / 4, q % 4⟩, false)
    else
      let k := (n * q + 2 * pm) / (4 * pm)
      if k == 0 then (.dark, false) else (⟨31, true, k, 0⟩, false)

/-- phi of R113. -/
def phi (s : Nat) : Nat := 37 * s % 64

/-- Whether stride `i` of `n` is chosen among `k` for the lamp of scan order `s` (R113). -/
def chosen (s n i k : Nat) : Bool :=
  let i' := (i + phi s) % n
  i' * k / n < (i' + 1) * k / n

/-- The units lit in stride `i` by a word, at its current step (R113). -/
def litUnits (w : DriveWord) (s n pm i : Nat) : Nat :=
  if w.dither then (if chosen s n i w.width then pm else 0)
  else w.width + (if chosen s n i (w.frac * n / 4) then 1 else 0)

/-- light_j of R115. -/
def lightOf (w : DriveWord) (n pm : Nat) : Nat :=
  if w.dither then w.width * pm * iq 31 else (n * w.width + w.frac * n / 4) * iq w.cur

/-- The duty of R115 over a lamp's words by leg; `lit` says that a leg is not of a dark lap. U_j is 5/4 × 2^shift ns, so
with P = pNum / rateN every term is over 4 × 65536 and the quotient is exact. -/
def dutyOf (ty : TileType) (p : LapPlan) (ws : List DriveWord) : Nat :=
  let sum := ((List.range p.legs).map fun j =>
    lightOf (ws.getD j .dark) p.strides (pminJ ty p j) * (5 * 2 ^ shiftOf ty p j)).foldl (· + ·) 0
  -- duty = floor((2^20 × sum / (4 × 65536) + P/2) / P) = floor((8 × sum × N + pNum) / (2 × pNum))
  if p.pNum == 0 then 0 else (8 * sum * p.rateN + p.pNum) / (2 * p.pNum)

/-- The longest pulse of a word in units of 1.25 ns, for the checkable flag of R122. -/
def longestTicks (ty : TileType) (p : LapPlan) (j : Nat) (w : DriveWord) : Nat :=
  let u := 2 ^ shiftOf ty p j
  if w.dither then pminJ ty p j * u else (if 0 < w.frac then w.width + 1 else w.width) * u

/-- A word is checkable when its longest pulse is at least DET_FLOOR (R122). -/
def checkable (ty : TileType) (p : LapPlan) (j : Nat) (w : DriveWord) : Bool :=
  ty.detFloor * 4 ≤ longestTicks ty p j w * 5 && ty.detFloor != 0

/-- PRE[l] of R116 from the words of a tile's lamps in one leg, in scan order. -/
def preCode (ty : TileType) (p : LapPlan) (n : Nat) (ws : List DriveWord) (l : Nat) : Nat :=
  let cs := (ws.zipIdx.filter fun x => p.lineOf n x.2 == l && !x.1.isDark).map fun x => x.1.cur
  match cs with
  | [] => ty.preDark
  | c :: r => ty.pre.getD (r.foldl min c) 0

/-- The cap step the temperature asks for (R118). -/
def capStep (ty : TileType) (tm : Int) : Nat :=
  let capq : Int := if tm ≤ ty.tknee then 65536 else max 4096 (65536 - (ty.slope : Int) * (tm - ty.tknee))
  min ty.capMax ((List.range 32).find? (fun c => (iq c : Int) ≤ capq) |>.getD 31)

/-- The tile's cap step after one evaluation (R119): a rise at once, a fall only with 1 °C of hysteresis. -/
def nextCap (ty : TileType) (tm : Int) (cc : Nat) : Nat :=
  let c := capStep ty tm
  if cc < c then c
  else if c < cc && capStep ty (tm + 16) < cc then c
  else cc

/-- One trim update of R121 for a used reading: the new trim. The rule divides by e_k, and e_k by E_k: where either is 0 the goal is a free
value (log 24). -/
def nextTrim (sk k : Nat) (e ref : Nat) (tr : Int) : Int :=
  let ek := sk * k / e
  let goal : Int := if e == 0 || ek == 0 then (Config.trimGoalZero ref).toInt else (((2 ^ 17 * ref + ek) / (2 * ek) : Nat) : Int) - 65536
  let goal := clampI (-1966) 1966 goal
  tr + clampI (-65) 65 (goal - tr)

/-- Reasons of Table 4.2 that a tile type gives (codes 6, 7 and 8). -/
def typeReasons (p : LapPlan) (ty : TileType) : List Nat :=
  let legs := List.range p.legs
  (if legs.any fun j => p.slotLen j < ty.minSlot then [6] else []) ++
  (if legs.any fun j => (pulseShift ty p j).isNone || wt ty p j / (2 ^ shiftOf ty p j : Nat) < (pminJ ty p j : Int) then [7] else []) ++
  (if !(nbit ty.lineMask (p.lines - 1)) then [8] else [])

/-- The probe leg of R125 for a type's DET_FLOOR: the lowest leg whose gap is at least DET_FLOOR + 1000 ns. -/
def probeLeg (p : LapPlan) (detFloor : Nat) : Option Nat :=
  (List.range p.legs).find? fun j => ((detFloor + 1000 : Nat) : Int) * p.legDen ≤ p.gapNum j

end Sys2Proof.Machine
end

