-- ==== Sys2Proof/Machine/StCfg.lean ====
section
/-! DEFINITION. The configuration as the device holds it after SB2 (13_configuration_image.md, R335 to R339): every record type of
Table 13.5. Records with a long field table (scenes, curves, flows, host surfaces) keep their words, and the accessors of
their fields stand with the chapter that reads them. -/

namespace Sys2Proof.Machine

/-- A numbered record kept as its little-endian words. -/
structure NumRec where
  num   : Nat
  words : List Word
  deriving DecidableEq, Repr

/-- A VIEW record (Table 13.7). -/
structure ViewRec where
  view : Nat
  w    : Nat
  h    : Nat
  deriving DecidableEq, Repr

/-- A PLACEMENT record (Table 13.9). -/
structure Placement where
  typeId : Nat
  pos    : Nat
  port   : Nat
  mat    : List Int         -- A, B, C, D, signed 16.16
  tx     : Int              -- signed 20.12
  ty     : Int
  wrot   : Nat
  wx     : Nat
  wy     : Nat
  tileId : Nat
  words  : List Word
  deriving DecidableEq, Repr

/-- A RELAY record (Table 13.10). -/
structure RelayRec where
  shared  : Nat
  partner : Nat
  standby : Bool            -- ROLE: prefers standby
  enable  : Bool
  deriving DecidableEq, Repr

/-- A SCHEDULE entry (Table 13.11), with the next occurrence to consider (R339). -/
structure Sched where
  sec    : Nat
  ns     : Nat
  period : Nat
  kind   : Nat
  num    : Nat
  fade   : Bool
  trans  : Nat
  deriving DecidableEq, Repr

/-- An excluded rectangle for probes (TYPE 0x000F). -/
structure Rect where
  x0 : Nat
  y0 : Nat
  x1 : Nat
  y1 : Nat
  deriving DecidableEq, Repr

/-- The configuration in force. -/
structure Cfg where
  loaded   : Bool
  warmKind : Nat
  warmId   : Nat
  initScene : Nat
  initPlan : Nat
  devNum   : Nat
  epochSec : Nat
  epochNs  : Nat
  holdTime : Nat
  holdStep : Nat
  minWidth : Nat
  minSpeed : Nat
  views    : List ViewRec
  types    : List TileType
  places   : List Placement
  plans    : List LapPlan
  warm     : LapPlan
  scenes   : List NumRec
  curves   : List NumRec
  flows    : List NumRec
  surfs    : List NumRec
  tileKeys : List (Nat × List Byte)
  cueKey   : Option (List Byte)
  macsec   : List (List Byte)
  regs     : List (Nat × Word)
  exclude  : List Rect
  warmLut  : Option (List Nat)
  relay    : Option RelayRec
  sched    : List Sched
  hash     : List Byte
  version  : Nat
  deriving DecidableEq, Repr

/-- The lap epoch in nanoseconds (R33). -/
def Cfg.epoch (c : Cfg) : Nat := c.epochSec * giga + c.epochNs

/-- A plan by number. -/
def Cfg.plan? (c : Cfg) (n : Nat) : Option LapPlan := c.plans.find? (·.num == n)

/-- A view record by number. -/
def Cfg.view? (c : Cfg) (v : Nat) : Option ViewRec := c.views.find? (·.view == v)

/-- A tile type by TYPE_ID. -/
def Cfg.type? (c : Cfg) (t : Nat) : Option TileType := c.types.find? (·.id == t)

/-- A numbered record. -/
def recOf? (l : List NumRec) (n : Nat) : Option NumRec := l.find? (·.num == n)

/-- A lap plan with every field at its lowest value, in force before any configuration is loaded. -/
def LapPlan.none : LapPlan :=
  { num := 0, lineOrder := 0, lines := 1, strides := 1, legs := 1, rateD := 1000, rateN := 60000
    legView := [0, 0, 0, 0, 0, 0, 0, 0], winOff := [], winLen := [], tint := [], badRes := false }

/-- The configuration before SB2: nothing loaded. -/
def Cfg.empty : Cfg :=
  { loaded := false, warmKind := 0, warmId := 0, initScene := 0, initPlan := 0, devNum := 0, epochSec := 0, epochNs := 0
    holdTime := 0, holdStep := 0, minWidth := 0, minSpeed := 0, views := [], types := [], places := [], plans := []
    warm := .none, scenes := [], curves := [], flows := [], surfs := [], tileKeys := [], cueKey := none, macsec := []
    regs := [], exclude := [], warmLut := none, relay := none, sched := [], hash := [], version := 0 }

end Sys2Proof.Machine
end

