-- ==== Sys2Proof/Machine/Compose.lean ====
section
/-! DEFINITION. Scene records and the arithmetic of composition (02_scenes_and_composition.md): layer descriptors, source
conversion, scaling, blending, fades and the usability conditions of Table 2.4 that need no capacity. -/

namespace Sys2Proof.Machine

/-- A layer descriptor (Table 2.1). `badRes` says that a reserved field is not zero. -/
structure Layer where
  kind   : Nat
  id     : Nat
  straight : Bool
  useAlpha : Bool
  group  : Nat
  patience : Nat
  cropY  : Nat
  cropX  : Nat
  cropH  : Nat
  cropW  : Nat
  dstY   : Int
  dstX   : Int
  dstH   : Nat
  dstW   : Nat
  freeze : Nat
  alpha  : Nat
  solid  : List Nat         -- R, G, B, A of a solid layer, binary16
  badRes : Bool
  deriving DecidableEq, Repr

/-- The layer descriptor of 16 words. -/
def Layer.parse (ws : List Word) : Layer :=
  let w i := wAt ws i
  { kind := wfld (w 0) 31 30, id := wfld (w 0) 29 24, straight := wbit (w 0) 23, useAlpha := wbit (w 0) 22
    group := wfld (w 0) 21 19, patience := wfld (w 0) 15 8
    cropY := wfld (w 1) 29 16, cropX := wfld (w 1) 13 0, cropH := wfld (w 2) 30 16, cropW := wfld (w 2) 14 0
    dstY := sint 16 (wfld (w 3) 31 16), dstX := sint 16 (wfld (w 3) 15 0)
    dstH := wfld (w 4) 30 16, dstW := wfld (w 4) 14 0, freeze := wfld (w 5) 31 16, alpha := wfld (w 5) 15 0
    solid := [wfld (w 6) 15 0, wfld (w 6) 31 16, wfld (w 7) 15 0, wfld (w 7) 31 16]
    badRes := wfld (w 0) 18 16 != 0 || wfld (w 0) 7 0 != 0 || wfld (w 1) 31 30 != 0 || wfld (w 1) 15 14 != 0 ||
      wbit (w 2) 31 || wbit (w 2) 15 || wbit (w 4) 31 || wbit (w 4) 15 || (List.range 8).any (fun i => w (8 + i) != 0) }

/-- A view block of a scene record: 1040 bytes, 260 words (R336). -/
structure ViewBlock where
  bg     : List Nat         -- R, G, B of the background, binary16
  badRes : Bool
  layers : List Layer
  deriving DecidableEq, Repr

/-- View block `v` of a scene record: after the 16-byte header, background, 8 reserved bytes, then L0 to L15. -/
def viewBlock (ws : List Word) (v : Nat) : ViewBlock :=
  let b := 4 + 260 * v
  { bg := [wfld (wAt ws b) 15 0, wfld (wAt ws b) 31 16, wfld (wAt ws (b + 1)) 15 0]
    badRes := wAt ws (b + 2) != 0 || wAt ws (b + 3) != 0
    layers := (List.range 16).map fun i => Layer.parse ((ws.drop (b + 4 + 16 * i)).take 16) }

/-- Reserved bits of a scene record's header (R336). -/
def sceneHeaderBad (ws : List Word) : Bool :=
  (wAt ws 0).toNat / 64 != 0 || wAt ws 1 != 0 || wAt ws 2 != 0 || wAt ws 3 != 0

/-- A layer in use. -/
def Layer.used (l : Layer) : Bool := l.kind != 0

/-- A layer that needs a scaler (R47). -/
def Layer.scaled (l : Layer) : Bool := l.cropW != l.dstW || l.cropH != l.dstH

/-- Round a quotient to nearest, ties to even. -/
def divRne (a b : Nat) : Nat :=
  if b == 0 then 0 else
  let q := a / b
  let r := a % b
  if 2 * r < b then q else if b < 2 * r then q + 1 else q + q % 2

/-- A step of R48, with 24 fraction bits. -/
def stepOf (crop dst : Nat) : Nat := divRne (crop * 2 ^ 24) dst

/-- The source position of a destination pixel (R48): the lower source pixel and the 12-bit weight of the next. -/
def srcPos (c0 crop dst i : Nat) : Int × Nat :=
  let u : Int := (c0 * 2 ^ 25 + (2 * i + 1) * stepOf crop dst : Nat) - (2 ^ 24 : Nat)
  (u / (2 ^ 25 : Nat), ((u % (2 ^ 25 : Nat)).toNat) / 2 ^ 13)

/-- A step within 1/64 to 2 (R47). -/
def stepOk (crop dst : Nat) : Bool := dst ≤ 64 * crop && crop ≤ 2 * dst

/-- One source pixel's channel values, R, G, B, A. -/
abbrev Px := List Fl

/-- A channel of a pixel. -/
def chan (p : Px) (i : Nat) : Fl := p.getD i (.fin false 0 0)

/-- Sanitise and premultiply a source pixel (R46). -/
def Layer.source (l : Layer) (p : Px) : Px :=
  let a := if l.useAlpha then (chan p 3).sane.clamp01 else .ofNat 1
  let f := fun c => if l.straight then (chan p c).sane.mul a else (chan p c).sane
  [f 0, f 1, f 2, a]

/-- Clamp a sample position into the crop (R49). -/
def clampPos (c0 n : Nat) (k : Int) : Nat := (clampI c0 ((c0 + n : Nat) - 1) k).toNat

/-- The filtered value of R49 from four samples. -/
def filterPx (w z : Nat) (a0 b0 a1 b1 : Fl) : Fl :=
  let wf := Fl.fin false w (-12)
  let wc := Fl.fin false (4096 - w) (-12)
  let zf := Fl.fin false z (-12)
  let zc := Fl.fin false (4096 - z) (-12)
  let h0 := b0.fma wf (a0.mul wc)
  let h1 := b1.fma wf (a1.mul wc)
  h1.fma zf (h0.mul zc)

/-- A layer's filtered premultiplied source at a destination pixel of its rectangle; `src x y` is the source frame. -/
def Layer.sample (l : Layer) (src : Nat → Nat → Px) (i j : Nat) : Px :=
  let cx := if l.kind == 3 then 0 else l.cropX
  let cy := if l.kind == 3 then 0 else l.cropY
  let px := fun (x y : Int) =>
    l.source (if l.kind == 3 then l.solid.map Fl.of16 else src (clampPos cx l.cropW x) (clampPos cy l.cropH y))
  if l.scaled then
    let (k, w) := srcPos cx l.cropW l.dstW i
    let (q, z) := srcPos cy l.cropH l.dstH j
    let p00 := px k q
    let p10 := px (k + 1) q
    let p01 := px k (q + 1)
    let p11 := px (k + 1) (q + 1)
    (List.range 4).map fun c => filterPx w z (chan p00 c) (chan p10 c) (chan p01 c) (chan p11 c)
  else px (cx + i : Nat) (cy + j : Nat)

/-- Blend one layer over a pixel (R51). -/
def Layer.blend (l : Layer) (s : Px) (cd : Px) : Px :=
  let al := (Fl.of16 l.alpha).sane.clamp01
  let as_ := (chan s 3).mul al
  let t := (Fl.ofNat 1).sub as_
  (List.range 3).map fun c => (chan cd c).fma t ((chan s c).mul al)

/-- Whether a layer covers a canvas pixel (R45). -/
def Layer.covers (l : Layer) (x y : Nat) : Bool :=
  l.used && l.dstX ≤ (x : Int) && (x : Int) < l.dstX + l.dstW && l.dstY ≤ (y : Int) && (y : Int) < l.dstY + l.dstH

/-- One layer with the frame it shows: no frame is a transparent layer. -/
structure Shown where
  layer : Layer
  frame : Option (Nat → Nat → Px)

/-- A canvas pixel in binary32 (R51): the background, then each covering layer in ascending order. -/
def composePx (bg : List Nat) (ls : List Shown) (x y : Nat) : Px :=
  let start := bg.map fun b => (Fl.of16 b).sane
  ls.foldl (fun cd sh =>
    match sh.frame with
    | none => cd
    | some f =>
      if sh.layer.covers x y then
        sh.layer.blend (sh.layer.sample f ((x : Int) - sh.layer.dstX).toNat ((y : Int) - sh.layer.dstY).toNat) cd
      else cd) start

/-- The mix of R67 with gf = g16 / 65536. -/
def fadeMix (g16 : Nat) (ca cb : Fl) : Fl :=
  let gf := Fl.fin false g16 (-16)
  cb.fma gf (ca.mul ((Fl.ofNat 1).sub gf))

/-- A canvas pixel as four binary16 values (R41, R52): A is 1.0. -/
def canvasPx (p : Px) : List Nat := [(chan p 0).canvas, (chan p 1).canvas, (chan p 2).canvas, 0x3C00]

/-- Pitch of a canvas, bytes (R42). -/
def canvasPitch (w : Nat) : Nat := (w * 8 + 511) / 512 * 512

/-- The largest number below `2^k` (searched from the top bit down) that meets a predicate true up to a point. -/
def searchMax : Nat → (Nat → Bool) → Nat → Nat
  | 0, _, acc => acc
  | k + 1, f, acc => searchMax k f (if f (acc + 2 ^ k) then acc + 2 ^ k else acc)

/-- g16 of R66 for p16: round_half_up(65536 × ramp(p16 / 65536)) with an exact ramp (Table 2.2): `g` is reached while
65536 × ramp is at least g − 1/2, compared in integers after clearing the root. -/
def rampG16 (ramp p16 : Nat) : Nat :=
  searchMax 17 (fun g =>
    if g == 0 then true else
    match ramp with
    | 0 => (99 * (2 * g - 1) + 131072) ^ 32768 ≤ 131072 ^ 32768 * 10 ^ p16
    | 1 => (999 * (2 * g - 1) + 131072) ^ 65536 ≤ 131072 ^ 65536 * 10 ^ (3 * p16)
    | 2 => (2 * g - 1) ^ 5 * 65536 ^ 11 ≤ p16 ^ 11 * 131072 ^ 5
    | _ => (2 * g - 1) ^ 5 * 65536 ^ 13 ≤ p16 ^ 13 * 131072 ^ 5) 0

/-- p16 of R66. -/
def fadeP16 (t l : Int) (d : Nat) : Nat := if d == 0 then 65536 else min 65536 ((t - l).toNat * 65536 / d)

/-- g16 of a fade at an instant (R66). -/
def fadeG16 (ramp : Nat) (t l : Int) (d : Nat) : Nat := rampG16 ramp (fadeP16 t l d)

end Sys2Proof.Machine
end

