-- ==== Sys2Proof/Machine/Lamp.lean ====
section
/-! DEFINITION. The lamp entry (R78, Table 3.1) and the arithmetic of per-lamp correction (03_lamp_correction.md): placement,
sampling, the pipeline of R82, curves, temperature, ageing and the concealment partners. -/

namespace Sys2Proof.Machine

/-- A lamp entry (Table 3.1). `slots` are the four partner offsets. -/
structure Lamp where
  x      : Int
  y      : Int
  gain   : List Int         -- GAIN_R, GAIN_G, GAIN_B, 13 fraction bits
  state  : Nat
  sample : Bool
  curve  : Nat
  tc1    : Int
  tc2    : Int
  ageCoef : Nat
  ageF   : Nat
  slots  : List Int
  boost  : Nat
  share  : Nat
  life   : Nat
  accMs  : Nat
  duty   : Nat
  accUs  : Nat
  mark   : Nat
  localX : Nat
  localY : Nat
  check  : List Bool        -- probe table: checkable flag per leg (R122)
  unchecked : Nat           -- probe table: seconds since the lamp was last checked
  deriving DecidableEq, Repr

/-- STATE NORMAL. -/
def Lamp.normal (l : Lamp) : Bool := l.state == 0

/-- A concealing state: OPEN, SHORTED or RETIRED (Table 3.4). -/
def conceals (st : Nat) : Bool := st == 1 || st == 2 || st == 3

/-- The 16 words of an entry (Table 3.1). -/
def Lamp.words (l : Lamp) : List Word :=
  let g i := twos 16 (l.gain.getD i 0)
  let s i := twos 16 (l.slots.getD i 0)
  [ Word.of (twos 32 l.x), Word.of (twos 32 l.y), Word.of (at_ (g 1) 16 + g 0),
    Word.of (at_ l.state 24 + at_ (b2n l.sample) 22 + at_ l.curve 16 + g 2),
    Word.of (at_ (twos 16 l.tc2) 16 + twos 16 l.tc1), Word.of (at_ l.ageCoef 16 + l.ageF),
    Word.of (at_ (s 1) 16 + s 0), Word.of (at_ (s 3) 16 + s 2), Word.of (at_ l.boost 8 + l.share), Word.of l.life,
    Word.of l.accMs, Word.of (at_ l.duty 10 + l.accUs), Word.of l.mark, Word.of (at_ l.localY 16 + l.localX), 0, 0 ]

/-- The C fields of an entry from the 16 words of a calibration record (Table 3.1); the other fields start at zero. A STATE of 5
to 7 is taken as OFF (Table 3.4). -/
def Lamp.ofWords (ws : List Word) : Lamp :=
  let w i := wAt ws i
  let st := wfld (w 3) 26 24
  { x := sint 32 (w 0).toNat, y := sint 32 (w 1).toNat
    gain := [sint 16 (wfld (w 2) 15 0), sint 16 (wfld (w 2) 31 16), sint 16 (wfld (w 3) 15 0)]
    state := if 5 ≤ st then 4 else st, sample := wbit (w 3) 22, curve := wfld (w 3) 21 16
    tc1 := sint 16 (wfld (w 4) 15 0), tc2 := sint 16 (wfld (w 4) 31 16)
    ageCoef := wfld (w 5) 31 16, ageF := wfld (w 5) 15 0
    slots := [sint 16 (wfld (w 6) 15 0), sint 16 (wfld (w 6) 31 16), sint 16 (wfld (w 7) 15 0), sint 16 (wfld (w 7) 31 16)]
    boost := wfld (w 8) 21 8, share := wfld (w 8) 7 0, life := wfld (w 9) 23 0, accMs := (w 10).toNat
    duty := wfld (w 11) 30 10, accUs := wfld (w 11) 9 0, mark := (w 12).toNat
    localX := wfld (w 13) 15 0, localY := wfld (w 13) 31 16
    check := [], unchecked := 0 }

/-- Round an integer quotient by 2^k, half to even. -/
def shrRneI (x : Int) (k : Nat) : Int :=
  let v : Int := (shrRne x.natAbs k : Nat)
  if x < 0 then -v else v

/-- A lamp's sampling coordinates from its tile's placement (R79). -/
def placeXY (m : List Int) (tx ty : Int) (lx ly : Nat) : Int × Int :=
  let g i := m.getD i 0
  (tx + shrRneI (g 0 * lx + g 1 * ly) 10, ty + shrRneI (g 2 * lx + g 3 * ly) 10)

/-- A canvas read in the data plane: three binary16 colour values of pixel (x, y). -/
def canvasRead (w h : Nat) (cv : List (List Nat)) (x y : Int) : List Fl :=
  let px := cv.getD ((clampI 0 ((h : Int) - 1) y).toNat * w + (clampI 0 ((w : Int) - 1) x).toNat) [0, 0, 0, 0]
  [Fl.of16 (px.getD 0 0), Fl.of16 (px.getD 1 0), Fl.of16 (px.getD 2 0)]

/-- The lamp's sample (R80, R81). `rd` reads a clamped canvas pixel. -/
def Lamp.sampled (l : Lamp) (rd : Int → Int → List Fl) : List Fl :=
  if !l.sample then rd (l.x / 4096) (l.y / 4096)
  else
    let u := l.x - 2048
    let t := l.y - 2048
    let k := u / 4096
    let q := t / 4096
    let w := (u % 4096).toNat
    let z := (t % 4096).toNat
    let a0 := rd k q
    let b0 := rd (k + 1) q
    let a1 := rd k (q + 1)
    let b1 := rd (k + 1) (q + 1)
    (List.range 3).map fun c => filterPx w z (chan a0 c) (chan b0 c) (chan a1 c) (chan b1 c)

/-- A tint coefficient (R43): signed 20 bits, 16 fraction bits. -/
def tintFl (w : Word) : Fl := .ofInt (sint 20 (wfld w 19 0)) 16

/-- The product of a 3 × 3 matrix of coefficients with a colour, in binary32 (R82 step 2, R206). -/
def matMul (m : List Word) (p : List Fl) : List Fl :=
  let c i := tintFl (m.getD i 0)
  (List.range 3).map fun r =>
    (c (3 * r + 2)).fma (chan p 2) ((c (3 * r + 1)).fma (chan p 1) ((c (3 * r)).mul (chan p 0)))

/-- A lamp's demand v (R82 step 3). -/
def Lamp.demand (l : Lamp) (p : List Fl) : Fl :=
  let g i := Fl.ofInt (l.gain.getD i 0) 13
  let v := (g 2).fma (chan p 2) ((g 1).fma (chan p 1) ((g 0).mul (chan p 0)))
  if v.isNeg then .fin false 0 0 else v

/-- The knots of a curve record (R84): words 1 to 257. -/
def knot (ws : List Word) (i : Nat) : Nat := (wAt ws (1 + i)).toNat

/-- A curve is valid when its knots never decrease (R85). -/
def curveValid (ws : List Word) : Bool := (List.range 256).all fun i => knot ws i ≤ knot ws (i + 1)

/-- The curve output (R85), 24 fraction bits. -/
def curveOut (ws : List Word) (v : Fl) : Nat :=
  let b := v.to32
  let e : Int := (nfld b 30 23 : Nat) - 127
  let f := nfld b 22 0
  if 4 ≤ e then knot ws 256
  else if e < -12 then (knot ws 0 * v.floorMul 31 + 2 ^ 18) / 2 ^ 19
  else
    let i := ((e + 12) * 16 + (f / 2 ^ 19 : Nat)).toNat
    let s : Nat := f % 2 ^ 19
    let k : Int := knot ws i
    let k1 : Int := knot ws (i + 1)
    (k + ((k1 - k) * (s : Int) + 2 ^ 18) / (2 ^ 19 : Nat)).toNat

/-- The temperature factor (R86). -/
def tempFactor (tc1 tc2 dt : Int) : Nat :=
  let q := tc2 * dt * dt
  let f : Int := 2 ^ 24 + tc1 * dt + (q + 512) / 1024
  (clampI (2 ^ 23) (2 ^ 25) f).toNat

/-- Round a 24-fraction-bit product half up. -/
def mul24 (a b : Nat) : Nat := (a * b + 2 ^ 23) / 2 ^ 24

/-- P3 of R82 from the demand: the curve, the temperature, ageing and boost factors. -/
def Lamp.p3 (l : Lamp) (curve : Option (List Word)) (dt : Int) (boostMax : Nat) (v : Fl) : Nat :=
  let l1 := match curve with
    | some ws => if curveValid ws then curveOut ws v else 0
    | none => 0
  let fA := 2 ^ 24 + l.ageF * 256
  let fB := 2 ^ 24 + min l.boost boostMax * 2 ^ 14
  mul24 (mul24 (mul24 l1 (tempFactor l.tc1 l.tc2 dt)) fA) fB

/-- The target (R82 step 7). -/
def Lamp.target (l : Lamp) (p3 : Nat) : Nat := if l.normal then min p3 (2 ^ 24) else 0

/-- One accrual (R88) at a wall time in whole ms. -/
def Lamp.accrue (l : Lamp) (now : Nat) : Lamp :=
  let d := (now + 2 ^ 32 - l.mark) % 2 ^ 32
  let us := l.accUs + l.duty * d * 1000 / 2 ^ 20
  { l with accMs := satN maxU32 (l.accMs + us / 1000), accUs := us % 1000, mark := now }

/-- The ageing factor a LIFE gives (R89 step 3). -/
def ageFactor (coef life : Nat) : Nat := min 65535 ((2 * coef * life + 15360) / 30720)

/-- The hourly flush of one lamp (R89 steps 1 to 3). -/
def Lamp.flush (l : Lamp) (now ageTol : Nat) : Lamp :=
  let l := l.accrue now
  let life := min (2 ^ 24 - 1) (l.life + l.accMs / 60000)
  let a := ageFactor l.ageCoef life
  let far := ageTol ≤ (if l.ageF ≤ a then a - l.ageF else l.ageF - a)
  { l with life := life, accMs := l.accMs % 60000, ageF := if far then a else l.ageF }

/-- A newly derived duty (R88): it replaces DUTY, after an accrual, when it differs by more than 1024. -/
def Lamp.newDuty (l : Lamp) (d now : Nat) : Lamp :=
  let far := 1024 < (if l.duty ≤ d then d - l.duty else l.duty - d)
  if far then { l.accrue now with duty := d } else l

/-- The valid partner slots of every lamp of a tile, in ascending lamp and slot order (R91): for each lamp the scan orders of its
valid partners, and whether it has an invalid slot. `named` counts how often each lamp has been named. -/
def partnersGo (n : Nat) : Nat → List Lamp → List Nat → List (List Nat × Bool)
  | _, [], _ => []
  | s, l :: ls, named =>
    let r := l.slots.foldl (fun (acc : List Nat × Bool × List Nat) off =>
      let (ok, bad, nm) := acc
      if off == 0 then acc
      else
        let t := (s : Int) + off
        if t < 0 || (n : Int) ≤ t || t.toNat % 3 != s % 3 || ok.contains t.toNat || 8 ≤ nm.getD t.toNat 0
        then (ok, true, nm)
        else (ok ++ [t.toNat], bad, modAt nm t.toNat (· + 1))) ([], false, named)
    (r.1, r.2.1) :: partnersGo n (s + 1) ls r.2.2

/-- The partners of a tile's lamps (R91). -/
def partners (ls : List Lamp) : List (List Nat × Bool) :=
  partnersGo ls.length 0 ls (List.replicate ls.length 0)

/-- Change one lamp's STATE, with the accrual of R88 and the share transfer of R90. -/
def setLampState (ls : List Lamp) (s st now : Nat) : List Lamp :=
  match ls[s]? with
  | none => ls
  | some l =>
    let l' := { l.accrue now with state := st, duty := if st == 0 then l.duty else 0 }
    let ps := ((partners ls).getD s ([], false)).1
    let add := !(conceals l.state) && conceals st
    let sub := conceals l.state && !(conceals st)
    let ls := setAt ls s l'
    ps.foldl (fun a t => modAt a t fun q =>
      if add then { q with boost := q.boost + l.share * 4 }
      else if sub then { q with boost := q.boost - l.share * 4 } else q) ls

/-- BOOST of every lamp from the states of all (R90, at census). -/
def censusBoost (ls : List Lamp) : List Lamp :=
  let ps := partners ls
  ls.zipIdx.map fun x =>
    let b := ((ls.zip ps).map fun y =>
      if conceals y.1.state && y.2.1.contains x.2 then y.1.share * 4 else 0).foldl (· + ·) 0
    { x.1 with boost := b }

/-- The number of segments of a tile of `n` lamps (R95). -/
def segCount (n : Nat) : Nat := (n + 255) / 256

/-- Whether a tile's hourly flush falls due between two lap boundaries (R89): seconds within the hour. -/
def flushDue (tileNo prev now : Nat) : Bool :=
  let m := 7 * tileNo
  if prev ≤ now then prev < m && m ≤ now else m ≤ now || prev < m

end Sys2Proof.Machine
end

