-- ==== Sys2Proof/Machine/StCore.lean ====
section
/-! DEFINITION. State of the blocks every other block reports to: the three register files, the marshal (15_events.md), the
fault collector with hold and the stopped units (16_faults.md), housekeeping (18_housekeeping.md), the starting blocks and the
seal (12_starting_blocks.md, 20_register_map.md), and the NVM with its journal (13_configuration_image.md). -/

namespace Sys2Proof.Machine

/-- The stored fields of BAR0, by access code (R11): the RWS fields, the RW fields and the W1C counters, each a sparse store
from a register's offset to its value, canonical over the register's reset value. -/
structure Regs where
  rws : List (Nat × Word)
  rw  : List (Nat × Word)
  cnt : List (Nat × Word)
  cnt0 : List (Nat × Word)      -- the counters as the present tick began
  deriving DecidableEq, Repr

/-- An event record (Table 15.3) with the tick of its stamp (R375). -/
structure EvtRec where
  tick   : Nat
  code   : Nat
  src    : Nat
  fast   : Bool
  lost   : Bool
  split  : Nat
  valid  : Bool
  legSeq : Nat
  args   : List Word
  deriving DecidableEq, Repr

/-- One management core's side of the marshal (R376 to R380). -/
structure CoreQ where
  normal    : List EvtRec
  fast      : List EvtRec
  overflow  : Bool          -- OVERFLOW of EVT_CORE
  ovfNormal : Bool          -- the normal queue's overflow has been recorded since OVERFLOW was cleared
  ovfFast   : Bool
  active    : List Nat      -- sources whose popped records are active on this core
  awake     : Bool          -- a core in LIGHT or DEEP that has woken, or any core in RUN
  redirect  : Bool          -- EVT_REDIRECT_BEGAN has been recorded in this OFFLINE episode
  deriving DecidableEq, Repr

/-- The marshal. -/
structure Evt where
  hostQ     : List EvtRec   -- records waiting for the host ring, at most 2,048
  cores     : List CoreQ    -- MC0 to MC3
  pi        : Nat           -- records written to the ring since attachment, modulo 2^32
  lostNext  : Bool          -- the next record written to the ring carries LOST
  dropped   : Nat           -- records dropped since the previous EVT_HOST_DROPPED record
  sinceIdx  : Nat           -- records written since the index block was last written
  idxTick   : Nat           -- tick of the last write of the index block
  cutTick   : Nat           -- tick of the records in `cut`
  cut       : List EvtRec   -- records of that tick that the full host queue dropped
  cutLost   : Bool          -- `lostNext` before the first of them
  routed    : List (Nat × Nat × Word)   -- routes as they were before the writes of a tick: the tick, the source and EVT_ROUTE
  deriving DecidableEq, Repr

/-- A fault log record (Table 16.4). -/
structure FltRec where
  seq   : Nat
  tick  : Nat
  kind  : Nat
  sev   : Nat
  src   : Nat
  data  : List Word         -- DATA0 to DATA2
  sec   : Nat
  ns    : Nat
  valid : Bool              -- TIME_VALID
  latched : Bool
  first : Bool
  count : Nat
  deriving DecidableEq, Repr

/-- An entry of the active fault table (R400), with the tick it was latched in. -/
structure FltEntry where
  src  : Nat
  kind : Nat
  sev  : Nat
  tick : Nat
  deriving DecidableEq, Repr

/-- A message to the fault collector before it is stamped (R389). -/
structure FltMsg where
  kind : Nat
  src  : Nat
  data : List Word
  deriving DecidableEq, Repr

/-- State of a unit that a fault can stop (R398, R399). -/
inductive UnitSt where
  | running | stopping | stopped | starting
  deriving DecidableEq, Repr

/-- A stoppable unit of UNIT_STATE. -/
structure UnitRec where
  st     : UnitSt
  enPend : Bool             -- ENABLE_PENDING
  due    : Nat              -- tick by which a stop completes
  deriving DecidableEq, Repr

/-- Hold phases of FAULT_STATUS (R397). -/
inductive HoldPhase where
  | none | entering | held | heldDark | leaving
  deriving DecidableEq, Repr

/-- The fault collector, hold and the watchdogs. -/
structure Flt where
  log       : List FltRec   -- oldest first, at most 1024
  next      : Nat           -- log sequence number of the next record
  feRec     : Option FltRec -- first-error capture
  feLegSeq  : Nat
  followers : Nat
  active    : List FltEntry -- in order of latching
  overflow  : Bool
  unknown   : Bool
  clrResult : Nat           -- RESULT and REFUSED of FAULT_CLEAR_STATUS
  clrRefused : Nat
  hold      : HoldPhase
  holdTick  : Nat           -- tick of the entry instant
  holdKind  : Nat           -- kind of the first cause; 0 for limp
  holdFresh : Bool          -- the next leg boundary is the entry instant
  enterTick : Option Nat    -- tick in which hold was last entered
  leaveTick : Option Nat    -- tick of the last HOLD leave
  leaveFrom : HoldPhase     -- the phase it ended
  clrd      : List (Nat × FltEntry)   -- entries cleared in a tick, which is with them
  limpHold  : Bool          -- the limp sequence holds the chains
  units     : List UnitRec  -- MC1 to MC3, then P0 to P15
  kickTick  : List Nat      -- tick of each core's last KICK
  shutTick  : Option Nat    -- stamp of the S3 fault that began the shutdown
  shutDone  : Bool          -- forwarded clocks stopped, VCORE, HBM and host link down
  deriving DecidableEq, Repr

/-- The shutdown latch of R436, held while a feed remains. -/
structure ShutLatch where
  tick   : Nat              -- tick in which it was set
  cause  : Nat
  src    : Nat
  dieT   : List Int         -- HK0 to HK3 readings
  stackT : List Int         -- last reading of each stack
  deriving DecidableEq, Repr

/-- One housekeeping channel (R431 to R439). -/
structure HkChan where
  value  : Int
  broken : Bool
  fails  : Nat              -- failed cross-checks in a row
  count  : Nat              -- rounds at or above the shutdown level
  oor    : Nat              -- rounds in a row with a supply out of range
  got    : Bool             -- a reading has been taken since SB0
  prior  : Int              -- the reading before that of `tick`
  tick   : Nat              -- tick of the last reading
  deriving DecidableEq, Repr

/-- The housekeeping converter. -/
structure Hk where
  chans    : List HkChan
  slot     : Nat            -- slot of the round in progress
  rounds   : Nat
  startTick : Nat
  running  : Bool
  stackHi  : List Nat       -- readings in a row at or above 105.0 °C, per stack
  fabTrim  : List (Nat × Nat × Nat × Nat)   -- STATUS, QUALITY, MARGIN, SPARES of stages 1 to 4
  fabLines : List Nat
  latch    : Option ShutLatch
  deriving DecidableEq, Repr

/-- Why the seal was applied (WHEN of SEAL_STATUS). -/
inductive SealWhen where
  | notYet | endSb4 | limpSb4 | sb4Time
  deriving DecidableEq, Repr

/-- The starting blocks, the false start, limp and the seal. -/
structure Boot where
  stage     : Nat           -- STAGE: 0–5 SB0–SB5, 6 false start, 7 limp
  running   : Bool          -- a start has begun and the device is not held in reset
  held      : Bool
  warmActive : Bool
  limpCause : Nat
  slotCfg   : Nat
  slotFw    : Nat
  fsCode    : Nat
  fsStage   : Nat
  fsDetail  : Nat
  entryMs   : List Nat
  startTick : Nat
  stageTick : Nat
  restart   : Bool          -- a RESTART waits for the NVM
  selfOk    : Bool
  sealWhen  : SealWhen
  sealSplit : Nat
  sealTick  : Nat
  sealCore  : Bool          -- CORE and OFFSET of SEAL_LAST
  sealOff   : Nat
  sealSeen  : Bool
  tries     : List (Nat × Requester × Nat × Word)   -- writes to RWS fields in a tick before the seal: tick, requester, offset, value
  lit       : Bool          -- in SB3: a warm-up lap boundary has come with every port that is up calibrated
  stageDue  : Bool          -- entry into SB5 is to be recorded as the tick ends
  limpDue   : Bool          -- entry into limp service is to be recorded as the tick ends
  inputOk   : Bool          -- an input unit passed its loopback test
  hostOk    : Bool
  chainOk   : List Bool     -- loopback test of each chain port
  mc0Ready  : Bool
  fwHash    : List Byte     -- hashes of the firmware and owner data containers in use
  ownHash   : List Byte
  deriving DecidableEq, Repr

/-- The NVM header in force (Table 13.2). -/
structure NvmHeader where
  hseq     : Nat
  actFw    : Nat
  actCfg   : Nat
  trialFw  : Bool
  trialCfg : Bool
  areas    : List Nat       -- states of FW_A, FW_B, CFG_A, CFG_B, OWNER
  deriving DecidableEq, Repr

/-- A journal record waiting to be written (Table 13.13); SEQ and OVERWRITES are given at the write (R345). -/
structure JRec where
  kind : Nat
  sev  : Nat
  code : Nat
  sec  : Nat
  ns   : Nat
  valid : Bool
  legSeq : Nat
  data : List Byte
  deriving DecidableEq, Repr

/-- What an NVM operation does when it completes (R347). -/
inductive NvmJob where
  | record (r : JRec)                         -- program one journal record
  | jerase (sector : Nat)                     -- pre-erase the next journal sector
  | reJournal (sector : Nat)                  -- re-erase an inconsistent journal sector (R349)
  | reHeader (sector : Nat)                   -- erase a header sector
  | reArea (area : Nat)                       -- re-erase an image area left ERASING
  | slate (left : Nat)                        -- read 64 KiB of the slate into the warm-up store; operations left
  | jread (seq : Nat)                         -- a host journal read
  | header (addr : Nat) (h : NvmHeader)       -- program a header copy into its slot
  | stErase (addr left : Nat)                 -- staging: the next sector to erase, and the sectors left
  | stProg (addr : Nat) (rest : List Byte)    -- staging: the next page to program, and the bytes left
  | stRead                                    -- staging: the read-back
  deriving DecidableEq, Repr

/-- An operation in progress, with whether it has failed once (R347). -/
structure NvmOp where
  job   : NvmJob
  retry : Bool
  deriving DecidableEq, Repr

/-- The flash and its controller. -/
structure Nvm where
  present  : Bool
  size     : Nat            -- SIZE of NVM_INFO; 7 when no supported flash
  manuf    : Nat
  devId    : Nat
  flash    : List (Nat × Byte)   -- contents, canonical over the erased value 0xFF
  hdr      : NvmHeader      -- the header last written or being written
  hdrShown : NvmHeader      -- the header in force: the last whose program has completed
  hdrSect  : Nat            -- sector holding the header in force, and the next slot in it
  hdrSlot  : Nat
  badHdr   : List Nat       -- header and journal sectors found inconsistent
  badJ     : List Nat
  jq       : List JRec      -- the journal queue, at most 64
  jobs     : List NvmJob    -- other waiting operations
  op       : Option NvmOp
  suspended : Bool          -- an erase has been suspended by a shutdown or a RESTART
  frozen   : Bool           -- no further operation is issued (R348)
  freezeTick : Nat
  jNext    : Nat            -- next SEQ
  jSect    : Nat            -- sector and slot the next record takes
  jSlot    : Nat
  jErased  : Bool           -- the next sector has been erased and holds its SECTOR record
  ovr      : Nat            -- OVERWRITES
  lostTick : Option Nat     -- tick of the last JOURNAL_LOST
  reerase  : Bool
  fwVer    : Nat
  cfgVer   : Nat
  rdSeq    : Nat
  rdValid  : Bool
  rdMissing : Bool
  rdBusy   : Bool
  rdData   : List Word
  deriving DecidableEq, Repr

end Sys2Proof.Machine
end

