-- ==== Sys2Proof/Machine/StPorts.lean ====
section
/-! DEFINITION. State of the chain ports (05_chain_lanes.md, 06_chain_protocol.md) and of the tiles on them, with each tile's lamps,
pairs and drive words (03_lamp_correction.md, 04_drive_synthesis.md). -/

namespace Sys2Proof.Machine

/-- Kinds of downstream frames (Table 6.2). -/
inductive FrameKind where
  | lap | drive | scan | probe | hold | baton | census | age | beacon
  deriving DecidableEq, Repr

/-- KIND of a frame (Table 6.2). -/
def FrameKind.code : FrameKind → Nat
  | .lap => 1 | .drive => 2 | .scan => 3 | .probe => 4 | .hold => 5 | .baton => 6 | .census => 7 | .age => 8 | .beacon => 9

/-- A downstream frame waiting on a port; SEQ is given when it starts to leave (R172). -/
structure TxFrame where
  kind  : FrameKind
  addr  : Nat               -- position, or 63 for every tile
  arg   : Nat
  retry : Bool
  body  : List Byte
  due   : Int               -- send deadline in wall ns, for the order of R448
  tag   : Nat               -- order of queuing among equals
  deriving DecidableEq, Repr

/-- A calibration result (Table 5.5). -/
structure CalResult where
  status  : Nat
  quality : Nat
  eyeW    : Nat
  eyeH    : Nat
  deriving DecidableEq, Repr

/-- Where a lane calibration stands (R155). -/
inductive CalPhase where
  | announced               -- LANE_DROP or UP_CAL sent, 64 blocks until the change
  | pattern                 -- PRBS31 on the lane
  | restoring               -- TRAIN burst and LANE_RESTORE sent
  | waiting                 -- the result is awaited
  deriving DecidableEq, Repr

/-- Where a lane's block lock stands (Table 5.4). -/
inductive LockState where
  | hunt
  | test (count : Nat)
  | locked (window bad : Nat)
  deriving DecidableEq, Repr

/-- Whether block lock is held. -/
def LockState.isLocked : LockState → Bool
  | .locked _ _ => true
  | .hunt => false
  | .test _ => false

/-- What a lane has sent since its last ALIGN: the BIP-8 and the number of its blocks other than IDLE (R147). -/
structure LaneSum where
  bip : Byte
  n   : Nat
  deriving DecidableEq, Repr

def LaneSum.reset : LaneSum := ⟨0, 0⟩

/-- A lane calibration in progress on a port (R154). -/
structure CalRun where
  hop   : Nat
  lane  : Nat
  phase : CalPhase
  blk   : Nat               -- block time at which the phase began
  tick  : Nat               -- tick at which it began
  aborted : Bool            -- R158
  got   : Bool              -- its result has arrived
  deriving DecidableEq, Repr

/-- Where a census stands (R186, R316). -/
inductive CensusPhase where
  | idle | enum | reading | done
  deriving DecidableEq, Repr

/-- An outstanding census read (R186). -/
structure CensusRead where
  pos   : Nat
  part  : Nat
  off   : Nat
  len   : Nat
  tries : Nat
  tick  : Nat
  deriving DecidableEq, Repr

/-- The census of a port. -/
structure Census where
  state : Nat               -- STATE of CENSUS_STATUS
  phase : CensusPhase
  pass  : Nat               -- 1 in SB3, 2 in SB4; 0 for a census at a port start in service
  next  : Nat               -- NEXT of the ENUM outstanding
  recs  : List (List Byte)  -- tile records received, by position
  tick  : Nat               -- tick at which that ENUM was sent
  reads : List CensusRead
  todo  : List CensusRead   -- reads still to be sent
  found : Nat
  refused : Nat
  deriving DecidableEq, Repr

/-- A receiver's view of one tile's stream (R172). -/
structure RxStream where
  last   : Nat
  fresh  : Bool             -- the next frame is accepted whatever its SEQ
  rejects : Nat
  deriving DecidableEq, Repr

/-- One pair: a segment in a leg (R95 to R99). -/
structure Pair where
  dirty  : Bool
  uncond : Bool             -- to be sent whatever its CRC
  ready  : Bool             -- recomputed and waiting for its DRIVE frame
  crc    : Option Nat       -- CRC-32 of the words last sent
  comp   : Option Nat       -- CRC-32 of the words of the last computation (R417)
  sent   : Nat              -- tick of the last sending
  valid  : Bool             -- it has been sent since the census
  deriving DecidableEq, Repr

/-- A probe issued and not yet answered (R124, R126). -/
structure Probe where
  id    : Nat
  scan  : Nat
  lap   : Nat               -- laps since it was issued
  recheck : Bool
  deriving DecidableEq, Repr

/-- An AGE frame not yet acknowledged (R190). -/
structure AgeOut where
  first : Nat
  seq   : Nat
  body  : List Byte
  tries : Nat
  tick  : Nat
  sent  : Bool
  deriving DecidableEq, Repr

/-- A tile found on a chain (R18, R163, R186), with everything the device keeps for it. -/
structure Tile where
  port   : Nat
  pos    : Nat
  id     : Nat              -- TILE_ID
  typeId : Nat
  proto  : Nat
  side   : Nat
  lampsN : Nat
  len1   : Nat
  len2   : Nat
  rl     : List Nat         -- RL from side 0 to 1 and from 1 to 0
  tt     : List Nat         -- TT on side 0 and on side 1
  admitted : Bool
  cause  : Nat              -- Table 6.10
  calOk  : Bool
  placed : Bool             -- a PLACEMENT was taken (R337)
  part1  : List (Nat × List Byte)   -- blocks of the calibration block read so far
  part2  : List (Nat × List Byte)
  base   : Nat
  no     : Nat              -- n: the n-th tile admitted in census order
  state  : Nat              -- last reported TILE STATE
  lanes  : Nat              -- lanes of its timing side last reported locked and aligned
  holder : Option Nat       -- last reported holder
  tempM  : Int              -- measured temperature
  tempA  : Int              -- applied temperature
  tempOk : Bool             -- a measured value has been received
  tempTick : Nat
  stale  : Bool
  rt     : Nat              -- RT of the hop that ends at this tile
  rtCand : Option Nat       -- a measurement that awaits confirmation (R183)
  rtOk   : Bool
  delay  : Nat              -- D_p
  cc     : Nat              -- cap step
  trim   : List Int         -- TR per colour
  ref    : List Nat         -- REF per colour
  sense  : List (Option Nat)    -- sensor readings of the last second
  senseTick : Nat
  dark   : List Bool        -- TRIM_SENSOR_DARK recorded
  limit  : List Bool        -- TRIM_LIMIT recorded
  lamps  : List Lamp
  words  : List (List DriveWord)    -- current words by leg
  pairs  : List (List Pair)         -- by leg, then segment
  scans  : List (Option (List Byte))    -- scan descriptor last sent, by leg
  scanDue : List Bool               -- a SCAN frame is to be sent, by leg
  scanTick : List Nat
  ptr    : Nat              -- rotation pointer of the probe sweep
  probes : List Probe       -- probes without an outcome yet, oldest first
  ageOut : List AgeOut
  ageTodo : List (Nat × Nat)        -- FIRST and count of AGE frames not yet queued
  deriving DecidableEq, Repr

/-- A chain port. -/
structure Port where
  clock    : Bool           -- the forwarded clock runs
  blocks   : Bool           -- IDLE blocks and ALIGN markers are sent
  clkTick  : Nat            -- tick at which the clock of the present start began
  failed   : Bool           -- the present start has exceeded 10 ms
  downSeen : Bool           -- PORT_DOWN has been recorded since the port was last up
  up       : Bool
  lock     : Bool           -- upstream block lock
  lockSt   : LockState      -- the upstream lane's state machine (R145)
  aligned  : Bool
  echo     : Bool           -- an ECHO marker with a count of the last 16 sent has been received
  missed   : Nat            -- consecutive markers missed upstream
  lanes    : Nat            -- downstream lanes in the stripe, bit k for lane k
  degraded : Bool
  drops    : List (Nat × Nat)   -- (lane, block time) of degraded lanes: out of the stripe from that block time on (R159, R168)
  laneLoss : List (Nat × Nat × Nat)   -- (position, lane, tick) of block lock losses within the last second
  restored : Option (Nat × Nat)     -- hop and lane of a restore that awaits the tile's report of lock
  mark     : Nat            -- count of the next marker
  blk0     : Nat            -- disciplined time of block time 0
  markBlk  : Nat            -- next block time at which a marker is due
  bipBad   : Nat            -- lanes whose next marker carries the not-valid flag
  sums     : List LaneSum   -- per lane, since its last ALIGN
  sumsNext : List LaneSum   -- per lane, blocks of the frame in progress that follow the next ALIGN
  marks    : List (Nat × Int)   -- count and wall time of departure, in 2^−32 ns, of the last 16 markers
  idle     : Bool
  exitBlk  : Option Nat     -- block time at which the TRAIN burst that leaves electrical idle ends
  seqAll   : Nat            -- SEQ of the ADDR 63 stream
  seqPos   : List Nat       -- SEQ per position
  rx       : List RxStream  -- per position, and at 32 the partner's ADDR 63 stream
  queue    : List TxFrame
  tag      : Nat
  busy     : Nat            -- block time at which the frame in progress has ended
  sending  : Option TxFrame
  cal      : Option CalRun
  calNext  : Nat            -- next hop and lane in the order of R154: 5 × hop + lane
  calTick  : Nat            -- tick from which the next calibration is due
  calPost  : Bool           -- CAL_POSTPONED has been recorded for it
  calWait  : Option Nat     -- tick since which the lane whose turn it is has waited (R156)
  calHeld  : Option Int     -- leg boundary before which it could not start
  calStart : Bool           -- the start calibrations of R317 are still running
  cals     : List CalResult -- hop h, lane k at 5 h + k
  upCtle   : Nat
  upPhase  : Nat
  census   : Census
  passes   : Nat            -- passes of the census at start that have ended
  lost     : List Tile      -- tiles admitted earlier that the last census did not find again
  rt0      : Option Nat     -- RT of hop 0
  rtCand   : Option Nat     -- a measurement of it that awaits confirmation (R183)
  dry      : List Nat       -- ticks of the boundary running dry within the last second
  beat     : Nat
  beatTick : Nat
  lapNext  : Option Int     -- the boundary, in wall ns, whose LAP frame was last queued
  joinAt   : Int            -- first boundary for which the port sends LAP frames
  driveOk  : Bool           -- pass 1 and the start calibrations are complete (R486)
  uncond   : Bool           -- pairs of the port are sent unconditionally in this lap (R156)
  stopAt   : Bool           -- the clock stops at the next lap boundary (R398)
  claim    : Option Nat     -- tick of the last baton claim sent, while claims are outstanding
  trimStatus : Nat
  deriving DecidableEq, Repr

/-- A tile's key. -/
def Tile.is (t : Tile) (p q : Nat) : Bool := t.port == p && t.pos == q

/-- An admitted tile holds lamp indices once the census has assigned them, with its lamps (R19, R316). -/
def Tile.lit (t : Tile) : Bool := t.admitted && t.cause == 0 && !t.lamps.isEmpty

/-- A port at start: nothing runs, every stream at 0, the trims at their reset values. -/
def Port.reset : Port :=
  { clock := false, blocks := false, clkTick := 0, failed := false, downSeen := false, up := false, lock := false
    aligned := false, echo := false, missed := 0, lockSt := .hunt, lanes := 0, degraded := false, drops := [], laneLoss := [], restored := none, mark := 0, blk0 := 0, markBlk := 0
    bipBad := 15, sums := List.replicate 4 .reset, sumsNext := List.replicate 4 .reset, marks := [], idle := false, exitBlk := none, seqAll := 0, seqPos := List.replicate 32 0
    rx := List.replicate 33 ⟨0, true, 0⟩, queue := [], tag := 0, busy := 0, sending := none, cal := none, calNext := 0
    calTick := 0, calPost := false, calWait := none, calHeld := none, calStart := false, cals := List.replicate 160 ⟨0, 0, 0, 0⟩, upCtle := 8, upPhase := 32
    census := ⟨0, .idle, 0, 0, [], 0, [], [], 0, 0⟩, passes := 0, lost := [], rt0 := none, rtCand := none, dry := [], beat := 0, beatTick := 0, lapNext := none, joinAt := 0
    driveOk := false, uncond := false, stopAt := false, claim := none, trimStatus := 0 }

end Sys2Proof.Machine
end

