-- ==== Sys2Proof/Machine/StTime.lean ====
section
/-! DEFINITION. State of the time base (08_time_base.md), of the lap timeline with plan cues, dark laps, re-steps and the pins
(04_drive_synthesis.md, 01_wall_model.md), and of scenes, cues, fences and views (02_scenes_and_composition.md). -/

namespace Sys2Proof.Machine

/-- A foreign master of a PTP slot with its announced dataset (R230). -/
structure Master where
  clock  : Nat              -- clockIdentity
  port   : Nat              -- portNumber
  prio1  : Nat
  cls    : Nat
  acc    : Nat
  var    : Nat
  prio2  : Nat
  gm     : Nat              -- grandmaster identity
  steps  : Nat              -- stepsRemoved
  logInt : Int              -- logMessageInterval of its Announce messages
  tick   : Nat              -- tick of its last Announce
  deriving DecidableEq, Repr

/-- A Sync waiting for its Follow_Up, or complete and waiting for a delay (R229, R230). PTP times are in units of 1/655,360 ns, in
which both 0.1 ns and the 2^−16 ns of a correction are whole. -/
structure SyncRec where
  seq  : Nat
  t2   : Int                -- receive stamp
  corr : Int
  t1   : Option Int         -- origin time once known
  deriving DecidableEq, Repr

/-- A PTP slot. -/
structure PtpSlot where
  masters : List Master
  sel     : Option (Nat × Nat)    -- selected master: clockIdentity and portNumber
  good    : Nat             -- consecutive complete measurements
  missed  : Nat             -- consecutive Sync intervals without one
  qual    : Bool
  sync    : Option SyncRec
  syncLog : Int             -- logMessageInterval of the master's Sync messages
  syncTick : Nat            -- start of the Sync interval in progress
  meas    : Bool            -- a complete measurement in that interval
  dreqSeq : Nat             -- sequenceId of the newest Delay_Req or Pdelay_Req
  dreqT3  : Option Int      -- its departure stamp, while its answer is outstanding
  dreqLog : Int             -- granted interval
  dreqTick : Nat            -- tick of the last Delay_Req or Pdelay_Req
  pdT2    : Option Int      -- receipt time less correction of a Pdelay_Resp that awaits its Follow_Up
  pdT4    : Int             -- its own receipt stamp
  delay   : Int             -- mean path delay
  delayOk : Bool
  offset  : Int             -- filtered offset of the master from the counter
  last    : Option (Int × Int)    -- previous pair of origin and receive times
  deriving DecidableEq, Repr

/-- The LAPREF_IN decoder (R238 to R240). -/
structure LapRef where
  width   : Nat             -- LAST_WIDTH
  sym     : Nat             -- LAST_SYMBOL
  mark    : Option Nat      -- tick of the last marker, for WORD_POS
  word    : Option (List Bool)    -- bits taken since the marker
  decoded : Bool            -- a word has been decoded
  secs    : Nat             -- seconds of the last edge, once decoded
  run     : Nat             -- consecutive seconds with a valid edge, at most 3 counted
  edgeTick : Option Nat     -- tick of the last valid edge
  deriving DecidableEq, Repr

/-- The local time counter and its discipline. -/
structure TimeBase where
  sec    : Nat              -- 48 bits
  ns     : Nat              -- 0 to 999,999,999
  frac   : Nat              -- 32 bits
  run    : Nat              -- disciplined time since reset, steps apart, in 2^−32 ns: the transmit clocks count it (R135)
  incr   : Nat              -- current increment, 32.32
  incrTick : Nat            -- tick of the last change of the increment
  stepped : Bool            -- the first step has been made
  firstDue : Bool           -- the first step waits for its re-step
  sel    : Nat              -- selected source: 0 none, 1 slot A, 2 slot B, 3 RELAY, 4 LAPREF
  prev   : Nat              -- last source selected
  qual   : List Bool        -- per source, rank order
  qualTick : List Nat       -- tick since which it has been qualified
  offs   : List Int         -- latest offset estimate of each source, ns
  rates  : List Int         -- rate estimate of each source, units of 2^−32
  large  : Bool             -- OFFSET_LARGE
  judge  : Bool             -- the choice of source is made at the end of the tick (Table 8.6)
  snapSec : Nat
  snapNs : Nat
  snapFrac : Nat
  ptp    : List PtpSlot
  lapref : LapRef
  refClk : Bool             -- REF_CLK runs
  oscOnly : Bool            -- the device runs from its on-package oscillator
  deriving DecidableEq, Repr

/-- A plan cue (R105). -/
structure PlanCue where
  plan   : Nat
  timed  : Bool
  split  : Nat
  accept : Int              -- acceptance instant, wall ns
  src    : Nat              -- 0 host, 1 datagram, 2 schedule
  tick   : Nat              -- tick of acceptance, for the rank of R64
  deriving DecidableEq, Repr

/-- A pulse of LAP_OUT (`leg` false) or LEG_OUT (R131). -/
structure Pulse where
  leg : Bool
  idx : Nat                 -- leg of its boundary
  at_ : Int                 -- wall ns of its leading edge
  deriving DecidableEq, Repr

/-- What a dark interval is for (R36, R236, R319, R322). -/
inductive Change where
  | plan (n : Nat)          -- a plan cue
  | full                    -- entry into full service
  | limp                    -- the warm-up plan of limp service
  | step                    -- a committed re-step
  deriving DecidableEq, Repr

/-- The timeline of laps and legs and everything that changes it. -/
structure Timeline where
  on      : Bool            -- the warm-up timeline has been given its W0 (R486)
  began   : Bool            -- a boundary has occurred
  warm    : Bool            -- the plan in force is the warm-up plan
  plan    : LapPlan         -- the plan in force
  num     : Nat             -- its number
  next    : Int             -- global leg boundary index of the next boundary
  nextAt  : Int             -- its instant, wall ns
  leg     : Nat             -- current leg
  lap     : Int             -- index of the current lap
  legSeq  : Nat
  service : Bool            -- full service
  gap     : Bool            -- between a change boundary and the next lap boundary (R127)
  dark    : Bool            -- tiles are dark
  darkLap : Bool            -- the dark lap itself is in progress
  pend    : Option PlanCue
  pendB   : Int
  fixed   : Bool
  held    : Option PlanCue
  fullB   : Option Int
  fullAsk : Bool            -- B waits for the re-step that is pending at the seal (R319)
  limpAsk : Bool            -- BL waits for the re-step that is pending at the loss (R322)
  limpB   : Option Int
  limpQuiet : List Nat      -- ports whose LAP frame for B had not left at a loss before full service: they stay lit (R323)
  stepB   : Option Int
  stepGo  : Option Bool     -- decided at the decision point: committed or cancelled
  stepHeld : Bool           -- a request waits for a fixed change
  lastDark : Bool           -- the lap in progress at B was announced dark
  usable  : Nat             -- PLAN_USABLE
  reasons : List Nat
  refSrc  : Nat
  refPlan : Nat
  refWhy  : Nat
  pulses  : List Pulse      -- pulses still to begin
  lapPin  : Option Nat      -- tick at which LAP_OUT returns to its inactive level
  legPin  : Option Nat
  hourSec : Option Nat      -- seconds within the hour at the previous lap boundary of full service
  trimSec : Nat             -- whole second of the last trim update
  probeTick : Nat           -- tick of the last probe count second
  probeDue : Nat
  probeId : Nat
  noRoom  : Bool
  recheck : Option (Nat × Nat)    -- lamp index and laps since the request of a pending recheck
  recheckRes : Nat
  recheckIdx : Nat
  segNow  : Nat             -- pairs sent for change in the lap in progress
  forceNow : Nat
  segLast : Nat
  forceLast : Nat
  ageMax  : Nat             -- largest refresh age of the lap in progress, ms
  ageLast : Nat             -- the last complete lap's largest refresh age, ms
  watchOk : Bool
  watchTarget : Nat
  watchSeq : Nat
  refreshPtr : Nat          -- refresh sweep position
  deriving DecidableEq, Repr

/-- A scene cue in the pending table (R61, R62). -/
structure SceneCue where
  scene  : Nat
  fade   : Bool
  ramp   : Nat
  time   : Nat              -- units of 10 ms
  timed  : Bool
  split  : Nat
  accept : Int
  src    : Nat
  tick   : Nat
  order  : Nat
  deriving DecidableEq, Repr

/-- A fade in progress (R66). -/
structure Fade where
  target : Nat
  ramp  : Nat
  time  : Nat
  start : Int
  deriving DecidableEq, Repr

/-- What a layer shows: a solid, a completed flow frame by its buffer and frame count, or a surface's fence value in a slot. -/
inductive Content where
  | solid
  | flow (f : Nat) (buf : Nat) (frame : Nat)
  | surf (n : Nat) (slot : Nat) (fence : Nat)
  deriving DecidableEq, Repr

/-- A layer of a view's current or incoming scene (R53 to R58, R73). -/
structure LayerSt where
  content : Option Content
  ready   : Bool            -- at the view's last latch
  idleN   : Nat             -- consecutive latches not ready
  sameN   : Nat             -- consecutive accepted frames with an equal signature
  sig     : Option Nat
  stale   : Bool
  frozen  : Bool
  kept    : Bool            -- the last latch kept the content while newer content exists or its group waits (R55, R56)
  deriving DecidableEq, Repr

/-- A flip group of a view (R56, R57). -/
structure GroupSt where
  waiting : Bool
  count   : Nat             -- latches since the wait began
  late    : Bool
  deriving DecidableEq, Repr

/-- A pair a latch recomputes, and whether it is due for forced refresh (R97, R99). -/
structure Due where
  port : Nat
  pos  : Nat
  seg  : Nat
  force : Bool
  deriving DecidableEq, Repr

/-- What a latch fixes for the composition that follows (R38, R94). `changed` is false when the view is not recomposed. -/
structure Latch where
  seq     : Nat
  at_     : Int
  leg     : Nat
  plan    : LapPlan
  scene   : Nat
  layers  : List (Option Content)
  toScene : Option Nat      -- incoming scene of a fade, with g16
  toLayers : List (Option Content)
  g16     : Nat
  changed : Bool
  due     : List Due
  snap    : List Tile       -- the tiles' inputs as accepted before the latch (R94)
  underrun : List Nat       -- blocks sampled as background (R129)
  formed  : List Due        -- pairs computed before the composition ended, for their send deadlines (R129)
  badPx   : List Nat        -- canvas pixels sampled as background after an uncorrectable burst (R283)
  holes   : List (Bool × Nat × Nat × Nat)   -- layer pixels read as transparent black (R283): outgoing scene, layer, x, y
  done    : Bool
  deriving DecidableEq, Repr

/-- A view (R41, R42). -/
structure View where
  layers  : List LayerSt    -- of the current scene, or of the incoming scene of a fade
  out     : List LayerSt    -- of the outgoing scene of a fade
  groups  : List GroupSt    -- groups 1 to 7
  outGroups : List GroupSt
  noFade  : Bool            -- the fade in progress has ended for this view (R128)
  latch   : Option Latch
  canvas  : List (List Nat) -- pixels of the newest composition, row by row, four binary16 values each
  buf     : Nat             -- which canvas buffer holds it
  crcs    : List Nat        -- block CRCs of that composition
  recheckBlocks : List Nat  -- blocks that count as changed at the next latch (R129)
  deriving DecidableEq, Repr

/-- A host surface's fence (R54, R59). -/
structure Fence where
  value  : Nat
  staged : Option Nat
  fresh  : Bool             -- the committed value was committed since the HX7 entered full service
  tick   : Nat              -- tick of its commit
  prior  : Nat              -- the value before the commits of that tick (R38, R302)
  priorFresh : Bool
  priorLive : Bool          -- it has been neither accepted nor retired
  taken  : Option Nat       -- newest value a latch has accepted
  live   : Bool             -- the committed value has been neither accepted nor retired
  deriving DecidableEq, Repr

/-- A buffer of the warm-up frame store (R311): a source frame or the slate as 10-bit codes, three to a pixel. -/
structure WarmBuf where
  slate : Bool
  w     : Nat
  h     : Nat
  rows  : List (List Nat)
  deriving DecidableEq, Repr

/-- The warm-up path (R306 to R312). -/
structure Warm where
  bufs    : List (Option WarmBuf)   -- two
  newest  : Option Nat      -- buffer of the newest complete source frame
  slate   : Option Nat      -- buffer that holds the slate
  loading : Bool            -- a slate read is queued or in progress
  latched : Option Nat
  done    : Option Nat      -- tick of the last completed source frame
  present : Bool
  shown   : Nat             -- WARM_SOURCE: 0 source, 1 slate, 2 dark
  fresh   : Bool            -- the newest frame has not been latched
  frames  : Nat
  deriving DecidableEq, Repr

def Warm.reset : Warm := ⟨[none, none], none, none, false, none, none, false, 2, false, 0⟩

/-- Scenes and composition. -/
structure Scenes where
  cur     : Nat
  shown   : Bool            -- a scene is current (full service has begun)
  fade    : Option Fade
  pend    : List SceneCue   -- at most 16
  order   : Nat             -- cues accepted so far
  usable  : Nat             -- bit n: scene n usable
  reasons : List Nat
  refSrc  : Nat
  refScene : Nat
  refWhy  : Nat
  views   : List View
  fences  : List Fence
  schedMarks : List Int     -- per schedule entry: wall ns up to which its occurrences have been considered
  deriving DecidableEq, Repr

end Sys2Proof.Machine
end

