-- ==== Sys2Proof/Machine/StNet.lean ====
section
/-! DEFINITION. State of network ingest (07_network_ingest.md): sub-ports, flow receivers with their frame buffers, the cue
datagram receiver and the monitor sender. -/

namespace Sys2Proof.Machine

/-- A run of received pixels of one line: the stored pgroup bytes (R205). -/
structure Run where
  line  : Nat
  off   : Nat               -- first pixel
  len   : Nat               -- pixels
  bytes : List Byte
  deriving DecidableEq, Repr

/-- A frame buffer of a flow (R209). Later runs overwrite earlier ones (R210). -/
structure FrameBuf where
  full  : Bool              -- holds a completed frame
  frame : Nat               -- its number, counted from the join
  fresh : Bool              -- completed since the HX7 entered full service
  runs  : List Run
  freed : Nat               -- tick since which it has been free
  used  : Bool              -- being filled, newest completed, or held by a latch
  deriving DecidableEq, Repr

/-- A frame a flow is receiving (R207, R208). -/
structure FrameRx where
  ts    : Nat               -- RTP timestamp
  buf   : Option Nat        -- none: no buffer was free and the frame is being discarded
  first : Nat               -- tick of its first packet
  endTick : Option Nat      -- first arrival of its marker or of a packet of a later frame
  lo    : Option Nat        -- extended sequence number of the packet before its first, once known
  marker : Option Nat       -- extended sequence number of its marker packet
  got   : List Nat          -- extended sequence numbers received
  runs  : List Run
  deriving DecidableEq, Repr

/-- One path of a flow. -/
structure FlowPath where
  joined : Bool
  alive  : Bool             -- PATH_PRI or PATH_SEC
  tick   : Nat              -- tick of its last valid packet
  last   : Option Nat       -- newest extended sequence number on the path
  miss   : List (Nat × Nat × Nat)   -- numbers passed over and still awaited: the first, how many, and the tick
  deriving DecidableEq, Repr

/-- A flow receiver. -/
structure Flow where
  valid  : Bool
  code   : Nat              -- INVALID of FLOW_STATUS
  pri    : FlowPath
  sec    : FlowPath
  bufs   : List FrameBuf
  rx     : List FrameRx     -- frames in reception, oldest first
  ssrc   : Option Nat       -- the SSRC locked to
  other  : Nat              -- consecutive packets with another SSRC
  otherSsrc : Nat
  newest : Option Nat       -- newest extended sequence number seen
  back   : Nat              -- consecutive packets far behind it
  marker : Option Nat × Nat -- marker packet of the newest frame whose marker has arrived, with that frame's timestamp
  lastTs : Option Nat       -- newest timestamp of a frame completed or closed
  count  : Nat              -- frames completed
  rtpTs  : Nat
  done   : Option Nat       -- newest completed buffer
  doneTick : Nat            -- tick of its completion
  prior  : Option Nat       -- newest buffer completed before that tick (R209)
  acct   : Option Nat       -- extended sequence number up to which lost packets have been counted
  recv   : List Nat         -- extended sequence numbers received beyond it
  seen   : List (Nat × Nat × Bool)    -- (sequence number, arrival tick, secondary path) of the last second on a DUAL flow
  pd     : List (Nat × Nat) -- (tick, difference in ticks) of the pairs of copies within the last second
  noBuf  : Option Nat       -- tick of the last FLOW_NO_BUFFER
  unused : Option Nat       -- tick at which the flow ceased to be wanted
  deriving DecidableEq, Repr

/-- An IGMPv3 group record: type, group, sources. -/
structure GroupRec where
  kind : Nat
  group : Nat
  srcs : List Nat
  deriving DecidableEq, Repr

/-- A sub-port of an Ethernet port (R198, R213). -/
structure SubPort where
  up     : Bool
  hiSer  : Bool
  groups : List (Nat × Option (List Nat))   -- joined groups: the sources of INCLUDE mode, or none in EXCLUDE mode
  again  : List GroupRec    -- records of changes still to be reported once more
  repTick : Nat             -- tick of the last unsolicited report
  oldTick : Option Nat      -- tick of the last IGMP_OLD_QUERIER
  deriving DecidableEq, Repr

/-- A cue taken from a datagram and not yet accepted (R215). -/
structure DgCue where
  due   : Nat               -- tick of acceptance
  bytes : List Byte
  deriving DecidableEq, Repr

/-- A cue as its source gives it: a host register write (`src` 0), a datagram (1) or the schedule (2). -/
structure CueIn where
  plan  : Bool
  num   : Nat
  fade  : Bool
  ramp  : Nat
  time  : Nat               -- units of 10 ms
  timed : Bool
  split : Nat
  src   : Nat
  deriving DecidableEq, Repr

/-- What R416 delays: a cue, or a lamp's new STATE from its tile's report. -/
inductive Late where
  | cue (c : CueIn)
  | lamp (port pos scan state : Nat)
  deriving DecidableEq, Repr

/-- A delayed input with the tick at which it counts as accepted. -/
structure Delayed where
  due  : Nat
  what : Late
  deriving DecidableEq, Repr

/-- A sender slot of the cue datagram receiver. -/
structure DgSender where
  last  : Option Nat
  bytes : List Byte
  tick  : Nat               -- tick of its acceptance
  sub   : Nat               -- sub-port it came on
  deriving DecidableEq, Repr

/-- What the datagrams that passed check 2 in one tick found (Table 14.8): the counters of the later checks, the senders and the
queue before the first of them, and the SENDER of each. -/
structure DgMark where
  tick    : Nat
  cnts    : List Nat
  senders : List DgSender
  queue   : List DgCue
  slots   : List Nat
  deriving DecidableEq, Repr

/-- The monitor sender (R216 to R218). -/
structure Monitor where
  packets : List (List Byte)    -- RTP packets of the frame in progress, in order
  total   : Nat
  sent    : Nat
  dry     : Bool            -- a packet of the frame in progress has been lost in the transmit buffer (R301)
  want    : Bool            -- a frame is to be made of the latch in composition
  at_     : Int             -- latch of the frame in progress, wall ns
  lapNum  : Nat             -- lap period of the even spread, numerator and denominator in ns
  lapDen  : Nat
  seq     : Nat             -- next extended sequence number
  frames  : Nat
  width   : Nat             -- of the frame of the newest latch
  height  : Nat
  deriving DecidableEq, Repr

/-- Network ingest. -/
structure Net where
  subs    : List SubPort    -- e.s at 2e + s
  flows   : List Flow
  dgQueue : List DgCue
  senders : List DgSender
  rejTick : Option Nat      -- tick of the last CUE_DG_REJECTED for a bad tag
  dgMark  : Option DgMark
  mon     : Monitor
  relayQ  : List Delayed    -- cues and tile inputs of an ACTIVE unit that count as accepted later (R416), oldest first
  deriving DecidableEq, Repr

def FlowPath.reset : FlowPath := ⟨false, false, 0, none, []⟩

def Flow.reset : Flow :=
  { valid := false, code := 0, pri := .reset, sec := .reset, bufs := [], rx := [], ssrc := none, other := 0, otherSsrc := 0
    newest := none, back := 0, marker := (none, 0), lastTs := none, count := 0, rtpTs := 0, done := none, doneTick := 0, prior := none, acct := none, recv := [], seen := [], pd := []
    noBuf := none, unused := none }

def SubPort.reset : SubPort := ⟨false, false, [], [], 0, none⟩

def Net.reset : Net :=
  { subs := List.replicate 8 .reset, flows := List.replicate 64 .reset, dgQueue := []
    senders := List.replicate 16 ⟨none, [], 0, 0⟩, rejTick := none, dgMark := none
    mon := ⟨[], 0, 0, false, false, 0, 0, 1, 0, 0, 0, 0⟩, relayQ := [] }

end Sys2Proof.Machine
end

