-- ==== Sys2Proof/Machine/Transcend.lean ====
section
/-! DEFINITION. Natural logarithm, exponential and powers of rational numbers in fixed point with 160 fraction bits, and what the
spec computes with them: the temperature of a thermistor (R433), the transfer functions PQ and HLG of Table 7.5 and the inverse of
PQ for the monitor (R217). Table 7.5 names the functions of ST 2084 and BT.2100; their formulas and constants are PRESUMED from
those standards. A result is exact to far more bits than the binary32 value or the code that is rounded from it. -/

namespace Sys2Proof.Machine

/-- 1.0 in fixed point. -/
def fixOne : Nat := 2 ^ 160

/-- The series t + t q / 3·k … of the inverse hyperbolic tangent: `t` is z^k, `q` is z². -/
def atanhSeries : Nat → Nat → Nat → Nat → Nat
  | 0, _, _, _ => 0
  | n + 1, t, q, k => t / k + atanhSeries n (t * q / fixOne) q (k + 2)

/-- The inverse hyperbolic tangent of a / b, for 0 ≤ a / b ≤ 1/3. -/
def atanhOf (a b : Nat) : Nat :=
  let z := a * fixOne / b
  atanhSeries 56 z (z * z / fixOne) 1

/-- ln 2. -/
def lnTwo : Nat := 2 * atanhOf 1 3

/-- ln (n / d) for positive n and d. -/
def lnOf (n d : Nat) : Int :=
  let k : Int := (n.log2 : Int) - d.log2
  let a := n * 2 ^ (-k).toNat
  let b := d * 2 ^ k.toNat
  let m : Int := (2 * atanhOf (max a b - min a b) (a + b) : Nat)
  k * (lnTwo : Nat) + (if a < b then -m else m)

/-- The series of the exponential from term `t` on, which is r^i / i!. -/
def expSeries : Nat → Nat → Nat → Nat → Nat
  | 0, _, _, _ => 0
  | n + 1, t, r, i => t + expSeries n (t * r / fixOne / (i + 1)) r (i + 1)

/-- e^y: a significand and an exponent of two. -/
def expOf (y : Int) : Nat × Int :=
  let k := y / (lnTwo : Nat)
  (expSeries 48 fixOne (y % (lnTwo : Nat)).toNat 0, k - 160)

/-- (n / d)^(a / b) for positive n and d. -/
def powOf (n d a b : Nat) : Nat × Int := expOf (lnOf n d * a / b)

/-- A significand with its exponent as a fixed-point number, below 2^64. -/
def fixOf (x : Nat × Int) : Nat := if -160 ≤ x.2 then x.1 * 2 ^ (x.2 + 160).toNat else x.1 / 2 ^ (-160 - x.2).toNat

/-- T[i] of TCS 1 (Table 7.5): the binary32 value nearest to the ST 2084 EOTF of i / 4096 in cd/m², divided by PQ_REF. -/
def pqT (ref i : Nat) : Fl :=
  if i == 0 then .fin false 0 0
  else
    let p := fixOf (powOf i 4096 32 2523)
    let n := 128 * p - 107 * fixOne
    let x := powOf n (2413 * fixOne - 2392 * p) 16384 2610
    (Fl.fin false x.1 x.2).mulX (.ofNat 10000) |>.div (.ofNat ref)

/-- The BT.2100 HLG inverse OETF of i / 4096, times 12 × 10^8, in fixed point. -/
def hlgInv (i : Nat) : Nat :=
  if i ≤ 2048 then i ^ 2 * (400000000 * 2 ^ 136)
  else 71533108 * fixOf (expOf (((i : Int) - 2048) * (100000000 * 2 ^ 148) / 17883277)) + 28466892 * fixOne

/-- T[i] of TCS 2 (Table 7.5): the binary32 value nearest to the inverse OETF of i / 4096 divided by that of 0.75. -/
def hlgT (i : Nat) : Fl := (Fl.ofNat (hlgInv i)).div (.ofNat (hlgInv 3072))

/-- The inverse of the ST 2084 EOTF of n / d times 10,000 cd/m², for n / d at most 1, in units of 2^−40. -/
def pqInv (n d : Nat) : Nat :=
  if n == 0 then 0
  else
    let y := fixOf (powOf n d 2610 16384)
    let x := powOf (107 * fixOne + 2413 * y) (128 * fixOne + 2392 * y) 2523 32
    fixOf x / 2 ^ 120

/-- ln of a binary32 value, rounded to the nearest binary32 value: −∞ at 0, a NaN below. -/
def Fl.ln : Fl → Fl
  | .nan => .nan
  | .inf n => if n then .nan else .inf false
  | .fin n m e =>
    if m == 0 then .inf true
    else if n then .nan
    else (Fl.ofInt (lnOf (m * 2 ^ e.toNat) (2 ^ (-e).toNat)) 160).r32

/-- R433: T of a resistance in units of 0.01 Ω, RNOM in units of 10 Ω and BETA, each operation in binary32. -/
def thermistorT (rm rnom beta : Nat) : Fl :=
  let t0 := (Fl.ofNat 29815).div (.ofNat 100)
  let l := ((Fl.ofNat rm).div (.ofNat (1000 * rnom))).ln
  (((Fl.ofNat 1).div (((Fl.ofNat 1).div t0).add (l.div (.ofNat beta)))).sub ((Fl.ofNat 27315).div (.ofNat 100)))

/-- A finite value in units of 1/16, to nearest with ties to even; none for an infinity or a NaN. -/
def Fl.sixteenths : Fl → Option Int
  | .fin n m e => some (Fl.fin n m (e + 4)).rne
  | _ => none

end Sys2Proof.Machine
end

