-- ==== Sys2Proof/Machine/Pixel.lean ====
section
/-! DEFINITION. Conversion of stored pixels to source values (R206, R254) and the flow record's fields (Table 7.2, Table 7.4). -/

namespace Sys2Proof.Machine

/-- Fields of a flow record (Table 7.2). -/
structure FlowRec where
  secPort : Nat
  secSub  : Nat
  priPort : Nat
  priSub  : Nat
  conceal : Bool
  join    : Nat
  dual    : Bool
  priSrc  : Nat
  priDst  : Nat
  secUdp  : Nat
  priUdp  : Nat
  secSrc  : Nat
  secDst  : Nat
  h       : Nat
  w       : Nat
  bufs    : Nat
  pt      : Nat
  tcs     : Nat
  prim    : Nat
  range   : Nat
  fmt     : Nat
  rateD   : Nat
  rateN   : Nat
  pqRef   : Nat
  maxPd   : Nat
  fm      : List Word
  badRes  : Bool
  deriving DecidableEq, Repr

/-- The flow record of 20 words (R202). -/
def FlowRec.parse (ws : List Word) : FlowRec :=
  let w i := wAt ws i
  { secPort := wfld (w 0) 22 20, secSub := b2n (wbit (w 0) 23), priPort := wfld (w 0) 18 16, priSub := b2n (wbit (w 0) 19)
    conceal := wbit (w 0) 11, join := wfld (w 0) 10 9, dual := wbit (w 0) 8
    priSrc := (w 1).toNat, priDst := (w 2).toNat, secUdp := wfld (w 3) 31 16, priUdp := wfld (w 3) 15 0
    secSrc := (w 4).toNat, secDst := (w 5).toNat, h := wfld (w 6) 31 16, w := wfld (w 6) 15 0
    bufs := wfld (w 7) 31 24, pt := wfld (w 7) 22 16, tcs := wfld (w 7) 9 8, prim := wfld (w 7) 7 6
    range := wfld (w 7) 5 4, fmt := wfld (w 7) 3 0
    rateD := if wbit (w 8) 31 then 1001 else 1000, rateN := wfld (w 8) 17 0
    pqRef := wfld (w 9) 31 16, maxPd := wfld (w 9) 15 0, fm := (ws.drop 10).take 9
    badRes := wfld (w 0) 31 24 != 0 || wfld (w 0) 15 12 != 0 || wfld (w 0) 7 6 != 0 || wbit (w 7) 23 ||
      wfld (w 7) 15 10 != 0 || wfld (w 8) 30 18 != 0 || w 19 != 0 || ((ws.drop 10).take 9).any tintIll }

/-- Bytes and pixels of a pgroup (Table 7.4). -/
def pgroup : Nat → Nat × Nat
  | 0 => (5, 2) | 1 => (6, 2) | 2 => (15, 4) | 3 => (9, 2) | 4 => (6, 1) | _ => (1, 1)

/-- Bits per pixel (Table 7.4). -/
def bitsPerPx : Nat → Nat
  | 0 => 20 | 1 => 24 | 2 => 30 | 3 => 36 | 4 => 48 | _ => 0

/-- Bit depth of a format's codes. -/
def fmtDepth (f : Nat) : Nat := if f == 0 || f == 2 then 10 else if f == 1 || f == 3 then 12 else 16

/-- A 4:2:2 format. -/
def is422 (f : Nat) : Bool := f == 0 || f == 1

/-- The `i`-th code of `d` bits, big-endian, in a pgroup's bytes. -/
def codeAt (bs : List Byte) (d i : Nat) : Nat :=
  let tot := 8 * bs.length
  (beNat bs >>> (tot - d * (i + 1))) % 2 ^ d

/-- The codes of a stored pixel: Y', Cb, Cr of its pgroup for 4:2:2, or R', G', B'. PRESUMED sample order of ST 2110-20: Cb, Y0,
Cr, Y1 and R, G, B; 16f samples are big-endian. -/
def pxCodes (fmt : Nat) (pg : List Byte) (k : Nat) : List Nat :=
  let d := fmtDepth fmt
  if is422 fmt then [codeAt pg d (1 + 2 * k), codeAt pg d 0, codeAt pg d 2]
  else [codeAt pg d (3 * k), codeAt pg d (3 * k + 1), codeAt pg d (3 * k + 2)]

/-- The newest run that wrote a pixel. -/
def runOf (rs : List Run) (x y : Nat) : Option Run :=
  rs.reverse.find? fun r => r.line == y && r.off ≤ x && x < r.off + r.len

/-- The pgroup bytes that hold a pixel, if it was received. -/
def pgroupAt (fmt : Nat) (rs : List Run) (x y : Nat) : Option (List Byte) :=
  (runOf rs x y).map fun r =>
    let (b, n) := pgroup fmt
    slice r.bytes ((x - r.off) / n * b) b

/-- Black: code 0 after normalisation (R208). -/
def blackCodes (fmt range : Nat) : List Nat :=
  let lo := if range == 0 then (if fmtDepth fmt == 10 then 64 else 256) else 0
  let mid := if fmtDepth fmt == 10 then 512 else 2048
  if fmt == 4 then [0, 0, 0] else if is422 fmt then [lo, mid, mid] else [lo, lo, lo]

/-- The codes of a pixel of a frame, black where nothing was received. -/
def frameCodes (r : FlowRec) (rs : List Run) (x y : Nat) : List Nat :=
  match pgroupAt r.fmt rs x y with
  | some pg => pxCodes r.fmt pg (x % (pgroup r.fmt).2)
  | none => blackCodes r.fmt r.range

/-- Step 1 of R206 for a luma or colour code. -/
def normY (fmt range d : Nat) : Fl :=
  let ten := fmtDepth fmt == 10
  if range == 0 then (Fl.ofInt ((d : Int) - (if ten then 64 else 256)) 0).div (.ofNat (if ten then 876 else 3504))
  else (Fl.ofNat d).div (.ofNat (if ten then 1023 else 4095))

/-- Step 1 of R206 for a chroma code. -/
def normC (fmt range d : Nat) : Fl :=
  let ten := fmtDepth fmt == 10
  let v := Fl.ofInt ((d : Int) - (if ten then 512 else 2048)) 0
  if range == 0 then v.div (.ofNat (if ten then 896 else 3584)) else v.div (.ofNat (if ten then 1023 else 4095))

/-- Kr, Kb and Kg of the primaries, in 10,000ths (R206 step 3). -/
def kCoef (prim : Nat) : Nat × Nat × Nat := if prim == 0 then (2126, 722, 7152) else (2627, 593, 6780)

/-- A ratio of naturals as the nearest binary32 value. -/
def ratio32 (a b : Nat) : Fl := (Fl.ofNat a).div (.ofNat b)

/-- Step 3 of R206. -/
def ycc2rgb (prim : Nat) (y cb cr : Fl) : Px :=
  let (kr, kb, kg) := kCoef prim
  let ar := ratio32 (2 * (10000 - kr)) 10000
  let ab := ratio32 (2 * (10000 - kb)) 10000
  let agb := ratio32 (2 * kb * (10000 - kb)) (kg * 10000)
  let agr := ratio32 (2 * kr * (10000 - kr)) (kg * 10000)
  [ar.fma cr y, agr.neg.fma cr (agb.neg.fma cb y), ab.fma cb y]

/-- The binary32 value nearest to (i / n)^(12/5): the integer fifth root to 80 fraction bits with a sticky bit, rounded once. -/
def pow24 (i n : Nat) : Fl :=
  if i == 0 then .fin false 0 0
  else
    let x := i ^ 12 * 2 ^ 400
    let m := searchMax 90 (fun g => g ^ 5 * n ^ 12 ≤ x) 0
    let st := if m ^ 5 * n ^ 12 == x then 0 else 1
    (Fl.fin false (2 * m + st) (-81)).r32

/-- T[i] (R206, Table 7.5). -/
def transferT (tcs pqRef i : Nat) : Fl :=
  match tcs with
  | 0 => pow24 i 4096
  | 1 => pqT pqRef i
  | _ => hlgT i

/-- Step 4 of R206 for TCS 0 to 2. -/
def transfer (tcs pqRef : Nat) (e : Fl) : Fl :=
  let e := e.clamp01
  let k := e.floorMul 12
  if 4096 ≤ k then transferT tcs pqRef 4096
  else
    let a := transferT tcs pqRef k
    let b := transferT tcs pqRef (k + 1)
    (b.sub a).fma ((e.mul (.ofNat 4096)).sub (.ofNat k)) a

/-- Step 6 of R206: rounded to binary16, infinities kept. -/
def to16v (x : Fl) : Fl := .of16 x.to16

/-- Chroma of column `x` (R206 step 2) from a reader of chroma pair `i`. -/
def chroma422 (w : Nat) (c : Nat → Fl) (x : Nat) : Fl :=
  if x % 2 == 0 then c (x / 2)
  else if x + 1 == w then c ((x - 1) / 2)
  else ((c ((x - 1) / 2)).add (c ((x + 1) / 2))).mul (.fin false 1 (-1))

/-- The nonlinear R', G', B' of a flow pixel: steps 1 to 3 of R206. -/
def flowNonlin (r : FlowRec) (rs : List Run) (x y : Nat) : Px :=
  let cs := frameCodes r rs x y
  if is422 r.fmt then
    let ch := fun (n i : Nat) => normC r.fmt r.range ((frameCodes r rs (2 * i) y).getD n 0)
    ycc2rgb r.prim (normY r.fmt r.range (cs.getD 0 0)) (chroma422 r.w (ch 1) x) (chroma422 r.w (ch 2) x)
  else cs.map (normY r.fmt r.range)

/-- A flow pixel as a source value: R206, with source alpha 1.0. -/
def flowPx (r : FlowRec) (rs : List Run) (x y : Nat) : Px :=
  let lin := if r.tcs == 3 then (frameCodes r rs x y).map fun c => (Fl.of16 c).sane
    else (flowNonlin r rs x y).map (transfer r.tcs r.pqRef)
  (matMul r.fm lin).map to16v ++ [.ofNat 1]

/-- Fields of a host surface record (Table 9.2). -/
structure SurfRec where
  bufs  : Nat
  tcs   : Nat
  prim  : Nat
  fmt   : Nat
  h     : Nat
  w     : Nat
  pitch : Nat
  pqRef : Nat
  sm    : List Word
  bad   : Bool              -- the record is invalid (R253)
  deriving DecidableEq, Repr

/-- Bytes per pixel of a host surface format (Table 9.3). -/
def surfBytes (f : Nat) : Nat := if f == 3 then 8 else 4

/-- The host surface record of 16 words (R253). -/
def SurfRec.parse (ws : List Word) : SurfRec :=
  let w i := wAt ws i
  let bufs := wfld (w 0) 24 20
  let tcs := wfld (w 0) 17 16
  let prim := wfld (w 0) 15 14
  let fmt := wfld (w 0) 11 8
  let h := wfld (w 1) 31 16
  let wd := wfld (w 1) 15 0
  let pitch := (w 2).toNat
  let pq := wfld (w 3) 15 0
  let sm := (ws.drop 4).take 9
  { bufs := bufs, tcs := tcs, prim := prim, fmt := fmt, h := h, w := wd, pitch := pitch, pqRef := pq, sm := sm
    bad := wfld (w 0) 31 25 != 0 || wfld (w 0) 19 18 != 0 || wfld (w 0) 13 12 != 0 || wfld (w 0) 7 4 != 0 ||
      wfld (w 3) 31 16 != 0 || w 13 != 0 || w 14 != 0 || w 15 != 0 || sm.any tintIll ||
      bufs < 2 || 16 < bufs || 1 < prim || 3 < fmt || h < 1 || 8192 < h || wd < 1 || 16384 < wd ||
      pitch % 256 != 0 || pitch < wd * surfBytes fmt || (tcs == 1 && (pq < 1 || 10000 < pq)) ||
      (fmt == 3) != (tcs == 3) }

end Sys2Proof.Machine
end

