-- ==== Sys2Proof/Machine/StHost.lean ====
section
/-! DEFINITION. State of the host port (09_host_port.md): the link, attachment, host surface pulls and their HBM slots, and the
staging of NVM images; with the conversion of a host surface pixel (R254). -/

namespace Sys2Proof.Machine

/-- One of a surface's three HBM slots (R255, R256). -/
structure Slot where
  fence : Option Nat
  lines : List (Option (List Byte))
  deriving DecidableEq, Repr

/-- A pull in progress (R255). -/
structure Pull where
  fence : Nat
  slot  : Nat
  seq   : Nat               -- leg sequence number of the latch that accepted the value
  view  : Nat               -- the surface's first view, for R257
  addr  : Option Nat        -- the table entry once read
  line  : Nat               -- next line expected
  prev  : Option Nat        -- the slot of the content accepted before it
  start : Nat               -- the latch, disciplined time
  span  : Nat               -- half the lap period of the plan in force, over which the reads are paced
  sent  : Nat               -- lines whose reads have been sent
  warm  : Bool              -- the pull fills a buffer of the warm-up frame store (R311)
  deriving DecidableEq, Repr

/-- A host surface. -/
structure Surf where
  valid  : Bool
  slots  : List Slot
  newest : Option Nat       -- slot of the newest accepted fence value
  pull   : Option Pull
  lines  : Nat              -- lines of the pull in progress or the last pull
  waited : Nat              -- latch at which HS_SLOT_WAIT was last counted, by its wall ns
  deriving DecidableEq, Repr

/-- A staging in progress or ended (R258, Table 9.5). -/
structure Stage where
  state   : Nat
  code    : Nat
  kib     : Nat
  kind    : Nat
  version : Nat
  image   : List Byte
  wait    : Bool            -- waits in CHECKING for TRIAL to clear (R341)
  sealHash : List Byte      -- SHA-256 of the pulled image
  list    : List (Nat × Nat)    -- the entries read: address and length
  pos     : Nat             -- sectors erased or pages programmed
  abort   : Bool            -- ABORT waits for the next page or sector boundary (R259)
  mark    : Bool            -- the STAGED header is being written (R341)
  deriving DecidableEq, Repr

/-- An access through BAR2 that waits for a stack's exit (R251, R266). -/
inductive Bar2Op where
  | read (addr len : Nat)
  | write (addr : Nat) (data : List Byte)
  deriving DecidableEq, Repr

/-- The host port. -/
structure HostPort where
  link     : Bool
  speed    : Nat
  width    : Nat
  flit     : Bool
  conf     : HostConf
  d3hot    : Bool           -- the power state is D3hot, otherwise D0
  status   : Nat            -- error bits of the Status register: 12 CA received, 13 UR received, 15 poisoned data received
  aer      : Nat            -- Uncorrectable Error Status of Advanced Error Reporting: 12 poisoned data, 14 completion timeout
  perst    : Bool           -- PE_PERST_N is low
  perstTick : Nat
  attached : Bool
  fail     : Nat            -- ATTACH_FAIL
  surfs    : List Surf
  stage    : Stage
  waits    : List Bar2Op    -- BAR2 accesses that wait for a stack's exit, in order
  deriving DecidableEq, Repr

/-- The configuration space after a reset of the function; Max Read Request Size is then 512 bytes. -/
def confReset : HostConf := ⟨false, 0, 0, 0, 0, 2⟩

def Slot.reset : Slot := ⟨none, []⟩

def Surf.reset : Surf :=
  { valid := false, slots := [.reset, .reset, .reset], newest := none, pull := none, lines := 0, waited := 0 }

def Stage.reset : Stage := ⟨0, 0, 0, 0, 0, [], false, [], [], 0, false, false⟩

def HostPort.reset : HostPort :=
  { link := false, speed := 0, width := 0, flit := false, conf := confReset, d3hot := false, status := 0, aer := 0, perst := false, perstTick := 0, attached := false
    fail := 0, surfs := List.replicate 16 .reset, stage := .reset, waits := [] }

/-- Bus Master Enable. -/
def HostPort.bme (h : HostPort) : Bool := h.conf.master

/-- The four stored codes of a host surface pixel (Table 9.3), R, G, B, A. -/
def surfCodes (fmt : Nat) (bs : List Byte) : List Nat :=
  let b i := ((bs.getD i 0).toNat : Nat)
  match fmt with
  | 0 => let n := leNat (slice bs 0 4); [nfld n 9 0, nfld n 19 10, nfld n 29 20, nfld n 31 30]
  | 1 => [b 0, b 1, b 2, b 3]
  | 2 => [b 2, b 1, b 0, b 3]
  | _ => [leAt bs 0 2, leAt bs 2 2, leAt bs 4 2, leAt bs 6 2]

/-- The normalised colour of FORMAT 0 to 2 (R254). -/
def surfNorm (fmt : Nat) (cs : List Nat) : Px :=
  let n := if fmt == 0 then 1023 else 255
  (cs.take 3).map (fun d => ratio32 d n) ++ [ratio32 (cs.getD 3 0) (if fmt == 0 then 3 else 255)]

/-- A host surface pixel as a source value (R254). -/
def surfPx (r : SurfRec) (bs : List Byte) : Px :=
  let cs := surfCodes r.fmt bs
  if r.fmt == 3 then
    (matMul r.sm ((cs.take 3).map fun c => (Fl.of16 c).sane)).map to16v ++ [(Fl.of16 (cs.getD 3 0)).sane]
  else
    let p := surfNorm r.fmt cs
    (matMul r.sm ((p.take 3).map (transfer r.tcs r.pqRef))).map to16v ++ [to16v (chan p 3)]

/-- A pixel of a slot's lines; a line not received reads as transparent black. -/
def slotPx (r : SurfRec) (ls : List (Option (List Byte))) (x y : Nat) : Px :=
  match ls.getD y none with
  | some bs => surfPx r (slice bs (x * surfBytes r.fmt) (surfBytes r.fmt))
  | none => [.fin false 0 0, .fin false 0 0, .fin false 0 0, .fin false 0 0]

end Sys2Proof.Machine
end

