-- ==== Sys2Proof/Machine/StMem.lean ====
section
/-! DEFINITION. State of the memory system (10_memory_system.md): stacks, pseudo-channel controllers, the real-time ports and the
bytes of HBM; and of the fabric, the pacer and the hurdle check (11_fabric_pacer.md). -/

namespace Sys2Proof.Machine

/-- What a stack does (STATE of STACK_STATUS, R272, R274). -/
inductive StackPhase where
  | absent | training | active
  | entering                -- owed refreshes are being paid before the self-refresh entry command
  | selfRefresh             -- the entry command has been issued
  | exiting                 -- from wake to the first request served
  | failed
  deriving DecidableEq, Repr

/-- A stack. -/
structure StackSt where
  phase   : StackPhase
  step    : Bool            -- the low-power action in progress is a step, otherwise rest
  phaseTick : Nat           -- tick at which the phase began
  quiet   : Nat             -- tick since which no request has been queued for the stack
  rate    : Nat             -- RATE_NOW
  down    : Bool            -- the stack runs stepped down
  hot     : Bool
  hotTick : Option Nat      -- tick of the last hot crossing
  temp    : Int             -- last reading, 1/16 °C
  tempTick : Nat            -- tick of the last reading
  tempPrior : Int           -- the reading before it
  trained : Bool
  deriving DecidableEq, Repr

/-- A memory request (R265): `port` in the order of Table 10.4. -/
structure MemReq where
  port  : Nat
  addr  : Nat
  write : Bool
  tick  : Nat
  deriving DecidableEq, Repr

/-- A command of a pseudo-channel controller (R281). Banks are numbered 16 × stack ID + bank. -/
inductive MemCmd where
  | act (bank row : Nat)
  | pre (bank : Nat)
  | preAll
  | rd (bank col : Nat)
  | wr (bank col : Nat)
  | ref (bank : Nat)
  deriving DecidableEq, Repr

/-- An open row with the tick of its bank's last access. -/
structure OpenRow where
  bank : Nat
  row  : Nat
  tick : Nat
  deriving DecidableEq, Repr

/-- A pseudo-channel with its controller. -/
structure PcSt where
  train   : Nat             -- TRAIN of PC_STATUS
  trimStatus : Nat
  trimQ   : Nat
  eye     : Nat
  spares  : List Nat        -- lanes carried on spares 0 and 1; 63 unused
  owed    : Nat
  payAll  : Bool            -- after a hot crossing: nothing is postponed until OWED is 0 (R271)
  refBank : Nat             -- bank of the next refresh
  refTick : Nat             -- when the last refresh fell due, in 64ths of a tick
  rows    : List OpenRow
  queue   : List MemReq
  flight  : List MemReq     -- read bursts issued and not yet returned: two for each request (Table 10.1)
  credit  : List Nat        -- weighted round robin: turns left of COMPOSE, INGEST, HOSTPULL, BAR2, MGMT
  cmds    : List MemCmd     -- the last 32 commands issued, oldest first
  alert   : Option (List MemCmd)    -- the command an alert names with every command after it
  tries   : Nat             -- consecutive failed replays
  slotTick : Nat            -- tick from which the next calibration slot is due
  slotOn  : Option Nat      -- start of the slot in progress
  slotLate : Bool           -- MEM_TRIM_POSTPONED has been recorded for it
  ueTicks : List Nat        -- ticks of uncorrectable bursts within the last second
  deriving DecidableEq, Repr

/-- A real-time port (R267). -/
structure RtPort where
  level : Nat
  panic : Bool
  busy  : Bool              -- consumption is still scheduled before its next latch
  deriving DecidableEq, Repr

/-- The memory system. HBM bytes are kept with bit 8 set once written; an unwritten byte is the free value of R42. -/
structure Mem where
  ok     : Bool             -- HBM_OK
  lostPc : Nat
  mapOrder : Nat            -- MAP_ORDER as read at training (R264)
  stks   : List StackSt
  pcs    : List PcSt
  rt     : List RtPort      -- LAMP, CANVAS, SYNTH
  ueAddr : Nat
  uePort : Nat
  bytes  : List (Nat × BitVec 9)
  lampBase : Nat            -- LAMP_TABLE_BASE, units of 512 bytes
  canvasBase : List Nat     -- places of the canvas buffers, units of 512 bytes: buffer b of view v at 2 v + b
  flowBase : List Nat       -- places of the frame buffers, units of 512 bytes: buffer b of flow f at 10 f + b (R205)
  slotBase : List Nat       -- places of the surfaces' slots: slot k of surface n at 3 n + k (R254)
  lampN  : Nat              -- lamp indices assigned at the last census (LAMP_COUNT)
  badEntries : Nat × Nat    -- lamps with an invalid curve, and with an invalid partner slot, at the last census (R85, R91)
  lampLost : List Nat       -- lamp indices whose entries an uncorrectable burst has hit (R283)
  trained : List (Nat × Word)     -- what training has written to PHY_DELAY and SHADOW_TIMING, by register (R276, R344)
  poison : List Nat         -- 64-byte units of which a BAR2 read burst has come back uncorrectable
  deriving DecidableEq, Repr

/-- What an HBM byte reads as. -/
def hbmRead (m : List (Nat × BitVec 9)) (a : Nat) : Byte :=
  let v := Sparse.get (fun _ => 0#9) m a
  if v.getLsbD 8 then v.setWidth 8 else Config.hbmByte a

/-- HBM with one byte written. -/
def hbmWrite (m : List (Nat × BitVec 9)) (a : Nat) (b : Byte) : List (Nat × BitVec 9) :=
  Sparse.set (fun _ => 0#9) m a (b.setWidth 9 ||| 256#9)

/-- HBM with a run of bytes written. -/
def hbmWriteList (m : List (Nat × BitVec 9)) (a : Nat) : List Byte → List (Nat × BitVec 9)
  | [] => m
  | b :: bs => hbmWriteList (hbmWrite m a b) (a + 1) bs

def StackSt.reset : StackSt := ⟨.absent, false, 0, 0, 0, false, false, none, 0, 0, 0, false⟩

def PcSt.reset : PcSt :=
  { train := 0, trimStatus := 0, trimQ := 0, eye := 0, spares := [63, 63], owed := 0, payAll := false, refBank := 0
    refTick := 0, rows := [], queue := [], flight := [], credit := [8, 4, 2, 1, 1], cmds := [], alert := none, tries := 0
    slotTick := 0, slotOn := none, slotLate := false, ueTicks := [] }

def Mem.reset : Mem :=
  { ok := false, lostPc := 0, mapOrder := 3, stks := List.replicate 4 .reset, pcs := List.replicate 128 .reset
    rt := List.replicate 3 ⟨0, false, false⟩, ueAddr := 0, uePort := 0, bytes := [], lampBase := 0
    canvasBase := List.replicate 16 0, flowBase := List.replicate 640 0, slotBase := List.replicate 48 0, lampN := 0, badEntries := (0, 0), lampLost := [], trained := [], poison := [] }

/-- The fabric, the pacer and the hurdle check. -/
structure Fab where
  vset    : Nat             -- mV
  vTick   : Nat             -- tick of the last change of VSET
  above   : Nat             -- laps above SLACK_HI
  surged  : Bool            -- a surge arose in the current lap
  surgeRun : Nat            -- consecutive laps with a surge, with VSET at VMAX (R300)
  mismatch : Bool
  vOff    : List Bool       -- whether each of the last three VCORE readings is off by more than 30 mV, newest first
  slack   : Option Int      -- S of the last lap
  margin  : Option Int      -- smallest margin of the lap in progress
  guardEnd : List Int       -- lap boundaries, wall ns, at which the guards of cues that took effect end
  guarded : Bool            -- GUARD
  lost    : Bool
  slow    : Bool
  stage   : Nat
  elTick  : List (Option Nat)   -- tick of the last ELASTIC_LOSS per boundary
  runs    : Nat
  runTick : Option Nat      -- start of the hurdle check in progress
  slowDue : Bool            -- FABRIC_SLOW is to be recorded as the tick ends
  fades   : List (Nat × Nat)    -- ordered scene pairs that are fadeable
  runDone : Option Nat      -- tick at which the last hurdle check completed, with the results before it
  priorPlans : List Nat
  priorScenes : List Nat
  priorFades : List (Nat × Nat)
  qTick   : Option Nat      -- HURDLE_QUERY written and not yet judged
  qValid  : Bool
  qUnj    : Bool
  qUse    : List Nat
  deriving DecidableEq, Repr

def Fab.reset : Fab :=
  { vset := 900, vTick := 0, above := 0, surged := false, surgeRun := 0, mismatch := false
    vOff := [], slack := none
    margin := none, guardEnd := [], guarded := false, lost := false, slow := false, stage := 0
    elTick := [none, none, none, none], runs := 0, runTick := none, slowDue := false, fades := [], runDone := none, priorPlans := [], priorScenes := [], priorFades := []
    qTick := none, qValid := false, qUnj := false, qUse := List.replicate 48 0 }

end Sys2Proof.Machine
end

