-- ==== Sys2Proof/Machine/StRelay.lean ====
section
/-! DEFINITION. State of the relay (17_relay.md), of the security functions (14_security.md), of the package and its power
(21_package_power.md), and everything the device sends to the world. -/

namespace Sys2Proof.Machine

/-- Roles (Table 17.1). -/
inductive Role where
  | alone | pairing | active | standby | solo | unpaired
  deriving DecidableEq, Repr

/-- ROLE as a number (Table 17.1). -/
def Role.code : Role → Nat
  | .alone => 0 | .pairing => 1 | .active => 2 | .standby => 3 | .solo => 4 | .unpaired => 5

/-- The role a number names. -/
def Role.of (n : Nat) : Role :=
  match n with
  | 0 => .alone | 1 => .pairing | 2 => .active | 3 => .standby | 4 => .solo | _ => .unpaired

/-- A mirrored input waiting for the latch it names (R415, R416), with the partner's port and position. -/
inductive Mirror where
  | tile (port pos : Nat) (tm ta : Int) (cc : Nat) (tr : List Int)
  | lamp (port pos scan state : Nat)
  | flush (port pos : Nat)
  deriving DecidableEq, Repr

/-- A mirrored input with the latch it names. -/
structure MirrorAt where
  lap : Nat
  leg : Nat
  what : Mirror
  deriving DecidableEq, Repr

/-- A mirrored cue: the scene or plan that takes effect at a lap boundary (R415). -/
structure MirrorCue where
  plan : Bool
  num  : Nat
  trans : Nat
  fade : Bool
  lap  : Nat
  split : Nat
  tick : Nat                -- tick of its arrival
  deriving DecidableEq, Repr

/-- A line signature (R417) or a line that has differed (R418). -/
structure LineSig where
  port : Nat
  pos  : Nat
  leg  : Nat
  line : Nat
  lap  : Nat
  sig  : Nat
  deriving DecidableEq, Repr

/-- A line that differs, with the number of laps in a row. -/
structure LineDiff where
  port : Nat
  pos  : Nat
  leg  : Nat
  line : Nat
  lap  : Nat
  runs : Nat
  deriving DecidableEq, Repr

/-- A shared port (R409, R412, R423). -/
structure RPort where
  paired  : Bool
  unpaired : Bool
  split   : Bool
  partner : Nat             -- PARTNER_PORT
  ready   : Option Nat      -- tiles found, from the partner's CENSUS_READY
  places  : List (Nat × List Word)    -- W1 to W7 by the partner's position, from PLACE
  deltas  : List Nat        -- delta_h from DELAYS
  beatTick : Option Nat     -- tick of the partner's last BEACON on it
  deriving DecidableEq, Repr

/-- A release in progress (R425). -/
structure Release where
  tick : Nat
  mask : Nat
  deriving DecidableEq, Repr

/-- A claim under way (R421, R422, R425). -/
structure Claim where
  from_ : Nat               -- tick of the last valid heartbeat on either path
  granted : Nat
  last  : Option (Nat × Nat)      -- the last tile granted, until a frame for it starts to leave
  deriving DecidableEq, Repr

/-- The relay. -/
structure Relay where
  role    : Role
  lanes   : Bool            -- both receive lanes are locked and aligned
  up      : Bool
  downTick : Nat            -- tick at which the link went down, or SB2 was entered
  trim    : Option Nat      -- start of the receiver trim in progress
  trimBad : Bool            -- the last trim ended INVALID
  hbTick  : Option Nat      -- last HEARTBEAT
  bcTick  : Option Nat      -- last partner BEACON on a paired port
  missRef : List Nat        -- per path: tick of the last heartbeat or miss
  miss    : List Nat        -- per path: misses
  pRole   : Option Role     -- as the partner last showed itself
  pFlags  : Nat
  pHold   : Nat
  pStandby : Bool           -- ROLE of the partner's RELAY record: prefers standby
  pDigest : Nat             -- 64 bits; the low 32 from a BEACON
  pDigestBits : Nat         -- how many of them have been heard: 0, 32 or 64
  pSource : Nat
  pPlan   : Nat
  digest  : List Byte
  fit     : Bool
  cold    : Bool
  txSeq   : Nat
  rx      : RxStream
  hbSend  : Nat             -- tick of the last HEARTBEAT sent
  timeSend : Nat
  trainSend : Nat
  txRun   : Nat             -- disciplined time at which the link's transmit block clock started
  rxMark  : Nat             -- the last ALIGN received on lane 0: count, split of its arrival
  rxSplit : Nat
  measured : Bool           -- an offset has been measured since the link came up
  offset  : Int
  ports   : List RPort
  mirror  : List MirrorAt
  mcues   : List MirrorCue
  sigs    : List LineSig    -- own signatures of the current laps
  diffs   : List LineDiff
  release : Option Release
  claim   : Option Claim
  takeUs  : Nat
  mendTick : Option Nat     -- since when the conditions of R426 have held
  sb3Tick : Nat             -- tick at which SB3 was entered
  lostTick : Option Nat     -- partner lost
  deriving DecidableEq, Repr

def RPort.reset : RPort := ⟨false, false, false, 0, none, [], [], none⟩

def Relay.reset : Relay :=
  { role := .alone, lanes := false, up := false, downTick := 0, trim := none, trimBad := false, hbTick := none
    bcTick := none, missRef := [0, 0], miss := [0, 0], pRole := none, pFlags := 0, pHold := 0, pStandby := false, pDigest := 0
    pDigestBits := 0, pSource := 0, pPlan := 0, digest := List.replicate 32 0, fit := false, cold := false, txSeq := 0
    rx := ⟨0, true, 0⟩, hbSend := 0, timeSend := 0, trainSend := 0, txRun := 0, rxMark := 0, rxSplit := 0
    measured := false, offset := 0, ports := List.replicate 16 .reset, mirror := [], mcues := [], sigs := [], diffs := []
    release := none, claim := none, takeUs := 0, mendTick := none, sb3Tick := 0, lostTick := none }

/-- ROM and fuses (R352). The thermometers are masks of blown positions, bit p for position p + 1. -/
structure Fuses where
  vendorHash : List Byte
  ownerHash : List Byte
  fwTherm : Nat
  cfgTherm : Nat
  seed    : List Byte
  uid     : Nat
  cert    : List Byte
  retired : Bool
  deriving DecidableEq, Repr

/-- A thermometer's value (R356): one more than the highest blown position counted from 0, 0 if none is blown. -/
def thermOf (m : Nat) : Nat := if m == 0 then 0 else m.log2 + 1

/-- Blow positions in ascending order up to a value (R357). -/
def thermBlow (m v : Nat) : Nat := if thermOf m < v then m ||| (2 ^ v - 1) else m

/-- A MACsec port (R364, R365). -/
structure Macsec where
  recd    : Option (List Byte)    -- bytes 0 to 55 of its MACSEC record, once unwrapped
  txSak   : List Byte
  rxSak   : List Byte
  block   : Option Nat      -- SEQ of the block in use
  next    : Option Nat      -- SEQ of the reserved next block
  asked   : Bool            -- a reservation waits in the journal queue
  pn      : Nat             -- next packet number
  rxPn    : Nat             -- next receive packet number expected
  deriving DecidableEq, Repr

/-- The security core. -/
structure Sec where
  idKey   : Option Nat      -- d
  cueKey  : Option (List Byte)
  macsec  : List Macsec
  zeroised : Bool
  err     : Bool            -- SELFTEST_ERROR
  enrolFailed : Bool
  nonce   : List Byte
  report  : List Byte
  valid   : Bool
  busy    : Option Nat      -- tick of the GO being served
  refused : Bool
  reports : Nat
  chal    : List Byte
  draws   : Nat             -- draws from the random bit generator so far
  token   : List Byte
  fails   : Nat
  scope   : Nat
  unlocked : Bool
  opened  : Option Nat      -- tick of the debug unlock that cleared the identity key
  written : List Byte       -- OWNER_HASH as written while not enrolled
  deriving DecidableEq, Repr

def Macsec.reset : Macsec := ⟨none, [], [], none, none, false, 0, 0⟩

def Sec.reset : Sec :=
  { idKey := none, cueKey := none, macsec := List.replicate 4 .reset, zeroised := false, err := false
    enrolFailed := false, nonce := List.replicate 32 0, report := List.replicate 256 0, valid := false, busy := none
    refused := false, reports := 0, chal := List.replicate 32 0, draws := 0, token := List.replicate 192 0, fails := 0
    scope := 0, unlocked := false, opened := none, written := List.replicate 32 0 }

/-- The package: feeds, rails, pins and the test port (21_package_power.md). -/
structure Power where
  feedA   : Bool
  feedB   : Bool
  pwrgd   : Bool            -- PWRGD_OUT released
  resetN  : Bool            -- RESET_N high
  waiting : Bool            -- RESET_N was released while PWRGD_OUT was low
  vcore   : Bool
  hbmRail : Bool
  serdes  : Bool
  vio     : Bool
  vioHold : Bool            -- VIO_OUT stays up for R348
  shdn    : Bool            -- SHDN_N low
  lapOut  : Bool            -- levels of the pins
  legOut  : Bool
  trstN   : Bool            -- DBG_TRST_N high
  tapIr   : Nat             -- the instruction the test port holds, by its class
  deriving DecidableEq, Repr

def Power.reset : Power := ⟨false, false, false, false, false, false, false, false, false, false, false, false, false, false, 0⟩

/-- What the device puts on its pins, links and lanes. -/
inductive Output where
  | chainFrame (port seq : Nat) (f : TxFrame)
  | chainClock (port : Nat) (on : Bool)
  | chainIdle (port : Nat) (on : Bool)
  | chainTrain (port lanes : Nat) (blocks : List (List Byte))    -- a burst of TRAIN blocks on the lanes of a mask, payload by payload
  | chainPattern (port lane : Nat)
  | chainAlign (port : Nat) (marks : List (Nat × List Byte))     -- a marker: the payload of each lane's ALIGN
  | chainAbort (port : Nat)
  | chainBlock (port : Nat) (bytes : List Byte)     -- a lane-local control block (Table 5.3)
  | hostWrite (addr : Nat) (bytes : List Byte)
  | hostRead (addr len : Nat)
  | readWords (ws : List Word)
  | readBytes (bs : List Byte) (poisoned : Bool)
  | eth (sub : Nat) (bytes : List Byte)
  | ptp (sub kind : Nat) (bytes : List Byte)
  | relay (kind seq : Nat) (body : List Byte)
  | relayTrain
  | pin (name : Nat) (level : Bool)
  | tap (bits : List Bool)
  | nvmReset                                      -- a pulse of NVM_RESET_N
  deriving DecidableEq, Repr

end Sys2Proof.Machine
end

