-- ==== Sys2Proof/Machine/State.lean ====
section
/-! DEFINITION. The state of the HX7: every register, queue, buffer, counter and pin the spec gives it, the commands that
wait, and the state right after reset. -/

namespace Sys2Proof.Machine

/-- Why the block stops: no command of the spec does; the type is kept for the interface. -/
inductive Fault where
  /-- Raised by no meaning of the model. Safe: nothing is claimed of it. -/
  | none_
  deriving DecidableEq, Repr

/-- Why the block refuses a command. -/
inductive Refusal where
  /-- Raised by Dispatch for a row that has no meaning yet. Safe: a claim about the row cannot be proved. -/
  | notModelled (mnemonic : String)
  /-- Raised by DEBUG_TAP_ACCESS for an instruction other than boundary scan and identification while a debug scope is open
  (R484): the spec gives the instruction no effect. Safe: nothing is claimed about what such an instruction does. -/
  | debugInstruction
  deriving DecidableEq, Repr

/-- Ordering variants (R5, Table 20.2). -/
inductive Variant where
  | hx84e | hx42e | hx42p
  deriving DecidableEq, Repr

/-- The whole device. -/
structure State where
  variant : Variant
  regs  : Regs
  evt   : Evt
  flt   : Flt
  hk    : Hk
  boot  : Boot
  nvm   : Nvm
  fuses : Fuses
  sec   : Sec
  cfg   : Cfg
  tb    : TimeBase
  tl    : Timeline
  sc    : Scenes
  warm  : Warm
  ports : List Port
  tiles : List Tile
  net   : Net
  host  : HostPort
  mem   : Mem
  fab   : Fab
  rl    : Relay
  pwr   : Power
  ticks : Nat               -- ticks of the 625 MHz time base since power
  free  : Nat               -- free values drawn so far
  out   : List Output       -- everything sent, oldest first
  pending : List Instr
  deriving DecidableEq, Repr

def CoreQ.reset : CoreQ := ⟨[], [], false, false, false, [], false, false⟩

def Evt.reset : Evt :=
  { hostQ := [], cores := List.replicate 4 .reset, pi := 0, lostNext := false, dropped := 0, sinceIdx := 0, idxTick := 0
    cutTick := 0, cut := [], cutLost := false, routed := [] }

def Flt.reset : Flt :=
  { log := [], next := 0, feRec := none, feLegSeq := 0, followers := 0, active := [], overflow := false, unknown := false
    clrResult := 0, clrRefused := 0, hold := .none, holdTick := 0, holdKind := 0, holdFresh := false, limpHold := false
    enterTick := none, leaveTick := none, leaveFrom := .none, clrd := []
    units := List.replicate 19 ⟨.running, false, 0⟩, kickTick := [0, 0, 0, 0], shutTick := none, shutDone := false }

def Hk.reset : Hk :=
  { chans := List.replicate 16 ⟨0, false, 0, 0, 0, false, 0, 0⟩, slot := 0, rounds := 0, startTick := 0, running := false
    stackHi := [0, 0, 0, 0], fabTrim := List.replicate 4 (0, 0, 0, 0), fabLines := [0, 0, 0, 0], latch := none }

def Boot.reset : Boot :=
  { stage := 0, running := false, held := false, warmActive := false, limpCause := 0, slotCfg := 0, slotFw := 0
    fsCode := 0, fsStage := 0, fsDetail := 0, entryMs := List.replicate 6 0, startTick := 0, stageTick := 0
    restart := false, selfOk := false, sealWhen := .notYet, sealSplit := 0, sealTick := 0, sealCore := false, sealOff := 0
    sealSeen := false, tries := [], lit := false, stageDue := false, limpDue := false, inputOk := false, hostOk := false, chainOk := List.replicate 16 false, mc0Ready := false
    fwHash := List.replicate 32 0, ownHash := List.replicate 32 0 }

def Nvm.reset : Nvm :=
  { present := false, size := 0, manuf := 0, devId := 0, flash := [], hdr := ⟨0, 0, 0, false, false, [0, 0, 0, 0, 0]⟩
    hdrShown := ⟨0, 0, 0, false, false, [0, 0, 0, 0, 0]⟩, hdrSect := 0, hdrSlot := 0, badHdr := [], badJ := [], jq := [], jobs := [], op := none, suspended := false, frozen := false
    freezeTick := 0, jNext := 0, jSect := 0, jSlot := 0, jErased := false, ovr := 0, lostTick := none, reerase := false
    fwVer := 0, cfgVer := 0, rdSeq := 0, rdValid := false, rdMissing := false, rdBusy := false
    rdData := List.replicate 16 0 }

def Fuses.reset : Fuses :=
  { vendorHash := List.replicate 32 0, ownerHash := List.replicate 32 0, fwTherm := 0, cfgTherm := 0
    seed := List.replicate 32 0, uid := 0, cert := List.replicate 160 0, retired := false }

def PtpSlot.reset : PtpSlot :=
  { masters := [], sel := none, good := 0, missed := 0, qual := false, sync := none, syncLog := 0, syncTick := 0
    meas := false, dreqSeq := 0, dreqT3 := none, dreqLog := -3, dreqTick := 0, pdT2 := none, pdT4 := 0, delay := 0
    delayOk := false, offset := 0, last := none }

def LapRef.reset : LapRef :=
  { width := 0, sym := 0, mark := none, word := none, decoded := false, secs := 0, run := 0, edgeTick := none }

/-- The nominal increment 1.6 ns in 32.32 (TB_INCR_NOM, R223). -/
def nominalIncr : Nat := 0x19999999A

def TimeBase.reset : TimeBase :=
  { sec := 0, ns := 0, frac := 0, run := 0, incr := nominalIncr, incrTick := 0, stepped := false, firstDue := false, sel := 0
    prev := 0, qual := List.replicate 4 false, qualTick := [0, 0, 0, 0], offs := [0, 0, 0, 0], rates := [0, 0, 0, 0], large := false
    judge := false, snapSec := 0, snapNs := 0, snapFrac := 0, ptp := [.reset, .reset], lapref := .reset, refClk := false, oscOnly := false }

def Timeline.reset : Timeline :=
  { on := false, began := false, warm := true, plan := .none, num := 0, next := 0, nextAt := 0, leg := 0, lap := 0
    legSeq := 0, service := false, gap := false, dark := false, darkLap := false, pend := none, pendB := 0, fixed := false
    held := none, fullB := none, fullAsk := false, limpAsk := false, limpB := none, limpQuiet := [], stepB := none, stepGo := none, stepHeld := false
    lastDark := false, usable := 0, reasons := List.replicate 8 0, refSrc := 0, refPlan := 0, refWhy := 0, pulses := []
    lapPin := none, legPin := none, hourSec := none, trimSec := 0, probeTick := 0, probeDue := 0, probeId := 0
    noRoom := false, recheck := none, recheckRes := 0, recheckIdx := 0, segNow := 0, forceNow := 0, segLast := 0
    forceLast := 0, ageMax := 0, ageLast := 0, watchOk := false, watchTarget := 0, watchSeq := 0, refreshPtr := 0 }

def LayerSt.reset : LayerSt := ⟨none, false, 0, 0, none, false, false, false⟩

def View.reset : View :=
  { layers := List.replicate 16 .reset, out := List.replicate 16 .reset, groups := List.replicate 7 ⟨false, 0, false⟩
    outGroups := List.replicate 7 ⟨false, 0, false⟩, noFade := false, latch := none, canvas := [], buf := 0, crcs := []
    recheckBlocks := [] }

def Fence.reset : Fence :=
  { value := 0, staged := none, fresh := false, tick := 0, prior := 0, priorFresh := false, priorLive := false, taken := none, live := false }

def Scenes.reset : Scenes :=
  { cur := 0, shown := false, fade := none, pend := [], order := 0, usable := 0, reasons := List.replicate 64 0
    refSrc := 0, refScene := 0, refWhy := 0, views := List.replicate 8 .reset, fences := List.replicate 16 .reset
    schedMarks := [] }

/-- The machine as it is before any feed has risen: RESET_N is low and nothing runs. -/
def State.reset : State :=
  { variant := .hx84e, regs := ⟨[], [], [], []⟩, evt := .reset, flt := .reset, hk := .reset, boot := .reset, nvm := .reset
    fuses := .reset, sec := .reset, cfg := .empty, tb := .reset, tl := .reset, sc := .reset, warm := { Warm.reset with shown := 0 }
    ports := List.replicate 16 .reset, tiles := [], net := .reset, host := .reset, mem := .reset, fab := .reset
    rl := .reset, pwr := .reset, ticks := 0, free := 0, out := [], pending := [] }

end Sys2Proof.Machine
end

