-- ==== Sys2Proof/Machine/Ops.lean ====
section
/-! DEFINITION. The named operations every meaning is written over: the register files, the counters, wall time, the output, the
indexed parts of the state. -/

namespace Sys2Proof.Machine

/-- The value of a register's RWS fields. -/
def State.rws (s : State) (off : Nat) : Word := Sparse.get rwsReset s.regs.rws off

/-- The value of a register's RW fields. -/
def State.rw (s : State) (off : Nat) : Word := Sparse.get rwReset s.regs.rw off

/-- The value of a W1C counter. -/
def State.cnt (s : State) (off : Nat) : Nat := (Sparse.get (fun _ => 0#32) s.regs.cnt off).toNat

/-- A register's RWS fields set. -/
def State.setRws (s : State) (off : Nat) (w : Word) : State :=
  { s with regs := { s.regs with rws := Sparse.set rwsReset s.regs.rws off w } }

/-- A register's RW fields set. -/
def State.setRw (s : State) (off : Nat) (w : Word) : State :=
  { s with regs := { s.regs with rw := Sparse.set rwReset s.regs.rw off w } }

/-- A counter file with one counter raised, saturating (R445). -/
def cntAdd (c : List (Nat × Word)) (off n : Nat) : List (Nat × Word) :=
  Sparse.set (fun _ => 0#32) c off (Word.of (min maxU32 ((Sparse.get (fun _ => 0#32) c off).toNat + n)))

/-- A counter file with one 16-bit counter raised, saturating at 65,535 (R377). -/
def cntAdd16 (c : List (Nat × Word)) (off : Nat) : List (Nat × Word) :=
  Sparse.set (fun _ => 0#32) c off (Word.of (min 65535 ((Sparse.get (fun _ => 0#32) c off).toNat + 1)))

/-- A W1C counter raised by `n`, saturating at 2^32 − 1 (R445). -/
def State.bumpN (s : State) (off n : Nat) : State := { s with regs := { s.regs with cnt := cntAdd s.regs.cnt off n } }

/-- The counters with one count of a counter taken back. -/
def cntSub (m : List (Nat × Word)) (off : Nat) : List (Nat × Word) :=
  Sparse.set (fun _ => 0#32) m off (Sparse.get (fun _ => 0#32) m off - 1)

/-- A W1C counter raised by one. -/
def State.bump (s : State) (off : Nat) : State := s.bumpN off 1

/-- A W1C counter cleared (R445): the clear comes before what the tick counts, which stays (Table 9.6). -/
def State.clearCnt (s : State) (off : Nat) : State :=
  let v := fun (m : List (Nat × Word)) => Sparse.get (fun _ => 0#32) m off
  { s with regs := { s.regs with cnt := Sparse.set (fun _ => 0#32) s.regs.cnt off (v s.regs.cnt - v s.regs.cnt0)
                                 cnt0 := Sparse.set (fun _ => 0#32) s.regs.cnt0 off 0 } }

/-- Wall time in whole nanoseconds: the local time counter (R222). -/
def TimeBase.wall (t : TimeBase) : Int := (t.sec * giga + t.ns : Nat)

/-- Wall time of the device. -/
def State.wall (s : State) : Int := s.tb.wall

/-- The split of the present tick (R30). -/
def State.split (s : State) : Nat := splitOf s.wall

/-- VALID of TB_STATUS (R228): set by the first step. -/
def State.timeValid (s : State) : Bool := s.tb.stepped

/-- The leg sequence number a record carries: 0 outside full service (Table 15.3). -/
def State.recSeq (s : State) : Nat := if s.tl.service then s.tl.legSeq else 0

/-- Something put on a pin, a link or a lane. -/
def State.send (s : State) (o : Output) : State := { s with out := s.out ++ [o] }

/-- A free value drawn: the next of a sequence nothing constrains. -/
def State.draw (s : State) : BitVec 32 × State := (Config.freeWord s.free, { s with free := s.free + 1 })

/-- Ticks of the 625 MHz time base in a microsecond, a millisecond and a second (R222). -/
def usT : Nat := 625
def msT : Nat := 625000
def secT : Nat := 625000000

/-- A tick after which a span has passed since another. -/
def State.past (s : State) (since span : Nat) : Bool := since + span ≤ s.ticks

/-- A chain port. -/
def State.port (s : State) (p : Nat) : Port := s.ports.getD p .reset

/-- A chain port changed. -/
def State.modPort (s : State) (p : Nat) (f : Port → Port) : State := { s with ports := modAt s.ports p f }

/-- A tile by port and position. -/
def State.tile? (s : State) (p q : Nat) : Option Tile := s.tiles.find? (·.is p q)

/-- A tile changed. -/
def State.modTile (s : State) (p q : Nat) (f : Tile → Tile) : State :=
  { s with tiles := s.tiles.map fun t => if t.is p q then f t else t }

/-- The tiles of a port. -/
def State.onPort (s : State) (p : Nat) : List Tile := s.tiles.filter (·.port == p)

/-- Tiles that hold lamp indices. -/
def State.litTiles (s : State) : List Tile := s.tiles.filter Tile.lit

/-- LAMP_COUNT: lamps of the admitted tiles (R19). -/
def State.lampCount (s : State) : Nat := (s.litTiles.map (·.lampsN)).foldl (· + ·) 0

/-- The tile that holds a lamp index, with the lamp's scan order. -/
def State.lampAt (s : State) (i : Nat) : Option (Tile × Nat) :=
  (s.litTiles.find? fun t => t.base ≤ i && i < t.base + t.lampsN).map fun t => (t, i - t.base)

/-- A core of the marshal. -/
def Evt.core (e : Evt) (c : Nat) : CoreQ := e.cores.getD c .reset

/-- A unit of UNIT_STATE. -/
def Flt.unit (f : Flt) (u : Nat) : UnitRec := f.units.getD u ⟨.running, false, 0⟩

/-- A stack, a pseudo-channel, a real-time port. -/
def Mem.stk (m : Mem) (i : Nat) : StackSt := m.stks.getD i .reset
def Mem.pc (m : Mem) (i : Nat) : PcSt := m.pcs.getD i .reset
def Mem.rtp (m : Mem) (i : Nat) : RtPort := m.rt.getD i ⟨0, false, false⟩

/-- A view, a fence, a surface, a flow, a sub-port, a PTP slot, a shared port. -/
def State.view (s : State) (v : Nat) : View := s.sc.views.getD v .reset
def State.modView (s : State) (v : Nat) (f : View → View) : State := { s with sc := { s.sc with views := modAt s.sc.views v f } }
def State.fence (s : State) (n : Nat) : Fence := s.sc.fences.getD n .reset
def State.modFence (s : State) (n : Nat) (f : Fence → Fence) : State :=
  { s with sc := { s.sc with fences := modAt s.sc.fences n f } }
def State.surf (s : State) (n : Nat) : Surf := s.host.surfs.getD n .reset
def State.modSurf (s : State) (n : Nat) (f : Surf → Surf) : State :=
  { s with host := { s.host with surfs := modAt s.host.surfs n f } }
def State.flow (s : State) (n : Nat) : Flow := s.net.flows.getD n .reset
def State.modFlow (s : State) (n : Nat) (f : Flow → Flow) : State :=
  { s with net := { s.net with flows := modAt s.net.flows n f } }
def State.sub (s : State) (n : Nat) : SubPort := s.net.subs.getD n .reset
def State.modSub (s : State) (n : Nat) (f : SubPort → SubPort) : State :=
  { s with net := { s.net with subs := modAt s.net.subs n f } }
def State.ptp (s : State) (a : Nat) : PtpSlot := s.tb.ptp.getD a .reset
def State.modPtp (s : State) (a : Nat) (f : PtpSlot → PtpSlot) : State :=
  { s with tb := { s.tb with ptp := modAt s.tb.ptp a f } }
def State.rport (s : State) (p : Nat) : RPort := s.rl.ports.getD p .reset
def State.modRport (s : State) (p : Nat) (f : RPort → RPort) : State :=
  { s with rl := { s.rl with ports := modAt s.rl.ports p f } }
def State.modStk (s : State) (i : Nat) (f : StackSt → StackSt) : State :=
  { s with mem := { s.mem with stks := modAt s.mem.stks i f } }
def State.modPc (s : State) (i : Nat) (f : PcSt → PcSt) : State :=
  { s with mem := { s.mem with pcs := modAt s.mem.pcs i f } }

/-- A scene record by number. -/
def State.scene? (s : State) (n : Nat) : Option (List Word) := (recOf? s.cfg.scenes n).map (·.words)

/-- A host surface's record. -/
def State.surfRec? (s : State) (n : Nat) : Option SurfRec := (recOf? s.cfg.surfs n).map fun r => SurfRec.parse r.words

/-- Variants: stacks, views, Ethernet ports and pseudo-channels present (R5, Table 0.2). -/
def Variant.stacksN : Variant → Nat
  | .hx84e => 4 | _ => 2
def Variant.viewsN : Variant → Nat
  | .hx84e => 8 | _ => 4
def Variant.ethN : Variant → Nat
  | .hx84e => 4 | .hx42e => 2 | .hx42p => 0
def Variant.pcsN (v : Variant) : Nat := 32 * v.stacksN
def Variant.macsec : Variant → Bool
  | .hx84e => true | _ => false
def Variant.net : Variant → Bool
  | .hx42p => false | _ => true
/-- log2 of the lamp capacity, legs per second per lamp and HBM size (Table 0.1, Table 20.2). -/
def Variant.lampLog2 : Variant → Nat
  | .hx84e => 25 | _ => 24
def Variant.legRate : Variant → Nat
  | .hx84e => 480 | _ => 240
def Variant.hbmGib : Variant → Nat
  | .hx84e => 96 | _ => 48
def Variant.hbmBytes (v : Variant) : Nat := v.hbmGib * 2 ^ 30
/-- CODE of ID_VARIANT, which is also the variant's bit of VARIANTS. -/
def Variant.code : Variant → Nat
  | .hx84e => 0 | .hx42e => 1 | .hx42p => 2
/-- DEVICE_ID (R452). -/
def Variant.deviceId : Variant → Nat
  | .hx84e => 0x0784 | .hx42e => 0x0742 | .hx42p => 0x0743
/-- FEATURE and FEATURE_CAP (Table 20.2). -/
def Variant.feature : Variant → Word
  | .hx84e => 0x007FFFFF | .hx42e => 0x007E330F | .hx42p => 0x0060030F
def Variant.featureCap : Variant → Word
  | .hx84e => 0xC1978210 | _ => 0x6183C210

/-- Every pair of a tile dirty. -/
def Tile.dirtyAll (t : Tile) : Tile := { t with pairs := t.pairs.map fun l => l.map fun p => { p with dirty := true } }

/-- Every pair of a tile dirty and sent unconditionally (Table 3.7). -/
def Tile.forceAll (t : Tile) : Tile :=
  { t with pairs := t.pairs.map fun l => l.map fun p => { p with dirty := true, uncond := true } }

/-- A pair that has never been sent. -/
def Pair.new : Pair := { dirty := true, uncond := true, ready := false, crc := none, comp := none, sent := 0, valid := false }

/-- A tile's pairs, words and descriptors for a number of legs, all dark and to be sent. -/
def Tile.legsNew (legs : Nat) (t : Tile) : Tile :=
  { t with words := List.replicate legs [], pairs := List.replicate legs (List.replicate (segCount t.lampsN) .new)
           scans := List.replicate legs none, scanDue := List.replicate legs false, scanTick := List.replicate legs 0 }

end Sys2Proof.Machine
end

