-- ==== Sys2Proof/Machine/Events.lean ====
section
/-! DEFINITION. The marshal (15_events.md): raising an event, its routing and queues (R372 to R380), and the host ring (R381 to
R383), with the commands of the events family. -/

namespace Sys2Proof.Machine

/-- The log sequence number that a FAULT_RAISED record carries (Table 16.7). -/
def EvtRec.logSeq (r : EvtRec) : Nat := (r.args.getD 3 0).toNat

/-- The order of R375: by stamp, then fast class first, then lower source, then lower code. -/
def EvtRec.ahead (a b : EvtRec) : Bool :=
  if a.tick != b.tick then a.tick < b.tick
  else if a.fast != b.fast then a.fast
  else if a.src != b.src then a.src < b.src
  else a.code < b.code

/-- The order in which records are queued: that of R375, and FAULT_RAISED records that it leaves equal in the order of the fault
log (R394). -/
def EvtRec.before (a b : EvtRec) : Bool :=
  a.ahead b || (!(b.ahead a) && a.code == Ev.faultRaised && a.logSeq < b.logSeq)

/-- A record put into a queue in the order of R375, after every record that does not come later. -/
def insertRec (r : EvtRec) : List EvtRec → List EvtRec
  | [] => [r]
  | x :: xs => if r.before x then r :: x :: xs else x :: insertRec r xs

/-- A core's queue of a class. -/
def CoreQ.queue (q : CoreQ) (fast : Bool) : List EvtRec := if fast then q.fast else q.normal

/-- Room of a core's queue of a class (R376). -/
def queueCap (fast : Bool) : Nat := if fast then 16 else 64

/-- A core's queue of a class replaced. -/
def CoreQ.setQueue (q : CoreQ) (fast : Bool) (l : List EvtRec) : CoreQ :=
  if fast then { q with fast := l } else { q with normal := l }

/-- STATE of EVT_CORE. -/
def coreSt (w : Word) : Nat := wfld w 31 30

/-- The event of another event's handling, with the stamp of the record that caused it. -/
def EvtRec.child (r : EvtRec) (code : Nat) (route : Nat → Word) (args : List Word) : EvtRec :=
  { r with code := code, src := unitSrc code, fast := wbit (route (unitSrc code)) 4, lost := false, args := args }

/-- The marshal with a record posted to the host queue (R376, R382): of the records of a tick that find it full, the last in the
order of R375 are dropped. -/
def Evt.toHost (e : Evt) (cnt : List (Nat × Word)) (r : EvtRec) : Evt × List (Nat × Word) :=
  let q := insertRec r e.hostQ
  if e.hostQ.length < 2048 then ({ e with hostQ := q }, cnt)
  else ({ e with hostQ := q.take 2048, dropped := e.dropped + 1, lostNext := true, cutTick := r.tick
                 cutLost := if e.cutTick == r.tick && !e.cut.isEmpty then e.cutLost else e.lostNext
                 cut := (if e.cutTick == r.tick then e.cut else []) ++ q.drop 2048 }, cntAdd cnt Reg.evtHostDropped 1)

/-- The marshal with a record placed in a core's queue (R376): if it is full, OVERFLOW is set and the overflow counted, and
the answer's last part says whether that queue's first overflow is to be recorded. Entering the queue wakes the core as
R380 says. -/
def Evt.toCore (e : Evt) (cnt : List (Nat × Word)) (c : Nat) (st : Nat) (r : EvtRec) : Evt × List (Nat × Word) × Bool :=
  let q := e.core c
  let l := q.queue r.fast
  if l.length < queueCap r.fast then
    let wake := st == 1 || (st == 2 && r.fast)
    ({ e with cores := modAt e.cores c fun q =>
        { q.setQueue r.fast (insertRec r l) with awake := q.awake || wake } }, cnt, false)
  else
    let had := if r.fast then q.ovfFast else q.ovfNormal
    ({ e with cores := modAt e.cores c fun q =>
        { q with overflow := true, ovfFast := q.ovfFast || r.fast, ovfNormal := q.ovfNormal || !r.fast } },
      cntAdd cnt (Reg.evtCoreOverflows c) 1, !had)

/-- A record posted by its source's route (R376, R380). `route` and `core` read EVT_ROUTE and EVT_CORE; the fuel bounds the
events that an overflow or a redirection raises in turn. -/
def Evt.post (route core : Nat → Word) : Nat → Evt → List (Nat × Word) → EvtRec → Evt × List (Nat × Word)
  | 0, e, cnt, _ => (e, cnt)
  | fuel + 1, e, cnt, r =>
    let w := route r.src
    let (e, cnt) := if wbit w 6 then e.toHost cnt r else (e, cnt)
    if !(wbit w 5) then (e, cnt) else
    let t := wfld w 1 0
    let off := t != 0 && coreSt (core t) == 3
    let first := off && !(e.core t).redirect
    let c := if off then 0 else t
    let cnt := if off then cntAdd cnt Reg.evtRedirected 1 else cnt
    let e := if off then { e with cores := modAt e.cores t fun q => { q with redirect := true } } else e
    let (e, cnt, ovf) := e.toCore cnt c (coreSt (core c)) r
    let (e, cnt) := if first then Evt.post route core fuel e cnt (r.child Ev.evtRedirectBegan route [Word.of t]) else (e, cnt)
    if ovf then Evt.post route core fuel e cnt (r.child Ev.evtCoreOverflow route [Word.of c, Word.of (b2n r.fast)])
    else (e, cnt)

/-- The route a source's record takes: a change in the tick of the record leaves it the old one (R379). -/
def State.routeOf (s : State) (src : Nat) : Word :=
  match s.evt.routed.find? fun x => x.1 == s.ticks && x.2.1 == src with
  | some x => x.2.2
  | none => s.rws (Reg.evtRoute src)

/-- Every queued record of the marshal changed or taken out. -/
def Evt.editQueued (e : Evt) (g : EvtRec → Option EvtRec) : Evt :=
  { e with hostQ := e.hostQ.filterMap g, cores := e.cores.map fun q => { q with normal := q.normal.filterMap g, fast := q.fast.filterMap g } }

/-- The FAULT_RAISED records of a tick from a log sequence number on, moved up by one (R394). -/
def Evt.raisedUp (e : Evt) (tick seq : Nat) : Evt :=
  e.editQueued fun r => some (if r.tick == tick && r.code == Ev.faultRaised && seq ≤ r.logSeq then
    { r with args := setAt r.args 3 (Word.of (r.logSeq + 1)) } else r)

/-- The record of an event raised now (R374, R375). -/
def State.mkRec (s : State) (src code : Nat) (args : List Word) : EvtRec :=
  { tick := s.ticks, code := code, src := src, fast := wbit (s.routeOf src) 4, lost := false, split := s.split
    valid := s.timeValid, legSeq := s.recSeq, args := args }

/-- An event raised by a source, with its carried items as words (R373, R374). -/
def State.evtW (s : State) (src code : Nat) (args : List Word) : State :=
  let (e, cnt) := Evt.post s.routeOf (fun c => s.rws (Reg.evtCore c)) 4 s.evt s.regs.cnt
    (s.mkRec src code args)
  { s with evt := e, regs := { s.regs with cnt := cnt } }

/-- An event raised by one of the sources of Table 15.2, its items numbers. -/
def State.evtAt (s : State) (src code : Nat) (args : List Nat) : State := s.evtW src code (args.map Word.of)

/-- An event raised by the chain port, pseudo-channel or stack that it names first, else by its block's unit source. -/
def State.ev (s : State) (code : Nat) (args : List Nat) : State := s.evtAt (evSrc code args) code args

/-- Sources of flows, surfaces, views, sub-ports, pseudo-channels and stacks (Table 15.2). -/
def srcFlow (f : Nat) : Nat := 16 + f
def srcSurf (n : Nat) : Nat := 80 + n
def srcView (v : Nat) : Nat := 96 + v
def srcSub (i : Nat) : Nat := 104 + i
def srcPc (n : Nat) : Nat := 112 + n
def srcStack (n : Nat) : Nat := 240 + n

/-- A signed item in two's complement. -/
def sw (x : Int) : Nat := twos 32 x

/-- The 64 bytes of a record with its ring index (Table 15.3). -/
def EvtRec.bytes (r : EvtRec) (index : Nat) : List Byte :=
  leBytes 4 index ++ leBytes 2 r.code ++ leBytes 2 (r.src + at_ (b2n r.fast) 14 + at_ (b2n r.lost) 15)
  ++ leBytes 5 r.split ++ [BitVec.ofNat 8 (b2n r.valid)] ++ leBytes 2 0 ++ leBytes 4 r.legSeq ++ leBytes 4 0
  ++ ((List.range 8).map fun i => leBytes 4 ((r.args.getD i 0).toNat)).flatten ++ leBytes 8 0

/-- A pair of 32-bit address registers. -/
def State.addr64 (s : State) (lo hi : Nat) : Nat := (s.rw lo).toNat + (s.rw hi).toNat * 2 ^ 32

/-- The index block written to host memory (Table 15.4, R381). -/
def State.writeIndex (s : State) : State :=
  { s.send (.hostWrite (s.addr64 Reg.hostIndexAddrLo Reg.hostIndexAddrHi)
      (leBytes 4 s.evt.pi ++ leBytes 4 (s.cnt Reg.evtHostDropped) ++ leBytes 5 s.split ++ leBytes 3 0)) with
    evt := { s.evt with sinceIdx := 0, idxTick := s.ticks } }

/-- log2 of the ring's records (R252). -/
def State.ringLog2 (s : State) : Nat := wfld (s.rw Reg.hostRingSize) 4 0

/-- Whether the ring has space for another record (R381). -/
def State.ringSpace (s : State) : Bool :=
  (s.evt.pi + 2 ^ 32 - (s.rw Reg.evtHostCi).toNat) % 2 ^ 32 < 2 ^ s.ringLog2

/-- A record written to its slot with its INDEX, and PI advanced (R381). -/
def State.writeRec (s : State) (r : EvtRec) : State :=
  let i := s.evt.pi
  { s.send (.hostWrite (s.addr64 Reg.hostRingBaseLo Reg.hostRingBaseHi + 64 * (i % 2 ^ s.ringLog2)) (r.bytes i)) with
    evt := { s.evt with pi := (i + 1) % 2 ^ 32, sinceIdx := s.evt.sinceIdx + 1 } }

/-- The EVT_HOST_DROPPED record that carries the number of records dropped (R382), written to the ring and posted to the cores. -/
def State.dropNotice (s : State) : State :=
  let d : EvtRec := { s.mkRec (unitSrc Ev.evtHostDropped) Ev.evtHostDropped [Word.of s.evt.dropped] with lost := false }
  let s := s.writeRec d
  let (e, cnt) := Evt.post (fun i => wput (s.routeOf i) 6 6 0) (fun c => s.rws (Reg.evtCore c)) 4
    { s.evt with dropped := 0 } s.regs.cnt d
  { s with evt := e, regs := { s.regs with cnt := cnt } }

/-- The oldest record of the host queue written to the ring. -/
def State.ringPut (s : State) (r : EvtRec) (rest : List EvtRec) : State :=
  let s := s.writeRec { r with lost := s.evt.lostNext }
  { s with evt := { s.evt with hostQ := rest, lostNext := false } }

/-- A record that found the host queue full earlier in the tick in which the ring takes one: the ring write comes first and the record
finds room (Table 15.5). -/
def State.takeCut (s : State) : State :=
  match s.evt.cut with
  | [] => s
  | r :: rest =>
    if s.evt.cutTick != s.ticks || 2048 ≤ s.evt.hostQ.length || s.evt.dropped == 0 then s else
    { s with evt := { s.evt with cut := rest, hostQ := insertRec r s.evt.hostQ, dropped := s.evt.dropped - 1
                                 lostNext := s.evt.dropped != 1 }
             regs := { s.regs with cnt := cntSub s.regs.cnt Reg.evtHostDropped } }

/-- One record of the host queue written if the ring has space: before a record that follows dropped ones, the notice of
their number (R382). A record waits for the end of the tick of its stamp, since the order of R375 holds in the ring too. The index block
follows when the queue empties and after every 16 records (R381). -/
def State.ringStep (s : State) : State :=
  if !s.host.attached || !s.ringSpace then s else
  match s.evt.hostQ with
  | [] => s
  | r :: rest =>
    if s.ticks ≤ r.tick then s else
    let late : Bool := s.evt.cutTick == s.ticks && s.evt.cut.length == s.evt.dropped
    let s := if s.evt.dropped == 0 then s.ringPut r rest
      else if late then ({ s with evt := { s.evt with lostNext := s.evt.cutLost } }.ringPut r rest).takeCut
      else s.dropNotice
    if s.evt.hostQ.isEmpty || 16 ≤ s.evt.sinceIdx then s.writeIndex else s

/-- HOST_RING_WRITE (R381): a record waiting in the host queue is written once ring space allows. -/
def execHostRingWrite (s : State) : Host.Outcome State Fault Refusal := .next s.ringStep

/-- INDEX_BLOCK_TIMER (R381): the index block is written at least every 100 ms while attached. -/
def execIndexBlockTimer (s : State) : Host.Outcome State Fault Refusal :=
  if s.host.attached && s.past s.evt.idxTick (100 * msT) then .next s.writeIndex else .next s

/-- EVT_HOST_CI_WRITE (R381): the consumer index is set, which frees ring space for waiting records. -/
def State.writeCi (s : State) (value : Word) : State := s.setRw Reg.evtHostCi value

def execEvtHostCiWrite (value : Word) (s : State) : Host.Outcome State Fault Refusal := .next (s.writeCi value)

/-- The head of a core's queue of a class popped; its source is then active on the core (R377). -/
def State.pop (s : State) (c : Nat) (fast : Bool) : State :=
  match (s.evt.core c).queue fast with
  | [] => s
  | r :: rest =>
    { s with evt := { s.evt with cores := modAt s.evt.cores c fun q =>
        { q.setQueue fast rest with active := q.active ++ [r.src] } } }

/-- A write to EVT_POP (R377): the register's core pops; a host write is ignored (R387). -/
def State.writePop (s : State) (who : Requester) (c : Nat) (value : Word) : State :=
  match who with
  | .host => s
  | .core _ => if wbit value 0 then s.pop c (wbit value 1) else s

def execEvtPop (who : Requester) (core : Fin 4) (value : Word) (s : State) : Host.Outcome State Fault Refusal :=
  .next (s.writePop who core value)

/-- A write to EVT_DONE (R377): the core's active record of the source ends, or an inactive DONE is counted. -/
def State.writeDone (s : State) (who : Requester) (c : Nat) (value : Word) : State :=
  match who with
  | .host => s
  | .core _ =>
    if !(wbit value 31) then s
    else
      let src := wfld value 8 0
      if (s.evt.core c).active.contains src then
        { s with evt := { s.evt with cores := modAt s.evt.cores c fun q => { q with active := q.active.erase src } } }
      else { s with regs := { s.regs with cnt := cntAdd16 s.regs.cnt Reg.evtInactiveDone } }

def execEvtDone (who : Requester) (core : Fin 4) (value : Word) (s : State) : Host.Outcome State Fault Refusal :=
  .next (s.writeDone who core value)

/-- Whether a source is pending: a record of it is queued or active on some core (R377). -/
def Evt.pending (e : Evt) (src : Nat) : Bool :=
  e.cores.any fun q => q.active.contains src || q.normal.any (·.src == src) || q.fast.any (·.src == src)

/-- One moved record (R380): it counts as redirected, and a queue of MC0 that is full takes it as R376 says. -/
def State.moveRec (s : State) (r : EvtRec) : State :=
  let s := s.bump Reg.evtRedirected
  let (e, cnt, ovf) := s.evt.toCore s.regs.cnt 0 (coreSt (s.rws (Reg.evtCore 0))) r
  let s := { s with evt := e, regs := { s.regs with cnt := cnt } }
  if ovf then s.ev Ev.evtCoreOverflow [0, b2n r.fast] else s

/-- A core marked OFFLINE: its queued records move to MC0's queues of the same class (R380). The first redirection of the
episode is recorded. -/
def State.coreOffline (s : State) (c : Nat) : State :=
  let q := s.evt.core c
  let moved := q.fast ++ q.normal
  let s := { s with evt := { s.evt with cores := modAt s.evt.cores c fun q => { q with fast := [], normal := [] } } }
  let s := moved.foldl State.moveRec s
  if moved.isEmpty || (s.evt.core c).redirect then s
  else
    let s := { s with evt := { s.evt with cores := modAt s.evt.cores c fun q => { q with redirect := true } } }
    s.ev Ev.evtRedirectBegan [c]

/-- STATE of a core set (R380): OFFLINE is ignored for MC0; entering another state ends an OFFLINE episode; a core that enters
LIGHT or DEEP while a queue that wakes it is non-empty does not sleep (Table 15.5). -/
def State.setCoreState (s : State) (c st : Nat) : State :=
  let w := s.rws (Reg.evtCore c)
  let st := if c == 0 && st == 3 then coreSt w else st
  let s := s.setRws (Reg.evtCore c) (wput w 31 30 st)
  let q := s.evt.core c
  let awake := match st with
    | 0 => true
    | 1 => !q.normal.isEmpty || !q.fast.isEmpty
    | 2 => !q.fast.isEmpty
    | _ => false
  let s := { s with evt := { s.evt with cores := modAt s.evt.cores c fun q =>
    { q with awake := awake, redirect := if st == 3 then q.redirect else false } } }
  if st == 3 && coreSt w != 3 then s.coreOffline c else s

/-- Whether a register write may change RWS fields of the events block: before the seal, or by a core (R387). -/
def State.mayRoute (s : State) (who : Requester) : Bool :=
  match who with
  | .core _ => true
  | .host => s.boot.sealWhen == .notYet

/-- SEAL_VIOLATIONS raised, with the last violation's place (R456). -/
def State.violation (s : State) (who : Requester) (off : Nat) : State :=
  { s.bump Reg.sealViolations with
    boot := { s.boot with sealSeen := true, sealCore := who != .host, sealOff := off % 2 ^ 26 } }

/-- A write to RWS fields before the seal noted, for a seal in the same tick (R457). -/
def State.tried (s : State) (who : Requester) (off : Nat) (value : Word) : State :=
  { s with boot := { s.boot with tries := (s.boot.tries.filter fun x => x.1 == s.ticks) ++ [(s.ticks, who, off, value)] } }

/-- The RWS fields of a register after a write of `value`, its mask given. -/
def rwsNew (mask : Nat) (old value : Word) : Word := Word.of ((old.toNat &&& (0xFFFFFFFF - mask)) ||| (value.toNat &&& mask))

/-- OVERFLOW cleared by a 1 (R11): the next overflow of each queue is recorded again. DESIGN CHOICE (log 126): an overflow is taken as
momentary, so the clear holds although the queue is still full. -/
def State.clearOverflow (s : State) (c : Nat) (value : Word) : State :=
  if wbit value 24 then
    { s with evt := { s.evt with cores := modAt s.evt.cores c fun q =>
        { q with overflow := false, ovfNormal := false, ovfFast := false } } }
  else s

/-- A write to EVT_CORE: STATE and the line enables for a core, or the host before the seal; OVERFLOW by its W1C code. -/
def State.writeEvtCore (s : State) (who : Requester) (c : Nat) (value : Word) : State :=
  let off := Reg.evtCore c
  let old := s.rws off
  let nst := if c == 0 && coreSt value == 3 then coreSt old else coreSt value
  let new := wput (rwsNew 0xC0000003 old value) 31 30 nst
  let s := s.clearOverflow c value
  if s.mayRoute who then ((s.tried who off value).setRws off (wput new 31 30 (coreSt old))).setCoreState c nst
  else if new != old then s.violation who off
  else s

def execEvtCoreStateWrite (who : Requester) (core : Fin 4) (value : Word) (s : State) : Host.Outcome State Fault Refusal :=
  .next (s.writeEvtCore who core value)

/-- A write to EVT_GLOBAL: DISABLE (R378). -/
def State.writeEvtGlobal (s : State) (who : Requester) (value : Word) : State :=
  let off := Reg.evtGlobal
  let new := rwsNew 1 (s.rws off) value
  if s.mayRoute who then (s.tried who off value).setRws off new
  else if new != s.rws off then s.violation who off
  else s

/-- EVT_LINE_ENABLE_WRITE (R378): a core's line enables, or global DISABLE. -/
def execEvtLineEnableWrite (who : Requester) (core : Option (Fin 4)) (value : Word) (s : State) :
    Host.Outcome State Fault Refusal :=
  match core with
  | some c => .next (s.writeEvtCore who c value)
  | none => .next (s.writeEvtGlobal who value)

/-- Whether a core's line of a class is asserted (R377, R378, R380). -/
def State.line (s : State) (c : Nat) (fast : Bool) : Bool :=
  let w := s.rws (Reg.evtCore c)
  let q := s.evt.core c
  !((q.queue fast).isEmpty) && wbit w (if fast then 1 else 0) && !(wbit (s.rws Reg.evtGlobal) 0)
  && (coreSt w == 0 || q.awake)

/-- Sources whose route reads 0 and ignores writes: reserved ones and those absent on the variant (R387, Table 20.3). -/
def Variant.routeAbsent (v : Variant) (src : Nat) : Bool :=
  261 ≤ src ||
  (v != .hx84e && ((100 ≤ src && src ≤ 103) || (108 ≤ src && src ≤ 111) || (176 ≤ src && src ≤ 239) || src == 242 || src == 243)) ||
  (v == .hx42p && ((16 ≤ src && src ≤ 79) || (104 ≤ src && src ≤ 107)))

/-- A write to EVT_ROUTE (R379): it governs the records of the source that are not yet queued. -/
def State.writeRoute (s : State) (who : Requester) (src : Nat) (value : Word) : State :=
  if s.variant.routeAbsent src then s else
  let off := Reg.evtRoute src
  let new := rwsNew 0x73 (s.rws off) value
  if s.mayRoute who then
    let was := s.evt.routed.filter fun x => x.1 == s.ticks
    let was := if was.any (·.2.1 == src) then was else was ++ [(s.ticks, src, s.rws off)]
    { (s.tried who off value).setRws off new with evt := { s.evt with routed := was } }
  else if new != s.rws off then s.violation who off
  else s

def execEvtRouteWrite (who : Requester) (src : Fin 512) (value : Word) (s : State) : Host.Outcome State Fault Refusal :=
  .next (s.writeRoute who src value)

/-- The events block's registers that show state. -/
def State.readEvents (s : State) (off : Nat) : Option Word :=
  if off == Reg.evtHostPi then some (Word.of s.evt.pi)
  else if off == Reg.evtHostStatus then
    some (Word.of (s.evt.hostQ.length + at_ (b2n (s.host.attached && !s.evt.hostQ.isEmpty && !s.ringSpace)) 12))
  else if 0x400800 ≤ off && off < 0x400840 then
    let i := (off - 0x400800) / 4
    some (Word.of (maskOf ((List.range 32).map fun j => s.evt.pending (32 * i + j))))
  else if 0x400100 ≤ off && off < 0x400180 && (off - 0x400100) % 0x20 == 0 then
    let c := (off - 0x400100) / 0x20
    let q := s.evt.core c
    some (Word.of ((s.rws off).toNat + at_ (b2n q.overflow) 24 + at_ q.fast.length 19 + at_ q.normal.length 12
      + at_ (b2n (s.line c true)) 3 + at_ (b2n (s.line c false)) 2))
  else if 0x401000 ≤ off && off < 0x401800 then
    let src := (off - 0x401000) / 4
    some (if s.variant.routeAbsent src then 0 else s.rws off)
  else none

end Sys2Proof.Machine
end

