-- ==== Sys2Proof/Machine/Lanes.lean ====
section
/-! DEFINITION. The line coding of the chain ports and of the relay link as functions: the bytes of a frame (R170), the blocks that
carry it (R140 to R143), the scrambler (R141), the striping (R144), the block-lock machine (R145) and BIP-8 (R147), and what a port's block clock makes
of them: the lanes in use, the markers, the TRAIN bursts and the lane-local blocks (R135, R144, R147, R152, R155, R168). A command
carries a whole frame or a whole event of a lane. -/

namespace Sys2Proof.Machine

/-- The bytes of a device-originated frame: the header of Table 6.1, the body and the CRC-32 (R170). -/
def TxFrame.bytes (dev seq : Nat) (f : TxFrame) : List Byte :=
  let d := [BitVec.ofNat 8 f.kind.code, BitVec.ofNat 8 (dev % 16 * 16 + b2n f.retry)] ++ leBytes 2 seq ++
    [BitVec.ofNat 8 (f.addr % 64), BitVec.ofNat 8 f.arg] ++ leBytes 2 f.body.length ++ f.body
  d ++ leBytes 4 (crc32 d).toNat

/-- A block before scrambling: which of the two valid headers it has, and its 8 payload bytes (R140). -/
structure Block where
  control : Bool
  payload : List Byte
  deriving DecidableEq, Repr

/-- The control blocks of Table 5.3. -/
inductive Ctl where
  | idle
  | start (bs : List Byte)
  | term (bs : List Byte)
  | align (lane inUse bip : Nat) (bipInvalid echo : Bool) (count : Nat)
  | train (left : Nat)
  | idleEntry
  | laneDrop (lane wait hop purpose : Nat)
  | laneRestore (lane wait : Nat)
  | upCal (hop wait : Nat)
  deriving DecidableEq, Repr

/-- A TYPE byte and up to seven bytes after it, the rest zero. -/
def ctlBlock (ty : Nat) (bs : List Byte) : Block := ⟨true, padTo 8 (BitVec.ofNat 8 ty :: bs)⟩

/-- A list of small numbers as bytes. -/
def byteList (l : List Nat) : List Byte := l.map fun n => BitVec.ofNat 8 n

/-- The bytes of a control block (Table 5.3). -/
def Ctl.block : Ctl → Block
  | .idle => ctlBlock 0x1E []
  | .start bs => ctlBlock 0x33 bs
  | .term bs => ctlBlock (0x40 + bs.length) bs
  | .align lane inUse bip bad echo count =>
    ctlBlock 0x4B (byteList [lane, inUse % 16, bip, b2n bad + 2 * b2n echo] ++ leBytes 2 count)
  | .train left => ctlBlock 0x5A (byteList [left, 0xA5, 0xA5, 0xA5, 0xA5, 0xA5, 0xA5])
  | .idleEntry => ctlBlock 0x66 []
  | .laneDrop lane wait hop purpose => ctlBlock 0x69 (byteList [lane] ++ leBytes 2 wait ++ byteList [hop, purpose])
  | .laneRestore lane wait => ctlBlock 0x6C (byteList [lane] ++ leBytes 2 wait)
  | .upCal hop wait => ctlBlock 0x72 (byteList [hop] ++ leBytes 2 wait)

/-- Whether a control block's TYPE stands in Table 5.3 (R142). -/
def ctlTypeValid (ty : Nat) : Bool :=
  (0x40 ≤ ty && ty ≤ 0x47) || [0x1E, 0x33, 0x4B, 0x5A, 0x66, 0x69, 0x6C, 0x72].contains ty

/-- Whether a control block is lane-local, by its TYPE (Table 5.3). -/
def ctlLaneLocal (ty : Nat) : Bool := [0x4B, 0x5A, 0x66, 0x69, 0x6C, 0x72].contains ty

/-- The data blocks and the TERM block of a frame after its first seven bytes (R143); the counter bounds the recursion. -/
def tailBlocks : Nat → List Byte → List Block
  | 0, bs => [(Ctl.term bs).block]
  | n + 1, bs => if bs.length < 8 then [(Ctl.term bs).block] else ⟨false, bs.take 8⟩ :: tailBlocks n (bs.drop 8)

/-- The blocks of a frame: START, data blocks, TERM_k (R143). -/
def lineBlocks (bs : List Byte) : List Block := (Ctl.start (bs.take 7)).block :: tailBlocks bs.length (bs.drop 7)

/-- What a receiver has of the striped stream (R143). -/
structure Deframer where
  cur   : Option (List Byte)   -- bytes of the frame in progress
  done  : List (List Byte)     -- frames carried whole, oldest first
  counted : Nat                -- blocks discarded and counted, and frames aborted
  deriving DecidableEq, Repr

/-- One block of the striped stream at a receiver, lane-local blocks and invalid types among them (R142, R143). A frame that is
broken off is counted once, and so is the block of an invalid TYPE. -/
def Deframer.feed (r : Deframer) (b : Block) : Deframer :=
  let cut := b2n r.cur.isSome
  if !b.control then
    match r.cur with
    | some f => { r with cur := some (f ++ b.payload) }
    | none => { r with counted := r.counted + 1 }
  else
    let ty := leAt b.payload 0 1
    if ty == 0x33 then { r with cur := some (slice b.payload 1 7), counted := r.counted + cut }
    else if 0x40 ≤ ty && ty ≤ 0x47 then
      match r.cur with
      | some f => { r with cur := none, done := r.done ++ [f ++ slice b.payload 1 (ty - 0x40)] }
      | none => r
    else if ctlLaneLocal ty then r
    else if ty == 0x1E then { r with cur := none, counted := r.counted + cut }
    else { r with cur := none, counted := r.counted + cut + 1 }

/-- A block with an invalid header, or the loss of block lock or of alignment, at a receiver (R143). -/
def Deframer.broken (r : Deframer) : Deframer := { r with cur := none, counted := r.counted + b2n r.cur.isSome }

/-- The bits of bytes in order of transmission: each byte least significant bit first (R140). -/
def lineBits (bs : List Byte) : List Bool := bs.flatMap fun b => (List.range 8).map b.getLsbD

/-- The header bits in order of transmission: 01 for data, 10 for control (R140). -/
def Block.header (b : Block) : List Bool := if b.control then [true, false] else [false, true]

/-- A received header read: whether the block is a control block; 00 and 11 are invalid (R140). -/
def headerOf (a b : Bool) : Option Bool := if a == b then none else some a

/-- The state of a lane's scrambler: the last 58 bits sent, the newest at bit 0 (R141). -/
abbrev Scrambler := BitVec 58

/-- A bit shifted into the scrambler's state. -/
def Scrambler.push (st : Scrambler) (b : Bool) : Scrambler := (st <<< 1) ||| (if b then 1#58 else 0#58)

/-- The scrambler's tap: s[i−39] xor s[i−58] (R141). -/
def Scrambler.tap (st : Scrambler) : Bool := xor (st.getLsbD 38) (st.getLsbD 57)

/-- Payload bits scrambled, and the state after them (R141). -/
def scramble : Scrambler → List Bool → List Bool × Scrambler
  | st, [] => ([], st)
  | st, p :: ps =>
    let b := xor p st.tap
    let r := scramble (st.push b) ps
    (b :: r.1, r.2)

/-- Received bits descrambled, and the state after them (R141). -/
def descramble : Scrambler → List Bool → List Bool × Scrambler
  | st, [] => ([], st)
  | st, b :: bs =>
    let r := descramble (st.push b) bs
    (xor b st.tap :: r.1, r.2)

/-- The 66 bits of a block on a lane, and the scrambler's state after it (R140, R141). -/
def Block.line (b : Block) (st : Scrambler) : List Bool × Scrambler :=
  let r := scramble st (lineBits b.payload)
  (b.header ++ r.1, r.2)

/-- One block time of the striped stream: the lanes free for it, in ascending order, take the next blocks (R144). -/
def stripe (free : List Nat) (blocks : List Block) : List (Nat × Block) × List Block :=
  (free.zip blocks, blocks.drop free.length)

/-- One block at the block-lock machine: its state after, and whether it slips one bit (R145). -/
def LockState.next (l : LockState) (valid : Bool) : LockState × Bool :=
  match l, valid with
  | .hunt, true => (.test 1, false)
  | .hunt, false => (.hunt, true)
  | .test n, true => (if n + 1 == 64 then .locked 0 0 else .test (n + 1), false)
  | .test _, false => (.hunt, true)
  | .locked w b, true => (if w + 1 == 64 then .locked 0 0 else .locked (w + 1) b, false)
  | .locked w b, false =>
    (if b + 1 == 16 then .hunt else if w + 1 == 64 then .locked 0 0 else .locked (w + 1) (b + 1), false)

/-- Blocks at the block-lock machine, each by the first two bits at the lane's header position (R140, R145). -/
def LockState.run (l : LockState) (hs : List (Bool × Bool)) : LockState := hs.foldl (fun l h => (l.next (headerOf h.1 h.2).isSome).1) l

/-- The bytes of bits in order of transmission (R140). -/
def bytesOf : Nat → List Bool → List Byte
  | 0, _ => []
  | n + 1, bs => BitVec.ofNat 8 (maskOf (bs.take 8)) :: bytesOf n (bs.drop 8)

/-- A block read from the 66 bits of a lane, with the descrambler's state after it; none for an invalid header (R140, R141). -/
def Block.ofLine (bits : List Bool) (st : Scrambler) : Option Block × Scrambler :=
  let r := descramble st (bits.drop 2)
  ((headerOf (bits.getD 0 false) (bits.getD 1 false)).map fun c => ⟨c, bytesOf 8 r.1⟩, r.2)

/-- BIP-8 over payload bytes before scrambling: bit i is the exclusive-or of bit i of every byte (R147). -/
def bip8 (bs : List Byte) : Byte := bs.foldl (fun a b => a ^^^ b) 0#8

/-- A block sent on a lane taken into the lane's sum. -/
def LaneSum.add (x : LaneSum) (b : Block) : LaneSum := ⟨x.bip ^^^ bip8 b.payload, x.n + 1⟩

/-- The BIP-8 that a lane's ALIGN carries: over the 16,383 blocks since the one before, those not counted being IDLE (R147). -/
def LaneSum.value (x : LaneSum) : Nat := (x.bip ^^^ (if (16383 - x.n) % 2 == 1 then 0x1E#8 else 0#8)).toNat

/-- A block time in units of 2^−32 ns: 66 bits at 12.8 Gbit/s (R135). -/
def blockFrac : Nat := 22145925120

/-- The block time in progress on a port, and the first that has yet to begin (R135): both follow the disciplined time base. -/
def State.blockNow (s : State) (p : Nat) : Nat := (s.tb.run - (s.port p).blk0) / blockFrac
def State.blockNext (s : State) (p : Nat) : Nat := ceilDiv (s.tb.run - (s.port p).blk0) blockFrac

/-- The downstream lanes in use, as byte 2 of ALIGN names them (R144): a degraded lane leaves the stripe at its announced block time. -/
def State.inUse (s : State) (p : Nat) : Nat :=
  ((s.port p).drops.filter fun d => d.2 ≤ s.blockNow p).foldl (fun m d => clrBit m d.1) (s.port p).lanes

/-- The lanes of a mask, and how many they are. -/
def lanesOf (m : Nat) : List Nat := idxs 4 (nbit m)
def State.laneCount (s : State) (p : Nat) : Nat := (lanesOf (s.inUse p)).length

/-- The lane on which the port itself sends a calibration pattern, with the TRAIN burst after it (R155, R168). -/
def Port.patternLane (q : Port) : Option Nat :=
  match q.cal with
  | some c => if c.hop == 0 && c.lane != 4 && (c.phase == .pattern || c.phase == .restoring) then some c.lane else none
  | none => none

/-- The lanes that carry blocks: all four, but for one that carries a pattern (R147, R168). -/
def State.blockLanes (s : State) (p : Nat) : List Nat := (List.range 4).filter fun k => (s.port p).patternLane != some k

/-- The blocks of a frame by block time and lane: at each block time every lane in use takes the next one in ascending order (R144). -/
def spread : Nat → List Nat → List Block → List (List (Nat × Block))
  | 0, _, _ => []
  | n + 1, lanes, bs => if bs.isEmpty then [] else (stripe lanes bs).1 :: spread n lanes (stripe lanes bs).2

/-- Rows of blocks taken into the sums of their lanes. -/
def addRows (xs : List LaneSum) (rows : List (List (Nat × Block))) : List LaneSum :=
  rows.flatten.foldl (fun xs x => modAt xs x.1 fun y => y.add x.2) xs

/-- A frame's blocks sent from the next block time on, beginning on the lowest lane in use (R143, R144; where a frame begins is DESIGN
CHOICE, log 123). A marker that falls due inside takes a block time of its own. -/
def State.sendRows (s : State) (p : Nat) (bs : List Block) : State :=
  let q := s.port p
  let rows := spread bs.length (lanesOf (s.inUse p)) bs
  let n := s.blockNext p
  let room := q.markBlk - n
  s.modPort p fun q =>
    { q with busy := n + rows.length + b2n (room < rows.length), sums := addRows q.sums (rows.take room)
             sumsNext := addRows q.sumsNext (rows.drop room) }

/-- A marker sent, with its count and ECHO (Table 5.3): an ALIGN on every lane that carries blocks, each with its own BIP-8; `at_` is its
departure in units of 2^−32 ns of wall time. -/
def State.sendMark (s : State) (p count : Nat) (echo : Bool) (at_ : Int) : State :=
  let q := s.port p
  let ks := s.blockLanes p
  let sum := fun (k : Nat) => q.sums.getD k .reset
  let bs := ks.map fun k => (k, (Ctl.align k (s.inUse p) (sum k).value (nbit q.bipBad k) echo count).block.payload)
  (s.send (.chainAlign p bs)).modPort p fun q =>
    { q with marks := (q.marks ++ [(count, at_)]).drop (q.marks.length - 15), bipBad := ks.foldl clrBit q.bipBad
             sums := q.sumsNext, sumsNext := List.replicate 4 .reset }

/-- A lane-local block on every active lane at once (Table 5.3). -/
def State.sendLocal (s : State) (p : Nat) (c : Ctl) : State :=
  (s.send (.chainBlock p c.block.payload)).modPort p fun q =>
    { q with sums := addRows q.sums [(lanesOf (s.inUse p)).map fun k => (k, c.block)] }

/-- The counts of a TRAIN burst that begins at a block time, from 63 down to 0; a marker that falls due takes the place of one (R152). -/
def trainCounts (first mark : Nat) : List Nat := ((List.range 64).filter fun i => first + i != mark).map fun i => 63 - i

/-- A TRAIN burst on the lanes of a mask (R152, R155); the next marker of each carries the not-valid flag (R147). -/
def State.sendTrain (s : State) (p lanes : Nat) : State :=
  (s.send (.chainTrain p lanes ((trainCounts (s.blockNext p) (s.port p).markBlk).map fun n => (Ctl.train n).block.payload))).modPort p fun q =>
    { q with bipBad := q.bipBad ||| lanes }

end Sys2Proof.Machine
end

