-- ==== Sys2Proof/Machine/Frames.lean ====
section
/-! DEFINITION. Downstream frames on a port's queue, the bodies every block may send, and the abort of a lane calibration
(05_chain_lanes.md, 06_chain_protocol.md). -/

namespace Sys2Proof.Machine

/-- A frame put at the end of a port's queue. -/
def State.queueFrame (s : State) (p : Nat) (f : TxFrame) : State :=
  s.modPort p fun q => { q with queue := q.queue ++ [{ f with tag := q.tag }], tag := q.tag + 1 }

/-- A frame to every tile of a port (ADDR 63). -/
def allFrame (k : FrameKind) (arg : Nat) (body : List Byte) : TxFrame :=
  { kind := k, addr := 63, arg := arg, retry := false, body := body, due := 0, tag := 0 }

/-- A frame to one position. -/
def posFrame (k : FrameKind) (pos arg : Nat) (body : List Byte) : TxFrame :=
  { kind := k, addr := pos, arg := arg, retry := false, body := body, due := 0, tag := 0 }

/-- A byte of a number. -/
def byte (n : Nat) : Byte := BitVec.ofNat 8 n

/-- HOLD enter and leave with the standing values (Table 6.5, R397). -/
def holdBody (c : Cfg) (op : Nat) : List Byte := [byte op, byte c.holdStep] ++ leBytes 2 c.holdTime

/-- BATON claim (Table 6.5). -/
def batonBody : List Byte := [1, 0, 0, 0]

/-- Ports that are up, ascending. -/
def State.upPorts (s : State) : List Nat := idxs 16 fun p => (s.port p).up

/-- Whether the configuration puts a port in use. -/
def State.portOn (s : State) (p : Nat) : Bool := wbit (s.rws (Reg.portCfg p)) 31

/-- A HOLD frame on one port. -/
def State.holdOn (s : State) (op p : Nat) : State := s.queueFrame p (allFrame .hold 0 (holdBody s.cfg op))

/-- A HOLD frame on every port that is up. -/
def State.holdAll (s : State) (op : Nat) : State := s.upPorts.foldl (fun s p => s.holdOn op p) s

/-- A calibration result recorded for hop and lane (Table 5.5). -/
def Port.setCal (q : Port) (hop lane : Nat) (r : CalResult) : Port := { q with cals := setAt q.cals (5 * hop + lane) r }

/-- The end of a calibration's pattern (R155, R168): a TRAIN burst on the lane where the port itself sent the pattern, and LANE_RESTORE of a
downstream lane; an upstream lane needs none. -/
def State.restoreLane (s : State) (p : Nat) (c : CalRun) : State :=
  let s := if c.lane == 4 then s
    else (if c.hop == 0 then s.sendTrain p (2 ^ c.lane) else s).sendLocal p (.laneRestore c.lane 64)
  s.modPort p fun q => { q with cal := some { c with phase := .restoring, blk := s.blockNext p, tick := s.ticks } }

/-- The lane calibration of a port aborted (R158): the result is ABORTED, the pattern ends at once and the lane is restored as
at a normal end; on a port that is down the lane joins the port start. One whose change is still to come ends as the change takes effect. -/
def State.abortCal (s : State) (p : Nat) : State :=
  let q := s.port p
  match q.cal with
  | none => s
  | some c =>
    if c.aborted || c.phase == .waiting then s
    else
      let s := s.modPort p fun q => q.setCal c.hop c.lane ⟨4, 0, 0, 0⟩
      let c := { c with aborted := true }
      if !q.up then s.modPort p fun q => { q with cal := none, calNext := q.calNext + 1, calWait := none, calHeld := none }
      else if c.phase == .pattern then s.restoreLane p c
      else s.modPort p fun q => { q with cal := some c }

/-- Every calibration aborted. -/
def State.abortCals (s : State) : State := (List.range 16).foldl State.abortCal s

/-- Every forwarded clock stopped (R320, R401, R468). -/
def State.stopClock (s : State) (p : Nat) : State :=
  let s := if (s.port p).clock then s.send (.chainClock p false) else s
  s.modPort p fun q => { q with clock := false, blocks := false, up := false, lock := false, lockSt := .hunt, aligned := false, echo := false,
                                idle := false, exitBlk := none, lanes := 0, cal := none, queue := [], sending := none }

def State.stopClocks (s : State) : State := (List.range 16).foldl State.stopClock s

/-- Number of a tile in TILE registers: 32 × port + position (Table 16.1). -/
def tileNo (p q : Nat) : Nat := 32 * p + q

end Sys2Proof.Machine
end

