-- ==== Sys2Proof/Machine/Journal.lean ====
section
/-! DEFINITION. The queues of the NVM (R346 to R348): journal records and operations waiting, and what a shutdown does to them; the
staging's end (R259); zeroisation (R369). -/

namespace Sys2Proof.Machine

/-- The priority class of an NVM operation (R347). -/
def NvmJob.prio : NvmJob → Nat
  | .reHeader _ => 0 | .header _ _ => 0
  | .record _ => 1 | .jerase _ => 1 | .reJournal _ => 1
  | .slate _ => 2
  | .reArea _ => 3
  | .stErase _ _ => 3 | .stProg _ _ => 3 | .stRead => 3
  | .jread _ => 4

/-- OP of NVM_STATUS for an operation: 1 read, 2 program, 3 erase. -/
def NvmJob.op : NvmJob → Nat
  | .record _ => 2 | .header _ _ => 2 | .stProg _ _ => 2
  | .jerase _ => 3 | .reJournal _ => 3 | .reHeader _ => 3 | .reArea _ => 3
  | .stErase _ _ => 3
  | .slate _ => 1 | .jread _ => 1 | .stRead => 1

/-- An operation of staging, which a command of its own completes. -/
def NvmJob.staging : NvmJob → Bool
  | .stErase _ _ => true | .stProg _ _ => true | .stRead => true
  | _ => false

/-- The first job of the least class, in the order of queuing. -/
def bestJob : List NvmJob → Option NvmJob
  | [] => none
  | j :: js => match bestJob js with
    | none => some j
    | some k => if k.prio < j.prio then some k else some j

/-- A journal record of now (Table 13.13). -/
def State.mkJrec (s : State) (kind sev code : Nat) (data : List Byte) : JRec :=
  { kind := kind, sev := sev, code := code, sec := s.tb.sec, ns := s.tb.ns, valid := s.timeValid, legSeq := s.recSeq
    data := slice data 0 32 }

/-- The SECTOR record of a journal sector. -/
def State.sectorRec (s : State) (sect : Nat) : JRec := s.mkJrec 0 0 sect []

/-- The journal record that may be written next: none while an inconsistent sector awaits its re-erase or the ring waits for its
next sector; a SECTOR record first in an unused sector (R345, R346, R349). -/
def State.nextRec (s : State) : List NvmJob :=
  let n := s.nvm
  match n.jq with
  | [] => []
  | r :: _ =>
    if !n.badJ.isEmpty || 1024 ≤ n.jSlot then []
    else if n.jSlot == 0 then [.record (s.sectorRec n.jSect)]
    else [.record r]

/-- The next operation started if none is in progress (R347). The journal queue's head keeps its place until it is written. -/
def State.nvmKick (s : State) : State :=
  let n := s.nvm
  if !n.present || n.frozen || n.op.isSome then s else
  match bestJob (n.jobs ++ s.nextRec) with
  | none => s
  | some j => { s with nvm := { n with op := some ⟨j, false⟩, jobs := n.jobs.erase j } }

/-- An operation queued. -/
def State.nvmJob (s : State) (j : NvmJob) : State := { s with nvm := { s.nvm with jobs := s.nvm.jobs ++ [j] } }.nvmKick

/-- The log sequence number in the record of a fault (R396). -/
def JRec.logSeq (r : JRec) : Nat := leAt r.data 16 4

/-- A record put into the journal queue: records of faults with equal stamps go in the order of the fault log (R346, R394). -/
def jqInsert (r : JRec) : List JRec → List JRec
  | [] => [r]
  | x :: xs =>
    if r.kind == 3 && x.kind == 3 && x.sec == r.sec && x.ns == r.ns && r.logSeq < x.logSeq then r :: x :: xs else x :: jqInsert r xs

/-- The faults' records of a stamp from a log sequence number on, moved up by one (R394). -/
def jqUp (sec ns seq : Nat) (l : List JRec) : List JRec :=
  l.map fun r => if r.kind == 3 && r.sec == sec && r.ns == ns && seq ≤ r.logSeq then
    { r with data := r.data.take 16 ++ leBytes 4 (r.logSeq + 1) ++ r.data.drop 20 } else r

/-- The journal queue with a record: its head keeps its place while it is being written. -/
def Nvm.queued (n : Nvm) (r : JRec) : List JRec :=
  match n.jq with
  | [] => [r]
  | h :: t => if n.op.isSome then h :: jqInsert r t else jqInsert r (h :: t)

/-- A journal record queued (R346); one that finds the queue full is dropped and counted, and JOURNAL_LOST is recorded at most
once a second. A shutdown or RESTART queues nothing (R348). -/
def State.journalRec (s : State) (r : JRec) : State :=
  if s.nvm.frozen then s
  else if s.nvm.jq.length < 64 then { s with nvm := { s.nvm with jq := s.nvm.queued r } }.nvmKick
  else
    let s := s.bump Reg.journalDropped
    let fresh := match s.nvm.lostTick with | none => true | some t => s.past t secT
    if fresh then { s with nvm := { s.nvm with lostTick := some s.ticks } }.ev Ev.journalLost [] else s

/-- A journal record of no severity queued. -/
def State.journal (s : State) (kind code : Nat) (data : List Byte) : State := s.journalRec (s.mkJrec kind 0 code data)

/-- No further NVM operation is issued and queued records are lost; a program in flight may finish and an erase is suspended
(R348). -/
def State.nvmFreeze (s : State) : State :=
  let n := s.nvm
  let susp := match n.op with | some o => o.job.op == 3 | none => false
  { s with nvm := { n with frozen := true, freezeTick := s.ticks, jobs := [], jq := [], suspended := n.suspended || susp } }

/-- Staging ended with a code (Table 9.5): 0 is DONE. The journal takes a STAGING record. -/
def State.stageEnd (s : State) (code : Nat) : State :=
  let st := s.host.stage
  let s := { s with host := { s.host with stage :=
    { st with state := if code == 0 then 6 else 7, code := code, wait := false, image := [], list := [], abort := false, mark := false } }
                    nvm := { s.nvm with jobs := s.nvm.jobs.filter fun j => !j.staging } }
  let s := s.ev (if code == 0 then Ev.stageDone else Ev.stageFailed) [code]
  s.journal 6 code (leBytes 4 st.kind ++ leBytes 4 st.version)

/-- Whether staging runs (R258). -/
def Stage.runs (st : Stage) : Bool := 1 ≤ st.state && st.state ≤ 5

/-- The keys of a zeroised security core; an attestation in progress is refused. -/
def Sec.zero (c : Sec) : Sec :=
  { c with idKey := none, cueKey := none, zeroised := true, busy := none, refused := c.refused || c.busy.isSome,
           macsec := c.macsec.map fun m => { m with recd := none, txSak := [], rxSak := [] } }

/-- A datagram refused by check 2 or 6 recorded (Table 7.8); for a bad tag at most once per second. -/
def State.dgReject (s : State) (sender check : Nat) : State := s.ev Ev.cueDgRejected [sender, check]

/-- The record of a bad tag. -/
def State.dgBadTag (s : State) (sender : Nat) : State :=
  let s := s.bump Reg.cueDgAuthFail
  let old : Bool := match s.net.rejTick with | some t => s.past t secT | none => true
  if old then { s with net := { s.net with rejTick := some s.ticks } }.dgReject sender 2 else s

/-- The counters of the checks after the tag (Table 7.8). -/
def dgRegs : List Nat := [Reg.cueDgAccepted, Reg.cueDgOther, Reg.cueDgNoTime, Reg.cueDgStale, Reg.cueDgDup, Reg.cueDgReplay]

/-- A datagram whose tag matched noted for the rest of its tick (Table 14.8). -/
def State.dgNote (s : State) (sender : Nat) : State :=
  let fresh : DgMark := ⟨s.ticks, dgRegs.map s.cnt, s.net.senders, s.net.dgQueue, []⟩
  let m := match s.net.dgMark with
    | some m => if m.tick == s.ticks then m else fresh
    | none => fresh
  { s with net := { s.net with dgMark := some { m with slots := m.slots ++ [sender] } } }

/-- A counter set. -/
def State.putCnt (s : State) (off n : Nat) : State :=
  { s with regs := { s.regs with cnt := Sparse.set (fun _ => 0#32) s.regs.cnt off (Word.of n) } }

/-- The datagrams of the tick of a zeroisation fail check 2 (Table 14.8): the zeroisation comes first. -/
def State.dgUndo (s : State) : State :=
  match s.net.dgMark with
  | none => s
  | some m =>
    if m.tick != s.ticks then s else
    let s := (dgRegs.zip m.cnts).foldl (fun s x => s.putCnt x.1 x.2) s
    m.slots.foldl State.dgBadTag { s with net := { s.net with senders := m.senders, dgQueue := m.queue, dgMark := none } }

/-- Zeroisation (R369): the identity key, the cue key, every SAK, every KEK and the DRBG state are overwritten and verified; an
attestation in progress is abandoned and a staging check fails with code 5 (Table 14.8). `cause` counts 0 host, 1 debug unlock,
2 shutdown, 3 RESTART or reset. -/
def State.zeroise (s : State) (cause : Nat) : State :=
  let s := { s with sec := s.sec.zero }.dgUndo
  let s := s.evtW (unitSrc Ev.secZeroised) Ev.secZeroised [Config.code Ev.secZeroised cause]
  if s.host.stage.state == 2 then s.stageEnd 5 else s

end Sys2Proof.Machine
end

