-- ==== Sys2Proof/Machine/HostLink.lean ====
section
/-! DEFINITION. What several blocks do to the host port: a pull that fails or ends, the retirement of a buffer, and leaving the attached
state (R247, R255 to R259). -/

namespace Sys2Proof.Machine

/-- The HS_RETIRED record of a buffer (R59, Table 2.6). -/
def State.retire (s : State) (n fence seq : Nat) (skipped failed : Bool) : State :=
  s.evtAt (srcSurf n) Ev.hsRetired [n, fence % 2 ^ 32, fence / 2 ^ 32, seq, b2n skipped, b2n failed]

/-- Lines not received taken from the previous content of the surface (R257); with none they stay transparent black. -/
def fillLines : List (Option (List Byte)) → List (Option (List Byte)) → List (Option (List Byte))
  | [], _ => []
  | l :: ls, ps => (match l with | some b => some b | none => ps.headD none) :: fillLines ls ps.tail

/-- The layers of a scene for a view. -/
def State.sceneLayers (s : State) (n v : Nat) : List Layer :=
  match s.scene? n with
  | some ws => (viewBlock ws v).layers
  | none => []

/-- The freeze detector's states from its counts (R73). -/
def LayerSt.judge (limit : Nat) (st : LayerSt) : LayerSt :=
  { st with stale := limit != 0 && limit ≤ st.idleN, frozen := limit != 0 && limit ≤ st.sameN }

/-- An accepted frame's signature taken (R73). -/
def LayerSt.signed (sig : Nat) (st : LayerSt) : LayerSt :=
  { st with sig := some sig, sameN := if st.sig == some sig then st.sameN + 1 else 1 }

/-- The events of a change of a layer's health. -/
def State.healthEvents (s : State) (v i : Nat) (old new : LayerSt) : State :=
  let e := fun (s : State) (code : Nat) => s.evtAt (srcView v) code [v, i]
  let s := if new.stale && !old.stale then e s Ev.layerStale else s
  let s := if new.frozen && !old.frozen then e s Ev.layerFrozen else s
  if (old.stale || old.frozen) && !new.stale && !new.frozen then e s Ev.layerLive else s

/-- The CRC-32 of a slot's pixel data as stored (R73); lines that nothing has filled are transparent black. -/
def State.slotSig (s : State) (n k : Nat) : Nat :=
  let len := match s.surfRec? n with | some r => r.w * surfBytes r.fmt | none => 0
  (crc32 (((s.surf n).slots.getD k .reset).lines.flatMap fun l => l.getD (List.replicate len 0))).toNat

/-- Layers of one scene that show a slot whose pull has ended take its signature (R73). -/
def State.signScene (s : State) (v n k : Nat) (ls : List Layer) (sts : List LayerSt) : State × List LayerSt :=
  let sig := s.slotSig n k
  let new := sts.zipIdx.map fun x => match ls[x.2]?, x.1.content with
    | some l, some (.surf m j _) => if m == n && j == k && l.freeze != 0 then (x.1.signed sig).judge l.freeze else x.1
    | _, _ => x.1
  ((List.range sts.length).foldl (fun s i => s.healthEvents v i (sts.getD i .reset) (new.getD i .reset)) s, new)

/-- The signature of a slot taken in every view that shows it (R73). -/
def State.signSlot (s : State) (n k : Nat) : State :=
  (List.range 8).foldl (fun s v =>
    let x := s.view v
    let into := (s.sc.fade.map (·.target)).getD s.sc.cur
    let (s, ls) := s.signScene v n k (s.sceneLayers into v) x.layers
    let (s, out) := if s.sc.fade.isSome then s.signScene v n k (s.sceneLayers s.sc.cur v) x.out else (s, x.out)
    s.modView v fun x => { x with layers := ls, out := out }) s

/-- A 10-bit nonlinear code of the warm-up path (R309). -/
def warmCode (e : Fl) : Nat := (clampI 0 1023 (e.mulX (.ofNat 1023)).rne).toNat

/-- The buffer of the warm-up frame store that a source frame takes: not the latched one, and not the slate's if the other is
free (R311). -/
def Warm.pick (w : Warm) : Nat :=
  let c := [0, 1].filter fun i => w.latched != some i
  let d := c.filter fun i => w.slate != some i
  let e := d.filter fun i => w.newest != some i
  (e ++ d ++ c).headD 0

/-- A complete source frame placed in the warm-up frame store (R311). -/
def State.warmTake (s : State) (w h : Nat) (rows : List (List Nat)) : State :=
  let i := s.warm.pick
  { s with warm := { s.warm with bufs := setAt s.warm.bufs i (some ⟨false, w, h, rows⟩), newest := some i, done := some s.ticks,
                                 present := true, fresh := true,
                                 slate := if s.warm.slate == some i then none else s.warm.slate } }

/-- The rows of codes of a surface frame, steps 1 to 3 of R206 (R309). -/
def surfRows (r : SurfRec) (ls : List (Option (List Byte))) : List (List Nat) :=
  ls.map fun l => match l with
    | none => []
    | some bs => (List.range r.w).flatMap fun x =>
        ((surfNorm r.fmt (surfCodes r.fmt (slice bs (x * surfBytes r.fmt) (surfBytes r.fmt)))).take 3).map warmCode

/-- Bytes of a line of a surface (R255). -/
def SurfRec.lineBytes (r : SurfRec) : Nat := r.w * surfBytes r.fmt

/-- A line written into its slot's place in HBM (R251, R255), with the lines of a slot at a pitch rounded up to 512 bytes. -/
def State.storeLine (s : State) (n k y : Nat) (r : SurfRec) (bs : List Byte) : State :=
  let a := 512 * s.mem.slotBase.getD (3 * n + k) 0 + y * (ceilDiv r.lineBytes 512 * 512)
  { s with mem := { s.mem with bytes := hbmWriteList s.mem.bytes a bs } }

/-- A pull ends with every line received (R59, R73, R311): the buffer is retired, layers that show the slot take its signature, and a pull of
the warm-up source is a complete frame. -/
def State.endPull (s : State) (n : Nat) (p : Pull) (r : SurfRec) : State :=
  let s := s.modSurf n fun f => { f with pull := none }
  let s := (s.retire n p.fence p.seq false false).signSlot n p.slot
  if p.warm then s.warmTake r.w r.h (surfRows r ((s.surf n).slots.getD p.slot .reset).lines) else s

/-- A pull fails (R257): its missing lines are filled, the failure is counted and recorded, and the buffer is retired. -/
def State.breakPull (s : State) (n : Nat) (p : Pull) (r : SurfRec) : State :=
  let f := s.surf n
  let prev := match p.prev with | some i => (f.slots.getD i .reset).lines | none => []
  let lines := fillLines (f.slots.getD p.slot .reset).lines prev
  let s := s.modSurf n fun f => { f with pull := none, slots := modAt f.slots p.slot fun t => { t with lines := lines } }
  let s := lines.zipIdx.foldl (fun s x => s.storeLine n p.slot x.2 r (x.1.getD (List.replicate r.lineBytes 0))) s
  let s := s.bump Reg.hsPullFailed
  let s := s.evtAt (srcSurf n) Ev.hsPullFailed [n, p.fence % 2 ^ 32, p.fence / 2 ^ 32]
  (s.retire n p.fence p.seq false true).signSlot n p.slot

/-- The pull of a surface, if there is one, stopped: it fails for the lines it lacks, and one that lacks none has ended (R257). -/
def State.failPull (s : State) (n : Nat) : State :=
  match (s.surf n).pull with
  | some p =>
    let r := (s.surfRec? n).getD (SurfRec.parse [])
    if p.addr.isSome && r.h ≤ p.line then s.endPull n p r else s.breakPull n p r
  | none => s

/-- The read of a run of host memory, in requests that neither exceed Max Read Request Size nor cross a multiple of it (Table 9.1). -/
def hostReads (size : Nat) : Nat → Nat → Nat → List Output
  | 0, _, _ => []
  | k + 1, a, n => if n == 0 then [] else let m := min n (size - a % size); .hostRead a m :: hostReads size k (a + m) (n - m)

/-- A read of host memory sent. -/
def State.readHostMem (s : State) (a n : Nat) : State :=
  let size := 128 * 2 ^ s.host.conf.mrrs.val
  (hostReads size (n / size + 2) a n).foldl State.send s

/-- Lines of a pull whose reads have fallen due (R255): evenly spaced, so that the last completes at half the lap period, with at most 1024
requests outstanding (Table 9.1). -/
def State.linesDue (s : State) (p : Pull) (r : SurfRec) : Nat :=
  let due := (s.tb.run - p.start) * r.h / (max 1 p.span * 2 ^ 32) + 1
  min r.h (min due (p.line + max 1 (1024 / (r.lineBytes / (128 * 2 ^ s.host.conf.mrrs.val) + 2))))

/-- The line reads of a surface's pull that have fallen due, sent (R255). -/
def State.pacePull (s : State) (n : Nat) : State :=
  match (s.surf n).pull, s.surfRec? n with
  | some p, some r =>
    match p.addr with
    | none => s
    | some a =>
      let due := s.linesDue p r
      if due ≤ p.sent then s else
      let s := (List.range (due - p.sent)).foldl (fun s i => s.readHostMem (a + (p.sent + i) * r.pitch) r.lineBytes) s
      s.modSurf n fun f => { f with pull := some { p with sent := due } }
  | _, _ => s

/-- Whether a pull has a line read due. -/
def State.pullDue (s : State) (n : Nat) : Bool :=
  match (s.surf n).pull, s.surfRec? n with
  | some p, some r => p.addr.isSome && p.sent < s.linesDue p r
  | _, _ => false

/-- The next read of a staging image sent (R258). -/
def State.paceStage (s : State) : State :=
  let st := s.host.stage
  match st.list[st.pos]? with
  | some (a, n) =>
    if st.state == 1 then { s.readHostMem a n with host := { s.host with stage := { st with pos := st.pos + 1 } } } else s
  | none => s

/-- What the host link reads in a tick: the pulls' lines, and where none is due the staging image (Table 9.6). -/
def State.hostPace (s : State) : State :=
  let ns := List.range 16
  if !s.host.attached then s else if ns.any s.pullDue then ns.foldl State.pacePull s else s.paceStage

/-- Leaving the attached state (R247): every pull fails, a staging pull ends with code 1, and nothing more is written to host
memory. -/
def State.detach (s : State) : State :=
  if !s.host.attached then s else
  let s := { s with host := { s.host with attached := false } }
  let s := (List.range 16).foldl State.failPull s
  if s.host.stage.state == 1 then s.stageEnd 1 else s

/-- The configuration space of a function that has been reset: in D0, with nothing written. -/
def HostPort.confClear (h : HostPort) : HostPort := { h with conf := confReset, d3hot := false, status := 0, aer := 0 }

/-- A BAR2 access that needs no link to complete: a write already received. -/
def Bar2Op.isWrite : Bar2Op → Bool
  | .read _ _ => false
  | .write _ _ => true

/-- The host link goes down. -/
def State.linkDown (s : State) : State :=
  let s := s.detach
  let h := { s.host with link := false, speed := 0, width := 0, flit := false, waits := s.host.waits.filter Bar2Op.isWrite }
  { s with host := h.confClear }

end Sys2Proof.Machine
end

