-- ==== Sys2Proof/Machine/Hold.lean ====
section
/-! DEFINITION. What many blocks set off: the registers absent on a variant (R455), the seal (R344), the start and stop of a chain
port (R150, R398), hold (R397), the relay's heartbeats and release (R413, R419, R425), a re-step's acceptance (R235), limp
service (R318, R322, R323) and the shutdown sequence (R401). -/

namespace Sys2Proof.Machine

/-- Every bit of a register. -/
def allBits : Nat := 0xFFFFFFFF

/-- The bits of a register that are absent on a variant (R455, Table 20.3). -/
def Variant.absent (v : Variant) (off : Nat) : Nat :=
  if v == .hx84e then 0
  else if 0x200700 ≤ off && off < 0x200710 then allBits
  else if 0x401000 ≤ off && off < 0x401800 then (if v.routeAbsent ((off - 0x401000) / 4) then allBits else 0)
  else if 0x600208 ≤ off && off < 0x600210 then allBits
  else if 0x600100 ≤ off && off < 0x600208 then (if v == .hx42p then allBits else 0)
  else if off == Reg.tbCfg then (if v == .hx42p then 0x30000000 else 0)
  else if 0x800000 ≤ off && off < 0xC00000 then
    if v == .hx42p then allBits
    else if off < 0x800400 then
      if 0x800200 ≤ off then allBits
      else match off % 0x100 with
        | 0x00 => 2 ^ 29
        | 0x20 => 2 ^ 4
        | 0x4C => allBits
        | _ => 0
    else 0
  else if 0x1002400 ≤ off && off < 0x1002800 then allBits
  else if 0x2000140 ≤ off && off < 0x2000180 then allBits
  else if 0x2001400 ≤ off && off < 0x2001800 then allBits
  else if 0x2014000 ≤ off && off < 0x2018000 then allBits
  else 0

/-- The present RWS bits of a register. -/
def State.rwsMask (s : State) (off : Nat) : Nat :=
  match regFind off with
  | some r => r.rws &&& (allBits - s.variant.absent off)
  | none => 0

/-- PHY_DELAY and SHADOW_TIMING, which only training writes (R276). -/
def trainOff (off : Nat) : Bool := 0x02010000 ≤ off && off < 0x020800C0

/-- Whether an offset is that of a MON_MATRIX coefficient. -/
def monOff (off : Nat) : Bool := 0x809020 ≤ off && off < 0x809044

/-- CORR_TOL, BOOST_MAX and a TX_FIR set with values outside their ranges replaced by the defaults (R100, R139); MON_MATRIX keeps bits
19:0 with the sign repeated (R43). -/
def fixReg (off : Nat) (w : Word) : Word :=
  if off == Reg.corrTol then
    let d := fun (w : Word) (hi lo mn mx df : Nat) => if wfld w hi lo < mn || mx < wfld w hi lo then wput w hi lo df else w
    d (d (d w 5 0 1 63 8) 15 8 1 255 16) 31 20 250 2000 2000
  else if off == Reg.boostMax then (if 1024 < wfld w 10 0 then wput w 10 0 1024 else w)
  else if 0x01C00000 ≤ off && off < 0x01D00000 && 0x10 ≤ off % 0x10000 && off % 0x10000 < 0x20 then
    let pre := wfld w 3 0
    let main := wfld w 13 8
    let post := wfld w 20 16
    if 12 < pre || main < 24 || 24 < post || 63 < pre + main + post then Word.of (4 + at_ 48 8 + at_ 11 16) else w
  else if monOff off then Word.of (twos 32 (sint 20 (wfld w 19 0)))
  else w

/-- The events of the settings that `fixReg` replaces in a register's value. -/
def fixEvents (off : Nat) (w : Word) : List (Nat × List Nat) :=
  if off == Reg.corrTol then
    let bad := fun (hi lo mn mx k : Nat) => if wfld w hi lo < mn || mx < wfld w hi lo then [(Ev.corrSettingDefaulted, [k])] else []
    bad 5 0 1 63 0 ++ bad 15 8 1 255 1 ++ bad 31 20 250 2000 2
  else if off == Reg.boostMax then (if 1024 < wfld w 10 0 then [(Ev.corrSettingDefaulted, [3])] else [])
  else if !(monOff off) && fixReg off w != w then [(Ev.laneFirDefaulted, [(off - 0x01C00000) / 0x10000, off % 0x10 / 4])]
  else []

/-- The nominal increment replaced by 1.6 ns when it lies outside 1.5 to 1.7 ns (R223). -/
def incrOk (v : Nat) : Bool := 15 * 2 ^ 32 ≤ 10 * v && 10 * v ≤ 17 * 2 ^ 32
def incrOf (m : List (Nat × Word)) : Nat :=
  (Sparse.get rwsReset m Reg.tbIncrNomHi).toNat * 2 ^ 32 + (Sparse.get rwsReset m Reg.tbIncrNomLo).toNat
def fixIncr (m : List (Nat × Word)) : List (Nat × Word) :=
  if incrOk (incrOf m) then m
  else Sparse.set rwsReset (Sparse.set rwsReset m Reg.tbIncrNomHi 1) Reg.tbIncrNomLo 0x9999999A

/-- The RWS file with the REGS entries of the configuration written, settings out of range replaced (R100, R139, R223, R338). -/
def State.putRegs (s : State) (m : List (Nat × Word)) : List (Nat × Word) :=
  fixIncr (s.cfg.regs.foldl (fun m e =>
    Sparse.set rwsReset m e.1 (fixReg e.1 (rwsNew (s.rwsMask e.1) (Sparse.get rwsReset m e.1) e.2))) m)

/-- The level of LAP_OUT or LEG_OUT, active or not (R131). -/
def State.pinLevel (s : State) (leg active : Bool) : Bool := active != wbit (s.rws Reg.pinCtrl) (if leg then 3 else 2)

/-- LAP_OUT or LEG_OUT driven: pins 0 and 1 of the output log. -/
def State.drivePin (s : State) (leg active : Bool) : State :=
  let v := s.pinLevel leg active
  let old := if leg then s.pwr.legOut else s.pwr.lapOut
  if v == old then s
  else
    let s := s.send (.pin (b2n leg) v)
    { s with pwr := if leg then { s.pwr with legOut := v } else { s.pwr with lapOut := v } }

/-- Both pins driven as PIN_CTRL has them: active while a pulse lasts on a pin that is enabled, else inactive (R131). -/
def State.showPins (s : State) : State :=
  let c := s.rws Reg.pinCtrl
  (s.drivePin false (s.tl.lapPin.isSome && wbit c 0)).drivePin true (s.tl.legPin.isSome && wbit c 1)

/-- The nominal increment in force (R223). -/
def State.nomIncr (s : State) : Nat := let v := incrOf s.regs.rws; if incrOk v then v else nominalIncr

/-- A write of the seal's own tick counts as after the seal (R457): it is a violation if it would change what the seal has fixed. -/
def State.lateTry (s : State) (x : Nat × Requester × Nat × Word) : State :=
  let (t, who, off, value) := x
  let exempt : Bool := match who with
    | .core _ => off == Reg.evtGlobal || (0x400100 ≤ off && off < 0x402000)
    | .host => false
  if t == s.ticks && !exempt && fixReg off (rwsNew (s.rwsMask off) (s.rws off) value) != s.rws off then s.violation who off else s

/-- What the registers the seal has fixed bring where they differ from what a write had left: the choice of source, the increment, the
ports that are not enabled, and the levels of the pins. -/
def State.sealSettings (s : State) (oldNom : Nat) : State :=
  let s := { s with tb := { s.tb with judge := true, incr := s.tb.incr * s.nomIncr / oldNom } }
  ((idxs 16 fun p => !(s.portOn p) && (s.port p).clock).foldl State.stopClock s).showPins

/-- The seal (R344): every RWS field takes the value of a REGS entry, or the value training wrote, or its reset value. -/
def State.seal (s : State) (why : SealWhen) : State :=
  if s.boot.sealWhen != .notYet then s else
  let m := s.mem.trained.foldl (fun m e => Sparse.set rwsReset m e.1 e.2) (s.putRegs [])
  let t := { s with regs := { s.regs with rws := m },
                    boot := { s.boot with sealWhen := why, sealSplit := s.split, sealTick := s.ticks, tries := [] } }
  (s.boot.tries.foldl State.lateTry t).sealSettings s.nomIncr

/-- The start of a port (R150): the forwarded clock runs, and the streams restart (R172). -/
def State.startPort (s : State) (p : Nat) : State :=
  let s := if (s.port p).clock then s else s.send (.chainClock p true)
  s.modPort p fun q =>
    { q with clock := true, blocks := false, clkTick := s.ticks, failed := false, up := false, lock := false, lockSt := .hunt,
             aligned := false, echo := false, missed := 0, idle := false, exitBlk := none, lanes := 0, degraded := false, drops := []
             laneLoss := [], restored := none, mark := 0, blk0 := s.tb.run, markBlk := 0, bipBad := 15
             sums := List.replicate 4 .reset, sumsNext := List.replicate 4 .reset, busy := 0, marks := [], seqAll := 0, seqPos := List.replicate 32 0,
             rx := List.replicate 33 ⟨0, true, 0⟩, queue := [], sending := none, cal := none, driveOk := false,
             uncond := false, calWait := none, calHeld := none, stopAt := false, lapNext := none, claim := none, dry := [], rt0 := none, rtCand := none,
             census := { q.census with phase := .idle, reads := [], todo := [], recs := [] } }

/-- Whether a port is shared with a relay partner (R405). -/
def State.shared (s : State) (p : Nat) : Bool :=
  match s.cfg.relay with
  | some r => r.enable && nbit r.shared p
  | none => false

/-- Tiles of a port whose last reported holder is this unit. -/
def State.heldOn (s : State) (p : Nat) : Nat := ((s.onPort p).filter fun t => t.admitted && t.holder == some s.cfg.devNum).length

/-- Whether the unit drives a port: it sends every frame the chain rules give (R405, R407, R409, R410, R422). -/
def State.drives (s : State) (p : Nat) : Bool :=
  if !(s.shared p) then true else
  match s.rl.role with
  | .alone => true
  | .active => true
  | .solo => !((s.rport p).paired) || 0 < s.heldOn p
  | .standby => 0 < s.heldOn p
  | .pairing => false
  | .unpaired => false

/-- Whether a release keeps a port silent (R425). -/
def State.silent (s : State) (p : Nat) : Bool := match s.rl.release with | some r => nbit r.mask p | none => false

/-- Ports that are up and driven. -/
def State.drivenPorts (s : State) : List Nat := s.upPorts.filter s.drives

/-- HOLD enter on every driven port that is up. -/
def State.holdEnterAll (s : State) : State := s.drivenPorts.foldl (fun s p => s.holdOn 1 p) s

/-- HOLD leave on every driven port that is up. -/
def State.holdLeaveAll (s : State) : State := s.drivenPorts.foldl (fun s p => s.holdOn 2 p) s

/-- PROBE frames not yet started are not sent in hold (R397). -/
def State.dropProbes (s : State) : State :=
  { s with ports := s.ports.map fun q => { q with queue := q.queue.filter fun f => f.kind != .probe } }

/-- The S2 entries of the active table. -/
def Flt.s2 (f : Flt) : Nat := (f.active.filter (·.sev == 2)).length
def Flt.s1 (f : Flt) : Nat := (f.active.filter (·.sev == 1)).length

/-- The HOLD leave of this tick taken back: the phase it would have ended goes on. -/
def State.recallLeave (s : State) : State :=
  { s with ports := s.ports.map fun q => { q with queue := q.queue.filter fun f => !(f.kind == .hold && f.body.head? == some (byte 2)) }
           flt := { s.flt with hold := s.flt.leaveFrom } }

/-- Hold entered, by a fault kind or by limp (0) (R397): HOLD enter goes out at once, calibrations are aborted, and the next
leg boundary is the entry instant. In LEAVING the phase returns to HELD with a fresh entry instant; in the tick of the HOLD leave itself no
leave is sent and hold goes on (Table 16.6). -/
def State.enterHold (s : State) (kind : Nat) : State :=
  match s.flt.hold with
  | .none =>
    ({ s with flt := { s.flt with hold := .entering, holdKind := kind, holdFresh := true, enterTick := some s.ticks } }.holdEnterAll).dropProbes.abortCals
  | .leaving =>
    if s.flt.leaveTick == some s.ticks then (s.recallLeave.holdEnterAll).dropProbes.abortCals
    else
      ({ s with flt := { s.flt with hold := .held, holdKind := kind, holdFresh := true, enterTick := some s.ticks } }.holdEnterAll).dropProbes.abortCals
  | _ => s

/-- HOLD enter as an entry into hold that is already in force needs it: once in a tick (Table 16.6). -/
def State.holdAgain (s : State) : State :=
  if s.flt.enterTick == some s.ticks then s
  else { s with flt := { s.flt with enterTick := some s.ticks } }.holdEnterAll

/-- HELD becomes HELD_DARK, HOLD_TIME seconds after the entry instant (R397). -/
def State.holdDark (s : State) : State :=
  match s.flt.hold with
  | .held =>
    if !s.flt.holdFresh && s.cfg.holdTime != 0 && s.past s.flt.holdTick (s.cfg.holdTime * secT) then
      { s with flt := { s.flt with hold := .heldDark } }.ev Ev.holdDark []
    else s
  | _ => s

/-- FLAGS of a HEARTBEAT and of a BEACON (Table 17.2). -/
def State.beatFlags (s : State) : Nat :=
  maskOf [s.tl.service, s.boot.stage == 7, s.flt.hold != .none, s.flt.shutTick.isSome, s.timeValid, s.rl.fit, s.rl.cold]

/-- The lap number the beats carry (R37). -/
def State.lapNo (s : State) : Nat := (s.tl.lap % 2 ^ 32).toNat

/-- The ports on which the unit holds a tile. -/
def State.holdMask (s : State) : Nat := maskOf ((List.range 16).map fun p => 0 < s.heldOn p)

/-- A relay message sent, with its SEQ (R413). -/
def State.relaySend (s : State) (kind : Nat) (body : List Byte) : State :=
  let q := (s.rl.txSeq + 1) % 65536
  ({ s with rl := { s.rl with txSeq := q } }).send (.relay kind q body)

/-- HEARTBEAT (Table 17.2). -/
def State.heartbeat (s : State) : State :=
  let s := s.relaySend 0xC1
    ([byte s.rl.role.code, byte s.beatFlags] ++ leBytes 2 s.holdMask ++ leBytes 4 s.lapNo ++ slice s.rl.digest 0 8
     ++ [byte s.tb.sel, byte s.tl.num] ++ List.replicate 14 0)
  { s with rl := { s.rl with hbSend := s.ticks } }

/-- BEACON on a port (Table 6.5, R419). -/
def State.beacon (s : State) (p : Nat) : State :=
  let q := s.port p
  let b := leBytes 4 q.beat ++ (match s.rl.role with
    | .alone => List.replicate 12 0
    | r => [byte r.code, byte s.beatFlags, 0, 0] ++ leBytes 4 s.lapNo ++ slice s.rl.digest 0 4)
  let s := s.queueFrame p (allFrame .beacon 0 b)
  s.modPort p fun q => { q with beat := (q.beat + 1) % 2 ^ 32, beatTick := s.ticks }

/-- A change of ROLE, which is recorded (R429). -/
def State.setRole (s : State) (r : Role) : State :=
  if s.rl.role == r then s
  else { s with rl := { s.rl with role := r } }.ev Ev.relayRole [s.rl.role.code, r.code]

/-- The paired ports on which the unit holds tiles. -/
def State.releaseMask (s : State) : Nat := maskOf ((List.range 16).map fun p => (s.rport p).paired && 0 < s.heldOn p)

/-- Whether the partner could take a handover (R425): in full service, not in hold, FIT 1, not COLD, with the link up. -/
def State.partnerFit (s : State) : Bool :=
  let f := s.rl.pFlags
  s.rl.up && nbit f 0 && !(nbit f 2) && nbit f 5 && !(nbit f 6)

/-- A release of the held tiles of the paired ports (R425): HANDOVER goes out and the released ports fall silent. -/
def State.release (s : State) : State :=
  if s.rl.release.isSome || !s.partnerFit then s else
  let m := s.releaseMask
  let s := s.relaySend 0xCA ([1, 0] ++ leBytes 2 m ++ [0, 0, 0, 0])
  { s with rl := { s.rl with release := some ⟨s.ticks, m⟩ } }

/-- The release an ACTIVE unit starts when it enters limp service or hold. -/
def State.releaseIfActive (s : State) : State := if s.rl.role == .active then s.release else s

/-- The lap boundary a change is fixed to: the first at or after an instant plus two lap periods plus 2,000 µs. -/
def State.changeAt (s : State) (t : Int) : Int :=
  let e := s.cfg.epoch
  s.tl.plan.lapAt e (s.tl.plan.lapFrom e (s.tl.plan.plusLaps t 2 2000))

/-- A re-step request accepted (R235): its boundary is fixed, and a plan cue that is pending but not fixed is held. -/
def State.acceptStep (s : State) : State :=
  let held := match s.tl.pend with
    | some c => if s.tl.fixed then s.tl.held else some c
    | none => s.tl.held
  let pend := if s.tl.fixed then s.tl.pend else none
  { s with tl := { s.tl with stepB := some (s.changeAt s.wall), stepGo := none, stepHeld := false, held := held, pend := pend } }

/-- A held request accepted when the change it waited for has gone. -/
def State.acceptHeld (s : State) : State := if s.tl.stepHeld then s.acceptStep else s

/-- A fade ended with its incoming scene current. -/
def State.endFade (s : State) : State :=
  match s.sc.fade with
  | none => s
  | some f =>
    { s with sc := { s.sc with cur := f.target, fade := none, views := s.sc.views.map fun v =>
        { v with out := List.replicate 16 .reset, outGroups := List.replicate 7 ⟨false, 0, false⟩, noFade := false } } }

/-- Every pending scene cue discarded (R62). -/
def State.flushCues (s : State) : State :=
  let l := s.sc.pend
  l.foldl (fun s c => s.ev Ev.cueSuperseded [c.scene, c.src]) { s with sc := { s.sc with pend := [] } }

/-- A plan cue that goes without effect. -/
def State.planGone (s : State) (c : Option PlanCue) : State :=
  match c with
  | none => s
  | some c => s.ev Ev.planSuperseded [c.plan, c.src]

/-- LAP frames of a boundary that have not started to leave are taken back, to be formed again. -/
def State.recallLap (s : State) (b : Int) : State :=
  { s with ports := s.ports.map fun q =>
      if q.lapNext == some b && q.queue.any (fun f => f.kind == .lap && f.due == b) then
        { q with queue := q.queue.filter (fun f => !(f.kind == .lap && f.due == b)), lapNext := none }
      else q }

/-- Whether the LAP frame of a boundary has started to leave a port. -/
def Port.lapLeft (q : Port) (b : Int) : Bool := q.lapNext == some b && !(q.queue.any fun f => f.kind == .lap && f.due == b)

/-- STAGE 7 with its cause (R318, R322 step 5); LIMP_ENTERED and the journal's record follow as the tick ends, with the cause it has then
(Table 12.6). -/
def State.markLimp (s : State) (cause : Nat) : State :=
  { s with boot := { s.boot with stage := 7, limpCause := cause, held := false, stageTick := s.ticks, stageDue := false, limpDue := true } }

/-- Entry into full service, or into limp service, recorded as the tick ends. -/
def State.settleStage (s : State) : State :=
  let s := if s.boot.stageDue then
      ({ s with boot := { s.boot with stageDue := false } }.ev Ev.sbStage [5, s.boot.entryMs.getD 5 0]).journal 1 5
        (leBytes 4 (s.boot.slotFw + 2 * s.boot.slotCfg) ++ leBytes 4 s.nvm.fwVer ++ leBytes 4 s.nvm.cfgVer ++ slice s.cfg.hash 0 16)
    else s
  if s.boot.limpDue then
    ({ s with boot := { s.boot with limpDue := false } }.ev Ev.limpEntered [s.boot.limpCause]).journal 8 s.boot.limpCause []
  else s

/-- Limp service entered before full service (R318, R323): the warm-up plan is kept, and a dark lap whose LAP frame has
left is carried out. -/
def State.limpEarly (s : State) (cause : Nat) : State :=
  let s := s.seal .limpSb4
  let s := { s with tl := { s.tl with fullAsk := false } }
  let s := match s.tl.fullB with
    | none => s
    | some b =>
      let quiet := idxs 16 fun p => !((s.port p).lapLeft b)
      let s := { s with tl := { s.tl with fullB := none } }.recallLap b
      if quiet.length == 16 then s.acceptHeld else { s with tl := { s.tl with limpB := some b, limpQuiet := quiet } }
  s.markLimp cause

/-- Limp service entered from full service (R322). -/
def State.limpFull (s : State) (cause : Nat) : State :=
  let s := match s.flt.hold with
    | .none => s.enterHold 0
    | .leaving => s.enterHold 0
    | _ => s.holdAgain
  let s := { s with boot := { s.boot with stage := 7, limpCause := cause } }
  let s := { s with flt := { s.flt with limpHold := true }, tl := { s.tl with usable := 0, service := false },
                    sc := { s.sc with usable := 0 } }
  let s := s.flushCues
  let s := (s.planGone s.tl.pend).planGone s.tl.held
  let s := { s with tl := { s.tl with pend := none, held := none, fixed := false } }
  let s := s.endFade.acceptHeld
  let s := if s.tl.stepB.isSome then { s with tl := { s.tl with limpAsk := true } }
    else { s with tl := { s.tl with limpB := some (s.changeAt s.wall) } }
  let s := { s with fab := { s.fab with vset := 900, vTick := s.ticks } }
  s.releaseIfActive.markLimp cause

/-- Full service not entered after all, for a loss at B itself (Table 12.6): the warm-up plan is kept, and the dark lap that has been
announced goes on. -/
def State.leaveFull (s : State) : State :=
  let w := s.cfg.warm
  let k := w.legFrom s.cfg.epoch (s.wall + 1)
  { s with tl := { s.tl with plan := w, num := w.num, warm := true, service := false, legSeq := 0, leg := 0, next := k, nextAt := w.legAt s.cfg.epoch k,
                             pulses := [], noRoom := false },
           tiles := s.tiles.map fun t => t.legsNew w.legs
           sc := { s.sc with cur := 0, shown := false, views := s.sc.views.map fun v => { v with latch := none } }
           boot := { s.boot with warmActive := true } }

/-- HBM (cause 1) or the fabric (cause 2) lost (R318, R322, R323): in SB4 or before full service, at B, in full service, or in limp
service, where nothing changes but that HBM lost in the tick of the entry is shown as its cause (Table 12.6). A staging pull that needs the
HBM ends with code 11 (Table 9.5). -/
def State.limp (s : State) (cause : Nat) : State :=
  let s := if cause == 1 && s.host.stage.state == 1 then s.stageEnd 11 else s
  if s.boot.stage == 7 && s.boot.limpDue && cause == 1 then { s with boot := { s.boot with limpCause := 1 } }
  else if s.boot.stage == 7 || s.boot.stage == 6 then s
  else if s.tl.service && s.boot.stageDue then s.leaveFull.markLimp cause
  else if s.tl.service then s.limpFull cause
  else if s.boot.stage == 4 then s.limpEarly cause
  else s

/-- Channel readings held by the shutdown latch (R436). -/
def State.latchOf (s : State) (cause src : Nat) : ShutLatch :=
  ⟨s.ticks, cause, src, (s.hk.chans.take 4).map (·.value),
    (List.range 4).map fun i => if i < s.variant.stacksN then (s.mem.stk i).temp else 0⟩

/-- The shutdown latch set, if it is not set already (R436). -/
def State.setLatch (s : State) (cause src : Nat) : State :=
  if s.hk.latch.isSome then s else { s with hk := { s.hk with latch := some (s.latchOf cause src) } }

/-- Steps 1 and 2 of the shutdown sequence, at the fault's stamp (R401); the relay partner hears of it (R420). -/
def State.shutdown (s : State) (kind cause src : Nat) : State :=
  if s.flt.shutTick.isSome then s else
  let s := { s with flt := { s.flt with shutTick := some s.ticks } }
  let s := match s.flt.hold with
    | .none => s.enterHold kind
    | .leaving => s.enterHold kind
    | _ => s.holdAgain.abortCals
  let s := s.setLatch cause src
  let s := if s.host.stage.runs then s.stageEnd 10 else s
  let s := s.nvmFreeze.zeroise 2
  if s.rl.role == .alone then s
  else s.upPorts.foldl State.beacon s.heartbeat

/-- LAP_OUT and LEG_OUT low, as without the supplies (Table 21.10). -/
def State.pinsLow (s : State) : State :=
  let low := fun (s : State) (n : Nat) (high : Bool) => if high then s.send (.pin n false) else s
  let t := low (low s 0 s.pwr.lapOut) 1 s.pwr.legOut
  { t with pwr := { t.pwr with lapOut := false, legOut := false } }

/-- Steps 3 and 4 of the shutdown sequence: the forwarded clocks stop, VCORE, HBM and SerDes supplies go, the host port link goes
down, and the fabric with everything it holds is without power (R401, R468). -/
def State.powerOff (s : State) : State :=
  let s := s.stopClocks.linkDown.pinsLow
  let busy := s.nvm.op.isSome
  let pwr := { s.pwr with vcore := false, hbmRail := false, serdes := false, vioHold := busy }
  { s with flt := { s.flt with shutDone := true },
           pwr := { pwr with vio := s.pwr.vio && busy, shdn := true },
           tl := { s.tl with on := false, service := false, pulses := [], lapPin := none, legPin := none },
           fab := { s.fab with vset := 0 },
           warm := { s.warm with shown := 2 },
           boot := { s.boot with warmActive := false } }

/-- A unit of UNIT_STATE changed. -/
def State.modUnit (s : State) (u : Nat) (f : UnitRec → UnitRec) : State :=
  { s with flt := { s.flt with units := modAt s.flt.units u f } }

/-- A unit begins to stop (R398); a further stopping fault cancels a pending enable (R399). -/
def State.stopUnit (s : State) (u : Nat) : State :=
  let r := s.flt.unit u
  match r.st with
  | .stopping => s.modUnit u fun r => { r with enPend := false }
  | .stopped => s
  | _ =>
    let s := s.modUnit u fun _ => ⟨.stopping, false, s.ticks + 10 * msT⟩
    if 3 ≤ u then (s.holdOn 1 (u - 3)).modPort (u - 3) fun q => { q with stopAt := true }
    else s.setCoreState (u + 1) 3

/-- A stopped unit restarted (R399): a port by a port start, a core by its firmware's release. -/
def State.startUnit (s : State) (u : Nat) : State :=
  let s := s.modUnit u fun _ => ⟨.starting, false, 0⟩
  if 3 ≤ u then s.startPort (u - 3)
  else { s.setCoreState (u + 1) 0 with flt := { s.flt with kickTick := setAt s.flt.kickTick (u + 1) s.ticks } }

/-- A restarted unit becomes RUNNING. -/
def State.unitRuns (s : State) (u : Nat) : State :=
  match (s.flt.unit u).st with
  | .starting => (s.modUnit u fun _ => ⟨.running, false, 0⟩).ev Ev.unitStarted [u]
  | _ => s

/-- A stopping unit becomes STOPPED, and restarts at once if its enable is pending. -/
def State.unitStops (s : State) (u : Nat) : State :=
  let r := s.flt.unit u
  match r.st with
  | .stopping =>
    let s := s.modUnit u fun r => { r with st := .stopped, enPend := false }
    let s := s.ev Ev.unitStopped [u]
    if r.enPend then s.startUnit u else s
  | _ => s

end Sys2Proof.Machine
end

