-- ==== Sys2Proof/Machine/Faults.lean ====
section
/-! DEFINITION. The fault collector (16_faults.md): severities in force, order, coalescing, the log, the first-error capture, the
active table, reactions, clearing, the watchdogs, and the commands of the faults family. -/

namespace Sys2Proof.Machine

/-- Sources and kinds that are not reserved (R388, R390). -/
def fltSrcOk (src : Nat) : Bool := src ≤ 260 || (512 ≤ src && src ≤ 1054)
def fltKindOk (k : Nat) : Bool := (1 ≤ k && k ≤ 0x15) || (0x40 ≤ k && k ≤ 0x49) || (0x60 ≤ k && k ≤ 0x66)

/-- Fault sources of Table 16.1. -/
def fsPort (p : Nat) : Nat := p
def fsTile (p q : Nat) : Nat := 512 + 32 * p + q
def fsCore (c : Nat) : Nat := 1024 + c
def fsSec : Nat := 1028
def fsNvm : Nat := 1029
def fsHk : Nat := 1031
def fsChan (n : Nat) : Nat := 1032 + n
def fsFeed (n : Nat) : Nat := 1048 + n
def fsRelay : Nat := 1050
def fsStage (g : Nat) : Nat := 1050 + g
def fsPacer : Nat := 253
def fsBoot : Nat := 254
def fsCfg : Nat := 255
def fsFault : Nat := 258

/-- The severity field of a kind in FAULT_SEV. -/
def sevFld (w : Nat → Word) (k : Nat) : Nat := wfld (w (Reg.faultSev (k / 16))) (2 * (k % 16) + 1) (2 * (k % 16))

/-- The default severity of a kind (Tables 16.2, 17.5 and 18.3), the reset value of its field. -/
def fltDefault (k : Nat) : Nat := sevFld rwsReset k

/-- The severity in force (R391). -/
def State.sevOf (s : State) (kind src : Nat) : Nat :=
  if kind == Fk.coreLost && src == fsCore 0 then 2 else
  let d := fltDefault kind
  if 2 ≤ d then d else
  let v := sevFld s.rws kind
  if d ≤ v && v ≤ 2 then v else d

/-- HOT_LEVEL and HOLD_LEVEL of a channel and STACK_WARN, in °C (R437, R438). -/
def State.dieHot (s : State) : Nat :=
  let v := wfld (s.rws Reg.hkCfg) 15 8
  if v == 0 || (80 ≤ v && v ≤ 117) then v else 110
def State.hotLevel (s : State) (n : Nat) : Nat := if n < 4 then s.dieHot else wfld (s.rws (Reg.hkChanCfg n)) 15 8
def State.holdLevel (s : State) (n : Nat) : Nat := if n < 4 then 0 else wfld (s.rws (Reg.hkChanCfg n)) 23 16
def State.stackWarn (s : State) : Nat :=
  let v := wfld (s.rws Reg.hkCfg) 23 16
  if 86 ≤ v && v ≤ 104 then v else 95

/-- A reading at or above a level less 2 °C. -/
def nearLevel (v : Int) (level : Nat) : Bool := level != 0 && (16 * level : Int) - 32 ≤ v

/-- A housekeeping channel. -/
def Hk.chan (h : Hk) (n : Nat) : HkChan := h.chans.getD n ⟨0, false, 0, 0, 0, false, 0, 0⟩

/-- Whether the last reading of a supply channel is out of range (R439). -/
def supplyOut (n : Nat) (v : Int) : Bool :=
  if n == 14 then v < 650 || 930 < v else if n == 15 then v < 1710 || 1890 < v else v < 4500 || 18000 < v

/-- A channel's last reading before a tick, on which a clear in that tick is judged (Table 18.6). -/
def HkChan.before (c : HkChan) (now : Nat) : Int := if c.tick == now then c.prior else c.value

/-- A stack's last reading before a tick. -/
def StackSt.before (k : StackSt) (now : Nat) : Int := if k.tempTick == now then k.tempPrior else k.temp

/-- Whether a fault's cause is present now (Tables 16.2, 17.5 and 18.3); a reading of the present tick comes after the judging of a clear. -/
def State.causePresent (s : State) (kind src : Nat) : Bool :=
  match kind with
  | 0x01 => true
  | 0x02 => true
  | 0x03 => true
  | 0x06 => (s.port src).degraded
  | 0x08 => true
  | 0x0A => true
  | 0x0C => s.fab.vOff.any id
  | 0x0D => 16 ≤ s.fab.surgeRun
  | 0x0E => true
  | 0x11 => true
  | 0x14 => src == fsCore 0
  | 0x42 => true
  | 0x43 => let c := s.hk.chan (src - 1032); !c.broken && nearLevel (c.before s.ticks) (s.hotLevel (src - 1032))
  | 0x44 => let c := s.hk.chan (src - 1032); !c.broken && nearLevel (c.before s.ticks) (s.holdLevel (src - 1032))
  | 0x45 => nearLevel ((s.mem.stk (src - 240)).before s.ticks) s.stackWarn
  | 0x47 => s.past (s.mem.stk (src - 240)).tempTick (16 * msT)
  | 0x48 => supplyOut 12 ((s.hk.chan (src - 1036)).before s.ticks)
  | 0x49 => supplyOut 14 ((s.hk.chan 14).before s.ticks) || supplyOut 15 ((s.hk.chan 15).before s.ticks)
  | 0x60 =>
    let quiet := fun (t : Option Nat) => match t with | none => true | some t => s.past t secT
    quiet s.rl.hbTick && quiet s.rl.bcTick
  | 0x61 => !s.rl.up
  | 0x62 => s.rl.diffs.any fun d => (s.lapNo + 2 ^ 32 - d.lap) % 2 ^ 32 < 3
  | 0x63 => true
  | 0x64 => true
  | 0x65 => (s.rport src).split
  | _ => false

/-- The order of faults with equal stamps, each given by its severity, source and kind: higher severity first, then lower source, then
lower kind (R394). -/
def fltFirst (a b : Nat × Nat × Nat) : Bool :=
  if a.1 != b.1 then b.1 < a.1 else if a.2.1 != b.2.1 then a.2.1 < b.2.1 else a.2.2 < b.2.2

/-- The order of messages with equal stamps (R394). -/
def fltBefore (sev : Nat → Nat → Nat) (a b : FltMsg) : Bool :=
  fltFirst (sev a.kind a.src, a.src, a.kind) (sev b.kind b.src, b.src, b.kind)

/-- A message put in its place. -/
def fltInsert (sev : Nat → Nat → Nat) (m : FltMsg) : List FltMsg → List FltMsg
  | [] => [m]
  | x :: xs => if fltBefore sev m x then m :: x :: xs else x :: fltInsert sev m xs

/-- The eight words of a log record (Table 16.4). -/
def FltRec.words (r : FltRec) : List Word :=
  [Word.of (at_ r.kind 16 + at_ r.sev 12 + r.src), r.data.getD 0 0, r.data.getD 1 0, r.data.getD 2 0, Word.of r.sec,
   Word.of (at_ (b2n r.valid) 31 + (r.sec / 2 ^ 32) % 65536), Word.of r.ns,
   Word.of (at_ (b2n r.latched) 31 + at_ (b2n r.first) 30 + r.count)]

/-- Words as little-endian bytes. -/
def wordBytes (ws : List Word) : List Byte := (ws.map fun w => leBytes 4 w.toNat).flatten

/-- The largest value of COUNT and FOLLOWERS. -/
def max24 : Nat := 16777215

/-- The newest log record of a source and kind. -/
def Flt.newest (f : Flt) (src kind : Nat) : Option FltRec := f.log.reverse.find? fun r => r.src == src && r.kind == kind

/-- COUNT of a log record raised (R395); the capture's copy of it keeps the count it was made with. -/
def Flt.recount (f : Flt) (seq : Nat) : Flt :=
  { f with log := f.log.map fun r => if r.seq == seq then { r with count := min max24 (r.count + 1) } else r }

/-- Severity, source and kind of a log record and of an entry of the active table. -/
def FltRec.key (r : FltRec) : Nat × Nat × Nat := (r.sev, r.src, r.kind)
def FltEntry.key (e : FltEntry) : Nat × Nat × Nat := (e.sev, e.src, e.kind)

/-- An entry put into the active table, in order of latching (R394, R400). -/
def latchIn (e : FltEntry) : List FltEntry → List FltEntry
  | [] => [e]
  | x :: xs => if e.tick < x.tick || (e.tick == x.tick && fltFirst e.key x.key) then e :: x :: xs else x :: latchIn e xs

/-- The log records of the present tick that a fault goes before (R394). -/
def Flt.later (f : Flt) (now : Nat) (key : Nat × Nat × Nat) : List FltRec := f.log.filter fun r => r.tick == now && fltFirst key r.key

/-- The records of faults that come after a new one in the present tick, moved up by one in the log, the host ring's queue, the cores' queues and
the journal's queue; `lead` says that the new one takes the first-error capture from one of them. -/
def State.moveUp (s : State) (seq : Nat) (lead : Bool) : State :=
  { s with flt := { s.flt with log := s.flt.log.map fun r =>
             if r.tick == s.ticks && seq ≤ r.seq then { r with seq := r.seq + 1, first := r.first && !lead } else r }
           evt := s.evt.raisedUp s.ticks seq
           nvm := { s.nvm with jq := jqUp s.tb.sec s.tb.ns seq s.nvm.jq } }

/-- A record put in the log, the capture and the active table (R396, R400), before those of the same tick that R394 puts after it. -/
def State.logFault (s : State) (m : FltMsg) (sev : Nat) : State :=
  let key := (sev, m.src, m.kind)
  let up := (s.flt.later s.ticks key).length
  let seq := (s.flt.next + 2 ^ 32 - up) % 2 ^ 32
  let takes : Bool := wfld (s.rws Reg.faultCfg) 1 0 ≤ sev
  let lead : Bool := takes && match s.flt.feRec with
    | some x => x.tick == s.ticks && fltFirst key x.key
    | none => false
  let first := (s.flt.feRec.isNone && takes) || lead
  let s := if up == 0 then s else s.moveUp seq lead
  let f := s.flt
  let had := f.active.any fun e => e.src == m.src && e.kind == m.kind
  let lat := sev == 1 || sev == 2
  let room := f.active.length < 2048
  let r : FltRec := { seq := seq, tick := s.ticks, kind := m.kind, sev := sev, src := m.src, data := m.data, sec := s.tb.sec,
                      ns := s.tb.ns, valid := s.timeValid, latched := lat && (had || room), first := first, count := 1 }
  let n := f.log.length - up
  let log := f.log.take n ++ [r] ++ f.log.drop n
  let f := { f with log := if 1024 < log.length then log.drop 1 else log, next := (f.next + 1) % 2 ^ 32,
                    feRec := if first then some r else f.feRec,
                    feLegSeq := if first then s.recSeq else f.feLegSeq,
                    followers := if first && !lead then 0 else if f.feRec.isSome then min max24 (f.followers + 1) else f.followers,
                    active := if lat && !had && room then latchIn ⟨m.src, m.kind, sev, s.ticks⟩ f.active else f.active,
                    overflow := f.overflow || (lat && !had && !room) }
  let s := { s with flt := f }
  let s := s.ev Ev.faultRaised [m.kind, m.src, sev, r.seq]
  if lat || (sev == 0 && wbit (s.rws Reg.faultCfg) 3) || m.kind == Fk.macsecPnBlock then
    s.journalRec (s.mkJrec 3 sev m.kind
      (wordBytes (r.words.take 4) ++ leBytes 4 r.seq ++ wordBytes (r.words.drop 7) ++ List.replicate 8 0))
  else s

/-- The first-error capture cleared (R396, Table 16.6): a record of the same tick that qualifies fills it again. -/
def State.clearFe (s : State) : State :=
  let took := fun (r : FltRec) => r.tick == s.ticks && wfld (s.rws Reg.faultCfg) 1 0 ≤ r.sev
  match s.flt.log.find? took with
  | none => { s with flt := { s.flt with feRec := none } }
  | some r =>
    { s with flt := { s.flt with
        feRec := some { r with first := true }, feLegSeq := s.recSeq
        followers := (s.flt.log.filter fun x => x.tick == s.ticks && fltFirst r.key x.key).length
        log := s.flt.log.map fun x => if x.seq == r.seq then { x with first := true } else x } }

/-- The cause an S3 kind gives the shutdown latch (Table 18.2). -/
def shutCause (kind : Nat) : Nat :=
  if kind == Fk.hkShutdown then 1 else if kind == Fk.hkDieChannels then 2 else if kind == Fk.hkStackShutdown then 3 else 4

/-- The kind that HOLD_ENTERED carries: of the faults of the tick of the entry, the first that leads to hold (R394, Table 16.7). -/
def State.holdCause (s : State) : State :=
  if s.flt.enterTick != some s.ticks || !s.flt.holdFresh then s else
  match s.flt.log.find? fun r => r.tick == s.ticks && 2 ≤ r.sev with
  | some r => { s with flt := { s.flt with holdKind := r.kind } }
  | none => s

/-- The shutdown latch set in this tick names the first S3 fault of the tick (R394, Table 18.6). -/
def State.latchFirst (s : State) : State :=
  match s.hk.latch, s.flt.log.find? fun r => r.tick == s.ticks && r.sev == 3 with
  | some l, some r => if l.tick == s.ticks then { s with hk := { s.hk with latch := some (s.latchOf (shutCause r.kind) r.src) } } else s
  | _, _ => s

/-- The reaction of a class (Table 16.3). -/
def State.classReact (s : State) (m : FltMsg) (sev : Nat) : State :=
  if sev == 2 then ((s.enterHold m.kind).holdCause).releaseIfActive
  else if sev == 3 then ((s.shutdown m.kind (shutCause m.kind) m.src).latchFirst).holdCause
  else s

/-- The reaction of a kind beyond its class that the collector itself starts (Table 16.2). -/
def State.kindReact (s : State) (m : FltMsg) : State :=
  if m.kind == Fk.memPcLost then s.limp 1
  else if m.kind == Fk.fabricStall then s.limp 2
  else if m.kind == Fk.portStuck then s.stopUnit (3 + m.src)
  else if m.kind == Fk.coreLost && m.src != fsCore 0 then s.stopUnit (m.src - fsCore 1)
  else s

/-- A message coalesced with the newest record of its source and kind, whose stamp is less than 1 s earlier (R395). -/
def State.coalesced (s : State) (m : FltMsg) (sev : Nat) : Option FltRec :=
  if !(wbit (s.rws Reg.faultCfg) 2) || sev == 3 || m.kind == Fk.macsecPnBlock then none
  else (s.flt.newest m.src m.kind).filter fun r => s.tb.sec * giga + s.tb.ns < r.sec * giga + r.ns + giga && r.sev == sev

/-- A clear of this tick undone by the return of its cause (Table 16.6): the clear counts as refused and the entry stays. -/
def State.unclear (s : State) (m : FltMsg) : State :=
  match s.flt.clrd.find? fun x => x.1 == s.ticks && x.2.src == m.src && x.2.kind == m.kind with
  | none => s
  | some x =>
    if !(s.causePresent m.kind m.src) then s else
    let gone := [Word.of m.kind, Word.of m.src]
    let s := { s.bump Reg.clearRefused with
      flt := { s.flt with active := latchIn x.2 s.flt.active, clrd := s.flt.clrd.erase x, clrRefused := s.flt.clrRefused + 1, clrResult := 2 },
      evt := s.evt.editQueued fun r => if r.tick == s.ticks && r.code == Ev.faultCleared && r.args == gone then none else some r }
    s.ev Ev.faultClearRefused [m.kind, m.src]

/-- One message taken by the collector (R389 to R396). -/
def State.take1 (s : State) (m : FltMsg) : State :=
  if !(fltSrcOk m.src) || !(fltKindOk m.kind) then { s with flt := { s.flt with unknown := true } } else
  let sev := s.sevOf m.kind m.src
  let s := (s.bump (Reg.faultCount sev)).unclear m
  match s.coalesced m sev with
  | some r => { s with flt := s.flt.recount r.seq }.kindReact m
  | none => ((s.logFault m sev).classReact m sev).kindReact m

/-- Messages that reach the collector in one tick, taken in the order of R394. -/
def State.raise (s : State) (ms : List FltMsg) : State :=
  (ms.foldr (fltInsert s.sevOf) []).foldl State.take1 s

/-- One message. -/
def State.fault (s : State) (kind src : Nat) (data : List Nat) : State := s.raise [⟨kind, src, data.map Word.of⟩]

/-- An event and the fault of the same name, whose DATA are the event's first three items (R389). -/
def State.evFault (s : State) (code kind src : Nat) (items : List Nat) : State :=
  (s.ev code items).fault kind src (items.take 3)

/-- What else the clear of a fault sets going: a stopped unit is enabled (R399), the pacer leaves VMAX (R299), FIT returns
(R418). -/
def State.cleared (s : State) (kind src : Nat) : State :=
  let enable := fun (s : State) (u : Nat) =>
    match (s.flt.unit u).st with
    | .stopped => s.startUnit u
    | .stopping => s.modUnit u fun r => { r with enPend := true }
    | _ => s
  if kind == Fk.portStuck then enable s (3 + src)
  else if kind == Fk.coreLost && src != fsCore 0 then enable s (src - fsCore 1)
  else if kind == Fk.pacerVcoreMismatch then { s with fab := { s.fab with mismatch := false } }
  else if kind == Fk.fabricSlow then { s with fab := { s.fab with slow := false } }
  else if kind == Fk.relaySigMismatch then { s with rl := { s.rl with fit := !s.rl.cold } }
  else s

/-- One entry of the active table cleared or refused (R400). -/
def State.clear1 (s : State) (e : FltEntry) : State :=
  if s.causePresent e.kind e.src then
    { s.bump Reg.clearRefused with flt := { s.flt with clrRefused := s.flt.clrRefused + 1 } }.ev Ev.faultClearRefused [e.kind, e.src]
  else
    let s := { s with flt := { s.flt with
      active := s.flt.active.filter (fun x => !(x.src == e.src && x.kind == e.kind))
      clrd := (s.flt.clrd.filter fun (x : Nat × FltEntry) => x.1 == s.ticks) ++ [(s.ticks, e)] } }
    (s.ev Ev.faultCleared [e.kind, e.src]).cleared e.kind e.src

/-- RESULT after a clear: 3 with no entry, 2 if one was refused, else 1. -/
def State.clrDone (s : State) (n : Nat) : State :=
  { s with flt := { s.flt with clrResult := if n == 0 then 3 else if s.flt.clrRefused == 0 then 1 else 2 } }

/-- A write to FAULT_CLEAR without ALL (R400). -/
def State.faultClear (s : State) (kind src : Nat) : State :=
  let s := { s with flt := { s.flt with clrRefused := 0 } }
  match s.flt.active.find? fun e => e.src == src && e.kind == kind with
  | none => s.clrDone 0
  | some e => (s.clear1 e).clrDone 1

/-- A write to FAULT_CLEAR with ALL (R400). -/
def State.faultClearAll (s : State) : State :=
  let l := s.flt.active
  let s := l.foldl State.clear1 { s with flt := { s.flt with clrRefused := 0 } }
  let s := if s.flt.active.isEmpty then { s with flt := { s.flt with overflow := false } } else s
  s.clrDone l.length

/-- A write to FAULT_CLEAR. -/
def State.writeFaultClear (s : State) (value : Word) : State :=
  if !(wbit value 31) then s
  else if wbit value 30 then s.faultClearAll
  else s.faultClear (wfld value 19 12) (wfld value 11 0)

/-- FAULT_CLEAR (R400): GO with SOURCE and KIND. -/
def execFaultClear (value : Word) (s : State) : Host.Outcome State Fault Refusal :=
  .next (s.writeFaultClear (wput value 30 30 0))

/-- FAULT_CLEAR_ALL (R400): GO with ALL. -/
def execFaultClearAll (value : Word) (s : State) : Host.Outcome State Fault Refusal :=
  .next (s.writeFaultClear (wput value 30 30 1))

/-- A write to HOLD_REQUEST (R397): GO with the key raises HOST_HOLD; any other key is ignored. -/
def State.writeHoldRequest (s : State) (value : Word) : State :=
  if wfld value 31 16 == 0x401D && wbit value 0 then s.fault Fk.hostHold fsFault [] else s

def execHoldRequest (value : Word) (s : State) : Host.Outcome State Fault Refusal := .next (s.writeHoldRequest value)

/-- FAULT_LOG_READ (R396): the record FAULT_LOG_DATA shows. -/
def State.writeLogRead (s : State) (value : Word) : State := s.setRw Reg.faultLogRead value

def execFaultLogRead (value : Word) (s : State) : Host.Outcome State Fault Refusal := .next (s.writeLogRead value)

/-- ACTIVE_READ (R404): the entry ACTIVE_ENTRY shows. -/
def State.writeActiveRead (s : State) (value : Word) : State := s.setRw Reg.activeRead (Word.of (wfld value 10 0))

def execActiveRead (value : Word) (s : State) : Host.Outcome State Fault Refusal := .next (s.writeActiveRead value)

/-- A write to CORE_KICK (R398): the core's watchdog restarts, and a restarting core becomes RUNNING (R399). Host writes, and
writes by another core, are ignored (R404). -/
def State.writeKick (s : State) (who : Requester) (c : Nat) (value : Word) : State :=
  match who with
  | .host => s
  | .core k =>
    if k.val != c || !(wbit value 0) then s
    else
      let s := { s with flt := { s.flt with kickTick := setAt s.flt.kickTick c s.ticks } }
      if c == 0 then s else s.unitRuns (c - 1)

def execCoreKick (who : Requester) (core : Fin 4) (value : Word) (s : State) : Host.Outcome State Fault Refusal :=
  .next (s.writeKick who core value)

/-- PERIOD of a core's watchdog, ms. -/
def State.wdtMs (s : State) (c : Nat) : Nat := wfld (s.rws (Reg.coreWdt c)) 7 0

/-- Whether a core's watchdog has run out: its PERIOD has passed since its last KICK, and the core runs. -/
def State.wdtDue (s : State) (c : Nat) : Bool :=
  s.wdtMs c != 0 && s.past (s.flt.kickTick.getD c 0) (s.wdtMs c * msT) &&
  (c == 0 || (s.flt.unit (c - 1)).st == .running || (s.flt.unit (c - 1)).st == .starting)

/-- CORE_WDT_EXPIRY (R398): CORE_LOST of the core, with the core and the period. The watchdog counts anew from here. -/
def execCoreWdtExpiry (core : Fin 4) (s : State) : Host.Outcome State Fault Refusal :=
  if s.wdtDue core then
    let s := { s with flt := { s.flt with kickTick := setAt s.flt.kickTick core s.ticks } }
    .next (s.fault Fk.coreLost (fsCore core) [core, s.wdtMs core])
  else .next s

/-- PORT_STOP_COMPLETE (R398, R399): a stopping core has left its bus transactions, or a stopping port's clock has stopped at
its lap boundary; the unit is STOPPED, and restarts at once if its enable is pending. -/
def execPortStopComplete (unit : Fin 19) (s : State) : Host.Outcome State Fault Refusal :=
  if 3 ≤ unit.val && (s.port (unit.val - 3)).clock then .next s else .next (s.unitStops unit)

/-- HOLD_TIME_EXPIRY (R397): HELD becomes HELD_DARK, HOLD_TIME seconds after the entry instant. -/
def execHoldTimeExpiry (s : State) : Host.Outcome State Fault Refusal := .next s.holdDark

/-- SHUTDOWN_CLOCK_STOP (R401): 200 µs after the S3 fault's stamp. -/
def execShutdownClockStop (s : State) : Host.Outcome State Fault Refusal :=
  match s.flt.shutTick with
  | some t => if !s.flt.shutDone && s.past t (200 * usT) then .next s.powerOff else .next s
  | none => .next s

/-- HOLD_PHASE as a number. -/
def HoldPhase.code : HoldPhase → Nat
  | .none => 0 | .entering => 1 | .held => 2 | .heldDark => 3 | .leaving => 4

/-- STATE of a unit as a number. -/
def UnitSt.code : UnitSt → Nat
  | .running => 0 | .stopping => 1 | .stopped => 2 | .starting => 3

/-- STATE of FAULT_STATUS (R392). -/
def Flt.state (f : Flt) : Nat := if f.s2 != 0 then 2 else if f.s1 != 0 then 1 else 0

/-- The log record FAULT_LOG_READ names, if it is held. -/
def State.logSel (s : State) : Option FltRec := s.flt.log.find? (·.seq == (s.rw Reg.faultLogRead).toNat)

/-- The faults block's registers that show state. -/
def State.readFaults (s : State) (off : Nat) : Option Word :=
  let f := s.flt
  if off == Reg.faultStatus then
    some (Word.of (at_ f.state 30 + at_ (b2n (s.boot.stage == 7)) 29 + at_ f.hold.code 26 + at_ (b2n f.overflow) 25
      + at_ (b2n f.unknown) 24 + at_ f.s2 12 + f.s1))
  else if off == Reg.feStatus then some (Word.of (at_ (b2n f.feRec.isSome) 31 + f.followers))
  else if Reg.feWord 0 ≤ off && off ≤ Reg.feWord 7 then
    some (match f.feRec with | some r => r.words.getD ((off - Reg.feWord 0) / 4) 0 | none => 0)
  else if off == Reg.feLegSeq then some (Word.of f.feLegSeq)
  else if off == Reg.faultClearStatus then some (Word.of (at_ (min f.clrRefused 4095) 2 + f.clrResult))
  else if off == Reg.faultLogNext then some (Word.of f.next)
  else if off == Reg.faultLogStatus then some (Word.of (b2n s.logSel.isSome))
  else if Reg.faultLogData 0 ≤ off && off ≤ Reg.faultLogData 7 then
    some (match s.logSel with | some r => r.words.getD ((off - Reg.faultLogData 0) / 4) 0 | none => 0)
  else if off == Reg.activeEntry then
    some (match f.active[(s.rw Reg.activeRead).toNat]? with
      | some e => Word.of (at_ 1 31 + at_ (b2n (s.causePresent e.kind e.src)) 30 + at_ e.sev 28 + at_ e.kind 20 + e.src)
      | none => 0)
  else if Reg.unitState 0 ≤ off && off ≤ Reg.unitState 18 then
    let r := f.unit ((off - Reg.unitState 0) / 4)
    some (Word.of (at_ (b2n r.enPend) 2 + r.st.code))
  else none

end Sys2Proof.Machine
end

