-- ==== Sys2Proof/Machine/Hk.lean ====
section
/-! DEFINITION. The housekeeping converter and the fabric trim (18_housekeeping.md, R431 to R443), with the commands of the
family. -/

namespace Sys2Proof.Machine

/-- A housekeeping channel changed. -/
def State.modChan (s : State) (n : Nat) (f : HkChan → HkChan) : State :=
  { s with hk := { s.hk with chans := modAt s.hk.chans n f } }

/-- The reading a measurement gives (R433, Table 18.1). A diode's scaling, and a thermistor whose formula gives no number, are free
values. -/
def State.hkValue (s : State) (n : Nat) (raw : Int) : Int :=
  if n < 4 || 12 ≤ n then raw
  else
    let w := s.rws (Reg.hkSensorCfg n)
    if n < 8 then (Config.diodeScale raw (wfld w 15 0)).toInt
    else match (thermistorT raw.toNat (wfld w 31 16) (wfld w 15 0)).sixteenths with
      | some t => t
      | none => (Config.thermistor raw.toNat (wfld w 31 16) (wfld w 15 0)).toInt

/-- A reading taken by a channel. -/
def HkChan.take (c : HkChan) (now : Nat) (v : Int) : HkChan :=
  { c with value := v, got := true, prior := c.before now, tick := now }

/-- The neighbours of a temperature channel (R434): a fixed ring for the die diodes, HK_CHAN_CFG for the others. -/
def State.neighbours (s : State) (n : Nat) : List Nat :=
  if n < 4 then [(n + 3) % 4, (n + 1) % 4]
  else
    let w := s.rws (Reg.hkChanCfg n)
    [wfld w 31 28, wfld w 27 24].filter fun k => k < 12 && k != n

/-- Whether a reading fails the cross-check against its neighbours' latest readings (R434). -/
def State.crossFails (s : State) (n : Nat) (v : Int) : Bool :=
  match (s.neighbours n).map s.hk.chan with
  | [a, b] =>
    !a.broken && !b.broken && a.got && b.got && (a.value - b.value).natAbs ≤ 80 &&
    320 < (v - a.value).natAbs && 320 < (v - b.value).natAbs
  | _ => false

/-- Die channels that are not broken. -/
def Hk.dieValid (h : Hk) : Nat := ((h.chans.take 4).filter fun c => !c.broken).length

/-- Whether the start is in SB0, where the collector does not work yet, or has ended there in this tick with a higher code (Table 12.6). -/
def State.inSb0 (s : State) : Bool :=
  s.boot.running && (s.boot.stage == 0 || (s.boot.stage == 6 && s.boot.fsStage == 0 && s.boot.fsCode != 1 && s.boot.stageTick == s.ticks))

/-- False start 1 (R321, R435, R436): the code and the shutdown latch are recorded, and steps 2 to 5 of the shutdown sequence
follow, the supplies going at SHUTDOWN_CLOCK_STOP. -/
def State.thermalStart (s : State) (cause src : Nat) : State :=
  if !s.inSb0 then s else
  let s := { s with boot := { s.boot with stage := 6, stageTick := s.ticks, fsCode := 1, fsStage := 0, fsDetail := 0 },
                    flt := { s.flt with shutTick := some s.ticks } }
  (s.setLatch cause src).nvmFreeze.zeroise 2

/-- What a judged slot raises: in SB0 the S3 conditions end the start, and nothing reaches the collector. -/
def State.hkRaise (s : State) (ms : List FltMsg) : State :=
  if s.inSb0 then
    match ms.find? fun m => m.kind == Fk.hkDieChannels || m.kind == Fk.hkShutdown with
    | some m => s.thermalStart (shutCause m.kind) m.src
    | none => s
  else s.raise ms

/-- The number HK_LEVEL carries for a level kind: 0 HOT_LEVEL, 1 HOLD_LEVEL, 2 STACK_WARN. -/
def levelKind (k : Nat) : Word := Config.code Ev.hkLevel k

/-- HK_LEVEL when a reading crosses a level (R443). -/
def State.levelEvent (s : State) (idx kind level : Nat) (old : Option Int) (v : Int) : State :=
  let hi := fun (x : Int) => level != 0 && (16 * level : Int) ≤ x
  let was := match old with | some x => hi x | none => false
  if was != hi v then s.evtW (unitSrc Ev.hkLevel) Ev.hkLevel [Word.of idx, levelKind kind, Word.of (sw v)] else s

/-- A temperature channel judged (R434, R435, R437): the new state and the faults it raises. -/
def State.judgeTemp (s : State) (n : Nat) (v : Int) : State × List FltMsg :=
  let c := s.hk.chan n
  let old := if c.got then some c.value else none
  let s1 := s.modChan n fun c => c.take s.ticks v
  if c.broken then (s1, []) else
  let range := v < -640 || 2400 < v
  let fails := if s.crossFails n v then c.fails + 1 else 0
  if range || 8 ≤ fails then
    let cause := if range then 1 else 2
    let s2 := (s1.modChan n fun c => { c with broken := true, fails := fails, count := 0 }).ev Ev.hkSensorBroken [n, cause]
    let lost := n < 4 && s2.hk.dieValid < 2
    (s2, [⟨Fk.hkSensorBroken, fsChan n, [Word.of n, Word.of cause]⟩] ++ (if lost then [⟨Fk.hkDieChannels, fsHk, []⟩] else []))
  else
    let count := if n < 4 then (if 1888 ≤ v then min 3 (c.count + 1) else 0) else 0
    let s2 := s1.modChan n fun c => { c with fails := fails, count := count }
    let hot := s.hotLevel n
    let hold := s.holdLevel n
    let s3 := (s2.levelEvent n 0 hot old v).levelEvent n 1 hold old v
    (s3, (if count == 3 && c.count == 2 then [⟨Fk.hkShutdown, fsChan n, []⟩] else [])
      ++ (if hot != 0 && (16 * hot : Int) ≤ v then [⟨Fk.hkHot, fsChan n, []⟩] else [])
      ++ (if hold != 0 && (16 * hold : Int) ≤ v then [⟨Fk.hkHold, fsChan n, []⟩] else []))

/-- VCORE compared with VSET (R299): after three readings in a row off by more than 30 mV the pacer holds VMAX. -/
def State.judgeVcore (s : State) (v : Int) : State × List FltMsg :=
  if !s.tl.service || !(s.past s.fab.vTick (100 * usT)) then (s, []) else
  let off : Bool := 30 < (v - s.fab.vset).natAbs
  let l := (off :: s.fab.vOff).take 3
  let s1 := { s with fab := { s.fab with vOff := l } }
  if l == [true, true, true] && !s.fab.mismatch then
    let items := [s.fab.vset, sw v]
    let s2 := { s1 with fab := { s1.fab with mismatch := true, vset := 900, vTick := s.ticks } }
    (s2.ev Ev.pacerVcoreMismatch items, [⟨Fk.pacerVcoreMismatch, fsPacer, items.map Word.of⟩])
  else (s1, [])

/-- A supply channel judged (R439). -/
def State.judgeSupply (s : State) (n : Nat) (v : Int) : State × List FltMsg :=
  let oor := if supplyOut n v then (s.hk.chan n).oor + 1 else 0
  let s := s.modChan n fun c => { c.take s.ticks v with oor := oor }
  let ms := if 2 ≤ oor then
      (if n < 14 then [⟨Fk.hkFeedRange, fsFeed (n - 12), []⟩] else [⟨Fk.hkSupplyRange, fsHk, []⟩]) else []
  if n == 14 then let (s, ms') := s.judgeVcore v; (s, ms ++ ms') else (s, ms)

/-- The canary margins of a round (R441). -/
def State.judgeMargins (s : State) (l : List Nat) : State :=
  (l.zip [0, 1, 2, 3]).foldl (fun s x =>
    if x.1 < 40 && (s.hk.fabTrim.getD x.2 (0, 0, 0, 0)).1 != 0 then
      (s.bump (Reg.marginLow x.2)).ev Ev.fabricMarginLow [x.2 + 1, x.1]
    else s) s

/-- Whether the slot in progress has ended. -/
def State.slotDue (s : State) : Bool :=
  s.hk.running && s.past s.hk.startTick ((16 * s.hk.rounds + s.hk.slot + 1) * msT)

/-- The converter moves on to the next slot. -/
def Hk.nextSlot (h : Hk) : Hk :=
  if h.slot == 15 then { h with slot := 0, rounds := h.rounds + 1 } else { h with slot := h.slot + 1 }

/-- HK_SLOT (R431): the slot's reading is taken and judged at its end. -/
def execHkSlot (reading : HkReading) (s : State) : Host.Outcome State Fault Refusal :=
  if !s.slotDue then .next s else
  let n := s.hk.slot
  let v := s.hkValue n reading.raw
  let (t, ms) := if n < 12 then s.judgeTemp n v else s.judgeSupply n v
  let t := { t with hk := t.hk.nextSlot }
  let t := if n == 15 then t.judgeMargins reading.margins else t
  .next (t.hkRaise ms)

/-- The element a line takes: the smallest margin of at least 80 ‰, the lower-numbered of equals (R440). -/
def pickElem (m : List Int) : Option (Nat × Int) :=
  ((List.range m.length).zip m).foldl (fun b x =>
    if x.2 < 80 then b else match b with
      | none => some x
      | some y => if x.2 < y.2 then some x else some y) none

/-- The trim of one stage from its lines' element margins: STATUS, QUALITY, MARGIN, SPARES, or none when a line has no
element. -/
def trimStage (lines : List (List Int)) : Option (Nat × Nat × Nat × Nat) :=
  let picks := lines.map pickElem
  if picks.any (·.isNone) || picks.isEmpty then none else
  let ms := picks.filterMap fun p => p.map (·.2.toNat)
  let m := ms.foldl min (ms.headD 0)
  let sp := (picks.filter fun p => match p with | some (i, _) => i != 0 | none => false).length
  some (if 120 ≤ m then 1 else 2, min 100 (100 * m / 200), min m 1023, min sp 4095)

/-- FABRIC_STALL of a stage (R300); STAGE keeps the first that was lost. -/
def State.fabricStall (s : State) (g : Nat) : State :=
  let s := { s with fab := { s.fab with lost := true, stage := if s.fab.lost then s.fab.stage else g } }
  s.evFault Ev.fabricStall Fk.fabricStall (fsStage g) [g]

/-- FABRIC_TRIM_DONE (R440): per stage and line the margins of elements E0 to E3 in ‰; a stage with a line that has no passing
element is lost, as R300 has it. -/
def execFabricTrimDone (lines : List (List (List Int))) (s : State) : Host.Outcome State Fault Refusal :=
  if s.boot.stage != 4 || s.boot.sealWhen != .notYet || s.hk.fabTrim.any (fun x => x.1 != 0) then .next s else
  let res := (List.range 4).map fun g => trimStage (lines.getD g [])
  let s := { s with hk := { s.hk with fabTrim := res.map (fun r => r.getD (0, 0, 0, 0)),
                                      fabLines := (List.range 4).map fun g => (lines.getD g []).length } }
  .next ((idxs 4 fun g => (res.getD g none).isNone).foldl (fun s g => s.fabricStall (g + 1)) s)

/-- Whether DIODE_BUSY is high (R481): from 20 µs before slot 0 to the end of slot 3. -/
def State.diodeBusy (s : State) : Bool :=
  if !s.hk.running then false else
  let t := (s.ticks - s.hk.startTick) % (16 * msT)
  t < 4 * msT || 16 * msT - 20 * usT ≤ t

/-- The housekeeping and calibration blocks' registers. -/
def State.readHk (s : State) (off : Nat) : Option Word :=
  let h := s.hk
  if off == Reg.hkStatus then
    some (Word.of (at_ h.dieValid 16 + maskOf ((h.chans.take 12).map (·.broken))))
  else if off == Reg.hkRounds then some (Word.of h.rounds)
  else if off == Reg.hkShutdown then
    some (match h.latch with
      | some l => Word.of (at_ 1 31 + at_ l.cause 28 + l.src)
      | none => 0)
  else if Reg.hkReading 0 ≤ off && off ≤ Reg.hkReading 15 then
    let n := (off - Reg.hkReading 0) / 4
    let c := h.chan n
    some (Word.of (at_ (b2n c.broken) 31 + at_ c.count 18 + at_ (min 3 c.fails) 16 + twos 16 c.value))
  else if Reg.fabricTrim 0 ≤ off && off < Reg.fabricTrim 4 then
    let g := (off - Reg.fabricTrim 0) / 16
    let (st, q, m, sp) := h.fabTrim.getD g (0, 0, 0, 0)
    match (off - Reg.fabricTrim 0) % 16 with
    | 0 => some (Word.of (at_ st 29 + at_ q 22 + at_ m 12 + sp))
    | 4 => some (Word.of (h.fabLines.getD g 0))
    | _ => none
  else none

end Sys2Proof.Machine
end

