-- ==== Sys2Proof/Machine/Image.lean ====
section
/-! DEFINITION. Images in the NVM (13_configuration_image.md): the flash's bytes, containers and their checks (R333, R334, R354), the
configuration's records (R335 to R339), the plan conditions that need no capacity (Table 4.2), the slate (R340), header
copies (R330) and journal records (R345). -/

namespace Sys2Proof.Machine

/-- What an erased byte reads as. -/
def erased : Nat → Byte := fun _ => 0xFF

/-- `n` bytes of the flash from an address on. -/
def flashGo : List (Nat × Byte) → Nat → Nat → List Byte
  | _, _, 0 => []
  | [], _, n + 1 => List.replicate (n + 1) 0xFF
  | (k, v) :: r, a, n + 1 => if k == a then v :: flashGo r (a + 1) n else 0xFF :: flashGo ((k, v) :: r) (a + 1) n

def flashRead (m : List (Nat × Byte)) (a n : Nat) : List Byte := flashGo (m.dropWhile fun e => e.1 < a) a n

/-- Bytes programmed at an address. -/
def flashWrite (m : List (Nat × Byte)) (a : Nat) (bs : List Byte) : List (Nat × Byte) := Sparse.setList erased m a bs

/-- A range erased. -/
def flashErase (m : List (Nat × Byte)) (a n : Nat) : List (Nat × Byte) := m.filter fun e => e.1 < a || a + n ≤ e.1

/-- A sector of 64 KiB and the regions of Table 13.1. -/
def sector : Nat := 65536
def hdrAddr (s : Nat) : Nat := s * sector
def jAddr (s : Nat) : Nat := 0x20000 + s * sector
def fwAddr (b : Nat) : Nat := 0x200000 + b * 0x400000
def cfgAddr (b : Nat) : Nat := 0xA00000 + b * 0x400000
def ownerAddr : Nat := 0x1200000
def areaSize : Nat := 0x400000

/-- Bytes of the flash by SIZE of NVM_INFO: 64 MiB doubled for each step. -/
def flashBytes (size : Nat) : Nat := 64 * 2 ^ 20 * 2 ^ size

/-- Address and size of an area: 0 FW_A, 1 FW_B, 2 CFG_A, 3 CFG_B, 4 owner data. -/
def areaAddr (a : Nat) : Nat :=
  match a with
  | 0 => fwAddr 0 | 1 => fwAddr 1 | 2 => cfgAddr 0 | 3 => cfgAddr 1 | _ => ownerAddr
def areaBytes (size a : Nat) : Nat := if a < 4 then areaSize else flashBytes size - 18 * 2 ^ 20

/-- Words of a byte string. -/
def toWords (bs : List Byte) : List Word := (chunks (bs.length / 4) 4 bs).map fun b => Word.of (leNat b)

/-- Records of a container body (R334): type and value; none when they do not fill the body. -/
def recordsOf : Nat → List Byte → Option (List (Nat × List Byte))
  | _, [] => some []
  | 0, _ => none
  | f + 1, bs =>
    let len := leAt bs 4 4
    if bs.length < 8 + len || len % 4 != 0 || leAt bs 2 2 != 0 then none else
    (recordsOf f (bs.drop (8 + len))).map fun l => (leAt bs 0 2, (bs.drop 8).take len) :: l

/-- A container as read: its header fields, records, the bytes that are signed, and its trailer. -/
structure Container where
  kind     : Nat
  variants : Nat
  rollback : Nat
  version  : Nat
  records  : List (Nat × List Byte)
  signed   : List Byte
  key      : List Byte
  sig      : List Byte
  deriving DecidableEq, Repr

/-- BODY_LEN of a container. -/
def bodyLen (bs : List Byte) : Nat := leAt bs 8 4

/-- The whole length of a container by its header. -/
def containerLen (bs : List Byte) : Nat := 64 + bodyLen bs + 128

/-- The envelope (R333, R334), within an area of `cap` bytes. -/
def Container.parse (kind cap : Nat) (bs : List Byte) : Option Container :=
  let n := bodyLen bs
  if slice bs 0 4 != [0x48, 0x58, 0x49, 0x4D] || leAt bs 4 1 != 1 || leAt bs 5 1 != kind || 8 ≤ leAt bs 6 1
    || 64 < leAt bs 7 1 || n % 4 != 0 || cap < 64 + n + 128 || bs.length < 64 + n + 128
    || (slice bs 16 48).any (· != 0) then none
  else
    let body := (bs.drop 64).take n
    (recordsOf (n / 8 + 1) body).map fun rs =>
      { kind := kind, variants := leAt bs 6 1, rollback := leAt bs 7 1, version := leAt bs 12 4, records := rs
        signed := bs.take (64 + n), key := slice bs (64 + n) 64, sig := slice bs (64 + n + 64) 64 }

/-- The key hash and the thermometer a kind is checked against (R353, R356). -/
def Fuses.hashFor (f : Fuses) (kind : Nat) : List Byte := if kind == 1 then f.vendorHash else f.ownerHash
def Fuses.thermFor (f : Fuses) (kind : Nat) : Nat := thermOf (if kind == 1 then f.fwTherm else f.cfgTherm)

/-- Whether the device is enrolled. -/
def Fuses.enrolled (f : Fuses) : Bool := f.ownerHash.any (· != 0)

/-- The first of checks 2 to 4 of R354 that a container fails; 0 if it passes. -/
def Container.check (c : Container) (v : Variant) (f : Fuses) : Nat :=
  if !(nbit c.variants v.code) then 2
  else if sha256 c.key != f.hashFor c.kind || !(ecdsaOk c.key c.sig c.signed) then 3
  else if c.rollback < f.thermFor c.kind then 4
  else 0

/-- The start reason of a failed check (R354). -/
def checkReason (kind n : Nat) : Nat :=
  match n with
  | 0 => 0 | 1 => 1 | 2 => if kind == 1 then 1 else 5 | 3 => 2 | _ => 3

/-- The plan conditions of Table 4.2 on the record alone: codes 3, 4, 5 and 9, and 1 for the views in use. -/
def LapPlan.code3 (p : LapPlan) (maxLegs : Nat) : Bool :=
  p.badRes || p.rateN * 1001 < 24000 * p.rateD || 240 * p.rateD < p.rateN || maxLegs < p.legs || p.lineOrder == 3
  || (p.lineOrder == 2 && !(isPow2 p.lines)) || p.tint.any fun m => m.any tintIll
def LapPlan.code4 (p : LapPlan) (rate : Nat) : Bool := rate * p.rateD < p.rateN * p.legs
def LapPlan.code5 (p : LapPlan) : Bool :=
  (List.range p.legs).any fun j =>
    let o := p.winOff.getD j 0
    let l := p.winLen.getD j 0
    p.pNum < (o + l) * p.legDen || p.pNum < (l + 2000) * p.legDen
def LapPlan.code9 (p : LapPlan) : Bool :=
  (List.range p.legs).any fun j => (List.range j).any fun i => p.view i == p.view j

/-- Whether a warm-up plan passes R312 against the tile types with a warm-up grid. -/
def LapPlan.warmOk (p : LapPlan) (types : List TileType) : Bool :=
  p.legs == 1 && p.rateN ≤ 60 * p.rateD && p.num == 0 && !(p.code3 8) && !p.code5 &&
  (types.filter fun t => t.wt != 0).all fun t =>
    let r := typeReasons p t
    !(r.contains 6) && !(r.contains 8)

/-- A DEVICE record (Table 13.6), with whether its fields are in range. -/
def parseDevice (c : Cfg) (ws : List Word) : Cfg × Bool :=
  let w i := wAt ws i
  let kind := wfld (w 0) 31 30
  let id := wfld (w 0) 29 24
  let c := { c with warmKind := kind, warmId := id, initScene := wfld (w 0) 21 16, initPlan := wfld (w 0) 10 8,
                    devNum := wfld (w 0) 3 0, epochSec := (w 1).toNat + wfld (w 2) 15 0 * 2 ^ 32, epochNs := wfld (w 3) 29 0,
                    holdTime := wfld (w 4) 31 22, holdStep := wfld (w 4) 20 16, minWidth := wfld (w 5) 8 4,
                    minSpeed := wfld (w 5) 2 0 }
  let res := wfld (w 0) 23 22 == 0 && wfld (w 0) 15 11 == 0 && wfld (w 0) 7 4 == 0 && wfld (w 2) 31 16 == 0 && wfld (w 3) 31 30 == 0
    && wbit (w 4) 21 == false && wfld (w 4) 15 0 == 0 && wfld (w 5) 31 9 == 0 && wbit (w 5) 3 == false && w 6 == 0 && w 7 == 0
  let warm := match kind with | 0 => id == 0 | 1 => true | 2 => id < 16 | _ => false
  (c, res && warm && c.epochNs < giga && c.holdTime ≤ 600 && c.minWidth ≤ 16 && c.minSpeed ≤ 6)

/-- A VIEW record (Table 13.7). -/
def parseView (ws : List Word) : ViewRec × Bool :=
  let w0 := wAt ws 0
  let w1 := wAt ws 1
  let v : ViewRec := ⟨wfld w0 2 0, wfld w1 15 0, wfld w1 31 16⟩
  (v, wfld w0 31 3 == 0 && 1 ≤ v.h && v.h ≤ 8192 && 1 ≤ v.w && v.w ≤ 16384)

/-- A TILE_TYPE record (Table 13.8). -/
def parseType (ws : List Word) : TileType × Bool :=
  let w i := wAt ws i
  let t : TileType :=
    { id := wfld (w 0) 15 0, lamps := wfld (w 1) 18 0, tb := wfld (w 2) 31 16, minSlot := wfld (w 2) 15 0
      capMax := wfld (w 3) 28 24, detFloor := wfld (w 3) 23 8, pmin := wfld (w 3) 7 0
      lineMask := (w 4).toNat + (w 5).toNat * 2 ^ 32, tknee := sint 16 (wfld (w 6) 31 16), tref := sint 16 (wfld (w 6) 15 0)
      preDark := wfld (w 7) 29 24, warmStep := wfld (w 7) 20 16, slope := wfld (w 7) 15 0
      pre := (List.range 32).map fun i => wfld (w (8 + i / 4)) (8 * (i % 4) + 5) (8 * (i % 4))
      senseK := (List.range 3).map fun i => (w (16 + i)).toNat, senseMin := (List.range 3).map fun i => (w (19 + i)).toNat
      ht := wfld (w 22) 31 16, wt := wfld (w 22) 15 0
      gw := [wfld (w 23) 15 0, wfld (w 23) 31 16, wfld (w 24) 15 0], badRes := false }
  let res := wfld (w 0) 31 16 == 0 && wfld (w 1) 31 19 == 0 && wfld (w 3) 31 29 == 0 && wfld (w 7) 31 30 == 0
    && wfld (w 7) 23 21 == 0 && wfld (w 24) 31 16 == 0
    && (List.range 32).all (fun i => wfld (w (8 + i / 4)) (8 * (i % 4) + 7) (8 * (i % 4) + 6) == 0)
    && (List.range 7).all (fun i => w (25 + i) == 0)
  (t, res && 1 ≤ t.lamps && t.lamps ≤ 262144 && t.tb < t.minSlot && 1 ≤ t.pmin && t.lineMask != 0
    && (t.wt == 0 || 3 * t.wt * t.ht ≤ t.lamps + 2))

/-- A PLACEMENT record (Table 13.9). -/
def parsePlace (ws : List Word) : Placement × Bool :=
  let w i := wAt ws i
  let p : Placement :=
    { typeId := wfld (w 0) 31 16, pos := wfld (w 0) 12 8, port := wfld (w 0) 3 0
      mat := (List.range 4).map fun i => sint 32 (w (1 + i)).toNat, tx := sint 32 (w 5).toNat, ty := sint 32 (w 6).toNat
      wrot := wfld (w 7) 31 30, wx := wfld (w 7) 12 0, wy := wfld (w 7) 28 16
      tileId := (w 8).toNat + (w 9).toNat * 2 ^ 32, words := (List.range 7).map fun i => w (1 + i) }
  (p, wfld (w 0) 15 13 == 0 && wfld (w 0) 7 4 == 0 && wbit (w 7) 29 == false && wfld (w 7) 15 13 == 0
    && p.mat.all (fun a => a.natAbs ≤ 64 * 65536) && p.tx.natAbs ≤ 2 ^ 30 && p.ty.natAbs ≤ 2 ^ 30)

/-- A SCHEDULE entry of 24 bytes (Table 13.11). -/
def parseSched (b : List Byte) : Sched × Bool :=
  let e : Sched :=
    { sec := leAt b 0 6, ns := leAt b 8 4, period := leAt b 12 4, kind := leAt b 16 1, num := leAt b 17 1
      fade := nbit (leAt b 18 1) 1, trans := leAt b 20 2 }
  (e, leAt b 6 2 == 0 && e.ns < giga && (e.period == 0 || (60 ≤ e.period && e.period ≤ 2 ^ 31))
    && ((e.kind == 1 && e.num < 64) || (e.kind == 2 && e.num < 8)) && (leAt b 18 1 == 0 || leAt b 18 1 == 2)
    && leAt b 19 1 == 0 && leAt b 20 2 < 2 ^ 12 && leAt b 22 2 == 0)

/-- A RELAY record (Table 13.10). -/
def parseRelay (ws : List Word) : RelayRec × Bool :=
  let w0 := wAt ws 0
  (⟨wfld w0 31 16, wfld w0 7 4, wbit w0 1, wbit w0 0⟩,
    wfld w0 15 8 == 0 && wfld w0 3 2 == 0 && wAt ws 1 == 0)

/-- Whether a REGS list is well formed (R338). -/
def regsOk : List (Nat × Word) → Bool
  | [] => true
  | (o, _) :: r =>
    (match regFind o with | some x => x.rws != 0 | none => false) && o % 4 == 0 && !(trainOff o) &&
    (match r with | [] => true | (o', _) :: _ => o < o') && regsOk r

/-- The length and the greatest count of a record type (Table 13.5); lengths given as a unit and a greatest number of units. -/
def recShape (t : Nat) : Option (Nat × Nat × Nat × Nat) :=      -- unit, most units, least count, most count
  match t with
  | 0x0001 => some (32, 1, 1, 1) | 0x0002 => some (8, 1, 1, 8) | 0x0003 => some (128, 1, 1, 64) | 0x0004 => some (40, 1, 0, 512)
  | 0x0005 => some (368, 1, 1, 8) | 0x0006 => some (368, 1, 1, 1) | 0x0007 => some (8336, 1, 1, 64) | 0x0008 => some (1056, 1, 0, 64)
  | 0x0009 => some (80, 1, 0, 64) | 0x000A => some (64, 1, 0, 16) | 0x000B => some (68, 1, 0, 32) | 0x000C => some (108, 1, 0, 1)
  | 0x000D => some (192, 1, 0, 4) | 0x000E => some (8, 16384, 0, 1) | 0x000F => some (8, 16, 0, 1) | 0x0010 => some (2048, 1, 0, 1)
  | 0x0011 => some (8, 1, 0, 1) | 0x0012 => some (24, 256, 0, 1)
  | _ => none

/-- Values of the records of one type, in order. -/
def recsOf (rs : List (Nat × List Byte)) (t : Nat) : List (List Byte) := (rs.filter fun r => r.1 == t).map (·.2)

/-- Whether every number of a list is distinct. -/
def distinct : List Nat → Bool
  | [] => true
  | x :: xs => !(xs.contains x) && distinct xs

/-- The shapes and counts of R335, and no unknown type that is not optional. -/
def recsShapeOk (rs : List (Nat × List Byte)) : Bool :=
  (rs.all fun r => match recShape r.1 with
    | some (u, m, _, _) => r.2.length != 0 && r.2.length % u == 0 && r.2.length ≤ u * m
    | none => nbit r.1 15) &&
  (List.range 18).all fun i => match recShape (i + 1) with
    | some (_, _, lo, hi) => let n := (recsOf rs (i + 1)).length; lo ≤ n && n ≤ hi
    | none => true

/-- The optional types that a configuration holds and the device does not know, once each (R335). -/
def unknownTypes (rs : List (Nat × List Byte)) : List Nat :=
  ((rs.map (·.1)).filter fun t => (recShape t).isNone).foldl (fun l t => if l.contains t then l else l ++ [t]) []

/-- Little-endian pairs of words of a record. -/
def pairsOf (b : List Byte) : List (Nat × Word) :=
  (chunks (b.length / 8) 8 b).map fun e => (leAt e 0 4, Word.of (leAt e 4 4))

/-- The order of byte strings used by the pair digest (R407). -/
def bytesLt : List Byte → List Byte → Bool
  | [], [] => false
  | [], _ => true
  | _, [] => false
  | a :: as, b :: bs => if a == b then bytesLt as bs else a.toNat < b.toNat

/-- Insertion into a list sorted by bytes. -/
def insBytes (x : List Byte) : List (List Byte) → List (List Byte)
  | [] => [x]
  | y :: ys => if bytesLt x y then x :: y :: ys else y :: insBytes x ys

/-- The pair digest (R407): SHA-256 over the records of the shared types in ascending type and bytes, each with its header. -/
def pairDigest (rs : List (Nat × List Byte)) : List Byte :=
  let ts := [0x02, 0x03, 0x05, 0x06, 0x07, 0x08, 0x09, 0x0A, 0x0B, 0x0F, 0x10, 0x12]
  let of := fun t => (recsOf rs t).map fun v => leBytes 2 t ++ [0, 0] ++ leBytes 4 v.length ++ v
  sha256 ((ts.map fun t => ((of t).foldr insBytes []).flatten).flatten)

/-- A configuration as its records give it (R335 to R339); none when it is invalid. -/
def Cfg.ofRecords (rs : List (Nat × List Byte)) (hash : List Byte) (version : Nat) : Option Cfg :=
  if !(recsShapeOk rs) then none else
  let one := fun t => (recsOf rs t).head?
  let many := fun t => (recsOf rs t).map toWords
  let (c, devOk) := parseDevice .empty (toWords ((one 1).getD []))
  let views := (many 2).map parseView
  let types := (many 3).map parseType
  let places := (many 4).map parsePlace
  let plans := (many 5).map LapPlan.parse
  let warm := LapPlan.parse (toWords ((one 6).getD []))
  let scenes := (many 7).map fun ws => NumRec.mk (wfld (wAt ws 0) 5 0) ws
  let curves := (many 8).map fun ws => NumRec.mk (wfld (wAt ws 0) 5 0) ws
  let flows := (many 9).map fun ws => NumRec.mk (wfld (wAt ws 0) 5 0) ws
  let surfs := (many 10).map fun ws => NumRec.mk (wfld (wAt ws 0) 3 0) ws
  let keys := (recsOf rs 11).map fun b => (leAt b 0 2, b.drop 4)
  let macs := recsOf rs 13
  let regs := match one 14 with | some b => pairsOf b | none => []
  let excl := match one 15 with
    | some b => (chunks (b.length / 8) 8 b).map fun e => Rect.mk (leAt e 0 2) (leAt e 2 2) (leAt e 4 2) (leAt e 6 2)
    | none => []
  let lut := (one 16).map fun b => (chunks (b.length / 2) 2 b).map leNat
  let relay := (one 17).map fun b => parseRelay (toWords b)
  let sched := match one 18 with | some b => (chunks (b.length / 24) 24 b).map parseSched | none => []
  let tys := types.map (·.1)
  let ok := devOk && views.all (·.2) && types.all (·.2) && places.all (·.2) && sched.all (·.2)
    && (match relay with | some (r, g) => g && r.partner != c.devNum | none => true)
    && places.all (fun p => tys.any fun t => t.id == p.1.typeId)
    && distinct (views.map (·.1.view)) && distinct (tys.map (·.id)) && distinct (plans.map (·.num))
    && distinct (scenes.map (·.num)) && distinct (curves.map (·.num)) && distinct (flows.map (·.num))
    && distinct (surfs.map (·.num)) && distinct (keys.map (·.1)) && distinct (macs.map fun b => leAt b 0 1)
    && distinct (places.map fun p => 32 * p.1.port + p.1.pos)
    && (recsOf rs 11).all (fun b => leAt b 2 2 == 0) && regsOk regs && warm.warmOk tys
  if !ok then none else
  some { c with loaded := true, views := views.map (·.1), types := tys, places := places.map (·.1), plans := plans, warm := warm,
                scenes := scenes, curves := curves, flows := flows, surfs := surfs, tileKeys := keys, cueKey := one 12,
                macsec := macs, regs := regs, exclude := excl, warmLut := lut, relay := relay.map (·.1),
                sched := sched.map (·.1), hash := hash, version := version }

/-- The slate of an owner data container (R340). -/
def slateOf (c : Container) : Option WarmBuf :=
  match (recsOf c.records 0x0101) with
  | [b] =>
    let w := leAt b 0 2
    let h := leAt b 2 2
    if 1 ≤ w && w ≤ 4096 && 1 ≤ h && h ≤ 2160 && b.length == 4 + 4 * w * h then
      some ⟨true, w, h, (chunks h (4 * w) (b.drop 4)).map fun row =>
        (chunks w 4 row).flatMap fun px => let n := leNat px; [nfld n 9 0, nfld n 19 10, nfld n 29 20]⟩
    else none
  | _ => none

/-- A header copy of 64 bytes (Table 13.2). -/
def NvmHeader.bytes (h : NvmHeader) : List Byte :=
  let st := (List.range 5).foldl (fun n i => n + at_ (h.areas.getD i 0) (2 * i)) 0
  let b := [0x48, 0x58, 0x48, 0x44, 1, byte (h.actFw + 2 * h.actCfg + 4 * b2n h.trialFw + 8 * b2n h.trialCfg)]
    ++ leBytes 2 st ++ leBytes 4 h.hseq ++ List.replicate 48 0
  b ++ leBytes 4 (crc32 b).toNat

/-- The header a valid copy holds (R330). -/
def NvmHeader.parse (b : List Byte) : Option NvmHeader :=
  let seq := leAt b 8 4
  if slice b 0 4 != [0x48, 0x58, 0x48, 0x44] || leAt b 4 1 != 1 || leAt b 60 4 != (crc32 (b.take 60)).toNat || seq == 0xFFFFFFFF
  then none
  else
    let f := leAt b 5 1
    let st := leAt b 6 2
    some { hseq := seq, actFw := b2n (nbit f 0), actCfg := b2n (nbit f 1), trialFw := nbit f 2, trialCfg := nbit f 3
           areas := (List.range 5).map fun i => nfld st (2 * i + 1) (2 * i) }

/-- The header of a flash with no valid copy: HSEQ 0, slot A active, every area IMAGE (R330). -/
def NvmHeader.blank : NvmHeader := ⟨0, 0, 0, false, false, [0, 0, 0, 0, 0]⟩

/-- Adjacent repeats dropped. -/
def dedupAdj : List Nat → List Nat
  | [] => []
  | x :: xs => match dedupAdj xs with
    | [] => [x]
    | y :: ys => if x == y then y :: ys else x :: y :: ys

/-- The 64-byte slots of a sector that are not erased, ascending. -/
def slotsIn (m : List (Nat × Byte)) (a : Nat) : List (Nat × List Byte) :=
  let idx := (m.filter fun e => a ≤ e.1 && e.1 < a + sector).map fun e => (e.1 - a) / 64
  (dedupAdj idx).map fun i => (i, flashRead m (a + 64 * i) 64)

/-- Consistency of a sector (R349): valid slots, at most one torn slot, then erased slots only. -/
def sectorOk (valid : List Byte → Bool) (l : List (Nat × List Byte)) : Bool :=
  l.map (·.1) == List.range l.length && (l.dropLast.all fun x => valid x.2)

/-- The first slot after those in use. -/
def nextSlot (l : List (Nat × List Byte)) : Nat := match l.getLast? with | some x => x.1 + 1 | none => 0

/-- Bytes of a journal record with its SEQ and OVERWRITES (Table 13.13). -/
def JRec.bytes (r : JRec) (seq ovr : Nat) : List Byte :=
  let b := leBytes 4 seq ++ [byte r.kind, byte r.sev] ++ leBytes 2 r.code ++ leBytes 6 r.sec
    ++ leBytes 4 (r.ns + at_ (b2n r.valid) 31) ++ [0, 0] ++ leBytes 4 ovr ++ leBytes 4 r.legSeq ++ slice r.data 0 32
  b ++ leBytes 4 (crc32 b).toNat

/-- Whether a 64-byte slot holds a valid journal record (R345). -/
def jrecValid (b : List Byte) : Bool := leAt b 60 4 == (crc32 (b.take 60)).toNat && leAt b 0 4 != 0xFFFFFFFF

end Sys2Proof.Machine
end

