-- ==== Sys2Proof/Machine/Nvm.lean ====
section
/-! DEFINITION. The NVM in operation (13_configuration_image.md): header writes, the journal ring, re-erasure, the completion of an
operation, and what a shutdown leaves of one (R331, R345 to R349); with the commands of the family. -/

namespace Sys2Proof.Machine

/-- A HEADER record's DATA: new header bytes 5 to 11 (Table 13.14). -/
def hdrData (h : NvmHeader) : List Byte := slice h.bytes 5 7

/-- CODE of a HEADER record for a write Table 13.14 does not number: 0 an area set to ERASING, 1 an area set to EMPTY. -/
def hdrCode (k : Nat) : Nat := (Config.code 0x0D06 k).toNat % 65536

/-- The record and event of a re-erase (R349): region 0 header, 1 journal, 2 image area. -/
def State.reErased (s : State) (region n : Nat) : State :=
  (s.ev Ev.nvmReerased [region, n]).journal 7 region (leBytes 4 n)

/-- The sector other than the one that holds the header in force. -/
def Nvm.otherHdr (n : Nvm) : Nat := 1 - n.hdrSect

/-- Whether a sector holds nothing. -/
def Nvm.blankAt (n : Nvm) (a : Nat) : Bool := !(n.flash.any fun e => a ≤ e.1 && e.1 < a + sector)

/-- Whether a header write would need an erase (R342). -/
def Nvm.hdrNeedsErase (n : Nvm) : Bool := 1024 ≤ n.hdrSlot && !(n.blankAt (hdrAddr n.otherHdr))

/-- The other header sector taken into use when the present one is full, erased first if it is not blank (R331, R349). -/
def State.hdrRoom (s : State) : State :=
  let n := s.nvm
  if n.hdrSlot < 1024 then s else
  let o := n.otherHdr
  let s := { s with nvm := { n with hdrSect := o, hdrSlot := 0 } }
  if n.blankAt (hdrAddr o) || n.jobs.contains (.reHeader o) then s else s.nvmJob (.reHeader o)

/-- A start is in progress: SB0 to SB4. -/
def State.starting (s : State) : Bool := s.boot.stage ≤ 4 && !s.boot.held

/-- Once the sector in use holds 960 copies the other is erased, at a time when no start is in progress (R331). -/
def State.hdrTidy (s : State) : State :=
  let n := s.nvm
  if 960 ≤ n.hdrSlot && !s.starting && !(n.blankAt (hdrAddr n.otherHdr)) && !(n.jobs.contains (.reHeader n.otherHdr)) then
    s.nvmJob (.reHeader n.otherHdr)
  else s

/-- A header write with HSEQ raised by one: its program is queued, and it is journalled (R331, Table 13.14). -/
def State.putHeader (s : State) (h : NvmHeader) (code : Nat) : State :=
  let s := s.hdrRoom
  let n := s.nvm
  let h := { h with hseq := n.hdr.hseq + 1 }
  let s := { s with nvm := { n with hdr := h, hdrSlot := n.hdrSlot + 1 } }.nvmJob (.header (hdrAddr n.hdrSect + 64 * n.hdrSlot) h)
  (s.journal 5 code (hdrData h)).hdrTidy

/-- The state of an area in a header. -/
def NvmHeader.area (h : NvmHeader) (a : Nat) : Nat := h.areas.getD a 3
def NvmHeader.setArea (h : NvmHeader) (a st : Nat) : NvmHeader := { h with areas := setAt h.areas a st }

/-- The active slot of a kind, 1 firmware, 2 configuration. -/
def NvmHeader.active (h : NvmHeader) (kind : Nat) : Nat := if kind == 1 then h.actFw else h.actCfg
def NvmHeader.setActive (h : NvmHeader) (kind slot : Nat) : NvmHeader :=
  if kind == 1 then { h with actFw := slot } else { h with actCfg := slot }
def NvmHeader.trial (h : NvmHeader) (kind : Nat) : Bool := if kind == 1 then h.trialFw else h.trialCfg
def NvmHeader.setTrial (h : NvmHeader) (kind : Nat) (b : Bool) : NvmHeader :=
  if kind == 1 then { h with trialFw := b } else { h with trialCfg := b }

/-- The area of a kind and slot. -/
def areaOf (kind slot : Nat) : Nat := if kind == 1 then slot else if kind == 2 then 2 + slot else 4

/-- What SB1 finds in the header sectors and the journal (R330, R345, R349). -/
def Nvm.scan (n : Nvm) : Nvm :=
  let hs := [0, 1].map fun i => slotsIn n.flash (hdrAddr i)
  let copies := (hs.zip [0, 1]).flatMap fun x => x.1.filterMap fun c => (NvmHeader.parse c.2).map fun h => (h, x.2)
  let best := copies.foldl (fun b c => match b with
    | none => some c
    | some d => if d.1.hseq < c.1.hseq then some c else some d) none
  let (hdr, sect) := best.getD (.blank, 0)
  let bad := [0, 1].filter fun i => !(sectorOk (fun b => (NvmHeader.parse b).isSome) (hs.getD i []))
  let js := (List.range 18).map fun i => slotsIn n.flash (jAddr i)
  let recs := (js.zip (List.range 18)).flatMap fun x => (x.1.filter fun c => jrecValid c.2).map fun c => (leAt c.2 0 4, x.2, c.2)
  let top := recs.foldl (fun b c => match b with
    | none => some c
    | some d => if d.1 < c.1 then some c else some d) none
  let badJ := (List.range 18).filter fun i => !(sectorOk jrecValid (js.getD i []))
  let sect0 := match top with | some t => t.2.1 | none => 0
  let nxt := match top with | some t => (if t.1 + 1 == 0xFFFFFFFF then 0 else t.1 + 1) | none => 0
  let after := (sect0 + 1) % 18
  { n with hdr := hdr, hdrShown := hdr, hdrSect := sect, hdrSlot := nextSlot (hs.getD sect []), badHdr := bad, badJ := badJ
           jNext := nxt, jSect := sect0, jSlot := nextSlot (js.getD sect0 [])
           ovr := match top with | some t => leAt t.2.2 20 4 | none => 0
           jErased := match js.getD after [] with
             | [(0, b)] => jrecValid b && leAt b 4 1 == 0 && 960 ≤ nextSlot (js.getD sect0 [])
             | _ => false }

/-- The SEQ after one. -/
def nextSeq (n : Nat) : Nat := if n + 1 == 0xFFFFFFFF then 0 else n + 1

/-- The pre-erase of the next sector queued once a sector holds 960 records (R346). -/
def State.jTidy (s : State) : State :=
  let n := s.nvm
  let nx := (n.jSect + 1) % 18
  if 960 ≤ n.jSlot && !n.jErased && !(n.jobs.contains (.jerase nx)) && !(n.badJ.contains nx) then
    { s with nvm := { n with jobs := n.jobs ++ [.jerase nx] } }
  else s

/-- The ring moved to its next sector when the present one is full and the next is ready. -/
def Nvm.jTurn (n : Nvm) : Nvm :=
  if 1024 ≤ n.jSlot && n.jErased then { n with jSect := (n.jSect + 1) % 18, jSlot := 1, jErased := false } else n

/-- The MACsec state of a port. -/
def Sec.mac (c : Sec) (e : Nat) : Macsec := c.macsec.getD e .reset
def State.modMac (s : State) (e : Nat) (f : Macsec → Macsec) : State :=
  { s with sec := { s.sec with macsec := modAt s.sec.macsec e f } }

/-- What the writing of a MACSEC_PN_BLOCK record gives its port (R365): its SEQ is a block of packet numbers. -/
def State.pnBlock (s : State) (r : JRec) (seq : Nat) : State :=
  if r.kind == 3 && r.code == Fk.macsecPnBlock then
    let e := leAt r.data 4 4
    { s with sec := { s.sec with macsec := modAt s.sec.macsec e fun m =>
      match m.block with
      | none => { m with block := some seq, asked := false, pn := 1 }
      | some _ => { m with next := some seq, asked := false } } }
  else s

/-- A journal record programmed (R345). A SECTOR record takes slot 0 of an unused sector or of the pre-erased next one. -/
def State.recordDone (s : State) (r : JRec) : State :=
  let n := s.nvm
  let b := r.bytes n.jNext n.ovr
  if r.kind == 0 then
    if n.jSlot == 0 then
      { s with nvm := { n with flash := flashWrite n.flash (jAddr n.jSect) b, jNext := nextSeq n.jNext, jSlot := 1 } }
    else
      { s with nvm := { n with flash := flashWrite n.flash (jAddr ((n.jSect + 1) % 18)) b, jNext := nextSeq n.jNext,
                               jErased := true }.jTurn }
  else
    let s := { s with nvm := { n with flash := flashWrite n.flash (jAddr n.jSect + 64 * n.jSlot) b, jNext := nextSeq n.jNext,
                                      jSlot := n.jSlot + 1, jq := n.jq.drop 1 }.jTurn }
    (s.pnBlock r n.jNext).jTidy

/-- Valid records of a journal sector. -/
def Nvm.validIn (n : Nvm) (sect : Nat) : Nat := ((slotsIn n.flash (jAddr sect)).filter fun x => jrecValid x.2).length

/-- A journal sector erased. -/
def Nvm.jWipe (n : Nvm) (sect : Nat) : Nvm :=
  { n with flash := flashErase n.flash (jAddr sect) sector, ovr := n.ovr + n.validIn sect, badJ := n.badJ.filter (· != sect) }

/-- The area a kind is staged into: the inactive one, or the owner data area. -/
def State.stageArea (s : State) : Nat :=
  let k := s.host.stage.kind
  if k == 3 then 4 else areaOf k (1 - s.nvm.hdr.active k)

/-- A header copy programmed: it is in force, and staging whose STAGED header it is has ended (R331, R341). -/
def State.headerDone (s : State) (a : Nat) (h : NvmHeader) : State :=
  let s := { s with nvm := { s.nvm with flash := flashWrite s.nvm.flash a h.bytes, hdrShown := h } }
  if s.host.stage.mark && h.area s.stageArea == 2 then s.stageEnd 0 else s

/-- An operation completed well (R346, R347, R349). -/
def State.jobDone (s : State) (j : NvmJob) : State :=
  match j with
  | .record r => s.recordDone r
  | .jerase k => { s with nvm := (s.nvm.jWipe k) }.nvmJob (.record (s.sectorRec k))
  | .reJournal k => { s with nvm := s.nvm.jWipe k }.reErased 1 k
  | .reHeader k =>
    let bad := s.nvm.badHdr.contains k
    let s := { s with nvm := { s.nvm with flash := flashErase s.nvm.flash (hdrAddr k) sector,
                                          badHdr := s.nvm.badHdr.filter (· != k) } }
    if bad then s.reErased 0 k else s
  | .reArea a =>
    let s := { s with nvm := { s.nvm with flash := flashErase s.nvm.flash (areaAddr a) (areaBytes s.nvm.size a), reerase := false } }
    ((s.putHeader (s.nvm.hdr.setArea a 3) (hdrCode 1)).reErased 2 a)
  | .slate k => if 1 < k then s.nvmJob (.slate (k - 1)) else s
  | .header a h => s.headerDone a h
  | _ => s

/-- An operation abandoned after its second failure (R347): the journal loses the record and moves to the next sector. -/
def State.jobLost (s : State) (j : NvmJob) : State :=
  let s := match j with
    | .record r =>
      let s := if r.kind == 3 && r.code == Fk.macsecPnBlock then s.modMac (leAt r.data 4 4) fun m => { m with asked := false } else s
      let n := s.nvm
      if r.kind == 0 then { s with nvm := { n with jErased := false } }
      else ({ s with nvm := { n with jq := n.jq.drop 1, jSlot := 1024 }.jTurn }).jTidy
    | .header _ _ => if s.host.stage.mark then s.stageEnd 7 else s
    | _ => s
  s.fault Fk.nvmWriteFailed fsNvm []

/-- Bytes that a program or an erase cut short leaves: not every bit has been brought to its value. -/
def tornByte (k i : Nat) (b : Byte) : Byte := b ||| (Config.freeWord (k + i)).setWidth 8

/-- What the operation in flight leaves when it is cut off (R348): a torn record, or a sector half erased. -/
def State.cutOp (s : State) : State :=
  match s.nvm.op with
  | none => s
  | some o =>
    let n := s.nvm
    let torn := fun (a : Nat) (bs : List Byte) =>
      let bs := (List.range bs.length).zipWith (fun i b => tornByte s.free i b) bs
      { s with nvm := { n with op := none, flash := flashWrite n.flash a bs }, free := s.free + bs.length }
    let half := fun (a len : Nat) =>
      let bs := (List.range len).map fun i => (Config.freeWord (s.free + i)).setWidth 8
      { s with nvm := { n with op := none, flash := flashWrite (flashErase n.flash a len) a bs }, free := s.free + len }
    match o.job with
    | .record r =>
      if r.kind == 0 then torn (jAddr (if n.jSlot == 0 then n.jSect else (n.jSect + 1) % 18)) (r.bytes n.jNext n.ovr)
      else torn (jAddr n.jSect + 64 * n.jSlot) (r.bytes n.jNext n.ovr)
    | .jerase k => half (jAddr k) sector
    | .reJournal k => half (jAddr k) sector
    | .reHeader k => half (hdrAddr k) sector
    | .reArea _ => { s with nvm := { n with op := none } }
    | .header a h => torn a h.bytes
    | .stErase a _ => half a sector
    | .stProg a b => torn a (b.take 256)
    | _ => { s with nvm := { n with op := none } }

/-- VIO_OUT let go once no operation needs it, on a device that is shut down or held in reset (R348, R468). -/
def State.vioRelease (s : State) : State :=
  if s.nvm.frozen && s.nvm.op.isNone && (s.flt.shutDone || !s.boot.running) then
    { s with pwr := { s.pwr with vioHold := false, vio := false } }
  else s

/-- Whether a port runs MACsec (R201). -/
def State.macsecOn (s : State) (e : Nat) : Bool := s.variant.macsec && wbit (s.rws (Reg.ethCfg e)) 29

/-- The half of a block of packet numbers (R365). -/
def pnHalf : Nat := 2 ^ 31

/-- Whether a MACsec port needs a reservation that is not under way (R365). -/
def State.pnWanted (s : State) (e : Nat) : Bool :=
  let m := s.sec.mac e
  s.macsecOn e && m.recd.isSome && !m.asked && (m.block.isNone || (m.next.isNone && pnHalf < m.pn))

/-- A block of packet numbers reserved: the S0 fault MACSEC_PN_BLOCK, whose journal record is the reservation (R365). One that
found the journal queue full is asked for again. -/
def State.pnReserve (s : State) (e : Nat) : State :=
  if !(s.pnWanted e) then s else
  let room := s.nvm.jq.length < 64 && !s.nvm.frozen
  (s.modMac e fun m => { m with asked := room }).fault Fk.macsecPnBlock (srcSub (2 * e)) [e]

/-- Every reservation that is due. -/
def State.pnReserveAll (s : State) : State := [0, 1, 2, 3].foldl State.pnReserve s

/-- NVM_OP_DONE (R347): a read, program or erase completes, `ok` saying what the flash reports; the next queued operation
starts. A journal read completes by JOURNAL_READ_DONE, and staging's operations by their own commands. An erase that a shutdown or RESTART has suspended ends here (R348). -/
def execNvmOpDone (ok : Bool) (s : State) : Host.Outcome State Fault Refusal :=
  match s.nvm.op with
  | none => .next s
  | some o =>
    match o.job with
    | .jread _ => .next s
    | j =>
      if s.nvm.frozen && j.op == 3 then .next s.cutOp.vioRelease
      else if j.staging then .next s
      else if ok || j.op == 1 then .next (({ s with nvm := { s.nvm with op := none } }.jobDone j).nvmKick.pnReserveAll.vioRelease)
      else
        let s := s.bump Reg.nvmErrors
        if s.nvm.frozen then .next { s with nvm := { s.nvm with op := none } }.vioRelease
        else if !o.retry then .next { s with nvm := { s.nvm with op := some ⟨j, true⟩ } }
        else .next (({ s with nvm := { s.nvm with op := none } }.jobLost j).nvmKick)

/-- NVM_GRACE_TIMEOUT (R348): 5 ms after a shutdown or a RESTART the operation in flight is given up, and VIO_OUT is let go if
nothing else holds it. -/
def execNvmGraceTimeout (s : State) : Host.Outcome State Fault Refusal :=
  if !s.nvm.frozen || !(s.past s.nvm.freezeTick (5 * msT)) then .next s else
  .next s.cutOp.vioRelease

/-- A write to JOURNAL_READ (R350): VALID and NOT_FOUND are cleared and the read is queued. -/
def State.writeJournalRead (s : State) (value : Word) : State :=
  let n := s.nvm
  let jobs := n.jobs.filter fun j => match j with | .jread _ => false | _ => true
  let s := (s.setRw Reg.journalRead value)
  let s := { s with nvm := { n with rdSeq := value.toNat, rdValid := false, rdMissing := false, rdBusy := n.present && !n.frozen,
                                    jobs := jobs } }
  if n.present && !n.frozen then s.nvmJob (.jread value.toNat)
  else { s with nvm := { s.nvm with rdMissing := true } }

def execJournalRead (value : Word) (s : State) : Host.Outcome State Fault Refusal := .next (s.writeJournalRead value)

/-- The record of a SEQ in the journal. -/
def Nvm.findRec (n : Nvm) (seq : Nat) : Option (List Byte) :=
  (((List.range 18).flatMap fun i => slotsIn n.flash (jAddr i)).find? fun x => jrecValid x.2 && leAt x.2 0 4 == seq).map (·.2)

/-- JOURNAL_READ_DONE (R350): JOURNAL_DATA holds the record, or NOT_FOUND is set. -/
def execJournalReadDone (s : State) : Host.Outcome State Fault Refusal :=
  match s.nvm.op with
  | some ⟨.jread q, _⟩ =>
    let n := { s.nvm with op := none }
    let n := if n.rdSeq != q || !n.rdBusy then n else
      match n.findRec q with
      | some b => { n with rdValid := true, rdBusy := false, rdData := toWords b }
      | none => { n with rdMissing := true, rdBusy := false, rdData := List.replicate 16 0 }
    .next { s with nvm := n }.nvmKick
  | _ => .next s

/-- The bytes of the header in force that NVM_HEADER shows. -/
def NvmHeader.show (h : NvmHeader) : Nat :=
  at_ ((List.range 5).foldl (fun n i => n + at_ (h.area i) (2 * i)) 0) 10 + h.actFw + 2 * h.actCfg + 4 * b2n h.trialFw + 8 * b2n h.trialCfg

/-- OP of NVM_STATUS. -/
def State.nvmOpCode (s : State) : Nat :=
  if s.nvm.suspended then 4 else
  match s.nvm.op with
  | some o => o.job.op
  | none => 0

/-- The NVM's registers. -/
def State.readNvm (s : State) (off : Nat) : Option Word :=
  let n := s.nvm
  if off == Reg.nvmInfo then some (Word.of (at_ n.devId 16 + at_ n.manuf 8 + n.size))
  else if off == Reg.nvmHeader then some (Word.of n.hdrShown.show)
  else if off == Reg.nvmHseq then some (Word.of n.hdrShown.hseq)
  else if off == Reg.fwVersion then some (Word.of n.fwVer)
  else if off == Reg.cfgVersion then some (Word.of n.cfgVer)
  else if off == Reg.nvmStatus then some (Word.of (at_ n.jq.length 8 + at_ (b2n (n.reerase || !n.badJ.isEmpty)) 4 + s.nvmOpCode))
  else if off == Reg.journalNext then some (Word.of n.jNext)
  else if off == Reg.journalOverwrites then some (Word.of n.ovr)
  else if off == Reg.journalReadStatus then
    some (Word.of (at_ (b2n n.rdMissing) 2 + at_ (b2n n.rdBusy) 1 + b2n n.rdValid))
  else if Reg.journalData 0 ≤ off && off ≤ Reg.journalData 15 then
    some (if n.rdValid then n.rdData.getD ((off - Reg.journalData 0) / 4) 0 else 0)
  else none

end Sys2Proof.Machine
end

