-- ==== Sys2Proof/Machine/Staging.lean ====
section
/-! DEFINITION. Staging of NVM images (09_host_port.md R258, R259; 13_configuration_image.md R341), with the commands of the family. -/

namespace Sys2Proof.Machine

/-- The staging changed. -/
def State.modStage (s : State) (f : Stage → Stage) : State := { s with host := { s.host with stage := f s.host.stage } }

/-- The list's address and entry count. -/
def State.stageList (s : State) : Nat := s.addr64 Reg.stageListLo Reg.stageListHi
def State.stageCount (s : State) : Nat := wfld (s.rw Reg.stageEntries) 16 0

/-- GO of STAGE_CTRL (R258): staging starts while attached and idle; while it runs a GO is ignored and counted (R259). HBM that a start has
not trained yet is no loss of it (R341). -/
def State.stageGo (s : State) : State :=
  if s.host.stage.runs then s.bump Reg.hostBadAccess
  else if !s.host.attached then s
  else
    let s := s.modStage fun _ => { Stage.reset with state := 1 }
    if !s.mem.ok && !s.starting then s.stageEnd 11
    else if s.stageCount < 1 || 65536 < s.stageCount then s.stageEnd 2
    else s.readHostMem s.stageList (16 * s.stageCount)

/-- Whether a page or a sector of staging is being written, or its STAGED header. -/
def State.stageWriting (s : State) : Bool :=
  s.host.stage.mark || (match s.nvm.op with | some ⟨.stErase _ _, _⟩ => true | some ⟨.stProg _ _, _⟩ => true | _ => false)

/-- ABORT of STAGE_CTRL (R259): at once where no page or sector is being written, else at its end. -/
def State.stageAbort (s : State) : State :=
  if !s.host.stage.runs then s
  else if s.stageWriting then s.modStage fun st => { st with abort := true }
  else s.stageEnd 9

/-- A write to STAGE_CTRL. -/
def State.writeStageCtrl (s : State) (value : Word) : State :=
  let s := if wbit value 1 then s.stageAbort else s
  if wbit value 0 then s.stageGo else s

def execStageGo (value : Word) (s : State) : Host.Outcome State Fault Refusal := .next (s.writeStageCtrl (wput value 0 0 1))

def execStageAbort (value : Word) (s : State) : Host.Outcome State Fault Refusal := .next (s.writeStageCtrl (wput value 1 1 1))

/-- Whether a staging list is well formed: addresses and lengths in units of 4096 bytes, but for the last length (R258). -/
def stageListOk : List (Nat × Nat) → Bool
  | [] => true
  | [(a, _)] => a % 4096 == 0
  | (a, l) :: r => a % 4096 == 0 && l % 4096 == 0 && stageListOk r

/-- The greatest container of a kind (R333). -/
def State.slotSize (s : State) (kind : Nat) : Nat := areaBytes s.nvm.size (if kind == 3 then 4 else 0)

/-- The bytes of a staging list's entries. -/
def listBytes (l : List (Nat × Nat)) : Nat := (l.map (·.2)).foldl (· + ·) 0

/-- The image's bytes that have come, in order; with the last of them checking begins (R258). -/
def State.stageBytes (s : State) (data : List Byte) : State :=
  let st := s.host.stage
  let got := st.image ++ data
  if listBytes (st.list.take st.pos) < got.length then s.stageEnd 3
  else if s.slotSize (leAt got 5 1) < listBytes st.list && 6 ≤ got.length then s.stageEnd 2
  else if got.length < listBytes st.list then s.modStage fun st => { st with image := got, kib := got.length / 1024 }
  else s.modStage fun st => { st with state := 2, kib := 0, image := got, pos := 0 }

/-- STAGE_PULL_DONE (R258): a read of staging has completed, or failed: first that of the list, with its entries, then those of the image,
with the bytes that have come. -/
def execStagePullDone (entries : List (Nat × Nat)) (data : List Byte) (fail : Bool) (s : State) :
    Host.Outcome State Fault Refusal :=
  if s.host.stage.state != 1 || !s.host.attached then .next s
  else if fail then .next (s.stageEnd 3)
  else if s.host.stage.list.isEmpty then
    if !(stageListOk entries) || entries.length != s.stageCount || listBytes entries == 0 ||
        max (s.slotSize 1) (s.slotSize 3) < listBytes entries then .next (s.stageEnd 2)
    else .next (s.modStage fun st => { st with list := entries })
  else .next (s.stageBytes data)

/-- Whether TRIAL of the staged kind holds staging in CHECKING (R341). -/
def State.stageHeld (s : State) : Bool := s.host.stage.kind != 3 && s.nvm.hdr.trial s.host.stage.kind

/-- Erasing begins, with the header that says so (R341). -/
def State.stageErase (s : State) : State :=
  let s := s.modStage fun st => { st with state := 3, kib := 0, pos := 0, wait := false }
  let s := s.putHeader (s.nvm.hdr.setArea s.stageArea 1) (hdrCode 0)
  s.nvmJob (.stErase (areaAddr s.stageArea) (ceilDiv s.host.stage.image.length sector))

/-- The first failed check of a staged image (R354): 0 if it passes. -/
def State.stageCheck (s : State) : Nat :=
  let b := s.host.stage.image
  let k := leAt b 5 1
  if s.sec.err then 3
  else if k < 1 || 3 < k then 1
  else match Container.parse k (s.slotSize k) b with
    | none => 1
    | some c => c.check s.variant s.fuses

/-- The staging code of a failed check (R354). -/
def stageCode (n : Nat) : Nat := match n with | 3 => 5 | 4 => 6 | _ => 4

/-- STAGE_CHECK_DONE (R258, R341, R354): the checks fail it, hold it for TRIAL, or erasing begins. The image is the container. -/
def execStageCheckDone (s : State) : Host.Outcome State Fault Refusal :=
  if s.host.stage.state != 2 || s.host.stage.wait then .next s else
  let n := s.stageCheck
  let b := s.host.stage.image
  let s := s.modStage fun st => { st with kind := leAt b 5 1, version := leAt b 12 4 }
  if n != 0 then .next (s.stageEnd (stageCode n))
  else
    let c := b.take (containerLen b)
    let s := s.modStage fun st => { st with image := c, sealHash := sha256 c, wait := s.stageHeld }
    if s.stageHeld then .next s else .next s.stageErase

/-- STAGE_ERASE_RESUME (R341): TRIAL of the kind has cleared. -/
def execStageEraseResume (s : State) : Host.Outcome State Fault Refusal :=
  if s.host.stage.state == 2 && s.host.stage.wait && !s.stageHeld then .next s.stageErase else .next s

/-- An erase or program of staging that the flash reports as failed (R347): tried once more, then abandoned with code 7. -/
def State.stageFlashFail (s : State) (o : NvmOp) : State :=
  let s := s.bump Reg.nvmErrors
  if o.retry then ({ s with nvm := { s.nvm with op := none } }.stageEnd 7).fault Fk.nvmWriteFailed fsNvm [] |>.nvmKick
  else { s with nvm := { s.nvm with op := some ⟨o.job, true⟩ } }

/-- Staging at a page or sector boundary, `a` bytes done of the stage (R259): an ABORT ends it, else its next operation is queued behind those
that go first (R347). -/
def State.stageGoOn (s : State) (j : NvmJob) : State := if s.host.stage.abort then s.stageEnd 9 else s.nvmJob j

/-- STAGE_ERASE_DONE (R258, R341): the next sectors that the container occupies are erased; after the last, programming begins. -/
def execStageEraseDone (run : FlashRun) (s : State) : Host.Outcome State Fault Refusal :=
  match s.nvm.op with
  | some ⟨.stErase a left, retry⟩ =>
    if s.nvm.frozen then .next s.cutOp.vioRelease
    else if !run.ok then .next (s.stageFlashFail ⟨.stErase a left, retry⟩)
    else
      let n := min left (max 1 run.n)
      let s := { s with nvm := { s.nvm with op := none, flash := flashErase s.nvm.flash a (n * sector) } }
      if left ≤ n then
        let s := s.modStage fun st => { st with state := 4, kib := 0, pos := 0 }
        .next (s.stageGoOn (.stProg (areaAddr s.stageArea) s.host.stage.image)).nvmKick
      else
        let s := s.modStage fun st => { st with pos := st.pos + n, kib := 64 * (st.pos + n) }
        .next (s.stageGoOn (.stErase (a + n * sector) (left - n))).nvmKick
  | _ => .next s

/-- STAGE_PROGRAM_DONE (R258): the next pages of the image are programmed; after the last, the read-back begins. After a shutdown only the
page in flight finishes (R348). -/
def execStageProgramDone (run : FlashRun) (s : State) : Host.Outcome State Fault Refusal :=
  match s.nvm.op with
  | some ⟨.stProg a b, retry⟩ =>
    if !run.ok && !s.nvm.frozen then .next (s.stageFlashFail ⟨.stProg a b, retry⟩)
    else
      let n := 256 * if s.nvm.frozen then b2n run.ok else max 1 run.n
      let s := { s with nvm := { s.nvm with op := none, flash := flashWrite s.nvm.flash a (b.take n) } }
      if s.nvm.frozen then .next s.vioRelease
      else if b.length ≤ n then
        .next ((s.modStage fun st => { st with state := 5, kib := 0, pos := 0 }).stageGoOn .stRead).nvmKick
      else
        let s := s.modStage fun st => { st with pos := st.pos + n / 256, kib := (st.pos + n / 256) / 4 }
        .next (s.stageGoOn (.stProg (a + n) (b.drop n))).nvmKick
  | _ => .next s

/-- STAGE_VERIFY_DONE (R258, R341): the read-back is compared, and on a match the STAGED header is written; with it staging ends DONE. -/
def execStageVerifyDone (s : State) : Host.Outcome State Fault Refusal :=
  match s.nvm.op with
  | some ⟨.stRead, _⟩ =>
    let s := { s with nvm := { s.nvm with op := none } }
    let st := s.host.stage
    let back := flashRead s.nvm.flash (areaAddr s.stageArea) st.image.length
    if s.nvm.frozen then .next s.vioRelease
    else if sha256 back != st.sealHash then .next (s.stageEnd 8).nvmKick
    else
      let s := s.modStage fun st => { st with kib := st.image.length / 1024, mark := true }
      .next (s.putHeader (s.nvm.hdr.setArea s.stageArea 2) 1).nvmKick
  | _ => .next s

/-- Staging's registers. -/
def State.readStaging (s : State) (off : Nat) : Option Word :=
  if off == Reg.stageStatus then some (Word.of (at_ s.host.stage.code 8 + s.host.stage.state))
  else if off == Reg.stageProgress then some (Word.of s.host.stage.kib)
  else none

end Sys2Proof.Machine
end

