-- ==== Sys2Proof/Machine/Security.lean ====
section
/-! DEFINITION. Security functions (14_security.md): identity and wrapped keys, enrolment, attestation, debug tokens, the self-test
of the entropy source and zeroisation (R351 to R371), with the commands of the family. -/

namespace Sys2Proof.Machine

/-- "HX7I" and "HX7W". -/
def tagI : List Byte := [0x48, 0x58, 0x37, 0x49]
def tagW : List Byte := [0x48, 0x58, 0x37, 0x57]

/-- The identity private key (R360). -/
def identityKey (seed : List Byte) : Nat :=
  beNat (sha256 ([0, 0, 0, 1] ++ seed ++ tagI)) % (p256N - 1) + 1

/-- DEVICE_CERT is well formed, names the device and holds the identity's public key (R360, Table 14.3). The vendor's signature
over it is judged by the self-test itself. -/
def certOk (f : Fuses) : Bool :=
  slice f.cert 0 4 == [0x48, 0x58, 0x49, 0x44] && leAt f.cert 4 1 == 1 && leAt f.cert 8 8 == f.uid
  && slice f.cert 16 64 == pubOf (identityKey f.seed)

/-- The key-encryption key of a wrapped key (R362). -/
def kekOf (z : List Byte) (purpose uid : Nat) : List Byte :=
  sha256 ([0, 0, 0, 1] ++ z ++ tagW ++ [byte purpose] ++ leBytes 8 uid)

/-- A wrapped key opened (R362): none when a point check or the integrity check fails. -/
def openKey (d : Option Nat) (uid purpose : Nat) (e wrap : List Byte) : Option (List Byte) :=
  match d with
  | none => none
  | some d =>
    match ecdhZ d e with
    | none => none
    | some z => keyUnwrap (kekOf z purpose uid) wrap

/-- The cue key of a CUE_KEY record (R363). -/
def openCueKey (d : Option Nat) (uid : Nat) (r : List Byte) : Option (List Byte) :=
  if leAt r 0 1 != 1 then none else openKey d uid 1 (slice r 4 64) (slice r 68 40)

/-- The SAKs of a MACSEC record, transmit then receive (R364). -/
def openMacsec (d : Option Nat) (uid : Nat) (r : List Byte) : Option (List Byte) :=
  if leAt r 2 1 != 2 then none else openKey d uid 2 (slice r 56 64) (slice r 120 72)

/-- The MACSEC record of a port opened (R364). -/
def State.loadMac (s : State) (e : Nat) : State :=
  match s.cfg.macsec.find? fun r => leAt r 0 1 == e with
  | none => if s.macsecOn e then s.ev Ev.secKeyInvalid [0x000D, e] else s
  | some r =>
    match openMacsec s.sec.idKey s.fuses.uid r with
    | some k => s.modMac e fun m => { m with recd := some (slice r 0 56), txSak := slice k 0 32, rxSak := slice k 32 32 }
    | none => s.ev Ev.secKeyInvalid [0x000D, e]

/-- The wrapped keys of the configuration opened at SB2 (R362 to R364). -/
def State.loadKeys (s : State) : State :=
  let s := match s.cfg.cueKey with
    | none => s
    | some r =>
      match openCueKey s.sec.idKey s.fuses.uid r with
      | some k => { s with sec := { s.sec with cueKey := some k } }
      | none => s.ev Ev.secKeyInvalid [0x000C, 0]
  if s.variant.macsec then [0, 1, 2, 3].foldl State.loadMac s else s

/-- The next packet number of a port taken (R365): none when its block is used up and no other is written. -/
def State.pnTake (s : State) (e : Nat) : Option (Nat × State) :=
  let m := s.sec.mac e
  match m.block with
  | none => none
  | some b =>
    if m.pn < 2 ^ 32 then some (b * 2 ^ 32 + m.pn, (s.modMac e fun m => { m with pn := m.pn + 1 }).pnReserve e)
    else match m.next with
      | none => none
      | some b' => some (b' * 2 ^ 32 + 1, (s.modMac e fun m => { m with block := some b', next := none, pn := 2 }).pnReserve e)

/-- Owner hash registers: the fused value, or the value written while not enrolled (R358). -/
def State.ownerShown (s : State) : List Byte := if s.fuses.enrolled then s.fuses.ownerHash else s.sec.written

/-- Whether host software may enrol (R358). -/
def State.mayEnrol (s : State) : Bool := s.boot.stage == 6 && !s.fuses.enrolled && !s.sec.enrolFailed

/-- A word of a byte array replaced. -/
def putWord (bs : List Byte) (i : Nat) (w : Word) : List Byte := bs.take (4 * i) ++ leBytes 4 w.toNat ++ bs.drop (4 * i + 4)

/-- A write to OWNER_HASH(i) (R358). -/
def State.writeOwnerHash (s : State) (i : Nat) (value : Word) : State :=
  if s.mayEnrol then { s with sec := { s.sec with written := putWord s.sec.written i value } } else s

/-- A write to OWNER_ENROL (R358): the written hash is blown; `blown` says that both copies read back equal to it. -/
def State.writeEnrol (s : State) (value : Word) (blown : Bool) : State :=
  if wfld value 31 16 != 0x0E4C || !(wbit value 0) || !s.mayEnrol then s
  else if blown then { s with fuses := { s.fuses with ownerHash := s.sec.written } }
  else { s with sec := { s.sec with enrolFailed := true } }

/-- OWNER_ENROL (R358). -/
def execOwnerEnrol (value : Word) (blown : Bool) (s : State) : Host.Outcome State Fault Refusal := .next (s.writeEnrol value blown)

/-- A write to ATTEST_NONCE(i) (R361): VALID is cleared. -/
def State.writeNonce (s : State) (i : Nat) (value : Word) : State :=
  { s with sec := { s.sec with nonce := putWord s.sec.nonce i value, valid := false } }

def execAttestNonceWrite (word : Fin 8) (value : Word) (s : State) : Host.Outcome State Fault Refusal :=
  .next (s.writeNonce word value)

/-- FLAGS of the report (Table 14.4). -/
def State.attestFlags (s : State) : Nat :=
  maskOf [s.boot.sealWhen != .notYet, s.boot.stage == 7, s.sec.unlocked, s.boot.slotFw == 1, s.boot.slotCfg == 1,
          s.fuses.enrolled, s.boot.stage == 6]

/-- Bytes 0 to 191 of the report (Table 14.4). -/
def State.attestBody (s : State) : List Byte :=
  [0x48, 0x58, 0x41, 0x54, 1, byte s.attestFlags, byte (thermOf s.fuses.fwTherm), byte (thermOf s.fuses.cfgTherm)]
  ++ leBytes 8 s.fuses.uid ++ slice s.sec.nonce 0 32
  ++ slice s.boot.fwHash 0 32 ++ slice s.cfg.hash 0 32 ++ slice s.boot.ownHash 0 32 ++ slice s.fuses.ownerHash 0 32
  ++ leBytes 4 s.nvm.fwVer ++ leBytes 4 s.nvm.cfgVer ++ leBytes 4 s.recSeq ++ leBytes 4 (s.sec.reports + 1)

/-- A report placed in ATTEST_REPORT, signed with an identity key (R361). -/
def State.putReport (s : State) (d : Nat) : State :=
  let b := s.attestBody
  { s with sec := { s.sec with report := b ++ ecdsaSign d b, valid := true, busy := none, refused := false
                               reports := s.sec.reports + 1 } }

/-- The report being made is finished (R361). -/
def State.finishReport (s : State) : State :=
  match s.sec.busy, s.sec.idKey with
  | some _, some d => s.putReport d
  | _, _ => s

/-- A report asked for in the tick of a debug unlock: it is made first, with flag 2 clear (Table 14.8). -/
def State.lateReport (s : State) : State :=
  let t := { s with sec := { s.sec with unlocked := false } }.putReport (identityKey s.fuses.seed)
  { t with sec := { t.sec with unlocked := s.sec.unlocked } }

/-- A GO to ATTEST_CTRL (R361, R368, R369): ignored while BUSY, refused without the identity key or after a failed test. -/
def State.writeAttest (s : State) (value : Word) : State :=
  if !(wbit value 0) || s.sec.busy.isSome then s
  else if s.sec.opened == some s.ticks && !s.sec.err then s.lateReport
  else if s.sec.idKey.isNone || s.sec.err then { s with sec := { s.sec with refused := true } }
  else { s with sec := { s.sec with busy := some s.ticks, refused := false } }

def execAttestGo (value : Word) (s : State) : Host.Outcome State Fault Refusal := .next (s.writeAttest (wput value 0 0 1))

/-- ATTEST_REPORT_DONE (R361): the report is ready. -/
def execAttestReportDone (s : State) : Host.Outcome State Fault Refusal := .next s.finishReport

/-- Whether a debug token is accepted (R366). -/
def State.tokenOk (s : State) : Bool :=
  let t := s.sec.token
  let scope := leAt t 5 1
  let signer := leAt t 6 1
  let key := slice t 64 64
  !s.sec.err && slice t 0 4 == [0x48, 0x58, 0x44, 0x42] && leAt t 4 1 == 1
  && leAt t 8 8 == s.fuses.uid && slice t 16 32 == s.sec.chal
  && ((signer == 0 && sha256 key == s.fuses.ownerHash) || (signer == 1 && sha256 key == s.fuses.vendorHash))
  && ecdsaOk key (slice t 128 64) (slice t 0 64) && (!(nbit scope 2) || signer == 1)

/-- A fresh challenge from the entropy source (R366). -/
def Sec.renew (c : Sec) : Sec :=
  { c with chal := (List.range 32).map fun i => Config.drbgByte c.draws i, draws := c.draws + 1 }

/-- SUBMIT of DEBUG_CTRL (R366): the scopes opened stay open until the next start. A report asked for in the same tick is made first (Table 14.8). -/
def State.writeDebug (s : State) (value : Word) : State :=
  if !(wbit value 0) || 8 ≤ s.sec.fails then s else
  let s := if s.sec.busy == some s.ticks then s.finishReport else s
  let scope := leAt s.sec.token 5 1
  if s.tokenOk then
    let opened := if s.sec.idKey.isSome then some s.ticks else s.sec.opened
    let s := (s.zeroise 1).ev Ev.debugUnlocked [scope]
    { s with sec := { s.sec with scope := s.sec.scope ||| scope % 8, unlocked := true, opened := opened }.renew }
  else
    let s := { s with sec := { s.sec with fails := min 15 (s.sec.fails + 1) }.renew }
    s.ev Ev.debugRefused [scope]

def execDebugSubmit (value : Word) (s : State) : Host.Outcome State Fault Refusal := .next (s.writeDebug (wput value 0 0 1))

/-- A write to SEC_ZEROISE (R369): GO with its key; PERMANENT also blows RETIRED. -/
def State.writeZeroise (s : State) (value : Word) : State :=
  if wfld value 31 16 != 0xD1E5 || !(wbit value 0) then s
  else
    let s := s.zeroise 0
    if wbit value 1 then { s with fuses := { s.fuses with retired := true } } else s

/-- ZEROISE (R369): GO without PERMANENT. -/
def execZeroise (value : Word) (s : State) : Host.Outcome State Fault Refusal := .next (s.writeZeroise (wput value 1 0 1))

/-- ZEROISE_PERMANENT (R369): GO with PERMANENT. -/
def execZeroisePermanent (value : Word) (s : State) : Host.Outcome State Fault Refusal :=
  .next (s.writeZeroise (wput value 1 0 3))

/-- ENTROPY_HEALTH_FAILURE (R368): the repetition count test (0), the adaptive proportion test (1) or the check of a signature
(2) has failed. The functions that need the source are refused until the next start. -/
def execEntropyHealthFailure (test : Fin 3) (s : State) : Host.Outcome State Fault Refusal :=
  let w := Config.code Ev.secSelftestFailed test
  let s := { s with sec := { s.sec with err := true, busy := none, refused := s.sec.refused || s.sec.busy.isSome } }
  .next ((s.evtW (unitSrc Ev.secSelftestFailed) Ev.secSelftestFailed [w]).raise [⟨Fk.secSelftestFailed, fsSec, [w]⟩])

/-- A word of a byte array. -/
def wordOf (bs : List Byte) (i : Nat) : Word := Word.of (leAt bs (4 * i) 4)

/-- Whether every port with MACsec has its keys. -/
def State.macsecKeys (s : State) : Bool := s.cfg.loaded && (List.range s.variant.ethN).all fun e => !(s.macsecOn e) || (s.sec.mac e).recd.isSome

/-- The security block's registers. -/
def State.readSec (s : State) (off : Nat) : Option Word :=
  let c := s.sec
  let arr := fun (base n : Nat) (bs : List Byte) =>
    if base ≤ off && off < base + 4 * n then some (wordOf bs ((off - base) / 4)) else none
  if off == Reg.secStatus then
    some (Word.of (at_ c.scope 9 + at_ (b2n c.err) 8 + at_ (b2n c.zeroised) 7 + at_ (b2n (s.variant.macsec && s.macsecKeys)) 6
      + at_ (b2n c.cueKey.isSome) 5 + at_ (b2n s.fuses.retired) 4 + at_ (b2n c.enrolFailed) 3 + at_ (b2n s.fuses.enrolled) 2))
  else if off == Reg.secTherm then some (Word.of (at_ (thermOf s.fuses.cfgTherm) 8 + thermOf s.fuses.fwTherm))
  else if off == Reg.identUidLo then some (Word.of (s.fuses.uid % 2 ^ 32))
  else if off == Reg.identUidHi then some (Word.of (s.fuses.uid / 2 ^ 32 % 2 ^ 32))
  else if off == Reg.attestStatus then
    some (Word.of (at_ (b2n c.refused) 2 + at_ (b2n c.busy.isSome) 1 + b2n c.valid))
  else if off == Reg.debugStatus then some (Word.of (at_ (b2n (8 ≤ c.fails)) 8 + at_ c.fails 4 + c.scope))
  else if Reg.macsecPnBlock 0 ≤ off && off < Reg.macsecPnBlock 4 then
    some (match (c.mac ((off - Reg.macsecPnBlock 0) / 4)).block with
      | some b => if s.variant.macsec then Word.of b else 0
      | none => 0)
  else
    (arr (Reg.ownerHash 0) 8 s.ownerShown).orElse fun _ =>
    (arr (Reg.vendorHash 0) 8 s.fuses.vendorHash).orElse fun _ =>
    (arr (Reg.identCert 0) 40 s.fuses.cert).orElse fun _ =>
    (arr (Reg.attestNonce 0) 8 c.nonce).orElse fun _ =>
    (arr (Reg.attestReport 0) 64 c.report).orElse fun _ =>
    (arr (Reg.debugChallenge 0) 8 c.chal).orElse fun _ =>
    arr (Reg.debugToken 0) 48 c.token

end Sys2Proof.Machine
end

