-- ==== Sys2Proof/Machine/NetOps.lean ====
section
/-! DEFINITION. Ethernet frames in and out with MACsec (R198 to R201), IGMP state and reports (R213), the validity of flows (R202,
R203) and which flows are joined (R212). -/

namespace Sys2Proof.Machine

/-- MODE and VID of ETH_CFG. -/
def State.ethMode (s : State) (e : Nat) : Nat := if s.variant.ethN ≤ e then 0 else wfld (s.rws (Reg.ethCfg e)) 31 30
def State.ethVid (s : State) (e : Nat) : Nat := wfld (s.rws (Reg.ethCfg e)) 11 0

/-- Whether a sub-port exists in its port's mode (Table 7.1). -/
def State.subOn (s : State) (i : Nat) : Bool :=
  let m := s.ethMode (i / 2)
  m == 2 || (m == 1 && i % 2 == 0)

/-- Line rate of a sub-port in bit/s (Table 7.1). -/
def State.subRate (s : State) (i : Nat) : Nat := if s.ethMode (i / 2) == 1 then 200 * giga else 100 * giga

/-- MAC address of a port and IPv4 address of a sub-port. -/
def State.mac (s : State) (e : Nat) : List Byte :=
  beBytes 2 (wfld (s.rws (Reg.ethMacHi e)) 15 0) ++ beBytes 4 (s.rws (Reg.ethMacLo e)).toNat
def State.ip (s : State) (i : Nat) : Nat := (s.rws (Reg.ethIp (i / 2) (i % 2))).toNat

/-- Multicast addresses. -/
def isMcast (a : Nat) : Bool := 0xE0000100 ≤ a && a ≤ 0xEFFFFFFF
def mcastMac (a : Nat) : List Byte := [0x01, 0x00, 0x5E] ++ beBytes 3 (a % 2 ^ 23)

/-- The IPv4 checksum of a byte string. -/
def sum16 : List Byte → Nat
  | [] => 0
  | [a] => a.toNat * 256
  | a :: b :: r => a.toNat * 256 + b.toNat + sum16 r
def fold16 (n : Nat) : Nat := let n := n % 65536 + n / 65536; let n := n % 65536 + n / 65536; n % 65536 + n / 65536
def inetSum (bs : List Byte) : Nat := 65535 - fold16 (sum16 bs)

/-- The SecTAG of a sent frame: confidentiality with the SCI, association 0, and the low half of the packet number. -/
def secTag (sci : List Byte) (pn len : Nat) : List Byte :=
  [0x88, 0xE5, 0x2C, byte (if len < 48 then len else 0)] ++ beBytes 4 (pn % 2 ^ 32) ++ sci

/-- The initialisation vector of GCM-AES-XPN: SSCI and packet number, with the salt. -/
def xpnIv (ssci salt : List Byte) (pn : Nat) : List Byte := (ssci ++ beBytes 8 pn).zipWith (· ^^^ ·) salt

/-- A frame with its FCS, short frames padded to 64 bytes. -/
def withFcs (bs : List Byte) : List Byte :=
  let b := padTo 60 bs
  b ++ leBytes 4 (crc32 b).toNat

/-- A frame sent on a sub-port: destination, EtherType and content (R199, R201, R365). -/
def State.ethSend (s : State) (i : Nat) (da : List Byte) (etype : Nat) (body : List Byte) : State :=
  let e := i / 2
  if !(s.subOn i) || !(s.sub i).up then s else
  let addr := da ++ s.mac e
  let vid := s.ethVid e
  let inner := (if vid == 0 then [] else [0x81, 0x00] ++ beBytes 2 vid) ++ beBytes 2 etype ++ body
  if !(s.macsecOn e) then s.send (.eth i (withFcs (addr ++ inner)))
  else match (s.sec.mac e).recd with
    | none => s
    | some r =>
      match s.pnTake e with
      | none => s.bump (Reg.macsecDiscards e)
      | some (pn, s') =>
        let tag := secTag (slice r 8 8) pn inner.length
        let (c, icv) := gcmSeal (s.sec.mac e).txSak (xpnIv (slice r 16 4) (slice r 20 12) pn) (addr ++ tag) inner
        s'.send (.eth i (withFcs (addr ++ tag ++ c ++ icv)))

/-- An IPv4 packet with a header checksum. -/
def ipv4 (tos ttl proto src dst : Nat) (opts body : List Byte) : List Byte :=
  let h := fun (ck : Nat) => [byte (0x45 + opts.length / 4), byte tos] ++ beBytes 2 (20 + opts.length + body.length)
    ++ [0, 0, 0x40, 0, byte ttl, byte proto] ++ beBytes 2 ck ++ beBytes 4 src ++ beBytes 4 dst ++ opts
  h (inetSum (h 0)) ++ body

/-- A UDP datagram over IPv4. -/
def udp4 (tos ttl src dst sport dport : Nat) (body : List Byte) : List Byte :=
  let u := fun (ck : Nat) => beBytes 2 sport ++ beBytes 2 dport ++ beBytes 2 (8 + body.length) ++ beBytes 2 ck ++ body
  let p := beBytes 4 src ++ beBytes 4 dst ++ [0, 17] ++ beBytes 2 (8 + body.length)
  let ck := inetSum (p ++ u 0)
  ipv4 tos ttl 17 src dst [] (u (if ck == 0 then 65535 else ck))

/-- A multicast UDP datagram sent on a sub-port. -/
def State.udpSend (s : State) (i tos ttl dst sport dport : Nat) (body : List Byte) : State :=
  s.ethSend i (mcastMac dst) 0x0800 (udp4 tos ttl (s.ip i) dst sport dport body)

/-- An IGMPv3 report of some records to 224.0.0.22, with TTL 1 and Router Alert (R213). -/
def State.igmpReport (s : State) (i : Nat) (rs : List GroupRec) : State :=
  if rs.isEmpty then s else
  let recs := (rs.map fun r => [byte r.kind, 0] ++ beBytes 2 r.srcs.length ++ beBytes 4 r.group ++ (r.srcs.map (beBytes 4)).flatten).flatten
  let m := fun (ck : Nat) => [0x22, 0] ++ beBytes 2 ck ++ [0, 0] ++ beBytes 2 rs.length ++ recs
  s.ethSend i (mcastMac 0xE0000016) 0x0800 (ipv4 0xC0 1 2 (s.ip i) 0xE0000016 [0x94, 0x04, 0, 0] (m (inetSum (m 0))))

/-- A flow's record. -/
def State.flowRec? (s : State) (f : Nat) : Option FlowRec := (recOf? s.cfg.flows f).map fun r => FlowRec.parse r.words

/-- Sub-port, destination, source and UDP port of a flow's path. -/
def FlowRec.sub (r : FlowRec) (sec : Bool) : Nat := if sec then 2 * r.secPort + r.secSub else 2 * r.priPort + r.priSub
def FlowRec.dst (r : FlowRec) (sec : Bool) : Nat := if sec then r.secDst else r.priDst
def FlowRec.src (r : FlowRec) (sec : Bool) : Nat := if sec then r.secSrc else r.priSrc
def FlowRec.udp (r : FlowRec) (sec : Bool) : Nat := if sec then r.secUdp else r.priUdp
/-- The paths a flow uses. -/
def FlowRec.paths (r : FlowRec) : List Bool := if r.dual then [false, true] else [false]

/-- Declared payload of a flow on one path, times RATE_D (R203). -/
def FlowRec.load (r : FlowRec) : Nat := r.w * r.h * bitsPerPx r.fmt * r.rateN

/-- Fields of Table 7.2 outside their range. -/
def FlowRec.outOfRange (r : FlowRec) : Bool :=
  r.h < 1 || 8192 < r.h || r.w < 1 || 16384 < r.w || r.bufs < 3 || 10 < r.bufs || r.pt < 96 || 127 < r.pt
  || 1 < r.prim || 1 < r.range || 4 < r.fmt || r.rateN < r.rateD || 240 * r.rateD < r.rateN
  || (r.tcs == 1 && (r.pqRef < 1 || 10000 < r.pqRef)) || 200 < r.maxPd || 3 < r.secPort || 3 < r.priPort

/-- The lowest code of Table 7.3 that applies to a flow, given the records of the valid flows of lower number; 0 if valid. -/
def State.flowCode (s : State) (r : FlowRec) (before : List FlowRec) : Nat :=
  let ps := r.paths
  let tooMany := fun (p : Bool) =>
    let i := r.sub p
    -- the sum over flows of different RATE_D, brought over 1000 × 1001
    let sum := ((r :: before).map fun q =>
      (q.paths.filter fun k => q.sub k == i).length * q.load * (1000 * 1001 / q.rateD)).foldl (· + ·) 0
    95 * s.subRate i * (1000 * 1001) < 100 * sum
  if ps.any fun p => 8 ≤ r.sub p || !(s.subOn (r.sub p)) then 1
  else if r.badRes || 2 ≤ r.join || r.outOfRange then 2
  else if (r.fmt == 4) != (r.tcs == 3) || (is422 r.fmt && r.w % 2 == 1) then 3
  else if ps.any fun p => !(isMcast (r.dst p)) && r.dst p != s.ip (r.sub p) then 4
  else if ps.any fun p => before.any fun q => q.paths.any fun k =>
    q.sub k == r.sub p && q.dst k == r.dst p && q.udp k == r.udp p then 5
  else if ps.any tooMany then 6
  else 0

/-- One flow judged; its buffers are those of its record (R202, R209). -/
def State.judgeFlow (s : State × List FlowRec) (f : Nat) : State × List FlowRec :=
  match s.1.flowRec? f with
  | none => s
  | some r =>
    let c := s.1.flowCode r s.2
    let t := s.1.modFlow f fun _ =>
      { Flow.reset with valid := c == 0, code := c, bufs := if c == 0 then List.replicate r.bufs ⟨false, 0, false, [], 0, false⟩ else [] }
    if c == 0 then (t, s.2 ++ [r]) else (t.evtAt (srcFlow f) Ev.flowInvalid [f, c], s.2)

/-- The validity of every flow judged in flow number order (R202). -/
def State.judgeFlows (s : State) : State :=
  if s.variant.net then ((List.range 64).foldl State.judgeFlow (s, [])).1 else s

/-- The events of the ports' settings (R198, R201). -/
def State.judgeEth (s : State) : State :=
  (List.range 4).foldl (fun s e =>
    let s := if s.ethMode e == 3 then s.evtAt (srcSub (2 * e)) Ev.ethModeInvalid [e] else s
    let asked := s.cfg.regs.any fun x => x.1 == Reg.ethCfg e && wbit x.2 29
    if asked && !s.variant.macsec then s.evtAt (srcSub (2 * e)) Ev.ethMacsecAbsent [e] else s) s

/-- Whether a scene uses a flow, in some view. -/
def sceneUsesFlow (ws : List Word) (f : Nat) : Bool :=
  (List.range 8).any fun v => (viewBlock ws v).layers.any fun l => l.kind == 1 && l.id == f

/-- Scenes that hold their sources: the current one, the incoming one of a fade, and those of pending cues, mirrored
ones included (R212, R415). -/
def State.liveScenes (s : State) : List Nat :=
  (if s.sc.shown then [s.sc.cur] else []) ++ (match s.sc.fade with | some x => [x.target] | none => []) ++ s.sc.pend.map (·.scene) ++
  (s.rl.mcues.filter (!·.plan)).map (·.num)

/-- Whether a flow is the warm-up source (R311). -/
def State.warmFlow (s : State) (f : Nat) : Bool := s.cfg.loaded && s.cfg.warmKind == 1 && s.cfg.warmId == f

/-- Whether a flow is to be joined (R212); the warm-up source is joined at SB2 (Table 12.2). -/
def State.flowWanted (s : State) (f : Nat) : Bool :=
  match s.flowRec? f with
  | none => false
  | some r =>
    (s.flow f).valid && (s.warmFlow f || (r.join == 0 && s.sc.shown) ||
      (r.join == 1 && s.liveScenes.any fun n => match s.scene? n with | some ws => sceneUsesFlow ws f | none => false))

/-- What a sub-port wants of one group: nothing, its INCLUDE sources, or EXCLUDE mode (R213). -/
def State.groupWant (s : State) (i g : Nat) : Option (Option (List Nat)) :=
  let srcs := (List.range 64).flatMap fun f =>
    match s.flowRec? f with
    | none => []
    | some r => (r.paths.filter fun p => r.sub p == i && r.dst p == g && isMcast g &&
        (if p then (s.flow f).sec.joined else (s.flow f).pri.joined)).map r.src
  let cue := (s.rws Reg.cueDgGroup).toNat == g && g != 0 && s.cfg.loaded
  if cue || srcs.contains 0 then some none else if srcs.isEmpty then none else some (some (srcs.foldl (fun l x =>
    if l.contains x then l else l ++ [x]) []))

/-- The records that report a group's change (RFC 3376, as R213 has it). -/
def groupChange (g : Nat) (old new : Option (Option (List Nat))) : List GroupRec :=
  match old, new with
  | none, none => []
  | none, some none => [⟨4, g, []⟩]
  | none, some (some l) => [⟨5, g, l⟩]
  | some none, none => [⟨3, g, []⟩]
  | some (some l), none => [⟨6, g, l⟩]
  | some none, some none => []
  | some none, some (some l) => [⟨3, g, l⟩]
  | some (some _), some none => [⟨4, g, []⟩]
  | some (some a), some (some b) =>
    let add := b.filter fun x => !(a.contains x)
    let del := a.filter fun x => !(b.contains x)
    (if add.isEmpty then [] else [⟨5, g, add⟩]) ++ (if del.isEmpty then [] else [⟨6, g, del⟩])

/-- The state of a joined group. -/
def SubPort.group? (p : SubPort) (g : Nat) : Option (Option (List Nat)) := (p.groups.find? (·.1 == g)).map (·.2)

/-- Groups some path or the cue group names on a sub-port. -/
def State.groupsNamed (s : State) (i : Nat) : List Nat :=
  let l := ((List.range 64).flatMap fun f => match s.flowRec? f with
    | none => []
    | some r => (r.paths.filter fun p => r.sub p == i).map r.dst) ++ [(s.rws Reg.cueDgGroup).toNat]
  (l.filter fun g => g != 0).foldl (fun l x => if l.contains x then l else l ++ [x]) []

/-- A sub-port's IGMP state brought to what its paths want; a change is reported at once and once more, with what an earlier
change of another group still owes (R213). -/
def State.syncSub (s : State) (i : Nat) : State :=
  if !(s.subOn i) then s else
  let p := s.sub i
  let gs := s.groupsNamed i
  let recs := gs.flatMap fun g => groupChange g (p.group? g) (s.groupWant i g)
  if recs.isEmpty then s else
  let groups := gs.filterMap fun g => (s.groupWant i g).map fun w => (g, w)
  (s.modSub i fun p => { p with groups := groups, again := (p.again.filter fun r => !(recs.any fun x => x.group == r.group)) ++ recs, repTick := s.ticks }).igmpReport i recs

/-- Every sub-port's IGMP state. -/
def State.syncGroups (s : State) : State := (List.range 8).foldl State.syncSub s

/-- Whether some view holds a content: its latch in composition names it, or a layer of the view waits with it (R55, R56, R209,
R256; that a waiting layer holds it is DEDUCED, log 120). -/
def State.latched (s : State) (p : Content → Bool) : Bool :=
  let has := fun (c : Option Content) => match c with | some c => p c | none => false
  s.sc.views.zipIdx.any fun v =>
    (match v.1.latch with | some l => !l.done && (l.layers ++ l.toLayers).any has | none => false) ||
    (s.tl.plan.enables v.2 && (v.1.layers ++ v.1.out).any fun st => st.kept && has st.content)

/-- The newest buffer completed before a tick (R38, R209). -/
def Flow.doneBefore (w : Flow) (now : Nat) : Option Nat := if w.doneTick == now then w.prior else w.done

/-- Buffers of a flow that are held: by a latch or a waiting layer, as the newest completed frame, as the one before it for a latch of the
same tick, or by a frame in reception (R209). -/
def State.bufHeld (s : State) (f b : Nat) : Bool :=
  let w := s.flow f
  w.done == some b || w.doneBefore s.ticks == some b || w.rx.any (fun x => x.buf == some b) ||
    s.latched fun c => match c with | .flow g k _ => g == f && k == b | _ => false

/-- The use of a flow's buffers brought up to date; a buffer that is free from now on keeps the tick (R209). -/
def State.freeBufs (s : State) (f : Nat) : State :=
  s.modFlow f fun w => { w with bufs := (List.range w.bufs.length).zipWith (fun i b =>
    let u := s.bufHeld f i
    { b with used := u, freed := if b.used && !u then (if w.prior == some i then w.doneTick else s.ticks) else b.freed }) w.bufs }

/-- A flow joined on its paths: its receiver starts afresh (R207, R212). -/
def State.joinFlow (s : State) (f : Nat) : State :=
  match s.flowRec? f with
  | none => s
  | some r => (s.modFlow f fun w =>
    { w with pri := { w.pri with joined := true, last := none, miss := [] }, sec := { w.sec with joined := r.dual, last := none, miss := [] },
             rx := [], ssrc := none, other := 0, newest := none, back := 0, marker := (none, 0), lastTs := none, acct := none, recv := [],
             seen := [], pd := [], unused := none }).freeBufs f

/-- A flow left on its paths (R212); a path that was alive is told to be down when its second has passed (R211). -/
def State.leaveFlow (s : State) (f : Nat) : State :=
  (s.modFlow f fun w =>
    { w with pri := { w.pri with joined := false, last := none, miss := [] }, sec := { w.sec with joined := false, last := none, miss := [] },
             rx := [], acct := none, recv := [], unused := none }).freeBufs f

/-- One flow's joining brought up to date: joined at once when wanted, marked unused when no longer so (R212). -/
def State.joinStep (s : State) (f : Nat) : State :=
  let w := s.flow f
  if s.flowWanted f then
    if w.pri.joined then s.modFlow f fun w => { w with unused := none } else s.joinFlow f
  else if w.pri.joined && w.unused.isNone then s.modFlow f fun w => { w with unused := some s.ticks }
  else s

/-- Every flow's joining brought up to date. -/
def State.joins (s : State) : State :=
  if s.variant.net then ((List.range 64).foldl State.joinStep s).syncGroups else s

end Sys2Proof.Machine
end

