-- ==== Sys2Proof/Machine/Ingest.lean ====
section
/-! DEFINITION. Flow receivers (R204 to R212), the warm-up frame store that a source fills (R309, R311), and Ethernet frames received
(R198 to R200, R213), with the commands of the family. -/

namespace Sys2Proof.Machine

/-- The rows of codes of a flow frame, steps 1 to 3 of R206 (R309). -/
def warmRows (r : FlowRec) (runs : List Run) : List (List Nat) :=
  (List.range r.h).map fun y => (List.range r.w).flatMap fun x => ((flowNonlin r runs x y).take 3).map warmCode

/-- A flow frame that the warm-up path can show (Table 12.1). -/
def FlowRec.warmOk (r : FlowRec) : Bool := r.fmt ≤ 3 && r.w ≤ 4096 && r.h ≤ 2160

/-- Codes packed into bytes, the first in the highest bits. -/
def packCodes (d : Nat) (cs : List Nat) : List Byte :=
  let n := cs.foldl (fun a c => a * 2 ^ d + c % 2 ^ d) 0
  beBytes (d * cs.length / 8) n

/-- A pgroup of black (R208). -/
def blackPg (r : FlowRec) : List Byte :=
  let c := blackCodes r.fmt r.range
  let cs := if is422 r.fmt then [c.getD 1 0, c.getD 0 0, c.getD 2 0, c.getD 0 0]
    else (List.replicate (pgroup r.fmt).2 (c.take 3)).flatten
  packCodes (fmtDepth r.fmt) cs

/-- The bytes of a line of a flow frame as stored (R205). -/
def flowLine (r : FlowRec) (rs : List Run) (y : Nat) : List Byte :=
  (List.range (ceilDiv r.w (pgroup r.fmt).2)).flatMap fun i => (pgroupAt r.fmt rs (i * (pgroup r.fmt).2) y).getD (blackPg r)

/-- The pixel data of a flow frame as stored (R73). -/
def flowBytes (r : FlowRec) (rs : List Run) : List Byte := (List.range r.h).flatMap (flowLine r rs)

/-- Bytes per line of a frame in HBM: rounded up to a multiple of 512 (R205). -/
def FlowRec.pitch (r : FlowRec) : Nat := ceilDiv (ceilDiv (r.w * bitsPerPx r.fmt) 8) 512 * 512

/-- A frame written into its buffer's place in HBM (R205). -/
def State.storeFrame (s : State) (f b : Nat) (r : FlowRec) (rs : List Run) : State :=
  let base := 512 * s.mem.flowBase.getD (10 * f + b) 0
  { s with mem := { s.mem with bytes := (List.range r.h).foldl (fun m y => hbmWriteList m (base + y * r.pitch) (flowLine r rs y)) s.mem.bytes } }

/-- The free buffer that has been free longest (R209). -/
def Flow.freeBuf (w : Flow) : Option Nat :=
  let l := (List.range w.bufs.length).filter fun i => !((w.bufs.getD i ⟨false, 0, false, [], 0, false⟩).used)
  l.foldl (fun b i => match b with
    | none => some i
    | some j => if (w.bufs.getD i ⟨false, 0, false, [], 0, false⟩).freed < (w.bufs.getD j ⟨false, 0, false, [], 0, false⟩).freed
      then some i else some j) none

/-- A buffer of a flow. -/
def Flow.buf (w : Flow) (i : Nat) : FrameBuf := w.bufs.getD i ⟨false, 0, false, [], 0, false⟩

/-- The signed distance of two 32-bit numbers. -/
def diff32 (a b : Nat) : Int := sint 32 ((a + 2 ^ 32 - b % 2 ^ 32) % 2 ^ 32)

/-- A later timestamp of two. -/
def laterTs (a : Option Nat) (b : Nat) : Option Nat :=
  match a with
  | none => some b
  | some x => if 0 < diff32 b x then some b else some x

/-- Lost packets counted up to the last packet known of a frame that ends, once no older frame is awaited (R208): every number since the
count before it that neither path has brought. -/
def State.countLost (s : State) (f : Nat) (x : FrameRx) : State :=
  let w := s.flow f
  match w.acct with
  | none => s
  | some a =>
    let e := x.got.foldl (fun b q => if 0 < diff32 q b then q else b) a
    if w.rx.any (fun y => 0 < diff32 x.ts y.ts) || e == a then s else
    let n := (diff32 e a).toNat
    let got := (w.recv.filter fun q => 0 < diff32 q a && diff32 q e ≤ 0).length
    (s.bumpN (Reg.flowLost f) (n - got)).modFlow f fun w => { w with acct := some e, recv := w.recv.filter fun q => 0 < diff32 q e }

/-- A frame removed from reception. -/
def Flow.dropRx (w : Flow) (ts : Nat) : Flow := { w with rx := w.rx.filter (·.ts != ts), lastTs := laterTs w.lastTs ts }

/-- A frame completes (R208): it becomes the flow's newest completed frame, and the warm-up source's newest. A frame that took no
buffer is discarded (R209). `runs` are the runs of its pixels. -/
def State.frameDone (s : State) (f : Nat) (r : FlowRec) (x : FrameRx) (runs : List Run) : State :=
  let s := (s.modFlow f fun w => w.dropRx x.ts).countLost f x
  let s := match x.buf with
    | none => s
    | some b => (s.modFlow f fun w =>
      { w with count := (w.count + 1) % 2 ^ 32, rtpTs := x.ts, done := some b, prior := w.doneBefore s.ticks, doneTick := s.ticks,
               bufs := modAt w.bufs b fun _ => ⟨true, (w.count + 1) % 2 ^ 32, s.tl.service, runs, 0, true⟩ }).storeFrame f b r runs
  let s := s.freeBufs f
  if s.warmFlow f && r.warmOk then s.warmTake r.w r.h (warmRows r runs) else s

/-- The runs of the newest completed frame. -/
def Flow.doneRuns (w : Flow) : List Run := match w.done with | some b => (w.buf b).runs | none => []

/-- A frame closes incomplete (R208): dropped, or completed with the previous frame's pixels where it has none. -/
def State.frameClose (s : State) (f : Nat) (r : FlowRec) (x : FrameRx) : State :=
  if r.conceal then
    let s := if x.buf.isSome then s.bump (Reg.flowConcealed f) else s
    s.frameDone f r x ((s.flow f).doneRuns ++ x.runs)
  else
    let s := if x.buf.isSome then s.bump (Reg.flowDropped f) else s
    ((s.modFlow f fun w => w.dropRx x.ts).countLost f x).freeBufs f

/-- Whether every packet of a frame is present (R208). -/
def FrameRx.whole (x : FrameRx) : Bool :=
  match x.lo, x.marker with
  | some a, some m => 0 < diff32 m a && (diff32 m a).toNat == x.got.length
  | _, _ => false

/-- The receiver starts again (R207, R210): the frames in progress are abandoned. -/
def State.flowRestart (s : State) (f : Nat) (sec : Bool) : State :=
  let s := s.modFlow f fun w => { w with rx := [], newest := none, back := 0, other := 0, marker := (none, 0), lastTs := none, acct := none, recv := [],
                                         pri := { w.pri with last := none }, sec := { w.sec with last := none }, seen := [] }
  (s.freeBufs f).evtAt (srcFlow f) Ev.flowRestart [f, b2n sec]

/-- A sample row data header (ST 2110-20): length in bytes, field, line, offset, and the bytes it describes. -/
structure Srd where
  len   : Nat
  field : Bool
  line  : Nat
  off   : Nat
  bytes : List Byte
  deriving DecidableEq, Repr

/-- An RTP packet of ST 2110-20 as parsed. -/
structure RtpPkt where
  marker : Bool
  pt   : Nat
  seq  : Nat                -- 32-bit extended sequence number
  ts   : Nat
  ssrc : Nat
  srds : List Srd
  deriving DecidableEq, Repr

/-- The headers of up to three SRDs, with the rest of the payload. -/
def srdHeads : Nat → List Byte → List (Nat × Bool × Nat × Nat) × List Byte
  | 0, bs => ([], bs)
  | k + 1, bs =>
    let l := beAt bs 2 2
    let o := beAt bs 4 2
    let h := (beAt bs 0 2, nbit l 15, l % 32768, o % 32768)
    if nbit o 15 then
      let (hs, r) := srdHeads k (bs.drop 6)
      (h :: hs, r)
    else ([h], bs.drop 6)

/-- The segments of a payload given its headers. -/
def srdSegs : List (Nat × Bool × Nat × Nat) → List Byte → List Srd
  | [], _ => []
  | (n, fl, y, o) :: hs, bs => ⟨n, fl, y, o, bs.take n⟩ :: srdSegs hs (bs.drop n)

/-- An RTP packet parsed; none when it is no RTP version 2 packet of the payload format. -/
def RtpPkt.parse (d : List Byte) : Option RtpPkt :=
  let b0 := leAt d 0 1
  let b1 := leAt d 1 1
  let h := 12 + 4 * (b0 % 16)
  let h := if nbit b0 4 then h + 4 + 4 * beAt d (h + 2) 2 else h
  if b0 / 64 != 2 || d.length < h + 8 then none else
  let (hs, rest) := srdHeads 3 (d.drop (h + 2))
  some { marker := nbit b1 7, pt := b1 % 128, seq := beAt d h 2 * 65536 + beAt d 2 2, ts := beAt d 4 4, ssrc := beAt d 8 4
         srds := srdSegs hs rest }

/-- Whether an SRD lies in the frame in whole pgroups (R210). -/
def Srd.ok (r : FlowRec) (d : Srd) : Bool :=
  let (b, p) := pgroup r.fmt
  d.bytes.length == d.len && d.len % b == 0 && d.line < r.h && d.off + d.len / b * p ≤ r.w

/-- The run of an SRD. -/
def Srd.run (r : FlowRec) (d : Srd) : Run :=
  let (b, p) := pgroup r.fmt
  ⟨d.line, d.off, d.len / b * p, d.bytes⟩

/-- Two frame periods of a flow in ticks. -/
def FlowRec.span2 (r : FlowRec) : Nat := if r.rateN == 0 then 0 else 2 * r.rateD * secT / r.rateN

/-- Whether a frame's close is due (R208). -/
def FrameRx.due (r : FlowRec) (now : Nat) (x : FrameRx) : Bool :=
  (match x.endTick with | some t => t + r.maxPd * 100 * usT ≤ now | none => false) || x.first + r.span2 ≤ now

/-- The frames of a flow whose close is due closed (R208). -/
def State.closeDue (s : State) (f : Nat) (r : FlowRec) : State :=
  ((s.flow f).rx.filter (·.due r s.ticks)).foldl (fun s x => s.frameClose f r x) s

/-- The earlier of two ticks, where each may be unknown. -/
def earlier (a : Option Nat) (b : Nat) : Option Nat := some (match a with | some x => min x b | none => b)

/-- A frame of a flow begins (R209): the free buffer that has been free longest is taken, or the frame is discarded whole. A close that is
due comes first (Table 7.9). -/
def State.frameStart (s : State) (f : Nat) (r : FlowRec) (ts : Nat) : State :=
  let s := (s.closeDue f r).freeBufs f
  let w := s.flow f
  let lo := match w.marker with
    | (some m, t) =>
      let between := w.rx.any (fun y => 0 < diff32 y.ts t && diff32 y.ts ts < 0) ||
        (match w.lastTs with | some l => decide (0 < diff32 l t) | none => false)
      if 0 < diff32 ts t && !between then some m else none
    | _ => none
  let x : FrameRx := { ts := ts, buf := w.freeBuf, first := s.ticks,
                       endTick := (w.rx.filter fun y => 0 < diff32 y.ts ts).foldl (fun t y => earlier t y.first) none, lo := lo, marker := none, got := [], runs := [] }
  let s := s.modFlow f fun w => { w with rx := (w.rx.filter fun y => diff32 y.ts ts < 0) ++ [x] ++ w.rx.filter fun y => 0 < diff32 y.ts ts }
  let s := s.freeBufs f
  if x.buf.isSome then s
  else
    let s := s.bump (Reg.flowDropped f)
    let quiet := match w.noBuf with | none => true | some t => s.past t secT
    if quiet then (s.modFlow f fun w => { w with noBuf := some s.ticks }).evtAt (srcFlow f) Ev.flowNoBuffer [f] else s

/-- A packet written into its frame (R207, R208, R210). -/
def FrameRx.put (r : FlowRec) (p : RtpPkt) (now : Nat) (x : FrameRx) : FrameRx :=
  let good := p.srds.filter (Srd.ok r)
  let top := good.any fun d => d.line == 0 && d.off == 0
  { x with got := p.seq :: x.got, runs := x.runs ++ good.map (Srd.run r)
           lo := if top then some ((p.seq + 2 ^ 32 - 1) % 2 ^ 32) else x.lo
           marker := if p.marker then some p.seq else x.marker
           endTick := if p.marker && x.endTick.isNone then some now else x.endTick }

/-- A number that has come after all taken out of those awaited on a path. -/
def missTake (q : Nat) : List (Nat × Nat × Nat) → List (Nat × Nat × Nat)
  | [] => []
  | (a, n, t) :: l =>
    if 0 ≤ diff32 q a && diff32 q a < (n : Int) then
      let k := (diff32 q a).toNat
      (if k == 0 then [] else [(a, k, t)]) ++ (if k + 1 == n then [] else [((a + k + 1) % 2 ^ 32, n - k - 1, t)]) ++ l
    else (a, n, t) :: missTake q l

/-- Numbers awaited on a path beyond the reorder allowance counted as missing on it (FLOW_LOST_PRI, FLOW_LOST_SEC). -/
def State.countPath (s : State) (f : Nat) (sec : Bool) (r : FlowRec) : State :=
  let w := s.flow f
  let q := if sec then w.sec else w.pri
  let late := fun (x : Nat × Nat × Nat) => s.past x.2.2 (r.maxPd * 100 * usT)
  let n := ((q.miss.filter late).map fun x => x.2.1).foldl (· + ·) 0
  let q' := { q with miss := q.miss.filter fun x => !(late x) }
  (s.bumpN (if sec then Reg.flowLostSec f else Reg.flowLostPri f) n).modFlow f fun w => if sec then { w with sec := q' } else { w with pri := q' }

/-- A copy on a path noted (R211): the path is alive, and a gap in its sequence numbers is missing on it unless it is filled within the
reorder allowance. -/
def State.pathPacket (s : State) (f : Nat) (sec : Bool) (r : FlowRec) (seq : Nat) : State :=
  let s := s.countPath f sec r
  let w := s.flow f
  let q := if sec then w.sec else w.pri
  let gap := match q.last with
    | some l => if 1 < diff32 seq l then [((l + 1) % 2 ^ 32, (diff32 seq l - 1).toNat, s.ticks)] else []
    | none => []
  let q' := { q with alive := true, tick := s.ticks, miss := missTake seq q.miss ++ gap,
                     last := match q.last with | some l => if 0 < diff32 seq l then some seq else some l | none => some seq }
  let s := s.modFlow f fun w => if sec then { w with sec := q' } else { w with pri := q' }
  if q.alive then s else s.evtAt (srcFlow f) Ev.flowPathUp [f, b2n sec]

/-- What a copy of a packet on a DUAL flow is: the first, the primary path's in the tick of the secondary path's, or another. -/
inductive Copy where
  | first
  | swap
  | other
  deriving DecidableEq, Repr

/-- A copy of a packet on a DUAL flow noted, with the difference in arrival of its two copies (R208, R211). Of two that arrive at once the
primary path's is used (Table 7.9). -/
def State.noteCopy (s : State) (f : Nat) (sec : Bool) (seq : Nat) : Copy × State :=
  let w := s.flow f
  let seen := w.seen.filter fun x => s.ticks < x.2.1 + secT
  match seen.find? fun x => x.1 == seq with
  | none => (.first, s.modFlow f fun w => { w with seen := seen ++ [(seq, s.ticks, sec)] })
  | some x =>
    if x.2.2 == sec then (.other, s.modFlow f fun w => { w with seen := seen }) else
    (if !sec && x.2.1 == s.ticks then .swap else .other, s.modFlow f fun w =>
      { w with seen := seen, pd := (w.pd.filter fun y => s.ticks < y.1 + secT) ++ [(s.ticks, s.ticks - x.2.1)] })

/-- The pixels of a packet's primary copy put in place of its secondary copy's, in a frame in reception or completed in this tick. -/
def State.swapCopy (s : State) (f : Nat) (r : FlowRec) (p : RtpPkt) : State :=
  let runs := (p.srds.filter (Srd.ok r)).map (Srd.run r)
  let w := s.flow f
  let s := s.modFlow f fun w => { w with rx := w.rx.map fun x => if x.ts == p.ts then { x with runs := x.runs ++ runs } else x }
  match w.done with
  | some b =>
    if w.doneTick == s.ticks && w.rtpTs == p.ts then
      let s := s.modFlow f fun w => { w with bufs := modAt w.bufs b fun x => { x with runs := x.runs ++ runs } }
      s.storeFrame f b r ((s.flow f).buf b).runs
    else s
  | none => s

/-- A sequence number received, for the count of lost packets. -/
def State.noteSeq (s : State) (f seq : Nat) : State :=
  s.modFlow f fun w =>
    { w with acct := some (w.acct.getD ((seq + 2 ^ 32 - 1) % 2 ^ 32)), recv := if w.recv.contains seq then w.recv else seq :: w.recv }

/-- Whether the receiver is locked to a packet's SSRC, the flow's count of others kept (R207): the eighth in a row of another
SSRC restarts it. -/
def State.ssrcOk (s : State) (f : Nat) (sec : Bool) (ssrc : Nat) : Bool × State :=
  let w := s.flow f
  match w.ssrc with
  | none => (true, s.modFlow f fun w => { w with ssrc := some ssrc })
  | some k =>
    if k == ssrc then (true, s.modFlow f fun w => { w with other := 0 })
    else
      let n := if w.otherSsrc == ssrc then w.other + 1 else 1
      if n < 8 then (false, s.modFlow f fun w => { w with other := n, otherSsrc := ssrc })
      else (true, (s.modFlow f fun w => { w with ssrc := some ssrc }).flowRestart f sec)

/-- Whether a packet is not far behind the newest seen (R210): the eighth in a row that is restarts the receiver. -/
def State.seqOk (s : State) (f : Nat) (sec : Bool) (seq : Nat) : Bool × State :=
  let w := s.flow f
  match w.newest with
  | none => (true, s.modFlow f fun w => { w with newest := some seq, back := 0 })
  | some n =>
    if diff32 seq n < -(2 ^ 20 : Int) then
      let s := s.bump (Reg.flowBad f)
      if w.back + 1 < 8 then (false, s.modFlow f fun w => { w with back := w.back + 1 })
      else (true, (s.flowRestart f sec).modFlow f fun w => { w with newest := some seq })
    else (true, s.modFlow f fun w => { w with newest := some (if 0 < diff32 seq n then seq else n), back := 0 })

/-- Whether a timestamp belongs to a frame completed or closed, or precedes one (R210). -/
def Flow.tsOld (w : Flow) (ts : Nat) : Bool := match w.lastTs with | some t => diff32 ts t ≤ 0 | none => false

/-- An accepted packet taken into its frame, which may complete it (R207, R208). -/
def State.takePacket (s : State) (f : Nat) (r : FlowRec) (p : RtpPkt) : State :=
  let s := if (s.flow f).rx.any (·.ts == p.ts) then s else s.frameStart f r p.ts
  let bad := (p.srds.filter fun d => !(d.ok r)).length
  let s := s.bumpN (Reg.flowBad f) bad
  let s := s.modFlow f fun w =>
    { w with rx := w.rx.map fun x =>
        if x.ts == p.ts then (if x.got.contains p.seq then x else x.put r p s.ticks)
        else if 0 < diff32 p.ts x.ts && x.endTick.isNone then { x with endTick := some s.ticks }
        else if p.marker && x.lo.isNone && 0 < diff32 x.ts p.ts && !(w.rx.any fun y => 0 < diff32 y.ts p.ts && diff32 y.ts x.ts < 0)
          then { x with lo := some p.seq }
        else x,
             marker := if p.marker && (match w.marker with | (some _, t) => decide (0 < diff32 p.ts t) | _ => true)
               then (some p.seq, p.ts) else w.marker }
  match (s.flow f).rx.find? (·.whole) with
  | some x => s.frameDone f r x x.runs
  | none => s

/-- A packet that arrives on a path of a flow (R207 to R211). -/
def State.flowPacket (s : State) (f : Nat) (sec : Bool) (data : List Byte) : State :=
  match s.flowRec? f, RtpPkt.parse data with
  | some r, some p =>
    let w := s.flow f
    if !w.valid || p.pt != r.pt || !(if sec then w.sec.joined else w.pri.joined) then s else
    let (ok, s) := s.ssrcOk f sec p.ssrc
    if !ok then s else
    let (ok, s) := s.seqOk f sec p.seq
    if !ok then s else
    let s := (s.pathPacket f sec r p.seq).noteSeq f p.seq
    let (c, s) := if r.dual then s.noteCopy f sec p.seq else (.first, s)
    if c == .swap then s.swapCopy f r p
    else if c == .other then s
    else if p.srds.any (·.field) || (s.flow f).tsOld p.ts then s.bump (Reg.flowBad f)
    else s.takePacket f r p
  | _, _ => s

/-- FLOW_PACKET_RX (R207): an RTP packet of a flow's path. -/
def execFlowPacketRx (flow : Fin 64) (sec : Bool) (data : List Byte) (s : State) : Host.Outcome State Fault Refusal :=
  .next (s.flowPacket flow sec data)

/-- FLOW_FRAME_CLOSE (R208): the frames of a flow whose close is due. -/
def execFlowFrameClose (flow : Fin 64) (s : State) : Host.Outcome State Fault Refusal :=
  match s.flowRec? flow with
  | none => .next s
  | some r => .next ((s.closeDue flow r).countPath flow false r |>.countPath flow true r)

/-- FLOW_PATH_TIMEOUT (R211): 1 s has passed without a valid packet on the path. -/
def execFlowPathTimeout (flow : Fin 64) (sec : Bool) (s : State) : Host.Outcome State Fault Refusal :=
  let w := s.flow flow
  let q := if sec then w.sec else w.pri
  if !q.alive || !(s.past q.tick secT) then .next s else
  let s := match s.flowRec? flow with | some r => s.countPath flow sec r | none => s
  let s := s.modFlow flow fun w =>
    if sec then { w with sec := { w.sec with alive := false } } else { w with pri := { w.pri with alive := false } }
  .next (s.evtAt (srcFlow flow) Ev.flowPathDown [flow, b2n sec])

/-- FLOW_LEAVE_TIMER (R212): a flow is left 2 s after it ceased to be wanted. -/
def execFlowLeaveTimer (flow : Fin 64) (s : State) : Host.Outcome State Fault Refusal :=
  match (s.flow flow).unused with
  | some t => if s.past t (2 * secT) && !(s.flowWanted flow) then .next (s.leaveFlow flow).syncGroups else .next s
  | none => .next s

/-- The answer to an ARP request for the sub-port's own address (R200). -/
def State.arp (s : State) (i : Nat) (d : List Byte) : State :=
  if d.length < 28 || beAt d 0 2 != 1 || beAt d 2 2 != 0x0800 || leAt d 4 1 != 6 || leAt d 5 1 != 4 || beAt d 6 2 != 1
    || beAt d 24 4 != s.ip i || s.ip i == 0 then s
  else
    let mac := s.mac (i / 2)
    s.ethSend i (slice d 8 6) 0x0806 ([0, 1, 8, 0, 6, 4, 0, 2] ++ mac ++ beBytes 4 (s.ip i) ++ slice d 8 6 ++ slice d 14 4)

/-- ARP_REQUEST (R200): an ARP packet. -/
def execArpRequest (sub : Fin 8) (data : List Byte) (s : State) : Host.Outcome State Fault Refusal := .next (s.arp sub data)

/-- The current-state record of a group, cut to a query's sources (RFC 3376, as R213 has it). -/
def queryRec (g : Nat) (w : Option (List Nat)) (srcs : List Nat) : List GroupRec :=
  match w with
  | none => if srcs.isEmpty then [⟨2, g, []⟩] else [⟨1, g, srcs⟩]
  | some l =>
    if srcs.isEmpty then [⟨1, g, l⟩]
    else
      let k := l.filter fun x => srcs.contains x
      if k.isEmpty then [] else [⟨1, g, k⟩]

/-- An IGMP query (R213): version 3 queries are answered; an older one, of 8 bytes, is recorded at most once an hour; other lengths below
12 bytes are no query (RFC 3376). -/
def State.igmp (s : State) (i : Nat) (d : List Byte) : State :=
  if leAt d 0 1 != 0x11 || d.length < 8 || fold16 (sum16 d) != 65535 || !(s.subOn i) then s else
  let p := s.sub i
  if 8 < d.length && d.length < 12 then s
  else if d.length < 12 then
    let s1 :=
      let quiet := match p.oldTick with | none => true | some t => s.past t (3600 * secT)
      if quiet then
        (s.modSub i fun p => { p with oldTick := some s.ticks }).evtAt (srcSub i) Ev.igmpOldQuerier
          [i / 2, i % 2, if leAt d 1 1 == 0 then 1 else 2]
      else s
    let g := beAt d 4 4
    s1.igmpReport i ((p.groups.filter fun x => g == 0 || x.1 == g).flatMap fun x => queryRec x.1 x.2 [])
  else
    let g := beAt d 4 4
    let srcs := (List.range (beAt d 10 2)).map fun k => beAt d (12 + 4 * k) 4
    s.igmpReport i ((p.groups.filter fun x => g == 0 || x.1 == g).flatMap fun x => queryRec x.1 x.2 srcs)

/-- IGMP_QUERY (R213): an IGMP message. -/
def execIgmpQuery (sub : Fin 8) (data : List Byte) (s : State) : Host.Outcome State Fault Refusal := .next (s.igmp sub data)

/-- IGMP_REPORT_TIMER (R213): the second report of a change, within the unsolicited report interval of 1 s. -/
def execIgmpReportTimer (sub : Fin 8) (s : State) : Host.Outcome State Fault Refusal :=
  let p := s.sub sub
  .next ((s.igmpReport sub p.again).modSub sub fun p => { p with again := [] })

/-- ETH_LINK_CHANGE (R220): a sub-port gains or loses PCS lock and FEC alignment; a sub-port that comes up reports its groups. -/
def execEthLinkChange (sub : Fin 8) (up hiSer : Bool) (s : State) : Host.Outcome State Fault Refusal :=
  if !(s.subOn sub) then .next s else
  let was := (s.sub sub).up
  let s := s.modSub sub fun p => { p with up := up, hiSer := hiSer }
  if up == was then .next s
  else if !up then .next (s.evtAt (srcSub sub) Ev.ethLinkDown [sub.val / 2, sub.val % 2])
  else
    let s := s.evtAt (srcSub sub) Ev.ethLinkUp [sub.val / 2, sub.val % 2]
    let recs := (s.sub sub).groups.flatMap fun g => groupChange g.1 none (some g.2)
    .next ((s.modSub sub fun p => { p with again := recs, repTick := s.ticks }).igmpReport sub recs)

end Sys2Proof.Machine
end

