-- ==== Sys2Proof/Machine/TimeBase.lean ====
section
/-! DEFINITION. The time base (08_time_base.md): the step, the choice of a source and its discipline, OFFSET_LARGE, re-step requests
and their decision, and LAPREF_IN (R222 to R243), with the commands of the family. -/

namespace Sys2Proof.Machine

/-- A signed number held to 32 bits. -/
def sat32 (x : Int) : Nat := sw (clampI (-(2 ^ 31 - 1 : Int)) (2 ^ 31 - 1) x)

/-- The offset estimate of the selected source, ns; 0 with none. -/
def TimeBase.est (t : TimeBase) : Int := if t.sel == 0 then 0 else t.offs.getD (t.sel - 1) 0

/-- The counter set to a wall time in whole nanoseconds, the fraction unchanged. -/
def TimeBase.setWall (t : TimeBase) (w : Int) : TimeBase :=
  { t with sec := ((w / giga) % (2 ^ 48 : Int)).toNat, ns := (w % giga).toNat }

/-- A PTP slot's stamps brought to the stepped counter. -/
def PtpSlot.shift (d : Int) (p : PtpSlot) : PtpSlot :=
  let k := d * 655360
  { p with sync := p.sync.map (fun r => { r with t2 := r.t2 + k }), dreqT3 := p.dreqT3.map (· + k), pdT4 := p.pdT4 + k,
           offset := p.offset - k, last := p.last.map fun x => (x.1, x.2 + k) }

/-- OFFSET_LARGE judged from the selected source's offset (R234). -/
def State.judgeLarge (s : State) : State :=
  let o := s.tb.est
  if !s.tb.large && 1000000 < o.natAbs then { s with tb := { s.tb with large := true } }.ev Ev.tbOffsetLarge [sat32 o]
  else if s.tb.large && o.natAbs < 1000 then { s with tb := { s.tb with large := false } }
  else s

/-- The counter stepped by whole nanoseconds (R232, R236): every estimate moves with it, and schedule occurrences passed by the
first step are not considered (R339). -/
def State.applyStep (s : State) (d : Int) : State :=
  let w := s.wall + d
  let t := s.tb.setWall w
  let marks := if s.tb.stepped then s.sc.schedMarks else s.sc.schedMarks.map (max · w)
  let ps := s.ports.map fun q => { q with marks := q.marks.map fun m => (m.1, m.2 + d * 2 ^ 32) }
  let s := { s with ports := ps,
                    tb := { t with stepped := true, firstDue := false, offs := t.offs.map (· - d), ptp := t.ptp.map (PtpSlot.shift d) },
                    sc := { s.sc with schedMarks := marks } }
  (s.ev Ev.tbStepped [sat32 d, s.tb.sel]).judgeLarge

/-- Whether a change is fixed that holds a re-step request (R235). -/
def State.changeFixed (s : State) : Bool :=
  (s.tl.fixed && s.tl.pend.isSome) || s.tl.fullB.isSome || s.tl.limpB.isSome || s.tl.fullAsk || s.tl.limpAsk

/-- A re-step asked for: accepted, or held until a fixed change has taken effect (R235). -/
def State.askStep (s : State) : State :=
  if s.changeFixed then { s with tl := { s.tl with stepHeld := true } } else s.acceptStep

/-- The first step (R232): at once before the entry into SB3, and as a re-step from then on; a re-step that is pending serves
(Table 8.6). With RELAY selected it waits for the first offset measured, since R232 adds an estimate (DESIGN CHOICE, log 100). -/
def State.firstStep (s : State) : State :=
  if s.tb.stepped || s.tb.sel == 0 || (s.tb.sel == 3 && !s.rl.measured) then s
  else if !s.tl.on then s.applyStep s.tb.est
  else if s.tl.stepB.isSome || s.tl.stepHeld then s
  else { s with tb := { s.tb with firstDue := true } }.askStep

/-- Whether a source may be used: its bit in SRC_EN and its unit (R226). -/
def State.srcOn (s : State) (i : Nat) : Bool := wbit (s.rws Reg.tbCfg) (28 + i) && (2 ≤ i || s.variant.net)

/-- Whether a source can be selected: qualified, and in use (R226). -/
def State.usable (s : State) (i : Nat) : Bool := s.tb.qual.getD i false && s.srcOn i

/-- REVERT_S and SLEW_PPM. -/
def State.revertS (s : State) : Nat := let v := wfld (s.rws Reg.tbCfg) 27 20; if v == 0 then 10 else v
def State.slewPpm (s : State) : Nat := let v := wfld (s.rws Reg.tbCfg) 19 13; if 1 ≤ v && v ≤ 100 then v else 10

/-- The source selected next (R227), as a number of TB_STATUS. -/
def State.nextSel (s : State) : Nat :=
  let q := idxs 4 s.usable
  let cur := s.tb.sel
  if cur != 0 && s.usable (cur - 1) then
    match (q.filter fun i => i < cur - 1 && s.past (s.tb.qualTick.getD i 0) (s.revertS * secT)) with
    | i :: _ => i + 1
    | [] => cur
  else match q with
    | i :: _ => i + 1
    | [] => 0

/-- The selection brought up to date (R227, R228), with the first step when a source is first selected (R232). -/
def State.select (s : State) : State :=
  let n := s.nextSel
  let old := s.tb.sel
  let s := { s with tb := { s.tb with judge := false } }
  if n == old then s
  else
    let s := { s with tb := { s.tb with sel := n, prev := if n == 0 then s.tb.prev else n } }
    let s := (s.ev Ev.tbSourceChange [old, n]).bump Reg.tbSwitches
    if n == 0 then (if s.tb.stepped then s.ev Ev.tbHoldover [old] else s) else s.judgeLarge.firstStep

/-- The choice of source at the end of a tick in which a qualification or SRC_EN has changed (Table 8.6). -/
def State.settleSource (s : State) : State := if s.tb.judge then s.select else s

/-- A source's qualification set (R226). The source is chosen at the end of the tick, from all that it has brought (Table 8.6). -/
def State.setQual (s : State) (i : Nat) (b : Bool) : State :=
  let was := s.tb.qual.getD i false
  if b == was then s
  else
    let qt := if b then setAt s.tb.qualTick i s.ticks else s.tb.qualTick
    { s with tb := { s.tb with qual := setAt s.tb.qual i b, qualTick := qt, judge := true } }

/-- The increment a source asks for (R223, R233): rate and pull-in over the nominal increment, within ±200 ppm of it and within
1 ppm of the present one. -/
def State.nextIncr (s : State) : Nat :=
  let nom := s.nomIncr
  let lim := fun (ppm : Nat) => (ppm * 2 ^ 32 / 1000000 : Int)
  let slew := lim s.slewPpm
  let pull := clampI (-slew) slew (Config.pullIn s.tb.est).toInt
  let corr := clampI (-(lim 200)) (lim 200) (s.tb.rates.getD (s.tb.sel - 1) 0 + pull)
  let want := (nom : Int) + (nom : Int) * corr / (2 ^ 32 : Int)
  let step := (nom / 1000000 : Int)
  (clampI ((s.tb.incr : Int) - step) ((s.tb.incr : Int) + step) want).toNat

/-- The increment brought towards what the selected source asks for, at most once a second (R223, R233). -/
def State.discipline (s : State) : State :=
  if s.tb.sel == 0 || !s.tb.stepped || !(s.past s.tb.incrTick secT) then s
  else { s with tb := { s.tb with incr := s.nextIncr, incrTick := s.ticks } }

/-- An offset estimate of a source; the selected one disciplines (R233, R234). -/
def State.newOffset (s : State) (i : Nat) (off : Int) : State :=
  let s := { s with tb := { s.tb with offs := setAt s.tb.offs i off } }
  if s.tb.sel == i + 1 then s.judgeLarge.discipline.firstStep else s

/-- A rate estimate of a source. -/
def State.newRate (s : State) (i : Nat) (r : Int) : State := { s with tb := { s.tb with rates := setAt s.tb.rates i r } }

/-- SOURCE_REVERT_TIMER (R227): a source of better rank has been qualified for REVERT_S. -/
def execSourceRevertTimer (s : State) : Host.Outcome State Fault Refusal := .next s.select

/-- TB_NOW_NS read (R225): the snapshot, and the nanoseconds returned. -/
def State.snapshot (s : State) : State :=
  { s with tb := { s.tb with snapSec := s.tb.sec, snapNs := s.tb.ns, snapFrac := s.tb.frac } }

def execTbNowNsRead (s : State) : Host.Outcome State Fault Refusal := .next (s.snapshot.send (.readWords [Word.of s.tb.ns]))

/-- A write to TB_RESTEP (R235). -/
def State.writeRestep (s : State) (value : Word) : State :=
  if !(wbit value 0) then s
  else if !s.tb.large || !s.tl.on || s.boot.stage == 6 || s.tl.stepB.isSome || s.tl.stepHeld then s.bump Reg.restepRefused
  else s.askStep

/-- TB_RESTEP (R235): GO. -/
def execTbRestep (value : Word) (s : State) : Host.Outcome State Fault Refusal := .next (s.writeRestep (wput value 0 0 1))

/-- RESTEP_DECISION_POINT (R236): 2,000 µs before B the re-step is committed, or cancelled by an offset below 1 µs. -/
def execRestepDecisionPoint (s : State) : Host.Outcome State Fault Refusal :=
  match s.tl.stepB, s.tl.stepGo with
  | some b, none =>
    if s.wall < b - 2000000 then .next s
    else if s.tb.est.natAbs < 1000 then
      .next ({ s with tl := { s.tl with stepGo := some false }, tb := { s.tb with firstDue := false } }.ev Ev.restepCancelled
        [sat32 s.tb.est])
    else .next { s with tl := { s.tl with stepGo := some true } }
  | _, _ => .next s

/-- A stamp of the counter with the resolution of R231, in units of 0.1 ns; `phase` is the eighth of a tick, 0.2 ns. -/
def State.stamp10 (s : State) (phase : Nat) : Int :=
  s.wall * 10 + (2 * (5 * s.tb.frac / 2 ^ 32) + 2 * phase : Nat)

/-- The symbol of a pulse width in units of 0.1 µs (Table 8.5): 0, 1, 2 marker, 3 invalid. -/
def laprefSym (w : Nat) : Nat :=
  if 10 ≤ w && w ≤ 30 then 0 else if 50 ≤ w && w ≤ 70 then 1 else if 90 ≤ w && w ≤ 110 then 2 else 3

/-- Whole seconds between two ticks, to the nearest. -/
def secsBetween (a b : Nat) : Nat := (b - a + secT / 2) / secT

/-- The word after a symbol (R239): a marker begins one, and a symbol missing or invalid discards it. -/
def nextWord (w : Option (List Bool)) (sym n : Nat) : Option (List Bool) :=
  if sym == 2 then some []
  else if n != 1 || sym == 3 then none
  else w.map fun l => l ++ [sym == 1]

/-- A LAPREF edge taken with its symbol (R238 to R240): phase, word and qualification. After a mismatch the valid seconds are counted
anew (DESIGN CHOICE, log 118). -/
def State.laprefEdge (s : State) (sym : Nat) (at10 : Int) : State :=
  let l := s.tb.lapref
  let n := match l.edgeTick with | some t => secsBetween t s.ticks | none => 0
  let word := nextWord l.word sym n
  let secs := l.secs + n
  let run := if n == 1 then min 3 (l.run + 1) else 1
  let l' := { l with mark := if sym == 2 then some s.ticks else l.mark, word := word, secs := secs, run := run, edgeTick := some s.ticks }
  let s := { s with tb := { s.tb with lapref := l' } }
  let s := match word with
    | some bits =>
      if bits.length != 48 then s else
      let v := maskOf bits
      let here := v + 48
      let near := (at10 + 5 * giga) / (10 * giga : Nat)
      let s := { s with tb := { s.tb with lapref := { l' with word := none, decoded := true, secs := here } } }
      if l.decoded && s.tb.stepped && near != here then
        let s := ((s.ev Ev.laprefMismatch [v % 2 ^ 32]).newOffset 3 ((here - near) * giga)).setQual 3 false
        { s with tb := { s.tb with lapref := { s.tb.lapref with run := 0 } } }
      else s
    | none => s
  let l := s.tb.lapref
  if !l.decoded then s
  else
    let off10 := (l.secs : Int) * (10 * giga : Nat) - at10
    let s := s.newOffset 3 ((off10 + 5) / 10)
    let s := s.newRate 3 (Config.rateEstimate 3 (n * giga) at10).toInt
    if 3 ≤ l.run then s.setQual 3 true else s

/-- Distance of a stamp from the nearest whole second, ns. -/
def phaseNs (at10 : Int) : Nat :=
  let ns := (at10 / 10) % giga
  if ns < (giga / 2 : Nat) then ns.toNat else (giga - ns).toNat

/-- LAPREF_PULSE (R238): a pulse whose rising edge is now, `width` long in units of 0.1 µs. -/
def execLaprefPulse (width : Nat) (phase : Fin 8) (s : State) : Host.Outcome State Fault Refusal :=
  let sym := laprefSym width
  let at10 := s.stamp10 phase
  let s := { s with tb := { s.tb with lapref := { s.tb.lapref with width := min width 65535, sym := sym } } }
  let far := s.tb.lapref.decoded && 1000000 < phaseNs at10
  if sym == 3 || far then
    .next ({ s with tb := { s.tb with lapref := { s.tb.lapref with word := none } } }.bump Reg.laprefBad)
  else .next (s.laprefEdge sym at10)

/-- LAPREF_EDGE_TIMEOUT (R240): 2 s without a valid edge. -/
def execLaprefEdgeTimeout (s : State) : Host.Outcome State Fault Refusal :=
  match s.tb.lapref.edgeTick with
  | some t =>
    if s.past t (2 * secT) && s.tb.lapref.run != 0 then
      .next ({ s with tb := { s.tb with lapref := { s.tb.lapref with run := 0, word := none } } }.setQual 3 false)
    else .next s
  | none => .next s

/-- STATE of TB_STATUS (R228). -/
def TimeBase.state (t : TimeBase) : Nat :=
  if t.stepped then (if t.sel == 0 then 3 else 2) else if t.sel == 0 then 0 else 1

/-- The split of the pending re-step's boundary. -/
def State.restepSplit (s : State) : Nat := match s.tl.stepB with | some b => splitOf b | none => 0

/-- The time base's registers outside the PTP slots. -/
def State.readTb (s : State) (off : Nat) : Option Word :=
  let t := s.tb
  if off == Reg.tbIncrLo then some (Word.of (t.incr % 2 ^ 32))
  else if off == Reg.tbIncrHi then some (Word.of (t.incr / 2 ^ 32))
  else if off == Reg.tbStatus then
    some (Word.of (at_ (b2n t.stepped) 31 + at_ t.state 28 + at_ t.sel 25 + at_ (maskOf t.qual) 20
      + at_ (b2n (s.tl.stepB.isSome && s.tl.stepGo != some false)) 16 + at_ (b2n t.large) 15 + at_ (b2n t.lapref.decoded) 14))
  else if off == Reg.tbOffset then some (Word.of (sat32 t.est))
  else if off == Reg.tbNowSecLo then some (Word.of (t.snapSec % 2 ^ 32))
  else if off == Reg.tbNowSecHi then some (Word.of (t.snapSec / 2 ^ 32))
  else if off == Reg.tbNowFrac then some (Word.of t.snapFrac)
  else if off == Reg.tbNowNs then some (Word.of t.snapNs)
  else if off == Reg.tbSplitLo then some (Word.of (splitOf ((t.snapSec * giga + t.snapNs : Nat) : Int) % 2 ^ 32))
  else if off == Reg.tbSplitHi then some (Word.of (splitOf ((t.snapSec * giga + t.snapNs : Nat) : Int) / 2 ^ 32))
  else if off == Reg.tbRestepAtLo then some (Word.of (s.restepSplit % 2 ^ 32))
  else if off == Reg.tbRestepAtHi then some (Word.of (s.restepSplit / 2 ^ 32))
  else if off == Reg.laprefStatus then
    let pos := match t.lapref.mark with | some m => min 63 ((s.ticks - m) / secT) | none => 0
    some (Word.of (at_ t.lapref.width 16 + at_ t.lapref.sym 6 + pos))
  else none

end Sys2Proof.Machine
end

