-- ==== Sys2Proof/Machine/Ptp.lean ====
section
/-! DEFINITION. The PTP slots (08_time_base.md, R229 to R231): messages taken and sent, masters, measurements and qualification, with
the commands of the family. A message comes as its UDP payload, with the eighth of a tick at which its frame crossed the MII
boundary. -/

namespace Sys2Proof.Machine

/-- Fields of PTP_CFG. -/
def State.ptpSub (s : State) (a : Nat) : Nat :=
  let w := s.rws (Reg.ptpCfg a); 2 * wfld w 9 8 + b2n (wbit w 10)
def State.ptpDomain (s : State) (a : Nat) : Nat := wfld (s.rws (Reg.ptpCfg a)) 7 0
def State.ptpP2p (s : State) (a : Nat) : Bool := wbit (s.rws (Reg.ptpCfg a)) 11
def State.ptpTimeout (s : State) (a : Nat) : Nat :=
  let v := wfld (s.rws (Reg.ptpCfg a)) 23 20; if 2 ≤ v && v ≤ 10 then v else 3
def State.ptpLog (s : State) (a : Nat) : Int := sint 4 (wfld (s.rws (Reg.ptpCfg a)) 19 16)

/-- Whether a slot runs: its unit is present and its sub-port exists. -/
def State.ptpOn (s : State) (a : Nat) : Bool := s.variant.net && s.cfg.loaded && s.subOn (s.ptpSub a)

/-- Ticks of 2^k seconds. -/
def logTicks (k : Int) : Nat := if 0 ≤ k then secT * 2 ^ k.toNat else secT / 2 ^ (-k).toNat

/-- Latencies of Table 8.3 and the integrator's corrections, units of 0.1 ns (R231). -/
def State.rxLat (s : State) (e : Nat) : Nat :=
  (if s.ethMode e == 1 then 2144 else 2266) + wfld (s.rws (Reg.tsAdj e)) 31 16
def State.txLat (s : State) (e : Nat) : Nat :=
  (if s.ethMode e == 1 then 960 else 1024) + wfld (s.rws (Reg.tsAdj e)) 15 0

/-- Receive and transmit stamps in units of 1/655,360 ns (R231). -/
def State.rxStamp (s : State) (i phase : Nat) : Int := (s.stamp10 phase - s.rxLat (i / 2)) * 65536
def State.txStamp (s : State) (i phase : Nat) : Int := (s.stamp10 phase + s.txLat (i / 2)) * 65536

/-- A PTP message's header and times. -/
structure PtpHdr where
  type  : Nat
  domain : Nat
  twoStep : Bool
  corr  : Int               -- units of 1/655,360 ns
  clock : Nat
  port  : Nat
  seq   : Nat
  log   : Int
  time  : Int               -- bytes 34 to 43, units of 1/655,360 ns
  deriving DecidableEq, Repr

/-- A time of 6 bytes of seconds and 4 of nanoseconds. -/
def ptpTime (d : List Byte) (off : Nat) : Int := ((beAt d off 6 * giga + beAt d (off + 6) 4 : Nat) : Int) * 655360

/-- Length of each message type that is used (IEEE 1588-2019). -/
def ptpLen (t : Nat) : Nat :=
  match t with
  | 0 => 44 | 1 => 44 | 2 => 54 | 3 => 54 | 8 => 44 | 9 => 54 | 0xA => 54 | 0xB => 64
  | _ => 34

/-- The header of a message; none when it is malformed: too short, another version, or a length beyond its bytes (R230). -/
def PtpHdr.parse (d : List Byte) : Option PtpHdr :=
  let t := leAt d 0 1 % 16
  let n := beAt d 2 2
  if d.length < 34 || leAt d 1 1 % 16 != 2 || 1 < leAt d 1 1 / 16 || d.length < n || n < ptpLen t then none else
  some { type := t, domain := leAt d 4 1, twoStep := nbit (leAt d 6 1) 1, corr := sint 64 (beAt d 8 8) * 10, clock := beAt d 20 8
         port := beAt d 28 2, seq := beAt d 30 2, log := sint 8 (leAt d 33 1), time := ptpTime d 34 }

/-- Slots on a sub-port. -/
def State.slotsOn (s : State) (i : Nat) : List Nat := [0, 1].filter fun a => s.ptpOn a && s.ptpSub a == i

/-- A message handed to every slot of its sub-port and domain; a malformed one is counted (R230). -/
def State.ptpEach (s : State) (i t : Nat) (d : List Byte) (f : State → Nat → PtpHdr → State) : State :=
  (s.slotsOn i).foldl (fun s a => match PtpHdr.parse d with
    | none => s.bump (Reg.badMessages a)
    | some h => if h.type == t && h.domain == s.ptpDomain a then f s a h else s) s

/-- Whether a message comes from the slot's selected master. -/
def PtpSlot.fromMaster (p : PtpSlot) (h : PtpHdr) : Bool := p.sel == some (h.clock, h.port)

/-- What the dataset comparison of IEEE 1588-2019 orders two masters by (R230): of one grandmaster, the distance and the sender; of two,
their datasets. -/
def Master.near (m : Master) : List Nat := [m.steps, m.clock, m.port]
def Master.data (m : Master) : List Nat := [m.prio1, m.cls, m.acc, m.var, m.prio2, m.gm]
def lexLt : List Nat → List Nat → Bool
  | a :: as, b :: bs => if a == b then lexLt as bs else a < b
  | _, _ => false

/-- Whether a master is better than another. -/
def Master.better (m k : Master) : Bool := if m.gm == k.gm then lexLt m.near k.near else lexLt m.data k.data

/-- The best master known. -/
def bestMaster (l : List Master) : Option Master :=
  l.foldl (fun b m => match b with
    | none => some m
    | some k => if m.better k then some m else some k) none

/-- A slot's master chosen; a change is recorded, and measuring begins anew (R230). -/
def State.chooseMaster (s : State) (a : Nat) : State :=
  let p := s.ptp a
  let sel := (bestMaster (p.masters.filter fun m => m.steps < 255)).map fun m => (m.clock, m.port)
  if sel == p.sel then s
  else
    let s := s.modPtp a fun p =>
      { p with sel := sel, good := 0, missed := 0, sync := none, syncTick := s.ticks, meas := false, dreqT3 := none, delayOk := false,
               pdT2 := none, last := none }
    (s.bump (Reg.masterChanges a)).ev Ev.ptpMasterChange [a, (match sel with | some x => x.1 % 2 ^ 32 | none => 0)]

/-- A slot loses qualification (R229). -/
def State.ptpLost (s : State) (a : Nat) : State :=
  (s.modPtp a fun p => { p with qual := false, good := 0 }).setQual a false

/-- Whether a master's Announce messages have stopped for the receipt timeout (R229). -/
def State.masterLate (s : State) (a : Nat) (m : Master) : Bool := s.past m.tick (s.ptpTimeout a * logTicks m.logInt)

/-- An Announce message (R230): one of at most 8 foreign masters; those that have fallen silent, other than the selected one, which has a
timeout of its own, no longer count. -/
def State.announce (s : State) (a : Nat) (h : PtpHdr) (d : List Byte) : State :=
  let m : Master :=
    { clock := h.clock, port := h.port, prio1 := leAt d 47 1, cls := leAt d 48 1, acc := leAt d 49 1, var := beAt d 50 2
      prio2 := leAt d 52 1, gm := beAt d 53 8, steps := beAt d 61 2, logInt := h.log, tick := s.ticks }
  let s := s.modPtp a fun p =>
    { p with masters := p.masters.filter fun x => !(s.masterLate a x) || p.sel == some (x.clock, x.port) || (x.clock == m.clock && x.port == m.port) }
  let p := s.ptp a
  let known := p.masters.any fun x => x.clock == m.clock && x.port == m.port
  if !known && 8 ≤ p.masters.length then s
  else
    let rest := p.masters.filter fun x => !(x.clock == m.clock && x.port == m.port)
    (s.modPtp a fun p => { p with masters := rest ++ [m] }).chooseMaster a

/-- A complete measurement (R229): the offset of the master from the counter, and its rate. -/
def State.measured (s : State) (a : Nat) (r : SyncRec) (t1 : Int) : State :=
  let p := s.ptp a
  let raw := t1 + r.corr + p.delay - r.t2
  let off := (Config.offsetFilter p.offset raw).toInt
  let rate := match p.last with
    | some (x, y) => (Config.rateEstimate a (t1 + r.corr - x) (r.t2 - y)).toInt
    | none => s.tb.rates.getD a 0
  let good := min 16 (p.good + 1)
  let s := s.modPtp a fun p =>
    { p with offset := off * 655360, good := good, missed := 0, meas := true, syncTick := s.ticks, sync := none,
             last := some (t1 + r.corr, r.t2), qual := p.qual || good == 16 }
  let s := (s.newRate a rate).newOffset a off
  if good == 16 then s.setQual a true else s

/-- A Sync that has its origin time, with a delay known, completes a measurement. -/
def State.tryMeasure (s : State) (a : Nat) : State :=
  let p := s.ptp a
  match p.sync with
  | some r => match r.t1 with
    | some t1 => if p.delayOk then s.measured a r t1 else s
    | none => s
  | none => s

/-- A Sync message (R230). -/
def State.syncMsg (s : State) (a phase : Nat) (h : PtpHdr) : State :=
  let p := s.ptp a
  if !(p.fromMaster h) || h.log < -7 || 1 < h.log then s else
  let r : SyncRec := ⟨h.seq, s.rxStamp (s.ptpSub a) phase, h.corr, if h.twoStep then none else some h.time⟩
  (s.modPtp a fun p => { p with sync := some r, syncLog := h.log }).tryMeasure a

/-- A Follow_Up message. -/
def State.followUp (s : State) (a : Nat) (h : PtpHdr) : State :=
  let p := s.ptp a
  match p.sync with
  | some r =>
    if !(p.fromMaster h) || r.seq != h.seq || r.t1.isSome then s
    else (s.modPtp a fun p => { p with sync := some { r with corr := r.corr + h.corr, t1 := some h.time } }).tryMeasure a
  | none => s

/-- A mean path delay measured. -/
def State.gotDelay (s : State) (a : Nat) (d : Int) : State :=
  (s.modPtp a fun p => { p with delay := d, delayOk := true, dreqT3 := none, pdT2 := none }).tryMeasure a

/-- The slot's own port identity: the EUI-64 of its port's MAC address, and the slot's number. -/
def State.ptpId (s : State) (a : Nat) : List Byte :=
  let m := s.mac (s.ptpSub a / 2)
  m.take 3 ++ [0xFF, 0xFE] ++ m.drop 3 ++ beBytes 2 (a + 1)

/-- Whether a response names the slot. -/
def State.forMe (s : State) (a : Nat) (d : List Byte) : Bool := slice d 44 10 == s.ptpId a

/-- A Delay_Resp message (R230): it ends an end-to-end measurement and grants the interval. -/
def State.delayResp (s : State) (a : Nat) (h : PtpHdr) (d : List Byte) : State :=
  let p := s.ptp a
  match p.dreqT3, p.last.orElse (fun _ => p.sync.bind fun r => r.t1.map fun t => (t + r.corr, r.t2)) with
  | some t3, some (t1, t2) =>
    if s.ptpP2p a || !(p.fromMaster h) || !(s.forMe a d) || h.seq != p.dreqSeq then s
    else (s.modPtp a fun p => { p with dreqLog := h.log }).gotDelay a (((t2 - t1) + (h.time - h.corr - t3)) / 2)
  | _, _ => s

/-- A Pdelay_Resp message in peer-to-peer mode: one-step, or waiting for its Follow_Up. -/
def State.pdelayResp (s : State) (a phase : Nat) (h : PtpHdr) (d : List Byte) : State :=
  let p := s.ptp a
  match p.dreqT3 with
  | some t1 =>
    if !(s.ptpP2p a) || !(s.forMe a d) || h.seq != p.dreqSeq then s
    else
      let t4 := s.rxStamp (s.ptpSub a) phase
      if h.twoStep then s.modPtp a fun p => { p with pdT2 := some (h.time - h.corr), pdT4 := t4 }
      else s.gotDelay a ((t4 - t1 - h.corr) / 2)
  | none => s

/-- A Pdelay_Resp_Follow_Up message. -/
def State.pdelayFollow (s : State) (a : Nat) (h : PtpHdr) (d : List Byte) : State :=
  let p := s.ptp a
  match p.dreqT3, p.pdT2 with
  | some t1, some t2 =>
    if !(s.ptpP2p a) || !(s.forMe a d) || h.seq != p.dreqSeq then s
    else s.gotDelay a (((p.pdT4 - t1) - (h.time + h.corr - t2)) / 2)
  | _, _ => s

/-- The 34-byte header of a sent message: version 2, minor version 1 (R230). -/
def State.ptpHead (s : State) (a type len flags seq : Nat) (log corr : Int) : List Byte :=
  [byte type, 0x12] ++ beBytes 2 len ++ [byte (s.ptpDomain a), 0] ++ beBytes 2 flags ++ beBytes 8 (twos 64 corr) ++ List.replicate 4 0 ++ s.ptpId a
  ++ beBytes 2 seq ++ [0, byte (twos 8 log)]

/-- A time in 10 bytes, from units of 1/655,360 ns. -/
def timeBytes (t : Int) : List Byte :=
  let ns := (t / 655360).toNat
  beBytes 6 (ns / giga) ++ beBytes 4 (ns % giga)

/-- A PTP message sent on the slot's sub-port with its DSCP (R229); the TTL of the domain's group is not stated. -/
def State.ptpSend (s : State) (a port : Nat) (peer : Bool) (body : List Byte) : State :=
  let tos := 4 * wfld (s.rws (Reg.ptpCfg a)) 29 24
  let ttl := if peer then 1 else (Config.code 0x0800 0).toNat % 256
  s.udpSend (s.ptpSub a) tos ttl (if peer then 0xE000006B else 0xE0000181) port port body

/-- A peer's Pdelay_Req answered two-step in peer-to-peer mode (R230); the Follow_Up carries the request's correction, as IEEE 1588-2019
has it. -/
def State.pdelayReq (s : State) (a phase : Nat) (h : PtpHdr) (d : List Byte) : State :=
  if !(s.ptpP2p a) then s else
  let req := slice d 20 10
  let t2 := s.rxStamp (s.ptpSub a) phase
  let s := s.ptpSend a 319 true (s.ptpHead a 3 54 0x0200 h.seq 0x7F 0 ++ timeBytes t2 ++ req)
  s.ptpSend a 320 true (s.ptpHead a 0xA 54 0 h.seq 0x7F (h.corr / 10) ++ timeBytes (s.txStamp (s.ptpSub a) 0) ++ req)

/-- PTP_ANNOUNCE (R230). -/
def State.rxAnnounce (s : State) (i : Nat) (d : List Byte) : State := s.ptpEach i 0xB d fun s a h => s.announce a h d
def execPtpAnnounce (sub : Fin 8) (data : List Byte) (s : State) : Host.Outcome State Fault Refusal := .next (s.rxAnnounce sub data)

/-- PTP_SYNC (R230). -/
def State.rxSync (s : State) (i phase : Nat) (d : List Byte) : State := s.ptpEach i 0 d fun s a h => s.syncMsg a phase h
def execPtpSync (sub : Fin 8) (data : List Byte) (phase : Fin 8) (s : State) : Host.Outcome State Fault Refusal :=
  .next (s.rxSync sub phase data)

/-- PTP_FOLLOW_UP (R230). -/
def State.rxFollowUp (s : State) (i : Nat) (d : List Byte) : State := s.ptpEach i 8 d fun s a h => s.followUp a h
def execPtpFollowUp (sub : Fin 8) (data : List Byte) (s : State) : Host.Outcome State Fault Refusal := .next (s.rxFollowUp sub data)

/-- PTP_DELAY_RESP (R230). -/
def State.rxDelayResp (s : State) (i : Nat) (d : List Byte) : State := s.ptpEach i 9 d fun s a h => s.delayResp a h d
def execPtpDelayResp (sub : Fin 8) (data : List Byte) (s : State) : Host.Outcome State Fault Refusal := .next (s.rxDelayResp sub data)

/-- PTP_PDELAY_REQ (R230). -/
def State.rxPdelayReq (s : State) (i phase : Nat) (d : List Byte) : State := s.ptpEach i 2 d fun s a h => s.pdelayReq a phase h d
def execPtpPdelayReq (sub : Fin 8) (data : List Byte) (phase : Fin 8) (s : State) : Host.Outcome State Fault Refusal :=
  .next (s.rxPdelayReq sub phase data)

/-- PTP_PDELAY_RESP (R230). -/
def State.rxPdelayResp (s : State) (i phase : Nat) (d : List Byte) : State := s.ptpEach i 3 d fun s a h => s.pdelayResp a phase h d
def execPtpPdelayResp (sub : Fin 8) (data : List Byte) (phase : Fin 8) (s : State) : Host.Outcome State Fault Refusal :=
  .next (s.rxPdelayResp sub phase data)

/-- PTP_PDELAY_RESP_FOLLOW_UP (R230). -/
def State.rxPdelayFollow (s : State) (i : Nat) (d : List Byte) : State := s.ptpEach i 0xA d fun s a h => s.pdelayFollow a h d
def execPtpPdelayRespFollowUp (sub : Fin 8) (data : List Byte) (s : State) : Host.Outcome State Fault Refusal :=
  .next (s.rxPdelayFollow sub data)

/-- PTP_MANAGEMENT (R230): ignored; a malformed message is counted. -/
def State.rxManagement (s : State) (i : Nat) (d : List Byte) : State := s.ptpEach i 0xD d fun s _ _ => s
def execPtpManagement (sub : Fin 8) (data : List Byte) (s : State) : Host.Outcome State Fault Refusal := .next (s.rxManagement sub data)

/-- PTP_SIGNALING (R230): ignored; a malformed message is counted. -/
def State.rxSignaling (s : State) (i : Nat) (d : List Byte) : State := s.ptpEach i 0xC d fun s _ _ => s
def execPtpSignaling (sub : Fin 8) (data : List Byte) (s : State) : Host.Outcome State Fault Refusal := .next (s.rxSignaling sub data)

/-- A PTP message of any type, as its EtherType or ports brought it in. -/
def State.rxPtp (s : State) (i phase : Nat) (d : List Byte) : State :=
  match leAt d 0 1 % 16 with
  | 0 => s.rxSync i phase d
  | 2 => s.rxPdelayReq i phase d
  | 3 => s.rxPdelayResp i phase d
  | 8 => s.rxFollowUp i d
  | 9 => s.rxDelayResp i d
  | 0xA => s.rxPdelayFollow i d
  | 0xB => s.rxAnnounce i d
  | 0xC => s.rxSignaling i d
  | _ => s.rxManagement i d

/-- DELAY_REQ_SEND (R230): end-to-end mode, at the granted interval and never faster than 2^LOG_DELAY_REQ s. -/
def execDelayReqSend (slot : Fin 2) (phase : Fin 8) (s : State) : Host.Outcome State Fault Refusal :=
  let p := s.ptp slot
  let gap := max (logTicks p.dreqLog) (logTicks (s.ptpLog slot))
  if !(s.ptpOn slot) || s.ptpP2p slot || p.sel.isNone || !(s.past p.dreqTick gap) then .next s else
  let q := (p.dreqSeq + 1) % 65536
  let s := s.modPtp slot fun p =>
    { p with dreqSeq := q, dreqT3 := some (s.txStamp (s.ptpSub slot) phase), dreqTick := s.ticks }
  .next (s.ptpSend slot 319 false (s.ptpHead slot 1 44 0 q 0x7F 0 ++ List.replicate 10 0))

/-- PDELAY_REQ_SEND (R230): peer-to-peer mode, once per second. -/
def execPdelayReqSend (slot : Fin 2) (phase : Fin 8) (s : State) : Host.Outcome State Fault Refusal :=
  let p := s.ptp slot
  if !(s.ptpOn slot) || !(s.ptpP2p slot) || !(s.past p.dreqTick secT) then .next s else
  let q := (p.dreqSeq + 1) % 65536
  let s := s.modPtp slot fun p =>
    { p with dreqSeq := q, dreqT3 := some (s.txStamp (s.ptpSub slot) phase), dreqTick := s.ticks, pdT2 := none }
  .next (s.ptpSend slot 319 true (s.ptpHead slot 2 54 0 q 0x7F 0 ++ List.replicate 20 0))

/-- ANNOUNCE_RECEIPT_TIMEOUT (R229): the master is lost, and the slot's qualification with it. -/
def execAnnounceReceiptTimeout (slot : Fin 2) (s : State) : Host.Outcome State Fault Refusal :=
  let p := s.ptp slot
  let late := s.masterLate slot
  match p.masters.find? fun m => p.sel == some (m.clock, m.port) with
  | some m =>
    if late m then
      let s := s.modPtp slot fun p => { p with masters := p.masters.filter fun x => !(late x) }
      .next (((s.bump (Reg.announceTimeouts slot)).chooseMaster slot).ptpLost slot)
    else .next s
  | none => .next s

/-- SYNC_INTERVAL_MISS (R229): a Sync interval has passed without a complete measurement. -/
def execSyncIntervalMiss (slot : Fin 2) (s : State) : Host.Outcome State Fault Refusal :=
  let p := s.ptp slot
  if p.sel.isNone || !(s.past p.syncTick (logTicks p.syncLog)) then .next s else
  let s := (s.modPtp slot fun p => { p with missed := min 3 (p.missed + 1), good := 0, syncTick := s.ticks, meas := false }).bump
    (Reg.syncMissed slot)
  .next (if 3 ≤ p.missed + 1 then s.ptpLost slot else s)

/-- STATE of PTP_STATUS. -/
def State.ptpState (s : State) (a : Nat) : Nat :=
  let p := s.ptp a
  if !(s.ptpOn a) then 0 else if p.sel.isNone then 1 else if p.qual then 3 else 2

/-- The PTP slots' registers. -/
def State.readPtp (s : State) (off : Nat) : Option Word :=
  if off < Reg.ptpCfg 0 || Reg.ptpCfg 2 ≤ off then none else
  let a := (off - Reg.ptpCfg 0) / 0x80
  let p := s.ptp a
  match (off - Reg.ptpCfg 0) % 0x80 with
  | 0x04 => some (Word.of (at_ (match p.sel with | some x => x.2 | none => 0) 16 + at_ p.masters.length 4
      + at_ (b2n p.qual) 3 + s.ptpState a))
  | 0x08 => some (Word.of (match p.sel with | some x => x.1 % 2 ^ 32 | none => 0))
  | 0x0C => some (Word.of (match p.sel with | some x => x.1 / 2 ^ 32 | none => 0))
  | 0x10 => some (Word.of (sat32 (p.offset / 655360)))
  | 0x14 => some (Word.of (sat32 ((p.delay + 327680) / 655360)))
  | 0x18 => some (Word.of (sat32 (s.tb.rates.getD a 0 * 1000000000000 / (2 ^ 32 : Int))))
  | _ => none

end Sys2Proof.Machine
end

