-- ==== Sys2Proof/Machine/Census.lean ====
section
/-! DEFINITION. The census of a port (06_chain_protocol.md, 12_starting_blocks.md): enumeration, the judgement of tiles, the reads of
pass 2, the lamp entries they give (R18 to R20, R79, R85, R89 to R91, R182 to R189, R316, R337, R359), chain delays, and the pairing of
a standby's port (R409). -/

namespace Sys2Proof.Machine

/-- Wall time in whole milliseconds, as MARK holds it (R88). -/
def State.nowMs (s : State) : Nat := ((s.wall / 1000000) % (2 ^ 32 : Int)).toNat

/-- The type of a tile. -/
def State.typeOf (s : State) (t : Tile) : Option TileType := s.cfg.type? t.typeId

/-- A tile's number in events and registers. -/
def Tile.num (t : Tile) : Nat := tileNo t.port t.pos

/-- Whether this is an ACTIVE unit with a STANDBY that is not COLD (R415, R416). -/
def State.hasWarm (s : State) : Bool := s.rl.role == .active && s.rl.pRole == some .standby && !(nbit s.rl.pFlags 6)

/-- Whether this unit mirrors its inputs to its partner (R415); without the link the mirror stops (Table 17.5). -/
def State.mirrors (s : State) : Bool := s.hasWarm && s.rl.up

/-- delta_h of a hop (R183): RT of the hop less the turnaround of the tile at its end. -/
def Tile.delta (t : Tile) : Int := ((t.rt : Int) - t.tt.getD t.side 0 + 1) / 2

/-- RL of a tile from its timing side to its other side. -/
def Tile.repeatLat (t : Tile) : Nat := t.rl.getD t.side 0

/-- Chain delays by position (R183): the tiles in order of position, with the delay so far. -/
def delayChain : Int → List Tile → List Int
  | _, [] => []
  | acc, t :: ts => (acc + t.delta) :: delayChain (acc + t.delta + t.repeatLat) ts

/-- The tiles of a port by position. -/
def State.byPos (s : State) (p : Nat) : List Tile := (List.range 32).filterMap fun q => s.tile? p q

/-- The delays of a port's tiles brought up to date, as far as every hop has been measured (R183). -/
def State.setDelays (s : State) (p : Nat) : State :=
  let ts := (s.byPos p).takeWhile (·.rtOk)
  (ts.zip (delayChain 0 ts)).foldl (fun s x => s.modTile p x.1.pos fun t => { t with delay := x.2.toNat }) s

/-- Whether the unit is a standby on a port: it holds no tile of a shared port in the role STANDBY (R410). -/
def State.standsBy (s : State) (p : Nat) : Bool := s.rl.role == .standby && s.shared p && s.heldOn p == 0

/-- Whether the unit may run a census on a port (R186, R409, R424). -/
def State.mayCensus (s : State) (p : Nat) : Bool :=
  if !(s.shared p) then true else
  match s.rl.role with
  | .alone => true
  | .active => !((s.rport p).split)
  | .solo => !((s.rport p).split)
  | .standby =>
    if s.rl.cold then (s.rport p).beatTick.isSome && (s.rl.pRole == some .active || s.rl.pRole == some .solo)
    else s.rl.ports.any fun r => r.ready.isSome
  | .pairing => false
  | .unpaired => false

/-- Whether a census that starts now runs in the two passes of a start (R316). -/
def State.startsTwo (s : State) (p : Nat) : Bool :=
  (s.port p).passes == 0 && (s.boot.stage == 3 || s.boot.stage == 4) && s.boot.sealWhen == .notYet

/-- A port's census changed. -/
def State.modCensus (s : State) (p : Nat) (f : Census → Census) : State := s.modPort p fun q => { q with census := f q.census }

/-- A CENSUS frame (Table 6.7). -/
def State.censusFrame (s : State) (p op addr : Nat) (retry : Bool) (body : List Byte) : State :=
  s.queueFrame p { posFrame .census addr op body with retry := retry }

/-- ENUM with the port's NEXT. -/
def State.sendEnum (s : State) (p : Nat) : State :=
  (s.censusFrame p 2 63 false [byte (s.port p).census.next, 0, 0, 0]).modCensus p fun c => { c with tick := s.ticks }

/-- A census of a port begun: FORGET, then ENUM with NEXT 0 (R186). -/
def State.startCensus (s : State) (p : Nat) : State :=
  let pass := b2n (s.startsTwo p)
  let s := s.modCensus p fun _ => ⟨1, .enum, pass, 0, [], s.ticks, [], [], 0, 0⟩
  (s.censusFrame p 1 63 false []).sendEnum p

/-- A port that is up and has waited for its census begins it (R409). -/
def State.startWaiting (s : State) (p : Nat) : State :=
  let q := s.port p
  if q.up && q.census.phase == .idle && s.mayCensus p then s.startCensus p else s

/-- A tile from its record (Table 6.9), not yet judged. -/
def Tile.ofRecord (p q : Nat) (r : List Byte) : Tile :=
  { port := p, pos := q, id := leAt r 0 8, typeId := leAt r 8 2, proto := leAt r 10 1, side := leAt r 11 1 % 2
    lampsN := leAt r 12 4, len1 := leAt r 16 4, len2 := leAt r 20 4, rl := [leAt r 24 2, leAt r 26 2], tt := [leAt r 28 2, leAt r 30 2]
    admitted := false, cause := 0, calOk := false, placed := false, part1 := [], part2 := [], base := 0, no := 0, state := 0, lanes := 15
    holder := none, tempM := 0, tempA := 0, tempOk := false, tempTick := 0, stale := false, rt := 0, rtCand := none, rtOk := false
    delay := 0, cc := 0, trim := [0, 0, 0], ref := [0, 0, 0], sense := [none, none, none], senseTick := 0
    dark := [false, false, false], limit := [false, false, false], lamps := [], words := [], pairs := [], scans := []
    scanDue := [], scanTick := [], ptr := 0, probes := [], ageOut := [], ageTodo := [] }

/-- A tile with what hop 0 has been measured to be. -/
def Tile.measured (rt0 : Option Nat) (t : Tile) : Tile :=
  match t.pos, rt0 with
  | 0, some r => { t with rt := r, rtOk := true }
  | _, _ => t

/-- A tile for the judgement of its delay: a hop that has not been measured counts as none. -/
def Tile.noHop (t : Tile) : Tile := if t.rtOk then t else { t with rt := t.tt.getD t.side 0 }

/-- A tile put into census order (R14). -/
def insertTile (t : Tile) : List Tile → List Tile
  | [] => [t]
  | x :: xs => if t.num ≤ x.num then t :: x :: xs else x :: insertTile t xs

/-- The refusal cause of a tile, 0 for none (R20, R185, R189, R316), its delay given. -/
def State.judge (s : State) (t : Tile) (delay : Int) : Nat :=
  let adm := s.tiles.filter (·.admitted)
  let lamps := (adm.map (·.lampsN)).foldl (· + ·) 0
  if s.tiles.any (fun x => x.cause == 1 && x.num < t.num) then 1
  else match s.typeOf t with
    | none => 2
    | some ty =>
      if t.lampsN != ty.lamps then 3
      else if t.proto != 1 then 4
      else if 65535 < delay then 5
      else if 2 ^ s.variant.lampLog2 < lamps + t.lampsN || 512 ≤ adm.length || 32 ≤ t.pos then 1
      else 0

/-- A refusal recorded (R189): an S1 fault for each tile that R20 refuses. -/
def State.refused (s : State) (t : Tile) (cause : Nat) : State :=
  let s := s.ev Ev.tileRefused [t.port, t.pos, cause]
  if cause == 1 then s.fault Fk.tileRefused (fsTile t.port t.pos) [t.port, t.pos, cause] else s

/-- The PLACEMENT of a tile, if one matches it (R337). -/
def Cfg.placeOf (c : Cfg) (t : Tile) : Option Placement :=
  match c.places.find? fun p => p.port == t.port && p.pos == t.pos with
  | some p => if p.typeId == t.typeId && (p.tileId == 0 || p.tileId == t.id) then some p else none
  | none => none

/-- A tile judged and entered (R20, R189, R337): its delay is the sum over the hops measured so far. -/
def State.enterTile (s : State) (x : Tile × Int) : State :=
  let t := x.1
  let c := s.judge t x.2
  if c != 0 then { s with tiles := insertTile { t with cause := c } s.tiles }.refused t c
  else
    let placed := (s.cfg.placeOf t).isSome
    let t := { t.legsNew s.tl.plan.legs with admitted := true, placed := placed, tempTick := s.ticks }
    let s := { s with tiles := insertTile t s.tiles }
    if placed then s else s.evFault Ev.tileUnplaced Fk.tileUnplaced (fsTile t.port t.pos) [t.port, t.pos]

/-- The tiles of pass 1 judged (R316). -/
def State.judgeAll (s : State) (p : Nat) (ts : List Tile) : State :=
  let s := { s with tiles := s.tiles.filter (·.port != p) }
  (ts.zip (delayChain 0 (ts.map Tile.noHop))).foldl State.enterTile s

/-- The refusal cause of a tile of a later census: 7 unless it is the tile that held the position before (R189), then causes 2 to 5 of
Table 6.10. -/
def State.judgeAgain (s : State) (old : Option Tile) (t : Tile) (delay : Int) : Nat :=
  match old, s.typeOf t with
  | none, _ => 7
  | some _, none => 2
  | some _, some ty => if t.lampsN != ty.lamps then 3 else if t.proto != 1 then 4 else if 65535 < delay then 5 else 0

/-- The tile that held the position of a tile of a later census, if its TILE_ID and LAMPS are the same (R189). -/
def Tile.before (old : List Tile) (t : Tile) : Option Tile := old.find? fun o => o.pos == t.pos && o.id == t.id && o.lampsN == t.lampsN

/-- A tile of a later census with the latest measurement of its hop (R183): its own of hop 0, else that of the tile before. -/
def Tile.hopAgain (old : List Tile) (t : Tile) : Tile :=
  match t.before old with
  | some o => if t.rtOk then t else { t with rt := o.rt, rtOk := o.rtOk }
  | none => t

/-- A tile of a later census entered (R87, R121, R189): its trims are 0, and the first temperature measured from now on is applied. -/
def State.matchTile (old : List Tile) (s : State) (x : Tile × Int) : State :=
  let t := x.1
  let o := t.before old
  match s.judgeAgain o t x.2, o with
  | 0, some o =>
    let k := { o with rl := t.rl, tt := t.tt, side := t.side, proto := t.proto, typeId := t.typeId, len1 := t.len1, len2 := t.len2, rt := t.rt
                      rtOk := t.rtOk, rtCand := none, admitted := true, cause := 0, ageOut := [], tempOk := false, tempTick := s.ticks
                      stale := false, trim := [0, 0, 0], limit := [false, false, false] }
    { s with tiles := insertTile (k.forceAll) s.tiles }
  | c, o => { s with tiles := insertTile { (o.getD t) with admitted := false, cause := c } s.tiles }.refused t c

/-- The tiles of a later census taken in (R189): a tile is admitted only where it stood before. The rest are remembered. -/
def State.matchAll (s : State) (p : Nat) (ts : List Tile) : State :=
  let was := (s.onPort p).filter (·.admitted)
  let back := ((s.onPort p).filter fun t => t.admitted || !t.lamps.isEmpty) ++ (s.port p).lost
  let ts := ts.map (Tile.hopAgain back)
  let s := (ts.zip (delayChain 0 (ts.map Tile.noHop))).foldl (State.matchTile back) { s with tiles := s.tiles.filter (·.port != p) }
  let gone := back.filter fun o => !((s.onPort p).any fun t => t.pos == o.pos && t.id == o.id)
  let s := s.modPort p fun q => { q with lost := gone }
  if ((s.onPort p).filter (·.admitted)).map (·.pos) == was.map (·.pos) then s else { s with fab := { s.fab with runTick := some s.ticks } }

/-- Positions a port's DONE admits. -/
def State.admitMask (s : State) (p : Nat) : Nat :=
  maskOf ((List.range 32).map fun q => match s.tile? p q with | some t => t.admitted | none => false)

/-- PLACE of a tile (Table 17.2). -/
def State.relayPlace (s : State) (t : Tile) : State :=
  let ws := match s.cfg.placeOf t with | some p => p.words | none => List.replicate 7 0
  s.relaySend 0xCB ([byte t.port, byte t.pos, 0, 0, 0, 0, 0, 0] ++ ws.flatMap fun w => leBytes 4 w.toNat)

/-- Whether a port's census is of use to a warm standby. -/
def State.showsCensus (s : State) (p : Nat) : Bool := s.mirrors && s.shared p && (s.port p).census.phase == .done

/-- A shared port as an ACTIVE unit with a warm standby keeps it once its census is done: paired. -/
def State.pairOwn (s : State) (p : Nat) : State :=
  if s.showsCensus p then s.modRport p fun r => { r with paired := true, unpaired := false, partner := p } else s

/-- PLACE and CENSUS_READY of a shared port, which an ACTIVE unit sends its warm standby (R409, R415), in the order of R448. -/
def State.relayCensus (s : State) (p : Nat) : State :=
  if !(s.showsCensus p) then s
  else
    let s := s.pairOwn p
    let s := (s.byPos p).foldl State.relayPlace s
    s.relaySend 0xC9 [byte p, byte (s.port p).census.found, 0, 0, 0, 0, 0, 0]

/-- DONE (R186, R187): the census is closed, and the tiles without a holder take this unit, unless it is the standby. -/
def State.sendDone (s : State) (p : Nat) : State :=
  let s := s.censusFrame p 4 63 false (leBytes 4 (s.admitMask p) ++ [0, 0, 0, 0])
  let ts := s.onPort p
  let ref := (ts.filter fun t => t.cause != 0).length
  let dev := s.cfg.devNum
  let s := if s.standsBy p then s
    else { s with tiles := s.tiles.map fun t => if t.port == p && t.admitted && t.holder.isNone then { t with holder := some dev } else t }
  let s := s.modCensus p fun c => { c with state := if ts.isEmpty then 3 else 2, phase := .done, found := ts.length, refused := ref }
  s.ev Ev.censusDone [p, ts.length, ref]

/-- Hops whose lanes the unit calibrates on a port (R154, R410, R424). -/
def State.calHops (s : State) (p : Nat) : Nat :=
  if s.standsBy p then min 1 (s.port p).census.found
  else if (s.rport p).split then
    ((s.onPort p).filter fun t => t.holder == some s.cfg.devNum).foldl (fun n t => max n (t.pos + 1)) 0
  else (s.port p).census.found

/-- The start calibrations of a port begun (R317); with no hop to calibrate the port drives its tiles at once. -/
def State.startCals (s : State) (p : Nat) : State :=
  if s.calHops p == 0 then s.modPort p fun q => { q with driveOk := true, calTick := s.ticks }
  else s.modPort p fun q => { q with calStart := true, calNext := 0, calTick := s.ticks, calPost := false }

/-- CAL_PERIOD of a port, in ticks. -/
def State.calPeriod (s : State) (p : Nat) : Nat :=
  let v := wfld (s.rws (Reg.calCfg p)) 31 20
  (if v == 0 then 60 else min v 3600) * secT

/-- Reads that cover `n` bytes of a part, `k` bytes at a time. -/
def readsOf (pos part k n : Nat) : List CensusRead :=
  (List.range (ceilDiv n k)).map fun i => ⟨pos, part, k * i, min k (n - k * i), 0, 0⟩

/-- Longest read and most reads outstanding per tile (R186, R409). -/
def State.readLen (s : State) (p : Nat) : Nat := if s.standsBy p then 512 else 2048
def State.readMax (s : State) (p : Nat) : Nat := if s.standsBy p then 4 else 16

/-- A READ frame (Table 6.7). -/
def State.sendRead (s : State) (p : Nat) (r : CensusRead) (retry : Bool) : State :=
  s.censusFrame p 3 r.pos retry ([byte r.part, 0, 0, 0] ++ leBytes 4 r.off ++ leBytes 4 r.len)

/-- Reads of a port begun while a tile has fewer outstanding than it may (R186). -/
def State.fillReads (s : State) (p : Nat) : State :=
  let todo := (s.port p).census.todo
  let n := s.readMax p
  todo.foldl (fun s r =>
    if (((s.port p).census.reads.filter fun x => x.pos == r.pos).length) < n then
      (s.modCensus p fun c => { c with reads := c.reads ++ [{ r with tries := 1, tick := s.ticks }] }).sendRead p r false
    else s.modCensus p fun c => { c with todo := c.todo ++ [r] }) (s.modCensus p fun c => { c with todo := [] })

/-- The bytes read, from blocks in order of offset. -/
def insertBlock (o : Nat) (b : List Byte) : List (Nat × List Byte) → List (Nat × List Byte)
  | [] => [(o, b)]
  | (k, x) :: r => if o == k then (o, b) :: r else if o < k then (o, b) :: (k, x) :: r else (k, x) :: insertBlock o b r
def blockBytes (l : List (Nat × List Byte)) : List Byte := l.flatMap (·.2)

/-- Whether a tile's calibration block is verified (R359). -/
def State.calibOk (s : State) (t : Tile) (b : List Byte) : Bool :=
  let n := 64 + 64 * t.lampsN
  match s.cfg.tileKeys.find? fun k => k.1 == leAt b 10 2 with
  | some k => leAt b 0 8 == t.id && leAt b 12 4 == t.lampsN && b.length == n + 64 && ecdsaOk k.2 (slice b n 64) (b.take n)
  | none => false

/-- Little-endian words of a byte string. -/
def wordsLe (n : Nat) (b : List Byte) : List Word := (chunks n 4 b).map fun c => Word.of (leNat c)

/-- Whether a lamp's curve is missing or invalid (R85). -/
def Cfg.badCurve (c : Cfg) (l : Lamp) : Bool :=
  match recOf? c.curves l.curve with
  | some r => !(curveValid r.words)
  | none => true

/-- A lamp entry at census (R79, R85, R89, R188): the image, its life table entry, its placement, and whether its tile is dark. -/
def censusLamp (c : Cfg) (pl : Option Placement) (off : Bool) (now : Nat) (img : List Byte) (life : Nat) : Lamp :=
  let l := Lamp.ofWords (wordsLe 16 img)
  let xy := match pl with | some p => placeXY p.mat p.tx p.ty l.localX l.localY | none => (0, 0)
  let ls := life / 2 ^ 24 % 8
  let st := if l.state != 0 then l.state else if ls == 1 || ls == 2 then ls else 0
  { l with x := xy.1, y := xy.2, state := if off || c.badCurve l then 4 else st, ageF := ageFactor l.ageCoef l.life, boost := 0,
           life := life % 2 ^ 24, accMs := 0, accUs := 0, duty := 0, mark := now, check := [], unchecked := 0 }

/-- ENTRY_INVALID of a tile's lamps (R85, R91). -/
def State.entryEvents (s : State) (t : Tile) : State :=
  ((t.lamps.zip (partners t.lamps)).zipIdx).foldl (fun s x =>
    let s := if s.cfg.badCurve x.1.1 then s.ev Ev.entryInvalid [t.base + x.2, 1] else s
    if x.1.2.2 then s.ev Ev.entryInvalid [t.base + x.2, 2] else s) s

/-- A tile's lamp entries made from what pass 2 has read (R188). -/
def State.buildTile (s : State) (t : Tile) : State :=
  let b1 := blockBytes t.part1
  let b2 := blockBytes t.part2
  let ok := s.calibOk t b1
  let imgs := chunks t.lampsN 64 (slice b1 64 (64 * t.lampsN))
  let ls := imgs.zipIdx.map fun x =>
    censusLamp s.cfg (if t.placed then s.cfg.placeOf t else none) (!ok || !t.placed) s.nowMs x.1 (leAt b2 (4 * x.2) 4)
  let ls := censusBoost ls
  let ref := [leAt b1 16 2, leAt b1 18 2, leAt b1 20 2]
  let s := s.modTile t.port t.pos fun t => { t with calOk := ok, lamps := ls, ref := ref, part1 := [], part2 := [] }
  if ok then s
  else (s.bump Reg.sigFails).evFault Ev.calibRejected Fk.calibRejected (fsTile t.port t.pos) [t.port, t.pos]

/-- The entry errors of some tiles, as the census that made their entries leaves them (R85, R91). -/
def State.countErrors (s : State) (ts : List Tile) : State :=
  let cv := (ts.map fun t => (t.lamps.filter s.cfg.badCurve).length).foldl (· + ·) 0
  let pt := (ts.map fun t => ((partners t.lamps).filter (·.2)).length).foldl (· + ·) 0
  { s with mem := { s.mem with badEntries := (cv, pt) } }

/-- What follows the making of tiles' entries: their events, the counts of errors, and no entry held at 0 any more (R283). -/
def State.madeEntries (s : State) (ts : List Tile) : State :=
  let now := ts.filterMap fun t => s.tile? t.port t.pos
  let s := (now.foldl State.entryEvents s).countErrors now
  { s with mem := { s.mem with lampLost := s.mem.lampLost.filter fun i => !(now.any fun t => t.base ≤ i && i < t.base + t.lampsN) } }

/-- Lamp indices assigned over the tiles admitted (R19, R316): the entries of tiles newly read are made first. -/
def State.assignLamps (s : State) : State :=
  let new := s.tiles.filter fun t => t.admitted && (s.port t.port).passes == 2 && t.lamps.isEmpty
  let s := new.foldl State.buildTile s
  let s := ((s.litTiles).foldl (fun (a : State × Nat × Nat) t =>
    (a.1.modTile t.port t.pos fun t => { t with base := a.2.1, no := a.2.2 }, a.2.1 + t.lampsN, a.2.2 + 1)) (s, 0, 0)).1
  let s := s.madeEntries new
  { s with mem := { s.mem with lampN := s.lampCount }, fab := { s.fab with runTick := some s.ticks } }

/-- The lamp entries of a port's tiles made anew at a later census (R79, R89, R283), on the indices they have. -/
def State.rebuild (s : State) (p : Nat) : State :=
  let ts := (s.byPos p).filter (·.lit)
  ((ts.foldl State.buildTile s).madeEntries ts)

/-- The partner's port of the same chain that a standby's port pairs with, among those whose CENSUS_READY and PLACE messages have
arrived (R409): as many tiles, and the same placements in reverse order. -/
def State.partnerPort (s : State) (p : Nat) : Option Nat :=
  let ts := s.byPos p
  let n := ts.length
  let ws := fun (t : Tile) => match s.cfg.placeOf t with | some x => x.words | none => List.replicate 7 0
  (List.range 16).find? fun k =>
    let r := s.rport k
    r.ready == some n && !((List.range 16).any fun q => q != p && (s.rport q).paired && (s.rport q).partner == k) &&
    ts.all fun t => r.places.any fun x => x.1 == n - 1 - t.pos && x.2 == ws t

/-- Lamps that the snapshot does not name are NORMAL unless the unit's own census gave them OFF or RETIRED (R415). -/
def Tile.normalise (now : Nat) (t : Tile) : Tile :=
  let ks := idxs t.lamps.length fun k => match t.lamps[k]? with | some l => l.state == 1 || l.state == 2 | none => false
  if ks.isEmpty then t
  else
    let ls := ks.foldl (fun ls k => setLampState ls k 0 now) t.lamps
    { t with lamps := ls }.forceAll

/-- The tiles of a standby's paired port before its partner's snapshot is applied. -/
def State.normalPort (s : State) (p : Nat) : State :=
  let now := s.nowMs
  let ts := s.tiles.map fun t : Tile => if t.port == p then t.normalise now else t
  { s with tiles := ts }

/-- A standby's port judged once its census is done (R409). -/
def State.judgePair (s : State) (p : Nat) : State :=
  let r := s.rport p
  let c := (s.port p).census
  if s.rl.role != .standby || !(s.shared p) || r.paired || r.unpaired || c.phase != .done || c.pass == 1 then s
  else if s.rl.cold then s.modRport p fun r => { r with paired := true, partner := p }
  else match s.partnerPort p with
    | some k => (s.modRport p fun r => { r with paired := true, partner := k }).normalPort p
    | none =>
      let ready := s.rl.ports.filter fun r => r.ready.isSome
      let own := idxs 16 s.shared
      let full := own.length ≤ ready.length && ready.all fun r => r.ready.getD 0 ≤ r.places.length
      if !full then s
      else
        let why := if ready.any fun r => r.ready == some c.found then 2 else 1
        (s.modRport p fun r => { r with unpaired := true }).evFault Ev.relayPortUnpaired Fk.relayPortUnpaired (fsPort p) [p, why]

/-- A tile whose delay, measured by now, exceeds 65,535 cycles is refused (R185). -/
def State.refuseFar (s : State) (t : Tile) : State :=
  if t.admitted && 65535 < t.delay then
    (s.modTile t.port t.pos fun t => { t with admitted := false, cause := 5 }).refused t 5
  else s

/-- The reads of a port ended, and DONE closes its census (R186, R316). In pass 2, once no port that is up still reads, lamp indices are
assigned; a later census makes the entries anew and the port drives its tiles again. -/
def State.endReads (s : State) (p : Nat) : State :=
  let pass := (s.port p).census.pass
  let s := s.setDelays p
  let s := ((s.byPos p).foldl State.refuseFar s).sendDone p
  if pass == 2 then
    let s := s.modPort p fun q => { q with passes := 2 }
    let s := if s.upPorts.all fun q => (s.port q).passes != 1 then s.assignLamps else s
    (s.relayCensus p).judgePair p
  else
    let s := (s.rebuild p).modPort p fun q => { q with driveOk := true, calTick := s.ticks + s.calPeriod p }
    (s.relayCensus p).judgePair p

/-- The reads go on, or have ended. -/
def State.nextReads (s : State) (p : Nat) : State :=
  let s := s.fillReads p
  let c := (s.port p).census
  if c.reads.isEmpty && c.todo.isEmpty then s.endReads p else s

/-- The reads of parts 1 and 2 of every tile of a port begun (R186, R316). -/
def State.startReads (s : State) (p pass : Nat) : State :=
  let k := s.readLen p
  let todo := (s.byPos p).flatMap fun t => readsOf t.pos 1 k t.len1 ++ readsOf t.pos 2 k t.len2
  let ts := s.tiles.map fun t : Tile => if t.port == p then { t with part1 := [], part2 := [] } else t
  let s := { s with tiles := ts }
  (s.modCensus p fun c => { c with state := 1, phase := .reading, pass := pass, reads := [], todo := todo }).nextReads p

/-- Enumeration ended (R186 step 3): the tiles are judged. DONE closes pass 1; a census at a later port start goes on to its reads. Where
HBM is lost there is no lamp table to read for, and DONE closes such a census at once (DEDUCED, log 122). -/
def State.endEnum (s : State) (p : Nat) : State :=
  let q := s.port p
  let ts := q.census.recs.zipIdx.map fun x => (Tile.ofRecord p x.2 x.1).measured q.rt0
  if q.census.pass == 1 then
    let s := (((s.judgeAll p ts).sendDone p).modPort p fun q => { q with passes := 1 }).startCals p
    if s.boot.stage == 4 then s.startReads p 2 else (s.relayCensus p).judgePair p
  else
    let s := s.matchAll p ts
    if (s.port p).passes == 1 && s.boot.stage == 4 then s.startReads p 2
    else if (s.port p).passes == 2 && s.mem.ok then s.startReads p 0
    else
      let s := (s.sendDone p).modPort p fun q => { q with driveOk := true, calTick := s.ticks + s.calPeriod p }
      (s.relayCensus p).judgePair p

/-- Pass 2 begun on every port that has ended pass 1 as SB4 is entered (R316). -/
def State.startPass2 (s : State) : State :=
  (List.range 16).foldl (fun s p =>
    let q := s.port p
    if q.up && q.passes == 1 && q.census.phase == .done then s.startReads p 2 else s) s

end Sys2Proof.Machine
end

