-- ==== Sys2Proof/Machine/Boot.lean ====
section
/-! DEFINITION. The starting blocks (12_starting_blocks.md): a start, the stages and what each produces, false starts, the seal at the
end of SB4 and entry into full service fixed, RESTART, and the slate (R306 to R321), with the commands of the family. -/

namespace Sys2Proof.Machine

/-- Milliseconds since the start began. -/
def State.bootMs (s : State) : Nat := (s.ticks - s.boot.startTick) / msT

/-- A stage entered (R314, Table 12.7). -/
def State.enterStage (s : State) (k : Nat) : State :=
  let s := { s with boot := { s.boot with stage := k, stageTick := s.ticks, entryMs := setAt s.boot.entryMs k s.bootMs } }
  s.ev Ev.sbStage [k, s.bootMs]

/-- What a start keeps of the device as it stands: fuses, the flash, the shutdown latch, the package, the clocks and what has been
sent. Everything else takes its reset value. -/
def State.fresh (s : State) : State :=
  { State.reset with
    variant := s.variant, fuses := s.fuses, pwr := s.pwr, ticks := s.ticks, free := s.free, out := s.out, pending := s.pending,
    nvm := { Nvm.reset with present := s.nvm.present, size := s.nvm.size, manuf := s.nvm.manuf, devId := s.nvm.devId, flash := s.nvm.flash },
    hk := { Hk.reset with latch := s.hk.latch }, warm := .reset,
    tb := { TimeBase.reset with refClk := s.tb.refClk, oscOnly := s.tb.oscOnly },
    sec := { Sec.reset with enrolFailed := s.sec.enrolFailed },
    host := { HostPort.reset with link := s.host.link, speed := s.host.speed, width := s.host.width, flit := s.host.flit,
                                  conf := s.host.conf, d3hot := s.host.d3hot, status := s.host.status, aer := s.host.aer,
                                  perst := s.host.perst, perstTick := s.host.perstTick } }

/-- A start begins at SB0 (R314, R467): the rails rise, the converter begins its first round, and the counter runs from zero. -/
def State.beginStart (s : State) : State :=
  let s := s.pinsLow.fresh
  let stks := s.mem.stks.map (fun k : StackSt => { k with tempTick := s.ticks })
  let s := { s with boot := { s.boot with running := true, startTick := s.ticks },
                    hk := { s.hk with running := true, startTick := s.ticks },
                    mem := { s.mem with stks := stks },
                    pwr := { s.pwr with vcore := true, hbmRail := true, serdes := true, vio := true, vioHold := false,
                                        waiting := false, shdn := s.hk.latch.isSome },
                    fab := { s.fab with vset := 900, vTick := s.ticks } }
  s.enterStage 0

/-- The first failed self-test, numbered from 1 (R367); a blown RETIRED fails test 1, a certificate of another key test 8. -/
def firstFail (f : Fuses) (tests : List Bool) : Nat :=
  let ok := fun (i : Nat) => tests.getD i false && (i != 0 || !f.retired) && (i != 7 || certOk f)
  match (List.range 9).find? fun i => !(ok i) with
  | some i => i + 1
  | none => 0

/-- The revert of the kinds on trial at a false start 7 to 10 (R343). -/
def State.revertTrial (s : State) : State :=
  let h := s.nvm.hdr
  let fw := h.trial 1
  let cf := h.trial 2
  if !fw && !cf then s
  else
    let back := fun (h : NvmHeader) (k : Nat) (b : Bool) => if b then (h.setActive k (1 - h.active k)).setTrial k false else h
    let s := s.putHeader (back (back h 1 fw) 2 cf) 4
    s.evtW (unitSrc Ev.trialReverted) Ev.trialReverted [Config.code Ev.trialReverted (b2n fw + 2 * b2n cf)]

/-- A false start (R320): clocks stop, VCORE is held at VMAX, the code is recorded and journalled. A second one of the same stage
leaves the lower code (Table 12.6). -/
def State.falseStart (s : State) (code detail : Nat) : State :=
  if s.boot.stage == 6 then
    if s.boot.fsCode != 0 && code < s.boot.fsCode && s.boot.stageTick == s.ticks then
      { s with boot := { s.boot with fsCode := code, fsDetail := detail } }
    else s
  else
    let st := s.boot.stage
    let s := s.stopClocks
    let s := { s with boot := { s.boot with stage := 6, stageTick := s.ticks, fsCode := code, fsStage := st, fsDetail := detail,
                                            warmActive := false },
                      tl := { s.tl with on := false },
                      fab := { s.fab with vset := 900 } }
    let s := if s.nvm.present && code != 5 then s.journal 2 code (leBytes 4 detail ++ leBytes 4 st) else s
    if 7 ≤ code && code ≤ 10 then s.revertTrial else s

/-- What SB0 has not produced, as a false start code and DETAIL; none when it is complete (R314, Table 12.3). -/
def State.sb0Fail (s : State) (r : StageReport) : Option (Nat × Nat) :=
  let t := firstFail s.fuses r.tests
  if s.hk.rounds ≥ 3 && s.hk.dieValid < 2 then some (1, 0)
  else if t != 0 then some (2, t)
  else if !r.lineStore then some (3, 0)
  else if s.hk.rounds < 3 || !s.hk.running || (!s.tb.refClk && !s.tb.oscOnly) then some (4, 0)
  else none

/-- SB0 complete: the identity key and the debug challenge, then SB1, where NVM_RESET_N is pulsed (R327, R360, R366). -/
def State.doneSb0 (s : State) : State :=
  let s := { s with boot := { s.boot with selfOk := true },
                    sec := { s.sec with idKey := some (identityKey s.fuses.seed) }.renew }
  (s.enterStage 1).send .nvmReset

/-- A container read from an area of the flash, as far as its own length goes. -/
def State.areaImage (s : State) (a : Nat) : List Byte :=
  let h := flashRead s.nvm.flash (areaAddr a) 64
  flashRead s.nvm.flash (areaAddr a) (min (areaBytes s.nvm.size a) (containerLen h))

/-- What a slot of a kind gives: its container, or the reason of Table 12.4 it fails for (R315, R332, R354). -/
def State.trySlot (s : State) (kind slot : Nat) (badRead : List Nat) : Nat × Option Container :=
  let a := areaOf kind slot
  if s.nvm.hdr.area a != 0 then (1, none)
  else if badRead.contains a then (4, none)
  else match Container.parse kind (areaBytes s.nvm.size a) (s.areaImage a) with
    | none => (1, none)
    | some c =>
      let n := checkReason kind (c.check s.variant s.fuses)
      if n != 0 then (n, none)
      else if kind == 2 && (Cfg.ofRecords c.records [] 0).isNone then (5, none)
      else (0, some c)

/-- The outcome of choosing an image: the slot used with its container, and the reason the active slot failed for if another was
taken; or DETAIL. -/
inductive Choice where
  | use (slot : Nat) (c : Container) (why : Nat)
  | fail (detail : Nat)
  deriving DecidableEq, Repr

/-- An image of a kind chosen (R315). -/
def State.choose (s : State) (kind : Nat) (badRead : List Nat) : Choice :=
  let a := s.nvm.hdr.active kind
  match s.trySlot kind a badRead with
  | (_, some c) => .use a c 0
  | (ra, none) =>
    match s.trySlot kind (1 - a) badRead with
    | (_, some c) => .use (1 - a) c ra
    | (rb, none) => .fail (if a == 0 then ra + 16 * rb else rb + 16 * ra)

/-- Staged areas promoted by one header write (R342), unless it would need an erase. -/
def State.promote (s : State) : State :=
  let h := s.nvm.hdr
  let one := fun (h : NvmHeader) (k : Nat) =>
    let o := 1 - h.active k
    if h.area (areaOf k o) == 2 then ((h.setActive k o).setArea (areaOf k o) 0).setTrial k true else h
  let h' := one (one h 1) 2
  let h' := if h'.area 4 == 2 then h'.setArea 4 0 else h'
  if h' == h || s.nvm.hdrNeedsErase then s else s.putHeader h' 2

/-- A start from the other slot (R315): recorded and raised, and the header rewritten when the area left was on trial (R343). -/
def State.fellBack (s : State) (kind slot why : Nat) : State :=
  if why == 0 then s
  else
    let s := s.evFault Ev.slotFallback Fk.slotFallback fsCfg [kind, slot, why]
    if s.nvm.hdr.trial kind then s.putHeader ((s.nvm.hdr.setActive kind slot).setTrial kind false) 5 else s

/-- What SB1 finds of the NVM (R327 to R330, R349): the flash is identified and its headers and journal are read. -/
def State.readNvmState (s : State) (r : StageReport) : State :=
  match r.nvm with
  | some (z, m, d) => { s with nvm := { s.nvm with present := true, size := z, manuf := m, devId := d }.scan }
  | none => { s with nvm := { s.nvm with present := false, size := 7 } }

/-- SB1's outcome (R314, R315, R342): the false start it ends in, or the state with the firmware loaded. -/
def State.runSb1 (s : State) (r : StageReport) : State :=
  let s := s.readNvmState r
  if !s.nvm.present || 3 < s.nvm.size then s.falseStart 5 0
  else
    let s := s.promote
    match s.choose 1 r.badRead with
    | .fail d => s.falseStart 6 d
    | .use slot c why =>
      let s := { s with boot := { s.boot with slotFw := slot, fwHash := sha256 c.signed, mc0Ready := r.mc0 },
                        nvm := { s.nvm with fwVer := c.version } }
      let s := s.fellBack 1 slot why
      if !r.mc0 then s.falseStart 7 0
      else
        let s := s.enterStage 2
        { s with rl := { s.rl with downTick := s.ticks } }

/-- MEM_SETTING_DEFAULTED for each field of MEM_CFG outside its range (Table 10.8). -/
def State.memSettings (s : State) : State :=
  let w := s.rws Reg.memCfg
  let rec_ := fun (s : State) (k : Nat) => s.evtW (unitSrc Ev.memSettingDefaulted) Ev.memSettingDefaulted [Config.code Ev.memSettingDefaulted k]
  let s := if wfld w 31 26 < 1 || 60 < wfld w 31 26 then rec_ s 0 else s
  if wfld w 5 4 == 3 then rec_ s 1 else s

/-- The events of settings that are replaced at the load (R100, R139, R223, R286). -/
def State.settingEvents (s : State) : State :=
  let s := s.cfg.regs.foldl (fun s e =>
    (fixEvents e.1 (rwsNew (s.rwsMask e.1) (rwsReset e.1) e.2)).foldl (fun s x => s.ev x.1 x.2) s) s
  let raw := s.cfg.regs.foldl (fun m e => Sparse.set rwsReset m e.1 e.2) ([] : List (Nat × Word))
  let s := if incrOk (incrOf raw) then s else s.ev Ev.tbIncrDefaulted []
  s.memSettings

/-- Host surfaces judged (R253): a record in range is valid; a surface without one is absent. -/
def State.judgeSurfs (s : State) : State :=
  (List.range 16).foldl (fun s n => s.modSurf n fun f =>
    { f with valid := match recOf? s.cfg.surfs n with | some r => !(SurfRec.parse r.words).bad | none => false }) s

/-- The slate read into the warm-up store (R311, R340): a valid owner data container with a slate. -/
def State.ownerImage (s : State) : Option Container :=
  if s.nvm.hdr.area 4 != 0 then none
  else match Container.parse 3 (areaBytes s.nvm.size 4) (s.areaImage 4) with
    | none => none
    | some c => if c.check s.variant s.fuses == 0 then some c else none

/-- A slate read queued in operations of 64 KiB (R311, R347), unless one is on its way or none is stored. One held from an earlier read is
not shown meanwhile. -/
def State.loadSlate (s : State) : State :=
  if s.warm.loading then s else
  let s := { s with warm := { s.warm with slate := none } }
  match s.ownerImage.bind slateOf with
  | none => s
  | some b => { s with warm := { s.warm with loading := true } }.nvmJob (.slate (ceilDiv (4 + 4 * b.w * b.h) sector))

/-- PIN_OFFSET in force, ns (R131). -/
def State.pinOffset (s : State) : Int :=
  let o := (s.rws Reg.pinOffset).toInt
  if o.natAbs ≤ 1000000 then o else 0

/-- The pulses of a boundary of leg `j` (R131). -/
def State.queuePulses (s : State) (b : Int) (j : Nat) : State :=
  let at_ := b + s.pinOffset
  let lap := if j == 0 then [(⟨false, 0, at_⟩ : Pulse)] else []
  { s with tl := { s.tl with pulses := s.tl.pulses ++ lap ++ [⟨true, j, at_⟩] } }

/-- Whether PIN_CTRL lets a pin pulse for a boundary of leg `j` (R131). -/
def State.pinOn (s : State) (leg : Bool) (j : Nat) : Bool :=
  let c := s.rws Reg.pinCtrl
  if leg then wbit c 1 && wbit c (24 + j) else wbit c 0

/-- The REGS entries of the configuration written (R338). -/
def State.takeRegs (s : State) : State := { s with regs := { s.regs with rws := s.putRegs s.regs.rws } }.showPins

/-- A configuration taken into use (R224, R335 to R339, R407). -/
def State.takeConfig (s : State) (slot : Nat) (c : Container) (cfg : Cfg) : State :=
  let s := { s with cfg := cfg, boot := { s.boot with slotCfg := slot }, nvm := { s.nvm with cfgVer := c.version } }
  let s := s.takeRegs
  let s := (unknownTypes c.records).foldl (fun s t => s.ev Ev.cfgOptionalIgnored [t]) s
  let s := s.settingEvents
  let s := { s with tb := { s.tb.setWall cfg.epoch with frac := 0, incr := s.nomIncr, incrTick := s.ticks },
                    sc := { s.sc with schedMarks := cfg.sched.map fun _ => (cfg.epoch : Int) - 1 },
                    rl := { s.rl with digest := pairDigest c.records } }
  let s := match cfg.relay with
    | some x =>
      if x.enable then { s with rl := { s.rl with trim := some s.rl.downTick, txRun := s.tb.run } }.setRole .pairing else s
    | none => s
  let s := ((s.loadKeys.judgeEth).judgeFlows).judgeSurfs
  { s with fab := { s.fab with runTick := some s.ticks } }

/-- SB2's outcome (R314): the configuration, keys, ports and the warm-up source; the SHUTDOWN record; the input tests. -/
def State.shutRecord (s : State) : State :=
  match s.hk.latch with
  | none => s
  | some l =>
    let w := fun (x : Int) => leBytes 2 (twos 16 x)
    let s := s.journal 4 l.cause (leBytes 2 l.src ++ (l.dieT.map w).flatten ++ (l.stackT.map w).flatten)
    { s with hk := { s.hk with latch := none }, pwr := { s.pwr with shdn := false } }

/-- The journal's START record (Table 13.14). -/
def State.startRecord (s : State) (stage : Nat) : State :=
  s.journal 1 stage (leBytes 4 (s.boot.slotFw + 2 * s.boot.slotCfg) ++ leBytes 4 s.nvm.fwVer ++ leBytes 4 s.nvm.cfgVer
    ++ slice s.cfg.hash 0 16)

/-- The warm-up plan put in force, its timeline from W0 (R486). -/
def State.warmStart (s : State) : State :=
  let w := s.cfg.warm
  let k := w.legFrom s.cfg.epoch (s.wall + 2000000)
  { s with tl := { s.tl with on := true, warm := true, plan := w, num := w.num, next := k, nextAt := w.legAt s.cfg.epoch k, dark := false },
           boot := { s.boot with warmActive := true }, rl := { s.rl with sb3Tick := s.ticks } }

/-- The pulses of W0: both pins are inactive until then, so a negative PIN_OFFSET leaves it without (R131). -/
def State.firstPulses (s : State) : State := if s.pinOffset < 0 then s else s.queuePulses s.tl.nextAt 0

/-- Entry into SB3 (R486): W0 is fixed and the warm-up plan is in force. -/
def State.enterSb3 (s : State) : State := ((s.enterStage 3).warmStart.firstPulses).startRecord 3

def State.runSb2 (s : State) (r : StageReport) : State :=
  match s.choose 2 r.badRead with
  | .fail d => s.falseStart 8 d
  | .use slot c why =>
    match Cfg.ofRecords c.records (sha256 c.signed) c.version with
    | none => s.falseStart 8 0
    | some cfg =>
      let s := (s.takeConfig slot c cfg).fellBack 2 slot why
      let s := { s with boot := { s.boot with ownHash := match s.ownerImage with | some o => sha256 o.signed | none => List.replicate 32 0 } }
      let s := s.shutRecord
      let s := s.nvm.badJ.foldl (fun s k => s.nvmJob (.reJournal k)) s
      let eth := (List.range s.variant.ethN).any fun e => (s.ethMode e == 1 || s.ethMode e == 2) && r.ethLoop.getD e false
      let s := { s with boot := { s.boot with hostOk := r.hostLoop, inputOk := r.hostLoop || eth } }
      if !s.boot.inputOk then s.falseStart 9 0
      else (s.joins.pnReserveAll.loadSlate).enterSb3

/-- The thermometers advanced to the ROLLBACK of the images that were on trial (R343, R357): `ok` says that every blow read back. -/
def State.advance (s : State) (kind : Nat) (ok : Bool) : State :=
  if !(s.nvm.hdr.trial kind) then s
  else match Container.parse kind (areaBytes s.nvm.size (areaOf kind (s.nvm.hdr.active kind)))
      (s.areaImage (areaOf kind (s.nvm.hdr.active kind))) with
    | none => s
    | some c =>
      let m := if kind == 1 then s.fuses.fwTherm else s.fuses.cfgTherm
      if c.rollback ≤ thermOf m then s
      else if !ok then s.evFault Ev.secFuseBlowFailed Fk.secFuseBlowFailed fsSec [kind]
      else if kind == 1 then { s with fuses := { s.fuses with fwTherm := thermBlow m c.rollback } }
      else { s with fuses := { s.fuses with cfgTherm := thermBlow m c.rollback } }

/-- Both TRIAL bits cleared by one header write once a chain port's loopback test has passed (R343). -/
def State.clearTrial (s : State) (ok : Bool) : State :=
  let h := s.nvm.hdr
  if !(h.trialFw || h.trialCfg) then s
  else ((s.advance 1 ok).advance 2 ok).putHeader { h with trialFw := false, trialCfg := false } 3

/-- Ports the configuration enables. -/
def State.enabledPorts (s : State) : List Nat := idxs 16 s.portOn

/-- The chain ports' loopback tests, taken once (R314, R343): with none passed the start ends; with one passed the TRIAL bits are cleared. -/
def State.sb3Loop (s : State) (r : StageReport) : State :=
  if s.boot.chainOk.any id then s
  else if !(s.enabledPorts.any fun p => r.chainLoop.getD p false) then s.falseStart 10 0
  else { s with boot := { s.boot with chainOk := (List.range 16).map fun p => r.chainLoop.getD p false } }.clearTrial r.blown

/-- SB3's end (R314, R317): a chain port passed its test; every port that is up has ended pass 1 and its calibrations. -/
def State.runSb3 (s : State) (r : StageReport) : State :=
  let s := s.sb3Loop r
  if s.boot.stage == 6 then s
  else
    let s := (idxs 5 fun a => s.nvm.hdr.area a == 1).foldl (fun s a => { s with nvm := { s.nvm with reerase := true } }.nvmJob (.reArea a)) s
    let s := { s with mem := { s.mem with stks := (List.range 4).map fun i =>
      if i < s.variant.stacksN then { s.mem.stk i with phase := .training } else s.mem.stk i } }
    (s.enterStage 4).startPass2

/-- Whether SB3 has produced what it lists (Table 12.2): the ports that are up have ended pass 1 and their start calibrations, and a warm-up lap
boundary has come since, from which on the warm-up picture is on the wall. -/
def State.sb3Ready (s : State) : Bool := s.boot.lit && (s.upPorts.all fun p => (s.port p).driveOk)

/-- Whether SB4 has produced everything it lists (Table 12.2). -/
def State.sb4Ready (s : State) : Bool :=
  s.mem.ok && s.hk.fabTrim.all (fun x => x.1 != 0) && !s.fab.lost && 1 ≤ s.fab.runs && s.fab.runTick.isNone &&
  s.upPorts.all fun p => (s.port p).passes == 2 && (s.port p).census.phase == .done

/-- The reason a plan is unusable, and a scene (0 usable). -/
def State.planWhy (s : State) (n : Nat) : Nat := if (s.cfg.plan? n).isNone then 1 else s.tl.reasons.getD n 0
def State.sceneWhy (s : State) (n : Nat) : Nat := if (s.scene? n).isNone then 1 else s.sc.reasons.getD n 0

/-- The seal at the end of SB4 and B fixed (R319), after the boundary of a pending re-step; or the device held on the warm-up
picture when its initial plan or scene is unusable. -/
def State.endSb4 (s : State) : State :=
  let s := s.seal .endSb4
  let pw := s.planWhy s.cfg.initPlan
  let sw := s.sceneWhy s.cfg.initScene
  if pw != 0 || sw != 0 then
    let why := if pw != 0 then [0, pw] else [1, sw]
    { s with boot := { s.boot with held := true } }.evFault Ev.fullServiceRefused Fk.fullServiceRefused fsBoot why
  else if s.tl.stepB.isSome then { s with tl := { s.tl with fullAsk := true } }
  else { s with tl := { s.tl with fullB := some (s.changeAt s.wall) } }

/-- SB_STAGE_COMPLETE (R314): the stage has produced everything it lists, as the report of its tests says, and the next begins. -/
def execSbStageComplete (report : StageReport) (s : State) : Host.Outcome State Fault Refusal :=
  if !s.boot.running || s.flt.shutTick.isSome then .next s else
  match s.boot.stage with
  | 0 =>
    if s.hk.rounds < 3 then .next s else
    match s.sb0Fail report with
    | some (c, d) => .next (if c == 1 then s.thermalStart 2 fsHk else s.falseStart c d)
    | none => .next s.doneSb0
  | 1 => .next (s.runSb1 report)
  | 2 => .next (s.runSb2 report)
  | 3 => if s.sb3Ready then .next (s.runSb3 report) else .next (s.sb3Loop report)
  | 4 => if s.sb4Ready && s.boot.sealWhen == .notYet then .next s.endSb4 else .next s
  | _ => .next s

/-- The longest duration of a stage, ms (Table 12.2). -/
def stageMs (k : Nat) : Nat := match k with | 0 => 60 | 1 => 250 | 2 => 150 | 3 => 400 | _ => 2000

/-- SB4 exceeds its duration (R314, R318, R344): HBM that is not trained, or else a fabric that is not trimmed, is lost. With both in
order the seal ends the stage. -/
def State.sb4Timeout (s : State) : State :=
  if s.boot.sealWhen != .notYet then s else
  let s := s.seal .sb4Time
  if !s.mem.ok then
    let p := (idxs s.variant.pcsN fun i => (s.mem.pc i).train != 2).headD 0
    { s with mem := { s.mem with lostPc := p } }.fault Fk.memPcLost (srcPc p) []
  else match idxs 4 fun g => (s.hk.fabTrim.getD g (0, 0, 0, 0)).1 == 0 with
    | g :: _ => s.fabricStall (g + 1)
    | [] => s.endSb4

/-- SB_STAGE_TIMEOUT (R314): the stage has exceeded its longest duration, with the report of what has passed. -/
def execSbStageTimeout (report : StageReport) (s : State) : Host.Outcome State Fault Refusal :=
  if !s.boot.running || s.flt.shutTick.isSome || !(s.past s.boot.stageTick (stageMs s.boot.stage * msT)) then .next s else
  match s.boot.stage with
  | 0 =>
    match s.sb0Fail report with
    | some (c, d) => .next (if c == 1 then s.thermalStart 2 fsHk else s.falseStart c d)
    | none => .next (s.falseStart 4 0)
  | 1 =>
    let t := s.runSb1 report
    .next (if t.boot.stage == 6 then t else s.falseStart 7 0)
  | 2 =>
    let t := s.runSb2 report
    .next (if t.boot.stage == 6 then t else s.falseStart 9 0)
  | 3 => .next (s.runSb3 report)
  | 4 => .next s.sb4Timeout
  | _ => .next s

/-- A write to SB_CTRL (R321): RESTART with its key, in a false start or in limp service. -/
def State.writeSbCtrl (s : State) (value : Word) : State :=
  if wfld value 31 16 != 0x5A3C || !(wbit value 0) || (s.boot.stage != 6 && s.boot.stage != 7) || s.flt.shutTick.isSome then s
  else { s with boot := { s.boot with restart := true } }.nvmFreeze

/-- RESTART (R321). -/
def execRestart (value : Word) (s : State) : Host.Outcome State Fault Refusal := .next (s.writeSbCtrl (wput value 0 0 1))

/-- RESTART_TAKES_EFFECT (R321, R348, R369): once the NVM write in flight has finished, or after 5 ms. -/
def execRestartTakesEffect (s : State) : Host.Outcome State Fault Refusal :=
  if !s.boot.restart || (s.nvm.op.isSome && !(s.past s.nvm.freezeTick (5 * msT))) then .next s
  else .next ((s.cutOp.zeroise 3).stopClocks).beginStart

/-- SLATE_LOAD_DONE (R311): the slate is in a warm-up buffer that is not latched. -/
def execSlateLoadDone (s : State) : Host.Outcome State Fault Refusal :=
  let busy := s.nvm.jobs.any (fun j => match j with | .slate _ => true | _ => false) ||
    (match s.nvm.op with | some ⟨.slate _, _⟩ => true | _ => false)
  if !s.warm.loading || busy then .next s else
  match s.ownerImage.bind slateOf with
  | none => .next { s with warm := { s.warm with loading := false } }
  | some b =>
    let i := ([0, 1].filter fun i => s.warm.latched != some i && s.warm.newest != some i) ++
      ([0, 1].filter fun i => s.warm.latched != some i)
    let i := i.headD 0
    .next { s with warm := { s.warm with bufs := setAt s.warm.bufs i (some b), slate := some i, loading := false,
                                         newest := if s.warm.newest == some i then none else s.warm.newest } }

/-- WARM_SOURCE_TIMEOUT (R311): the source has completed no frame for 1 s, and the slate is read. -/
def execWarmSourceTimeout (s : State) : Host.Outcome State Fault Refusal :=
  let late := match s.warm.done with | some t => s.past t secT | none => false
  if s.warm.present && late then .next ({ s with warm := { s.warm with present := false } }.loadSlate) else .next s

/-- Tiles the warm-up path lights, and those without a grid. -/
def State.warmLit (s : State) (t : Tile) : Bool :=
  t.admitted && (match s.cfg.type? t.typeId with | some ty => ty.wt != 0 && ty.ht != 0 | none => false)

/-- The registers of the starting blocks and the seal. -/
def State.readBoot (s : State) (off : Nat) : Option Word :=
  let b := s.boot
  if off == Reg.sbStatus then
    some (Word.of (at_ b.stage 29 + at_ (b2n b.held) 28 + at_ (b2n b.warmActive) 27 + at_ s.warm.shown 25 + at_ b.limpCause 23
      + at_ b.slotCfg 22 + at_ b.slotFw 21))
  else if off == Reg.falseStart then some (Word.of (at_ b.fsDetail 16 + at_ b.fsStage 8 + b.fsCode))
  else if Reg.sbEntryMs 0 ≤ off && off ≤ Reg.sbEntryMs 5 then some (Word.of (b.entryMs.getD ((off - Reg.sbEntryMs 0) / 4) 0))
  else if off == Reg.warmupTiles then
    let a := s.tiles.filter (·.admitted)
    let lit := (a.filter s.warmLit).length
    some (Word.of (at_ (a.length - lit) 16 + (if b.warmActive then lit else 0)))
  else if off == Reg.warmupFrames then some (Word.of s.warm.frames)
  else none

end Sys2Proof.Machine
end

