-- ==== Sys2Proof/Machine/Power.lean ====
section
/-! DEFINITION. The package (21_package_power.md): the feeds, PWRGD_OUT, RESET_N, REF_CLK and the test port, with the commands of the
family. -/

namespace Sys2Proof.Machine

/-- Pins as the output log numbers them. -/
def pinLap : Nat := 0
def pinLeg : Nat := 1
def pinPwrgd : Nat := 2

/-- The conditions of PWRGD_OUT (R467): a feed is present, so that the always-on rail is good, and REF_CLK runs. -/
def State.powerGood (s : State) : Bool := (s.pwr.feedA || s.pwr.feedB) && s.tb.refClk


/-- The device without its rails: everything volatile is lost. The levels that the board drives stay. -/
def State.dark (s : State) : State :=
  let p := s.pwr
  { s.fresh with pwr := { Power.reset with feedA := p.feedA, feedB := p.feedB, pwrgd := p.pwrgd, resetN := p.resetN, trstN := p.trstN } }

/-- A start begun in the tick PWRGD_OUT falls does not count: its release of RESET_N waits (Table 21.13). -/
def State.unstart (s : State) : State :=
  if s.boot.running && s.boot.stage == 0 && s.boot.startTick == s.ticks then
    let t := s.dark
    { t with pwr := { t.pwr with waiting := true, shdn := t.hk.latch.isSome } }
  else s

/-- PWRGD_OUT brought up to date (R467). A RESET_N release that waited for it takes effect as it rises; one in the tick it falls waits. -/
def State.setPwrgd (s : State) : State :=
  let g := s.powerGood
  if g == s.pwr.pwrgd then s
  else
    let s := ({ s with pwr := { s.pwr with pwrgd := g } }).send (.pin pinPwrgd g)
    if g then (if s.pwr.waiting then s.beginStart else s) else s.unstart

/-- A feed's presence. -/
def State.setFeed (s : State) (b present : Bool) : State :=
  { s with pwr := if b then { s.pwr with feedB := present } else { s.pwr with feedA := present } }

/-- FEED_PRESENT (R466): a feed rises through 4.3 V. -/
def execFeedPresent (feedB : Bool) (s : State) : Host.Outcome State Fault Refusal := .next (s.setFeed feedB true).setPwrgd

/-- FEED_ABSENT (R465, R466): a feed falls through 4.0 V. With the other present nothing else changes; with neither the shutdown latch is
lost (R436, R469). -/
def execFeedAbsent (feedB : Bool) (s : State) : Host.Outcome State Fault Refusal :=
  let s := (s.setFeed feedB false).setPwrgd
  if s.pwr.feedA || s.pwr.feedB then .next s
  else .next { s with hk := { s.hk with latch := none }, pwr := { s.pwr with shdn := false } }

/-- POWER_LOSS (R469): with both feeds absent every rail falls, and an operation in flight may be torn. RESET_N found high when power
comes back counts as released (R467). -/
def execPowerLoss (s : State) : Host.Outcome State Fault Refusal :=
  if s.pwr.feedA || s.pwr.feedB then .next s
  else
    let s := s.cutOp.stopClocks.linkDown.pinsLow.dark
    .next { s with pwr := { s.pwr with waiting := s.pwr.resetN }, hk := .reset }

/-- RESET_RELEASE (R467): a start begins at SB0, at once or when PWRGD_OUT is released. -/
def execResetRelease (s : State) : Host.Outcome State Fault Refusal :=
  if s.pwr.resetN then .next s
  else
    let s := { s with pwr := { s.pwr with resetN := true } }
    if s.pwr.pwrgd then .next s.cutOp.beginStart else .next { s with pwr := { s.pwr with waiting := true } }

/-- The NVM as a reset leaves it: no operation is issued, and the one in flight goes on (R348, R468). -/
def State.heldNvm (s : State) (n : Nvm) : State :=
  { s with nvm := n, pwr := { s.pwr with vio := n.op.isSome, vioHold := n.op.isSome, shdn := s.hk.latch.isSome } }

/-- RESET_ASSERT (R468): RESET_N held low for 10 µs. Forwarded clocks stop, the keys are zeroised, and every rail but the always-on
domain and VIO_OUT goes. A shutdown sequence that has begun completes (Table 21.13). -/
def execResetAssert (s : State) : Host.Outcome State Fault Refusal :=
  if !s.pwr.resetN then .next s
  else
    let s := { s with pwr := { s.pwr with resetN := false, waiting := false } }
    if !s.boot.running || (s.flt.shutTick.isSome && !s.flt.shutDone) then .next s
    else
      let s := s.stopClocks.linkDown.pinsLow.nvmFreeze.zeroise 3
      .next (s.dark.heldNvm s.nvm)

/-- REF_CLK_START (R467). A device that runs from its oscillator returns to REF_CLK. -/
def execRefClkStart (s : State) : Host.Outcome State Fault Refusal :=
  .next ({ s with tb := { s.tb with refClk := true, oscOnly := false } }.setPwrgd)

/-- REF_CLK_STOP (R475): PWRGD_OUT falls (R467); a start in SB0 fails with code 4, and later the device runs on from its oscillator. -/
def execRefClkStop (s : State) : Host.Outcome State Fault Refusal :=
  if !s.tb.refClk then .next s
  else
    let s := ({ s with tb := { s.tb with refClk := false } }.setPwrgd)
    if s.inSb0 then .next (s.falseStart 4 0)
    else .next { s with tb := { s.tb with oscOnly := s.boot.running } }

/-- The class of the instruction the test port holds: 0 none, 1 identification, 2 boundary scan. -/
def tapIdent : Nat := 1
def tapScan : Nat := 2

/-- DEBUG_TAP_ACCESS (R484): DBG_TRST_N changes, or an instruction arrives. Boundary scan and the identification register are always
open; another instruction is refused by the device until a debug scope is open, and what it does then the spec does not say. -/
def execDebugTapAccess (op : TapOp) (s : State) : Host.Outcome State Fault Refusal :=
  match op with
  | .trst high => .next { s with pwr := { s.pwr with trstN := high, tapIr := if high then s.pwr.tapIr else 0 } }
  | .ident => if s.pwr.trstN then .next { s with pwr := { s.pwr with tapIr := tapIdent } } else .next s
  | .scan pins => if s.pwr.trstN then .next ({ s with pwr := { s.pwr with tapIr := tapScan } }.send (.tap pins)) else .next s
  | .other => if s.pwr.trstN && s.sec.scope != 0 then .refused .debugInstruction else .next s

end Sys2Proof.Machine
end

