-- ==== Sys2Proof/Machine/Timeline.lean ====
section
/-! DEFINITION. The timeline of laps and scenes as known: the boundaries at which pending cues take effect, the order in which cues count as
accepted, and the scene that will be current at a boundary (R35, R63 to R65, R70, R71, R105, R106, R237). -/

namespace Sys2Proof.Machine

/-- The changes of plan already known, each with its boundary: the pending cue's, then the held cue's from its base. -/
def State.heldAt (s : State) (p : LapPlan) (base : Int) (c : PlanCue) : Int :=
  let d := splitDiff c.split (splitOf s.wall)
  let cued : Int := if c.timed && splitAhead d then s.wall + d else base
  let e := s.cfg.epoch
  p.lapAt e (p.lapFrom e (max (p.plusLaps base 2 2000) cued))

/-- The plan a cue names; the plan in force where the configuration has none. -/
def State.planOf (s : State) (n : Nat) : LapPlan := (s.cfg.plan? n).getD s.tl.plan

/-- The plan changes of the timeline as known, earliest first (R63). -/
def State.planChanges (s : State) : List (Int × LapPlan) :=
  let first := match s.tl.pend with | some c => [(s.tl.pendB, s.planOf c.plan)] | none => []
  let base : LapPlan × Int := match s.tl.pend, s.tl.stepB with
    | some c, _ => (s.planOf c.plan, s.tl.pendB)
    | none, some b => (s.tl.plan, b)
    | none, none => (s.tl.plan, s.wall)
  let second := match s.tl.held with
    | some c => [(s.heldAt base.1 (max base.2 c.accept) c, s.planOf c.plan)]
    | none => []
  first ++ second

/-- The first lap boundary at or after an instant on a timeline of plan changes, with its lap number: a change boundary is a lap
boundary of the plan it ends. -/
def lapOn (e : Nat) (p : LapPlan) : List (Int × LapPlan) → Int → Int × Int
  | [], t => let k := p.lapFrom e t; (p.lapAt e k, k)
  | (b, q) :: r, t => if t ≤ b then (let k := p.lapFrom e t; (p.lapAt e k, k)) else lapOn e q r t

/-- The first lap boundary at or after an instant as now known (R63). -/
def State.nextLap (s : State) (t : Int) : Int × Int := lapOn s.cfg.epoch s.tl.plan s.planChanges t

/-- The lap boundary `n` laps from another on the plan in force. -/
def State.lapShift (s : State) (b n : Int) : Int :=
  let e := s.cfg.epoch
  s.tl.plan.lapAt e (s.tl.plan.lapFrom e b + n)

/-- A pending scene cue's effective boundary as now known (R63, R237): a split is judged against the present counter. -/
def State.cueAt (s : State) (c : SceneCue) : Int × Int :=
  s.nextLap (s.wall + if c.timed then max 1 (splitDiff c.split (splitOf s.wall)) else 1)

/-- The order in which cues count as accepted (R64): by instant, then schedule, datagram, host. -/
def laterCue (t1 src1 o1 t2 src2 o2 : Nat) : Bool :=
  if t1 != t2 then t2 < t1 else if src1 != src2 then src1 < src2 else o2 < o1

/-- A cue accepted later than another. -/
def SceneCue.later (a b : SceneCue) : Bool := laterCue a.tick a.src a.order b.tick b.src b.order

/-- The cue accepted last of a list. -/
def lastCue : List SceneCue → Option SceneCue
  | [] => none
  | c :: cs => match lastCue cs with
    | some d => if d.later c then some d else some c
    | none => some c

/-- The scene current once a fade has been cut short (R65). -/
def State.settled (s : State) : Nat := (s.sc.fade.map (·.target)).getD s.sc.cur

/-- The scene that will be current at a boundary as now known: that of the last pending cue before it, or the settled one (R70, R71). -/
def State.sceneAt (s : State) (b : Int) : Nat :=
  let before := (s.sc.pend.map fun c => (c, (s.cueAt c).1)).filter fun x => x.2 < b
  let last := before.foldl (fun m x => max m x.2) (-1)
  match lastCue ((before.filter fun x => x.2 == last).map (·.1)) with
  | some c => c.scene
  | none => s.settled

end Sys2Proof.Machine
end

