-- ==== Sys2Proof/Machine/Hurdle.lean ====
section
/-! DEFINITION. The hurdle check (11_fabric_pacer.md, R287 to R294): the work model, the usability of plans and scenes and the
fadeability of pairs, with the usage figures. -/

namespace Sys2Proof.Machine

/-- A resource's demand and admitted capacity, in one unit, with its HURDLE_USE index (R294). -/
structure Use where
  k    : Nat
  need : Nat
  cap  : Nat
  deriving DecidableEq, Repr

/-- T_PIPE of R289, ns. -/
def tPipe : Nat := 72480

/-- LB of R289, ns; a lap shorter than the pipeline has none. -/
def LapPlan.lb (p : LapPlan) : Nat := if p.rateN == 0 then 0 else p.pNum / p.rateN - tPipe

/-- CB of R289, ns. -/
def LapPlan.cb (p : LapPlan) : Nat := if p.rateN == 0 then 0 else p.pNum / (2 * p.rateN)

/-- Blocks of the DRIVE frames of one leg of a tile of `n` lamps (R290): frames of four segments, 1024 lamps, and the rest. -/
def driveBlocks (n : Nat) : Nat :=
  n / 1024 * (2 + (3 * 1024 + 9) / 8) + (if n % 1024 == 0 then 0 else 2 + (3 * (n % 1024) + 9) / 8)

/-- Blocks of a SCAN frame (R290). -/
def scanBlocks (lines : Nat) : Nat := 2 + (lines + 9) / 8

/-- A number of lamps on a port. -/
def lampsOn (ts : List Tile) : Nat := (ts.map (·.lampsN)).foldl (· + ·) 0

/-- SYNTH and PORT of one port (Table 11.2). -/
def State.portUses (s : State) (p : LapPlan) (n : Nat) : List Use :=
  let ts := s.litTiles.filter (·.port == n)
  let blocks := (ts.map fun t => p.legs * (driveBlocks t.lampsN + scanBlocks p.lines) + 4).foldl (· + ·) 0
  [⟨32 + n, lampsOn ts * p.legs, 2 * p.lb⟩,
   ⟨16 + n, blocks + 25 + 4 * ceilDiv p.lb 100000, 720000000 * p.lb / giga⟩]

/-- Views a plan enables that the device has and the configuration describes (R22). -/
def State.planViews (s : State) (p : LapPlan) : List ViewRec :=
  s.cfg.views.filter fun v => v.view < s.variant.viewsN && p.enables v.view

/-- Columns or lines that a rectangle shares with the canvas (R45). -/
def clipLen (o : Int) (d n : Nat) : Nat := (min (o + d) (n : Int) - max o 0).toNat

/-- Layers in use of a scene in a view. -/
def usedLayers (ws : List Word) (v : Nat) : List Layer := (viewBlock ws v).layers.filter Layer.used

/-- Memory bytes of a layer's reads (Table 11.3). -/
def State.layerBytes8 (s : State) (l : Layer) : Nat :=
  let px := l.cropW * l.cropH
  match l.kind with
  | 1 => match s.flowRec? l.id with | some r => px * bitsPerPx r.fmt | none => 0
  | 2 => px * 64
  | _ => 0

/-- Surfaces the scenes use in a plan's views, each once. -/
def surfsUsed (vs : List ViewRec) (scenes : List (List Word)) : List Nat :=
  (List.range 16).filter fun n =>
    scenes.any fun ws => vs.any fun v => (usedLayers ws v.view).any fun l => l.kind == 2 && l.id == n

/-- The memory demand of Table 11.3 for one lap, in bits. -/
def State.lapBits (s : State) (p : LapPlan) (scenes : List (List Word)) : Nat :=
  let vs := s.planViews p
  let tiles := 8 * 68 * s.lampCount * p.legs
  let canvas := (vs.map fun v => 8 * 16 * v.w * v.h).foldl (· + ·) 0
  let layers := (scenes.flatMap fun ws => vs.flatMap fun v => (usedLayers ws v.view).map s.layerBytes8).foldl (· + ·) 0
  let pulls := ((surfsUsed vs scenes).filterMap fun n => (s.surfRec? n).map fun r => 8 * r.w * r.h * surfBytes r.fmt).foldl (· + ·) 0
  tiles + canvas + layers + pulls

/-- Ingest of every valid flow, in bits per second over 1,001,000. -/
def State.ingestNum (s : State) : Nat :=
  ((List.range 64).filterMap fun f =>
    match s.flowRec? f with
    | some r => if (s.flow f).valid then some (r.load * (1001000 / r.rateD)) else none
    | none => none).foldl (· + ·) 0

/-- RATE of MEM_CFG with its value of 3 taken as 0, and a rate in 0.1 Gbit/s. -/
def State.memRate (s : State) : Nat := let r := wfld (s.rws Reg.memCfg) 5 4; if r == 3 then 0 else r
def rateGb (r : Nat) : Nat := match r with | 0 => 64 | 1 => 80 | _ => 96

/-- The memory demand of one stack in bytes per ns, as a quotient (Table 11.2, MEM). -/
def State.stackNum (s : State) (p : LapPlan) (scenes : List (List Word)) : Nat × Nat :=
  let k := giga * 1001000
  (s.lapBits p scenes * p.rateN * k + 8 * 16 * p.pNum * k + s.ingestNum * p.pNum, 8 * p.pNum * k * s.variant.stacksN)

/-- MEM (Table 11.2). -/
def State.memUse (s : State) (p : LapPlan) (scenes : List (List Word)) : Use :=
  let (a, b) := s.stackNum p scenes
  ⟨3, 10 * a, 96 * rateGb s.memRate * b⟩

/-- PIPE and SCALER, and WRITER, of the scenes (Table 11.2). -/
def State.sceneUses (s : State) (p : LapPlan) (scenes : List (List Word)) : List Use :=
  if scenes.isEmpty then [] else
  (s.planViews p).flatMap fun v =>
    ⟨2, v.w * v.h, 16 * p.cb⟩ ::
    (scenes.flatMap fun ws => (usedLayers ws v.view).map fun l =>
      ⟨1, clipLen l.dstX l.dstW v.w * clipLen l.dstY l.dstH v.h, 4 * p.cb⟩)

/-- Every resource's demand under a plan with scenes (R290). -/
def State.uses (s : State) (p : LapPlan) (scenes : List (List Word)) : List Use :=
  [⟨0, s.lampCount * p.legs, 24 * p.lb⟩, s.memUse p scenes] ++ (List.range 16).flatMap (s.portUses p) ++ s.sceneUses p scenes

/-- Whether everything is admitted. -/
def State.fits (s : State) (p : LapPlan) (scenes : List (List Word)) : Bool := (s.uses p scenes).all fun u => u.need ≤ u.cap

/-- Usage in 1/1024, rounded up, saturating (R294). -/
def Use.figure (u : Use) : Nat := if u.need == 0 then 0 else if u.cap == 0 then 65535 else min 65535 (ceilDiv (u.need * 1024) u.cap)

/-- The 48 figures of HURDLE_USE. -/
def State.figures (s : State) (p : LapPlan) (scenes : List (List Word)) : List Nat :=
  let us := s.uses p scenes
  (List.range 48).map fun k => ((us.filter (·.k == k)).map Use.figure).foldl max 0

/-- Tile types of the tiles that hold lamp indices (R104). -/
def State.presentTypes (s : State) : List TileType :=
  s.cfg.types.filter fun ty => s.litTiles.any fun t => t.typeId == ty.id

/-- A view that a plan or scene may not use: absent, or without a VIEW record (R9, R69). -/
def State.viewGone (s : State) (v : Nat) : Bool := s.variant.viewsN ≤ v || (s.cfg.view? v).isNone

/-- The legs a variant has at most (Table 1.1). -/
def Variant.maxLegs : Variant → Nat
  | .hx84e => 8 | _ => 4

/-- The lowest code of Table 4.2 that applies to a plan; 0 if it is usable. -/
def State.planCode (s : State) (p : LapPlan) : Nat :=
  let tr := (s.presentTypes.map (typeReasons p)).flatten
  if (List.range p.legs).any fun j => s.viewGone (p.view j) then 1
  else if p.rateN != 0 && !(s.fits p []) then 2
  else if p.code3 s.variant.maxLegs then 3
  else if p.code4 s.variant.legRate then 4
  else if p.code5 then 5
  else if tr.contains 6 then 6
  else if tr.contains 7 then 7
  else if tr.contains 8 then 8
  else if p.code9 then 9
  else 0

/-- The frame size of a layer's source, if its record gives one. -/
def State.frameSize (s : State) (l : Layer) : Option (Nat × Nat) :=
  match l.kind with
  | 1 => (s.flowRec? l.id).map fun r => (r.w, r.h)
  | 2 => (s.surfRec? l.id).map fun r => (r.w, r.h)
  | _ => none

/-- Codes of Table 2.4 that one layer gives. -/
def State.layerCodes (s : State) (v : Nat) (l : Layer) : List Nat :=
  (if l.badRes then [3] else []) ++
  (if !l.used then [] else
    (if s.viewGone v || (l.kind == 1 && !((s.flow l.id).valid)) then [1] else []) ++
    (if (l.kind == 2 && !((s.surf l.id).valid && l.id < 16)) || (l.kind == 3 && l.id != 0) ||
        l.cropW == 0 || l.cropH == 0 || l.dstW == 0 || l.dstH == 0 then [3] else []) ++
    (match s.frameSize l with
      | some (w, h) => if w < l.cropX + l.cropW || h < l.cropY + l.cropH then [4] else []
      | none => []) ++
    (if l.scaled && !(stepOk l.cropW l.dstW && stepOk l.cropH l.dstH) then [5] else []))

/-- Members of a flip group that differ in PATIENCE, or one with none (Table 2.4, code 7). -/
def groupBad (ls : List Layer) : Bool :=
  (ls.filter fun l => l.used && l.group != 0).any fun l =>
    l.patience == 0 || ls.any fun m => m.used && m.group == l.group && m.patience != l.patience

/-- One scaled layer given its scaler or ganged pair (R47, R50), among those not used. -/
def giveScaler (used : List Nat) (w : Nat) : Option (List Nat) :=
  if 16384 < w then none
  else if w ≤ 8192 then ((List.range 16).find? fun i => !(used.contains i)).map fun i => i :: used
  else ((List.range 8).find? fun j => !(used.contains (2 * j)) && !(used.contains (2 * j + 1))).map fun j => (2 * j) :: (2 * j + 1) :: used

/-- The scalers a scene takes beyond those used, in order of view and layer (R50). -/
def assignScalers (used : List Nat) (ws : List Word) : Option (List Nat) :=
  ((List.range 8).flatMap fun v => (usedLayers ws v).filter Layer.scaled).foldl
    (fun u l => u.bind fun u => giveScaler u l.cropW) (some used)

/-- The lowest code of Table 2.4 that applies to a scene, given the usable plans; 0 if it is usable. -/
def State.sceneCode (s : State) (plans : List LapPlan) (ws : List Word) : Nat :=
  let cs := ((List.range 8).flatMap fun v =>
    let b := viewBlock ws v
    (if b.badRes then [3] else []) ++ (if groupBad b.layers then [7] else []) ++ b.layers.flatMap (s.layerCodes v)) ++
    (if sceneHeaderBad ws then [3] else []) ++ (if (assignScalers [] ws).isNone then [6] else [])
  if cs.contains 1 then 1
  else if plans.any fun p => !(s.fits p [ws]) then 2
  else match (List.range 8).find? cs.contains with
    | some c => c
    | none => 0

/-- Whether an ordered pair of usable scenes is fadeable (R70). -/
def State.fadeOk (s : State) (plans : List LapPlan) (a b : List Word) : Bool :=
  ((List.range 8).all fun v => (usedLayers a v).length + (usedLayers b v).length ≤ 16) &&
  (match assignScalers [] a with | some u => (assignScalers u b).isSome | none => false) &&
  plans.all fun p => s.fits p [a, b]

/-- HURDLE_CHANGED for each usability bit that a re-run changes (R293). -/
def State.hurdleEvents (s : State) (kind : Nat) (old new : List Nat) : State :=
  (idxs new.length fun n => (old.getD n 0 == 0) != (new.getD n 0 == 0)).foldl (fun s n =>
    s.ev Ev.hurdleChanged [kind, n, b2n (new.getD n 0 == 0), new.getD n 0]) s

/-- HURDLE_IN_FORCE_UNUSABLE of the plan, the current scene and a fade's incoming one (R293). -/
def State.inForceEvents (s : State) : State :=
  if !s.tl.service then s else
  let s := if s.planWhy s.tl.num != 0 then s.ev Ev.hurdleInForceUnusable [0, s.tl.num, s.planWhy s.tl.num] else s
  (s.sc.cur :: (match s.sc.fade with | some f => if f.target == s.sc.cur then [] else [f.target] | none => [])).foldl (fun s n =>
    if s.sceneWhy n != 0 then s.ev Ev.hurdleInForceUnusable [1, n, s.sceneWhy n] else s) s

/-- A mask of the numbers that carry a record and have no reason. -/
def usableMask (n : Nat) (has : Nat → Bool) (rs : List Nat) : Nat := maskOf ((List.range n).map fun i => has i && rs.getD i 0 == 0)

/-- The results that a cue is judged by (R293, Table 11.6): those before a run that has completed in this tick. -/
def State.runJustDone (s : State) : Bool := s.fab.runDone == some s.ticks && 1 < s.fab.runs
def State.planReasons (s : State) : List Nat := if s.runJustDone then s.fab.priorPlans else s.tl.reasons
def State.sceneReasons (s : State) : List Nat := if s.runJustDone then s.fab.priorScenes else s.sc.reasons
def State.fadePairs (s : State) : List (Nat × Nat) := if s.runJustDone then s.fab.priorFades else s.fab.fades

/-- A run of the hurdle check completes (R292, R293). -/
def State.hurdleRun (s : State) : State :=
  let pr := (List.range 8).map fun n => match s.cfg.plan? n with | some p => s.planCode p | none => 0
  let plans := s.cfg.plans.filter fun p => pr.getD p.num 0 == 0
  let sr := (List.range 64).map fun n => match s.scene? n with | some ws => s.sceneCode plans ws | none => 0
  let ok := (List.range 64).filterMap fun n => match s.scene? n with | some ws => if sr.getD n 0 == 0 then some (n, ws) else none | none => none
  let fades := ok.flatMap fun a => (ok.filter fun b => s.fadeOk plans a.2 b.2).map fun b => (a.1, b.1)
  let first := s.fab.runs == 0
  let s := { s with fab := { s.fab with runDone := some s.ticks, priorPlans := s.tl.reasons, priorScenes := s.sc.reasons, priorFades := s.fab.fades } }
  let oldP := s.tl.reasons
  let oldS := s.sc.reasons
  let s := { s with
    fab := { s.fab with runs := s.fab.runs + 1, runTick := none, fades := fades },
    tl := { s.tl with reasons := pr, usable := usableMask 8 (fun n => (s.cfg.plan? n).isSome) pr },
    sc := { s.sc with reasons := sr, usable := usableMask 64 (fun n => (s.scene? n).isSome) sr } }
  let s := if first then s else (s.hurdleEvents 0 oldP pr).hurdleEvents 1 oldS sr
  let s := s.inForceEvents
  if s.boot.stage == 7 then { s with tl := { s.tl with usable := 0 }, sc := { s.sc with usable := 0 } } else s

/-- A run of the hurdle check begins, at the configuration's load or when a census has changed the admitted tiles (R292). -/
def State.startHurdle (s : State) : State := { s with fab := { s.fab with runTick := some s.ticks } }

/-- HURDLE_CHECK_DONE (R292): the run in progress completes. -/
def execHurdleCheckDone (s : State) : Host.Outcome State Fault Refusal :=
  if s.fab.runTick.isSome then .next s.hurdleRun else .next s

/-- Scenes by number, those the configuration carries. -/
def State.sceneWords (s : State) (l : List Nat) : List (List Word) := l.filterMap s.scene?

/-- The scenes of the current state: the current one and a fade's incoming one. -/
def State.nowScenes (s : State) : List Nat :=
  match s.sc.fade with | some f => if f.target == s.sc.cur then [s.sc.cur] else [s.sc.cur, f.target] | none => [s.sc.cur]

/-- HURDLE_USE of the current state (R294); outside full service no plan or scene is in force. -/
def State.nowFigures (s : State) : List Nat :=
  if s.tl.service then s.figures s.tl.plan (s.sceneWords s.nowScenes) else List.replicate 48 0

/-- The lowest index with the highest figure. -/
def worstOf (l : List Nat) : Nat := (l.findIdx? (· == l.foldl max 0)).getD 0

/-- A write to HURDLE_QUERY (R305): VALID is cleared and the combination waits to be judged. -/
def State.writeHurdleQuery (s : State) (value : Word) : State :=
  { s.setRw Reg.hurdleQuery (Word.of (value.toNat &&& 0x7BF3F)) with
    fab := { s.fab with qTick := some s.ticks, qValid := false, qUnj := false } }

def execHurdleQueryWrite (value : Word) (s : State) : Host.Outcome State Fault Refusal := .next (s.writeHurdleQuery value)

/-- The result of a query (R294): none when it is not judged. -/
def State.queryFigures (s : State) (w : Word) : Option (List Nat) :=
  let ns := if wbit w 15 then (if wfld w 5 0 == wfld w 13 8 then [wfld w 13 8] else [wfld w 5 0, wfld w 13 8]) else [wfld w 13 8]
  match s.cfg.plan? (wfld w 18 16) with
  | none => none
  | some p =>
    let bad := fun (why : Nat) => why != 0 && why != 2
    if bad (s.tl.reasons.getD p.num 0) || ns.any fun n => (s.scene? n).isNone || bad (s.sc.reasons.getD n 0) then none
    else some (s.figures p (s.sceneWords ns))

/-- HURDLE_QUERY_DONE (R294): the query's combination has been judged. -/
def execHurdleQueryDone (s : State) : Host.Outcome State Fault Refusal :=
  if s.fab.qTick.isNone then .next s else
  let r := s.queryFigures (s.rw Reg.hurdleQuery)
  .next { s with fab := { s.fab with qTick := none, qValid := true, qUnj := r.isNone, qUse := r.getD (List.replicate 48 0) } }

/-- STACK_DEMAND in MB/s for a set of plans and scenes (R273): the largest over the plans named, every scene taken together with
the fade. -/
def State.demandOf (s : State) (p : LapPlan) (scenes : List Nat) : Nat :=
  let (a, b) := s.stackNum p (s.sceneWords scenes)
  ceilDiv (1000 * a) b

/-- The scenes composed while a pending cue takes effect: those of its fade, from the scene that is then current, or its own (R273). -/
def State.cueScenes (s : State) (c : SceneCue) : List Nat :=
  let a := s.sceneAt (s.cueAt c).1
  if c.fade && c.scene != a then [a, c.scene] else [c.scene]

/-- STACK_DEMAND (R273): the worst case of the plan in force, the current scene and any fade, and of every pending cue. -/
def State.stackDemand (s : State) : Nat :=
  if !s.tl.service then 0 else
  let plans := s.tl.plan :: ((s.tl.pend.toList ++ s.tl.held.toList).filterMap fun c => s.cfg.plan? c.plan)
  let sets := s.nowScenes :: s.sc.pend.map s.cueScenes
  (plans.flatMap fun p => sets.map (s.demandOf p)).foldl max 0

/-- The hurdle check's registers. -/
def State.readHurdle (s : State) (off : Nat) : Option Word :=
  let f := s.fab
  if off == Reg.hurdleStatus then
    some (Word.of (at_ (b2n f.runTick.isSome) 31 + at_ (worstOf s.nowFigures) 8 + f.runs % 256))
  else if off == Reg.hurdleQuery then
    some (Word.of (at_ (b2n f.qValid) 31 + at_ (b2n f.qUnj) 30 + (s.rw off).toNat))
  else if Reg.hurdleUse 0 ≤ off && off ≤ Reg.hurdleUse 47 then some (Word.of (s.nowFigures.getD ((off - Reg.hurdleUse 0) / 4) 0))
  else if Reg.hurdleQueryUse 0 ≤ off && off ≤ Reg.hurdleQueryUse 47 then
    some (Word.of (f.qUse.getD ((off - Reg.hurdleQueryUse 0) / 4) 0))
  else none

end Sys2Proof.Machine
end

