-- ==== Sys2Proof/Machine/Pacer.lean ====
section
/-! DEFINITION. The pacer and the losses of the fabric (11_fabric_pacer.md, R295 to R301). -/

namespace Sys2Proof.Machine

/-- The pacer runs in full service while ENABLE is 1 (R295). -/
def State.pacerOn (s : State) : Bool := s.tl.service && wbit (s.rws Reg.pacerCfg) 31

/-- VMIN, DOWN_LAPS, SLACK_LO and SLACK_HI in force (R305). -/
def State.vmin (s : State) : Nat := let v := wfld (s.rws Reg.pacerCfg) 7 0; 680 + 5 * (if 24 < v then 0 else v)
def State.downLaps (s : State) : Nat := let v := wfld (s.rws Reg.pacerCfg) 27 24; if v == 0 then 8 else v
def State.slackHi (s : State) : Nat := wfld (s.rws Reg.pacerCfg) 23 16
def State.slackLo (s : State) : Nat := let v := wfld (s.rws Reg.pacerCfg) 15 8; if v < s.slackHi then v else 26

/-- VSET commanded. -/
def State.setV (s : State) (v : Nat) : State :=
  if s.fab.vset == v then s else { s with fab := { s.fab with vset := v, vTick := s.ticks } }

/-- Causes of a surge: 0 panic, 1 VIEW_UNDERRUN, 2 SEND_UNDERRUN, 3 LATE_SEGMENT. -/
def surgeCode (cause : Nat) : Word := Config.code Ev.pacerSurge cause

/-- A surge (R297): VMAX at once; recorded at most once per lap. ENABLE 0 only holds VCORE at VMAX (R295). -/
def State.surge (s : State) (cause : Nat) : State :=
  if !s.tl.service then s else
  let old := s.fab.vset
  let first := !s.fab.surged
  let s := (s.setV 900).bump Reg.pacerSurges
  let s := { s with fab := { s.fab with surged := true, above := 0 } }
  if first then s.evtW (unitSrc Ev.pacerSurge) Ev.pacerSurge [surgeCode cause, Word.of old] else s

/-- The pacer's choice of VSET and `above` at a lap boundary (R296), the lap's margin and whether it surged given; `guard` says that a
cue guard holds. -/
def State.pacerVset (s : State) (guard : Bool) : Nat × Nat :=
  let f := s.fab
  let p := s.tl.plan
  -- S against k × P / 256, with P = pNum / rateN
  let cmp := fun (m : Int) (k : Nat) => m * (256 * p.rateN : Nat) - (k * p.pNum : Nat)
  let low : Bool := match f.margin with | some m => cmp m s.slackLo < 0 | none => false
  let high : Bool := match f.margin with | some m => 0 < cmp m s.slackHi | none => true
  if f.mismatch || f.surged then (900, 0)
  else if low then (min 900 (f.vset + 20), 0)
  else if high then
    if s.downLaps ≤ f.above + 1 && !guard then (max s.vmin (f.vset - 5), 0) else (f.vset, f.above + 1)
  else (f.vset, 0)

/-- The pacer at a lap boundary (R296, R300): S is taken and VSET chosen; 16 laps in a row with a surge make FABRIC_SLOW due, which is
recorded as the tick ends (Table 11.6). -/
def State.pacerLap (s : State) (guard : Bool) : State :=
  let (v, a) := if s.pacerOn then s.pacerVset guard else (900, 0)
  let run := if s.tl.service && s.fab.surged then s.fab.surgeRun + 1 else 0
  let s := s.setV v
  { s with fab := { s.fab with above := a, slack := s.fab.margin, margin := none, surged := false, surgeRun := run,
                               slowDue := s.fab.slowDue || (16 ≤ run && !s.fab.slow) } }

/-- FABRIC_SLOW that has fallen due in the tick, after a FABRIC_STALL of it (R300, Table 11.6). -/
def State.settleSlow (s : State) : State :=
  if !s.fab.slowDue then s else
  { s with fab := { s.fab with slowDue := false, slow := true } }.evFault Ev.fabricSlow Fk.fabricSlow fsPacer [worstOf s.nowFigures]

/-- A pair's margin taken (R296). -/
def State.pairMargin (s : State) (m : Int) : State :=
  { s with fab := { s.fab with margin := some (match s.fab.margin with | some x => min x m | none => m) } }

/-- A loss at an elastic boundary (R301): 0 chain transmit, 1 chain receive, 2 Ethernet receive, 3 Ethernet transmit. -/
def State.elasticLoss (s : State) (b : Nat) : State :=
  let s := s.bump (Reg.elasticEvents b)
  let fresh := match s.fab.elTick.getD b none with | some t => s.past t secT | none => true
  if fresh then { s with fab := { s.fab with elTick := setAt s.fab.elTick b (some s.ticks) } }.ev Ev.elasticLoss [b] else s

/-- Whether the lap boundary that ends the sixteenth lap in a row with a surge falls in this tick and has not come yet (R300). -/
def State.slowNow (s : State) : Bool :=
  s.tl.on && s.tl.service && s.tl.nextAt ≤ s.wall && s.tl.next % (max 1 s.tl.plan.legs : Nat) == 0 && s.fab.surged && 15 ≤ s.fab.surgeRun && !s.fab.slow

/-- FABRIC_STALL_TIMEOUT (R300): a stage has had work queued and completed no handshake for 1 ms. A FABRIC_SLOW due with it follows it. -/
def execFabricStallTimeout (stage : Fin 5) (s : State) : Host.Outcome State Fault Refusal :=
  if stage.val == 0 || s.fab.lost || !s.boot.running || s.boot.stage < 4 || s.boot.stage == 6 then .next s
  else .next ({ s with fab := { s.fab with slowDue := s.fab.slowDue || s.slowNow } }.fabricStall stage)

/-- The pacer's registers. -/
def State.readPacer (s : State) (off : Nat) : Option Word :=
  let f := s.fab
  if off == Reg.pacerStatus then
    some (Word.of (at_ (b2n f.mismatch) 18 + at_ (b2n f.guarded) 17 + at_ (b2n f.surged) 16 + f.vset % 1024))
  else if off == Reg.pacerSlack then
    some (match f.slack with | some x => Word.of (twos 32 x) | none => 0xFFFFFFFF#32)
  else if off == Reg.fabricStatus then some (Word.of (at_ (b2n f.lost) 31 + at_ (b2n f.slow) 30 + f.stage))
  else none

end Sys2Proof.Machine
end

