-- ==== Sys2Proof/Machine/Memory.lean ====
section
/-! DEFINITION. The memory system (10_memory_system.md): the address map, the controllers' request order, page policy, refresh, rest and
step, calibration slots, command parity, uncorrectable data and the loss of HBM, with the commands of the family (R262 to R286). -/

namespace Sys2Proof.Machine

/-- The place of an address: pseudo-channel, stack ID, bank, row and column (R263, Table 10.2). -/
structure HbmPlace where
  pc   : Nat
  sid  : Nat
  bank : Nat
  row  : Nat
  col  : Nat
  deriving DecidableEq, Repr

/-- The map of R263 under an order of Table 10.2. -/
def hbmPlace (npc order a : Nat) : HbmPlace :=
  let g := a / 256
  let l := g / npc * 256 + a % 256
  let w := l % 2 ^ 28
  let (row, bank, col) := match order with
    | 0 => (nfld w 27 14, nfld w 13 10, nfld w 9 0)
    | 1 => (nfld w 23 10, nfld w 27 24, nfld w 9 0)
    | 2 => (nfld w 27 14, nfld w 11 8, nfld w 13 12 * 256 + nfld w 7 0)
    | _ => (nfld w 27 14, nfld w 13 10 ^^^ nfld w 17 14 ^^^ nfld w 21 18, nfld w 9 0)
  ⟨g % npc, l / 2 ^ 28, bank, row, col⟩

/-- The place of an address in the map in force. -/
def State.place (s : State) (a : Nat) : HbmPlace := hbmPlace s.variant.pcsN s.mem.mapOrder a

/-- The bank of a stack ID as a controller numbers it. -/
def HbmPlace.bankNo (p : HbmPlace) : Nat := 16 * p.sid + p.bank

/-- A real-time port of Table 10.4. -/
def rtClass (port : Nat) : Bool := port < 3

/-- PANIC_MARK of a real-time port (R286). -/
def State.panicMark (s : State) (p : Nat) : Nat :=
  let v := wfld (s.rws (Reg.rtPortCfg p)) 14 0
  if [16384, 8192, 4096].getD p 0 < v then wfld (rwsReset (Reg.rtPortCfg p)) 14 0 else v

/-- Bytes a real-time port consumes in a lap at worst (R291): the lamp table, the canvas sampling half of its term, and the synthesis
state. -/
def State.rtBytes (s : State) (p : Nat) : Nat :=
  if !s.tl.service then 0 else
  match p with
  | 0 => 64 * s.lampCount * s.tl.plan.legs
  | 1 => ((s.planViews s.tl.plan).map fun v => 8 * v.w * v.h).foldl (· + ·) 0
  | _ => 4 * s.lampCount * s.tl.plan.legs

/-- The largest published tolerance. -/
def tolMax : Nat := 16777215

/-- Nanoseconds to the next latch (R38). -/
def State.toLatch (s : State) : Nat := (s.tl.nextAt - s.wall).toNat

/-- The tolerance a real-time port publishes (R267, R291). -/
def State.tolOf (s : State) (p : Nat) : Nat :=
  let r := s.mem.rtp p
  if r.panic then 0
  else if s.rtBytes p == 0 then tolMax
  else min tolMax ((r.level - s.panicMark p) * 64 * s.tl.plan.lb / s.rtBytes p + if r.busy then 0 else s.toLatch)

/-- The smallest tolerance published. -/
def State.minTol (s : State) : Nat := min (s.tolOf 0) (min (s.tolOf 1) (s.tolOf 2))

/-- Whether some real-time port is in panic. -/
def State.anyPanic (s : State) : Bool := s.mem.rt.any (·.panic)

/-- The stack of a pseudo-channel. -/
def stackOf (pc : Nat) : Nat := pc / 32

/-- The pseudo-channels of a stack. -/
def pcsOf (st : Nat) : List Nat := (List.range 32).map fun i => 32 * st + i

/-- A request of a real-time port queued at a pseudo-channel. -/
def PcSt.rtQueued (q : PcSt) : Bool := q.queue.any fun r => rtClass r.port

/-- The limit of OWED and the refresh interval in 64ths of a tick (R269, R270, R271): 243.75 ns or half of it. -/
def State.oweLimit (s : State) (pc : Nat) : Nat := if (s.mem.stk (stackOf pc)).hot then 4 else 8
def State.refiPb (s : State) (pc : Nat) : Nat := if (s.mem.stk (stackOf pc)).hot then 4875 else 9750

/-- A command issued, kept in the retry buffer (R281). -/
def PcSt.issue (q : PcSt) (c : MemCmd) : PcSt :=
  let l := q.cmds ++ [c]
  { q with cmds := if 32 < l.length then l.drop (l.length - 32) else l }

/-- A row closed. -/
def PcSt.closeRow (q : PcSt) (bank : Nat) : PcSt :=
  if q.rows.any (·.bank == bank) then { q.issue (.pre bank) with rows := q.rows.filter (·.bank != bank) } else q

/-- Every row closed. -/
def PcSt.closeAll (q : PcSt) : PcSt := if q.rows.isEmpty then q else { q.issue .preAll with rows := [] }

/-- One per-bank refresh: the bank's rows of all three stack IDs are closed first (R268, R269). -/
def PcSt.refresh (q : PcSt) : PcSt :=
  let b := q.refBank
  let q := ((q.closeRow b).closeRow (16 + b)).closeRow (32 + b)
  { q.issue (.ref b) with refBank := (b + 1) % 16 }

/-- One owed refresh paid. -/
def PcSt.payOne (q : PcSt) : PcSt :=
  let q := q.refresh
  { q with owed := q.owed - 1, payAll := q.payAll && 1 < q.owed }

/-- The rank of a request (R265): `panic` names the real-time ports in panic. -/
def reqRank (panic : List Bool) (now : Nat) (r : MemReq) : Nat :=
  if rtClass r.port then (if panic.getD r.port false then 1 else 2)
  else if r.tick + 12500 ≤ now then 2 else 3

/-- A request that an older one to the same 64-byte unit holds back (R266). -/
def heldBack (older : List MemReq) (r : MemReq) : Bool := older.any fun o => o.addr / 64 == r.addr / 64

/-- Requests that may be chosen, oldest first, with their places in the queue. -/
def openReqs : List MemReq → List MemReq → List MemReq
  | _, [] => []
  | older, r :: rs => (if heldBack older r then [] else [r]) ++ openReqs (older ++ [r]) rs

/-- The weights of COMPOSE, INGEST, HOSTPULL, BAR2 and MGMT (Table 10.4). -/
def rrWeights : List Nat := [8, 4, 2, 1, 1]

/-- The port the weighted round robin serves next among those that wait, with the credits left. -/
def rrPick (credit : List Nat) (waiting : List Nat) : Nat × List Nat :=
  match waiting.find? fun p => 0 < credit.getD (p - 3) 0 with
  | some p => (p, modAt credit (p - 3) (· - 1))
  | none => (waiting.headD 3, modAt rrWeights (waiting.headD 3 - 3) (· - 1))

/-- The request served next (R265), with the credits left. -/
def PcSt.choose (q : PcSt) (panic : List Bool) (now : Nat) (rowOf : Nat → Nat × Nat) : Option (MemReq × List Nat) :=
  let rs := openReqs [] q.queue
  let isOpen := fun (r : MemReq) => let (b, w) := rowOf r.addr; q.rows.any fun o => o.bank == b && o.row == w
  let first := fun (l : List MemReq) => (l.find? isOpen).orElse fun _ => l.head?
  match first (rs.filter fun r => reqRank panic now r == 1) with
  | some r => some (r, q.credit)
  | none => match first (rs.filter fun r => reqRank panic now r == 2) with
    | some r => some (r, q.credit)
    | none =>
      if rs.isEmpty then none else
      let (p, c) := rrPick q.credit ((List.range 5).map (· + 3) |>.filter fun p => rs.any (·.port == p))
      (first (rs.filter (·.port == p))).map fun r => (r, c)

/-- A chosen request served: its row is opened if needed, and the access made in two bursts of 32 bytes (Table 10.1). -/
def PcSt.serve (q : PcSt) (r : MemReq) (bank row col now idle : Nat) : PcSt :=
  let q := if q.rows.any fun o => o.bank == bank && o.row == row then q
    else
      let q := q.closeRow bank
      { q.issue (.act bank row) with rows := q.rows ++ [⟨bank, row, now⟩] }
  let col := col / 64 * 64
  let q := if r.write then (q.issue (.wr bank col)).issue (.wr bank (col + 32)) else (q.issue (.rd bank col)).issue (.rd bank (col + 32))
  let q := { q with queue := q.queue.erase r, flight := if r.write then q.flight else q.flight ++ [r, r],
                    rows := q.rows.map fun o => if o.bank == bank then ⟨o.bank, o.row, now⟩ else o }
  if idle == 0 then q.closeRow bank else q

/-- PAGE_IDLE, in units of 4 ns. -/
def State.pageIdle (s : State) : Nat := wfld (s.rws Reg.memCfg) 23 16

/-- Whether a pseudo-channel may serve now: HBM works, its stack is awake or is entering a rest, and neither an alert nor a calibration
slot stops it. -/
def State.pcRuns (s : State) (pc : Nat) : Bool :=
  let q := s.mem.pc pc
  s.mem.ok && q.alert.isNone && q.slotOn.isNone &&
  (match (s.mem.stk (stackOf pc)).phase with | .active => true | .entering => true | _ => false)

/-- One turn of a pseudo-channel controller (R265, R270): an owed refresh when it must be paid first or nothing real-time waits, and
otherwise the request of the best rank. A refresh that the limit forces is counted. -/
def State.pcTurn (s : State) (pc : Nat) : State :=
  let q := s.mem.pc pc
  if !(s.pcRuns pc) || (q.queue.isEmpty && q.owed == 0) then s else
  if 0 < q.owed && (q.payAll || !q.rtQueued) then s.modPc pc PcSt.payOne
  else
    let rowOf := fun (a : Nat) => let p := s.place a; (p.bankNo, p.row)
    match q.choose (s.mem.rt.map (·.panic)) s.ticks rowOf with
    | none => s
    | some (r, c) =>
      let p := s.place r.addr
      let opens := !(q.rows.any fun o => o.bank == p.bankNo && o.row == p.row)
      if opens && s.oweLimit pc ≤ q.owed then (s.modPc pc PcSt.payOne).bump Reg.refreshForced
      else
        let s := s.modStk (stackOf pc) fun k => { k with quiet := s.ticks }
        s.modPc pc fun q => ({ q with credit := c }).serve r p.bankNo p.row p.col s.ticks s.pageIdle

/-- Self-refresh entered once nothing is owed and no controller has stopped for an alert (R274, R281): rows are closed, and the entry command
is issued. -/
def State.enterRest (s : State) (st : Nat) : State :=
  match (s.mem.stk st).phase with
  | .entering =>
    if (pcsOf st).any fun p => (s.mem.pc p).owed != 0 || (s.mem.pc p).alert.isSome then s
    else
      let s := (pcsOf st).foldl (fun s p => s.modPc p PcSt.closeAll) s
      let s := s.bump (if (s.mem.stk st).step then Reg.stackSteps st else Reg.stackRestEntries st)
      s.modStk st fun k => { k with phase := .selfRefresh, phaseTick := s.ticks }
  | _ => s

/-- What the memory system does in one tick: each controller takes one turn, and entries to self-refresh go on. -/
def State.memTick (s : State) : State :=
  if !s.mem.ok then s else
  let s := (List.range s.variant.pcsN).foldl State.pcTurn s
  (List.range s.variant.stacksN).foldl State.enterRest s

/-- A step of a stack's rate begun (R272, R275). -/
def State.beginStep (s : State) (st : Nat) : State :=
  s.modStk st fun k => { k with phase := .entering, step := true, phaseTick := s.ticks }

/-- STACK_DEMAND's limit for a step down (R273). -/
def stepLimit : Nat := 614400

/-- A pending entry to self-refresh given up (R274). -/
def State.dropEntry (s : State) (st : Nat) : State :=
  (s.modStk st fun k => { k with phase := .active, step := false }).bump (Reg.stackRestAborts st)

/-- Stacks that run stepped down step back up at once, out of a rest not yet entered too (R275); a step down whose entry has not been
issued is given up. -/
def State.stepUps (s : State) : State :=
  (List.range s.variant.stacksN).foldl (fun s st =>
    let k := s.mem.stk st
    match k.phase with
    | .active => if k.down then s.beginStep st else s
    | .entering => if k.down then (if k.step then s else (s.dropEntry st).beginStep st) else if k.step then s.dropEntry st else s
    | _ => s) s

/-- An accepted cue judged for STACK_DEMAND (R275). -/
def State.demandStep (s : State) : State := if stepLimit < s.stackDemand then s.stepUps else s

/-- A pending entry to self-refresh aborted by a request (R274); a step up goes on (R275). -/
def State.abortRest (s : State) (st : Nat) : State :=
  let k := s.mem.stk st
  match k.phase with
  | .entering => if k.step && k.down then s else s.dropEntry st
  | _ => s

/-- A real-time port's level and consumption noted (R267): entering panic surges the pacer and steps stacks up. -/
def State.rtLevel (s : State) (p level : Nat) (busy : Bool) : State :=
  let panic : Bool := level < s.panicMark p
  let was := (s.mem.rtp p).panic
  let s := { s with mem := { s.mem with rt := setAt s.mem.rt p ⟨level, panic, busy⟩ } }
  if panic && !was then ((s.bump (Reg.rtPanics p)).surge 0).stepUps else s

/-- A request joins a controller's queue: behind those that came before, but of two writes of one unit in one cycle the lower-numbered
port's goes first (R266, Table 10.7). -/
def enqueue (r : MemReq) : List MemReq → List MemReq
  | [] => [r]
  | q :: qs => if q.write && r.write && q.tick == r.tick && q.addr / 64 == r.addr / 64 && r.port < q.port then r :: q :: qs else q :: enqueue r qs

/-- MEM_REQUEST (R265): a request reaches the controller of its address; a real-time port's request brings its prefetch level, and whether
it has consumption scheduled before its next latch. One beyond HBM is outside memory (R251, R263); one that finds 64 of its port waiting is
not taken yet, and the fabric brings it again (Table 11.5). -/
def execMemRequest (port : Fin 8) (addr : BitVec 40) (write : Bool) (level : Fin 16385) (busy : Bool) (s : State) :
    Host.Outcome State Fault Refusal :=
  if !s.mem.ok then .next s else
  let s := if rtClass port then s.rtLevel port level busy else s
  if s.variant.hbmBytes ≤ addr.toNat then .next s else
  let p := s.place addr.toNat
  if 64 ≤ ((s.mem.pc p.pc).queue.filter (·.port == port.val)).length then .next s else
  let s := s.abortRest (stackOf p.pc)
  let s := s.modPc p.pc fun q => { q with queue := enqueue ⟨port, addr.toNat, write, s.ticks⟩ q.queue }
  .next (s.modStk (stackOf p.pc) fun k => { k with quiet := s.ticks })

/-- Every pair of a lamp made dirty, and sent whatever its words (Table 10.6). -/
def Tile.forceLamp (t : Tile) (scan : Nat) : Tile :=
  { t with pairs := t.pairs.map fun l => modAt l (scan / 256) fun p => { p with dirty := true, uncond := true } }

/-- The tile that holds a lamp index changed. -/
def State.modLampTile (s : State) (i : Nat) (f : Nat → Tile → Tile) : State :=
  match s.lampAt i with
  | some (t, k) => s.modTile t.port t.pos (f k)
  | none => s

/-- The first offset past what BAR2 reaches: the HBM of the variant, at most 64 GiB (R251, Table 9.1). -/
def State.bar2Top (s : State) : Nat := min s.variant.hbmBytes (2 ^ 36)

/-- The byte offset of the lamp table and its size (R76). -/
def State.tableAt (s : State) : Nat := 512 * s.mem.lampBase
def State.tableSize (s : State) : Nat := 64 * 2 ^ s.variant.lampLog2

/-- Whether a byte offset lies in the lamp table, which has its place from training on. -/
def State.inTable (s : State) (a : Nat) : Bool := s.mem.ok && s.tableAt ≤ a && a < s.tableAt + s.tableSize

/-- The 64 bytes of a lamp entry (R78). -/
def Lamp.bytes (l : Lamp) : List Byte := l.words.flatMap fun w => leBytes 4 w.toNat

/-- The stored entry of a lamp index (R76, R77): of a tile that is lit, or of one that a later census has not found or has refused, whose
entries stay. -/
def State.entryOf (s : State) (i : Nat) : Option Lamp :=
  ((s.tiles ++ s.ports.flatMap (·.lost)).find? fun t => !t.lamps.isEmpty && t.base ≤ i && i < t.base + t.lampsN).bind fun t => t.lamps[i - t.base]?

/-- A byte of the lamp table: of a lamp's entry, or of an unused one, which holds 0 until something is written there (R76). -/
def State.tableByte (s : State) (a : Nat) : Byte :=
  match s.entryOf ((a - s.tableAt) / 64) with
  | some l => l.bytes.getD ((a - s.tableAt) % 64) 0
  | none => (Sparse.get (fun _ => 0#9) s.mem.bytes a).setWidth 8

/-- A byte of the HBM window (R251): 0 beyond what the variant has and in limp service. -/
def State.bar2Byte (s : State) (a : Nat) : Byte :=
  if s.boot.stage == 7 || s.bar2Top ≤ a then 0
  else if s.inTable a then s.tableByte a
  else hbmRead s.mem.bytes a

/-- The stacks that a range of HBM reaches (R263). -/
def State.rangeStacks (s : State) (a n : Nat) : List Nat :=
  let g := a / 256
  let k := (a + n + 255) / 256 - g
  (List.range s.variant.stacksN).filter fun st => (List.range (min k s.variant.pcsN)).any fun i => stackOf ((g + i) % s.variant.pcsN) == st

/-- A stack in self-refresh, or coming out of it. -/
def StackSt.asleep (k : StackSt) : Bool := match k.phase with | .selfRefresh => true | .exiting => true | _ => false

/-- A lamp entry with some of its bytes replaced, `o` the offset of the first in the entry; its reserved bits stay 0. -/
def Lamp.patch (l : Lamp) (o : Int) (bs : List Byte) : Lamp :=
  let new := (List.range 64).map fun (i : Nat) =>
    let j := (i : Int) - o
    if 0 ≤ j && j < bs.length then bs.getD j.toNat 0 else l.bytes.getD i 0
  { Lamp.ofWords ((List.range 16).map fun i => Word.of (leAt new (4 * i) 4)) with check := l.check, unchecked := l.unchecked }

/-- A write applied to HBM before the seal (R251), also to the entries of the lamp table. -/
def State.bar2Put (s : State) (a : Nat) (bs : List Byte) : State :=
  let s := { s with mem := { s.mem with bytes := hbmWriteList s.mem.bytes a bs } }
  let base := s.tableAt
  if !(s.inTable a || s.inTable (a + bs.length - 1)) then s else
  let first := (a - base) / 64
  (List.range (bs.length / 64 + 2)).foldl (fun s i =>
    s.modLampTile (first + i) fun k t =>
      { t with lamps := modAt t.lamps k fun l => l.patch ((a : Int) - (base + 64 * (first + i) : Nat)) bs }) s

/-- A BAR2 read completed: its bytes, poisoned if an uncorrectable burst held some of them (Table 10.6). -/
def State.readDone (s : State) (a n : Nat) : State :=
  let hit := fun (u : Nat) => a / 64 ≤ u && u ≤ (a + n - 1) / 64
  let s := s.send (.readBytes ((List.range n).map fun i => s.bar2Byte (a + i)) (s.mem.poison.any hit))
  { s with mem := { s.mem with poison := s.mem.poison.filter fun u => !(hit u) } }

/-- The range of a BAR2 access. -/
def Bar2Op.addr : Bar2Op → Nat
  | .read a _ => a
  | .write a _ => a
def Bar2Op.len : Bar2Op → Nat
  | .read _ n => n
  | .write _ d => d.length

/-- Two accesses that reach one 64-byte unit (R266). -/
def Bar2Op.meets (x y : Bar2Op) : Bool := x.addr / 64 ≤ (y.addr + y.len - 1) / 64 && y.addr / 64 ≤ (x.addr + x.len - 1) / 64

/-- Whether a BAR2 access must wait: for the exit of a stack that it reaches (R251, R274), or for an earlier one to the same unit (R266). -/
def State.bar2Waits (s : State) (before : List Bar2Op) (x : Bar2Op) : Bool :=
  s.boot.stage != 7 && x.addr < s.bar2Top &&
  (((s.rangeStacks x.addr x.len).any fun st => (s.mem.stk st).asleep) || before.any x.meets)

/-- A BAR2 access made. -/
def State.bar2Do (s : State) (x : Bar2Op) : State :=
  match x with
  | .read a n => s.readDone a n
  | .write a d => if s.boot.stage == 7 then s else s.bar2Put a d

/-- The BAR2 accesses that need wait no more made, in order; the others stay, behind `kept`. -/
def State.bar2Drain (s : State) (kept : List Bar2Op) : List Bar2Op → State
  | [] => { s with host := { s.host with waits := kept } }
  | x :: xs => if s.bar2Waits kept x then s.bar2Drain (kept ++ [x]) xs else (s.bar2Do x).bar2Drain kept xs

/-- The waiting BAR2 accesses looked at again. -/
def State.bar2Go (s : State) : State := s.bar2Drain [] s.host.waits

/-- A BAR2 access reaches the controllers of its bytes: a pending entry to self-refresh is aborted (R274). -/
def State.bar2Reach (s : State) (x : Bar2Op) : State :=
  let s := if s.mem.ok && x.addr < s.bar2Top then
      (s.rangeStacks x.addr x.len).foldl (fun s st => (s.abortRest st).modStk st fun k => { k with quiet := s.ticks }) s
    else s
  if s.bar2Waits s.host.waits x then { s with host := { s.host with waits := s.host.waits ++ [x] } } else s.bar2Do x

/-- BAR2_READ (R251): the stored bytes are returned, after the exit of a stack in self-refresh that the read reaches. -/
def execBar2Read (addr : BitVec 40) (len : Nat) (s : State) : Host.Outcome State Fault Refusal :=
  if len == 0 || 2 ^ 36 ≤ addr.toNat then .next s else .next (s.bar2Reach (.read addr.toNat len))

/-- BAR2_WRITE (R77, R251): applied before the seal; after it discarded and counted. Beyond HBM and in limp service it is ignored. -/
def execBar2Write (addr : BitVec 40) (data : List Byte) (s : State) : Host.Outcome State Fault Refusal :=
  let a := addr.toNat
  if s.boot.stage == 7 || s.bar2Top ≤ a || data.isEmpty then .next s
  else
    let bs := data.take (s.bar2Top - a)
    if s.boot.sealWhen == .notYet then .next (s.bar2Reach (.write a bs))
    else if (List.range bs.length).any fun i => s.inTable (a + i) then .next (s.bump Reg.corrBlockedWrites)
    else .next (s.bump Reg.hostBar2Blocked)

/-- HBM lost with a pseudo-channel (R282): the fault names it, and limp service follows from the fault. -/
def State.losePc (s : State) (p train : Nat) : State :=
  let first := if s.mem.ok || !(s.mem.pcs.any fun q => q.train == 4 || q.train == 3) then p else s.mem.lostPc
  let s := s.modPc p fun q => { q with train := train }
  let s := s.modStk (stackOf p) fun k => { k with phase := .failed }
  ({ s with mem := { s.mem with ok := false, lostPc := first } }.fault Fk.memPcLost (srcPc p) []).bar2Go

/-- Pixels of a canvas that 64 bytes of HBM hold: the view and the pixel numbers (R42). -/
def State.canvasHit (s : State) (addr : Nat) : Option (Nat × List Nat) :=
  (List.range s.variant.viewsN).findSome? fun v =>
    match s.cfg.view? v with
    | none => none
    | some r =>
      let base := 512 * (s.mem.canvasBase.getD (2 * v + (s.view v).buf) 0)
      let pitch := canvasPitch r.w
      if addr < base || base + pitch * r.h ≤ addr then none
      else
        let o := (addr - base) / 64 * 64
        some (v, ((List.range 8).map fun i => o % pitch / 8 + i).filter (· < r.w) |>.map fun x => o / pitch * r.w + x)

/-- What an uncorrectable burst does to its reader (Table 10.6). -/
def State.ueHandle (s : State) (r : MemReq) (hit : Sys2Proof.BurstHit) : State :=
  match r.port with
  | 0 =>
    let i := (r.addr - 512 * s.mem.lampBase) / 64
    let s := s.modLampTile i fun k t => t.forceLamp k
    { s with mem := { s.mem with lampLost := if s.mem.lampLost.contains i then s.mem.lampLost else s.mem.lampLost ++ [i] } }
  | 1 =>
    match s.canvasHit r.addr with
    | none => s
    | some (v, px) =>
      let w := ((s.cfg.view? v).map (·.w)).getD 1
      let blocks := px.map fun i => i / w / 32 * ceilDiv w 32 + i % w / 32
      s.modView v fun x =>
        { x with latch := x.latch.map (fun l => { l with badPx := l.badPx ++ px }),
                 recheckBlocks := x.recheckBlocks ++ blocks.filter fun b => !(x.recheckBlocks.contains b) }
  | 2 =>
    match hit with
    | .lamps l => l.foldl (fun s i => s.modLampTile i fun k t =>
        { t.forceLamp k with lamps := modAt t.lamps k fun x => { x with unchecked := 0 } }) s
    | _ => s
  | 3 =>
    match hit with
    | .pixels v l o px => s.modView v fun x =>
        { x with latch := x.latch.map fun y => { y with holes := y.holes ++ px.map fun q => (o, l, q.1, q.2) } }
    | _ => s
  | 6 => { s with mem := { s.mem with poison := s.mem.poison ++ [r.addr / 64] } }
  | 7 =>
    match hit with
    | .core c => s.fault Fk.coreBusError (fsCore c) [c, r.addr % 2 ^ 32, r.addr / 2 ^ 32]
    | _ => s
  | _ => s

/-- MEM_READ_BURST (R283): the oldest read of a pseudo-channel returns, with severity 0 clean, 1 corrected or 2 uncorrectable. The
sixteenth uncorrectable burst within 1 s loses the pseudo-channel (R282). A request's two bursts come one after the other. -/
def execMemReadBurst (pc : Fin 128) (sev : Fin 3) (hit : Sys2Proof.BurstHit) (s : State) : Host.Outcome State Fault Refusal :=
  match (s.mem.pc pc).flight with
  | [] => .next s
  | r :: rest =>
    let s := s.modPc pc fun q => { q with flight := rest }
    match sev.val with
    | 0 => .next s
    | 1 => .next (s.bump (Reg.stackCe (stackOf pc)))
    | _ =>
      let s := { s.bump (Reg.stackUe (stackOf pc)) with mem := { s.mem with ueAddr := r.addr, uePort := r.port } }
      let s := (s.fault Fk.memUe (srcPc pc) []).ueHandle r hit
      let l := ((s.mem.pc pc).ueTicks.filter fun t => s.ticks < t + secT) ++ [s.ticks]
      let s := s.modPc pc fun q => { q with ueTicks := l }
      .next (if 16 ≤ l.length && (s.mem.pc pc).train < 3 then s.losePc pc 4 else s)

/-- REFRESH_DUE (R269, R270): a per-bank refresh falls due and is issued, or postponed while a real-time request waits; at the limit it
is forced. At a hot crossing nothing is postponed (Table 10.7). -/
def execRefreshDue (pc : Fin 128) (s : State) : Host.Outcome State Fault Refusal :=
  let q := s.mem.pc pc
  if !(s.pcRuns pc) || 64 * s.ticks < q.refTick + s.refiPb pc then .next s else
  let s := s.modPc pc fun q => { q with refTick := q.refTick + s.refiPb pc }
  if !q.rtQueued || q.payAll || (s.mem.stk (stackOf pc)).hotTick == some s.ticks then .next (s.modPc pc PcSt.refresh)
  else if q.owed < s.oweLimit pc then .next (s.modPc pc fun q => { q with owed := q.owed + 1 })
  else .next ((s.modPc pc PcSt.refresh).bump Reg.refreshForced)

/-- PAGE_IDLE_TIMEOUT (R268): PAGE_IDLE × 4 ns have passed since the bank's last access. -/
def execPageIdleTimeout (pc : Fin 128) (bank : Fin 48) (s : State) : Host.Outcome State Fault Refusal :=
  let idle := (s.mem.pc pc).rows.any fun o => o.bank == bank.val && s.past o.tick ((s.pageIdle * 5 + 1) / 2)
  if s.pcRuns pc && idle then .next (s.modPc pc fun q => q.closeRow bank) else .next s

/-- A stack made hot or cool (R271). -/
def State.setHot (s : State) (st : Nat) (hot : Bool) (v : Int) : State :=
  let k := s.mem.stk st
  if k.hot == hot then s
  else
    let s := s.modStk st fun k => { k with hot := hot, hotTick := if hot then some s.ticks else k.hotTick }
    let s := if hot then (pcsOf st).foldl (fun s p => s.modPc p fun q => { q with payAll := 0 < q.owed }) s else s
    s.ev (if hot then Ev.memHot else Ev.memCool) [st, sw v]

/-- A stack's reading judged against its limits (R438). -/
def State.judgeStack (s : State) (st : Nat) (old v : Int) : State × List FltMsg :=
  let n := s.hk.stackHi.getD st 0
  let m := if 1680 ≤ v then min 3 (n + 1) else 0
  let warn := s.stackWarn
  let s := { s with hk := { s.hk with stackHi := setAt s.hk.stackHi st m } }
  let s := s.levelEvent (16 + st) 2 warn (some old) v
  (s, (if m == 3 && n == 2 then [⟨Fk.hkStackShutdown, srcStack st, []⟩] else []) ++
    (if (16 * warn : Int) ≤ v then [⟨Fk.hkStackHot, srcStack st, []⟩] else []))

/-- Whether a stack is read: it is present and has power. -/
def State.stackRead (s : State) (st : Nat) : Bool := st < s.variant.stacksN && s.boot.running && s.pwr.hbmRail

/-- STACK_TEMP_READING (R271, R438): a reading each 1 ms. -/
def execStackTempReading (stack : Fin 4) (temp : BitVec 16) (s : State) : Host.Outcome State Fault Refusal :=
  let k := s.mem.stk stack
  if !(s.stackRead stack) || !(s.past k.tempTick msT) then .next s else
  let v := temp.toInt
  let s := s.modStk stack fun k => { k with temp := v, tempTick := s.ticks, tempPrior := k.temp }
  let s := if 1360 ≤ v then s.setHot stack true v else if v ≤ 1328 then s.setHot stack false v else s
  let (t, ms) := s.judgeStack stack k.temp v
  .next (t.hkRaise ms)

/-- STACK_READ_TIMEOUT (R438): no reading for 16 ms; the stack counts as hot until readings return. -/
def execStackReadTimeout (stack : Fin 4) (s : State) : Host.Outcome State Fault Refusal :=
  let k := s.mem.stk stack
  if !(s.stackRead stack) || !(s.past k.tempTick (16 * msT)) then .next s else
  let s := { s with hk := { s.hk with stackHi := setAt s.hk.stackHi stack 0 } }
  .next ((s.setHot stack true k.temp).hkRaise [⟨Fk.hkStackUnread, srcStack stack, []⟩])

/-- Whether nothing is queued for a stack and it has been quiet for 2,000 ns. -/
def State.stackQuiet (s : State) (st : Nat) : Bool :=
  ((pcsOf st).all fun p => (s.mem.pc p).queue.isEmpty) && s.past (s.mem.stk st).quiet 1250

/-- The conditions of R273 for a rest, or for a step down. A controller that has stopped for an alert keeps its stack awake (R281). -/
def State.restOk (s : State) (st : Nat) (step : Bool) : Bool :=
  let k := s.mem.stk st
  s.mem.ok && k.phase == .active && wbit (s.rws Reg.memCfg) (if step then 6 else 7) && s.stackQuiet st &&
  ((pcsOf st).all fun p => (s.mem.pc p).slotOn.isNone && (s.mem.pc p).alert.isNone) && (if step then 10000 else 3000) < s.minTol &&
  (!step || (!k.down && s.memRate != 0 && s.stackDemand ≤ stepLimit))

/-- STACK_QUIET (R272, R273): a quiet stack enters rest, or begins a step down. -/
def execStackQuiet (stack : Fin 4) (step : Bool) (s : State) : Host.Outcome State Fault Refusal :=
  if s.restOk stack step then
    .next (s.modStk stack fun k => { k with phase := .entering, step := step, phaseTick := s.ticks })
  else .next s

/-- STACK_WAKE (R274): once the minimum residency has passed, a step goes on, and a rest ends for a request or for a housekeeping
`need`. -/
def execStackWake (stack : Fin 4) (need : Bool) (s : State) : Host.Outcome State Fault Refusal :=
  let k := s.mem.stk stack
  let asked := k.step || need || (s.host.waits.any fun x => (s.rangeStacks x.addr x.len).contains stack.val) || (pcsOf stack).any fun p => !((s.mem.pc p).queue.isEmpty)
  if k.phase == .selfRefresh && s.past k.phaseTick usT && asked then
    .next (s.modStk stack fun k => { k with phase := .exiting, phaseTick := s.ticks })
  else .next s

/-- STACK_EXIT_DONE (R272, R274, R275): the exit ends, nothing is owed and the refresh schedule restarts; a step has changed the rate.
A stepped-down stack that a panic or the demand asks for steps up again at once. -/
def execStackExitDone (stack : Fin 4) (s : State) : Host.Outcome State Fault Refusal :=
  let k := s.mem.stk stack
  if k.phase != .exiting then .next s else
  let down := if k.step then !k.down else k.down
  let s := s.modStk stack fun k =>
    { k with phase := .active, step := false, down := down, rate := if down then 0 else s.memRate, quiet := s.ticks }
  let s := (pcsOf stack).foldl (fun s p => s.modPc p fun q => { q with owed := 0, payAll := false, refTick := 64 * s.ticks }) s
  let s := s.bar2Go
  .next (if down && (s.anyPanic || stepLimit < s.stackDemand) then s.beginStep stack else s)

/-- PARITY_ALERT (R280, R281): the stack names the command, as an index of the retry buffer; the controller stops issuing, and a
calibration slot in progress ends ABORTED with its delays kept and no quality (Table 5.5). -/
def execParityAlert (pc : Fin 128) (cmd : Fin 32) (s : State) : Host.Outcome State Fault Refusal :=
  let q := s.mem.pc pc
  if !s.mem.ok || q.alert.isSome || q.cmds.length ≤ cmd.val then .next s
  else .next (s.modPc pc fun q =>
    let on := q.slotOn.isSome
    { q with alert := some (q.cmds.drop cmd), tries := 0, slotOn := none, trimStatus := if on then 4 else q.trimStatus,
             trimQ := if on then 0 else q.trimQ, eye := if on then 0 else q.eye })

/-- Rows open after a run of commands. -/
def rowsAfter (now : Nat) (rows : List OpenRow) : List MemCmd → List OpenRow
  | [] => rows
  | c :: cs => rowsAfter now (match c with
    | .act b r => rows.filter (·.bank != b) ++ [⟨b, r, now⟩]
    | .pre b => rows.filter (·.bank != b)
    | .preAll => []
    | _ => rows) cs

/-- A replay (R281): all banks are precharged, and the commands are issued again in their order. -/
def PcSt.replay (q : PcSt) (now : Nat) (cs : List MemCmd) : PcSt :=
  { cs.foldl PcSt.issue (q.issue .preAll) with rows := rowsAfter now [] cs }

/-- PARITY_ALERT_CLEAR (R281): all banks are precharged and the named command and every later one issued again; `again` says that an
alert came during the replay, which then starts again. The third failure in a row loses the pseudo-channel. -/
def execParityAlertClear (pc : Fin 128) (again : Bool) (s : State) : Host.Outcome State Fault Refusal :=
  match (s.mem.pc pc).alert with
  | none => .next s
  | some cs =>
    let s := (s.bump (Reg.pcReplays pc)).modPc pc fun q => q.replay s.ticks cs
    if !again then .next (s.modPc pc fun q => { q with alert := none, tries := 0 })
    else
      let n := (s.mem.pc pc).tries + 1
      let s := s.modPc pc fun q => { q with tries := n, rows := [] }
      if n < 3 then .next s
      else
        let s := (s.modPc pc fun q => { q with alert := none }).ev Ev.memReplayFailed [pc]
        .next (if (s.mem.pc pc).train < 3 then s.losePc pc 4 else s)

/-- TRIM_PERIOD in seconds (R286). -/
def State.trimPeriod (s : State) : Nat := let v := wfld (s.rws Reg.memCfg) 31 26; if 1 ≤ v && v ≤ 60 then v else 10

/-- Whether a calibration slot may start now (R278, R279). -/
def State.slotOk (s : State) (pc : Nat) : Bool :=
  let k := s.mem.stk (stackOf pc)
  !s.anyPanic && 2500 ≤ s.minTol && k.phase == .active && (s.mem.pc pc).owed == 0 &&
  ((pcsOf (stackOf pc)).all fun p => (s.mem.pc p).slotOn.isNone) && (s.mem.pc pc).alert.isNone

/-- TRIM_SLOT_DUE (R278, R279): the slot starts, or waits; one that has waited a whole TRIM_PERIOD is recorded. -/
def execTrimSlotDue (pc : Fin 128) (s : State) : Host.Outcome State Fault Refusal :=
  let q := s.mem.pc pc
  if !s.mem.ok || s.variant.pcsN ≤ pc.val || q.slotOn.isSome || s.ticks < q.slotTick then .next s
  else if s.slotOk pc then .next (s.modPc pc fun q => { q with slotOn := some s.ticks })
  else if s.past q.slotTick (s.trimPeriod * secT) && !q.slotLate then
    .next (((s.modPc pc fun q => { q with slotLate := true }).bump Reg.trimPostponedCount).ev Ev.memTrimPostponed [pc])
  else .next s

/-- A delay moved toward its eye centre by at most 2 (R278). -/
def trimMove (d : Nat) (centre : Int) : Nat := (clampI 0 255 ((d : Int) + clampI (-2) 2 (centre - d))).toNat

/-- PHY_DELAY of a pseudo-channel after a slot: centres are read and write delays of each lane in turn (R278). -/
def State.trimDelays (s : State) (pc : Nat) (centre : List Int) : State :=
  (List.range 34).foldl (fun s l =>
    let off := Reg.phyDelay pc l
    let w := s.rws off
    let rd := wfld w 15 8
    let wr := wfld w 23 16
    let w := wput (wput w 15 8 (trimMove rd (centre.getD (2 * l) rd))) 23 16 (trimMove wr (centre.getD (2 * l + 1) wr))
    s.setRws off w) s

/-- TRIM_SLOT_END (R278, R280): the 2 µs slot ends; `eye` is the smallest eye of each lane. Without the returned pattern it ends INVALID
and the delays stay. -/
def execTrimSlotEnd (pc : Fin 128) (found : Bool) (eye : List Nat) (centre : List Int) (s : State) :
    Host.Outcome State Fault Refusal :=
  match (s.mem.pc pc).slotOn with
  | none => .next s
  | some t =>
    if !(s.past t 1250) then .next s else
    let s := s.modPc pc fun q =>
      { q with slotOn := none, slotLate := false, slotTick := q.slotTick + s.trimPeriod * secT * (1 + (s.ticks - q.slotTick) / (s.trimPeriod * secT)) }
    if !found || eye.isEmpty then
      .next (((s.modPc pc fun q => { q with trimStatus := 3, trimQ := 0, eye := 0 }).bump Reg.trimInvalidCount).ev Ev.memTrimInvalid [pc])
    else
      let w := min 63 (eye.foldl min (eye.headD 0))
      let lane := (eye.findIdx? (· == eye.foldl min (eye.headD 0))).getD 0
      let s := (s.modPc pc fun q => { q with trimStatus := if 16 ≤ w then 1 else 2, trimQ := min 100 (100 * w / 24), eye := w }).trimDelays pc centre
      .next (if 16 ≤ w then s else s.ev Ev.memLaneWeak [pc, lane, w])

/-- Lanes of a pseudo-channel that training finds below 12 steps (R277). -/
def weakLanes (eyes : List Nat) : List Nat := (List.range 32).filter fun l => eyes.getD l 0 < 12

/-- Training of one pseudo-channel (R277): lanes repaired, or the step it fails at, a third repair among them. -/
def State.trainPc (s : State) (fails : List (Nat × Nat)) (p : Nat) (eyes : List Nat) : State :=
  let weak := weakLanes eyes
  let s := (weak.take 2).zipIdx.foldl (fun s x => s.evtAt (srcPc p) Ev.memLaneRepaired [p, x.1, x.2]) s
  let s := s.modPc p fun q =>
    { q with train := if weak.isEmpty then 1 else 2, spares := [weak.getD 0 63, weak.getD 1 63], refTick := 64 * s.ticks,
             slotTick := s.ticks + s.trimPeriod * secT * (p % 32 + 1) / 32 }
  let step := match fails.find? (·.1 == p) with | some x => some x.2 | none => if 2 < weak.length then some 5 else none
  match step with
  | none => s
  | some k => s.evtW (srcPc p) Ev.memTrainFailed [Word.of p, Config.code Ev.memTrainFailed k]

/-- Whether a pseudo-channel has failed training (R277). -/
def trainBad (fails : List (Nat × Nat)) (p : Nat) (eyes : List Nat) : Bool := fails.any (·.1 == p) || 2 < (weakLanes eyes).length

/-- HBM_TRAINING_DONE (R264, R277): training ends; `eyes` gives each pseudo-channel's smallest read or write eye per DQ lane, `fails` the
pseudo-channels that fail another step, and `lampBase` and `place` say where the HX7 places the lamp table and its buffers. A stack none of
whose pseudo-channels has failed is trained. -/
def execHbmTrainingDone (eyes : List (List Nat)) (fails : List (Fin 128 × Fin 8)) (lampBase : Word) (place : HbmPlaces) (s : State) :
    Host.Outcome State Fault Refusal :=
  if s.boot.stage != 4 || s.boot.sealWhen != .notYet || s.mem.ok || s.flt.shutTick.isSome then .next s else
  let fs := fails.map fun x => (x.1.val, x.2.val)
  let bad := (List.range s.variant.pcsN).filter fun p => trainBad fs p (eyes.getD p [])
  let s := (List.range s.variant.pcsN).foldl (fun s p => s.trainPc fs p (eyes.getD p [])) s
  let stks := (List.range 4).map fun i =>
    if i < s.variant.stacksN && !(bad.any fun p => stackOf p == i) then
      { s.mem.stk i with phase := .active, trained := true, rate := s.memRate, quiet := s.ticks } else s.mem.stk i
  let nats := fun (n : Nat) (l : List Word) => (List.range n).map fun i => (l.getD i 0).toNat
  let s := { s with mem := { s.mem with ok := bad.isEmpty, bytes := [], stks := stks, mapOrder := wfld (s.rws Reg.memCfg) 1 0,
                                        lampBase := lampBase.toNat, canvasBase := nats 16 place.canvasBase,
                                        flowBase := nats 640 place.flowBase, slotBase := nats 48 place.slotBase } }
  .next (bad.foldl (fun s p => s.losePc p 3) s)

/-- STATE of STACK_STATUS. -/
def StackSt.code (k : StackSt) : Nat :=
  match k.phase with
  | .absent => 0
  | .training => 1
  | .active => 2
  | .entering => if k.step then 4 else 2
  | .selfRefresh => if k.step then 4 else 3
  | .exiting => if k.step then 4 else 3
  | .failed => 5

/-- The memory system's registers. Those of absent stacks and pseudo-channels read 0 (R8). -/
def State.readMem (s : State) (off : Nat) : Option Word :=
  let m := s.mem
  if off == Reg.memStatus then
    some (Word.of (at_ (b2n m.ok) 31 + at_ (maskOf (m.stks.map (·.trained))) 27 + m.lostPc))
  else if 0x2000100 ≤ off && off < 0x2000180 && off % 0x20 == 0 then
    let i := (off - 0x2000100) / 0x20
    let k := m.stk i
    some (if i < s.variant.stacksN then Word.of (at_ k.code 29 + at_ (b2n k.hot) 28 + at_ k.rate 26 + twos 16 k.temp) else 0)
  else if 0x2000100 ≤ off && off < 0x2000180 && off % 0x20 == 4 then
    some (if (off - 0x2000100) / 0x20 < s.variant.stacksN then Word.of s.stackDemand else 0)
  else if 0x2000200 ≤ off && off < 0x2000230 && off % 0x10 == 4 then
    let p := (off - 0x2000200) / 0x10
    some (Word.of (at_ (b2n (m.rtp p).panic) 31 + (if s.boot.running then s.tolOf p else 0)))
  else if 0x2000200 ≤ off && off < 0x2000230 && off % 0x10 == 8 then some (Word.of (m.rtp ((off - 0x2000200) / 0x10)).level)
  else if off == Reg.ueAddrLo then some (Word.of (m.ueAddr % 2 ^ 32))
  else if off == Reg.ueAddrHi then some (Word.of (m.ueAddr / 2 ^ 32))
  else if off == Reg.uePort then some (Word.of m.uePort)
  else if 0x2001000 ≤ off && off < 0x2001800 && off % 0x10 == 0 then
    let n := (off - 0x2001000) / 0x10
    let q := m.pc n
    some (if n < s.variant.pcsN then Word.of (at_ q.train 29 + at_ q.trimStatus 26 + at_ q.trimQ 19 + at_ (q.spares.getD 1 63) 13
      + at_ (q.spares.getD 0 63) 7 + at_ q.owed 3) else 0)
  else if 0x2001000 ≤ off && off < 0x2001800 && off % 0x10 == 4 then some (Word.of (m.pc ((off - 0x2001000) / 0x10)).eye)
  else none

end Sys2Proof.Machine
end

