-- ==== Sys2Proof/Machine/Cues.lean ====
section
/-! DEFINITION. Cues (02_scenes_and_composition.md, 04_drive_synthesis.md): the timeline of laps as known, scene and plan cues from
every source, their refusal, pending table, boundaries and guard, the schedule, and the fences of host surfaces (R35, R53, R54, R59,
R61 to R65, R70, R71, R105, R106, R215, R235, R237, R298, R339, R415, R416). -/

namespace Sys2Proof.Machine

/-- Whether a fade cue acts as a cut because it names the scene then current, or has no duration (R61, R70). -/
def actsAsCut (c : CueIn) (cur : Nat) : Bool := !c.fade || c.time == 0 || c.num == cur

/-- A cue as it will stand in the pending table: a split not after the acceptance instant, or more than 549 s ahead of it, is no split
(R32, R63). -/
def State.pendCue (s : State) (c : CueIn) : SceneCue :=
  { scene := c.num, fade := c.fade, ramp := c.ramp, time := c.time
    timed := c.timed && splitAhead (splitDiff c.split (splitOf s.wall)), split := c.split, accept := s.wall, src := c.src
    tick := s.ticks, order := s.sc.order }

/-- The lowest reason of Table 2.5 that refuses a scene cue; 0 if it is accepted (R71, R313). A cut whose FADE_TIME is above 1000 is
refused like a fade: R71 gives a cut no duration and does not say that its field goes unread (DESIGN CHOICE, log 116). -/
def State.cueReason (s : State) (c : CueIn) : Nat :=
  if !s.tl.service then 1
  else if (s.scene? c.num).isNone then 2
  else if s.sceneReasons.getD c.num 0 != 0 then 1
  else
    let cur := s.sceneAt (s.cueAt (s.pendCue c)).1
    if !(actsAsCut c cur) && !(s.fadePairs.contains (cur, c.num)) then 3
    else if 1000 < c.time then 4
    else if 16 ≤ s.sc.pend.length then 5
    else 0

/-- Whether a boundary lies in the guard of an effective boundary still ahead: from two laps before it (R298). -/
def State.guardOf (s : State) (b : Int) : Bool := s.lapShift b (-2) ≤ s.wall

/-- The boundary of a mirrored cue as now known (R37, R415): that of the lap it names, whose number may lie up to 2^31 laps ahead. -/
def State.mirrorAt (s : State) (m : MirrorCue) : Int :=
  let (b, k) := s.nextLap s.wall
  s.lapShift b (sint 32 ((m.lap + 2 ^ 32 - (k % 2 ^ 32).toNat) % 2 ^ 32))

/-- Whether a cue guard holds now (R298): a pending cue of another scene or plan, one mirrored by the active unit among them, or a re-step,
near its boundary, or one that took effect less than two laps ago. The scene that a scene cue is compared with is the one that will be
current at its boundary: the settled one, which during a fade is the incoming one (R65). -/
def State.guardNow (s : State) : Bool :=
  (s.sc.pend.any fun c => let b := (s.cueAt c).1; c.scene != s.sceneAt b && s.guardOf b) ||
  (s.rl.mcues.any fun m => (if m.plan then m.num != s.tl.num else m.num != s.settled) && s.guardOf (s.mirrorAt m)) ||
  (match s.tl.pend with | some c => c.plan != s.tl.num && s.guardOf s.tl.pendB | none => false) ||
  (match s.tl.stepB with | some b => s.guardOf b | none => false) ||
  s.fab.guardEnd.any fun b => s.wall < b

/-- The guard brought up to date: VSET is raised to VMAX at its start (R298). -/
def State.updGuard (s : State) : State :=
  let g := s.pacerOn && s.guardNow
  let s := if g && !s.fab.guarded then s.setV 900 else s
  { s with fab := { s.fab with guarded := g, guardEnd := s.fab.guardEnd.filter fun b => s.wall < b } }

/-- A CUE message (Table 17.2, R415). -/
def State.relayCue (s : State) (plan : Bool) (num ramp time : Nat) (fade : Bool) (at_ : Int × Int) : State :=
  if !s.mirrors then s else
  s.relaySend 0xC3 ([byte (if plan then 2 else 1), byte num] ++ leBytes 2 (time + 1024 * ramp) ++ [byte (if fade then 2 else 0), 0, 0, 0]
    ++ leBytes 4 (at_.2 % (2 ^ 32 : Int)).toNat ++ leBytes 5 (splitOf at_.1) ++ List.replicate 7 0)

/-- What follows any change of the pending cues: flows joined (R212), stacks stepped up (R275), the guard (R298). -/
def State.cuesChanged (s : State) : State := s.joins.demandStep.updGuard

/-- A cue of scene `num` from source `src` refused (R71). -/
def State.cueOut (s : State) (src num why : Nat) : State :=
  let s := { s with sc := { s.sc with refSrc := src, refScene := num, refWhy := why } }
  (s.bump Reg.cueRefusedCount).ev Ev.cueRefused [num, why, src]

/-- A scene cue refused (R71). -/
def State.refuseCue (s : State) (c : CueIn) (why : Nat) : State := s.cueOut c.src c.num why

/-- A cue entered in the pending table. -/
def State.enterCue (s : State) (c : CueIn) : State :=
  let p := s.pendCue c
  let b := s.cueAt p
  let s := { s with sc := { s.sc with pend := s.sc.pend ++ [p], order := s.sc.order + 1 } }
  (s.relayCue false c.num c.ramp c.time c.fade b).cuesChanged

/-- The pending cue that gives its entry of the full table to a cue accepted in the same tick: the lowest of those that R64 ranks below it
(R448). -/
def State.yields (s : State) (c : CueIn) : Option SceneCue :=
  (s.sc.pend.filter fun p => p.tick == s.ticks && c.src < p.src).foldl (fun b p => match b with
    | some x => if x.src < p.src then some p else b
    | none => some p) none

/-- A scene cue taken in by the cue unit (R61 to R63, R71). -/
def State.sceneCue (s : State) (c : CueIn) : State :=
  match s.cueReason c, s.yields c with
  | 0, _ => s.enterCue c
  | 5, some p => ({ s with sc := { s.sc with pend := s.sc.pend.erase p } }.cueOut p.src p.scene 5).enterCue c
  | why, _ => s.refuseCue c why

/-- A plan cue refused (R105). -/
def State.refusePlan (s : State) (c : CueIn) (why : Nat) : State :=
  { s with tl := { s.tl with refSrc := c.src, refPlan := c.num, refWhy := why } }.ev Ev.planRefused [c.num, why, c.src]

/-- The reason that refuses a plan cue; 0 if it is accepted (R105, R313). -/
def State.planReason (s : State) (c : CueIn) : Nat :=
  if !s.tl.service then 1
  else if (s.cfg.plan? c.num).isNone then 2
  else if s.planReasons.getD c.num 0 != 0 then 1
  else 0

/-- Of two plan cues for one place, the one that stands and the one superseded (R64, R106). -/
def State.planRank (s : State) (old : Option PlanCue) (new : PlanCue) : PlanCue × State :=
  match old with
  | none => (new, s)
  | some o =>
    if laterCue o.tick o.src 1 new.tick new.src 1 then (o, s.planGone (some new)) else (new, s.planGone (some o))

/-- A plan cue given its effective boundary and made pending (R35). -/
def State.placePlan (s : State) (base : Int) (c : PlanCue) : State :=
  { s with tl := { s.tl with pend := some c, pendB := s.heldAt s.tl.plan base c, fixed := false } }

/-- A plan cue taken in by the cue unit (R105, R106, R235): refused, without effect for the plan in force, held behind a re-step or a
fixed change, or pending. -/
def State.planCue (s : State) (c : CueIn) : State :=
  match s.planReason c with
  | 0 =>
    if c.num == s.tl.num then s else
    let p : PlanCue := { plan := c.num, timed := c.timed, split := c.split, accept := s.wall, src := c.src, tick := s.ticks }
    if s.tl.stepB.isSome || (s.tl.pend.isSome && s.tl.fixed) then
      let (w, s) := s.planRank s.tl.held p
      { s with tl := { s.tl with held := some w } }.cuesChanged
    else
      let (w, s) := s.planRank s.tl.pend p
      if w == p then (s.placePlan s.wall p).cuesChanged else s
  | why => s.refusePlan c why

/-- A cue accepted (R61, R105). -/
def State.takeCue (s : State) (c : CueIn) : State := if c.plan then s.planCue c else s.sceneCue c

/-- Something done as of an earlier tick (R302): what compares instants sees that tick and the counter's value at it, at the present
increment. -/
def State.asOf (s : State) (t : Nat) (f : State → State) : State :=
  let d := (s.ticks - t) * s.tb.incr
  let v := (s.tb.sec * giga + s.tb.ns) * 2 ^ 32 + s.tb.frac - d
  let tb := { s.tb with frac := v % 2 ^ 32, ns := v / 2 ^ 32 % giga, sec := v / 2 ^ 32 / giga }
  let r := f { s with ticks := t, tb := tb }
  { r with ticks := s.ticks, tb := s.tb }

/-- A cue from one of this unit's own sources: a STANDBY discards and counts it, an ACTIVE unit with a warm standby accepts it 50 µs
later (R416). -/
def State.submitCue (s : State) (c : CueIn) : State :=
  if s.rl.role == .standby then s.bump Reg.relayCuesIgnored
  else if s.hasWarm then
    { s with net := { s.net with relayQ := s.net.relayQ ++ [⟨s.ticks + 50 * usT, .cue c⟩] } }
  else s.takeCue c

/-- A held cue placed when the change before it has taken effect (R106, R235): `base` is that change's boundary or the stepped instant.
One that names the plan now in force changes nothing. -/
def State.placeHeld (s : State) (base : Int) : State :=
  match s.tl.held with
  | none => s
  | some c =>
    let s := { s with tl := { s.tl with held := none } }
    if c.plan == s.tl.num then s else s.placePlan (max base c.accept) c

/-- The split of a pair of split registers. -/
def State.splitReg (s : State) (lo hi : Nat) : Nat := (s.rw lo).toNat + (s.rw hi).toNat % 256 * 2 ^ 32

/-- The host's scene cue as CUE_SCENE and the split registers hold it. -/
def State.hostCue (s : State) : CueIn :=
  let w := s.rw Reg.cueScene
  { plan := false, num := wfld w 5 0, fade := wbit w 8, ramp := wfld w 11 10, time := wfld w 21 12, timed := wbit w 9
    split := s.splitReg Reg.cueSplitLo Reg.cueSplitHi, src := 0 }

/-- A write to CUE_GO (R61, R62): the flush, then the cue. -/
def State.writeCueGo (s : State) (value : Word) : State :=
  let s := if wbit value 1 then s.flushCues.cuesChanged else s
  if wbit value 0 then s.submitCue s.hostCue else s

/-- CUE_GO (R61): GO. -/
def execCueGo (value : Word) (s : State) : Host.Outcome State Fault Refusal := .next (s.writeCueGo (wput value 0 0 1))

/-- CUE_FLUSH (R62): CUE_FLUSH; with GO also set the cue is submitted after it. -/
def execCueFlush (value : Word) (s : State) : Host.Outcome State Fault Refusal := .next (s.writeCueGo (wput value 1 1 1))

/-- The upper half of a surface's next fence value staged (R54). -/
def State.writeFenceHi (s : State) (n : Nat) (value : Word) : State := s.modFence n fun f => { f with staged := some value.toNat }

def execHsFenceHiWrite (surf : Fin 16) (value : Word) (s : State) : Host.Outcome State Fault Refusal :=
  .next (s.writeFenceHi surf value)

/-- Whether the counter has reached a boundary whose latch has still to be taken in this tick. -/
def State.latchPending (s : State) : Bool := s.tl.on && s.tl.nextAt ≤ s.wall

/-- A fence value committed, or discarded when it is not greater (R54); the value it supersedes is retired with SKIPPED if no latch has
accepted it (R59). In the tick of a latch still to be taken the value of the ticks before stays for that latch (R38, R302). -/
def State.writeFenceLo (s : State) (n : Nat) (value : Word) : State :=
  let f := s.fence n
  let v := (f.staged.getD (f.value / 2 ^ 32)) * 2 ^ 32 + value.toNat
  let s := s.modFence n fun f => { f with staged := none }
  if v ≤ f.value then s.bump (Reg.hsFenceRegress n)
  else
    let again := f.tick == s.ticks
    let wait := s.latchPending && !again
    let s := if f.live && !wait then s.retire n f.value s.recSeq true false else s
    s.modFence n fun f =>
      { f with value := v, fresh := s.tl.service, live := true, tick := s.ticks, prior := if again then f.prior else f.value,
               priorFresh := if again then f.priorFresh else f.fresh, priorLive := if again then f.priorLive else f.live && wait }

/-- Superseded fence values that no latch of the tick has accepted retired with SKIPPED as the tick ends (R59). -/
def State.settleFences (s : State) : State :=
  (List.range 16).foldl (fun s n =>
    let f := s.fence n
    if f.priorLive then (s.retire n f.prior s.recSeq true false).modFence n fun f => { f with priorLive := false } else s) s

def execHsFenceLoWrite (surf : Fin 16) (value : Word) (s : State) : Host.Outcome State Fault Refusal :=
  .next (s.writeFenceLo surf value)

/-- A write to SCENE_QUERY (R75): its two scenes. -/
def State.writeSceneQuery (s : State) (value : Word) : State :=
  s.setRw Reg.sceneQuery (Word.of (at_ (wfld value 13 8) 8 + wfld value 5 0))

/-- What SCENE_QUERY reads (R75): scene TO's usability reason, 0 for one that the configuration does not carry (DESIGN CHOICE, log 117:
Table 2.4 has no code for it), and whether the pair is fadeable. -/
def State.sceneQueryView (s : State) : Word :=
  let w := s.rw Reg.sceneQuery
  Word.of (at_ (b2n (s.fab.fades.contains (wfld w 5 0, wfld w 13 8))) 24 + at_ (s.sc.reasons.getD (wfld w 13 8) 0) 16 + w.toNat)

def execSceneQueryWrite (value : Word) (s : State) : Host.Outcome State Fault Refusal := .next (s.writeSceneQuery value)

/-- The host's plan cue as PLAN_CUE and the split registers hold it. -/
def State.hostPlan (s : State) : CueIn :=
  let w := s.rw Reg.planCue
  { plan := true, num := wfld w 2 0, fade := false, ramp := 0, time := 0, timed := wbit w 9
    split := s.splitReg Reg.planSplitLo Reg.planSplitHi, src := 0 }

/-- A write to PLAN_CUE (R105): its RW fields, and the cue with GO. -/
def State.writePlanCue (s : State) (value : Word) : State :=
  let s := s.setRw Reg.planCue (Word.of (value.toNat &&& 0x207))
  if wbit value 31 then s.submitCue s.hostPlan else s

/-- PLAN_CUE (R105): GO. -/
def execPlanCue (value : Word) (s : State) : Host.Outcome State Fault Refusal := .next (s.writePlanCue (wput value 31 31 1))

/-- The fix point of the pending plan cue: 2,000 µs before the lap boundary two laps before B (R106). -/
def State.fixPoint (s : State) : Int := s.lapShift s.tl.pendB (-2) - 2000000

/-- PLAN_CUE_FIX_POINT (R106): the pending cue becomes fixed, and the standby hears of it (R415). -/
def execPlanCueFixPoint (s : State) : Host.Outcome State Fault Refusal :=
  match s.tl.pend with
  | none => .next s
  | some c =>
    if s.tl.fixed || s.wall < s.fixPoint then .next s
    else
      let e := s.cfg.epoch
      .next ({ s with tl := { s.tl with fixed := true } }.relayCue true c.plan 0 0 false (s.tl.pendB, s.tl.plan.lapFrom e s.tl.pendB))

/-- How long before its instant an occurrence is submitted, ns (R339). -/
def schedLead : Int := 60000000000

/-- The newest occurrence of a schedule entry whose submission instant, 60 s before it, has come (R339). -/
def Sched.newest (e : Sched) (now : Int) : Option Int :=
  let t0 : Int := (e.sec * giga + e.ns : Nat)
  let lead := now - t0 + schedLead
  if lead < 0 then none
  else if e.period == 0 then some t0
  else some (t0 + lead / (e.period * giga : Nat) * (e.period * giga : Nat))

/-- A schedule entry's cue at an occurrence. -/
def Sched.cue (e : Sched) (t : Int) : CueIn :=
  { plan := e.kind == 2, num := e.num, fade := e.fade, ramp := nfld e.trans 11 10, time := nfld e.trans 9 0, timed := true
    split := splitOf t, src := 2 }

/-- The newest occurrence of an entry last considered up to `m`: submitted, or skipped without valid wall time or outside full service. -/
def State.considerAt (s : State) (i : Nat) (e : Sched) (m : Int) : Option Int → State
  | none => s
  | some t =>
    if t - schedLead ≤ m then s
    else
      let s := { s with sc := { s.sc with schedMarks := setAt s.sc.schedMarks i (t - schedLead) } }
      if s.timeValid && s.tl.service then s.submitCue (e.cue t) else s.ev Ev.schedSkipped [i]

/-- A schedule entry considered (R339): its newest occurrence, if it has not yet been considered. -/
def State.consider (s : State) (i : Nat) : State :=
  match s.cfg.sched[i]?, s.sc.schedMarks[i]? with
  | some e, some m => s.considerAt i e m (e.newest s.wall)
  | _, _ => s

/-- SCHEDULE_OCCURRENCE (R339): the counter reaches a submission instant of an entry. -/
def execScheduleOccurrence (entry : Nat) (s : State) : Host.Outcome State Fault Refusal := .next (s.consider entry)

/-- CUE_WINDOW in force, ms (R215): 1000 where the value lies outside its range. -/
def State.cueWindow (s : State) : Nat :=
  let v := wfld (s.rws Reg.cueDgCfg) 12 0
  if 100 ≤ v && v ≤ 5000 then v else 1000

/-- The fields of a datagram that must be 0, and its fixed ones (Table 7.7, check 1). -/
def dgFormed (b : List Byte) : Bool :=
  b.length == 64 && slice b 0 4 == [0x48, 0x58, 0x43, 0x55] && beAt b 4 1 == 1 && (beAt b 5 1 == 1 || beAt b 5 1 == 2) &&
  beAt b 8 1 ≤ 15 && leAt b 9 3 == 0 && leAt b 30 1 < 4 && leAt b 32 2 < 4096 && (slice b 34 14).all (· == 0)

/-- Whether a datagram carries the tag of the cue key (R214). -/
def State.dgTag (s : State) (d : List Byte) : Bool :=
  match s.sec.cueKey with
  | some k => cmac k (slice d 0 48) == slice d 48 16
  | none => false

/-- A datagram that has passed checks 1 to 5 (Table 7.8, check 6): accepted 20 µs after its arrival (R215). Of two with an equal COUNTER
that arrive at once, the one on the lower-numbered sub-port is taken (Table 7.9). -/
def State.dgCount (s : State) (sub : Nat) (d : List Byte) : State :=
  let i := beAt d 8 1
  let n := leAt d 12 8
  let x := s.net.senders.getD i ⟨none, [], 0, 0⟩
  let fresh : Bool := match x.last with | some l => l < n | none => true
  if fresh then
    { s.bump Reg.cueDgAccepted with
      net := { s.net with senders := setAt s.net.senders i ⟨some n, d, s.ticks, sub⟩, dgQueue := s.net.dgQueue ++ [⟨s.ticks + 20 * usT, d⟩] } }
  else if x.last == some n && x.bytes == d then s.bump Reg.cueDgDup
  else
    let s := if x.last == some n && x.tick == s.ticks && sub < x.sub then
        { s with net := { s.net with
          senders := setAt s.net.senders i ⟨some n, d, s.ticks, sub⟩
          dgQueue := s.net.dgQueue.map fun y => if y.bytes == x.bytes then { y with bytes := d } else y } }
      else s
    (s.bump Reg.cueDgReplay).dgReject i 6

/-- Checks 3 to 6 of Table 7.8 (R215). -/
def State.dgChecks (s : State) (sub : Nat) (d : List Byte) : State :=
  if !(nbit (leAt d 6 2) s.cfg.devNum) then s.bump Reg.cueDgOther
  else if !s.timeValid then s.bump Reg.cueDgNoTime
  else if s.cueWindow * 1000000 < (splitDiff (leAt d 20 5) s.split).natAbs then s.bump Reg.cueDgStale
  else s.dgCount sub d

/-- A cue datagram checked in the order of Table 7.8 (R215). -/
def State.cueDatagram (s : State) (sub : Nat) (d : List Byte) : State :=
  if wfld (s.rws Reg.cueDgCfg) 31 16 == 0 then s
  else if !(dgFormed d) then s.bump Reg.cueDgMalformed
  else if !(s.dgTag d) then s.dgBadTag (beAt d 8 1)
  else (s.dgNote (beAt d 8 1)).dgChecks sub d

/-- CUE_DATAGRAM_RX (R215): the payload of a datagram to port CUE_UDP. -/
def execCueDatagramRx (sub : Fin 8) (data : List Byte) (s : State) : Host.Outcome State Fault Refusal :=
  if s.subOn sub then .next (s.cueDatagram sub data) else .next s

/-- The cue of a datagram (Table 7.7). -/
def dgCue (d : List Byte) : CueIn :=
  { plan := beAt d 5 1 == 2, num := beAt d 31 1, fade := nbit (beAt d 30 1) 1, ramp := nfld (leAt d 32 2) 11 10
    time := nfld (leAt d 32 2) 9 0, timed := nbit (beAt d 30 1) 0, split := leAt d 25 5, src := 1 }

/-- CUE_DATAGRAM_ACCEPT (R215): 20 µs after its arrival a datagram's cue reaches the cue unit. -/
def execCueDatagramAccept (s : State) : Host.Outcome State Fault Refusal :=
  match s.net.dgQueue with
  | [] => .next s
  | d :: rest =>
    if s.ticks < d.due then .next s
    else .next ({ s with net := { s.net with dgQueue := rest } }.asOf d.due fun s => s.submitCue (dgCue d.bytes))

/-- The composition block's cue, scene and fence registers. -/
def State.readCues (s : State) (off : Nat) : Option Word :=
  let fading : Bool := s.sc.fade.isSome
  if off == Reg.cueGo then some 0
  else if off == Reg.cueStatus then
    some (Word.of (at_ s.sc.pend.length 17 + at_ (b2n fading) 16 + at_ s.settled 8 + s.sc.cur))
  else if off == Reg.cueRefusal then some (Word.of (at_ s.sc.refSrc 16 + at_ (s.sc.refScene % 64) 8 + s.sc.refWhy))
  else if off == Reg.sceneUsableLo then some (Word.of (if s.tl.service then s.sc.usable % 2 ^ 32 else 0))
  else if off == Reg.sceneUsableHi then some (Word.of (if s.tl.service then s.sc.usable / 2 ^ 32 else 0))
  else if off == Reg.sceneQuery then some s.sceneQueryView
  else if 0x1001000 ≤ off && off < 0x1001100 && off % 0x10 == 0 then some (Word.of ((s.fence ((off - 0x1001000) / 0x10)).value % 2 ^ 32))
  else if 0x1001000 ≤ off && off < 0x1001100 && off % 0x10 == 4 then some (Word.of ((s.fence ((off - 0x1001000) / 0x10)).value / 2 ^ 32))
  else none

/-- The drive block's plan and cue registers. -/
def State.readPlans (s : State) (off : Nat) : Option Word :=
  let t := s.tl
  let b := if t.pend.isSome then splitOf t.pendB else 0
  if off == Reg.planStatus then
    some (Word.of (at_ (b2n t.dark) 18 + at_ (b2n (t.pend.isSome && t.fixed)) 17 + at_ (b2n t.pend.isSome) 16
      + at_ ((t.pend.map (·.plan)).getD 0) 8 + t.num))
  else if off == Reg.planBoundaryLo then some (Word.of (b % 2 ^ 32))
  else if off == Reg.planBoundaryHi then some (Word.of (b / 2 ^ 32))
  else if off == Reg.planUsable then some (Word.of (if t.service then t.usable else 0))
  else if off == Reg.planRefusal then some (Word.of (at_ t.refSrc 16 + at_ (t.refPlan % 8) 8 + t.refWhy))
  else if 0x1800020 ≤ off && off < 0x1800040 then some (Word.of (t.reasons.getD ((off - 0x1800020) / 4) 0))
  else if off == Reg.legSeq then some (Word.of t.legSeq)
  else if off == Reg.lapNumber then some (Word.of s.lapNo)
  else none

end Sys2Proof.Machine
end

