-- ==== Sys2Proof/Machine/Tiles.lean ====
section
/-! DEFINITION. What happens to a tile and its lamps, whatever sets it off (03_lamp_correction.md, 04_drive_synthesis.md,
17_relay.md): dirty pairs, lamp states, temperature, derating, trim, the hourly flush with its AGE frames, probes, and the messages
that mirror them (R87 to R93, R97, R118 to R126, R190, R415). -/

namespace Sys2Proof.Machine

/-- Every leg of one segment dirty. -/
def Tile.dirtySeg (seg : Nat) (t : Tile) : Tile :=
  { t with pairs := t.pairs.map fun l => modAt l seg fun p => { p with dirty := true } }

/-- Whether this unit runs the loops of a tile (R415): a STANDBY takes those of its paired tiles from its partner. -/
def State.tends (s : State) (t : Tile) : Bool := !(s.rl.role == .standby && (s.rport t.port).paired)

/-- Whether changes of a tile are mirrored to the partner (R415). -/
def State.mirrored (s : State) (t : Tile) : Bool := s.mirrors && (s.rport t.port).paired

/-- The latch a change accepted now names: that of the next leg boundary (R94, R413). -/
def State.latchName (s : State) : Nat × Nat :=
  let l : Int := s.tl.plan.legs
  ((s.tl.next % l).toNat, ((s.tl.next / l) % (2 ^ 32 : Int)).toNat)

/-- A TILE message (Table 17.2). -/
def State.relayTile (s : State) (p q : Nat) : State :=
  match s.tile? p q with
  | none => s
  | some t =>
    if !(s.mirrored t) then s else
    let (leg, lap) := s.latchName
    let i := fun (x : Int) => leBytes 2 (twos 16 x)
    s.relaySend 0xC4 ([byte p, byte q] ++ i t.tempM ++ i t.tempA ++ [byte t.cc, 0] ++ (t.trim.map i).flatten ++ [byte leg, 0] ++ leBytes 4 lap)

/-- A LAMP message. -/
def State.relayLamp (s : State) (p q k st : Nat) : State :=
  match s.tile? p q with
  | none => s
  | some t =>
    if !(s.mirrored t) then s else
    let (leg, lap) := s.latchName
    s.relaySend 0xC5 ([byte p, byte q] ++ leBytes 3 k ++ [byte st, byte leg, 0] ++ leBytes 4 lap)

/-- A FLUSH message for the boundary of the lap in progress. -/
def State.relayFlush (s : State) (t : Tile) : State :=
  if s.mirrored t then s.relaySend 0xC6 ([byte t.port, byte t.pos, 0, 0] ++ leBytes 4 s.lapNo) else s

/-- A lamp's STATE changed, with its accrual, the shares of its partners and the pairs that follow (R88, R90, Table 3.7). -/
def Tile.setLamp (k st now : Nat) (t : Tile) : Tile :=
  let ps := ((partners t.lamps).getD k ([], false)).1
  (k :: ps).foldl (fun t i => t.dirtySeg (i / 256)) { t with lamps := setLampState t.lamps k st now }

/-- A lamp's STATE changed and mirrored. -/
def State.setLamp (s : State) (p q k st : Nat) : State := (s.modTile p q (Tile.setLamp k st s.nowMs)).relayLamp p q k st

/-- A lamp's index. -/
def Tile.lampNo (t : Tile) (k : Nat) : Nat := t.base + k

/-- A lamp of a tile found open (1) or shorted (2) (R93): only a NORMAL lamp enters the state. -/
def State.lampFault (s : State) (p q k st : Nat) : State :=
  match s.tile? p q with
  | none => s
  | some t =>
    match t.lamps[k]? with
    | some l =>
      if !l.normal || !t.lit then s else
      let s := s.setLamp p q k st
      let ev := if st == 1 then Ev.lampOpen else Ev.lampShorted
      s.evFault ev (if st == 1 then Fk.lampOpen else Fk.lampShorted) (fsTile p q) [t.lampNo k, s.recSeq]
    | none => s

/-- A report of a lamp taken in: at once, or 50 µs later in an ACTIVE unit with a warm standby (R416). -/
def State.lampReport (s : State) (p q k st : Nat) : State :=
  if s.hasWarm then { s with net := { s.net with relayQ := s.net.relayQ ++ [⟨s.ticks + 50 * usT, .lamp p q k st⟩] } }
  else s.lampFault p q k st

/-- RELAY_DELAYED_ACCEPT (R416): a cue or a tile input counts as accepted 50 µs after its own acceptance instant. -/
def execRelayDelayedAccept (s : State) : Host.Outcome State Fault Refusal :=
  match s.net.relayQ with
  | [] => .next s
  | d :: rest =>
    if s.ticks < d.due then .next s
    else
      .next ({ s with net := { s.net with relayQ := rest } }.asOf d.due fun s => match d.what with
        | .cue c => s.takeCue c
        | .lamp p q k st => s.lampFault p q k st)

/-- TEMP_TOL and AGE_TOL in force (R100). -/
def State.tempTol (s : State) : Nat := wfld (s.rws Reg.corrTol) 5 0
def State.ageTol (s : State) : Nat := wfld (s.rws Reg.corrTol) 15 8
def State.refreshMs (s : State) : Nat := wfld (s.rws Reg.corrTol) 31 20
def State.boostMax (s : State) : Nat := wfld (s.rws Reg.boostMax) 10 0

/-- The applied temperature brought to the measured one when they differ by TEMP_TOL or more (R87). -/
def State.applyTemp (s : State) (t : Tile) : State :=
  if t.tempOk && s.tempTol ≤ (t.tempM - t.tempA).natAbs then
    (s.modTile t.port t.pos fun t => { t with tempA := t.tempM }.dirtyAll).relayTile t.port t.pos
  else s

/-- A tile's cap step evaluated (R118, R119). -/
def State.derate (s : State) (t : Tile) : State :=
  match s.typeOf t with
  | none => s
  | some ty =>
    let cc := if t.tempOk then nextCap ty t.tempM t.cc else t.cc
    if cc == t.cc then s
    else
      let s := (s.modTile t.port t.pos fun t => { t with cc := cc }.dirtyAll).relayTile t.port t.pos
      if t.cc == 0 then s.ev Ev.tileDerated [t.num, cc] else if cc == 0 then s.ev Ev.tileUnderated [t.num, cc] else s

/-- E_k (R120): the duty of the tile's NORMAL lamps of a colour. -/
def Tile.dutySum (t : Tile) (k : Nat) : Nat :=
  ((t.lamps.zipIdx.filter fun x => x.2 % 3 == k && x.1.normal).map fun x => x.1.duty).foldl (· + ·) 0

/-- One colour's trim updated from the last second's readings (R121). -/
def State.trimColour (ty : TileType) (p q : Nat) (s : State) (k : Nat) : State :=
  match s.tile? p q with
  | none => s
  | some t =>
    let e := t.dutySum k
    let usable : Bool := decide (s.ticks ≤ t.senseTick + secT) && decide (ty.senseMin.getD k 0 * 2 ^ 20 ≤ e)
    match t.sense.getD k none with
    | none => s
    | some 0 =>
      if usable && !(t.dark.getD k false) then
        (s.modTile p q fun t => { t with dark := setAt t.dark k true }).ev Ev.trimSensorDark [t.num, k]
      else s
    | some v =>
      let s := s.modTile p q fun t => { t with dark := setAt t.dark k false }
      if !usable then s else
      let old := t.trim.getD k 0
      let new := nextTrim v (ty.senseK.getD k 0) e (t.ref.getD k 0) old
      let lim : Bool := new.natAbs == 1966
      let s := if new == old then s else (s.modTile p q fun t => { t with trim := setAt t.trim k new }.dirtyAll).relayTile p q
      let s := if lim && !(t.limit.getD k false) then s.ev Ev.trimLimit [t.num, k] else s
      s.modTile p q fun t => { t with limit := setAt t.limit k lim }

/-- A tile's trims updated (R121). -/
def State.trimTile (s : State) (t : Tile) : State :=
  match s.typeOf t with
  | none => s
  | some ty => [0, 1, 2].foldl (State.trimColour ty t.port t.pos) s

/-- The body of an AGE frame (Table 6.5). -/
def ageBody (ls : List Lamp) (first n : Nat) : List Byte :=
  leBytes 3 first ++ [0] ++ ((ls.drop first).take n).flatMap fun l => leBytes 4 (l.life + at_ l.state 24)

/-- AGE frames queued while fewer than 4 are unacknowledged (R190). -/
def State.ageFill : Nat → State → Nat → Nat → State
  | 0, s, _, _ => s
  | k + 1, s, p, q =>
    match s.tile? p q with
    | none => s
    | some t =>
      match t.ageTodo with
      | [] => s
      | (first, n) :: rest =>
        if 4 ≤ t.ageOut.length then s else
        let b := ageBody t.lamps first n
        let s := s.modTile p q fun t =>
          { t with ageTodo := rest, ageOut := t.ageOut ++ [{ first := first, seq := 0, body := b, tries := 0, tick := s.ticks, sent := false }] }
        State.ageFill k (s.queueFrame p (posFrame .age q 0 b)) p q

/-- AGE frames of the whole tile to be sent (R89 step 4). -/
def ageList (n : Nat) : List (Nat × Nat) := (List.range (segCount n)).map fun i => (256 * i, min 256 (n - 256 * i))

/-- A tile flushed (R89): steps 1 to 3 for every lamp, and its AGE frames unless a partner sends them. -/
def State.flushTile (s : State) (t : Tile) (send : Bool) : State :=
  let now := s.nowMs
  let tol := s.ageTol
  let new := t.lamps.map fun l => l.flush now tol
  let segs := (List.range (segCount t.lampsN)).filter fun i =>
    (((t.lamps.zip new).drop (256 * i)).take 256).any fun x => x.1.ageF != x.2.ageF
  let s := s.modTile t.port t.pos fun t => segs.foldl (fun t i => t.dirtySeg i) { t with lamps := new }
  if !send then s
  else
    let s := (s.modTile t.port t.pos fun t => { t with ageTodo := t.ageTodo ++ ageList t.lampsN }).relayFlush t
    State.ageFill 4 s t.port t.pos

/-- A probe plan: the probe leg of a tile's type in the plan in force (R125). -/
def State.probeLegOf (s : State) (t : Tile) : Option (TileType × Nat) :=
  match s.typeOf t with
  | none => none
  | some ty => if ty.detFloor == 0 then none else (probeLeg s.tl.plan ty.detFloor).map fun j => (ty, j)

/-- PROBE_INTERVAL in force. -/
def State.probeInterval (s : State) : Nat :=
  let v := wfld (s.rws Reg.probeCtrl) 5 0
  if 1 ≤ v && v ≤ 60 then v else 10

/-- Whether a lamp's coordinate lies in an excluded rectangle (R123). -/
def State.excluded (s : State) (l : Lamp) : Bool :=
  let x := l.x / 4096
  let y := l.y / 4096
  s.cfg.exclude.any fun r => (r.x0 : Int) ≤ x && x ≤ r.x1 && (r.y0 : Int) ≤ y && y ≤ r.y1

/-- Whether a lamp is due for a probe (R123); its type has a DET_FLOOR. -/
def State.lampDue (s : State) (l : Lamp) : Bool := l.normal && s.probeInterval ≤ l.unchecked && !(s.excluded l)

/-- PROBE_DUE over a set of tiles. -/
def State.dueCount (s : State) : Nat :=
  (s.litTiles.map fun t => match s.typeOf t with
    | some ty => if ty.detFloor == 0 then 0 else (t.lamps.filter s.lampDue).length
    | none => 0).foldl (· + ·) 0

/-- The first due lamp at or after the rotation pointer, wrapping (R124). -/
def State.dueLamp (s : State) (t : Tile) : Option Nat :=
  let n := t.lamps.length
  ((List.range n).map fun i => (t.ptr + i) % n).find? fun k => match t.lamps[k]? with | some l => s.lampDue l | none => false

/-- A PROBE frame issued for a lamp in the lap in progress (R125, Table 6.5). -/
def State.issueProbe (s : State) (t : Tile) (ty : TileType) (j k : Nat) (recheck : Bool) : State :=
  let p := s.tl.plan
  let e := s.cfg.epoch
  let b := p.lapAt e s.tl.lap
  let ofs := (p.legAt e (s.tl.lap * p.legs + j) - b).toNat + p.winOff.getD j 0 + p.winLen.getD j 0 + 500
  let id := s.tl.probeId % 255 + 1
  let body := leBytes 4 s.lapNo ++ leBytes 4 ofs ++ leBytes 3 k ++ [byte id] ++ leBytes 2 (ceilDiv (4 * ty.detFloor) 5) ++ [0, 0]
  let s := (s.queueFrame t.port (posFrame .probe t.pos j body)).bump Reg.probesIssued
  let s := { s with tl := { s.tl with probeId := id } }
  s.modTile t.port t.pos fun t =>
    { t with ptr := if recheck then t.ptr else (k + 1) % (max 1 t.lampsN), probes := t.probes ++ [⟨id, k, 0, recheck⟩] }

/-- The pending recheck ends (R92): restored (2) or failed (3). -/
def State.recheckEnd (s : State) (ok : Bool) : State :=
  let i := s.tl.recheckIdx
  let s := { s with tl := { s.tl with recheck := none, recheckRes := if ok then 2 else 3 } }
  if ok then s.ev Ev.lampRestored [i] else (s.bump Reg.recheckRefused).ev Ev.lampRecheckFailed [i]

/-- A probe without an outcome after 4 laps (R92, R126). -/
def State.probeLost (s : State) (pr : Probe) : State :=
  let s := s.bump Reg.probeNoResult
  if pr.recheck then s.recheckEnd false else s

/-- A tile's outstanding probes one lap older; after 4 laps one has no result (R92, R126). -/
def State.probeAge (s : State) (t : Tile) : State :=
  let old := t.probes.filter fun pr => 4 ≤ pr.lap + 1
  let s := if t.probes.isEmpty then s else s.modTile t.port t.pos fun t =>
    { t with probes := (t.probes.filter fun pr => pr.lap + 1 < 4).map fun pr => { pr with lap := pr.lap + 1 } }
  old.foldl State.probeLost s

/-- Whether probes can be issued to a tile in the lap that begins: not in a dark lap, in hold, or on a tile that is refused, lost or
driven by another unit (R124). -/
def State.probeOk (s : State) (t : Tile) : Bool :=
  t.lit && !s.tl.dark && s.flt.hold == .none && (s.port t.port).up && t.holder == some s.cfg.devNum && t.state == 0

/-- One lap's probe of a tile: a pending recheck of one of its lamps, or its first due lamp (R124). -/
def State.probeTile (s : State) (t : Tile) : State :=
  if !(s.probeOk t) then s else
  match s.probeLegOf t with
  | none => s
  | some (ty, j) =>
    let mine := match s.tl.recheck with
      | some (i, _) => if t.base ≤ i && i < t.base + t.lampsN then some (i - t.base) else none
      | none => none
    match mine with
    | some k => { s with tl := { s.tl with recheck := none } }.issueProbe t ty j k true
    | none =>
      if !(wbit (s.rws Reg.probeCtrl) 8) then s else
      match s.dueLamp t with
      | some k => s.issueProbe t ty j k false
      | none => s

/-- A recheck that still waits one lap later; within 16 laps its probe must be issued (R92). -/
def State.recheckAge (s : State) : State :=
  match s.tl.recheck with
  | none => s
  | some (i, n) => if n + 1 < 16 then { s with tl := { s.tl with recheck := some (i, n + 1) } } else s.recheckEnd false

/-- Probes and a waiting recheck one lap older (R92, R126). -/
def State.probesAge (s : State) : State := s.tiles.foldl State.probeAge s

/-- The probe actions of a lap boundary of full service (R124 to R126). -/
def State.probeLap (s : State) : State :=
  let s := s.probesAge
  (s.tiles.foldl (fun s t => match s.tile? t.port t.pos with | some t => s.probeTile t | none => s) s).recheckAge

/-- A probe's outcome (R92, R126): 0 no fault, 1 open, 2 short, 3 not performed. -/
def State.probeResult (s : State) (p q id outcome k : Nat) : State :=
  match s.tile? p q with
  | none => s
  | some t =>
    match t.probes.find? fun pr => pr.id == id && pr.scan == k with
    | none => s
    | some pr =>
      let s := s.modTile p q fun t =>
        { t with probes := t.probes.erase pr
                 lamps := if outcome == 0 then modAt t.lamps k fun l => { l with unchecked := 0 } else t.lamps }
      if pr.recheck then
        if outcome == 0 then (s.setLamp p q k 0).recheckEnd true else s.recheckEnd false
      else if outcome == 0 then s
      else if outcome == 1 || outcome == 2 then s.lampReport p q k outcome
      else s

end Sys2Proof.Machine
end

