-- ==== Sys2Proof/Machine/Drive.lean ====
section
/-! DEFINITION. Recomputation of a pair (03_lamp_correction.md, 04_drive_synthesis.md): its lamps sampled, corrected and turned into
drive words, with the counters, duties, checkable flags, kept CRCs, scan descriptors and line signatures that follow (R80 to R88,
R95 to R99, R113 to R117, R122, R417), and the warm-up words (R308 to R310). -/

namespace Sys2Proof.Machine

/-- The lamps of a segment (R95). -/
def segLamps (ls : List Lamp) (seg : Nat) : List Lamp := (ls.drop (256 * seg)).take 256

/-- Blocks across a canvas (R96). -/
def blocksAcross (w : Nat) : Nat := ceilDiv w 32

/-- The first and last canvas coordinate a lamp reads on an axis of `n` pixels (R80, R81). -/
def reach (bilinear : Bool) (x : Int) (n : Nat) : Nat × Nat :=
  let c := fun (k : Int) => (clampI 0 ((n : Int) - 1) k).toNat
  if bilinear then (c ((x - 2048) / 4096), c ((x - 2048) / 4096 + 1)) else (c (x / 4096), c (x / 4096))

/-- A sample rectangle in blocks: first and last column, first and last row. -/
structure BlockRect where
  x0 : Nat
  x1 : Nat
  y0 : Nat
  y1 : Nat
  deriving DecidableEq, Repr

/-- The sample rectangle of a segment on a canvas (R96); none for a segment without lamps. -/
def segRect (ls : List Lamp) (w h : Nat) : Option BlockRect :=
  ls.foldl (fun acc l =>
    let (xa, xb) := reach l.sample l.x w
    let (ya, yb) := reach l.sample l.y h
    let b : BlockRect := ⟨xa / 32, xb / 32, ya / 32, yb / 32⟩
    some (match acc with
      | none => b
      | some a => ⟨min a.x0 b.x0, max a.x1 b.x1, min a.y0 b.y0, max a.y1 b.y1⟩)) none

/-- Whether a rectangle contains a block, numbered row by row. -/
def BlockRect.has (r : BlockRect) (across b : Nat) : Bool :=
  let x := if across == 0 then 0 else b % across
  let y := if across == 0 then 0 else b / across
  r.x0 ≤ x && x ≤ r.x1 && r.y0 ≤ y && y ≤ r.y1

/-- Whether a segment's sample rectangle contains one of some blocks. -/
def segHit (ls : List Lamp) (w h : Nat) (blocks : List Nat) : Bool :=
  match segRect ls w h with
  | some r => blocks.any (r.has (blocksAcross w))
  | none => false

/-- A canvas read for a latch's computations: underrun blocks and damaged pixels read as the background of the current scene (R129,
R283). -/
def Latch.read (l : Latch) (w h : Nat) (bg : List Nat) (cv : List (List Nat)) (x y : Int) : List Fl :=
  let xi := (clampI 0 ((w : Int) - 1) x).toNat
  let yi := (clampI 0 ((h : Int) - 1) y).toNat
  if l.underrun.contains (yi / 32 * blocksAcross w + xi / 32) || l.badPx.contains (yi * w + xi) then
    bg.map fun c => (Fl.of16 c).sane
  else canvasRead w h cv x y

/-- What one lamp's computation gives. -/
structure LampOut where
  target : Nat
  word   : DriveWord
  clip   : Bool             -- counts toward CLIP_COUNT (R83)
  cap    : Bool             -- counts toward BOOST_CAP_COUNT (R83)
  derate : Bool             -- counts toward DERATE_CLIP_COUNT (R114)
  check  : Bool             -- checkable (R122)
  deriving DecidableEq, Repr

/-- What a computation takes beside the lamp: the type, plan and leg, the tile's inputs, the curves, BOOST_MAX, the tint and the
canvas. -/
structure LampIn where
  ty    : TileType
  plan  : LapPlan
  leg   : Nat
  tempA : Int
  trim  : List Int
  cc    : Nat
  curves : List NumRec
  boostMax : Nat
  tint  : List Word
  read  : Int → Int → List Fl

/-- The computation of a lamp of scan order `k` (R82, R83, R114, R122); `held` says that its entry is held at target 0 (R283). -/
def LampIn.run (c : LampIn) (held : Bool) (k : Nat) (l : Lamp) : LampOut :=
  let v := l.demand (matMul c.tint (l.sampled c.read))
  let p3 := l.p3 ((recOf? c.curves l.curve).map (·.words)) (c.tempA - c.ty.tref) c.boostMax v
  let t := if held then 0 else l.target p3
  let (w, d) := driveWord t (c.trim.getD (k % 3) 0) c.cc c.plan.strides (wmax c.ty c.plan c.leg) (pminJ c.ty c.plan c.leg)
  { target := t, word := w, derate := d, clip := l.normal && !held && decide (2 ^ 24 < p3)
    cap := l.normal && !held && decide (c.boostMax < l.boost), check := checkable c.ty c.plan c.leg w }

/-- The inputs of a pair's computations for a latch of view `v`, from the tile as it stood before the latch (R94). -/
def State.lampIn (s : State) (v : Nat) (l : Latch) (ty : TileType) (t : Tile) : LampIn :=
  let (w, h) := match s.cfg.view? v with | some r => (r.w, r.h) | none => (1, 1)
  let bg := match s.scene? l.scene with | some ws => (viewBlock ws v).bg | none => [0, 0, 0]
  { ty := ty, plan := l.plan, leg := l.leg, tempA := t.tempA, trim := t.trim, cc := t.cc, curves := s.cfg.curves
    boostMax := s.boostMax, tint := l.plan.tint.getD v [], read := l.read w h bg (s.view v).canvas }

/-- The computations of a pair's lamps. -/
def State.pairOuts (s : State) (v : Nat) (l : Latch) (ty : TileType) (t : Tile) (seg : Nat) : List LampOut :=
  let c := s.lampIn v l ty t
  (segLamps t.lamps seg).zipIdx.map fun x =>
    let k := 256 * seg + x.2
    c.run (s.mem.lampLost.contains (t.base + k)) k x.1

/-- The bytes of drive words as a DRIVE frame carries them (R175). -/
def wordBytes3 (ws : List DriveWord) : List Byte := ws.flatMap fun w => leBytes 3 w.bits

/-- The CRC-32 of a pair's words (R98). -/
def wordsCrc (ws : List DriveWord) : Nat := (crc32 (wordBytes3 ws)).toNat

/-- A tile's words of a leg in scan order, dark where none has been formed. -/
def Tile.legWords (t : Tile) (j : Nat) : List DriveWord :=
  let ws := t.words.getD j []
  ws ++ List.replicate (t.lampsN - ws.length) .dark

/-- A segment's words replaced in a leg. -/
def Tile.putWords (j seg : Nat) (ws : List DriveWord) (t : Tile) : Tile :=
  let old := t.legWords j
  { t with words := setAt t.words j (old.take (256 * seg) ++ ws ++ old.drop (256 * seg + ws.length)) }

/-- The body of a SCAN frame (Table 6.4, R116). -/
def scanBody (ty : TileType) (p : LapPlan) (n : Nat) (ws : List DriveWord) : List Byte :=
  [byte (at_ p.lineOrder 6 + (p.lines - 1)), 0, 0, 0] ++ (List.range p.lines).map fun l => byte (preCode ty p n ws l)

/-- A tile's scan descriptor of a leg. -/
def Tile.scanOf (ty : TileType) (p : LapPlan) (j : Nat) (t : Tile) : List Byte := scanBody ty p t.lampsN (t.legWords j)

/-- A lamp's duty and checkable flag after its pair in leg `j` was recomputed (R88, R115, R122). -/
def Lamp.afterPair (ty : TileType) (p : LapPlan) (dark : Bool) (now j : Nat) (flag : Bool) (ws : List DriveWord) (l : Lamp) : Lamp :=
  let l := { l with check := setAt (l.check ++ List.replicate (8 - l.check.length) false) j flag }
  if !l.normal then l else l.newDuty (if dark then 0 else dutyOf ty p ws) now

/-- A tile after a pair's recomputation: words, duties, flags, and the pair ready to be sent when its words differ from those last
sent, when it is to be sent unconditionally, or when it is due for forced refresh (R97 to R99, R117). -/
def Tile.takePair (ty : TileType) (p : LapPlan) (dark : Bool) (now j seg : Nat) (force : Bool) (outs : List LampOut) (t : Tile) : Tile :=
  let ws := outs.map (·.word)
  let was := (t.pairs.getD j []).getD seg .new
  let t := t.putWords j seg ws
  let words := t.words
  let lamps := t.lamps.zipIdx.map fun x =>
    let i := x.2 - 256 * seg
    if 256 * seg ≤ x.2 && i < outs.length then
      x.1.afterPair ty p dark now j ((outs.map (·.check)).getD i false) (words.map fun l => l.getD x.2 .dark)
    else x.1
  let c := wordsCrc ws
  let pairs := modAt t.pairs j fun l => modAt l seg fun q =>
    { q with ready := q.uncond || force || q.crc != some c, comp := some c }
  let t := { t with lamps := lamps, pairs := pairs }
  let due := t.scans.getD j none != some (t.scanOf ty p j) || (force && seg == 0) || was.uncond
  if due then { t with scanDue := setAt t.scanDue j true } else t

/-- How many computations of a list have a property. -/
def countOut (f : LampOut → Bool) (l : List LampOut) : Nat := (l.filter f).length

/-- LAMP_WATCH_TARGET and LAMP_WATCH_SEQ after a pair's computations (R102). -/
def State.watch (s : State) (l : Latch) (t : Tile) (seg : Nat) (outs : List LampOut) : State :=
  let w := s.rw Reg.lampWatch
  let i := wfld w 24 0
  let first := t.base + 256 * seg
  if wfld w 27 25 == l.leg && first ≤ i && i < first + outs.length then
    { s with tl := { s.tl with watchOk := true, watchTarget := (outs.map (·.target)).getD (i - first) 0, watchSeq := l.seq } }
  else s

/-- A pair recomputed for a latch (R97, R98). -/
def State.recomputePair (v : Nat) (l : Latch) (s : State) (x : Due) : State :=
  match l.snap.find? (·.is x.port x.pos) with
  | none => s
  | some t =>
    match s.typeOf t with
    | none => s
    | some ty =>
      let outs := s.pairOuts v l ty t x.seg
      let s := ((s.bumpN Reg.clipCount (countOut (·.clip) outs)).bumpN Reg.boostCapCount (countOut (·.cap) outs)).bumpN
        Reg.derateClipCount (countOut (·.derate) outs)
      (s.watch l t x.seg outs).modTile x.port x.pos (Tile.takePair ty l.plan s.tl.dark s.nowMs l.leg x.seg x.force outs)

/-- The line signature of a tile's line in a leg (R417): the CRC-32 over the kept CRCs of the segments that hold lamps of it. -/
def Tile.lineSig (p : LapPlan) (j line : Nat) (t : Tile) : Nat :=
  let segs := (List.range (segCount t.lampsN)).filter fun g =>
    (List.range 256).any fun i => 256 * g + i < t.lampsN && p.lineOf t.lampsN (256 * g + i) == line
  let ps := t.pairs.getD j []
  (crc32 (segs.flatMap fun g => leBytes 4 ((ps.getD g .new).comp.getD 0))).toNat

/-- Entries of a SIGS message. -/
def sigEntries (l : List LineSig) : List Byte := l.flatMap fun x => [byte x.pos, byte x.line, 0, 0] ++ leBytes 4 x.sig

/-- SIGS messages of a port's signatures, at most 500 entries each (Table 17.2). -/
def State.sendSigs : Nat → State → Nat → Nat → Nat → List LineSig → State
  | 0, s, _, _, _, _ => s
  | k + 1, s, lap, leg, p, l =>
    if l.isEmpty then s else
    let h := l.take 500
    State.sendSigs k (s.relaySend 0xC7 (leBytes 4 lap ++ [byte leg, byte p] ++ leBytes 2 h.length ++ sigEntries h)) lap leg p (l.drop 500)

/-- The signatures of a latch's leg formed for every line of every paired tile, kept by a STANDBY for two laps and sent by an ACTIVE
unit to its warm standby (R417, R418). -/
def State.signLatch (s : State) (l : Latch) (lap : Nat) : State :=
  if s.rl.role != .active && s.rl.role != .standby then s else
  let mk := fun (t : Tile) => (List.range l.plan.lines).map fun n => (⟨t.port, t.pos, l.leg, n, lap, t.lineSig l.plan l.leg n⟩ : LineSig)
  let ps := (List.range 16).filter fun p => (s.rport p).paired
  let all := ps.flatMap fun p => (s.litTiles.filter (·.port == p)).flatMap mk
  let s := { s with rl := { s.rl with sigs := (s.rl.sigs.filter fun x => (lap + 2 ^ 32 - x.lap) % 2 ^ 32 < 2 && !(x.lap == lap && x.leg == l.leg)) ++ all } }
  if !s.mirrors then s
  else ps.foldl (fun s p => let a := all.filter (·.port == p); State.sendSigs (a.length / 500 + 1) s lap l.leg p a) s

/-- A lap number of an instant on a plan. -/
def Latch.lapNum (l : Latch) (epoch : Nat) : Nat := (l.plan.legFrom epoch l.at_ / (l.plan.legs : Int) % (2 ^ 32 : Int)).toNat

/-- Every pair of a latch recomputed, and the latch's computations ended. -/
def State.recompute (s : State) (v : Nat) : State :=
  match (s.view v).latch with
  | none => s
  | some l =>
    let s := l.due.foldl (State.recomputePair v l) s
    let s := s.modView v fun x => { x with latch := x.latch.map fun y => { y with done := true, due := [], snap := [] } }
    s.signLatch l (l.lapNum s.cfg.epoch)

/-- The rotation of a grid pixel by quarter turns clockwise (R308). -/
def rotate : Nat → Nat → Nat → Nat → Nat → Nat × Nat
  | 0, x, y, _, _ => (x, y)
  | r + 1, x, y, w, h => rotate r (h - 1 - y) x h w

/-- Three 10-bit codes of a pixel of a warm-up buffer; black outside it (R308). -/
def WarmBuf.codes (b : WarmBuf) (x y : Nat) : List Nat :=
  if x < b.w && y < b.h then let r := b.rows.getD y []; [r.getD (3 * x) 0, r.getD (3 * x + 1) 0, r.getD (3 * x + 2) 0] else [0, 0, 0]

/-- WARM_LUT without a table: round_half_even(65535 × (i / 1023)^2.4), found as the largest g with
(2 g − 1) × 1023^2.4 ≤ 2 × 65535 × i^2.4, compared in fifth powers (R309). -/
def lutDefault (i : Nat) : Nat :=
  searchMax 16 (fun g => g == 0 || (2 * g - 1) ^ 5 * 1023 ^ 12 ≤ 131070 ^ 5 * i ^ 12) 0

/-- lin16 of a code (R309). -/
def Cfg.lin16 (c : Cfg) (code : Nat) : Nat :=
  match c.warmLut with
  | some l => l.getD code 0
  | none => lutDefault code

/-- A lamp's warm-up level (R309). -/
def warmLevel (lin gw : Nat) : Nat := min 1023 ((lin * gw * 1023 + 2 ^ 30) / 2 ^ 31)

/-- The warm-up drive word of a level (R310). -/
def warmWord (ty : TileType) (p : LapPlan) (cc level : Nat) : DriveWord :=
  if level == 0 then .dark
  else ⟨max ty.warmStep cc, false, max (pminJ ty p 0) ((wmax ty p 0 * level + 511) / 1023), 0⟩

/-- The level of the lamp of scan order `k` from a warm-up picture (R308, R309). -/
def State.warmLamp (s : State) (ty : TileType) (pl : Placement) (b : Option WarmBuf) (k : Nat) : Nat :=
  let g := k / 3
  match b with
  | none => 0
  | some b =>
    if ty.wt * ty.ht ≤ g then 0
    else
      let (x, y) := rotate pl.wrot (g % ty.wt) (g / ty.wt) ty.wt ty.ht
      warmLevel (s.cfg.lin16 ((b.codes (x + pl.wx) (y + pl.wy)).getD (k % 3) 0)) (ty.gw.getD (k % 3) 0)

/-- The placement a tile has (R337). -/
def State.placement (s : State) (t : Tile) : Option Placement :=
  if t.placed then s.cfg.places.find? fun p => p.port == t.port && p.pos == t.pos else none

/-- A tile's warm-up pairs for a warm-up latch: every pair formed and sent, whatever its words (Table 12.1, R310). -/
def State.warmTile (b : Option WarmBuf) (s : State) (t : Tile) : State :=
  match s.typeOf t, s.placement t with
  | some ty, some pl =>
    if !t.admitted || ty.wt == 0 || ty.ht == 0 then s
    else
      let p := s.tl.plan
      let ws := (List.range t.lampsN).map fun k => warmWord ty p t.cc (s.warmLamp ty pl b k)
      s.modTile t.port t.pos fun t =>
        { t with words := setAt t.words 0 ws, scanDue := setAt t.scanDue 0 true,
                 pairs := modAt t.pairs 0 fun l => l.zipIdx.map fun x =>
                   { x.1 with dirty := false, ready := true, comp := some (wordsCrc ((ws.drop (256 * x.2)).take 256)) } }
  | _, _ => s

end Sys2Proof.Machine
end

