-- ==== Sys2Proof/Machine/Latch.lean ====
section
/-! DEFINITION. The latch of a view (02_scenes_and_composition.md): readiness, fences and slots, flip groups, the freeze detector, and
what a latch fixes (R38, R42, R53 to R58, R66, R73, R255, R256); the composition that follows it (R42, R51, R67, R96), and the
monitor frame (R216 to R218). -/

namespace Sys2Proof.Machine

/-- Slots of a surface that are free (R256): neither the newest accepted value's, nor named by a latch whose composition is unfinished,
nor held by a layer that waits with its content. -/
def State.freeSlots (s : State) (n : Nat) : List Nat :=
  (List.range 3).filter fun i => (s.surf n).newest != some i && !(s.latched fun c => match c with
    | .surf m k _ => m == n && k == i
    | _ => false)

/-- What a layer finds at a latch: ready with the content it would accept, not ready, or not ready for want of a slot (R53, R256). -/
inductive Probed where
  | ready (c : Content)
  | no
  | wait
  deriving DecidableEq, Repr

/-- The fence value committed before a tick, and whether it was committed in full service (R38, R54, R302). -/
def Fence.before (f : Fence) (now : Nat) : Nat × Bool := if f.tick == now then (f.prior, f.priorFresh) else (f.value, f.fresh)

/-- A layer's source at a latch, `last` being the content it last accepted (R53, R256, R257). -/
def State.probeLayer (s : State) (l : Layer) (last : Option Content) : Probed :=
  match l.kind with
  | 1 =>
    let w := s.flow l.id
    match w.doneBefore s.ticks with
    | none => .no
    | some b =>
      let f := w.buf b
      let seen : Bool := match last with | some (.flow _ _ k) => k == f.frame | _ => false
      if f.full && f.fresh && !seen then .ready (.flow l.id b f.frame) else .no
  | 2 =>
    let f := s.fence l.id
    let (val, fresh) := f.before s.ticks
    let seen : Bool := match last with | some (.surf _ _ v) => decide (val ≤ v) | _ => false
    if !s.host.attached || !fresh || seen then .no
    else if f.taken == some val then
      match (s.surf l.id).newest with
      | some k => .ready (.surf l.id k val)
      | none => .no
    else if (s.surf l.id).pull.isSome then .wait
    else match s.freeSlots l.id with
      | k :: _ => .ready (.surf l.id k val)
      | [] => .wait
  | 3 => .ready .solid
  | _ => .no

def Probed.isReady : Probed → Bool
  | .ready _ => true
  | _ => false

/-- HS_TABLE_BASE. -/
def State.tableBase (s : State) : Nat := s.addr64 Reg.hsTableBaseLo Reg.hsTableBaseHi

/-- A pull of a fence value begins (R255): its table entry is read. -/
def State.startPull (s : State) (n slot value view : Nat) (warm : Bool) : State :=
  match s.surfRec? n with
  | none => s
  | some r =>
    let f := s.surf n
    let p : Pull := { fence := value, slot := slot, seq := s.recSeq, view := view, addr := none, line := 0, prev := f.newest,
                      start := s.tb.run, span := s.tl.plan.halfLap, sent := 0, warm := warm }
    let s := s.modFence n fun x =>
      { x with taken := some value, live := x.live && x.value != value, priorLive := x.priorLive && x.prior != value }
    let s := s.modSurf n fun f =>
      { f with pull := some p, lines := 0, newest := some slot,
               slots := setAt f.slots slot ⟨some value, List.replicate r.h none⟩ }
    s.readHostMem (s.tableBase + 128 * n + 8 * (value % max 1 r.bufs)) 8

/-- HS_SLOT_WAIT counted once for a surface at a latch (R256). -/
def State.slotWait (s : State) (n : Nat) : State :=
  if (s.surf n).waited == s.ticks then s
  else (s.bump Reg.hsSlotWait).modSurf n fun f => { f with waited := s.ticks }

/-- The members of a flip group. -/
def groupOf (ls : List Layer) (g : Nat) : List Nat := (List.range ls.length).filter fun i =>
  match ls[i]? with | some l => l.used && l.group == g | none => false

/-- A group after a latch (R56, R57), whether it flips, and whether it is late from this latch on. -/
def GroupSt.latch (g : GroupSt) (patience : Nat) (members : List Probed) : GroupSt × Bool × Bool :=
  if members.isEmpty then (⟨false, 0, false⟩, false, false)
  else if members.all Probed.isReady then (⟨false, 0, false⟩, true, false)
  else if g.waiting || members.any Probed.isReady then
    let n := g.count + 1
    (⟨true, n, patience ≤ n⟩, false, n == patience)
  else (g, false, false)

/-- A layer after a latch: `take` is the content it accepts, `counted` whether the freeze detector counts it (R55, R73). A host surface's
signature is known only when its pull has ended; the layers that accepted it before then are judged at that end. -/
def State.layerLatch (s : State) (l : Layer) (p : Probed) (take counted : Bool) (st : LayerSt) : LayerSt :=
  let st := { st with ready := p.isReady, kept := false }
  match take, p with
  | true, .ready c =>
    let st := { st with content := some c }
    if !counted then st else
    let st := { st with idleN := 0 }
    match c with
    | .flow f b _ =>
      let sig := match s.flowRec? f with | some r => (crc32 (flowBytes r ((s.flow f).buf b).runs)).toNat | none => 0
      (st.signed sig).judge l.freeze
    | .surf n k v =>
      if (s.fence n).taken != some v || (s.surf n).pull.isSome then st.judge l.freeze
      else (st.signed (s.slotSig n k)).judge l.freeze
    | .solid => st.judge l.freeze
  | _, _ => if counted then { st with idleN := st.idleN + 1 }.judge l.freeze else st

/-- The layers of one scene of a view at a latch (R53 to R58, R73). -/
def State.latchLayers (s : State) (v : Nat) (ls : List Layer) (sts : List LayerSt) (gs : List GroupSt) :
    State × List LayerSt × List GroupSt :=
  let st := fun (i : Nat) => sts.getD i .reset
  let pr := ls.zipIdx.map fun x => s.probeLayer x.1 (st x.2).content
  let p := fun (i : Nat) => pr.getD i .no
  let gr := (List.range 7).map fun g =>
    let m := groupOf ls (g + 1)
    (gs.getD g ⟨false, 0, false⟩).latch (((m.head?.bind fun i => ls[i]?).map (·.patience)).getD 0) (m.map p)
  let g := fun (k : Nat) => gr.getD (k - 1) (⟨false, 0, false⟩, false, false)
  let s := (idxs 16 fun i => p i == .wait).foldl (fun s i => s.slotWait ((ls.getD i (Layer.parse [])).id)) s
  let s := (idxs 7 fun k => (gr.getD k (⟨false, 0, false⟩, false, false)).2.2).foldl
    (fun s k => s.evtAt (srcView v) Ev.groupLate [v, k + 1]) s
  let take := fun (i : Nat) (l : Layer) => (p i).isReady && (l.group == 0 || (g l.group).2.1)
  let counted := fun (l : Layer) => l.freeze != 0 && (l.kind == 1 || l.kind == 2) && !(l.group != 0 && (g l.group).1.waiting)
  let keeps := fun (i : Nat) (l : Layer) => !(take i l) && (p i != .no || (l.group != 0 && (g l.group).1.waiting))
  let new := ls.zipIdx.map fun x => { s.layerLatch x.1 (p x.2) (take x.2 x.1) (counted x.1) (st x.2) with kept := keeps x.2 x.1 }
  let s := (List.range 16).foldl (fun s i => s.healthEvents v i (st i) (new.getD i .reset)) s
  let s := ls.zipIdx.foldl (fun s x =>
    if !(take x.2 x.1) then s else
    match p x.2 with
    | .ready (.surf n k value) => if (s.fence n).taken == some value then s else s.startPull n k value v false
    | _ => s) s
  (s, new, gr.map (·.1))

/-- A view's fade at a latch: outgoing scene, incoming scene and g16 (R66); none once it has ended for the view (R128). -/
def State.viewFade (s : State) (v : Nat) (t : Int) : Option (Nat × Nat × Nat) :=
  match s.sc.fade with
  | some f => if (s.view v).noFade then none else some (s.sc.cur, f.target, fadeG16 f.ramp t f.start (f.time * 10000000))
  | none => none

/-- Tiles a unit computes (R407, R409): its own, and those of paired shared ports. -/
def State.computes (s : State) (t : Tile) : Bool :=
  t.lit && (!(s.shared t.port) || s.rl.role == .alone || s.rl.role == .active || s.rl.role == .solo ||
    (s.rl.role == .standby && (s.rport t.port).paired))

/-- Tiles a unit computes. -/
def State.computed (s : State) : List Tile := s.tiles.filter s.computes

/-- Pairs of the device in the order of R99: ascending lamp index, then leg. -/
def State.pairCount (s : State) : Nat := ((s.computed.map fun t => segCount t.lampsN).foldl (· + ·) 0) * s.tl.plan.legs

/-- Pairs a lap refreshes: with `m` laps for a sweep, two less than fit in REFRESH_MS (DEDUCED from R99). -/
def State.refreshShare (s : State) : Nat :=
  let p := s.tl.plan
  let m := if p.pNum == 0 then 1 else s.refreshMs * 1000000 * p.rateN / p.pNum - 2
  ceilDiv s.pairCount (max 1 m)

/-- Whether the pair numbered `i` in the sweep is due for forced refresh in this lap. -/
def State.refreshDue (s : State) (i : Nat) : Bool :=
  let n := s.pairCount
  n != 0 && (i + n - s.tl.refreshPtr % n) % n < s.refreshShare

/-- Pairs a latch of leg `j` recomputes: the dirty ones and those due for forced refresh (R97, R99). -/
def duePairs (s : State) (j : Nat) : Nat → List Tile → List Due
  | _, [] => []
  | first, t :: ts =>
    let n := segCount t.lampsN
    let l := (List.range n).filterMap fun g =>
      let f := s.refreshDue ((first + g) * s.tl.plan.legs + j)
      if f || ((t.pairs.getD j []).getD g .new).dirty then some (⟨t.port, t.pos, g, f⟩ : Due) else none
    l ++ duePairs s j (first + n) ts

/-- Two lists of due pairs as one. -/
def mergeDue (a b : List Due) : List Due :=
  b.foldl (fun l x =>
    if l.any fun y => y.port == x.port && y.pos == x.pos && y.seg == x.seg then
      l.map fun y => if y.port == x.port && y.pos == x.pos && y.seg == x.seg then { y with force := y.force || x.force } else y
    else l ++ [x]) a

/-- Pairs of a view's leg whose sample rectangle contains one of some blocks (Table 3.7). -/
def State.hitPairs (s : State) (v : Nat) (ts : List Tile) (blocks : List Nat) : List Due :=
  match s.cfg.view? v with
  | none => []
  | some r =>
    if blocks.isEmpty then [] else
    ts.flatMap fun t => (idxs (segCount t.lampsN) fun g => segHit (segLamps t.lamps g) r.w r.h blocks).map fun g => ⟨t.port, t.pos, g, false⟩

/-- The dirty marks of a leg's due pairs taken away. -/
def State.clean (s : State) (j : Nat) (due : List Due) : State :=
  { s with tiles := s.tiles.map fun t =>
      { t with pairs := modAt t.pairs j fun l => l.zipIdx.map fun x =>
          if due.any fun d => d.port == t.port && d.pos == t.pos && d.seg == x.2 then { x.1 with dirty := false } else x.1 } }

/-- The monitor's view, and the reason it is stopped (R216, R217, MON_STATUS). -/
def State.monView (s : State) : Nat := wfld (s.rws Reg.monCfg) 30 28
def State.monDiv (s : State) : Nat := 2 ^ wfld (s.rws Reg.monCfg) 22 21
def State.monSub (s : State) : Nat := 2 * wfld (s.rws Reg.monCfg) 27 26 + wfld (s.rws Reg.monCfg) 25 25
def State.monSize (s : State) : Nat × Nat :=
  match s.cfg.view? s.monView with
  | some r => (r.w / s.monDiv / 2 * 2, r.h / s.monDiv)
  | none => (0, 0)
def State.monStop (s : State) : Nat :=
  if !(s.subOn s.monSub) || !(s.sub s.monSub).up then 3
  else if !s.tl.service || !(s.tl.plan.enables s.monView) then 1
  else if s.monSize.1 < 2 then 2
  else 0

/-- The monitor frame in progress, or still to be made, given up (R216). -/
def State.monDrop (s : State) : State := { s with net := { s.net with mon := { s.net.mon with want := false, packets := [] } } }

/-- A latch of the monitored view (R216, R218): a frame is started, or skipped while the previous one is not fully sent. A frame still to
be made of a latch that this one overtakes is not made. -/
def State.monLatch (s : State) (v : Nat) (at_ : Int) : State :=
  if !s.variant.net || !(wbit (s.rws Reg.monCfg) 31) || s.monView != v then s else
  let why := s.monStop
  let (w, h) := s.monSize
  let m := { s.net.mon with width := w, height := h }
  let s := { s with net := { s.net with mon := m } }
  if why != 0 then s
  else if !m.packets.isEmpty then s.bump Reg.monSkipped
  else { s with net := { s.net with mon := { m with want := true, at_ := at_, lapNum := s.tl.plan.pNum, lapDen := s.tl.plan.rateN } } }

/-- L^(5/12) of L = m × 2^e below 1, in units of 2^−40: the largest g with g^12 ≤ m^5 × 2^(5 e + 480). -/
def root512 (m : Nat) (e : Int) : Nat :=
  searchMax 41 (fun g => g ^ 12 * 2 ^ (-5 * e - 480).toNat ≤ m ^ 5 * 2 ^ (5 * e + 480).toNat) 0

/-- E' of a linear value in units of 2^−40 (R217 step 3); above 10,000 cd/m², where the inverse of ST 2084 gives none, a free
value. -/
def monEnc (tcs pq : Nat) (x : Fl) : Nat :=
  match x with
  | .fin _ m e =>
    if tcs == 1 then
      let n := m * pq * 2 ^ e.toNat
      let d := 10000 * 2 ^ (-e).toNat
      if n ≤ d then pqInv n d else (Config.pqInverse x.to32 pq).toNat * 512
    else if (Fl.ofNat 1).lt x then 2 ^ 40 else root512 m e
  | _ => if tcs == 1 then (Config.pqInverse x.to32 pq).toNat * 512 else 2 ^ 40

/-- One code of the monitor: the rounded code, or one beside it (R217); which is a free value. -/
def monDither (key : Nat) (c : Int) : Nat :=
  (clampI 0 1023 (c + ((Config.monOff key).toNat % 3 : Nat) - 1)).toNat

/-- The three 10-bit codes Y, Cb, Cr of encoded R', G', B' in units of 2^−40 (R217 step 4). -/
def monYcc (prim : Nat) (key : Nat) (e : List Nat) : List Nat :=
  let (kr, kb, kg) := kCoef prim
  let r : Int := e.getD 0 0
  let g : Int := e.getD 1 0
  let b : Int := e.getD 2 0
  let y : Int := kr * r + kg * g + kb * b          -- units of 2^−40 / 10^4
  let q := fun (n d : Int) => (2 * n + d) / (2 * d)
  let one : Int := 10000 * 2 ^ 40
  [monDither (3 * key) (q (876 * y + 64 * one) one),
   monDither (3 * key + 1) (q (896 * (10000 * b - y) + 512 * (2 * (10000 - kb)) * 2 ^ 40) (2 * (10000 - kb) * 2 ^ 40)),
   monDither (3 * key + 2) (q (896 * (10000 * r - y) + 512 * (2 * (10000 - kr)) * 2 ^ 40) (2 * (10000 - kr) * 2 ^ 40))]

/-- An output pixel of the monitor: the mean of its canvas pixels, in row order, through MON_MATRIX, clamped below at 0 (R217). -/
def State.monPixel (s : State) (w : Nat) (cv : List (List Nat)) (x y : Nat) : Px :=
  let d := s.monDiv
  let ps := (List.range (d * d)).map fun i => (cv.getD ((y * d + i / d) * w + x * d + i % d) [0, 0, 0, 0]).map Fl.of16
  let mean := (List.range 3).map fun c => (ps.foldl (fun (a : Fl) (p : Px) => a.add (chan p c)) (Fl.ofNat 0)).div (.ofNat (d * d))
  (matMul ((List.range 9).map fun i => s.rws (Reg.monMatrix i)) mean).map fun v => if v.isNeg then Fl.ofNat 0 else v

/-- The pgroups of a line of the monitor frame. -/
def State.monLine (s : State) (w wm : Nat) (cv : List (List Nat)) (y : Nat) : List (List Byte) :=
  let c := s.rws Reg.monCfg
  let code := fun (x : Nat) => monYcc (wfld c 23 23) (s.net.mon.seq * 2 ^ 28 + y * 2 ^ 14 + x)
    ((s.monPixel w cv x y).map (monEnc (wfld c 24 24) (wfld (s.rws Reg.monPqRef) 13 0)))
  (List.range (wm / 2)).map fun i =>
    let a := code (2 * i)
    packCodes 10 [a.getD 1 0, a.getD 0 0, a.getD 2 0, (code (2 * i + 1)).getD 0 0]

/-- Lists of at most 240 pgroups. -/
def chunk240 : Nat → List (List Byte) → List (List (List Byte))
  | 0, _ => []
  | k + 1, l => if l.isEmpty then [] else l.take 240 :: chunk240 k (l.drop 240)

/-- The RTP payloads of a frame, headers and all (R218): one SRD a packet, at most 1200 bytes of pgroups. -/
def State.monPackets (s : State) (cv : List (List Nat)) : List (List Byte) :=
  let m := s.net.mon
  let w := ((s.cfg.view? s.monView).map (·.w)).getD 1
  let srd := (List.range m.height).flatMap fun y =>
    (chunk240 (m.width / 480 + 1) (s.monLine w m.width cv y)).zipIdx.map fun x => (y, 480 * x.2, x.1.flatten)
  let ts := (m.at_.toNat * 90000 / giga) % 2 ^ 32
  srd.zipIdx.map fun x =>
    let q := (m.seq + x.2) % 2 ^ 32
    let last := x.2 + 1 == srd.length
    [byte 0x80, byte (at_ (b2n last) 7 + wfld (s.rws Reg.monCfg) 20 14)] ++ beBytes 2 (q % 65536) ++ beBytes 4 ts ++
      beBytes 4 (Config.monSsrc.toNat) ++ beBytes 2 (q / 65536) ++ beBytes 2 x.1.2.2.length ++ beBytes 2 x.1.1 ++ beBytes 2 x.1.2.1 ++ x.1.2.2

/-- The monitor frame of a composition, or of a canvas used again (R216). -/
def State.monFrame (s : State) (v : Nat) : State :=
  if !s.net.mon.want || s.monView != v then s else
  let ps := s.monPackets (s.view v).canvas
  { s with net := { s.net with mon := { s.net.mon with want := false, packets := ps, total := ps.length, sent := 0, dry := false } } }

/-- Whether a latch leaves the view's state as it was at its previous latch (R42). -/
def Latch.same (a b : Latch) : Bool :=
  a.scene == b.scene && a.layers == b.layers && a.toScene == b.toScene && a.toLayers == b.toLayers && a.g16 == b.g16

/-- Pulls of a view that are still in progress at its next latch fail (R257). -/
def State.latePulls (s : State) (v : Nat) (warm : Bool) : State :=
  (List.range 16).foldl (fun s n => match (s.surf n).pull with
    | some p => if p.warm == warm && (warm || p.view == v) then s.failPull n else s
    | none => s) s

/-- Buffers that a latch held brought up to date once its composition has finished (R209). -/
def State.releaseBufs (s : State) (l : Latch) : State :=
  (l.layers ++ l.toLayers).foldl (fun s c => match c with | some (.flow f _ _) => s.freeBufs f | _ => s) s

/-- The latch of a view at a leg boundary (R38, R42, R94): sources accepted, what the composition takes fixed, and the pairs to
recompute. A view whose state is unchanged is not composed again. -/
def State.latchView (s : State) (v j : Nat) (t : Int) : State :=
  let s := s.latePulls v false
  let fade := s.viewFade v t
  let x := s.view v
  let (s, out, outG) := match fade with
    | some (a, _, _) => s.latchLayers v (s.sceneLayers a v) x.out x.outGroups
    | none => (s, x.out, x.outGroups)
  let into := match fade with | some (_, b, _) => b | none => s.settled
  let (s, ls, gs) := s.latchLayers v (s.sceneLayers into v) x.layers x.groups
  let con := fun (l : List LayerSt) => l.map (·.content)
  let old := match x.latch with | some l => if l.done then [] else l.due | none => []
  let due := mergeDue (mergeDue (duePairs s j 0 s.computed) old) (s.hitPairs v s.computed x.recheckBlocks)
  let l : Latch :=
    { seq := s.tl.legSeq, at_ := t, leg := j, plan := s.tl.plan, scene := (match fade with | some (a, _, _) => a | none => into)
      layers := (match fade with | some _ => con out | none => con ls), toScene := fade.map (·.2.1)
      toLayers := (match fade with | some _ => con ls | none => []), g16 := (fade.map (·.2.2)).getD 0
      changed := true, due := due, snap := s.tiles, underrun := [], formed := [], badPx := [], holes := [], done := false }
  let same : Bool := match x.latch with | some k => k.done && l.same k && !x.canvas.isEmpty | none => false
  let s := (s.clean j due).modView v fun x =>
    { x with layers := ls, groups := gs, out := out, outGroups := outG, latch := some { l with changed := !same }, recheckBlocks := [] }
  let s := match x.latch with | some k => s.releaseBufs k | none => s
  let s := s.releaseBufs l
  let s := s.monLatch v t
  if same then (s.recompute v).monFrame v else s

/-- The frame a content shows: converted source pixels (R206, R254); holes of an uncorrectable burst are transparent black (R283). -/
def State.frameOf (s : State) (out : Bool) (l : Latch) (i : Nat) (c : Option Content) : Option (Nat → Nat → Px) :=
  let hole := fun (f : Nat → Nat → Px) (x y : Nat) => if l.holes.contains (out, i, x, y) then List.replicate 4 (.fin false 0 0) else f x y
  match c with
  | some .solid => some fun _ _ => []
  | some (.flow f b _) => (s.flowRec? f).map fun r => hole (flowPx r ((s.flow f).buf b).runs)
  | some (.surf n k _) => (s.surfRec? n).map fun r => hole (slotPx r (((s.surf n).slots.getD k .reset).lines))
  | none => none

/-- A scene's layers with their frames at a latch. -/
def State.shownLayers (s : State) (v n : Nat) (out : Bool) (l : Latch) (cs : List (Option Content)) : List Shown :=
  (s.sceneLayers n v).zipIdx.map fun x => ⟨x.1, s.frameOf out l x.2 (cs.getD x.2 none)⟩

/-- The background of a scene's view block. -/
def State.background (s : State) (v n : Nat) : List Nat :=
  match s.scene? n with | some ws => (viewBlock ws v).bg | none => [0, 0, 0]

/-- A latch's canvas, row by row (R51, R52, R67). -/
def State.compose (s : State) (v : Nat) (l : Latch) (w h : Nat) : List (List Nat) :=
  let a := s.shownLayers v l.scene (l.toScene.isSome) l l.layers
  let ba := s.background v l.scene
  match l.toScene with
  | none => (List.range (w * h)).map fun i => canvasPx (composePx ba a (i % w) (i / w))
  | some n =>
    let b := s.shownLayers v n false l l.toLayers
    let bb := s.background v n
    (List.range (w * h)).map fun i =>
      let ca := composePx ba a (i % w) (i / w)
      let cb := composePx bb b (i % w) (i / w)
      canvasPx ((List.range 3).map fun c => fadeMix l.g16 (chan ca c) (chan cb c))

/-- The stored bytes of a canvas pixel (R41). -/
def pxBytes (p : List Nat) : List Byte := p.flatMap (leBytes 2)

/-- The CRC-32 of each block of a canvas (R96). -/
def blockCrcs (w h : Nat) (cv : List (List Nat)) : List Nat :=
  let a := blocksAcross w
  (List.range (a * ceilDiv h 32)).map fun b =>
    let x0 := b % a * 32
    let y0 := b / a * 32
    (crc32 ((List.range (min 32 (h - y0))).flatMap fun y => (List.range (min 32 (w - x0))).flatMap fun x =>
      pxBytes (cv.getD ((y0 + y) * w + x0 + x) []))).toNat

/-- A canvas written into a buffer in HBM (R42): the bytes beyond W × 8 of a line are not written. -/
def State.storeCanvas (s : State) (v buf w h : Nat) (cv : List (List Nat)) : State :=
  let base := 512 * s.mem.canvasBase.getD (2 * v + buf) 0
  let bytes := (List.range h).foldl (fun m y =>
    hbmWriteList m (base + y * canvasPitch w) (((cv.drop (y * w)).take w).flatMap pxBytes)) s.mem.bytes
  { s with mem := { s.mem with bytes := bytes } }

/-- Whether a pull still fills a slot that a latch composes from (R255). -/
def State.pullFor (s : State) (l : Latch) : Bool :=
  (l.layers ++ l.toLayers).any fun c => match c with
    | some (.surf n k _) => (match (s.surf n).pull with | some p => p.slot == k | none => false)
    | _ => false

/-- The pairs that a composition makes due: those of its latch, and those that its changed blocks hit (R96, R97). -/
def State.canvasDue (s : State) (v : Nat) (l : Latch) (crcs : List Nat) : List Due :=
  let x := s.view v
  let diff := (List.range crcs.length).filter fun b => crcs[b]? != x.crcs[b]?
  mergeDue l.due (s.hitPairs v (l.snap.filter s.computes) diff)

/-- Whether two lists name the same pair. -/
def Due.same (a b : Due) : Bool := a.port == b.port && a.pos == b.pos && a.seg == b.seg

/-- A composition finished (R42, R96, R97): the canvas is stored in the other buffer, its changed blocks add to the pairs to recompute,
and those are recomputed, but for pairs formed before for their deadlines. A mark set since the latch stays for the next one (R94). -/
def State.composed (s : State) (v : Nat) (l : Latch) (w h : Nat) : State :=
  let cv := s.compose v l w h
  let crcs := blockCrcs w h cv
  let x := s.view v
  let due := (s.canvasDue v l crcs).filter fun d => !(l.formed.any d.same)
  let buf := 1 - x.buf
  let s := s.storeCanvas v buf w h cv
  let s := s.modView v fun x => { x with canvas := cv, buf := buf, crcs := crcs, latch := some { l with due := due } }
  ((s.recompute v).releaseBufs l).monFrame v

/-- VIEW_COMPOSE_DONE (R42, R209, R256): the composition of a view's latch finishes. -/
def execViewComposeDone (view : Fin 8) (s : State) : Host.Outcome State Fault Refusal :=
  match (s.view view).latch, s.cfg.view? view with
  | some l, some r => if l.done || !l.changed || s.pullFor l then .next s else .next (s.composed view l r.w r.h)
  | _, _ => .next s

/-- Whether a block's composition is unfinished. -/
def State.unfinished (s : State) (v : Nat) : Option Latch :=
  match (s.view v).latch with
  | some l => if l.done then none else some l
  | none => none

/-- The pairs that need a block which is not composed in time (R129): those that the composition makes due and whose sample rectangle
contains the block. -/
def State.lateDue (s : State) (v : Nat) (l : Latch) (w h block : Nat) (crcs : List Nat) : List Due :=
  (s.canvasDue v l crcs).filter fun d => match l.snap.find? (·.is d.port d.pos) with
    | some t => segHit (segLamps t.lamps d.seg) w h [block]
    | none => false

/-- The pairs that need a late block computed at once from what the composition gives, the late blocks sampled as background (R129). One
computed so for an earlier block is computed anew. -/
def State.formLate (s : State) (v : Nat) (l : Latch) (w h block : Nat) : State :=
  let cv := s.compose v l w h
  let old := (s.view v).canvas
  let due := s.lateDue v l w h block (blockCrcs w h cv)
  let s := s.modView v fun x => { x with canvas := cv }
  let s := due.foldl (State.recomputePair v l) s
  s.modView v fun x =>
    { x with canvas := old, latch := x.latch.map fun y => { y with formed := mergeDue y.formed due } }

/-- BLOCK_CORRECTION_DUE (R129): correction of a block must begin; unfinished, it is sampled as background and counts as changed at the
view's next latch, and the pairs that need it are corrected with it. -/
def execBlockCorrectionDue (view : Fin 8) (block : Nat) (s : State) : Host.Outcome State Fault Refusal :=
  match s.unfinished view, s.cfg.view? view with
  | some l, some r =>
    if l.underrun.contains block then .next s else
    let l' := { l with underrun := l.underrun ++ [block] }
    let s' := s.modView view fun x =>
      { x with latch := some l', recheckBlocks := if x.recheckBlocks.contains block then x.recheckBlocks else x.recheckBlocks ++ [block] }
    let s' := s'.bump Reg.underrunCount
    let s' := if !l.underrun.isEmpty then s' else (s'.evtAt (srcView view) Ev.viewUnderrun [view, l.seq]).surge 1
    .next (s'.formLate view l' r.w r.h block)
  | _, _ => .next s

/-- A monitor packet that the transmit buffer had run dry in is not sent, and its frame is counted in MON_SKIPPED, once (Table 11.5). -/
def State.monDry (s : State) (rest : List (List Byte)) : State :=
  let m := s.net.mon
  let s := if m.dry then s else s.bump Reg.monSkipped
  { s with net := { s.net with mon := { m with packets := rest, sent := m.sent + 1, seq := (m.seq + 1) % 2 ^ 32, dry := true } } }.elasticLoss 3

/-- MONITOR_PACKET_SEND (R216, R218): the next packet of the monitor frame, spread evenly over the lap from its latch, while the monitor
runs. Whether the transmit buffer runs dry inside it (R301) is a free value, since the spec does not say when it does (log 9). -/
def execMonitorPacketSend (s : State) : Host.Outcome State Fault Refusal :=
  let m := s.net.mon
  match m.packets with
  | [] => .next s
  | p :: rest =>
    if s.monStop != 0 then .next s.monDrop
    else if s.wall < m.at_ + (m.sent * m.lapNum / (m.lapDen * max 1 m.total) : Nat) then .next s
    else if s.draw.1.getLsbD 0 then .next (s.draw.2.monDry rest)
    else
      let s := s.draw.2
      let u := s.rws Reg.monUdp
      let c := s.rws Reg.monCfg
      let fin := rest.isEmpty
      let m' := { m with packets := rest, sent := m.sent + 1, seq := (m.seq + 1) % 2 ^ 32, frames := if fin && !m.dry then (m.frames + 1) % 2 ^ 32 else m.frames }
      .next ({ s with net := { s.net with mon := m' } }.udpSend s.monSub (at_ (wfld c 13 8) 2) 16 (s.rws Reg.monDst).toNat
        (wfld u 15 0) (wfld u 31 16) p)

/-- The canvas buffer composed, or used again, at the view's last latch; none before its first (R42, R75). -/
def View.latchBuf (x : View) : Option Nat :=
  match x.latch with
  | some l => some (if l.changed && !l.done then 1 - x.buf else x.buf)
  | none => if x.canvas.isEmpty then none else some x.buf

/-- The composition block's view registers and the monitor's. -/
def State.readViews (s : State) (off : Nat) : Option Word :=
  let m := fun (f : Nat → Bool) => maskOf ((List.range 16).map f)
  if 0x1002000 ≤ off && off < 0x1002800 then
    let v := (off - 0x1002000) / 0x100
    let x := s.view v
    let st := fun (i : Nat) => x.layers.getD i .reset
    let g := fun (i : Nat) => x.groups.getD i ⟨false, 0, false⟩
    match off % 0x100 with
    | 0x00 => some (Word.of (at_ (m fun i => (st i).ready) 16 + m fun i => (st i).content.isSome))
    | 0x04 => some (Word.of (at_ (m fun i => (st i).frozen) 16 + m fun i => (st i).stale))
    | 0x08 => some (Word.of (at_ (maskOf ((List.range 7).map fun i => (g i).late)) 9 + at_ (maskOf ((List.range 7).map fun i => (g i).waiting)) 1))
    | 0x10 => some (Word.of (match x.latchBuf with | some b => s.mem.canvasBase.getD (2 * v + b) 0 | none => 0))
    | 0x14 => some (Word.of (if s.tl.service && s.tl.plan.enables v then match s.cfg.view? v with | some r => canvasPitch r.w | none => 0 else 0))
    | _ => none
  else if off == Reg.monStatus then
    let on := s.variant.net && wbit (s.rws Reg.monCfg) 31
    let why := if on then s.monStop else 0
    some (Word.of (at_ (b2n (on && why == 0)) 31 + at_ why 29 + at_ (s.monSize.2 % 2 ^ 14) 14 + s.monSize.1 % 2 ^ 14))
  else if off == Reg.monFrames then some (Word.of s.net.mon.frames)
  else none

end Sys2Proof.Machine
end

