-- ==== Sys2Proof/Machine/Boundary.lean ====
section
/-! DEFINITION. The leg boundary (01_wall_model.md, 04_drive_synthesis.md, 08_time_base.md): the changes that fall at a boundary, the cues
that take effect, the latch, and the actions of a lap boundary in full service and in warm-up (R33 to R38, R63 to R68, R87, R89,
R106, R118 to R127, R236, R242, R296, R311, R319, R322, R397, R486); with the pins and the LAP frames (R131, R173). -/

namespace Sys2Proof.Machine

/-- A change whose boundary has come (R106, R236, R319, R322). -/
def State.changeDue (s : State) (b : Int) : Option Change :=
  let hit := fun (x : Option Int) => match x with | some t => decide (t ≤ b) | none => false
  if hit s.tl.stepB then some .step
  else if hit s.tl.fullB then some .full
  else if hit s.tl.limpB then some .limp
  else match s.tl.pend with
    | some c => if s.tl.pendB ≤ b then some (.plan c.plan) else none
    | none => none

/-- A composition that a dark change overtakes is abandoned: its content would be emitted in no lap (R36, R127). -/
def State.dropLatches (s : State) : State :=
  let vs := s.sc.views.map fun v => { v with latch := match v.latch with | some l => if l.done then some l else none | none => none }
  { s with sc := { s.sc with views := vs } }.monDrop

/-- Pairs that wait to be sent lose their place; each will be formed again. -/
def Tile.unready (t : Tile) : Tile := { t with pairs := t.pairs.map fun l => l.map fun p => { p with ready := false } }

/-- Whether two plans give a tile's leg store the same shape (R174). -/
def LapPlan.sameStore (a b : LapPlan) : Bool :=
  a.legs == b.legs && a.strides == b.strides && a.lines == b.lines && a.lineOrder == b.lineOrder

/-- A plan put in force with a dark interval: every pair is sent unconditionally, with its scan descriptors (R36, R127, Table 3.7). -/
def State.darkPlan (s : State) (p : LapPlan) (warm : Bool) : State :=
  let same := s.tl.plan.sameStore p && !s.tl.warm && !warm
  let s := { s with tl := { s.tl with plan := p, num := p.num, warm := warm, dark := true } }.dropLatches
  { s with tiles := s.tiles.map fun t => if same then t.forceAll.unready else t.legsNew p.legs }

/-- A plan put in force without a dark interval: the pairs of a view whose tint changes are dirty (R127, Table 3.7). -/
def State.litPlan (s : State) (p : LapPlan) : State :=
  let old := s.tl.plan
  let js := (List.range p.legs).filter fun j => old.tint.getD (p.view j) [] != p.tint.getD (p.view j) []
  let s := { s with tl := { s.tl with plan := p, num := p.num } }
  { s with tiles := s.tiles.map fun t =>
      js.foldl (fun t j => { t with pairs := modAt t.pairs j fun l => l.map fun x => { x with dirty := true } }) t }

/-- A fade ends for the views that the plan in force does not enable (R128). -/
def State.fadeViews (s : State) : State :=
  if s.sc.fade.isNone then s
  else
    let vs := s.sc.views.zipIdx.map fun x =>
      if s.tl.plan.enables x.2 || x.1.noFade then x.1
      else { x.1 with noFade := true, out := List.replicate 16 .reset, outGroups := List.replicate 7 ⟨false, 0, false⟩ }
    { s with sc := { s.sc with views := vs } }

/-- NO_ROOM of the plan in force (R125): tiles detect open lamps, and no leg has room for a probe on any of them. Where types of different
DET_FLOOR differ in this, probes go on for those with room and NO_ROOM reads 0 (DESIGN CHOICE, log 54). -/
def State.noRoomNow (s : State) : Bool :=
  let ts := (s.litTiles.filterMap s.typeOf).filter fun ty => ty.detFloor != 0
  !ts.isEmpty && ts.all fun ty => (probeLeg s.tl.plan ty.detFloor).isNone

/-- PROBE_NO_ROOM judged as a plan takes effect (R125). -/
def State.judgeRoom (s : State) : State :=
  let n := s.noRoomNow
  let s := { s with tl := { s.tl with noRoom := n } }
  if n then s.ev Ev.probeNoRoom [s.tl.num] else s

/-- The guard of something that took effect at boundary `b` ends two laps after it (R298). -/
def State.guardUntil (s : State) (b : Int) : State :=
  { s with fab := { s.fab with guardEnd := s.fab.guardEnd ++ [s.lapShift b 2] } }

/-- A plan cue taken at its boundary (R36, R106, R127, R128). -/
def State.takePlan (s : State) (c : PlanCue) (b : Int) : State :=
  let s := { s with tl := { s.tl with pend := none, fixed := false } }
  let old := s.tl.plan
  let p := s.planOf c.plan
  let dark := old.needsDark p
  let s := s.ev Ev.planTaken [old.num, p.num, b2n dark, s.tl.legSeq]
  let s := if dark then s.darkPlan p false else s.litPlan p
  ((s.fadeViews.judgeRoom).guardUntil b).cuesChanged

/-- Fences and flow frames as full service finds them: nothing has been completed, committed or taken in it (R53, R54). -/
def State.freshSources (s : State) : State :=
  let fs := s.sc.fences.map fun f => { f with fresh := false, taken := none }
  let ws := s.net.flows.map fun w => { w with bufs := w.bufs.map fun b => { b with fresh := false } }
  let us := s.host.surfs.map fun u => { u with newest := none, slots := List.replicate 3 .reset }
  { s with sc := { s.sc with fences := fs }, net := { s.net with flows := ws }, host := { s.host with surfs := us } }

/-- SB5 left for full service: the stage is shown at once, and recorded as the tick ends (Table 12.6). -/
def State.stage5 (s : State) : State :=
  { s with boot := { s.boot with stage := 5, stageTick := s.ticks, entryMs := setAt s.boot.entryMs 5 s.bootMs, stageDue := true } }

/-- Entry into full service at B (R37, R319): the initial plan and scene, with a dark lap. -/
def State.takeFull (s : State) (b : Int) : State :=
  let p := s.planOf s.cfg.initPlan
  let s := (s.latePulls 0 true).darkPlan p false
  let sec := (b - 1) / giga
  let s := { s with tl := { s.tl with fullB := none, service := true, legSeq := 0, hourSec := none, trimSec := sec.toNat,
                                      probeTick := s.ticks },
                    sc := { s.sc with cur := s.cfg.initScene, shown := true, fade := none },
                    boot := { s.boot with warmActive := false } }
  (s.freshSources.stage5.judgeRoom.joins).updGuard

/-- The warm-up plan of limp service at BL (R322 steps 3 and 4), or the dark lap that LAP frames for B have announced on some ports (R323): the
limp sequence no longer holds the chains. -/
def State.takeLimp (s : State) : State :=
  let old := s.tiles
  let s := s.darkPlan s.cfg.warm true
  let s := { s with tiles := (old.zip s.tiles).map fun (x : Tile × Tile) => if s.tl.limpQuiet.contains x.1.port then x.1 else x.2 }
  { s with tl := { s.tl with limpB := none, limpQuiet := [] }, boot := { s.boot with warmActive := true },
           flt := { s.flt with limpHold := false } }

/-- What waits for a re-step's end is fixed from the stepped instant (R319, R322). -/
def State.stepAsks (s : State) (base : Int) : State :=
  let s := if s.tl.fullAsk then { s with tl := { s.tl with fullAsk := false, fullB := some (s.changeAt base) } } else s
  if s.tl.limpAsk then { s with tl := { s.tl with limpAsk := false, limpB := some (s.changeAt base) } } else s

/-- A committed re-step carried out (R236): the counter is stepped and every tile is dark; pulses still to begin keep their distance.
PROBE frames for later laps are not sent. -/
def State.takeStep (s : State) (b d : Int) : State :=
  let s := s.applyStep d
  let ps := s.tl.pulses.map fun p => { p with at_ := p.at_ + d }
  let s := { s with tl := { s.tl with pulses := ps, dark := true } }.dropLatches.dropProbes
  let s := { s with tiles := s.tiles.map fun t => t.forceAll.unready }
  let s := (List.range s.cfg.sched.length).foldl State.consider s
  ((s.guardUntil (b + d)).stepAsks (b + d)).placeHeld (b + d)

/-- The change that falls at lap boundary `b`, with the instant from which the timeline goes on, and whether it is a re-step; none for an
ordinary boundary, a cancelled re-step among them. -/
def State.lapChange (s : State) (b : Int) : State × Option (Int × Bool) :=
  match s.changeDue b with
  | none => (s, none)
  | some .step =>
    let d := s.tb.est
    let go := s.tl.stepGo.getD (decide (1000 ≤ d.natAbs))
    let late := s.tl.stepGo.isNone && !go
    let s := { s with tl := { s.tl with stepB := none, stepGo := none } }
    if go then (s.takeStep b d, some (b + d, true))
    else
      let s := if late then { s with tb := { s.tb with firstDue := false } }.ev Ev.restepCancelled [sat32 d] else s
      ((s.stepAsks b).placeHeld b, none)
  | some .full => (((s.takeFull b).placeHeld b).acceptHeld, some (b, false))
  | some .limp => ((s.takeLimp.placeHeld b).acceptHeld, some (b, false))
  | some (.plan _) =>
    match s.tl.pend with
    | some c => (((s.takePlan c b).placeHeld b).acceptHeld, some (b, false))
    | none => (s, none)

/-- Layers and groups of a scene that becomes current or incoming: nothing accepted yet (R58). For a fade this happens at its boundary L,
from which the incoming scene is composed: the first latch of R58 and the restart of the counts of R73 are taken there and not again at
the fade's end (DESIGN CHOICE, log 119). -/
def State.newLayers (s : State) (fading : Bool) : State :=
  let vs := s.sc.views.map fun v =>
    { v with out := if fading then v.layers else List.replicate 16 .reset,
             outGroups := if fading then v.groups else List.replicate 7 ⟨false, 0, false⟩,
             layers := List.replicate 16 .reset, groups := List.replicate 7 ⟨false, 0, false⟩, noFade := false }
  { s with sc := { s.sc with views := vs } }

/-- A scene cue at its effective boundary (R63 to R66, R70, R71): a fade in progress is cut short, and a pair that is not fadeable cuts. -/
def State.takeScene (s : State) (c : SceneCue) (b : Int) : State :=
  let s := match s.sc.fade with
    | some f => (s.ev Ev.fadeCutShort [s.sc.cur, f.target]).endFade
    | none => s
  let old := s.sc.cur
  let fade := c.fade && c.time != 0 && c.scene != old && s.fab.fades.contains (old, c.scene)
  let word := at_ (b2n fade) 8 + at_ c.ramp 10 + at_ c.time 12
  let s := s.ev Ev.cueTaken [c.scene, word, s.tl.legSeq]
  if c.scene == old then s
  else
    let s := if fade then
        ({ s with sc := { s.sc with fade := some ⟨c.scene, c.ramp, c.time, b⟩ } }.newLayers true).fadeViews
      else { s with sc := { s.sc with cur := c.scene } }.newLayers false
    s.guardUntil b

/-- Whether a pending cue takes effect at lap boundary `b` (R63). -/
def State.cueDue (s : State) (b : Int) (c : SceneCue) : Bool :=
  if c.timed then splitDiff c.split (splitOf b) ≤ 0 else c.tick < s.ticks

/-- A cue mirrored by the active unit, as the standby takes it at the named boundary (R415). -/
def MirrorCue.cue (m : MirrorCue) (tick order : Nat) (now : Int) : SceneCue :=
  { scene := m.num, fade := m.fade, ramp := nfld m.trans 11 10, time := nfld m.trans 9 0, timed := false, split := m.split
    accept := now, src := 0, tick := tick, order := order }

/-- Whether a lap number has been reached (R37). -/
def lapReached (lap now : Nat) : Bool := (now + 2 ^ 32 - lap) % 2 ^ 32 < 2 ^ 31

/-- Mirrored cues whose lap has come: scene cues join the pending table as cues of this boundary; a plan cue that came before full service
or too late for its boundary is pending from now on. One that arrives in the tick of its boundary waits for the next (Table 17.4). -/
def State.takeMirrored (s : State) (k : Int) : State :=
  let now := (k % 2 ^ 32).toNat
  let due := s.rl.mcues.filter fun m => lapReached m.lap now && m.tick < s.ticks
  if due.isEmpty then s
  else
    let cs := (due.filter (!·.plan)).zipIdx.map fun x => x.1.cue (s.ticks - 1) (s.sc.order + x.2) s.wall
    let s := { s with rl := { s.rl with mcues := s.rl.mcues.filter fun m => !(lapReached m.lap now && m.tick < s.ticks) },
                      sc := { s.sc with pend := s.sc.pend ++ cs, order := s.sc.order + cs.length } }
    match (due.filter (·.plan)).getLast? with
    | some m =>
      if m.num == s.tl.num || s.tl.pend.isSome || (s.cfg.plan? m.num).isNone then s
      else s.placePlan s.wall ⟨m.num, false, m.split, s.wall, 0, s.ticks⟩
    | none => s

/-- The cues and the end of a fade at lap boundary `b` of lap `k` (R63, R64, R68). A cue that loses is recorded and gives up its entry
at the shared boundary, where the last one is known (DESIGN CHOICE: R64 gives no instant, log 40). -/
def State.cuesAt (s : State) (b k : Int) : State :=
  if !s.tl.service then s else
  let s := match s.sc.fade with
    | some f => if f.start + (f.time * 10000000 : Nat) ≤ b then s.endFade.joins else s
    | none => s
  let s := s.takeMirrored k
  let due := s.sc.pend.filter (s.cueDue b)
  match lastCue due with
  | none => s
  | some w =>
    let s := { s with sc := { s.sc with pend := s.sc.pend.filter fun c => !(due.contains c) } }
    let s := (due.filter (· != w)).foldl (fun s c => s.ev Ev.cueSuperseded [c.scene, c.src]) s
    (s.takeScene w b).cuesChanged

/-- The unit's own port and position of a tile that its partner names: the two number a chain from opposite ends (R409, R413). -/
def State.ownPlace (s : State) (k pos : Nat) : Option (Nat × Nat) :=
  ((List.range 16).find? fun p => (s.rport p).paired && (s.rport p).partner == k).bind fun p =>
    let n := (s.port p).census.found
    if pos < n then some (p, n - 1 - pos) else none

/-- The partner's port and position in a mirrored input. -/
def Mirror.place : Mirror → Nat × Nat
  | .tile p q _ _ _ _ => (p, q)
  | .lamp p q _ _ => (p, q)
  | .flush p q => (p, q)

/-- A mirrored input applied at the latch it names (R415). -/
def State.applyMirror (s : State) (m : Mirror) : State :=
  match s.ownPlace m.place.1 m.place.2 with
  | none => s
  | some (p, q) =>
    match m with
    | .tile _ _ tm ta cc tr =>
      s.modTile p q fun t =>
        let new := { t with tempM := tm, tempA := ta, cc := cc, trim := tr, tempOk := true }
        if t.tempA == ta && t.cc == cc && t.trim == tr then new else new.dirtyAll
    | .lamp _ _ k st => s.modTile p q (Tile.setLamp k st s.nowMs)
    | .flush _ _ => match s.tile? p q with | some t => s.flushTile t false | none => s

/-- Whether a mirrored input is a flush, which is made with the actions of its lap boundary. -/
def MirrorAt.isFlush (m : MirrorAt) : Bool := match m.what with | .flush _ _ => true | _ => false

/-- Whether a shared port waits to be paired; a mirrored input of a port that is not known yet waits with it. -/
def State.pairsOpen (s : State) : Bool := (List.range 16).any fun p => s.shared p && !((s.rport p).paired) && !((s.rport p).unpaired)

/-- Mirrored inputs of a kind that name the latch of leg `j` in lap `k`, or an earlier one of the leg, applied (R416). -/
def State.applyMirrors (s : State) (flush : Bool) (j : Nat) (k : Int) : State :=
  let now := (k % 2 ^ 32).toNat
  let due := fun (m : MirrorAt) => m.isFlush == flush && m.leg == j && lapReached m.lap now &&
    ((s.ownPlace m.what.place.1 m.what.place.2).isSome || !s.pairsOpen)
  let s' := { s with rl := { s.rl with mirror := s.rl.mirror.filter fun m => !(due m) } }
  (s.rl.mirror.filter due).foldl (fun s m => s.applyMirror m.what) s'

/-- Every pair of the driven ports to be sent unconditionally (R191, Table 3.7). -/
def State.forceDriven (s : State) : State :=
  { s with tiles := s.tiles.map fun t => if s.drives t.port then t.forceAll else t }

/-- The entry instant of hold: the first leg boundary after HOLD enter (R397). -/
def State.holdEntry (s : State) : State :=
  if !s.flt.holdFresh then s
  else { s with flt := { s.flt with hold := .held, holdFresh := false, holdTick := s.ticks } }.ev Ev.holdEntered [s.flt.holdKind]

/-- Hold at a lap boundary (R397): HOLD leave once no S2 entry is latched and the limp sequence has ended, else HOLD enter again; LEAVING
ends one lap later. -/
def State.holdLap (s : State) : State :=
  match s.flt.hold with
  | .none => s
  | .leaving => { s with flt := { s.flt with hold := .none } }.ev Ev.holdLeft []
  | .entering => s.holdEnterAll
  | _ =>
    if s.flt.s2 == 0 && !s.flt.limpHold then
      let s := s.holdDark
      ({ s with flt := { s.flt with hold := .leaving, leaveTick := some s.ticks, leaveFrom := s.flt.hold } }.holdLeaveAll).forceDriven
    else s.holdEnterAll

/-- The hourly flushes that fall due at lap boundary `b` (R89). -/
def State.flushLap (s : State) (b : Int) : State :=
  let now := ((b / giga) % 3600).toNat
  let s' := { s with tl := { s.tl with hourSec := some now } }
  match s.tl.hourSec with
  | none => s'
  | some prev => (s.litTiles.filter fun t => s.tends t && flushDue t.no prev now).foldl (fun s t => s.flushTile t true) s'

/-- The trims at the first lap boundary after a whole second (R121). -/
def State.trimLap (s : State) (b : Int) : State :=
  let sec := ((b - 1) / giga).toNat
  if sec == s.tl.trimSec then s
  else
    let s := { s with tl := { s.tl with trimSec := sec } }
    (s.litTiles.filter s.tends).foldl (fun s t => match s.tile? t.port t.pos with | some t => s.trimTile t | none => s) s

/-- SEG_SENT, SEG_FORCED and REFRESH_AGE_MAX of the lap that ends. -/
def State.countLap (s : State) : State :=
  let t := s.tl
  { s with tl := { t with segLast := t.segNow, forceLast := t.forceNow, ageLast := t.ageMax, segNow := 0, forceNow := 0, ageMax := 0 } }

/-- Temperatures applied and caps evaluated (R87, R118). -/
def State.tempLap (s : State) : State :=
  (s.tiles.filter fun t => t.admitted && s.tends t).foldl (fun s t =>
    let s := match s.tile? t.port t.pos with | some t => s.applyTemp t | none => s
    match s.tile? t.port t.pos with | some t => s.derate t | none => s) s

/-- Clocks of stopping ports stop (R398). -/
def State.stopLap (s : State) : State :=
  (idxs 16 fun p => (s.port p).stopAt).foldl (fun s p => (s.stopClock p).modPort p fun q => { q with stopAt := false }) s

/-- Whether pairs of a port are sent unconditionally in the lap that begins (R156). -/
def State.uncondLap (s : State) : State :=
  let has := fun (p : Nat) => (s.onPort p).any fun t => t.admitted && t.pairs.any fun l => l.any (·.uncond)
  (List.range 16).foldl (fun s p => s.modPort p fun q => { q with uncond := has p }) s

/-- What the warm-up path shows is changed and recorded (R311). -/
def State.warmShow (s : State) (n : Nat) : State :=
  if s.warm.shown == n then s else { s with warm := { s.warm with shown := n } }.ev Ev.warmupSource [n]

/-- The picture that a warm-up latch takes (R311): the newest source frame complete before it, the slate, or dark. -/
def State.warmChoose (s : State) : State :=
  let w := s.warm
  if w.present then
    if w.fresh && w.done != some s.ticks then
      { s with warm := { w with latched := w.newest, fresh := false, frames := (w.frames + 1) % 2 ^ 32 } }.warmShow 0
    else if w.newest.isSome && w.done != some s.ticks then { s with warm := { w with latched := w.newest } }.warmShow 0
    else s
  else match w.slate with
    | some i => { s with warm := { w with latched := some i } }.warmShow 1
    | none => if w.loading then s else { s with warm := { w with latched := none } }.warmShow 2

/-- A pull for the warm-up source begins at the warm-up lap boundary after a newer committed fence value (R307, R311). -/
def State.warmPull (s : State) : State :=
  let n := s.cfg.warmId
  let f := s.fence n
  match s.surfRec? n with
  | some r =>
    if s.cfg.warmKind == 2 && s.host.attached && (s.surf n).valid && (s.surf n).pull.isNone && f.live && r.fmt ≤ 2 && r.w ≤ 4096 &&
        r.h ≤ 2160 then s.startPull n 0 f.value 0 true
    else s
  | none => s

/-- The latch of the warm-up path (R311). -/
def State.warmLatch (s : State) : State :=
  let s := { s with boot := { s.boot with lit := s.upPorts.all fun p => (s.port p).driveOk } }
  let s := ((s.latePulls 0 true).warmPull).warmChoose
  let b := s.warm.latched.bind fun i => s.warm.bufs.getD i none
  (s.tiles.filter fun t => (s.port t.port).driveOk).foldl (State.warmTile b) s

/-- The actions of a lap boundary other than its changes and its latch. -/
def State.lapActions (s : State) (b k : Int) : State :=
  let s := s.tempLap.countLap
  let s := if s.tl.service then
      let s := ((s.applyMirrors true 0 k).flushLap b).trimLap b
      let s := { s with tl := { s.tl with refreshPtr := s.tl.refreshPtr + s.refreshShare } }
      s.probeLap
    else s.probesAge.recheckAge
  ((s.pacerLap s.guardNow).updGuard.stopLap).uncondLap

/-- The boundary that comes next, with its pulses (R131): less than |PIN_OFFSET| after a change they are not produced. -/
def State.goOn (s : State) (m : Int) (since : Option Int) : State :=
  let p := s.tl.plan
  let t := p.legAt s.cfg.epoch m
  let s := { s with tl := { s.tl with next := m, nextAt := t } }
  let o : Int := s.pinOffset
  let skip : Bool := match since with | some b => decide (o < 0) && decide (t - b + o < 0) | none => false
  if skip then s else s.queuePulses t (m % (p.legs : Int)).toNat

/-- The latch of leg `j` at boundary `m` (R38, R94). -/
def State.legLatch (s : State) (b : Int) (j : Nat) (k : Int) : State :=
  if s.tl.service then (s.applyMirrors false j k).latchView (s.tl.plan.view j) j b
  else if s.tl.warm && s.boot.warmActive && j == 0 then s.warmLatch
  else s

/-- Leg 0 of lap `k` at instant `t`: the cues, the latch, and the actions of the lap boundary. -/
def State.lapLeg (s : State) (t k : Int) (since : Option Int) : State :=
  let s := { s with tl := { s.tl with leg := 0, lap := k } }
  let s := (s.holdLap.cuesAt t k).legLatch t 0 k
  (s.lapActions t k).goOn (k * s.tl.plan.legs + 1) since

/-- The leg sequence number at a boundary (R37): it counts from the entry into full service. -/
def State.raiseSeq (s : State) : State :=
  if s.sc.shown then { s with tl := { s.tl with legSeq := (s.tl.legSeq + 1) % 2 ^ 32 } } else s

/-- The timeline after a re-step (R236, R242): it goes on from the first leg boundary at or after the stepped instant, which may be that
instant itself. -/
def State.legsAfter (s : State) (base : Int) : State :=
  let p := s.tl.plan
  let m := p.legFrom s.cfg.epoch base
  if p.legAt s.cfg.epoch m == base then
    let l : Int := p.legs
    let s := { s with tl := { s.tl with leg := (m % l).toNat, lap := m / l } }
    (s.legLatch base (m % l).toNat (m / l)).goOn (m + 1) (some base)
  else s.goOn m (some base)

/-- A lap boundary (R33, R36, R127): a dark lap ends or begins, a change takes effect, and the lap begins, or a gap until the first lap
boundary of the changed timeline. -/
def State.lapBoundary (s : State) (b k : Int) : State :=
  let s := if s.tl.darkLap then { s with tl := { s.tl with dark := false, darkLap := false } } else s
  let s := { s with tl := { s.tl with gap := false, darkLap := s.tl.dark } }
  let s := s.cuesAt b k
  match s.lapChange b with
  | (s, none) => s.lapLeg b k none
  | (s, some (base, step)) =>
    let e := s.cfg.epoch
    let n := s.tl.plan.lapFrom e base
    if s.tl.plan.lapAt e n == base then
      ({ s with tl := { s.tl with darkLap := s.tl.dark } }).lapLeg base n (some base)
    else
      let s := { s with tl := { s.tl with gap := true, darkLap := false, leg := 0, lap := k } }.monDrop
      let s := s.holdLap.lapActions base k
      if step then s.legsAfter base else s.goOn (n * s.tl.plan.legs) (some base)

/-- The boundary that the counter has reached. -/
def State.boundary (s : State) : State :=
  let b := s.tl.nextAt
  let m := s.tl.next
  let l : Int := s.tl.plan.legs
  let j := (m % l).toNat
  let s := { s with tl := { s.tl with began := true } }.raiseSeq.holdEntry
  if j == 0 then s.lapBoundary b (m / l)
  else
    let s := { s with tl := { s.tl with leg := j, lap := m / l } }
    (s.legLatch b j (m / l)).goOn (m + 1) none

/-- LEG_BOUNDARY (R242): the counter reaches the next boundary of the plan in force. -/
def execLegBoundary (s : State) : Host.Outcome State Fault Refusal :=
  if !s.tl.on || s.wall < s.tl.nextAt then .next s else .next s.boundary

/-- A pulse of a pin begun (R131): it lasts WIDTH units of 100 ns, 62.5 ticks each. -/
def State.beginPulse (s : State) (p : Pulse) : State :=
  let w := wfld (s.rws Reg.pinCtrl) (if p.leg then 23 else 15) (if p.leg then 16 else 8)
  let until_ := some (s.ticks + (125 * w + 1) / 2)
  let t := { s.tl with pulses := s.tl.pulses.erase p }
  if !(s.pinOn p.leg p.idx) then { s with tl := t }
  else ({ s with tl := if p.leg then { t with legPin := until_ } else { t with lapPin := until_ } }).drivePin p.leg true

/-- PIN_PULSE_START (R131): a pulse of LAP_OUT or LEG_OUT begins at its boundary plus PIN_OFFSET. -/
def execPinPulseStart (leg : Bool) (s : State) : Host.Outcome State Fault Refusal :=
  match s.tl.pulses.find? fun p => p.leg == leg && p.at_ ≤ s.wall with
  | some p => .next (s.beginPulse p)
  | none => .next s

/-- PIN_PULSE_END (R131). -/
def execPinPulseEnd (leg : Bool) (s : State) : Host.Outcome State Fault Refusal :=
  match (if leg then s.tl.legPin else s.tl.lapPin) with
  | some t =>
    if s.ticks < t then .next s
    else .next (({ s with tl := if leg then { s.tl with legPin := none } else { s.tl with lapPin := none } }).drivePin leg false)
  | none => .next s

/-- The change that a port's LAP frames announce: its boundary, the plan it puts in force, whether it is dark, and whether it is a re-step. -/
def State.announced (s : State) (port : Nat) : Option (Int × LapPlan × Bool × Bool) :=
  match s.tl.stepB, s.tl.fullB, s.tl.limpB, s.tl.pend with
  | some b, _, _, _ => if s.tl.stepGo == some false then none else some (b, s.tl.plan, true, true)
  | none, some b, _, _ => some (b, s.planOf s.cfg.initPlan, true, false)
  | none, none, some b, _ => if s.tl.limpQuiet.contains port then none else some (b, s.cfg.warm, true, false)
  | none, none, none, some c =>
    let p := s.planOf c.plan
    if s.tl.fixed then some (s.tl.pendB, p, s.tl.plan.needsDark p, false) else none
  | none, none, none, none => none

/-- The body of a LAP frame (Table 6.3). MARK and T_CYC are filled in as the frame starts to leave. -/
def lapBody (p : LapPlan) (e : Nat) (lap ofsLap : Int) (mask next : Nat) (changeIn : Nat) (changeDark : Bool) (step time : Nat)
    (delays : List Nat) : List Byte :=
  let b := p.lapAt e ofsLap
  leBytes 4 (lap % 2 ^ 32).toNat ++ List.replicate 8 0 ++
  [byte (p.legs - 1), byte (p.strides - 1), byte (at_ p.lineOrder 6 + (p.lines - 1)), byte mask,
   byte (at_ (b2n changeDark) 5 + at_ next 2 + changeIn), byte step] ++ leBytes 2 time ++
  ((List.range 8).flatMap fun j => leBytes 4 (if j < p.legs then (p.legAt e (ofsLap * p.legs + j) - b).toNat else 0)) ++
  ((List.range 8).flatMap fun j => leBytes 4 (p.winOff.getD j 0) ++ leBytes 4 (p.winLen.getD j 0)) ++
  ((List.range 32).flatMap fun q => leBytes 2 (delays.getD q 0))

/-- The chain delays a port's LAP frames carry (R173). -/
def State.delays (s : State) (p : Nat) : List Nat :=
  (List.range 32).map fun q => match s.tile? p q with | some t => if t.admitted then t.delay else 0 | none => 0

/-- A lap boundary whose LAP frame may be sent: its instant, the plan and the lap its frame describes, and its lap number. -/
structure LapAhead where
  at_  : Int
  plan : LapPlan
  lap  : Int
  ofs  : Int
  mask : Nat
  deriving DecidableEq, Repr

/-- The next lap boundary of the plan in force, and beyond it the first one after a change that falls there (R127), for a port. -/
def State.lapsAhead (s : State) (port : Nat) : List LapAhead :=
  let e := s.cfg.epoch
  let p := s.tl.plan
  let k := -((-s.tl.next) / (p.legs : Int))
  let b := p.lapAt e k
  match s.announced port with
  | some (bb, q, dark, step) =>
    if bb == b then
      let n := q.lapFrom e b
      let merged := q.lapAt e n == b
      let first : LapAhead := ⟨b, q, if merged && !step then n else k, if step then k else n, if dark then 0xFF else 0⟩
      if step then [first]
      else if merged then [first, ⟨q.lapAt e (n + 1), q, n + 1, n + 1, 0⟩]
      else [first, ⟨q.lapAt e n, q, n, n, if dark then 0xFF else 0⟩]
    else [⟨b, p, k, k, if s.tl.gap && s.tl.dark then 0xFF else 0⟩]
  | none => [⟨b, p, k, k, if s.tl.gap && s.tl.dark then 0xFF else 0⟩]

/-- The LAP frame of a boundary for a port (R173). -/
def State.lapFrame (s : State) (p : Nat) (l : LapAhead) : TxFrame :=
  let e := s.cfg.epoch
  let ann : Nat × Nat × Bool := match s.announced p with
    | some (bb, q, dark, _) =>
      let n := (s.tl.plan.lapFrom e bb - l.lap).toNat
      if l.at_ < bb && (n == 1 || n == 2) then (n, q.num, dark) else (0, 0, false)
    | none => (0, 0, false)
  let body := lapBody l.plan e l.lap l.ofs l.mask ann.2.1 ann.1 ann.2.2 s.cfg.holdStep s.cfg.holdTime (s.delays p)
  { allFrame .lap l.plan.num body with due := l.at_ }

/-- LAP_FRAME_SEND (R173, R486): a port's LAP frame for the next boundary it has sent none for, between 2000 µs and 100 µs before it. -/
def execLapFrameSend (port : Fin 16) (s : State) : Host.Outcome State Fault Refusal :=
  let q := s.port port
  if !s.tl.on || !q.up || !(s.drives port) || s.silent port then .next s else
  match (s.lapsAhead port).find? fun l => (match q.lapNext with | some b => decide (b < l.at_) | none => true) with
  | none => .next s
  | some l =>
    if l.at_ - 2000000 ≤ s.wall && s.wall ≤ l.at_ - 100000 then
      .next ((s.queueFrame port (s.lapFrame port l)).modPort port fun q => { q with lapNext := some l.at_ })
    else .next s

/-- Blocks of a frame with a body of `len` bytes (R170). -/
def frameBlocks (len : Nat) : Nat := 2 + (len + 5) / 8

/-- The send deadline of a frame of `segs` segments from `seg` on in units of 1/32 ns (R130): the compensated boundary of its leg that
comes next, less the chain delay, the frame's own time, and 2 µs. -/
def State.frameDeadline (s : State) (t : Tile) (j seg segs : Nat) : Int :=
  let p := s.tl.plan
  let m := s.tl.next + ((j : Int) - s.tl.next) % (p.legs : Int)
  let n := min (256 * segs) (t.lampsN - 256 * seg)
  let lanes := max 1 (s.laneCount t.port)
  32 * p.legAt s.cfg.epoch m - (10 * t.delay + ceilDiv (165 * frameBlocks (4 + 3 * n)) lanes + 64000 : Nat)

/-- A pair's send deadline: that of a frame that carries it alone (R130). -/
def State.deadline (s : State) (t : Tile) (j seg : Nat) : Int := s.frameDeadline t j seg 1

/-- Whether a pair waits to be sent, or for the computation of a latch. -/
def State.unsent (s : State) (t : Tile) (j seg : Nat) : Bool :=
  ((t.pairs.getD j []).getD seg .new).ready ||
  s.sc.views.any fun v => match v.latch with
    | some l => !l.done && l.leg == j && (l.due.any fun d => d.port == t.port && d.pos == t.pos && d.seg == seg) &&
        !(l.formed.any fun d => d.port == t.port && d.pos == t.pos && d.seg == seg)
    | none => false

/-- A pair whose deadline has passed is not sent for the leg and stays dirty (R130). -/
def State.missPair (s : State) (t : Tile) (j seg : Nat) : State :=
  let rec_ := s.flt.hold == .none && (s.port t.port).up && (s.port t.port).driveOk && t.holder == some s.cfg.devNum
  let s := s.modTile t.port t.pos fun t =>
    { t with pairs := modAt t.pairs j fun l => modAt l seg fun p => { p with dirty := true, ready := false } }
  let vs := s.sc.views.map fun v => { v with latch := v.latch.map fun l =>
    if !l.done && l.leg == j then { l with due := l.due.filter fun d => !(d.port == t.port && d.pos == t.pos && d.seg == seg) } else l }
  let s := { s with sc := { s.sc with views := vs } }
  if rec_ then (s.ev Ev.sendUnderrun [t.port, t.pos, s.tl.legSeq]).surge 2 else s

/-- SEND_DEADLINE (R130): the send deadline of a pair passes. -/
def execSendDeadline (port : Fin 16) (pos : Fin 32) (leg : Fin 8) (seg : Nat) (s : State) : Host.Outcome State Fault Refusal :=
  match s.tile? port pos with
  | none => .next s
  | some t =>
    if !s.tl.on || s.tl.plan.legs ≤ leg.val || !(s.unsent t leg seg) || 32 * s.wall < s.deadline t leg seg then .next s
    else .next (s.missPair t leg seg)

/-- LEG_STATUS and the probe registers. PROBE_LEG shows the probe leg of the first tile in census order whose type has one, where types of
different DET_FLOOR have different probe legs (DESIGN CHOICE, log 54). -/
def State.readLegs (s : State) (off : Nat) : Option Word :=
  let t := s.tl
  if off == Reg.legStatus then some (Word.of (at_ (b2n t.dark) 11 + at_ (t.plan.view t.leg) 8 + t.leg))
  else if off == Reg.probeStatus then
    let js := (s.litTiles.filterMap s.typeOf).filterMap fun ty => if ty.detFloor == 0 then none else probeLeg t.plan ty.detFloor
    some (Word.of (at_ (js.headD 0) 16 + b2n t.noRoom))
  else if off == Reg.probeDue then some (Word.of t.probeDue)
  else none

end Sys2Proof.Machine
end

