-- ==== Sys2Proof/Machine/Lamps.lean ====
section
/-! DEFINITION. What software and timers do to single lamps and tiles (03_lamp_correction.md, 04_drive_synthesis.md): rechecks, the watched
lamp, the probe table's seconds, stale temperatures (R87, R92, R102, R122, R126), and chain delays (R183, R412). -/

namespace Sys2Proof.Machine

/-- Whether a recheck of a lamp may be accepted (R92). -/
def State.mayRecheck (s : State) (i : Nat) : Bool :=
  match s.lampAt i with
  | none => false
  | some (t, k) =>
    let st := (t.lamps.map (·.state)).getD k 0
    let det := match s.typeOf t with | some ty => ty.detFloor != 0 | none => false
    (st == 1 || st == 2) && s.tl.recheckRes != 1 && det && !s.tl.noRoom

/-- A write to LAMP_RECHECK (R92). -/
def State.writeRecheck (s : State) (value : Word) : State :=
  let i := wfld value 24 0
  if !(wbit value 31) then s
  else if s.mayRecheck i then { s with tl := { s.tl with recheck := some (i, 0), recheckRes := 1, recheckIdx := i } }
  else s.bump Reg.recheckRefused

/-- LAMP_RECHECK (R92): GO. -/
def execLampRecheck (value : Word) (s : State) : Host.Outcome State Fault Refusal := .next (s.writeRecheck (wput value 31 31 1))

/-- A write to LAMP_WATCH (R102): VALID clears. -/
def State.writeWatch (s : State) (value : Word) : State :=
  { s.setRw Reg.lampWatch (Word.of (value.toNat % 2 ^ 28)) with tl := { s.tl with watchOk := false } }

/-- LAMP_WATCH_WRITE (R102). -/
def execLampWatchWrite (value : Word) (s : State) : Host.Outcome State Fault Refusal := .next (s.writeWatch value)

/-- A lamp's seconds since it was last checked (R122). -/
def Lamp.second (l : Lamp) : Lamp := { l with unchecked := if l.check.any id then 0 else min 63 (l.unchecked + 1) }

/-- PROBE_COUNT_SECOND (R122, R126): once per second every lamp's count returns to 0 or rises, and PROBE_DUE is taken. -/
def execProbeCountSecond (s : State) : Host.Outcome State Fault Refusal :=
  if !s.tl.service || !(s.past s.tl.probeTick secT) then .next s
  else
    let ts := s.tiles.map fun t => { t with lamps := t.lamps.map Lamp.second }
    let s := { s with tiles := ts }
    .next { s with tl := { s.tl with probeTick := s.ticks, probeDue := s.dueCount } }

/-- TILE_TEMP_STALE (R87): 1 s without a valid STATUS frame that carries a valid TEMP. -/
def execTileTempStale (port : Fin 16) (pos : Fin 32) (s : State) : Host.Outcome State Fault Refusal :=
  match s.tile? port pos with
  | none => .next s
  | some t =>
    if !t.admitted || t.stale || !(s.tends t) || !(s.past t.tempTick secT) then .next s
    else .next ((s.modTile port pos fun t => { t with stale := true }).ev Ev.tileTempStale [t.num])

/-- A DELAYS message of a paired port (R412): delta_0 to delta_N, the last one that of the hop to the partner's port. -/
def State.relayDelays (s : State) (p : Nat) : State :=
  let ts := s.byPos p
  if !s.mirrors || !((s.rport p).paired) || !(ts.all (·.rtOk)) then s else
  let last := (s.rport p).deltas.getD 0 0
  let ds := (ts.map fun t => t.delta.toNat) ++ [last]
  s.relaySend 0xC8 ([byte p, byte ts.length, 0, 0] ++ padTo 68 (ds.flatMap (leBytes 2)))

/-- DELAY_RECOMPUTE (R183, R412): the chain delays are computed from the latest measurements. -/
def execDelayRecompute (s : State) : Host.Outcome State Fault Refusal :=
  let s := (List.range 16).foldl (fun s p => if s.drives p then s.setDelays p else s) s
  .next ((List.range 16).foldl State.relayDelays s)

/-- Lamps in a state over the tiles that hold lamp indices. -/
def State.lampsIn (s : State) (st : Nat) : Nat :=
  (s.litTiles.map fun t => (t.lamps.filter (·.state == st)).length).foldl (· + ·) 0

/-- The tile of a tile number, if it is admitted. -/
def State.tileNo? (s : State) (n : Nat) : Option Tile :=
  match s.tile? (n / 32) (n % 32) with
  | some t => if t.admitted then some t else none
  | none => none

/-- The correction block's registers, and the drive block's registers of tiles. -/
def State.readLamps (s : State) (off : Nat) : Option Word :=
  let t := s.tl
  let i16 := fun (x : Int) => twos 16 x
  if off == Reg.lampTableBase then some (Word.of s.mem.lampBase)
  else if off == Reg.lampCount then some (Word.of s.mem.lampN)
  else if off == Reg.lampRecheck then some 0
  else if off == Reg.recheckStatus then some (Word.of (at_ t.recheckRes 30 + t.recheckIdx))
  else if off == Reg.openCount then some (Word.of (s.lampsIn 1))
  else if off == Reg.shortedCount then some (Word.of (s.lampsIn 2))
  else if off == Reg.retiredCount then some (Word.of (s.lampsIn 3))
  else if off == Reg.offCount then some (Word.of (s.lampsIn 4))
  else if off == Reg.censusEntryErrors then some (Word.of (at_ (satN 65535 s.mem.badEntries.2) 16 + satN 65535 s.mem.badEntries.1))
  else if off == Reg.segSent then some (Word.of t.segLast)
  else if off == Reg.segForced then some (Word.of t.forceLast)
  else if off == Reg.refreshAgeMax then some (Word.of (satN 4095 t.ageLast))
  else if off == Reg.lampWatchTarget then some (Word.of (at_ (b2n t.watchOk) 31 + t.watchTarget))
  else if off == Reg.lampWatchSeq then some (Word.of t.watchSeq)
  else if 0x1401000 ≤ off && off < 0x1401800 then
    some (match s.tileNo? ((off - 0x1401000) / 4) with
      | some x => Word.of (at_ (i16 x.tempM) 16 + i16 x.tempA)
      | none => 0)
  else if 0x1801000 ≤ off && off < 0x1803000 then
    let x := s.tileNo? ((off - 0x1801000) / 0x10)
    let tr := fun (t : Tile) (k : Nat) => twos 12 (t.trim.getD k 0)
    match off % 0x10, x with
    | 0, some x => some (Word.of (at_ (b2n (x.cc != 0)) 8 + x.cc))
    | 4, some x => some (Word.of (at_ (tr x 1) 16 + tr x 0))
    | 8, some x => some (Word.of (tr x 2))
    | 0, none => some 0
    | 4, none => some 0
    | 8, none => some 0
    | _, _ => none
  else none

end Sys2Proof.Machine
end

