-- ==== Sys2Proof/Machine/Chain.lean ====
section
/-! DEFINITION. The chain ports (05_chain_lanes.md): port start, markers, electrical idle, beacons, the frame that leaves next, and lane
calibration (R130, R137, R145 to R159, R172, R173, R178, R182, R296, R301, R448). -/

namespace Sys2Proof.Machine

/-- Whether a port may run: enabled, its unit running or starting, past SB2, and nothing stops it (R137, R150). -/
def State.portMayRun (s : State) (p : Nat) : Bool :=
  s.boot.running && 3 ≤ s.boot.stage && s.boot.stage != 6 && s.portOn p && s.flt.shutTick.isNone &&
    ((s.flt.unit (3 + p)).st == .running || (s.flt.unit (3 + p)).st == .starting)

/-- PORT_ENABLE (R150): the forwarded clock of an enabled port starts. -/
def execPortEnable (port : Fin 16) (s : State) : Host.Outcome State Fault Refusal :=
  if s.portMayRun port && !((s.port port).clock) then .next (s.startPort port) else .next s

/-- PORT_BLOCKS_START (R150): IDLE blocks and markers on all four lanes, 10 µs after the clock. -/
def execPortBlocksStart (port : Fin 16) (s : State) : Host.Outcome State Fault Refusal :=
  let q := s.port port
  if q.clock && !q.blocks && s.past q.clkTick (10 * usT) then
    .next (s.modPort port fun q => { q with blocks := true, lanes := 15, blk0 := s.tb.run, markBlk := 0, busy := 0, beatTick := s.ticks })
  else .next s

/-- PORT_START_TIMEOUT (R150): the port is not up 10 ms after its start. -/
def execPortStartTimeout (port : Fin 16) (s : State) : Host.Outcome State Fault Refusal :=
  let q := s.port port
  if q.clock && !q.up && !q.failed && s.past q.clkTick (10 * msT) then
    let s := s.modPort port fun q => { q with failed := true, downSeen := true }
    .next (if q.downSeen then s else s.ev Ev.portDown [port])
  else .next s

/-- PORT_RESTART_TIMER (R150): the next start, 100 ms after the one that failed. -/
def execPortRestartTimer (port : Fin 16) (s : State) : Host.Outcome State Fault Refusal :=
  let q := s.port port
  if q.clock && !q.up && q.failed && s.portMayRun port && s.past q.clkTick (100 * msT) then .next (s.startPort port) else .next s

/-- A port loses its upstream lane (R149, R150, R158): its lock is gone, and a port that was up starts again, unless it is being stopped
(R398). -/
def State.loseUp (s : State) (p : Nat) : State :=
  let was := (s.port p).up
  let s := s.modPort p fun q => { q with lock := false, lockSt := .hunt, aligned := false, echo := false, up := false, missed := 0 }
  let s := s.abortCal p
  if was && s.portMayRun p then s.startPort p else s

/-- The upstream lane's block-lock machine after some blocks with one header (R145). -/
def State.feedLock (s : State) (p n : Nat) (h : Bool × Bool) : State :=
  s.modPort p fun q => let l := q.lockSt.run (List.replicate n h); { q with lockSt := l, lock := l.isLocked }

/-- UPSTREAM_BLOCK_LOCK (R145): 64 consecutive valid headers at the lane's state machine. -/
def execUpstreamBlockLock (port : Fin 16) (s : State) : Host.Outcome State Fault Refusal :=
  if (s.port port).clock && !((s.port port).lock) then .next (s.feedLock port 64 (false, true)) else .next s

/-- UPSTREAM_LOCK_LOSS (R145, R146): 16 invalid headers within one window. -/
def execUpstreamLockLoss (port : Fin 16) (s : State) : Host.Outcome State Fault Refusal :=
  if !((s.port port).lock) then .next s
  else .next ((((s.feedLock port 16 (false, false)).bump (Reg.upLockLoss port)).ev Ev.laneLockLost [port, 0, 4]).loseUp port)

/-- ALIGN_MISSED (R149): the third miss in a row ends alignment. -/
def execAlignMissed (port : Fin 16) (s : State) : Host.Outcome State Fault Refusal :=
  let q := s.port port
  if !q.lock || !q.aligned then .next s
  else if q.missed + 1 < 3 then .next (s.modPort port fun q => { q with missed := q.missed + 1 })
  else .next (s.loseUp port)

/-- Whether a port follows the markers it receives (R410): the unit stands by on it. -/
def State.follows (s : State) (p : Nat) : Bool := s.standsBy p

/-- ALIGN_SEND (R147, R152): a marker on every port whose block clock has reached a multiple of 16,384; none in electrical idle, and
none from the own block clock of a port that follows its partner (R410). A marker not sent in electrical idle leaves the count as it is
(DESIGN CHOICE, log 124: R152 does not say whether it counts). -/
def State.alignPort (s : State) (p : Nat) : State :=
  let q := s.port p
  if !q.blocks || s.blockNow p < q.markBlk then s
  else
    let at_ : Int := s.wall * 2 ^ 32 + s.tb.frac - (s.tb.run - (q.blk0 + q.markBlk * blockFrac) : Nat)
    let s := s.modPort p fun q => { q with markBlk := q.markBlk + 16384 }
    if q.idle || s.follows p then s
    else (s.sendMark p q.mark false at_).modPort p fun q => { q with mark := (q.mark + 1) % 65536 }

def execAlignSend (s : State) : Host.Outcome State Fault Refusal := .next ((List.range 16).foldl State.alignPort s)

/-- A measurement of a hop taken in (R183): one that differs by more than 8 cycles waits for the next one to confirm it. The answer is
the value in use and the candidate. -/
def takeRt (old : Option Nat) (cand : Option Nat) (new : Nat) : Option Nat × Option Nat :=
  let near := fun (a : Nat) => (if a ≤ new then new - a else a - new) ≤ 8
  match old with
  | none => (some new, none)
  | some o =>
    if near o then (some new, none)
    else match cand with
      | some c => if near c then (some new, none) else (some o, some new)
      | none => (some o, some new)

/-- RT_0 of a port (R182), which is also the RT of the tile at position 0. -/
def State.takeRt0 (s : State) (p rt : Nat) : State :=
  let q := s.port p
  let (v, c) := takeRt q.rt0 q.rtCand rt
  let s := s.modPort p fun q => { q with rt0 := v, rtCand := c }
  match v with
  | some v => s.modTile p 0 fun t => { t with rt := v, rtOk := true }
  | none => s

/-- A port comes up (R150, R186, R399): its unit runs, its tiles' pairs are all sent, and its census begins. On a split port there is
none (R424). -/
def State.portUp (s : State) (p : Nat) : State :=
  let s := s.modPort p fun q => { q with up := true, echo := true, failed := false, downSeen := false }
  let s := s.unitRuns (3 + p)
  let ts := s.tiles.map fun t : Tile => if t.port == p then t.forceAll else t
  let s := { s with tiles := ts }
  let s := if (s.rport p).split && s.drives p then
      s.modPort p fun q => { q with driveOk := true, calTick := s.ticks + s.calPeriod p } else s
  s.startWaiting p

/-- UP_ALIGN_RX (R148 to R150, R181, R182): a marker on the upstream lane, its count, its ECHO bit, whether BIP-8 mismatched, and the
cycles since the departure of the port's own marker of that count. A port that follows repeats it with ECHO set (R410). -/
def execUpAlignRx (port : Fin 16) (count : BitVec 16) (echo bip : Bool) (rt : Nat) (s : State) : Host.Outcome State Fault Refusal :=
  let q := s.port port
  if !q.lock then .next s
  else
    let s := if bip then s.bump (Reg.upBipErrors port) else s
    let rx := if q.aligned then q.rx else q.rx.map fun r => { r with fresh := true }
    let s := s.modPort port fun q => { q with aligned := true, missed := 0, rx := rx }
    let follow := s.follows port
    let s := if follow && q.blocks then
        (s.sendMark port count.toNat true (s.wall * 2 ^ 32 + s.tb.frac)).modPort port fun q => { q with mark := (count.toNat + 1) % 65536 }
      else s
    let ok := echo && (follow || q.marks.any fun m => m.1 == count.toNat)
    let s := if ok && !follow then s.takeRt0 port rt else s
    if q.up then .next (if ok then s else s.loseUp port)
    else if ok && q.blocks then .next (s.portUp port)
    else .next s

/-- The tick at which a port's next BEACON is due (R178). -/
def Port.beatDue (q : Port) : Nat := q.beatTick + 100 * usT

/-- Pairs of a tile that wait to be sent, by leg and segment. -/
def Tile.readyPairs (t : Tile) : List (Nat × Nat) :=
  t.pairs.zipIdx.flatMap fun l => (l.1.zipIdx.filter fun p => p.1.ready).map fun p => (l.2, p.2)

/-- Whether DRIVE, SCAN and PROBE frames may be sent (R397). -/
def State.mayDrive (s : State) : Bool := s.flt.hold == .none || s.flt.hold == .leaving

/-- The tiles of a port to which the unit sends pairs (R424, R486). -/
def State.drivenTiles (s : State) (p : Nat) : List Tile :=
  if (s.port p).up && (s.port p).driveOk && s.drives p && s.mayDrive then
    (s.onPort p).filter fun t => t.admitted && t.holder == some s.cfg.devNum
  else []

/-- Whether something waits to be sent on a port. -/
def State.hasFrames (s : State) (p : Nat) : Bool :=
  !(s.port p).queue.isEmpty || (s.drivenTiles p).any fun t => !t.readyPairs.isEmpty || t.scanDue.any id

/-- Whether a port's next scheduled frame, a BEACON or a LAP frame, lies at least `us` ahead. -/
def State.idleFor (s : State) (p us : Nat) : Bool :=
  let lap : Bool := match (s.lapsAhead p).find? fun l => (match (s.port p).lapNext with | some b => decide (b < l.at_) | none => true) with
    | some l => s.wall + (1000 * us : Nat) ≤ l.at_ - 2000000 || !(s.drives p)
    | none => true
  s.ticks + us * usT ≤ (s.port p).beatDue && lap

/-- IDLE_MIN in force, µs. -/
def State.idleMin (s : State) (p : Nat) : Nat :=
  let v := wfld (s.rws (Reg.portCfg p)) 25 16
  if 2 ≤ v && v ≤ 1000 then v else 10

/-- IDLE_ENTRY (R151, R153). -/
def execIdleEntry (port : Fin 16) (s : State) : Host.Outcome State Fault Refusal :=
  let q := s.port port
  let ok := wbit (s.rws (Reg.portCfg port)) 8 && q.up && !q.idle && q.exitBlk.isNone && q.cal.isNone && q.busy ≤ s.blockNext port &&
    !(s.hasFrames port) && s.idleFor port (s.idleMin port)
  if ok then .next ((s.send (.chainIdle port true)).modPort port fun q => { q with idle := true }) else .next s

/-- IDLE_EXIT (R152): the burst of 64 TRAIN blocks on every lane begins in time for the next frame. -/
def execIdleExit (port : Fin 16) (s : State) : Host.Outcome State Fault Refusal :=
  let q := s.port port
  if q.idle && (s.hasFrames port || !(s.idleFor port 1)) then
    let s := ((s.send (.chainIdle port false)).bump (Reg.idleExits port)).sendTrain port 15
    .next (s.modPort port fun q => { q with idle := false, exitBlk := some (s.blockNext port + 64) })
  else .next s

/-- BEACON_SEND (R178): every 100 µs ± 5 µs on every enabled port that sends blocks, but for ports that a release keeps silent. -/
def State.beaconPort (s : State) (p : Nat) : State :=
  let q := s.port p
  if q.blocks && s.portOn p && !(s.silent p) && s.past q.beatTick (95 * usT) then s.beacon p else s

def execBeaconSend (s : State) : Host.Outcome State Fault Refusal := .next ((List.range 16).foldl State.beaconPort s)

/-- BATON_CLAIM_REPEAT (R194): the claim goes out again every 100 µs, until every tile of the port names this unit, or the port is
split. -/
def State.claimPort (s : State) (p : Nat) : State :=
  match (s.port p).claim with
  | none => s
  | some t =>
    if !(s.past t (100 * usT)) then s
    else if ((s.onPort p).all fun t => t.holder == some s.cfg.devNum) || (s.rport p).split then s.modPort p fun q => { q with claim := none }
    else (s.queueFrame p (allFrame .baton 0 batonBody)).modPort p fun q => { q with claim := some s.ticks }

def execBatonClaimRepeat (s : State) : Host.Outcome State Fault Refusal := .next ((List.range 16).foldl State.claimPort s)

/-- The order in which frames that are ready leave (R448). -/
def FrameKind.rank : FrameKind → Nat
  | .hold => 0 | .baton => 1 | .lap => 2 | .probe => 3 | .beacon => 4 | .scan => 5 | .drive => 6 | .age => 7 | .census => 8

/-- Whether a downstream lane is out of the stripe for a calibration (R156). -/
def Port.laneOut (q : Port) : Bool :=
  match q.cal with
  | some c => c.lane != 4 && (c.phase == .pattern || c.phase == .restoring)
  | none => false

/-- Whether a kind may begin while a lane is out (R156). -/
def FrameKind.short : FrameKind → Bool
  | .lap => true | .hold => true | .baton => true | .beacon => true | .probe => true
  | .drive => false | .scan => false | .census => false | .age => false

/-- Whether a port may carry a kind now (R156, R397, R407, R410). -/
def State.mayCarry (s : State) (p : Nat) (k : FrameKind) : Bool :=
  let who := if s.drives p then true else match s.rl.role with
    | .unpaired => k == .beacon
    | _ => k == .beacon || k == .census || k == .baton
  who && (k.short || !((s.port p).laneOut)) && (k != .probe || s.mayDrive)

/-- A LAP frame that can no longer start 100 µs before its boundary is not sent (R173). -/
def State.lapStale (s : State) (f : TxFrame) : Bool := f.kind == .lap && decide (f.due - 100000 < s.wall)

/-- The first of some frames in the order of R448. -/
def firstFrame : List TxFrame → Option TxFrame
  | [] => none
  | f :: fs => match firstFrame fs with
    | none => some f
    | some g => if g.kind.rank < f.kind.rank || (g.kind.rank == f.kind.rank && g.tag < f.tag) then some g else some f

/-- A pair that may leave, with its send deadline. -/
structure Waiting where
  tile : Tile
  leg  : Nat
  seg  : Nat
  due  : Int
  deriving DecidableEq, Repr

/-- The pairs of a port that wait, with their deadlines (R130). -/
def State.waiting (s : State) (p : Nat) : List Waiting :=
  (s.drivenTiles p).flatMap fun t => t.readyPairs.map fun x => ⟨t, x.1, x.2, s.deadline t x.1 x.2⟩

/-- The pair with the earliest deadline. -/
def firstPair : List Waiting → Option Waiting
  | [] => none
  | w :: ws => match firstPair ws with
    | none => some w
    | some v => if v.due < w.due then some v else some w

/-- Pairs whose deadline has passed are not sent for their leg (R130). -/
def State.dropLate (s : State) (p : Nat) : State :=
  ((s.waiting p).filter fun w => w.due < 32 * s.wall).foldl (fun s w => s.missPair w.tile w.leg w.seg) s

/-- A sequence number given to a frame (R172). -/
def Port.nextSeq (q : Port) (addr : Nat) : Nat := ((if addr == 63 then q.seqAll else q.seqPos.getD addr 0) + 1) % 65536
def Port.putSeq (addr n : Nat) (q : Port) : Port :=
  if addr == 63 then { q with seqAll := n } else { q with seqPos := setAt q.seqPos addr n }

/-- MARK and T_CYC of a LAP frame filled in as it starts (Table 6.3): the last marker sent, and the forwarded clock's cycles from its
departure to the boundary. -/
def State.fillLap (s : State) (p : Nat) (f : TxFrame) : TxFrame :=
  let m := (s.port p).marks.getLastD (0, 0)
  let d : Int := f.due * 2 ^ 32 - m.2
  let cyc := ((32 * d + 5 * 2 ^ 32) / (10 * 2 ^ 32)).toNat
  { f with body := f.body.take 4 ++ leBytes 2 m.1 ++ [0, 0] ++ leBytes 4 cyc ++ f.body.drop 12 }

/-- The value of RELAY_TAKEOVER_US taken as the first frame leaves for the last tile granted (R422, R429). -/
def State.claimDone (s : State) (p : Nat) (f : TxFrame) : State :=
  match s.rl.claim with
  | some c =>
    match c.last with
    | some (cp, cq) =>
      if cp == p && (f.kind == .lap || (f.kind == .drive && f.addr == cq)) then
        let us := (s.ticks - c.from_) / usT
        ({ s with rl := { s.rl with claim := none, takeUs := us } }).ev Ev.relayTakeover [c.granted, us]
      else s
    | none => s
  | none => s

/-- A frame starts to leave a port (R143, R170, R172, R448), its blocks striped over the lanes in use (R144). -/
def State.launch (s : State) (p : Nat) (f : TxFrame) : State :=
  let q := s.port p
  let f := if f.kind == .lap then s.fillLap p f else f
  let n := q.nextSeq f.addr
  let s := (s.send (.chainFrame p n f)).sendRows p (lineBlocks (f.bytes s.cfg.devNum n))
  let s := s.modPort p fun q => { q.putSeq f.addr n with sending := some f, exitBlk := none }
  let s := s.claimDone p f
  match f.kind with
  | .age => s.modTile p f.addr fun t =>
      { t with ageOut := t.ageOut.map fun a => if a.body == f.body && !a.sent then { a with sent := true, seq := n, tick := s.ticks } else a }
  | .census => s.modCensus p fun c =>
      if f.arg == 2 then { c with tick := s.ticks }
      else if f.arg == 3 then
        { c with reads := c.reads.map fun r =>
            if r.pos == f.addr && r.part == leAt f.body 0 1 && r.off == leAt f.body 4 4 then { r with tick := s.ticks } else r }
      else c
  | _ => s

/-- Segments one DRIVE frame carries from a pair on: up to four consecutive ready ones (R175). -/
def Tile.runLen (t : Tile) (leg seg : Nat) : Nat :=
  ((((t.pairs.getD leg []).drop seg).take 4).takeWhile (·.ready)).length

/-- The DRIVE frame from a pair on (Table 6.4). -/
def driveFrame (t : Tile) (leg seg n : Nat) (due : Int) : TxFrame :=
  let ws := ((t.legWords leg).drop (256 * seg)).take (256 * n)
  { posFrame .drive t.pos leg (leBytes 2 seg ++ [byte n, 0] ++ wordBytes3 ws) with due := due }

/-- One pair as it leaves (R98, R99): its CRC is kept, and its age and its cause are counted. A pair that is due for forced refresh and
whose words have changed as well counts as sent for change, in SEG_SENT (DESIGN CHOICE, log 121). -/
def State.pairSent (t : Tile) (leg : Nat) (s : State) (seg : Nat) : State :=
  let p := (t.pairs.getD leg []).getD seg .new
  let c := wordsCrc (((t.legWords leg).drop (256 * seg)).take 256)
  let forced := p.uncond || p.crc == some c
  let s := if p.uncond then s.modPort t.port fun q => { q with uncond := true } else s
  let age := if p.valid then (s.ticks - p.sent) / msT else 0
  let s := s.pairMargin ((s.deadline t leg seg - 32 * s.wall) / 32)
  let s := s.modTile t.port t.pos fun t =>
    { t with pairs := modAt t.pairs leg fun l => modAt l seg fun p =>
        { p with ready := false, uncond := false, crc := some c, sent := s.ticks, valid := true } }
  { s with tl := { s.tl with segNow := s.tl.segNow + b2n (!forced), forceNow := s.tl.forceNow + b2n forced, ageMax := max s.tl.ageMax age } }

/-- Segments a DRIVE frame carries now: as many consecutive ready ones as still meet their deadline in one frame (R130, R175). -/
def State.carries (s : State) (w : Waiting) : Nat :=
  (List.range (w.tile.runLen w.leg w.seg)).foldl (fun n k =>
    if 32 * s.wall ≤ s.frameDeadline w.tile w.leg w.seg (k + 1) then max n (k + 1) else n) 1

/-- A DRIVE frame starts to leave. -/
def State.launchDrive (s : State) (p : Nat) (w : Waiting) : State :=
  let n := s.carries w
  let s := ((List.range n).map (w.seg + ·)).foldl (State.pairSent w.tile w.leg) s
  s.launch p (driveFrame w.tile w.leg w.seg n w.due)

/-- The SCAN frame of a tile's leg starts to leave (R117, R176). -/
def State.launchScan (s : State) (p : Nat) (t : Tile) (leg : Nat) : State :=
  match s.typeOf t with
  | none => s.modTile p t.pos fun t => { t with scanDue := setAt t.scanDue leg false }
  | some ty =>
    let b := t.scanOf ty s.tl.plan leg
    let s := s.modTile p t.pos fun t =>
      { t with scans := setAt t.scans leg (some b), scanDue := setAt t.scanDue leg false, scanTick := setAt t.scanTick leg s.ticks }
    s.launch p (posFrame .scan t.pos leg b)

/-- SCAN frames that wait: tile and leg. -/
def State.scansDue (s : State) (p : Nat) : List (Tile × Nat) :=
  (s.drivenTiles p).flatMap fun t => ((t.scanDue.zipIdx.filter (·.1)).map fun x => (t, x.2))

/-- Whether a port can begin a frame at this block time. -/
def State.portFree (s : State) (p : Nat) : Bool :=
  let q := s.port p
  q.blocks && q.busy ≤ s.blockNext p && !q.idle && (match q.exitBlk with | some b => decide (b ≤ s.blockNext p) | none => true) && !(s.silent p)

/-- The frame that leaves a free port next (R448). -/
def State.nextFrame (s : State) (p : Nat) : State :=
  let s := s.modPort p fun q => { q with sending := none, queue := q.queue.filter fun f => !(s.lapStale f) }
  let s := s.dropLate p
  let out := (s.port p).laneOut
  let go := fun (s : State) (f : TxFrame) => (s.modPort p fun q => { q with queue := q.queue.erase f }).launch p f
  let best := firstFrame ((s.port p).queue.filter fun f => s.mayCarry p f.kind)
  let pairs := fun (_ : Unit) => match (if out then [] else s.scansDue p) with
    | (t, j) :: _ => some (s.launchScan p t j)
    | [] => match (if out then none else firstPair (s.waiting p)) with
      | some w => some (s.launchDrive p w)
      | none => none
  match best with
  | some f =>
    if f.kind.rank < FrameKind.scan.rank then go s f
    else match pairs () with
      | some t => t
      | none => go s f
  | none => match pairs () with
    | some t => t
    | none => s

/-- CHAIN_FRAME_START (R448): a frame begins on a port that is free. -/
def execChainFrameStart (port : Fin 16) (s : State) : Host.Outcome State Fault Refusal :=
  if s.portFree port then .next (s.nextFrame port) else .next s

/-- The pairs of a DRIVE frame that was cut short stay dirty (Table 11.5); the descriptor of a SCAN frame is due again. -/
def State.unsend (s : State) (p : Nat) (f : TxFrame) : State :=
  match f.kind with
  | .drive =>
    let first := leAt f.body 0 2
    let n := leAt f.body 2 1
    s.modTile p f.addr fun t =>
      { t with pairs := modAt t.pairs f.arg fun l => l.zipIdx.map fun x =>
          if first ≤ x.2 && x.2 < first + n then { x.1 with dirty := true, crc := none } else x.1 }
  | .scan => s.modTile p f.addr fun t => { t with scans := setAt t.scans f.arg none, scanDue := setAt t.scanDue f.arg true }
  | _ => s

/-- CHAIN_TX_DRY (R301, R398): the transmit boundary runs dry inside a frame; 16 times within 1 s stop the port. -/
def execChainTxDry (port : Fin 16) (s : State) : Host.Outcome State Fault Refusal :=
  let q := s.port port
  match q.sending with
  | none => .next s
  | some f =>
    if q.busy ≤ s.blockNow port then .next s
    else
      let s := (s.send (.chainAbort port)).unsend port f
      let dry := (q.dry.filter fun t => !(s.past t secT)) ++ [s.ticks]
      let s := (s.modPort port fun q => { q with sending := none, busy := s.blockNext port, dry := dry }).elasticLoss 0
      if 16 ≤ dry.length then .next ((s.modPort port fun q => { q with dry := [] }).fault Fk.portStuck (fsPort port) [port]) else .next s

/-- The hop and lane whose turn it is (R154), lanes that are out of the stripe passed over. -/
def Port.calTurn (q : Port) : Nat × Nat := (q.calNext / 5, q.calNext % 5)

/-- A round of calibrations ended: at start the port's tiles may be driven (R317), with the warm-up picture last latched (Table 12.5), and the
next round begins a period later. -/
def State.endRound (s : State) (p : Nat) : State :=
  let q := s.port p
  if q.calStart then
    let s := s.modPort p fun q =>
      { q with calStart := false, driveOk := true, calNext := 0, calTick := s.ticks + s.calPeriod p, calPost := false, calWait := none, calHeld := none }
    let b := s.warm.latched.bind fun i => s.warm.bufs.getD i none
    if s.tl.began && s.tl.warm then (s.onPort p).foldl (State.warmTile b) s else s
  else s.modPort p fun q => { q with calNext := 0, calTick := q.calTick + s.calPeriod p, calPost := false }

/-- The turn passes to the next lane. -/
def State.nextTurn (s : State) (p : Nat) : State :=
  let s := s.modPort p fun q => { q with cal := none, calNext := q.calNext + 1, calPost := false, calWait := none, calHeld := none }
  if 5 * s.calHops p ≤ (s.port p).calNext then s.endRound p else s

/-- Whether a port sends pairs unconditionally in this lap (R156). -/
def State.sendsAll (s : State) (p : Nat) : Bool :=
  (s.port p).driveOk && ((s.port p).uncond || (s.onPort p).any fun t => t.admitted && t.pairs.any fun l => l.any (·.uncond))

/-- Whether a pair of the port whose send deadline lies within the next 100 µs is still unsent (R156), one in computation included. -/
def State.dueSoon (s : State) (p : Nat) : Bool :=
  (s.drivenTiles p).any fun t => (List.range s.tl.plan.legs).any fun j => (List.range (segCount t.lampsN)).any fun g =>
    s.unsent t j g && decide (s.deadline t j g ≤ 32 * (s.wall + 100000))

/-- Whether a calibration may start now (R153, R156). -/
def State.calFree (s : State) (p : Nat) : Bool :=
  let q := s.port p
  let c := q.census.phase
  !q.idle && q.exitBlk.isNone && q.claim.isNone && s.rl.release.isNone && s.flt.hold == .none && (c == .done || c == .idle) &&
  !(s.sendsAll p) && !(s.dueSoon p)

/-- A calibration that cannot start: it is tried again at each later leg boundary, and once it has waited for a whole period that is
recorded (R156). -/
def State.calWaits (s : State) (p h k : Nat) : State :=
  let q := s.port p
  let from_ := q.calWait.getD s.ticks
  let s := s.modPort p fun q => { q with calWait := some from_, calHeld := some s.tl.next }
  if !q.calPost && s.past from_ (s.calPeriod p) then
    ((s.modPort p fun q => { q with calPost := true }).bump (Reg.calPostponedCount p)).ev Ev.calPostponed [p, h, k]
  else s

/-- The calibration of a lane announced (R155): LANE_DROP of purpose 1, or UP_CAL. -/
def State.calAnnounce (s : State) (p h k : Nat) : State :=
  (s.sendLocal p (if k == 4 then .upCal h 64 else .laneDrop k 64 h 1)).modPort p fun q =>
    { q with cal := some ⟨h, k, .announced, s.blockNext p, s.ticks, false, false⟩ }

/-- CAL_START (R154 to R156): the lane whose turn it is, once its round is due. A lane that is out of the stripe is passed over. -/
def execCalStart (port : Fin 16) (s : State) : Host.Outcome State Fault Refusal :=
  let q := s.port port
  let n := 5 * s.calHops port
  let (h, k) := q.calTurn
  if !q.up || q.cal.isSome || s.ticks < q.calTick || n == 0 || !(q.calStart || q.driveOk || s.standsBy port) then .next s
  else if n ≤ q.calNext then .next (s.endRound port)
  else if k != 4 && (!(nbit q.lanes k) || q.drops.any (·.1 == k)) then .next (s.nextTurn port)
  else if s.tl.on && q.calHeld == some s.tl.next then .next s
  else if !(s.calFree port) then .next (s.calWaits port h k)
  else .next (s.calAnnounce port h k)

/-- CAL_DROP_CHANGE (R155): the change takes effect 64 blocks after it was announced: on hop 0 the pattern leaves on the lane. A calibration
aborted meanwhile ends at once (R158). -/
def execCalDropChange (port : Fin 16) (s : State) : Host.Outcome State Fault Refusal :=
  match (s.port port).cal with
  | none => .next s
  | some c =>
    if c.phase != .announced || s.blockNow port < c.blk + 64 then .next s
    else
      let s := if c.hop == 0 && c.lane != 4 && !c.aborted then s.send (.chainPattern port c.lane) else s
      let c := { c with phase := .pattern, blk := s.blockNow port, tick := s.ticks }
      let s := s.modPort port fun q => { q with cal := some c, lanes := if c.lane == 4 then q.lanes else clrBit q.lanes c.lane }
      .next (if c.aborted then s.restoreLane port c else s)

/-- A result shown and recorded (R157, Table 5.5): the eye judged against the port's limits; none is INVALID. -/
def State.calResult (s : State) (p h k : Nat) (eye : Option (Nat × Nat)) : State :=
  let cfg := s.rws (Reg.calCfg p)
  match eye with
  | none =>
    ((s.modPort p fun q => q.setCal h k ⟨3, 0, 0, 0⟩).bump (Reg.calInvalidCount p)).ev Ev.calInvalid [p, h, k, 0, 0]
  | some (w, y) =>
    let qual := min (min 100 (100 * w / 24)) y
    if wfld cfg 13 8 ≤ w && wfld cfg 7 0 ≤ y then s.modPort p fun q => q.setCal h k ⟨1, qual, w, y⟩
    else (s.modPort p fun q => q.setCal h k ⟨2, qual, w, y⟩).ev Ev.laneMarginal [p, h, k, w, y]

/-- CAL_PATTERN_END (R155, R157, R168, R169): the pattern of 7,758 block times ends. The HX7's own receiver gives the eye of its upstream
lane and the trim it found; a downstream lane is restored 64 blocks later. -/
def execCalPatternEnd (port : Fin 16) (eye : Option (Nat × Nat)) (ctle : Fin 16) (phase : Fin 64) (s : State) :
    Host.Outcome State Fault Refusal :=
  match (s.port port).cal with
  | none => .next s
  | some c =>
    if c.phase != .pattern || s.blockNow port < c.blk + 7758 then .next s
    else if c.lane == 4 && c.hop == 0 then
      let s := s.calResult port 0 4 eye
      let s := if eye.isSome then s.modPort port fun q => { q with upCtle := ctle, upPhase := phase } else s
      .next (s.restoreLane port { c with got := true })
    else .next (s.restoreLane port c)

/-- CAL_RESTORE_CHANGE (R155): striping over the lane resumes; the calibration ends unless its report is awaited. -/
def execCalRestoreChange (port : Fin 16) (s : State) : Host.Outcome State Fault Refusal :=
  match (s.port port).cal with
  | none => .next s
  | some c =>
    if c.phase != .restoring || s.blockNow port < c.blk + 64 then .next s
    else
      let s := if c.lane == 4 then s
        else s.modPort port fun q =>
          { q with lanes := setBit q.lanes c.lane, bipBad := setBit q.bipBad c.lane, restored := some (c.hop, c.lane) }
      if c.aborted || c.got then .next (s.nextTurn port)
      else .next (s.modPort port fun q => { q with cal := some { c with phase := .waiting, tick := s.ticks } })

/-- CAL_REPORT_TIMEOUT (R157): no report 1 ms after the end. -/
def execCalReportTimeout (port : Fin 16) (s : State) : Host.Outcome State Fault Refusal :=
  match (s.port port).cal with
  | none => .next s
  | some c =>
    if c.phase != .waiting || !(s.past c.tick msT) then .next s
    else .next ((s.modPort port fun q => q.setCal c.hop c.lane ⟨4, 0, 0, 0⟩).nextTurn port)

/-- A CAL record of a tile (R157, R169): STATUS, EYE_W and EYE_H of a hop and lane. -/
def State.calRecord (s : State) (p h k st w y : Nat) : State :=
  match (s.port p).cal with
  | none => s
  | some c =>
    if c.hop != h || c.lane != k || c.aborted || c.got || c.phase == .announced then s
    else
      let s := if st == 4 then s.modPort p fun q => q.setCal h k ⟨4, 0, 0, 0⟩
        else s.calResult p h k (if st == 3 then none else some (w, y))
      if c.phase == .waiting then s.nextTurn p else s.modPort p fun q => { q with cal := some { c with got := true } }

/-- A downstream lane taken out of the stripe until the next port start (R159, R168): 64 block times after its LANE_DROP of purpose 2. -/
def State.degrade (s : State) (p k : Nat) : State :=
  if !(nbit (s.port p).lanes k) || (s.port p).drops.any (·.1 == k) then s
  else
    let s := (s.sendLocal p (.laneDrop k 64 0 2)).modPort p fun q =>
      { q with degraded := true, drops := q.drops ++ [(k, s.blockNext p + 64)] }
    s.evFault Ev.laneDegraded Fk.laneDegraded (fsPort p) [p, k]

/-- PORT_STATUS, UP_TRIM and CAL_RESULT of a port. CAL_ACTIVE reads 0 once the lane is restored, while its report is awaited (DESIGN CHOICE,
log 66). -/
def State.readLanes (s : State) (off : Nat) : Option Word :=
  if off < 0x01C00000 || 0x01D00000 ≤ off then none
  else
    let p := (off - 0x01C00000) / 0x10000
    let o := off % 0x10000
    let q := s.port p
    if o == 0x100 then
      let c := match q.cal with
        | some c => if c.phase == .waiting then 0 else at_ c.hop 11 + at_ c.lane 8 + at_ 1 7
        | none => 0
      some (Word.of (c + at_ (b2n q.degraded) 6 + at_ (b2n q.idle) 5 + at_ (b2n q.up) 4 + s.inUse p))
    else if o == 0x104 then some (Word.of (at_ q.upCtle 8 + q.upPhase))
    else if 0x400 ≤ o && o < 0x800 then
      let k := o % 0x20 / 4
      if 5 ≤ k then none
      else
        let r := q.cals.getD (5 * ((o - 0x400) / 0x20) + k) ⟨0, 0, 0, 0⟩
        some (Word.of (at_ r.status 29 + at_ r.quality 22 + at_ r.eyeW 15 + at_ r.eyeH 3))
    else none

end Sys2Proof.Machine
end

