-- ==== Sys2Proof/Machine/Protocol.lean ====
section
/-! DEFINITION. What tiles send (06_chain_protocol.md): the checks of an upstream frame, STATUS records, census answers and timeouts, and
the acknowledgement of AGE frames (R87, R93, R126, R159, R171, R172, R179 to R183, R186, R189, R190, R194, R422, R423). -/

namespace Sys2Proof.Machine

/-- What the upstream lane lost before a frame, counted (R142, R143, R301). -/
def State.upLoss (s : State) (p : Nat) (l : UpLoss) : State :=
  let s := (s.bumpN (Reg.upBadBlocks p) l.bad).bumpN (Reg.upFrameAborts p) (l.aborts + l.full)
  (List.range l.full).foldl (fun s _ => s.elasticLoss 1) s

/-- A frame of a tile as far as its position. -/
structure UpFrame where
  kind : Nat
  pos  : Nat
  arg  : Nat
  body : List Byte
  deriving DecidableEq, Repr

/-- The envelope of a tile's frame checked (R170, R171): LEN, CRC, KIND of a tile, ORIGIN 1, this device's number, a position. -/
def UpFrame.parse (dev : Nat) (d : List Byte) : Option UpFrame :=
  let len := leAt d 6 2
  let k := leAt d 0 1
  let b4 := leAt d 4 1
  let ok := d.length == 12 + len && leAt d (8 + len) 4 == (crc32 (d.take (8 + len))).toNat && (k == 0x81 || k == 0x87) &&
    nbit b4 7 && nfld (leAt d 1 1) 7 4 == dev && b4 % 64 < 32
  if ok then some ⟨k, b4 % 64, leAt d 5 1, (d.drop 8).take len⟩ else none

/-- What a stream's receiver makes of a sequence number (R172). -/
inductive SeqJudge where
  | accept (gap : Nat)
  | reject
  deriving DecidableEq, Repr

/-- A sequence number judged, with the stream after it (R172). -/
def RxStream.take (r : RxStream) (seq : Nat) : SeqJudge × RxStream :=
  let d := (seq + 65536 - r.last) % 65536
  if 1 ≤ d && d ≤ 1024 then (.accept (d - 1), ⟨seq, false, 0⟩)
  else if r.fresh || 3 ≤ r.rejects then (.accept 0, ⟨seq, false, 0⟩)
  else (.reject, { r with rejects := r.rejects + 1 })

/-- A stream of a port advanced by a frame, with the counters of R172; false when the frame is discarded. -/
def State.takeSeq (s : State) (p stream seq : Nat) : Bool × State :=
  let r := (s.port p).rx.getD stream ⟨0, true, 0⟩
  let (j, r) := r.take seq
  let s := s.modPort p fun q => { q with rx := setAt q.rx stream r }
  match j with
  | .accept g => (true, s.bumpN (Reg.upSeqGaps p) g)
  | .reject => (false, s.bump (Reg.upSeqRejects p))

/-- Whether a port receives: its upstream lane is locked and aligned. -/
def Port.hears (q : Port) : Bool := q.clock && q.lock && q.aligned

/-- Split ports judged (R423): a port on which each unit holds a tile is split; one that no longer is has been mended (R426). -/
def State.judgeSplit (s : State) (p : Nat) : State :=
  let r := s.rport p
  let now := r.paired && s.rl.role == .solo && 0 < s.heldOn p && nbit s.rl.pHold r.partner
  if now && !r.split then
    (s.modRport p fun r => { r with split := true }).evFault Ev.relaySplit Fk.relaySplit (fsPort p) [p, s.heldOn p]
  else if !now && r.split then (s.modRport p fun r => { r with split := false }).ev Ev.relayMended [p]
  else s

/-- Ports on which claims are outstanding, or were when the claim under way began. -/
def State.claimsOpen (s : State) : Bool :=
  (List.range 16).any fun p => (s.rport p).paired && (s.port p).claim.isSome && !((s.onPort p).all fun t => t.holder == some s.cfg.devNum)

/-- A tile's grant (R194, R422): it is driven from now on, with its trims at 0 and every pair to be sent. -/
def State.granted (s : State) (p q : Nat) : State :=
  let first := s.heldOn p == 0
  let dev := s.cfg.devNum
  let s := s.modTile p q fun t =>
    { t with holder := some dev, trim := [0, 0, 0], dark := [false, false, false], limit := [false, false, false] }.forceAll
  let s := if first then s.modPort p fun x => { x with driveOk := true, lapNext := none, bipBad := 15, calTick := s.ticks + s.calPeriod p }
    else s
  let s := s.ev Ev.batonGranted [p, q]
  let s := match s.rl.claim with
    | some c =>
      let last := if s.claimsOpen then none else some (p, q)
      { s with rl := { s.rl with claim := some { c with granted := c.granted + 1, last := last } } }
    | none => s
  s.judgeSplit p

/-- The holder a TILE record names. -/
def State.setHolder (s : State) (t : Tile) (h : Option Nat) : State :=
  if h == some s.cfg.devNum then
    if t.holder == h then s else s.granted t.port t.pos
  else (s.modTile t.port t.pos fun t => { t with holder := h }).judgeSplit t.port

/-- A measured temperature (R87): the first one is also the applied one. -/
def State.takeTemp (s : State) (t : Tile) (v : Int) : State :=
  let first := !t.tempOk
  let s' := s.modTile t.port t.pos fun t =>
    let t := { t with tempM := v, tempOk := true, tempTick := s.ticks, stale := false }
    if first then { t with tempA := v }.dirtyAll else t
  if first || t.tempM != v then s'.relayTile t.port t.pos else s'

/-- A TILE record (Table 6.6). Of a tile that is not admitted its STATE and its holder are taken (R179, R194). -/
def State.tileRecord (s : State) (p q : Nat) (r : List Byte) : State :=
  match s.tile? p q with
  | none => s
  | some t =>
    let st := leAt r 2 1
    let s := if st == t.state then s else (s.modTile p q fun t => { t with state := st }).ev Ev.tileLinkState [p, q, st]
    let h := if nbit (leAt r 3 1) 7 then some (leAt r 3 1 % 16) else none
    if !t.admitted then s.modTile p q fun t => { t with holder := h }
    else
      let s := s.setHolder t h
      if nbit (leAt r 6 1) 0 then s.takeTemp t (sint 16 (leAt r 4 2)) else s

/-- A SENSE record. -/
def State.senseRecord (s : State) (p q : Nat) (r : List Byte) : State :=
  let v := leAt r 2 1
  let xs := [0, 1, 2].map fun k => if nbit v k then some (leAt r (4 + 4 * k) 4) else none
  s.modTile p q fun t => { t with sense := xs, senseTick := s.ticks }

/-- AGE_UNACKED (R190): the frame is given up, and the next one may go. -/
def State.ageLost (s : State) (p q : Nat) (a : AgeOut) : State :=
  let s := s.modTile p q fun t => { t with ageOut := t.ageOut.erase a }
  let s := (s.bump (Reg.ageUnackedCount p)).ev Ev.ageUnacked [p, q, a.first]
  State.ageFill 4 s p q

/-- An AGE frame sent again with RETRY and a new SEQ, at most three times (R190). -/
def State.ageAgain (s : State) (p q : Nat) (a : AgeOut) : State :=
  if 3 ≤ a.tries then s.ageLost p q a
  else
    let s := s.modTile p q fun t =>
      { t with ageOut := t.ageOut.map fun x => if x == a then { x with tries := x.tries + 1, sent := false, tick := s.ticks } else x }
    s.queueFrame p { posFrame .age q 0 a.body with retry := true }

/-- An ACK record (R190). -/
def State.ackRecord (s : State) (p q seq res : Nat) : State :=
  match s.tile? p q with
  | none => s
  | some t =>
    match t.ageOut.find? fun a => a.sent && a.seq == seq with
    | none => s
    | some a =>
      if res == 1 then s.ageAgain p q a
      else if res == 2 then s.ageLost p q a
      else State.ageFill 4 (s.modTile p q fun t => { t with ageOut := t.ageOut.erase a }) p q

/-- AGE_ACK_TIMEOUT (R190): 20 ms without an acknowledgement. -/
def execAgeAckTimeout (port : Fin 16) (pos : Fin 32) (s : State) : Host.Outcome State Fault Refusal :=
  match s.tile? port pos with
  | none => .next s
  | some t =>
    match t.ageOut.find? fun a => a.sent && s.past a.tick (20 * msT) with
    | none => .next s
    | some a => .next (s.ageAgain port pos a)

/-- A lane's loss of block lock at the tile at a position (R159): the third of one lane within 1 s degrades it. -/
def State.laneLost (p q : Nat) (s : State) (k : Nat) : State :=
  let l := ((s.port p).laneLoss.filter fun x => !(s.past x.2.2 secT)) ++ [(q, k, s.ticks)]
  let s := s.modPort p fun x => { x with laneLoss := l }
  if 3 ≤ (l.filter fun x => x.1 == q && x.2.1 == k).length then s.degrade p k else s

/-- A LANES record (R146, R158, R159): block lock of the timing side's lanes that are in the stripe. An active lane that has lost lock or
alignment ends a calibration of the port. -/
def State.lanesRecord (s : State) (p q : Nat) (r : List Byte) : State :=
  match s.tile? p q with
  | none => s
  | some t =>
    let side := fun (b : Nat) => if t.side == 0 then b % 16 else b / 16 % 16
    let lock := side (leAt r 2 1)
    let both := maskOf ((List.range 4).map fun k => nbit lock k && nbit (side (leAt r 3 1)) k)
    let use := s.inUse p
    let gone := idxs 4 fun k => nbit use k && nbit t.lanes k && !(nbit lock k)
    let s := if (List.range 4).any fun k => nbit use k && nbit t.lanes k && !(nbit both k) then s.abortCal p else s
    let s := gone.foldl (State.laneLost p q) s
    let s := match (s.port p).restored with
      | some (h, k) =>
        if h == q then
          let s := s.modPort p fun x => { x with restored := none }
          if nbit lock k then s else s.degrade p k
        else s
      | none => s
    let was := (List.range 4).all fun k => !(nbit use k) || nbit t.lanes k
    let now := (List.range 4).all fun k => !(nbit use k) || nbit both k
    s.modTile p q fun t => let t := { t with lanes := both }; if now && !was then t.forceAll else t

/-- A HOP_RT record (R182, R183, R412): RT of the hop on the tile's non-timing side, which ends at the next tile or, behind the last
one, at the partner's port. -/
def State.hopRecord (s : State) (p q rt : Nat) : State :=
  match s.tile? p (q + 1) with
  | some t =>
    let (v, c) := takeRt (if t.rtOk then some t.rt else none) t.rtCand rt
    match v with
    | some v => s.modTile p (q + 1) fun t => { t with rt := v, rtOk := true, rtCand := c }
    | none => s
  | none =>
    if (s.rport p).paired && s.rl.role != .standby then
      s.modRport p fun r => { r with deltas := [(((rt : Int) - 96 + 1) / 2).toNat] }
    else s

/-- A COUNTS record (R130, R297): late segments. -/
def State.countsRecord (s : State) (p q : Nat) (r : List Byte) : State :=
  let n := leAt r 8 2
  if n == 0 then s
  else (((s.bumpN Reg.lateSegmentCount n).ev Ev.lateSegment [p, q, s.tl.legSeq]).surge 3)

/-- One record of a STATUS frame (Table 6.6). A tile that is not admitted is heard only for its STATE and its lanes (R179). -/
def State.statusRecord (p q : Nat) (s : State) (r : List Byte) : State :=
  let adm : Bool := match s.tile? p q with | some t => t.admitted | none => false
  let scan := leAt r 4 3
  match leAt r 0 1 with
  | 0x01 => s.tileRecord p q r
  | 0x06 => s.lanesRecord p q r
  | 0x02 => if adm then s.senseRecord p q r else s
  | 0x03 => if adm && (leAt r 2 1 == 1 || leAt r 2 1 == 2) then s.lampReport p q scan (leAt r 2 1) else s
  | 0x04 => if adm then s.probeResult p q (leAt r 2 1) (leAt r 3 1) scan else s
  | 0x05 => if adm then s.ackRecord p q (leAt r 2 2) (leAt r 4 1) else s
  | 0x07 => if adm then s.calRecord p (leAt r 2 1) (leAt r 3 1) (leAt r 4 1) (leAt r 5 1) (leAt r 6 2) else s
  | 0x08 => if adm && nbit (leAt r 2 1) 0 then s.hopRecord p q (leAt r 4 4) else s
  | 0x09 => if adm then s.countsRecord p q r else s
  | _ => s

/-- The records of a STATUS body, each by its SIZE; a SIZE that does not fit ends the list. -/
def statusRecords : Nat → List Byte → List (List Byte)
  | 0, _ => []
  | n + 1, b =>
    let k := leAt b 1 1
    if k < 2 || b.length < k then [] else b.take k :: statusRecords n (b.drop k)

/-- STATUS_FRAME_RX (R171, R172, R179). -/
def execStatusFrameRx (port : Fin 16) (loss : UpLoss) (data : List Byte) (s : State) : Host.Outcome State Fault Refusal :=
  if !((s.port port).hears) then .next s else
  let s' := s.upLoss port loss
  match UpFrame.parse s.cfg.devNum data with
  | none => .next (s'.bump (Reg.upCrcErrors port))
  | some f =>
    if f.kind != 0x81 then .next s
    else
      let (ok, s) := s'.takeSeq port f.pos (leAt data 2 2)
      if ok then .next ((statusRecords 256 f.body).foldl (State.statusRecord port f.pos) s) else .next s

/-- An answer to ENUM (R186): the tile's record, and the next ENUM, or the end at NEXT 32. -/
def State.enumAnswer (s : State) (p pos : Nat) (b : List Byte) : State :=
  let c := (s.port p).census
  if c.phase != .enum || pos != c.next || leAt b 0 1 != 0 || leAt b 1 1 != 0 || b.length < 72 then s
  else
    let s := s.modCensus p fun c => { c with next := c.next + 1, recs := c.recs ++ [(b.drop 8).take 64] }
    if c.next + 1 == 32 then s.endEnum p else s.sendEnum p

/-- An answer to READ (R186): its data are kept, and the reads go on. -/
def State.readAnswer (s : State) (p pos : Nat) (b : List Byte) : State :=
  let c := (s.port p).census
  match c.reads.find? fun r => r.pos == pos && r.part == leAt b 0 1 && r.off == leAt b 4 4 with
  | none => s
  | some r =>
    if c.phase != .reading || leAt b 1 1 != 0 || b.length != 8 + r.len then s
    else
      let d := b.drop 8
      let s := s.modTile p pos fun t =>
        if r.part == 1 then { t with part1 := insertBlock r.off d t.part1 } else { t with part2 := insertBlock r.off d t.part2 }
      (s.modCensus p fun c => { c with reads := c.reads.erase r }).nextReads p

/-- CENSUS_DATA_RX (R171, R172, R186). -/
def execCensusDataRx (port : Fin 16) (loss : UpLoss) (data : List Byte) (s : State) : Host.Outcome State Fault Refusal :=
  if !((s.port port).hears) then .next s else
  let s' := s.upLoss port loss
  match UpFrame.parse s.cfg.devNum data with
  | none => .next (s'.bump (Reg.upCrcErrors port))
  | some f =>
    if f.kind != 0x87 then .next s
    else
      let (ok, s) := s'.takeSeq port f.pos (leAt data 2 2)
      if !ok then .next s
      else if f.arg == 2 then .next (s.enumAnswer port f.pos f.body)
      else if f.arg == 3 then .next (s.readAnswer port f.pos f.body)
      else .next s

/-- Whether a CENSUS frame still waits on a port. -/
def Port.censusWaits (q : Port) (f : TxFrame → Bool) : Bool := q.queue.any fun x => x.kind == .census && f x

/-- CENSUS_ENUM_TIMEOUT (R186): no answer within 1 ms ends enumeration. -/
def execCensusEnumTimeout (port : Fin 16) (s : State) : Host.Outcome State Fault Refusal :=
  let q := s.port port
  if q.up && q.census.phase == .enum && s.past q.census.tick msT && !(q.censusWaits fun f => f.arg == 2) then .next (s.endEnum port)
  else .next s

/-- A tile refused for reads left unanswered (cause 6), if it is not refused already. -/
def State.dropTile (s : State) (p pos : Nat) : State :=
  match s.tile? p pos with
  | none => s
  | some t =>
    let s := s.modTile p pos fun t =>
      { t with admitted := false, cause := if t.admitted then 6 else t.cause, part1 := [], part2 := [] }
    let s := s.modCensus p fun c => { c with reads := c.reads.filter (·.pos != pos), todo := c.todo.filter (·.pos != pos) }
    (if t.admitted then s.refused t 6 else s).nextReads p

/-- CENSUS_READ_TIMEOUT (R186): a read not answered within 1 ms is sent again; after 8 tries the tile is refused. -/
def execCensusReadTimeout (port : Fin 16) (s : State) : Host.Outcome State Fault Refusal :=
  let q := s.port port
  let late := q.census.reads.find? fun r => s.past r.tick msT &&
    !(q.censusWaits fun f => f.arg == 3 && f.addr == r.pos && leAt f.body 0 1 == r.part && leAt f.body 4 4 == r.off)
  match late with
  | none => .next s
  | some r =>
    if !q.up || q.census.phase != .reading then .next s
    else if 8 ≤ r.tries then .next (s.dropTile port r.pos)
    else
      let s := s.modCensus port fun c => { c with reads := c.reads.map fun x => if x == r then { x with tries := x.tries + 1, tick := s.ticks } else x }
      .next ((s.bump (Reg.censusRetries port)).sendRead port r true)

/-- CENSUS_STATUS and the TILE registers of a port. -/
def State.readTiles (s : State) (off : Nat) : Option Word :=
  if off < 0x01C00000 || 0x01D00000 ≤ off then none
  else
    let p := (off - 0x01C00000) / 0x10000
    let o := off % 0x10000
    if o == 0x800 then
      let c := (s.port p).census
      some (Word.of (at_ c.state 30 + at_ c.refused 8 + c.found))
    else if 0x1000 ≤ o && o < 0x1400 then
      match s.tile? p ((o - 0x1000) / 0x20), o % 0x20 with
      | some t, 0x00 => some (Word.of t.id)
      | some t, 0x04 => some (Word.of (t.id / 2 ^ 32))
      | some t, 0x08 => some (Word.of (at_ t.typeId 16 + at_ t.cause 8 + at_ (t.state % 8) 5 + at_ (b2n t.calOk) 4 + at_ (b2n t.admitted) 3))
      | some t, 0x0C => some (Word.of (t.lampsN % 2 ^ 19))
      | some t, 0x10 => some (Word.of (if t.lit then t.base else 0))
      | some t, 0x14 => some (Word.of (at_ (min 65535 t.rt) 16 + t.delay % 65536))
      | none, k => if k < 0x18 then some 0 else none
      | some _, _ => none
    else none

end Sys2Proof.Machine
end

