-- ==== Sys2Proof/Machine/Net.lean ====
section
/-! DEFINITION. Ethernet frames received (07_network_ingest.md): the MAC, MACsec, IP and UDP checks, and what each packet is handed to
(R198 to R201, R207, R213, R214, R229, R301, R364). -/

namespace Sys2Proof.Machine

/-- A frame discarded by the MAC or the IP receiver (R199, R200). -/
def State.rxDiscard (s : State) (e : Nat) : State := s.bump (Reg.rxDiscards e)

/-- IPv4 destinations of the PTP slots on a sub-port (R229). -/
def State.ptpGroups (s : State) (i : Nat) : List Nat := if (s.slotsOn i).isEmpty then [] else [0xE0000181, 0xE000006B]

/-- Groups whose multicast addresses a sub-port accepts (R199); every IGMPv3 host hears all systems (R213). -/
def State.hears (s : State) (i : Nat) : List Nat := (s.sub i).groups.map (·.1) ++ s.ptpGroups i ++ [0xE0000001]

/-- Whether a destination MAC address is accepted for an EtherType (R199). -/
def State.macOk (s : State) (i : Nat) (da : List Byte) (etype : Nat) : Bool :=
  da == s.mac (i / 2) || (da == List.replicate 6 0xFF && etype == 0x0806) || (s.hears i).any fun g => da == mcastMac g

/-- The 64-bit packet number that a low half names, given the next one expected (IEEE 802.1AE XPN). -/
def xpnOf (next low : Nat) : Nat :=
  let hi := next / 2 ^ 32
  if 2 ^ 31 ≤ next % 2 ^ 32 && low < 2 ^ 31 then (hi + 1) * 2 ^ 32 + low else hi * 2 ^ 32 + low

/-- A protected frame opened (R201, R364): association number 0, the receive channel, verification and the replay check. The answer is
the inner EtherType and content. -/
def State.macsecOpen (s : State) (e : Nat) (f : List Byte) : Option (List Byte × State) :=
  match (s.sec.mac e).recd with
  | none => none
  | some r =>
    let tci := leAt f 14 1
    let sl := leAt f 15 1 % 64
    let sc := nbit tci 5
    let h := if sc then 28 else 20
    let pn := xpnOf (s.sec.mac e).rxPn (beAt f 16 4)
    let late := nbit (leAt r 1 1) 0 && pn + beAt r 4 4 < (s.sec.mac e).rxPn
    let n := if sl == 0 then f.length - h - 16 else sl
    if beAt f 12 2 != 0x88E5 || nbit tci 7 || tci % 4 != 0 || nfld tci 3 2 != 3 || (sc && slice f 20 8 != slice r 32 8) ||
        f.length < h + 16 + n || late || pn == 0 then none
    else
      match gcmOpen (s.sec.mac e).rxSak (xpnIv (slice r 40 4) (slice r 44 12) pn) (f.take h) (slice f h n) (slice f (h + n) 16) with
      | none => none
      | some p => some (p, s.modMac e fun m => { m with rxPn := max m.rxPn (pn + 1) })

/-- The VLAN rule (R199): untagged frames only with VID 0, that VID's frames only otherwise. -/
def vlanTake (vid : Nat) (p : List Byte) : Option (Nat × List Byte) :=
  let t := beAt p 0 2
  if vid == 0 then (if t == 0x8100 then none else some (t, p.drop 2))
  else if t == 0x8100 && beAt p 2 2 % 4096 == vid then some (beAt p 4 2, p.drop 6)
  else none

/-- A UDP datagram handed to the receivers that name it: PTP, the cue receiver, flows. -/
def State.udpTake (s : State) (i phase src dst port : Nat) (d : List Byte) : State :=
  if (port == 319 || port == 320) && (s.ptpGroups i).contains dst then s.rxPtp i phase d
  else if port != 0 && port == wfld (s.rws Reg.cueDgCfg) 31 16 && (dst == s.ip i || dst == (s.rws Reg.cueDgGroup).toNat) then s.cueDatagram i d
  else
    (List.range 64).foldl (fun s f => match s.flowRec? f with
      | some r => r.paths.foldl (fun s sec =>
          if r.sub sec == i && r.dst sec == dst && r.udp sec == port && (r.src sec == 0 || r.src sec == src) then s.flowPacket f sec d else s) s
      | none => s) s

/-- An IPv4 packet (R200): fragments, bad checksums and ICMP are discarded; IGMP and UDP are taken in. -/
def State.ipTake (s : State) (i phase : Nat) (p : List Byte) : State :=
  let e := i / 2
  let v := leAt p 0 1
  let h := 4 * (v % 16)
  let len := beAt p 2 2
  let frag := beAt p 6 2
  let dst := beAt p 16 4
  let src := beAt p 12 4
  let proto := leAt p 9 1
  if v / 16 != 4 || h < 20 || p.length < h || len < h || p.length < len || fold16 (sum16 (p.take h)) != 65535 || frag % 16384 != 0 then
    s.rxDiscard e
  else if dst != s.ip i && !((s.hears i).contains dst) then s.rxDiscard e
  else
    let b := (p.take len).drop h
    if proto == 2 then s.igmp i b
    else if proto != 17 then s.rxDiscard e
    else
      let n := beAt b 4 2
      let ck := fold16 (sum16 (beBytes 4 src ++ beBytes 4 dst ++ [0, 17] ++ beBytes 2 n ++ b.take n))
      if b.length < 8 || n < 8 || b.length < n || (beAt b 6 2 != 0 && ck != 65535) then s.rxDiscard e
      else s.udpTake i phase src dst (beAt b 2 2) ((b.take n).drop 8)

/-- A frame that has passed the FCS and, on a MACsec port, verification: its content starts at the EtherType. -/
def State.ethTake (s : State) (i phase : Nat) (da p : List Byte) : State :=
  match vlanTake (s.ethVid (i / 2)) p with
  | none => s.rxDiscard (i / 2)
  | some (t, b) =>
    if !(s.macOk i da t) then s.rxDiscard (i / 2)
    else if t == 0x0806 then s.arp i b
    else if t == 0x0800 then s.ipTake i phase b
    else s.rxDiscard (i / 2)

/-- ETH_FRAME_RX (R198 to R201): a frame with its FCS arrives at a sub-port. -/
def execEthFrameRx (sub : Fin 8) (rx : EthRx) (data : List Byte) (s : State) : Host.Outcome State Fault Refusal :=
  let e := sub.val / 2
  if !(s.subOn sub) then .next s else
  let s := (s.bumpN (Reg.fecCorrected e) rx.corrected).bumpN (Reg.fecUncorrected e) rx.lost
  let n := data.length
  if rx.full then .next (s.elasticLoss 2)
  else if rx.errored || n < 64 || 9216 < n || leAt data (n - 4) 4 != (crc32 (data.take (n - 4))).toNat || beAt data 12 2 == 0x8808 then
    .next (s.rxDiscard e)
  else
    let f := data.take (n - 4)
    if s.macsecOn e then
      match s.macsecOpen e f with
      | none => .next (s.bump (Reg.macsecDiscards e))
      | some (p, s) => .next (s.ethTake sub rx.phase (f.take 6) p)
    else .next (s.ethTake sub rx.phase (f.take 6) (f.drop 12))

/-- A DUAL flow's path differential of the last second, µs (R211). -/
def Flow.pdUs (w : Flow) (now : Nat) : Nat :=
  min 65535 (((w.pd.filter fun x => now < x.1 + secT).map (·.2)).foldl max 0 / usT)

/-- The registers of the ingest block. -/
def State.readNet (s : State) (off : Nat) : Option Word :=
  if off < 0x800000 || 0x808000 ≤ off then none
  else if off < 0x800400 then
    let e := (off - 0x800000) / 0x100
    if off % 0x100 == 0x20 then
      let up := fun (k : Nat) => b2n ((s.sub (2 * e + k)).up)
      let hi := fun (k : Nat) => b2n ((s.sub (2 * e + k)).hiSer)
      some (Word.of (at_ (b2n (s.macsecOn e)) 4 + at_ (hi 1) 3 + at_ (hi 0) 2 + at_ (up 1) 1 + up 0))
    else none
  else if 0x804000 ≤ off && off < 0x805000 then
    let f := (off - 0x804000) / 0x40
    let w := s.flow f
    match off % 0x40 with
    | 0x00 =>
      let dual := match s.flowRec? f with | some r => r.dual | none => false
      let free := ((List.range w.bufs.length).filter fun b => !(s.bufHeld f b)).length
      some (Word.of (at_ (b2n w.valid) 31 + at_ (b2n dual) 30 + at_ (b2n w.pri.joined) 29 + at_ (b2n w.sec.joined) 28
        + at_ (b2n w.pri.alive) 27 + at_ (b2n w.sec.alive) 26 + at_ free 8 + w.code))
    | 0x04 => some (Word.of w.count)
    | 0x20 => some (Word.of w.rtpTs)
    | 0x24 => some (Word.of (w.pdUs s.ticks))
    | _ => none
  else none

end Sys2Proof.Machine
end

