-- ==== Sys2Proof/Machine/Host.lean ====
section
/-! DEFINITION. The host port (09_host_port.md): the link, attachment and pulls, with the commands of the family (R246 to R257,
R483). BAR2 stands in Memory.lean, staging in Staging.lean. -/

namespace Sys2Proof.Machine

/-- Whether the trained link lies below the configured minimum (R248). -/
def State.linkSlow (s : State) (speed width : Nat) : Bool :=
  s.cfg.loaded && ((s.cfg.minSpeed != 0 && speed < s.cfg.minSpeed) || (s.cfg.minWidth != 0 && width < s.cfg.minWidth))

/-- PCIE_LINK_TRAINED (R246, R248, R483): the link has trained at a rate and a width of Table 9.1, and host software has configured the
function, which is then in D0. It trains only with the SerDes rails good and PE_PERST_N high. -/
def execPcieLinkTrained (speed : Fin 7) (width : Fin 17) (flit : Bool) (conf : HostConf) (s : State) : Host.Outcome State Fault Refusal :=
  if !s.pwr.serdes || s.host.perst || !(linkOk speed width flit) then .next s else
  let s := if conf.master then s else s.detach
  let s := { s with host := { s.host with link := true, speed := speed, width := width, flit := flit, conf := conf, d3hot := false } }
  .next (if s.linkSlow speed width then s.ev Ev.hostLinkSlow [speed, width] else s)

/-- PCIE_LINK_DOWN (R247). -/
def execPcieLinkDown (s : State) : Host.Outcome State Fault Refusal := .next s.linkDown

/-- FUNCTION_LEVEL_RESET (R247): the attached state is left, and the configuration space is reset, Bus Master Enable with it. Fences and
everything else stay. -/
def execFunctionLevelReset (s : State) : Host.Outcome State Fault Refusal :=
  let t := s.detach
  .next { t with host := t.host.confClear }

/-- HOT_RESET (R247): the link goes down until it trains again. -/
def execHotReset (s : State) : Host.Outcome State Fault Refusal := .next s.linkDown

/-- D3HOT_ENTRY (R247): with No_Soft_Reset the function keeps the rest of its state (Table 9.1). -/
def execD3hotEntry (s : State) : Host.Outcome State Fault Refusal :=
  let t := s.detach
  .next { t with host := { t.host with d3hot := t.host.link } }

/-- BUS_MASTER_ENABLE_CLEAR (R247). -/
def execBusMasterEnableClear (s : State) : Host.Outcome State Fault Refusal :=
  let t := s.detach
  .next { t with host := { t.host with conf := { t.host.conf with master := false } } }

/-- PE_PERST_ASSERT (R483): the host port is held in reset and the link goes down. -/
def execPePerstAssert (s : State) : Host.Outcome State Fault Refusal :=
  let t := s.linkDown
  .next { t with host := { t.host with perst := true } }

/-- PE_PERST_RELEASE (R483): the port may train again. -/
def execPePerstRelease (s : State) : Host.Outcome State Fault Refusal :=
  if s.host.perst then .next { s with host := { s.host with perst := false, perstTick := s.ticks } } else .next s

/-- The lowest reason of R252 that refuses an attachment; 0 if there is none. -/
def State.attachFail (s : State) : Nat :=
  let ring := s.addr64 Reg.hostRingBaseLo Reg.hostRingBaseHi
  let index := s.addr64 Reg.hostIndexAddrLo Reg.hostIndexAddrHi
  if !s.host.bme then 1
  else if ring % (64 * 2 ^ s.ringLog2) != 0 then 2
  else if index % 64 != 0 || s.tableBase % 64 != 0 then 3
  else if s.ringLog2 < 8 || 16 < s.ringLog2 then 4
  else 0

/-- Records written to the ring until the host queue is empty or the ring is full. -/
def State.ringDrain (s : State) : Nat → State
  | 0 => s
  | n + 1 => if s.evt.hostQ.isEmpty || !s.ringSpace then s else s.ringStep.ringDrain n

/-- ATTACH (R252, R383): the port attaches, PI and CI start at 0, and the host queue is emptied into the ring; or the reason it cannot is
shown. -/
def State.attach (s : State) : State :=
  if s.host.attached then s
  else if s.attachFail != 0 then { s with host := { s.host with fail := s.attachFail } }
  else
    let s := { s with host := { s.host with attached := true, fail := 0 }, evt := { s.evt with pi := 0, sinceIdx := 0 } }
    let t := (s.setRw Reg.evtHostCi 0).ringDrain (s.evt.hostQ.length + 1)
    if s.evt.hostQ.isEmpty || t.evt.sinceIdx != 0 then t.writeIndex else t

/-- A write to HOST_ATTACH: with both bits set the port detaches and attaches again. -/
def State.writeAttach (s : State) (value : Word) : State :=
  let s := if wbit value 1 then s.detach else s
  if wbit value 0 then s.attach else s

def execAttach (value : Word) (s : State) : Host.Outcome State Fault Refusal := .next (s.writeAttach (wput value 0 0 1))

/-- DETACH (R247). -/
def execDetach (value : Word) (s : State) : Host.Outcome State Fault Refusal := .next (s.writeAttach (wput value 1 1 1))

/-- The pull of a surface changed. -/
def State.modPull (s : State) (n : Nat) (p : Pull) : State := s.modSurf n fun f => { f with pull := some p }

/-- The table entry of a pull has come (R255, R257); its line reads follow as they fall due. -/
def State.pullEntry (s : State) (n : Nat) (p : Pull) (data : List Byte) : State :=
  let a := leAt data 0 8
  if a == 0 || a % 256 != 0 then s.failPull n
  else
    s.modPull n { p with addr := some a }

/-- A line of a pull has come, and is written into the slot (R255). -/
def State.pullLine (s : State) (n : Nat) (r : SurfRec) (p : Pull) (data : List Byte) : State :=
  let q := { p with line := p.line + 1 }
  let s := (s.modSurf n fun f =>
    { f with lines := q.line, slots := modAt f.slots p.slot fun t => { t with lines := setAt t.lines p.line (some data) } }).storeLine
      n p.slot p.line r data
  s.modPull n q

/-- The error bits that a completion sets in the configuration space: 1 UR, 2 CA, 3 poisoned data. -/
def HostPort.badCpl (h : HostPort) (status : Nat) : HostPort :=
  match status with
  | 1 => { h with status := h.status ||| 2 ^ 13 }
  | 2 => { h with status := h.status ||| 2 ^ 12 }
  | _ => { h with status := h.status ||| 2 ^ 15, aer := h.aer ||| 2 ^ 12 }

/-- PULL_COMPLETION_RX (R255, R257): the completions of the read a pull waits for, its table entry or its next line; `status` is 0 for
success, 1 UR, 2 CA, 3 poisoned data. -/
def execPullCompletionRx (surf : Fin 16) (status : Fin 4) (data : List Byte) (s : State) : Host.Outcome State Fault Refusal :=
  match (s.surf surf).pull, s.surfRec? surf with
  | some p, some r =>
    if p.addr.isSome && p.sent ≤ p.line then .next s
    else if status.val != 0 then .next ({ s with host := s.host.badCpl status }.failPull surf)
    else if p.addr.isNone then (if data.length == 8 then .next (s.pullEntry surf p data) else .next s)
    else if r.h ≤ p.line || data.length != r.lineBytes then .next s
    else .next (s.pullLine surf r p data)
  | _, _ => .next s

/-- PULL_COMPLETION_TIMEOUT (R257): a read of the pull got no completion; Advanced Error Reporting holds it. -/
def execPullCompletionTimeout (surf : Fin 16) (s : State) : Host.Outcome State Fault Refusal :=
  if (s.surf surf).pull.isSome then .next ({ s with host := { s.host with aer := s.host.aer ||| 2 ^ 14 } }.failPull surf) else .next s

/-- HS_PULL_COMPLETE (R59, R255): every line has come. -/
def execHsPullComplete (surf : Fin 16) (s : State) : Host.Outcome State Fault Refusal :=
  match (s.surf surf).pull, s.surfRec? surf with
  | some p, some r => if p.addr.isNone || p.line < r.h then .next s else .next (s.endPull surf p r)
  | _, _ => .next s

/-- A 32-bit word of the function's configuration space (R246): the type 0 header, Power Management at 0x40, PCI Express at 0x50 and
Advanced Error Reporting at 0x100; the layout is that of PCI Express (PRESUMED, log 125). Interrupt Pin is 0, and there is neither an MSI
nor an MSI-X capability (R3). -/
def State.confWord (s : State) (off : Nat) : Nat :=
  let h := s.host
  let c := h.conf
  match off with
  | 0x00 => at_ s.variant.deviceId 16 + 0x1E6D
  | 0x04 => at_ (h.status ||| 2 ^ 4) 16 + at_ (b2n c.master) 2 + 2
  | 0x08 => at_ 0x048000 8 + 0x11
  | 0x10 => c.bar0.toNat / 2 ^ 26 * 2 ^ 26 % 2 ^ 32 + 4
  | 0x14 => c.bar0.toNat / 2 ^ 32
  | 0x18 => 12
  | 0x1C => c.bar2.toNat / 2 ^ 36 * 2 ^ 4
  | 0x34 => 0x40
  | 0x3C => c.line.toNat
  | 0x40 => at_ 3 16 + at_ 0x50 8 + 1
  | 0x44 => at_ 1 3 + (if h.d3hot then 3 else 0)
  | 0x50 => at_ 2 16 + 0x10
  | 0x54 => at_ 1 28 + at_ 1 15 + at_ 1 5 + 2
  | 0x58 => at_ c.mrrs.val 12 + at_ c.mps.val 5
  | 0x5C => at_ 16 4 + 6
  | 0x60 => at_ (at_ h.width 4 + h.speed) 16
  | 0x74 => at_ 1 4 + 3
  | 0x100 => at_ 2 16 + 1
  | 0x104 => h.aer
  | _ => 0

/-- The host port's registers. -/
def State.readHost (s : State) (off : Nat) : Option Word :=
  let h := s.host
  if off == Reg.hostStatus then
    some (Word.of (at_ h.fail 28 + at_ (b2n h.flit) 11 + at_ (b2n h.bme) 10 + at_ (b2n h.attached) 9 + at_ h.width 4 + h.speed))
  else if off == Reg.hostAttach then some 0
  else if 0xC01000 ≤ off && off < 0xC01100 && off % 0x10 == 0 then
    let n := (off - 0xC01000) / 0x10
    let f := s.surf n
    some (Word.of (at_ (b2n f.valid) 31 + at_ (b2n f.pull.isSome) 30 + at_ (if f.valid then (s.freeSlots n).length else 0) 28 + f.lines))
  else none

end Sys2Proof.Machine
end

