-- ==== Sys2Proof/Machine/Relay.lean ====
section
/-! DEFINITION. Relay pairs and the baton (17_relay.md): the link, messages and their receiver, roles, pairing, mirrored inputs, line
signatures, partner loss, takeover, handover and mending, with the commands of the family (R405 to R430). -/

namespace Sys2Proof.Machine

/-- The partner's device number; 0 without a relay. -/
def State.partnerDev (s : State) : Nat := match s.cfg.relay with | some r => if r.enable then r.partner else 0 | none => 0

/-- Whether the relay works: it is enabled, and its lanes have power. -/
def State.relayOn (s : State) : Bool := s.rl.role != .alone && s.pwr.serdes && !s.flt.shutDone

/-- The relay changed. -/
def State.modRl (s : State) (f : Relay → Relay) : State := { s with rl := f s.rl }

/-- The unit's digest bits 63:0 (R407). -/
def State.ownDigest (s : State) : Nat := leAt s.rl.digest 0 8

/-- Whether the digests are equal, as far as the partner's has been heard (R407, R419). -/
def State.digestOk (s : State) : Bool :=
  s.rl.pDigestBits != 0 && s.rl.pDigest % 2 ^ s.rl.pDigestBits == s.ownDigest % 2 ^ s.rl.pDigestBits

/-- Whether a heartbeat path is alive (R420): 0 the link, 1 the chain. -/
def State.pathUp (s : State) (i : Nat) : Bool :=
  (if i == 0 then s.rl.hbTick else s.rl.bcTick).isSome && s.rl.miss.getD i 0 < 3

/-- A relay message: its kind and body. -/
structure RelayMsg where
  kind : Nat
  body : List Byte
  deriving DecidableEq, Repr

/-- The envelope of a relay message checked (R170, R171, R413): LEN, CRC, a KIND of Table 17.2, ORIGIN 0. -/
def RelayMsg.parse (d : List Byte) : Option RelayMsg :=
  let len := leAt d 6 2
  let k := leAt d 0 1
  let ok := d.length == 12 + len && leAt d (8 + len) 4 == (crc32 (d.take (8 + len))).toNat && 0xC1 ≤ k && k ≤ 0xCB && !(nbit (leAt d 4 1) 7)
  if ok then some ⟨k, (d.drop 8).take len⟩ else none

/-- The least LEN of a message's kind (Table 17.2). -/
def relayLen (kind : Nat) : Nat := [32, 24, 24, 20, 12, 8, 8, 72, 8, 8, 36].getD (kind - 0xC1) 0

/-- A message taken from the link (R413): its body when it passes R171 and R172, carries the kind the command names, and is long enough;
a message that fails R171 or R172 is counted. -/
def State.relayTake (s : State) (kind : Nat) (d : List Byte) : Option (List Byte) × State :=
  if !s.relayOn then (none, s) else
  let s := s.modRl fun r => { r with lanes := true }
  match RelayMsg.parse d with
  | none => (none, s.bump Reg.relayLinkErrors)
  | some m =>
    if m.kind != kind then (none, s) else
    let (j, r) := s.rl.rx.take (leAt d 2 2)
    let s := s.modRl fun x => { x with rx := r }
    match j with
    | .accept _ => (if relayLen kind ≤ m.body.length then some m.body else none, s)
    | .reject => (none, s.bump Reg.relayLinkErrors)

/-- What a STANDBY makes of a message that only the ACTIVE unit sends (R413): without COLD it acts on it. -/
def State.fromActive (s : State) (kind : Nat) (d : List Byte) (f : List Byte → State → State) : State :=
  match s.relayTake kind d with
  | (some b, s) => if s.rl.role == .standby && !s.rl.cold then f b s else s
  | (none, s) => s

/-- Censuses that waited for the role or for the partner begin (R409). -/
def State.startShared (s : State) : State :=
  (List.range 16).foldl (fun s p => if s.shared p then s.startWaiting p else s) s

/-- STANDBY entered from PAIRING (R407, R408): with unequal digests the unit is UNPAIRED instead. -/
def State.beStandby (s : State) (cold : Bool) : State :=
  if !s.digestOk then
    (s.setRole .unpaired).evFault Ev.relayConfigMismatch Fk.relayConfigMismatch fsRelay [s.rl.pDigest % 2 ^ 32]
  else ((s.modRl fun r => { r with cold := cold, fit := !cold }).setRole .standby).startShared

/-- ACTIVE or SOLO entered from PAIRING (R408, R409). -/
def State.beHolder (s : State) (r : Role) : State := ((s.modRl fun x => { x with fit := true }).setRole r).startShared

/-- Whether the unit is the one that ROLE and the device numbers prefer as active (R408); `standby` is ROLE of the partner's RELAY
record. -/
def State.preferred (s : State) (standby : Bool) : Bool :=
  match s.cfg.relay with
  | none => false
  | some r => if r.standby == standby then s.cfg.devNum < r.partner else !r.standby

/-- A heartbeat judged for the role (R408): `link` says that it came over the link. -/
def State.decideRole (s : State) (link standby : Bool) : State :=
  if s.rl.role != .pairing then s else
  match s.rl.pRole with
  | some .active => s.beStandby (!s.rl.up)
  | some .solo => s.beStandby (!s.rl.up)
  | some .pairing =>
    if !(link && s.rl.up) then s
    else if s.preferred standby then s.beHolder .active else s.beStandby false
  | _ => s

/-- A STANDBY whose partner turns out to have another configuration is UNPAIRED (R407). -/
def State.recheckDigest (s : State) : State :=
  if s.rl.role == .standby && !s.digestOk then s.beStandby s.rl.cold else s

/-- A unit that holds the baton becomes ACTIVE once its partner stands by (Table 17.1, R425). -/
def State.seeStandby (s : State) : State :=
  if s.rl.pRole == some .standby && (s.rl.role == .solo || (s.rl.role == .standby && s.holdMask != 0)) then s.setRole .active else s

/-- The first lap boundary at least two laps ahead, with its lap. -/
def State.twoAhead (s : State) : Int × Int :=
  let k := s.tl.plan.lapFrom s.cfg.epoch (s.tl.plan.plusLaps s.wall 2 0)
  (s.tl.plan.lapAt s.cfg.epoch k, k)

/-- The LAMP messages of a tile's snapshot, one for every lamp that is not NORMAL (R415). -/
def State.snapLamps (s : State) (t : Tile) : State :=
  (idxs t.lamps.length fun k => match t.lamps[k]? with | some l => !l.normal | none => false).foldl
    (fun s k => s.relayLamp t.port t.pos k ((t.lamps.map (·.state)).getD k 0)) s

/-- The snapshot at the partner's entry into STANDBY (R415), its messages in the order of R448. -/
def State.relaySnapshot (s : State) : State :=
  let s := (List.range 16).foldl State.pairOwn s
  let s := if s.tl.service then (s.relayCue false s.settled 0 0 false s.twoAhead).relayCue true s.tl.num 0 0 false s.twoAhead else s
  let ts := s.litTiles.filter fun t => (s.rport t.port).paired
  let s := ts.foldl State.snapLamps s
  let s := ts.foldl (fun s t => s.relayTile t.port t.pos) s
  let s := (List.range 16).foldl State.relayDelays s
  (List.range 16).foldl State.relayCensus s

/-- A claim on a port (R193, R194); it ends a calibration there (R158). -/
def State.claimOn (s : State) (p : Nat) : State :=
  if !((s.port p).up) then s
  else ((s.abortCal p).queueFrame p (allFrame .baton 0 batonBody)).modPort p fun q => { q with claim := some s.ticks }

/-- The last heartbeat on either path. -/
def State.lastBeat (s : State) : Nat := max (s.rl.hbTick.getD 0) (s.rl.bcTick.getD 0)

/-- Claims on the ports of a mask (R421, R423, R425); RELAY_TAKEOVER_US will count from the last heartbeat. -/
def State.claimAll (s : State) (m : Nat) : State :=
  let s := s.modRl fun r => { r with claim := some ⟨s.lastBeat, 0, none⟩ }
  let s := (idxs 16 (nbit m)).foldl State.claimOn s
  if s.claimsOpen then s else s.modRl fun r => { r with claim := none }

/-- The paired ports. -/
def State.pairedMask (s : State) : Nat := maskOf ((List.range 16).map fun p => (s.rport p).paired)

/-- Whether a STANDBY takes over (R421). -/
def State.qualified (s : State) : Bool :=
  s.tl.service && (s.rl.up || s.rl.cold) && (s.rl.fit || wbit (s.rws Reg.relayCfg) 8)

/-- The partner is lost (R420, R421): `cause` 1 misses, 2 the shutting-down flag. -/
def State.losePartner (s : State) (cause : Nat) : State :=
  if s.rl.lostTick.isSome then s else
  let role := s.rl.role
  let q := s.qualified
  let s := s.modRl fun r => { r with lostTick := some s.ticks, pRole := none, pHold := 0, mendTick := none }
  let s := s.evFault Ev.relayPartnerLost Fk.relayPartnerLost fsRelay [s.partnerDev, cause]
  match role with
  | .active => (s.claimAll s.pairedMask).setRole .solo
  | .standby => if q then (s.claimAll s.pairedMask).setRole .solo else s
  | _ => s

/-- Whether two SOLO units could mend (R426): both paths up and equal digests. -/
def State.mendable (s : State) : Bool :=
  s.rl.role == .solo && s.rl.pRole == some .solo && s.pathUp 0 && s.rl.up && s.pathUp 1 && s.digestOk && s.rl.pDigestBits == 64

/-- The span over which the conditions of R426 have held, brought up to date. -/
def State.updMend (s : State) : State :=
  if s.mendable then (if s.rl.mendTick.isSome then s else s.modRl fun r => { r with mendTick := some s.ticks })
  else s.modRl fun r => { r with mendTick := none }

/-- What every valid heartbeat does after its path's record: the loss that a shutting-down flag is, the role, the snapshot, splits and
mending (R408, R415, R420, R423, R426). -/
def State.heard (s : State) (was : Option Role) (wasCold link standby : Bool) : State :=
  if nbit s.rl.pFlags 3 then s.losePartner 2
  else
    let s := s.modRl fun r => { r with lostTick := none }
    let s := ((s.decideRole link standby).recheckDigest).seeStandby
    let fresh := was != some .standby || wasCold
    let s := if fresh && s.mirrors then s.relaySnapshot else s
    ((List.range 16).foldl State.judgeSplit s).updMend

/-- A valid heartbeat on a path (R420): its misses are none, and a path never heard counts from the partner's first word. -/
def State.beatOn (s : State) (i : Nat) : State :=
  let first := s.rl.hbTick.isNone && s.rl.bcTick.isNone
  s.modRl fun r =>
    { r with hbTick := if i == 0 then some s.ticks else r.hbTick, bcTick := if i == 1 then some s.ticks else r.bcTick,
             missRef := if first then [s.ticks, s.ticks] else setAt r.missRef i s.ticks, miss := setAt r.miss i 0 }

/-- The link comes up (R406). -/
def State.relayUp (s : State) : State :=
  if s.rl.up then s else (s.modRl fun r => { r with up := true, trim := none }).ev Ev.relayLinkUp []

/-- Whether the relay qualifies as a time source (R241): the link is up, and the partner reports VALID and a source of its own. -/
def State.relayQual (s : State) : State :=
  s.setQual 2 (s.rl.up && nbit s.rl.pFlags 4 && (s.rl.pSource == 1 || s.rl.pSource == 2 || s.rl.pSource == 4))

/-- The items of a heartbeat kept. -/
def State.takeBeat (s : State) (b : List Byte) : State :=
  s.modRl fun r =>
    { r with pRole := some (Role.of (leAt b 0 1)), pFlags := leAt b 1 1, pHold := leAt b 2 2, pDigest := leAt b 8 8, pDigestBits := 64
             pSource := leAt b 16 1, pPlan := leAt b 17 1 }

/-- RELAY_HEARTBEAT_RX (R406 to R408, R420): `standby` is ROLE of the partner's RELAY record, which no message carries. -/
def execRelayHeartbeatRx (data : List Byte) (standby : Bool) (s : State) : Host.Outcome State Fault Refusal :=
  match s.relayTake 0xC1 data with
  | (none, s) => .next s
  | (some b, s) =>
    let was := s.rl.pRole
    let cold := nbit s.rl.pFlags 6
    let s := s.modRl fun r => { r with pStandby := standby }
    .next ((((s.takeBeat b).beatOn 0).relayUp.heard was cold true standby).relayQual)

/-- A BEACON of the partner parsed (R170, R171, Table 6.5). -/
def beaconBody (dev : Nat) (d : List Byte) : Option (List Byte) :=
  let len := leAt d 6 2
  let b4 := leAt d 4 1
  let ok := d.length == 12 + len && 16 ≤ len && leAt d (8 + len) 4 == (crc32 (d.take (8 + len))).toNat && leAt d 0 1 == 9 &&
    !(nbit b4 7) && b4 % 64 == 63 && nfld (leAt d 1 1) 7 4 == dev
  if ok then some ((d.drop 8).take len) else none

/-- The items of a BEACON kept; its digest bits are the low ones of those a HEARTBEAT has brought. -/
def State.takeBeacon (s : State) (b : List Byte) : State :=
  s.modRl fun r =>
    { r with pRole := some (Role.of (leAt b 4 1)), pFlags := leAt b 5 1,
             pDigest := if r.up && r.pDigestBits == 64 then r.pDigest else leAt b 12 4,
             pDigestBits := if r.up && r.pDigestBits == 64 then 64 else 32 }

/-- A BEACON on a port that is not paired: a COLD standby learns that its partner holds the chain, and a holder whose partner stands by
COLD pairs the port on which it hears it, which nothing else tells it. -/
def State.beaconUnpaired (s : State) (p : Nat) (b : List Byte) : State :=
  let r := Role.of (leAt b 4 1)
  let s := if s.rl.cold then s.modRl fun x => { x with pRole := some r } else s
  if (s.rl.role == .active || s.rl.role == .solo) && r == .standby && nbit (leAt b 5 1) 6 then
    s.modRport p fun x => { x with paired := true, partner := p }
  else s

/-- PARTNER_BEACON_RX (R408, R409, R420): a BEACON of the partner on a shared port. On a paired port, or while the role is open, it is a
heartbeat of the chain path; a COLD standby may begin its census. -/
def execPartnerBeaconRx (port : Fin 16) (data : List Byte) (s : State) : Host.Outcome State Fault Refusal :=
  if !s.relayOn || !(s.shared port) || !((s.port port).hears) then .next s else
  match beaconBody s.partnerDev data with
  | none => .next (s.bump (Reg.upCrcErrors port))
  | some b =>
    let (ok, s) := s.takeSeq port 32 (leAt data 2 2)
    if !ok then .next s else
    let s := s.modRport port fun r => { r with beatTick := some s.ticks }
    let open_ := s.rl.role == .pairing
    if !open_ && !((s.rport port).paired) then .next ((s.beaconUnpaired port b).startWaiting port)
    else
      let was := s.rl.pRole
      let cold := nbit s.rl.pFlags 6
      let dead := !(s.pathUp 1) && !s.rl.up
      let s := ((s.takeBeacon b).beatOn 1).heard was cold false false
      let s := if dead && !open_ && !s.rl.up then s.fault Fk.relayLinkDown fsRelay [] else s
      .next (s.startWaiting port)

/-- HEARTBEAT_PATH_MISS (R420, R427): 105 µs have passed on a path since its last heartbeat or miss; a heartbeat in the tick at which a
miss falls due still counts. Three misses on each path lose the partner. -/
def execHeartbeatPathMiss (chain : Bool) (s : State) : Host.Outcome State Fault Refusal :=
  let i := b2n chain
  let ref := s.rl.missRef.getD i 0
  if !s.relayOn || (s.rl.hbTick.isNone && s.rl.bcTick.isNone) || s.ticks ≤ ref + 105 * usT then .next s
  else
    let s := s.modRl fun r => { r with missRef := setAt r.missRef i (ref + 105 * usT), miss := modAt r.miss i (· + 1) }
    let s := (s.bump (if chain then Reg.relayHbMissedChain else Reg.relayHbMissedLink)).updMend
    .next (if 3 ≤ s.rl.miss.getD 0 0 && 3 ≤ s.rl.miss.getD 1 0 then s.losePartner 1 else s)

/-- PAIRING_TIMEOUT (R408): 100 ms after SB3 with nothing heard from the partner. -/
def execPairingTimeout (s : State) : Host.Outcome State Fault Refusal :=
  if s.rl.role == .pairing && s.tl.on && s.past s.rl.sb3Tick (100 * msT) && s.rl.hbTick.isNone && s.rl.bcTick.isNone then
    .next (s.beHolder .solo)
  else .next s

/-- RELAY_HEARTBEAT_SEND (R413): a HEARTBEAT every 100 µs ± 5 µs. -/
def execRelayHeartbeatSend (s : State) : Host.Outcome State Fault Refusal :=
  if s.relayOn && s.past s.rl.hbSend (95 * usT) then .next s.heartbeat else .next s

/-- RELAY_TRAIN_SEND (R406): a TRAIN burst every millisecond while the link is not up. -/
def execRelayTrainSend (s : State) : Host.Outcome State Fault Refusal :=
  if s.relayOn && !s.rl.up && s.past s.rl.trainSend msT then
    .next ((s.modRl fun r => { r with trainSend := s.ticks }).send .relayTrain)
  else .next s

/-- The link goes down (R406): mirroring stops, and with the partner still heard on the chain path the fault is raised (Table 17.5). -/
def State.relayDown (s : State) (lanes : Bool) : State :=
  let s := s.modRl fun r => { r with lanes := lanes, rx := if lanes then r.rx else { r.rx with fresh := true } }
  if !s.rl.up then s
  else
    let s := (s.modRl fun r => { r with up := false, downTick := s.ticks, measured := false }).ev Ev.relayLinkDown []
    let s := if s.pathUp 1 then s.fault Fk.relayLinkDown fsRelay [] else s
    s.relayQual.updMend

/-- RELAY_LINK_TIMEOUT (R406): 1 ms without a HEARTBEAT, or with `lanes` false a receive lane that is not locked and aligned. -/
def execRelayLinkTimeout (lanes : Bool) (s : State) : Host.Outcome State Fault Refusal :=
  let late : Bool := match s.rl.hbTick with | some t => s.past t msT | none => true
  if !s.relayOn then .next s
  else if !lanes then .next (s.relayDown false)
  else if s.rl.up && late then .next (s.relayDown s.rl.lanes)
  else .next s

/-- RELAY_LINK_RETRIM (R406): the link has been down for 10 ms, and the receiver trims over the next 10 ms of TRAIN bursts. -/
def execRelayLinkRetrim (s : State) : Host.Outcome State Fault Refusal :=
  if s.relayOn && !s.rl.up && s.rl.trim.isNone && s.past s.rl.downTick (10 * msT) then
    .next (s.modRl fun r => { r with trim := some s.ticks })
  else .next s

/-- RELAY_TRIM_DONE (R406): the 10 ms end; an INVALID trim keeps the trim before it, and another follows at once. -/
def execRelayTrimDone (valid : Bool) (s : State) : Host.Outcome State Fault Refusal :=
  match s.rl.trim with
  | none => .next s
  | some t =>
    if !s.relayOn || !(s.past t (10 * msT)) then .next s
    else .next (s.modRl fun r => { r with trim := none, trimBad := !valid, downTick := if valid then s.ticks else r.downTick })

/-- Disciplined time between two markers on the link: 16,384 block times (R147, R406). -/
def markRun : Nat := 16384 * blockFrac

/-- The unit's last marker on the link with the count `c`, as the split of its departure; the link's transmitter is clocked from the unit's
own time base (R406). -/
def State.txSplit (s : State) (c : Nat) : Nat :=
  let k := (s.tb.run - s.rl.txRun) / markRun
  let m := k - (k % 65536 + 65536 - c % 65536) % 65536
  splitOf (s.wall - ((s.tb.run - (s.rl.txRun + m * markRun)) / 2 ^ 32 : Nat))

/-- The count of the unit's last marker on the link. -/
def State.txMark (s : State) : Nat := (s.tb.run - s.rl.txRun) / markRun % 65536

/-- RELAY_TIME_SEND (R413, R414): TIME every millisecond. -/
def execRelayTimeSend (s : State) : Host.Outcome State Fault Refusal :=
  if s.relayOn && s.past s.rl.timeSend msT then
    let s := s.modRl fun r => { r with timeSend := s.ticks }
    .next (s.relaySend 0xC2 (leBytes 2 s.txMark ++ leBytes 2 s.rl.rxMark ++ leBytes 5 (s.txSplit s.txMark) ++ [0, 0, 0] ++
      leBytes 5 s.rl.rxSplit ++ List.replicate 7 0))
  else .next s

/-- The partner's offset (R414). -/
def relayOffset (t1 t2 t3 t4 : Nat) : Int := (splitDiff t2 t1 - splitDiff t4 t3) / 2

/-- The wall clock at the tick `tick`, not long past, at the present rate. -/
def State.wallAt (s : State) (tick : Nat) : Int := s.wall - ((s.ticks - tick) * s.tb.incr / 2 ^ 32 : Nat)

/-- RELAY_TIME_RX (R241, R414): `mark` is the count of the last ALIGN received on lane 0 and `age` the ticks since it arrived. The
offset is measured when the message names that marker; what the counter must gain is its negative. -/
def execRelayTimeRx (data : List Byte) (mark : BitVec 16) (age : Nat) (s : State) : Host.Outcome State Fault Refusal :=
  match s.relayTake 0xC2 data with
  | (none, s) => .next s
  | (some b, s) =>
    let s := s.modRl fun r => { r with rxMark := mark.toNat, rxSplit := splitOf (s.wallAt (s.ticks - age)) }
    if leAt b 0 2 != mark.toNat then .next s
    else
      let o := relayOffset (leAt b 4 5) s.rl.rxSplit (s.txSplit (leAt b 2 2)) (leAt b 12 5)
      let s := s.modRl fun r => { r with offset := o, measured := true }
      let s := s.newRate 2 (Config.rateEstimate 2 (s.rl.offset) s.wall).toInt
      .next ((s.newOffset 2 (-o)).relayQual)

/-- A mirrored plan cue (R415): it is fixed at the boundary whose split it names; one that comes before full service or after its
boundary waits for the next lap. -/
def State.mirrorPlan (s : State) (m : MirrorCue) : State :=
  let b := s.wall + splitDiff m.split s.split
  if m.num == s.tl.num && s.tl.service then s
  else if !s.tl.service || b ≤ s.wall || (s.cfg.plan? m.num).isNone then
    s.modRl fun r => { r with mcues := (r.mcues.filter fun x => !(x.plan && x.lap == m.lap)) ++ [m] }
  else
    let c : PlanCue := ⟨m.num, true, m.split, s.wall, 0, s.ticks⟩
    if s.tl.stepB.isSome then { s with tl := { s.tl with held := some c } }
    else { s with tl := { s.tl with pend := some c, pendB := b, fixed := true } }

/-- A mirrored cue (R415): a later one for the same boundary replaces the earlier. -/
def State.mirrorCue (b : List Byte) (s : State) : State :=
  let m : MirrorCue := ⟨leAt b 0 1 == 2, leAt b 1 1, leAt b 2 2, nbit (leAt b 4 1) 1, leAt b 8 4, leAt b 12 5, s.ticks⟩
  if m.plan then s.mirrorPlan m
  else s.modRl fun r => { r with mcues := (r.mcues.filter fun x => x.plan || x.lap != m.lap) ++ [m] }

/-- RELAY_CUE_RX (R415, R416). -/
def execRelayCueRx (data : List Byte) (s : State) : Host.Outcome State Fault Refusal := .next (s.fromActive 0xC3 data State.mirrorCue)

/-- A mirrored input kept for the latch it names (R415, R416). -/
def State.mirrorIn (s : State) (lap leg : Nat) (m : Mirror) : State := s.modRl fun r => { r with mirror := r.mirror ++ [⟨lap, leg, m⟩] }

/-- RELAY_TILE_RX (R415). -/
def execRelayTileRx (data : List Byte) (s : State) : Host.Outcome State Fault Refusal :=
  .next (s.fromActive 0xC4 data fun b s =>
    let i := fun (o : Nat) => sint 16 (leAt b o 2)
    s.mirrorIn (leAt b 16 4) (leAt b 14 1) (.tile (leAt b 0 1) (leAt b 1 1) (i 2) (i 4) (leAt b 6 1) [i 8, i 10, i 12]))

/-- RELAY_LAMP_RX (R415). -/
def execRelayLampRx (data : List Byte) (s : State) : Host.Outcome State Fault Refusal :=
  .next (s.fromActive 0xC5 data fun b s => s.mirrorIn (leAt b 8 4) (leAt b 6 1) (.lamp (leAt b 0 1) (leAt b 1 1) (leAt b 2 3) (leAt b 5 1)))

/-- RELAY_FLUSH_RX (R415). -/
def execRelayFlushRx (data : List Byte) (s : State) : Host.Outcome State Fault Refusal :=
  .next (s.fromActive 0xC6 data fun b s => s.mirrorIn (leAt b 4 4) 0 (.flush (leAt b 0 1) (leAt b 1 1)))

/-- A line compared (R418): a difference is counted, and the third lap in a row raises the fault and takes FIT. -/
def State.compareLine (s : State) (lap leg : Nat) (p q line sig : Nat) : State :=
  match s.rl.sigs.find? fun x => x.port == p && x.pos == q && x.leg == leg && x.line == line && x.lap == lap with
  | none => s
  | some own =>
    let at_ := fun (d : LineDiff) => d.port == p && d.pos == q && d.leg == leg && d.line == line
    let old := s.rl.diffs.find? at_
    if own.sig == sig then
      s.modRl fun r => { r with diffs := (r.diffs.map fun d => if at_ d then { d with runs := 0 } else d).filter fun d =>
        (lap + 2 ^ 32 - d.lap) % 2 ^ 32 < 3 }
    else
      let run := match old with | some d => if (d.lap + 1) % 2 ^ 32 == lap then d.runs + 1 else 1 | none => 1
      let s := s.bump Reg.relaySigMismatches
      let s := s.modRl fun r => { r with diffs := (r.diffs.filter fun d => !(at_ d)) ++ [⟨p, q, leg, line, lap, run⟩] }
      if run == 3 then
        (s.modRl fun r => { r with fit := false }).evFault Ev.relaySigMismatch Fk.relaySigMismatch fsRelay [p, q, leg, line]
      else s

/-- RELAY_SIGS_RX (R417, R418): each line of a paired tile is compared with the unit's own signature of the same lap. -/
def execRelaySigsRx (data : List Byte) (s : State) : Host.Outcome State Fault Refusal :=
  .next (s.fromActive 0xC7 data fun b s =>
    (List.range (min (leAt b 6 2) ((b.length - 8) / 8))).foldl (fun s i =>
      let o := 8 + 8 * i
      match s.ownPlace (leAt b 5 1) (leAt b o 1) with
      | some (p, q) => s.compareLine (leAt b 0 4) (leAt b 4 1) p q (leAt b (o + 1) 1) (leAt b (o + 4) 4)
      | none => s) s)

/-- D'_q of a standby's tiles from its position 0 on (R412): `ds` lists delta_(N−1) down to delta_0. -/
def standbyDelays (d0 : Nat) : List Tile → List Nat → List Nat
  | [], _ => []
  | t :: ts, ds => d0 :: standbyDelays (d0 + t.repeatLat + ds.headD 0) ts ds.tail

/-- The chain delays of a standby's port taken from its partner's measurements (R412). -/
def State.applyDeltas (s : State) (p : Nat) : State :=
  let ds := (s.rport (s.rport p).partner).deltas
  if !(s.standsBy p) || ds.isEmpty then s else
  let ts := s.byPos p
  (ts.zip (standbyDelays (ds.getLastD 0) ts ds.reverse.tail)).foldl (fun s x => s.modTile p x.1.pos fun t => { t with delay := x.2 }) s

/-- RELAY_DELAYS_RX (R412). -/
def execRelayDelaysRx (data : List Byte) (s : State) : Host.Outcome State Fault Refusal :=
  .next (s.fromActive 0xC8 data fun b s =>
    let k := leAt b 0 1
    let ds := (List.range (min 33 (leAt b 1 1 + 1))).map fun h => leAt b (4 + 2 * h) 2
    let s := s.modRport k fun r => { r with deltas := ds }
    (idxs 16 fun p => (s.rport p).paired && (s.rport p).partner == k).foldl State.applyDeltas s)

/-- Shared ports whose census is done judged for pairing (R409). -/
def State.judgePairs (s : State) : State := (List.range 16).foldl State.judgePair s

/-- RELAY_CENSUS_READY_RX (R409): the partner's census of a chain is done, and this unit's own may begin. -/
def execRelayCensusReadyRx (data : List Byte) (s : State) : Host.Outcome State Fault Refusal :=
  .next (s.fromActive 0xC9 data fun b s =>
    ((s.modRport (leAt b 0 1) fun r => { r with ready := some (leAt b 1 1), places := r.places.filter fun x => x.1 < leAt b 1 1 }).startShared).judgePairs)

/-- RELAY_PLACE_RX (R409): the placement of a partner's tile. -/
def execRelayPlaceRx (data : List Byte) (s : State) : Host.Outcome State Fault Refusal :=
  .next (s.fromActive 0xCB data fun b s =>
    let q := leAt b 1 1
    let ws := (List.range 7).map fun i => Word.of (leAt b (8 + 4 * i) 4)
    (s.modRport (leAt b 0 1) fun r => { r with places := (r.places.filter (·.1 != q)) ++ [(q, ws)] }).judgePairs)

/-- RELAY_HANDOVER_RX (R425): on the partner's release its ports are claimed. -/
def execRelayHandoverRx (data : List Byte) (s : State) : Host.Outcome State Fault Refusal :=
  match s.relayTake 0xCA data with
  | (none, s) => .next s
  | (some b, s) =>
    let m := leAt b 2 2
    if leAt b 0 1 == 1 && (s.rl.role == .standby || s.rl.role == .solo) then
      .next (s.claimAll (maskOf ((List.range 16).map fun p => (s.rport p).paired && nbit m (s.rport p).partner)))
    else .next s

/-- HANDOVER_SILENCE_END (R425): 400 µs after the release. If a tile still names this unit as holder, it drives on and keeps its role;
otherwise it stands by. -/
def execHandoverSilenceEnd (s : State) : Host.Outcome State Fault Refusal :=
  match s.rl.release with
  | none => .next s
  | some r =>
    if !(s.past r.tick (400 * usT)) then .next s
    else
      let s := s.modRl fun x => { x with release := none }
      if (idxs 16 (nbit r.mask)).any fun p => 0 < s.heldOn p then
        .next (s.evFault Ev.relayHandoverFailed Fk.relayHandoverFailed fsRelay [r.mask])
      else
        let bad := s.boot.stage == 7 || s.flt.hold != .none
        let s := (s.modRl fun x => { x with fit := !bad, cold := false }).setRole .standby
        let s := (idxs 16 fun p => (s.rport p).paired).foldl State.normalPort s
        .next ((List.range 16).foldl State.judgeSplit s)

/-- Tiles of the paired ports that name a device as holder. -/
def State.heldBy (s : State) (dev : Nat) : Nat := (s.tiles.filter fun t => (s.rport t.port).paired && t.holder == some dev).length

/-- Whether this unit is the one that releases when two SOLO units mend (R426): it holds fewer tiles, or as many and the rule of R408
prefers the other. -/
def State.mendReleases (s : State) : Bool :=
  let own := s.heldBy s.cfg.devNum
  let other := s.heldBy s.partnerDev
  if own == other then !(s.preferred s.rl.pStandby) else own < other

/-- Mending (R426, R427): the unit that is to release does so; while claims are outstanding it waits. -/
def State.mend (s : State) : State :=
  if s.mendable && !s.claimsOpen && s.mendReleases then s.release else s

/-- MEND_TIMER (R426): the conditions have held for MEND_S seconds. -/
def execMendTimer (s : State) : Host.Outcome State Fault Refusal :=
  let n := wfld (s.rws Reg.relayCfg) 7 0
  match s.rl.mendTick with
  | some t => if n != 0 && s.past t (n * secT) then .next s.mend else .next s
  | none => .next s

/-- A write to RELAY_CTRL (R425, R426): with KEY 0x6E1A, a handover of an ACTIVE unit, or mending. -/
def State.writeRelayCtrl (s : State) (value : Word) : State :=
  if wfld value 31 16 != 0x6E1A then s
  else
    let s := if wbit value 0 then s.releaseIfActive else s
    if wbit value 1 then s.mend else s

/-- HANDOVER (R425). -/
def execHandover (value : Word) (s : State) : Host.Outcome State Fault Refusal := .next (s.writeRelayCtrl (wput value 0 0 1))

/-- MEND (R426). -/
def execMend (value : Word) (s : State) : Host.Outcome State Fault Refusal := .next (s.writeRelayCtrl (wput value 1 1 1))

/-- STATE of RELAY_PORT. -/
def State.rportCode (s : State) (p : Nat) : Nat :=
  if !(s.shared p) then 0 else if (s.rport p).split then 3 else if (s.rport p).paired then 2 else 1

/-- The relay's registers. -/
def State.readRelay (s : State) (off : Nat) : Option Word :=
  let r := s.rl
  let m := fun (f : Nat → Bool) => maskOf ((List.range 16).map f)
  if off == Reg.relayStatus then
    some (Word.of (at_ r.role.code 29 + at_ (b2n r.up) 28 + at_ (b2n r.fit) 27 + at_ (b2n r.cold) 26 + at_ (b2n s.digestOk) 25
      + at_ (b2n r.release.isSome) 24 + at_ s.partnerDev 20 + at_ (b2n (s.pathUp 1)) 17 + at_ (b2n (s.pathUp 0)) 16))
  else if off == Reg.relayCtrl then some 0
  else if off == Reg.relayPorts then some (Word.of (at_ (m fun p => (s.rport p).split) 16 + m fun p => (s.rport p).paired))
  else if off == Reg.relayTakeoverUs then some (Word.of r.takeUs)
  else if off == Reg.relayOffset then some (Word.of (sat32 r.offset))
  else if 0x2A00040 ≤ off && off < 0x2A00060 then some (Word.of (leAt r.digest (off - 0x2A00040) 4))
  else if 0x2A00100 ≤ off && off < 0x2A00140 then
    let p := (off - 0x2A00100) / 4
    some (Word.of (at_ (s.rport p).partner 28 + at_ (s.heldOn p) 22 + at_ (s.port p).census.found 16 + at_ (s.rportCode p) 13))
  else none

end Sys2Proof.Machine
end

