-- ==== Sys2Proof/Machine/Registers.lean ====
section
/-! DEFINITION. BAR0 accesses (R11 to R13, R249 to R252, R449 to R457): what every register reads as, and the effect of a write on any of
them, with the command REGISTER_WRITE. -/

namespace Sys2Proof.Machine

/-- Identity, FEATURE and the seal's registers (R449 to R453, R456). -/
def State.readIdent (s : State) (off : Nat) : Option Word :=
  let b := s.boot
  if off == Reg.idDevice then
    some (Word.of (at_ s.variant.deviceId 16 + 0x1E6D))
  else if off == Reg.idRevision then some (Word.of 0x11)
  else if off == Reg.idVariant then some (Word.of s.variant.code)
  else if off == Reg.feature then some s.variant.feature
  else if off == Reg.featureCap then some s.variant.featureCap
  else if off == Reg.sealStatus then
    some (Word.of (match b.sealWhen with | .notYet => 0 | .endSb4 => at_ 1 31 + at_ 1 29 | .limpSb4 => at_ 1 31 + at_ 2 29 | .sb4Time => at_ 1 31 + at_ 3 29))
  else if off == Reg.sealSplitLo then some (Word.of (b.sealSplit % 2 ^ 32))
  else if off == Reg.sealSplitHi then some (Word.of (b.sealSplit / 2 ^ 32))
  else if off == Reg.sealLast then some (Word.of (at_ (b2n b.sealSeen) 31 + at_ (b2n b.sealCore) 30 + b.sealOff))
  else none

/-- The first view that shows a register. -/
def firstView (l : List (Option Word)) : Option Word := l.findSome? id

/-- A register that shows state kept elsewhere than in the register files. -/
def State.readView (s : State) (off : Nat) : Option Word :=
  if off < 0x200000 then firstView [s.readIdent off, s.readBoot off, s.readNvm off]
  else if off < 0x400000 then s.readSec off
  else if off < 0x500000 then s.readEvents off
  else if off < 0x600000 then s.readFaults off
  else if off < 0x800000 then firstView [s.readTb off, s.readPtp off]
  else if off < 0xC00000 then firstView [s.readNet off, s.readViews off]
  else if off < 0x1000000 then firstView [s.readHost off, s.readStaging off]
  else if off < 0x1400000 then firstView [s.readCues off, s.readViews off]
  else if off < 0x1800000 then s.readLamps off
  else if off < 0x1C00000 then firstView [s.readPlans off, s.readLegs off, s.readLamps off]
  else if off < 0x2000000 then firstView [s.readLanes off, s.readTiles off]
  else if off < 0x2800000 then s.readMem off
  else if off < 0x2A00000 then firstView [s.readPacer off, s.readHurdle off]
  else if off < 0x2C00000 then s.readRelay off
  else s.readHk off

/-- The value of a register's stored fields. -/
def State.stored (s : State) (off : Nat) : Word :=
  match regFind off with
  | none => 0
  | some r => (s.rws off &&& Word.of r.rws) ||| (s.rw off &&& Word.of r.rw) ||| (Word.of (s.cnt off) &&& Word.of r.w1c)

/-- What a register reads as (R8, R11, R450, R455): absent bits, and an offset that names no register, read 0. -/
def State.readReg (s : State) (off : Nat) : Word :=
  match regFind off with
  | none => 0
  | some _ => ((s.readView off).getD (s.stored off)) &&& Word.of (allBits - s.variant.absent off)

/-- The attach registers (R252). -/
def attachOff (off : Nat) : Bool := 0xC00014 ≤ off && off < 0xC00030

/-- What else a write of settings before the seal brings: the choice of source from SRC_EN (R226), the nominal increment judged and the
present one with its correction brought to it (R223), the events of MEM_CFG (R285), the levels of the pins (R131), and the stop of a port that is no longer enabled
(R137). -/
def State.settingDone (s : State) (off oldNom : Nat) : State :=
  if off == Reg.tbCfg then { s with tb := { s.tb with judge := true } }
  else if off == Reg.tbIncrNomLo || off == Reg.tbIncrNomHi then
    let ok := incrOk (incrOf s.regs.rws)
    let s := { s with regs := { s.regs with rws := fixIncr s.regs.rws } }
    let s := if ok then s else s.ev Ev.tbIncrDefaulted []
    { s with tb := { s.tb with incr := s.tb.incr * s.nomIncr / oldNom } }
  else if off == Reg.memCfg then s.memSettings
  else if off == Reg.pinCtrl then s.showPins
  else (idxs 16 fun p => off == Reg.portCfg p && !(s.portOn p) && (s.port p).clock).foldl State.stopClock s

/-- A write to a register's RWS fields (R13, R456): before the seal the value is set, with settings out of range replaced and recorded;
after it a write that would change it is a violation. What a core writes to a training register is kept by the seal. -/
def State.putRws (s : State) (who : Requester) (off : Nat) (value : Word) : State :=
  let m := s.rwsMask off
  if m == 0 then s else
  let old := s.rws off
  let raw := rwsNew m old value
  let new := fixReg off raw
  if s.boot.sealWhen != .notYet then (if new == old then s else s.violation who off)
  else
    let s := ((fixEvents off raw).foldl (fun s x => s.ev x.1 x.2) ((s.tried who off value).setRws off new)).settingDone off s.nomIncr
    match who with
    | .host => s
    | .core _ => if trainOff off then { s with mem := { s.mem with trained := Sparse.set rwsReset s.mem.trained off new } } else s

/-- A write to the W1C, RW and RWS fields of a register without an effect of its own (R11, R12). A count is cleared by all ones only. -/
def State.putPlain (s : State) (who : Requester) (off : Nat) (value : Word) : State :=
  match regFind off with
  | none => s
  | some r =>
    let s := if r.w1c != 0 && value.toNat &&& r.w1c == r.w1c then s.clearCnt off else s
    let s := if r.rw != 0 then s.setRw off (Word.of (value.toNat &&& r.rw)) else s
    s.putRws who off value

/-- A write to a register of the fault and event blocks; none for one without an effect of its own. -/
def State.writeCore (s : State) (who : Requester) (off : Nat) (v : Word) : Option State :=
  let at4 := fun (base n : Nat) => decide (base ≤ off ∧ off < base + 4 * n)
  if off == Reg.evtGlobal then some (s.writeEvtGlobal who v)
  else if off == Reg.evtHostCi then some (s.writeCi v)
  else if 0x400100 ≤ off && off < 0x400180 then
    let c := (off - 0x400100) / 0x20
    match off % 0x20 with
    | 0x00 => some (s.writeEvtCore who c v)
    | 0x08 => some (s.writePop who c v)
    | 0x0C => some (s.writeDone who c v)
    | _ => none
  else if at4 0x401000 512 then some (s.writeRoute who ((off - 0x401000) / 4) v)
  else if off == Reg.faultStatus then
    some (if wbit v 24 then { s with flt := { s.flt with unknown := false } } else s)
  else if off == Reg.feStatus then
    some (if wbit v 31 then s.clearFe else s)
  else if off == Reg.faultClear then some (s.writeFaultClear v)
  else if off == Reg.holdRequest then some (s.writeHoldRequest v)
  else if off == Reg.faultLogRead then some (s.writeLogRead v)
  else if off == Reg.activeRead then some (s.writeActiveRead v)
  else if at4 (Reg.coreKick 0) 4 then some (s.writeKick who ((off - Reg.coreKick 0) / 4) v)
  else none

/-- A write to a register of the starting blocks, NVM and security blocks. Whether the fuses of an enrolment read back is a free value. -/
def State.writeSecure (s : State) (off : Nat) (v : Word) : Option State :=
  let at4 := fun (base n : Nat) => decide (base ≤ off ∧ off < base + 4 * n)
  let k := fun (base : Nat) => (off - base) / 4
  if off == Reg.sbCtrl then some (s.writeSbCtrl v)
  else if off == Reg.journalRead then some (s.writeJournalRead v)
  else if at4 (Reg.ownerHash 0) 8 then some (s.writeOwnerHash (k (Reg.ownerHash 0)) v)
  else if off == Reg.ownerEnrol then
    let (w, s) := s.draw
    some (s.writeEnrol v (wbit w 0))
  else if at4 (Reg.attestNonce 0) 8 then some (s.writeNonce (k (Reg.attestNonce 0)) v)
  else if off == Reg.attestCtrl then some (s.writeAttest v)
  else if at4 (Reg.debugToken 0) 48 then
    some { s with sec := { s.sec with token := putWord s.sec.token (k (Reg.debugToken 0)) v } }
  else if off == Reg.debugCtrl then some (s.writeDebug v)
  else if off == Reg.secZeroise then some (s.writeZeroise v)
  else none

/-- A write to a register of the other blocks that has an effect of its own. -/
def State.writeWork (s : State) (off : Nat) (v : Word) : Option State :=
  if off == Reg.tbRestep then some (s.writeRestep v)
  else if off == Reg.hostAttach then some (s.writeAttach v)
  else if attachOff off then (if s.host.attached then some (s.bump Reg.hostBadAccess) else none)
  else if off == Reg.stageCtrl then some (s.writeStageCtrl v)
  else if off == Reg.cueGo then some (s.writeCueGo v)
  else if off == Reg.sceneQuery then some (s.writeSceneQuery v)
  else if 0x1001000 ≤ off && off < 0x1001100 then
    let n := (off - 0x1001000) / 0x10
    match off % 0x10 with
    | 0x00 => some (s.writeFenceLo n v)
    | 0x04 => some (s.writeFenceHi n v)
    | _ => none
  else if off == Reg.lampRecheck then some (s.writeRecheck v)
  else if off == Reg.lampWatch then some (s.writeWatch v)
  else if off == Reg.planCue then some (s.writePlanCue v)
  else if off == Reg.hurdleQuery then some (s.writeHurdleQuery v)
  else if off == Reg.relayCtrl then some (s.writeRelayCtrl v)
  else none

/-- A DWORD written to BAR0 (R8, R12, R450, R455). -/
def State.writeReg (s : State) (who : Requester) (off : Nat) (v : Word) : State :=
  match regFind off with
  | none => s
  | some _ =>
    if s.variant.absent off == allBits then s
    else ((s.writeCore who off v).orElse fun _ => (s.writeSecure off v).orElse fun _ => s.writeWork off v).getD (s.putPlain who off v)

/-- The DWORDs of a write in ascending address order (R249). -/
def State.writeWords (who : Requester) : Nat → List Word → State → State
  | _, [], s => s
  | off, w :: ws, s => State.writeWords who (off + 4) ws (s.writeReg who off w)

/-- Whether a host write has byte enables that R249 does not take; of one DWORD only the first matter. -/
def badEnables (n : Nat) (first last : BitVec 4) : Bool := first != 15 || (2 ≤ n && last != 15)

/-- REGISTER_WRITE (R11 to R13, R249, R250, R456): a write of one or more DWORDs at a BAR0 offset. A host write with other byte enables than
0b1111 is ignored in full and counted. -/
def execRegisterWrite (who : Requester) (off : BitVec 26) (first last : BitVec 4) (data : List Word) (s : State) :
    Host.Outcome State Fault Refusal :=
  if who == .host && badEnables data.length first last then .next (s.bump Reg.hostBadAccess)
  else .next (State.writeWords who (off.toNat / 4 * 4) data s)

end Sys2Proof.Machine
end

