-- ==== Sys2Proof/Machine/Dispatch.lean ====
section
/-! DEFINITION. One arm per command: the meaning it calls. -/

namespace Sys2Proof.Machine

def exec (i : Instr) (s : State) : Host.Outcome State Fault Refusal :=
  match i with
  | .registerWrite who off first last data => Sys2Proof.Machine.execRegisterWrite who off first last data s
  | .bar2Read addr len => Sys2Proof.Machine.execBar2Read addr len s
  | .bar2Write addr data => Sys2Proof.Machine.execBar2Write addr data s
  | .cueGo value => Sys2Proof.Machine.execCueGo value s
  | .cueFlush value => Sys2Proof.Machine.execCueFlush value s
  | .hsFenceHiWrite surf value => Sys2Proof.Machine.execHsFenceHiWrite surf value s
  | .hsFenceLoWrite surf value => Sys2Proof.Machine.execHsFenceLoWrite surf value s
  | .sceneQueryWrite value => Sys2Proof.Machine.execSceneQueryWrite value s
  | .lampRecheck value => Sys2Proof.Machine.execLampRecheck value s
  | .lampWatchWrite value => Sys2Proof.Machine.execLampWatchWrite value s
  | .planCue value => Sys2Proof.Machine.execPlanCue value s
  | .tbRestep value => Sys2Proof.Machine.execTbRestep value s
  | .tbNowNsRead => Sys2Proof.Machine.execTbNowNsRead s
  | .attach value => Sys2Proof.Machine.execAttach value s
  | .detach value => Sys2Proof.Machine.execDetach value s
  | .stageGo value => Sys2Proof.Machine.execStageGo value s
  | .stageAbort value => Sys2Proof.Machine.execStageAbort value s
  | .evtHostCiWrite value => Sys2Proof.Machine.execEvtHostCiWrite value s
  | .evtPop who core value => Sys2Proof.Machine.execEvtPop who core value s
  | .evtDone who core value => Sys2Proof.Machine.execEvtDone who core value s
  | .evtCoreStateWrite who core value => Sys2Proof.Machine.execEvtCoreStateWrite who core value s
  | .evtLineEnableWrite who core value => Sys2Proof.Machine.execEvtLineEnableWrite who core value s
  | .evtRouteWrite who src value => Sys2Proof.Machine.execEvtRouteWrite who src value s
  | .faultClear value => Sys2Proof.Machine.execFaultClear value s
  | .faultClearAll value => Sys2Proof.Machine.execFaultClearAll value s
  | .holdRequest value => Sys2Proof.Machine.execHoldRequest value s
  | .faultLogRead value => Sys2Proof.Machine.execFaultLogRead value s
  | .activeRead value => Sys2Proof.Machine.execActiveRead value s
  | .journalRead value => Sys2Proof.Machine.execJournalRead value s
  | .journalReadDone => Sys2Proof.Machine.execJournalReadDone s
  | .restart value => Sys2Proof.Machine.execRestart value s
  | .restartTakesEffect => Sys2Proof.Machine.execRestartTakesEffect s
  | .ownerEnrol value blown => Sys2Proof.Machine.execOwnerEnrol value blown s
  | .attestNonceWrite word value => Sys2Proof.Machine.execAttestNonceWrite word value s
  | .attestGo value => Sys2Proof.Machine.execAttestGo value s
  | .attestReportDone => Sys2Proof.Machine.execAttestReportDone s
  | .debugSubmit value => Sys2Proof.Machine.execDebugSubmit value s
  | .zeroise value => Sys2Proof.Machine.execZeroise value s
  | .zeroisePermanent value => Sys2Proof.Machine.execZeroisePermanent value s
  | .handover value => Sys2Proof.Machine.execHandover value s
  | .mend value => Sys2Proof.Machine.execMend value s
  | .hurdleQueryWrite value => Sys2Proof.Machine.execHurdleQueryWrite value s
  | .hurdleQueryDone => Sys2Proof.Machine.execHurdleQueryDone s
  | .coreKick who core value => Sys2Proof.Machine.execCoreKick who core value s
  | .coreWdtExpiry core => Sys2Proof.Machine.execCoreWdtExpiry core s
  | .portStopComplete unit => Sys2Proof.Machine.execPortStopComplete unit s
  | .holdTimeExpiry => Sys2Proof.Machine.execHoldTimeExpiry s
  | .pcieLinkTrained speed width flit conf => Sys2Proof.Machine.execPcieLinkTrained speed width flit conf s
  | .pcieLinkDown => Sys2Proof.Machine.execPcieLinkDown s
  | .functionLevelReset => Sys2Proof.Machine.execFunctionLevelReset s
  | .hotReset => Sys2Proof.Machine.execHotReset s
  | .d3hotEntry => Sys2Proof.Machine.execD3hotEntry s
  | .busMasterEnableClear => Sys2Proof.Machine.execBusMasterEnableClear s
  | .pePerstAssert => Sys2Proof.Machine.execPePerstAssert s
  | .pePerstRelease => Sys2Proof.Machine.execPePerstRelease s
  | .pullCompletionRx surf status data => Sys2Proof.Machine.execPullCompletionRx surf status data s
  | .pullCompletionTimeout surf => Sys2Proof.Machine.execPullCompletionTimeout surf s
  | .hsPullComplete surf => Sys2Proof.Machine.execHsPullComplete surf s
  | .stagePullDone entries data fail => Sys2Proof.Machine.execStagePullDone entries data fail s
  | .stageCheckDone => Sys2Proof.Machine.execStageCheckDone s
  | .stageEraseResume => Sys2Proof.Machine.execStageEraseResume s
  | .stageEraseDone run => Sys2Proof.Machine.execStageEraseDone run s
  | .stageProgramDone run => Sys2Proof.Machine.execStageProgramDone run s
  | .stageVerifyDone => Sys2Proof.Machine.execStageVerifyDone s
  | .hostRingWrite => Sys2Proof.Machine.execHostRingWrite s
  | .indexBlockTimer => Sys2Proof.Machine.execIndexBlockTimer s
  | .legBoundary => Sys2Proof.Machine.execLegBoundary s
  | .pinPulseStart leg => Sys2Proof.Machine.execPinPulseStart leg s
  | .pinPulseEnd leg => Sys2Proof.Machine.execPinPulseEnd leg s
  | .planCueFixPoint => Sys2Proof.Machine.execPlanCueFixPoint s
  | .restepDecisionPoint => Sys2Proof.Machine.execRestepDecisionPoint s
  | .lapFrameSend port => Sys2Proof.Machine.execLapFrameSend port s
  | .scheduleOccurrence entry => Sys2Proof.Machine.execScheduleOccurrence entry s
  | .blockCorrectionDue view block => Sys2Proof.Machine.execBlockCorrectionDue view block s
  | .sendDeadline port pos leg seg => Sys2Proof.Machine.execSendDeadline port pos leg seg s
  | .viewComposeDone view => Sys2Proof.Machine.execViewComposeDone view s
  | .probeCountSecond => Sys2Proof.Machine.execProbeCountSecond s
  | .tileTempStale port pos => Sys2Proof.Machine.execTileTempStale port pos s
  | .delayRecompute => Sys2Proof.Machine.execDelayRecompute s
  | .ptpAnnounce sub data => Sys2Proof.Machine.execPtpAnnounce sub data s
  | .ptpSync sub data phase => Sys2Proof.Machine.execPtpSync sub data phase s
  | .ptpFollowUp sub data => Sys2Proof.Machine.execPtpFollowUp sub data s
  | .ptpDelayResp sub data => Sys2Proof.Machine.execPtpDelayResp sub data s
  | .ptpPdelayReq sub data phase => Sys2Proof.Machine.execPtpPdelayReq sub data phase s
  | .ptpPdelayResp sub data phase => Sys2Proof.Machine.execPtpPdelayResp sub data phase s
  | .ptpPdelayRespFollowUp sub data => Sys2Proof.Machine.execPtpPdelayRespFollowUp sub data s
  | .ptpManagement sub data => Sys2Proof.Machine.execPtpManagement sub data s
  | .ptpSignaling sub data => Sys2Proof.Machine.execPtpSignaling sub data s
  | .delayReqSend slot phase => Sys2Proof.Machine.execDelayReqSend slot phase s
  | .pdelayReqSend slot phase => Sys2Proof.Machine.execPdelayReqSend slot phase s
  | .announceReceiptTimeout slot => Sys2Proof.Machine.execAnnounceReceiptTimeout slot s
  | .syncIntervalMiss slot => Sys2Proof.Machine.execSyncIntervalMiss slot s
  | .sourceRevertTimer => Sys2Proof.Machine.execSourceRevertTimer s
  | .laprefPulse width phase => Sys2Proof.Machine.execLaprefPulse width phase s
  | .laprefEdgeTimeout => Sys2Proof.Machine.execLaprefEdgeTimeout s
  | .refClkStop => Sys2Proof.Machine.execRefClkStop s
  | .ethFrameRx sub rx data => Sys2Proof.Machine.execEthFrameRx sub rx data s
  | .arpRequest sub data => Sys2Proof.Machine.execArpRequest sub data s
  | .igmpQuery sub data => Sys2Proof.Machine.execIgmpQuery sub data s
  | .igmpReportTimer sub => Sys2Proof.Machine.execIgmpReportTimer sub s
  | .flowPacketRx flow sec data => Sys2Proof.Machine.execFlowPacketRx flow sec data s
  | .flowFrameClose flow => Sys2Proof.Machine.execFlowFrameClose flow s
  | .flowPathTimeout flow sec => Sys2Proof.Machine.execFlowPathTimeout flow sec s
  | .flowLeaveTimer flow => Sys2Proof.Machine.execFlowLeaveTimer flow s
  | .cueDatagramRx sub data => Sys2Proof.Machine.execCueDatagramRx sub data s
  | .cueDatagramAccept => Sys2Proof.Machine.execCueDatagramAccept s
  | .relayDelayedAccept => Sys2Proof.Machine.execRelayDelayedAccept s
  | .monitorPacketSend => Sys2Proof.Machine.execMonitorPacketSend s
  | .ethLinkChange sub up hiSer => Sys2Proof.Machine.execEthLinkChange sub up hiSer s
  | .memRequest port addr write level busy => Sys2Proof.Machine.execMemRequest port addr write level busy s
  | .memReadBurst pc sev hit => Sys2Proof.Machine.execMemReadBurst pc sev hit s
  | .refreshDue pc => Sys2Proof.Machine.execRefreshDue pc s
  | .pageIdleTimeout pc bank => Sys2Proof.Machine.execPageIdleTimeout pc bank s
  | .stackTempReading stack temp => Sys2Proof.Machine.execStackTempReading stack temp s
  | .stackReadTimeout stack => Sys2Proof.Machine.execStackReadTimeout stack s
  | .stackQuiet stack step => Sys2Proof.Machine.execStackQuiet stack step s
  | .stackWake stack need => Sys2Proof.Machine.execStackWake stack need s
  | .stackExitDone stack => Sys2Proof.Machine.execStackExitDone stack s
  | .parityAlert pc cmd => Sys2Proof.Machine.execParityAlert pc cmd s
  | .parityAlertClear pc again => Sys2Proof.Machine.execParityAlertClear pc again s
  | .trimSlotDue pc => Sys2Proof.Machine.execTrimSlotDue pc s
  | .trimSlotEnd pc found eye centre => Sys2Proof.Machine.execTrimSlotEnd pc found eye centre s
  | .hbmTrainingDone eyes fails lampBase place => Sys2Proof.Machine.execHbmTrainingDone eyes fails lampBase place s
  | .fabricTrimDone lines => Sys2Proof.Machine.execFabricTrimDone lines s
  | .fabricStallTimeout stage => Sys2Proof.Machine.execFabricStallTimeout stage s
  | .hurdleCheckDone => Sys2Proof.Machine.execHurdleCheckDone s
  | .resetRelease => Sys2Proof.Machine.execResetRelease s
  | .resetAssert => Sys2Proof.Machine.execResetAssert s
  | .sbStageComplete report => Sys2Proof.Machine.execSbStageComplete report s
  | .sbStageTimeout report => Sys2Proof.Machine.execSbStageTimeout report s
  | .slateLoadDone => Sys2Proof.Machine.execSlateLoadDone s
  | .warmSourceTimeout => Sys2Proof.Machine.execWarmSourceTimeout s
  | .nvmOpDone ok => Sys2Proof.Machine.execNvmOpDone ok s
  | .nvmGraceTimeout => Sys2Proof.Machine.execNvmGraceTimeout s
  | .entropyHealthFailure test => Sys2Proof.Machine.execEntropyHealthFailure test s
  | .portEnable port => Sys2Proof.Machine.execPortEnable port s
  | .portBlocksStart port => Sys2Proof.Machine.execPortBlocksStart port s
  | .portStartTimeout port => Sys2Proof.Machine.execPortStartTimeout port s
  | .portRestartTimer port => Sys2Proof.Machine.execPortRestartTimer port s
  | .alignSend => Sys2Proof.Machine.execAlignSend s
  | .upAlignRx port count echo bip rt => Sys2Proof.Machine.execUpAlignRx port count echo bip rt s
  | .alignMissed port => Sys2Proof.Machine.execAlignMissed port s
  | .upstreamLockLoss port => Sys2Proof.Machine.execUpstreamLockLoss port s
  | .idleEntry port => Sys2Proof.Machine.execIdleEntry port s
  | .idleExit port => Sys2Proof.Machine.execIdleExit port s
  | .chainFrameStart port => Sys2Proof.Machine.execChainFrameStart port s
  | .chainTxDry port => Sys2Proof.Machine.execChainTxDry port s
  | .beaconSend => Sys2Proof.Machine.execBeaconSend s
  | .calStart port => Sys2Proof.Machine.execCalStart port s
  | .calDropChange port => Sys2Proof.Machine.execCalDropChange port s
  | .calPatternEnd port eye ctle phase => Sys2Proof.Machine.execCalPatternEnd port eye ctle phase s
  | .calRestoreChange port => Sys2Proof.Machine.execCalRestoreChange port s
  | .calReportTimeout port => Sys2Proof.Machine.execCalReportTimeout port s
  | .statusFrameRx port loss data => Sys2Proof.Machine.execStatusFrameRx port loss data s
  | .censusDataRx port loss data => Sys2Proof.Machine.execCensusDataRx port loss data s
  | .censusEnumTimeout port => Sys2Proof.Machine.execCensusEnumTimeout port s
  | .censusReadTimeout port => Sys2Proof.Machine.execCensusReadTimeout port s
  | .ageAckTimeout port pos => Sys2Proof.Machine.execAgeAckTimeout port pos s
  | .batonClaimRepeat => Sys2Proof.Machine.execBatonClaimRepeat s
  | .relayHeartbeatSend => Sys2Proof.Machine.execRelayHeartbeatSend s
  | .relayHeartbeatRx data standby => Sys2Proof.Machine.execRelayHeartbeatRx data standby s
  | .relayLinkTimeout lanes => Sys2Proof.Machine.execRelayLinkTimeout lanes s
  | .relayLinkRetrim => Sys2Proof.Machine.execRelayLinkRetrim s
  | .relayTrimDone valid => Sys2Proof.Machine.execRelayTrimDone valid s
  | .relayTrainSend => Sys2Proof.Machine.execRelayTrainSend s
  | .relayTimeSend => Sys2Proof.Machine.execRelayTimeSend s
  | .relayTimeRx data mark age => Sys2Proof.Machine.execRelayTimeRx data mark age s
  | .relayCueRx data => Sys2Proof.Machine.execRelayCueRx data s
  | .relayTileRx data => Sys2Proof.Machine.execRelayTileRx data s
  | .relayLampRx data => Sys2Proof.Machine.execRelayLampRx data s
  | .relayFlushRx data => Sys2Proof.Machine.execRelayFlushRx data s
  | .relaySigsRx data => Sys2Proof.Machine.execRelaySigsRx data s
  | .relayDelaysRx data => Sys2Proof.Machine.execRelayDelaysRx data s
  | .relayCensusReadyRx data => Sys2Proof.Machine.execRelayCensusReadyRx data s
  | .relayPlaceRx data => Sys2Proof.Machine.execRelayPlaceRx data s
  | .relayHandoverRx data => Sys2Proof.Machine.execRelayHandoverRx data s
  | .partnerBeaconRx port data => Sys2Proof.Machine.execPartnerBeaconRx port data s
  | .heartbeatPathMiss chain => Sys2Proof.Machine.execHeartbeatPathMiss chain s
  | .pairingTimeout => Sys2Proof.Machine.execPairingTimeout s
  | .handoverSilenceEnd => Sys2Proof.Machine.execHandoverSilenceEnd s
  | .mendTimer => Sys2Proof.Machine.execMendTimer s
  | .hkSlot reading => Sys2Proof.Machine.execHkSlot reading s
  | .shutdownClockStop => Sys2Proof.Machine.execShutdownClockStop s
  | .feedPresent feedB => Sys2Proof.Machine.execFeedPresent feedB s
  | .feedAbsent feedB => Sys2Proof.Machine.execFeedAbsent feedB s
  | .powerLoss => Sys2Proof.Machine.execPowerLoss s
  | .upstreamBlockLock port => Sys2Proof.Machine.execUpstreamBlockLock port s
  | .refClkStart => Sys2Proof.Machine.execRefClkStart s
  | .debugTapAccess op => Sys2Proof.Machine.execDebugTapAccess op s

end Sys2Proof.Machine
end

