-- ==== Sys2Proof/Machine/Tick.lean ====
section
/-! DEFINITION. A tick of the 625 MHz time base (R222, R223). -/

namespace Sys2Proof.Machine

/-- The local time counter after one tick: the increment is added, with the nanoseconds carried into seconds (R222, R223), and the transmit
clocks go on with it (R135). -/
def TimeBase.advance (t : TimeBase) : TimeBase :=
  let f := t.frac + t.incr
  let ns := t.ns + f / 2 ^ 32
  { t with frac := f % 2 ^ 32, run := t.run + t.incr, ns := ns % 1000000000, sec := (t.sec + ns / 1000000000) % 2 ^ 48 }

/-- What a tick settles as it ends, once everything that it brings has come: the choice of source (Table 8.6), the fence values that
the tick's latch left (R59), entry into full service or limp service (Table 12.6), and FABRIC_SLOW (Table 11.6). -/
def State.settle (s : State) : State := s.settleSource.settleFences.settleStage.settleSlow

/-- One tick: what the tick before has to settle, then the counter advances from the release of RESET_N on, the memory controllers
take their turns, and reads of host memory that are due are sent. -/
def tick (s : State) : State :=
  let s := s.settle
  let s := { s with ticks := s.ticks + 1, regs := { s.regs with cnt0 := s.regs.cnt } }
  if s.boot.running then { s with tb := s.tb.advance }.memTick.hostPace.hdrTidy else s

end Sys2Proof.Machine
end

