-- ==== Sys2Proof/WellFormed.lean ====
section
/-! DEFINITION. Which commands the interface can bring: the operands' shapes that the types do not say. The meanings are total, so an
ill-formed command has an outcome too; no claim needs one. -/

namespace Sys2Proof

/-- A run of `n` bytes at `addr` lies within BAR2, 64 GiB (R250, R251) and holds at least one byte. -/
def spanOk (addr n : Nat) : Bool := 0 < n && addr + n ≤ 2 ^ 36

/-- KEY in bits 31:16 of a keyed write (R321, R358, R369, R397, R425). -/
def keyOk (value : Word) (key : Nat) : Bool := value.toNat / 65536 == key

/-- Whether a requester is a management core: the rows of R377 and R398 are a core's writes. -/
def Requester.isCore : Requester → Bool
  | .host => false
  | .core _ => true

/-- What a stage reports: nine self-tests (Table 14.7), four Ethernet ports, 16 chain ports (R313 to R321). -/
def StageReport.wf (r : StageReport) : Bool := r.tests.length == 9 && r.ethLoop.length == 4 && r.chainLoop.length == 16

/-- A command whose operands fit its row. -/
def Instr.wf : Instr → Bool
  | .registerWrite _ off _ _ data => off.toNat % 4 == 0 && !data.isEmpty && decide (off.toNat + 4 * data.length ≤ 2 ^ 26)
  | .bar2Read addr len => spanOk addr.toNat len
  | .bar2Write addr data => spanOk addr.toNat data.length
  | .evtPop who _ _ => who.isCore
  | .evtDone who _ _ => who.isCore
  | .evtCoreStateWrite who _ _ => who.isCore
  | .coreKick who _ _ => who.isCore
  | .holdRequest value => keyOk value 0x401D && value.getLsbD 0
  | .restart value => keyOk value 0x5A3C
  | .ownerEnrol value _ => keyOk value 0x0E4C && value.getLsbD 0
  | .zeroise value => keyOk value 0xD1E5
  | .zeroisePermanent value => keyOk value 0xD1E5
  | .handover value => keyOk value 0x6E1A
  | .mend value => keyOk value 0x6E1A
  | .stagePullDone entries _ _ => decide (entries.length ≤ 65536)
  | .scheduleOccurrence entry => decide (entry < 256)
  | .laprefPulse width _ => decide (0 < width)
  | .trimSlotEnd _ found eye centre => !found || (!eye.isEmpty && centre.length == 68)
  | .hbmTrainingDone eyes _ _ place =>
      eyes.all (fun l => l.length == 32) && place.canvasBase.length == 16 && place.flowBase.length == 640 && place.slotBase.length == 48
  | .pcieLinkTrained speed width flit _ => Machine.linkOk speed width flit
  | .stageEraseDone run => decide (0 < run.n)
  | .stageProgramDone run => decide (0 < run.n)
  | .fabricTrimDone lines => lines.length == 4 && lines.all fun l => l.all fun m => m.length == 4
  | .sbStageComplete report => report.wf
  | .sbStageTimeout report => report.wf
  | .hkSlot reading => reading.margins.isEmpty || reading.margins.length == 4
  | _ => true

end Sys2Proof
end

