-- ==== Sys2Proof/Safety.lean ====
section
/-! DEFINITION. The terms claims are stated in: which stores are in canonical form, what no command may ever do, and what a frame is. -/

namespace Sys2Proof.Machine

/-- Every sparse store of the state is in canonical form: the three register files, the counters as the tick began, the HBM bytes, what
training wrote, and the flash. -/
def State.wf (s : State) : Prop :=
  Sparse.wf rwsReset s.regs.rws = true ∧ Sparse.wf rwReset s.regs.rw = true ∧ Sparse.wf (fun _ => 0#32) s.regs.cnt = true ∧
  Sparse.wf (fun _ => 0#9) s.mem.bytes = true ∧ Sparse.wf rwsReset s.mem.trained = true ∧ Sparse.wf erased s.nvm.flash = true ∧
  Sparse.wf (fun _ => 0#32) s.regs.cnt0 = true

/-- A queue of records in the order of R375: none stands before one that comes earlier. -/
def inOrder (l : List EvtRec) : Prop := l.Pairwise fun a b => b.ahead a = false

/-- The marshal's queues, the host's and those of the four cores, hold no more than they have room for, in the order of R375 (R376, R381). -/
def Evt.Ordered (e : Evt) : Prop :=
  inOrder e.hostQ ∧ (e.hostQ.length ≤ 2048 ∧ e.cores.length = 4) ∧
  ∀ q ∈ e.cores, inOrder q.normal ∧ q.normal.length ≤ 64 ∧ inOrder q.fast ∧ q.fast.length ≤ 16

/-- The parts of the state that a command may change: one for each of the three register files (RWS fields, RW fields,
W1C counters) and one for each other field but the variant, the ticks and the queue, which no command changes. -/
inductive Part where
  | rws | rw | cnt | evt | flt | hk | boot | nvm | fuses | sec | cfg | tb | tl | sc | warm | ports | tiles | net | host | mem | fab | rl
  | pwr | free | out
  deriving DecidableEq, Repr

/-- A part as a number. -/
def Part.code : Part → Nat
  | .rws => 0 | .rw => 1 | .cnt => 2 | .evt => 3 | .flt => 4 | .hk => 5 | .boot => 6 | .nvm => 7 | .fuses => 8
  | .sec => 9 | .cfg => 10 | .tb => 11 | .tl => 12 | .sc => 13 | .warm => 14 | .ports => 15 | .tiles => 16 | .net => 17
  | .host => 18 | .mem => 19 | .fab => 20 | .rl => 21 | .pwr => 22 | .free => 23 | .out => 24

/-- A part is the same in two states. -/
def Part.same (p : Part) (s t : State) : Prop :=
  match p with
  | .rws => t.regs.rws = s.regs.rws
  | .rw => t.regs.rw = s.regs.rw
  | .cnt => t.regs.cnt = s.regs.cnt ∧ t.regs.cnt0 = s.regs.cnt0
  | .evt => t.evt = s.evt
  | .flt => t.flt = s.flt
  | .hk => t.hk = s.hk
  | .boot => t.boot = s.boot
  | .nvm => t.nvm = s.nvm
  | .fuses => t.fuses = s.fuses
  | .sec => t.sec = s.sec
  | .cfg => t.cfg = s.cfg
  | .tb => t.tb = s.tb
  | .tl => t.tl = s.tl
  | .sc => t.sc = s.sc
  | .warm => t.warm = s.warm
  | .ports => t.ports = s.ports
  | .tiles => t.tiles = s.tiles
  | .net => t.net = s.net
  | .host => t.host = s.host
  | .mem => t.mem = s.mem
  | .fab => t.fab = s.fab
  | .rl => t.rl = s.rl
  | .pwr => t.pwr = s.pwr
  | .free => t.free = s.free
  | .out => t.out = s.out

/-- The bits of a register's RWS fields that only a write changes: all but STATE of EVT_CORE, which the stop and the start of a management
core's unit change too (R380, R399). -/
def writtenBits (off : Nat) (w : Word) : Word :=
  if off == Reg.evtCore 0 || off == Reg.evtCore 1 || off == Reg.evtCore 2 || off == Reg.evtCore 3 then w &&& 0x3FFFFFFF else w

/-- Registers with RWS fields that do change after the seal: those of the events block, which the management cores write at any
time (R387, R451), and PHY_DELAY, which the periodic trim moves (R278). -/
def openAfterSeal (off : Nat) : Bool :=
  (0x400000 ≤ off && off < 0x500000) || (0x02010000 ≤ off && off < 0x02018000 && off % 0x100 < 0x88)

/-- Registers of settings whose write before the seal does more than set them: the sources and the increment of the time base (R223,
R226), MEM_CFG (R285), PIN_CTRL (R131) and the ports' settings (R137). -/
def settingMore (off : Nat) : Bool :=
  off == Reg.tbCfg || off == Reg.tbIncrNomLo || off == Reg.tbIncrNomHi || off == Reg.memCfg || off == Reg.pinCtrl ||
  (List.range 16).any fun p => off == Reg.portCfg p

/-- The seal holds from `s` to `t`: once applied it stays applied, and outside `open_` no RWS field changes (R13, R344). -/
def SealHolds (open_ : Nat → Bool) (s t : State) : Prop :=
  s.boot.sealWhen ≠ .notYet → t.boot.sealWhen = s.boot.sealWhen ∧
    ∀ off, open_ off = false → writtenBits off (t.rws off) = writtenBits off (s.rws off)

/-- A set of parts as the bits of a number. -/
def partMask (l : List Part) : Nat := l.foldl (fun n p => n ||| 2 ^ p.code) 0

/-- A frame: nothing changes but the named parts. -/
def Only (l : List Part) (s t : State) : Prop :=
  t.variant = s.variant ∧ t.ticks = s.ticks ∧ t.pending = s.pending ∧ ∀ p : Part, p ∉ l → p.same s t

/-- What a fault can reach: the log, the events, the hold, a unit's stop, limp service, and what these end (R389 to R401). -/
def faultParts : List Part :=
  [.rws, .cnt, .evt, .flt, .hk, .boot, .nvm, .sec, .tb, .tl, .sc, .ports, .tiles, .net, .host, .fab, .rl, .pwr, .out]

/-- What a start can reach, and a loss of power or a reset (R314 to R322, R465 to R475). -/
def startParts : List Part :=
  [.rws, .rw, .cnt, .evt, .flt, .hk, .boot, .nvm, .sec, .cfg, .tb, .tl, .sc, .warm, .ports, .tiles, .net, .host, .mem, .fab, .rl, .pwr, .out]

/-- The parts that each command may change. -/
def touches : Instr → List Part
  | .sceneQueryWrite .. | .evtHostCiWrite .. | .faultLogRead .. | .activeRead .. => [.rw]
  | .ptpManagement .. | .ptpSignaling .. => [.cnt]
  | .evtPop .. => [.evt]
  | .journalReadDone => [.nvm]
  | .attestNonceWrite .. | .attestGo .. | .attestReportDone => [.sec]
  | .laprefEdgeTimeout => [.tb]
  | .hsFenceHiWrite .. => [.sc]
  | .slateLoadDone => [.warm]
  | .lapFrameSend .. | .portBlocksStart .. | .beaconSend | .batonClaimRepeat | .upstreamBlockLock .. => [.ports]
  | .pePerstRelease => [.host]
  | .pageIdleTimeout .. | .stackQuiet .. | .stackWake .. | .parityAlert .. => [.mem]
  | .hurdleQueryDone => [.fab]
  | .relayLinkRetrim | .relayTrimDone .. => [.rl]
  | .journalRead .. => [.rw, .nvm]
  | .lampWatchWrite .. => [.rw, .tl]
  | .hurdleQueryWrite .. => [.rw, .fab]
  | .evtDone .. => [.cnt, .evt]
  | .syncIntervalMiss .. => [.cnt, .tb]
  | .lampRecheck .. | .tbRestep .. => [.cnt, .tl]
  | .refreshDue .. => [.cnt, .mem]
  | .relayTileRx .. | .relayLampRx .. | .relayFlushRx .. => [.cnt, .rl]
  | .indexBlockTimer => [.evt, .out]
  | .restart .. => [.boot, .nvm]
  | .warmSourceTimeout => [.nvm, .warm]
  | .ownerEnrol .. => [.fuses, .sec]
  | .tbNowNsRead => [.tb, .out]
  | .probeCountSecond => [.tl, .tiles]
  | .calRestoreChange .. | .calReportTimeout .. => [.ports, .tiles]
  | .portEnable .. | .portRestartTimer .. | .alignSend | .alignMissed .. | .idleEntry .. | .calDropChange .. => [.ports, .out]
  | .handover .. | .mend .. | .relayHeartbeatSend | .relayTrainSend | .relayTimeSend | .mendTimer => [.rl, .out]
  | .debugTapAccess .. => [.pwr, .out]
  | .coreKick .. | .holdTimeExpiry => [.cnt, .evt, .flt]
  | .ptpAnnounce .. | .announceReceiptTimeout .. => [.cnt, .evt, .tb]
  | .hsFenceLoWrite .. => [.cnt, .evt, .sc]
  | .portStartTimeout .. => [.cnt, .evt, .ports]
  | .tileTempStale .. => [.cnt, .evt, .tiles]
  | .flowPathTimeout .. | .cueDatagramRx .. => [.cnt, .evt, .net]
  | .trimSlotDue .. => [.cnt, .evt, .mem]
  | .hostRingWrite => [.cnt, .evt, .out]
  | .relayCueRx .. => [.cnt, .tl, .rl]
  | .idleExit .. => [.cnt, .ports, .out]
  | .relayDelaysRx .. => [.cnt, .tiles, .rl]
  | .nvmGraceTimeout => [.nvm, .pwr, .free]
  | .planCueFixPoint => [.tl, .rl, .out]
  | .pinPulseStart .. | .pinPulseEnd .. => [.tl, .pwr, .out]
  | .delayRecompute => [.tiles, .rl, .out]
  | .evtCoreStateWrite .. | .evtLineEnableWrite .. | .evtRouteWrite .. => [.rws, .cnt, .evt, .boot]
  | .trimSlotEnd .. => [.rws, .cnt, .evt, .mem]
  | .stagePullDone .. | .stageCheckDone | .stageEraseResume => [.cnt, .evt, .nvm, .host]
  | .restepDecisionPoint => [.cnt, .evt, .tb, .tl]
  | .ageAckTimeout .. => [.cnt, .evt, .ports, .tiles]
  | .pairingTimeout => [.cnt, .evt, .ports, .rl]
  | .upstreamLockLoss .. | .calPatternEnd .. => [.cnt, .evt, .ports, .out]
  | .memRequest .. => [.cnt, .evt, .mem, .fab]
  | .flowFrameClose .. => [.cnt, .warm, .net, .mem]
  | .relayHandoverRx .. => [.cnt, .ports, .rl, .out]
  | .stackExitDone .. => [.tiles, .host, .mem, .out]
  | .stageVerifyDone => [.cnt, .evt, .nvm, .host, .pwr]
  | .stageGo .. | .stageAbort .. => [.cnt, .evt, .nvm, .host, .out]
  | .hurdleCheckDone => [.cnt, .evt, .tl, .sc, .fab]
  | .hsPullComplete .. => [.cnt, .evt, .sc, .warm, .host]
  | .sendDeadline .. => [.cnt, .evt, .sc, .tiles, .fab]
  | .flowPacketRx .. => [.cnt, .evt, .warm, .net, .mem]
  | .calStart .. => [.cnt, .evt, .ports, .tiles, .out]
  | .bar2Read .. | .bar2Write .. => [.cnt, .tiles, .host, .mem, .out]
  | .portStopComplete .. => [.rws, .cnt, .evt, .flt, .ports, .out]
  | .upAlignRx .. => [.cnt, .evt, .flt, .ports, .tiles, .out]
  | .debugSubmit .. => [.cnt, .evt, .nvm, .sec, .net, .host]
  | .ptpSync .. | .ptpFollowUp .. | .ptpDelayResp .. | .ptpPdelayResp .. | .ptpPdelayRespFollowUp .. | .sourceRevertTimer
  | .laprefPulse .. =>
      [.cnt, .evt, .tb, .tl, .sc, .ports]
  | .blockCorrectionDue .. => [.cnt, .evt, .tl, .sc, .tiles, .fab]
  | .pullCompletionRx .. | .pullCompletionTimeout .. => [.cnt, .evt, .sc, .warm, .host, .mem]
  | .zeroise .. | .zeroisePermanent .. => [.cnt, .evt, .nvm, .fuses, .sec, .net, .host]
  | .pcieLinkTrained .. | .pcieLinkDown | .functionLevelReset | .hotReset | .d3hotEntry | .busMasterEnableClear | .pePerstAssert =>
      [.cnt, .evt, .nvm, .sc, .warm, .host, .mem]
  | .relayTimeRx .. => [.cnt, .evt, .tb, .tl, .sc, .ports, .rl]
  | .faultClear .. | .faultClearAll .. => [.rws, .cnt, .evt, .flt, .ports, .fab, .rl, .out]
  | .viewComposeDone .. => [.cnt, .tl, .sc, .tiles, .net, .mem, .rl, .out]
  | .attach .. | .detach .. => [.rw, .cnt, .evt, .nvm, .sc, .warm, .host, .mem, .out]
  | .chainFrameStart .. => [.cnt, .evt, .tl, .sc, .ports, .tiles, .fab, .rl, .out]
  | .shutdownClockStop => [.cnt, .evt, .flt, .boot, .nvm, .tl, .sc, .warm, .ports, .host, .mem, .fab, .pwr, .out]
  | .holdRequest .. | .coreWdtExpiry .. | .stageProgramDone .. | .ptpPdelayReq .. | .delayReqSend .. | .pdelayReqSend ..
  | .arpRequest .. | .igmpQuery .. | .igmpReportTimer .. | .flowLeaveTimer .. | .ethLinkChange .. | .fabricTrimDone ..
  | .fabricStallTimeout .. | .entropyHealthFailure .. | .chainTxDry .. | .statusFrameRx .. | .relayHeartbeatRx ..
  | .relayLinkTimeout .. | .relaySigsRx .. | .relayCensusReadyRx .. | .relayPlaceRx .. | .partnerBeaconRx .. | .heartbeatPathMiss ..
  | .handoverSilenceEnd | .hkSlot .. =>
      faultParts
  | .cueGo .. | .cueFlush .. | .scheduleOccurrence .. | .cueDatagramAccept | .relayDelayedAccept | .memReadBurst ..
  | .stackTempReading .. | .stackReadTimeout .. | .parityAlertClear .. | .hbmTrainingDone .. | .censusDataRx ..
  | .censusEnumTimeout .. | .censusReadTimeout .. =>
      .mem :: faultParts
  | .stageEraseDone .. | .monitorPacketSend | .nvmOpDone .. => .free :: faultParts
  | .planCue .. => .rw :: .mem :: faultParts
  | .legBoundary | .ethFrameRx .. => .warm :: .mem :: faultParts
  | .sbStageComplete .. | .sbStageTimeout .. => .fuses :: .cfg :: .warm :: .mem :: faultParts
  | .registerWrite .. =>
      [.rws, .rw, .cnt, .evt, .flt, .hk, .boot, .nvm, .fuses, .sec, .tb, .tl, .sc, .warm, .ports, .tiles, .net, .host, .mem, .fab, .rl, .pwr, .free, .out]
  | .refClkStop | .resetAssert | .feedPresent .. | .feedAbsent .. | .refClkStart => startParts
  | .restartTakesEffect | .resetRelease | .powerLoss => .free :: startParts

/-- What holds across every command: the package's variant (R5) and the fuses of manufacture (R352) stay, RETIRED once blown stays blown
(R369), time and the queue are not the command's, what has been sent stays sent, the
marshal's queues stay in order and within their room, and the stores keep their canonical form. -/
structure Lasting (s t : State) : Prop where
  variant : t.variant = s.variant
  ticks   : t.ticks = s.ticks
  pending : t.pending = s.pending
  factory : t.fuses.vendorHash = s.fuses.vendorHash ∧ t.fuses.seed = s.fuses.seed ∧ t.fuses.uid = s.fuses.uid ∧
    t.fuses.cert = s.fuses.cert
  retired : s.fuses.retired = true → t.fuses.retired = true
  sent    : s.out <+: t.out
  drawn   : s.free ≤ t.free
  queues  : s.evt.Ordered → t.evt.Ordered
  wf      : s.wf → t.wf

end Sys2Proof.Machine
end

