-- ==== Sys2Proof/Certificates/Slice0/Obligations.lean ====
section
/-! DEFINITION. The statements for the provers. Each says which numbered rules of the spec it formalises. That a
timed command changes nothing before it is due, and acts whenever it is given after that, is the model's choice (log entry 4). -/

open Sys2Proof Sys2Proof.Machine

/-- For every command c, queue rest and state s whose queue is c followed by rest, a step of s is exec of c on s with the queue's
rest; with an empty queue the step is a tick of the time base (the model's choice, log entry 1). -/
def Obligations.StepRunsTheFrontCommand : Prop :=
  ∀ (s : State) (c : Instr) (rest : List Instr),
    (s.pending = c :: rest → step s = exec c { s with pending := rest }) ∧ (s.pending = [] → step s = .next (tick s))

/-- Commands are first in, first out (the model's form of input, log entry 12): whatever the front command does, the queue after a
step that answers next is the queue's rest, the ticks advance on an idle step only, and on an idle step the queue stays empty. -/
def Obligations.CommandsWaitInOrder : Prop :=
  ∀ (s t : State), step s = .next t →
    t.pending = s.pending.tail ∧ t.ticks = (if s.pending = [] then s.ticks + 1 else s.ticks)

/-- An idle step (a tick, by the model's choice of log entry 1) first settles what the tick before left (nothing, where no choice of
source, superseded fence, entry record or slow fabric is due). In a started device whose counter fields are then in range
(nanoseconds 0 to 999,999,999, fraction below 2^32, seconds below 2^48), it answers a state whose counter, as one number of 2^-32
ns, is the settled one plus the increment modulo 2^48 seconds, whose fields are in range again, whose wall time is the seconds
and nanoseconds of the counter, and of whose parts beyond the settled ones only the counter, the counters of the registers, the
memory, the host link with what it sends, and the NVM changed. -/
def Obligations.IdleTickAdvancesTheCounter : Prop :=
  (∀ s : State, s.pending = [] → let u := s.settle
    u.boot.running = true → u.tb.ns < 1000000000 → u.tb.frac < 2 ^ 32 → u.tb.sec < 2 ^ 48 →
    ∃ t : State, step s = .next t ∧ t.tb.ns < 1000000000 ∧ t.tb.frac < 2 ^ 32 ∧ t.tb.sec < 2 ^ 48 ∧
      (t.tb.sec * 1000000000 + t.tb.ns) * 2 ^ 32 + t.tb.frac =
        ((u.tb.sec * 1000000000 + u.tb.ns) * 2 ^ 32 + u.tb.frac + u.tb.incr) % (2 ^ 48 * 1000000000 * 2 ^ 32) ∧
      t.wall = ((t.tb.sec * 1000000000 + t.tb.ns : Nat) : Int) ∧ t.tb.incr = u.tb.incr ∧ t.tb.run = u.tb.run + u.tb.incr ∧ t.ticks = s.ticks + 1 ∧
      ∀ p : Part, p ∉ [Part.tb, .cnt, .mem, .host, .nvm, .out] → p.same u t) ∧
  ∀ s : State, s.tb.judge = false → (∀ n < 16, (s.fence n).priorLive = false) → s.boot.stageDue = false → s.boot.limpDue = false →
    s.fab.slowDue = false → s.settle = s

/-- No command faults, and none is refused but DEBUG_TAP_ACCESS with an instruction other than boundary scan and identification while
TRST_N is high and a debug scope is open (R484 gives that instruction no effect; log entry 3). -/
def Obligations.CommandsAnswerAState : Prop :=
  ∀ (c : Instr) (s : State),
    (∃ t, exec c s = .next t) ∨ (c = .debugTapAccess .other ∧ s.pwr.trstN = true ∧ s.sec.scope ≠ 0 ∧
      exec c s = .refused .debugInstruction)

/-- Whatever command runs and whatever state it runs in, a next state has the same variant, ticks and waiting queue, the same vendor
hash, seed, identifier and certificate in fuses, RETIRED if it was blown, everything sent before still sent and in the same
order, no free value drawn back, and every sparse store (registers, HBM, flash) in canonical form if it was. -/
def Obligations.CommandsLeaveWhatLasts : Prop :=
  ∀ (c : Instr) (s t : State), exec c s = .next t → Lasting s t

/-- The whole-device frame: for each of the 189 commands, the parts of the state (register files, each block's state, tiles, fuses,
memory, outputs) that touches does not name for it are unchanged whenever it answers a next state, as are the variant, the ticks
and the queue. -/
def Obligations.CommandsTouchOnlyTheirParts : Prop :=
  ∀ (c : Instr) (s t : State), exec c s = .next t → Only (touches c) s t

/-- From every state whose sparse stores are in canonical form (addresses strictly rising, no entry equal to what an unlisted address
reads as), a step that answers a next state answers one whose stores are in canonical form. -/
def Obligations.StepKeepsStoresCanonical : Prop :=
  ∀ s t : State, s.wf → step s = .next t → t.wf

/-- State.reset, the device before power (the model's choice of where reset lies: log entry 2), lists nothing in any store, holds no
waiting command and has sent nothing. -/
def Obligations.ResetIsCanonical : Prop :=
  State.reset.wf ∧ State.reset.pending = [] ∧ State.reset.out = [] ∧ State.reset.boot.running = false ∧ State.reset.ticks = 0

/-- R13 for the host, over every register and every write: after the seal, REGISTER_WRITE by the host answers a state in which the
seal is as it was and every register's RWS bits are as they were. Excepted are only the STATE bits of EVT_CORE, which a unit that
the write starts or stops sets itself (R380, R399). -/
def Obligations.SealStopsHostWrites : Prop :=
  ∀ (s t : State) (off : BitVec 26) (first last : BitVec 4) (data : List Word), s.wf → s.boot.sealWhen ≠ .notYet →
    exec (.registerWrite .host off first last data) s = .next t →
    t.boot.sealWhen = s.boot.sealWhen ∧ ∀ o, writtenBits o (t.rws o) = writtenBits o (s.rws o)

/-- After the seal, every command other than the starting blocks' stages, a restart taking effect, the feeds, the reference clock,
the reset pin and a power loss answers a state in which the seal is as it was and no RWS field has changed outside the events
block (cores write it, R387) and PHY_DELAY (the periodic trim moves it, R278). -/
def Obligations.SealHoldsUntilTheNextStart : Prop :=
  ∀ (c : Instr) (s t : State), s.wf → s.boot.sealWhen ≠ .notYet →
    (match c with
      | .sbStageComplete _ | .sbStageTimeout _ | .restartTakesEffect | .feedPresent _ | .feedAbsent _ | .powerLoss
      | .resetRelease | .resetAssert | .refClkStart | .refClkStop => False
      | _ => True) →
    exec c s = .next t → SealHolds openAfterSeal s t

/-- For splits below 2^40: the distance is the 40-bit difference read as two's complement; 0 exactly for equal splits; a is after b
exactly when it is positive; never both a after b and b after a; and two wall times less than 2^39 ns apart compare through their
splits exactly as the times do. A split is the wall time in nanoseconds modulo 2^40. -/
def Obligations.SplitComparison : Prop :=
  (∀ a b : Nat, a < 2 ^ 40 → b < 2 ^ 40 →
    ((splitDiff a b - ((a : Int) - b)) % 2 ^ 40 = 0 ∧ -2 ^ 39 ≤ splitDiff a b ∧ splitDiff a b < 2 ^ 39 ∧
     (splitDiff a b = 0 ↔ a = b) ∧ (splitAfter a b = true ↔ 0 < splitDiff a b) ∧
     ¬ (splitAfter a b = true ∧ splitAfter b a = true))) ∧
  ∀ x y : Int, x - y < 2 ^ 39 → y - x < 2 ^ 39 →
    ((splitOf x : Int) = x % 2 ^ 40) ∧ (splitAfter (splitOf x) (splitOf y) = true ↔ y < x)

/-- For a lap plan with a positive rate and leg count: global leg boundary m is the least wall time t with (t − epoch) × N × L ≥ m ×
D × 10^9; lap boundary k is leg boundary k × L; boundaries do not fall as m rises; and legFrom and lapFrom give the first
boundary at or after a time. -/
def Obligations.BoundariesAreCeilings : Prop :=
  ∀ (p : LapPlan) (e : Nat), 0 < p.rateN → 0 < p.legs → 0 < p.rateD →
    (∀ m t : Int, p.legAt e m ≤ t ↔ m * (p.rateD * 1000000000 : Nat) ≤ (t - e) * (p.rateN * p.legs : Nat)) ∧
    (∀ k : Int, p.lapAt e k = p.legAt e (k * p.legs)) ∧
    (∀ m n : Int, m ≤ n → p.legAt e m ≤ p.legAt e n) ∧
    (∀ m t : Int, p.legFrom e t ≤ m ↔ t ≤ p.legAt e m) ∧ (∀ k t : Int, p.lapFrom e t ≤ k ↔ t ≤ p.lapAt e k)

/-- From every state whose host queue holds at most 2,048 records and whose four cores' normal and fast queues hold at most 64 and
16, each in the order of stamps, then fast before normal, then lower source, then lower code, a step that answers a next state
answers one of which the same holds. -/
def Obligations.QueuesStayInOrder : Prop :=
  (∀ s t : State, s.evt.Ordered → step s = .next t → t.evt.Ordered) ∧ State.reset.evt.Ordered

/-- A core's POP of a queue that holds a record answers a state in which that queue has lost its head and the head's source is active
on the core; its DONE for a source active there ends one active record of it; a DONE for a source not active there changes only
EVT_INACTIVE_DONE, 16 bits, saturating. Host writes to both are ignored. Queues of other cores, and everything outside the
marshal and that counter, stay. -/
def Obligations.PopAndDone : Prop :=
  ∀ (s : State) (k c : Fin 4) (v : Word), s.wf → s.evt.cores.length = 4 →
    (∀ (r : EvtRec) (rest : List EvtRec), wbit v 0 = true → (s.evt.core c).queue (wbit v 1) = r :: rest →
      ∃ t, exec (.evtPop (.core k) c v) s = .next t ∧ (t.evt.core c).queue (wbit v 1) = rest ∧
        (t.evt.core c).queue (!wbit v 1) = (s.evt.core c).queue (!wbit v 1) ∧
        (t.evt.core c).active = (s.evt.core c).active ++ [r.src] ∧ (∀ d, d ≠ c.val → t.evt.core d = s.evt.core d) ∧
        t.evt.hostQ = s.evt.hostQ ∧ Only [.evt] s t) ∧
    (wbit v 31 = true → (s.evt.core c).active.contains (wfld v 8 0) = true →
      ∃ t, exec (.evtDone (.core k) c v) s = .next t ∧ (t.evt.core c).active = (s.evt.core c).active.erase (wfld v 8 0) ∧
        (∀ f, (t.evt.core c).queue f = (s.evt.core c).queue f) ∧ (∀ d, d ≠ c.val → t.evt.core d = s.evt.core d) ∧ Only [.evt] s t) ∧
    (wbit v 31 = true → (s.evt.core c).active.contains (wfld v 8 0) = false →
      ∃ t, exec (.evtDone (.core k) c v) s = .next t ∧
        t.cnt Reg.evtInactiveDone = min 65535 (s.cnt Reg.evtInactiveDone + 1) ∧
        (∀ o, o ≠ Reg.evtInactiveDone → t.cnt o = s.cnt o) ∧ Only [.cnt] s t) ∧
    exec (.evtPop .host c v) s = .next s ∧ exec (.evtDone .host c v) s = .next s

/-- EVT_HOST_CI_WRITE sets the consumer index; a core's EVT_ROUTE_WRITE of a source present sets TARGET, CLASS, CORE_EN and HOST_EN
and no other register; a core's EVT_LINE_ENABLE_WRITE sets global DISABLE, or the two enables and STATE of its EVT_CORE;
EVT_CORE_STATE_WRITE sets STATE, but OFFLINE is ignored for MC0; a host write to a route after the seal changes no RWS field. -/
def Obligations.EventRegisterWrites : Prop :=
  ∀ (s : State) (k c : Fin 4) (src : Fin 512) (v : Word), s.wf →
    (∃ t, exec (.evtHostCiWrite v) s = .next t ∧ t.rw Reg.evtHostCi = v ∧ (∀ o, o ≠ Reg.evtHostCi → t.rw o = s.rw o) ∧ Only [.rw] s t) ∧
    (s.variant.routeAbsent src = false →
      ∃ t, exec (.evtRouteWrite (.core k) src v) s = .next t ∧
        t.rws (Reg.evtRoute src) = rwsNew 0x73 (s.rws (Reg.evtRoute src)) v ∧
        (∀ o, o ≠ Reg.evtRoute src → t.rws o = s.rws o) ∧ Only [.rws, .evt, .boot] s t ∧
        t.evt = { s.evt with routed := t.evt.routed } ∧ t.boot = { s.boot with tries := t.boot.tries }) ∧
    (s.variant.routeAbsent src = true → exec (.evtRouteWrite (.core k) src v) s = .next s) ∧
    (∃ t, exec (.evtLineEnableWrite (.core k) none v) s = .next t ∧
        t.rws Reg.evtGlobal = rwsNew 1 (s.rws Reg.evtGlobal) v ∧ (∀ o, o ≠ Reg.evtGlobal → t.rws o = s.rws o) ∧ Only [.rws, .boot] s t ∧ t.boot = { s.boot with tries := t.boot.tries }) ∧
    (∀ i : Instr, i = .evtCoreStateWrite (.core k) c v ∨ i = .evtLineEnableWrite (.core k) (some c) v →
      ∃ t, exec i s = .next t ∧ wbit (t.rws (Reg.evtCore c)) 0 = wbit v 0 ∧ wbit (t.rws (Reg.evtCore c)) 1 = wbit v 1 ∧
        coreSt (t.rws (Reg.evtCore c)) = (if c.val = 0 ∧ coreSt v = 3 then coreSt (s.rws (Reg.evtCore c)) else coreSt v) ∧
        (∀ o, o ≠ Reg.evtCore c → t.rws o = s.rws o)) ∧
    (s.boot.sealWhen ≠ .notYet → ∃ t, exec (.evtRouteWrite .host src v) s = .next t ∧ t.regs.rws = s.regs.rws)

/-- While attached with ring space and no drop to report, HOST_RING_WRITE takes the oldest record of the host queue, writes its 64
bytes with INDEX = PI to the slot PI mod 2^LOG2, advances PI modulo 2^32, and, when the queue empties or 16 records have gone
since the last one, writes the index block after it. Without space, or detached, the records wait. INDEX_BLOCK_TIMER writes the
index block when 100 ms have passed since the last while attached. -/
def Obligations.HostRingTakesRecordsInOrder : Prop :=
  ∀ s : State,
    (∀ (r : EvtRec) (rest : List EvtRec), s.host.attached = true → s.ringSpace = true → s.evt.hostQ = r :: rest → r.tick < s.ticks → s.evt.dropped = 0 →
      ∃ t, exec .hostRingWrite s = .next t ∧ t.evt.hostQ = rest ∧ t.evt.pi = (s.evt.pi + 1) % 2 ^ 32 ∧ t.evt.cores = s.evt.cores ∧
        Only [.evt, .out] s t ∧
        ∃ more : List Output, t.out = s.out ++ [Output.hostWrite
            (s.addr64 Reg.hostRingBaseLo Reg.hostRingBaseHi + 64 * (s.evt.pi % 2 ^ s.ringLog2))
            (EvtRec.bytes { r with lost := s.evt.lostNext } s.evt.pi)] ++ more ∧
          (more = [] ↔ ¬ (rest = [] ∨ 16 ≤ s.evt.sinceIdx + 1)) ∧
          (∀ o ∈ more, ∃ bytes, o = Output.hostWrite (s.addr64 Reg.hostIndexAddrLo Reg.hostIndexAddrHi) bytes ∧
            bytes = leBytes 4 ((s.evt.pi + 1) % 2 ^ 32) ++ leBytes 4 (s.cnt Reg.evtHostDropped) ++ leBytes 5 s.split ++ leBytes 3 0)) ∧
    (s.host.attached = false ∨ s.ringSpace = false ∨ (∀ r ∈ s.evt.hostQ.head?, s.ticks ≤ r.tick) → exec .hostRingWrite s = .next s) ∧
    (s.host.attached = true → s.evt.idxTick + 100 * 625000 ≤ s.ticks →
      ∃ t, exec .indexBlockTimer s = .next t ∧ t.evt.idxTick = s.ticks ∧ t.evt.hostQ = s.evt.hostQ ∧ Only [.evt, .out] s t ∧
        t.out = s.out ++ [Output.hostWrite (s.addr64 Reg.hostIndexAddrLo Reg.hostIndexAddrHi)
          (leBytes 4 s.evt.pi ++ leBytes 4 (s.cnt Reg.evtHostDropped) ++ leBytes 5 s.split ++ leBytes 3 0)])

/-- The messages that reach the collector in one tick are put, none lost and none doubled, into an order in which no message stands
before one of higher severity in force, or of equal severity and lower SOURCE, or of equal severity and SOURCE and lower KIND;
and the collector takes them in that order. -/
def Obligations.FaultMessagesInOrder : Prop :=
  ∀ (s : State) (ms : List FltMsg),
    ∃ l : List FltMsg, l.Perm ms ∧ s.raise ms = l.foldl State.take1 s ∧
      l.Pairwise fun a b => let x := s.sevOf a.kind a.src; let y := s.sevOf b.kind b.src
        y < x ∨ (x = y ∧ (a.src < b.src ∨ (a.src = b.src ∧ a.kind ≤ b.kind)))

/-- A message with a reserved SOURCE or KIND only sets UNKNOWN. One that coalesces, with no entry cleared in the same tick, raises
COUNT of the newest record of its SOURCE and KIND and leaves the number of records, the active table and the first-error capture
as they are. Any other gets a record that carries its SOURCE, KIND, DATA, the severity in force and the wall time, whose log
sequence number is the next one less the number of records of the same tick that R394 puts after it. Where there is none of
these, it is appended and the oldest beyond 1,024 dropped. For S1 and S2 without an entry of that SOURCE and KIND and with room,
one active entry takes its place in the order of latching. -/
def Obligations.FaultLogTakesAMessage : Prop :=
  ∀ (s : State) (m : FltMsg), s.wf →
    ((fltSrcOk m.src && fltKindOk m.kind) = false → s.take1 m = { s with flt := { s.flt with unknown := true } }) ∧
    (∀ r, (fltSrcOk m.src && fltKindOk m.kind) = true → (∀ c ∈ s.flt.clrd, c.1 ≠ s.ticks) →
      (s.bump (Reg.faultCount (s.sevOf m.kind m.src))).coalesced m (s.sevOf m.kind m.src) = some r →
      s.take1 m = ({ s.bump (Reg.faultCount (s.sevOf m.kind m.src)) with flt := s.flt.recount r.seq } : State).kindReact m ∧
        (s.flt.recount r.seq).log.length = s.flt.log.length ∧ (s.flt.recount r.seq).active = s.flt.active ∧
        (s.flt.recount r.seq).feRec = s.flt.feRec) ∧
    ∀ sev : Nat, ∃ r : FltRec, r.src = m.src ∧ r.kind = m.kind ∧ r.data = m.data ∧ r.sev = sev ∧ r.count = 1 ∧
      r.sec = s.tb.sec ∧ r.ns = s.tb.ns ∧ r.seq = (s.flt.next + 2 ^ 32 - (s.flt.later s.ticks (sev, m.src, m.kind)).length) % 2 ^ 32 ∧
      (s.flt.later s.ticks (sev, m.src, m.kind) = [] →
        (s.logFault m sev).flt.log = (if s.flt.log.length < 1024 then s.flt.log ++ [r] else (s.flt.log ++ [r]).drop 1)) ∧
      (s.logFault m sev).flt.next = (s.flt.next + 1) % 2 ^ 32 ∧
      (s.logFault m sev).flt.active = (if (sev = 1 ∨ sev = 2) ∧ (s.flt.active.all fun e => !(e.src == m.src && e.kind == m.kind)) ∧
          s.flt.active.length < 2048 then latchIn ⟨m.src, m.kind, sev, s.ticks⟩ s.flt.active else s.flt.active) ∧
      Only [.flt, .cnt, .evt, .nvm] s (s.logFault m sev)

/-- FAULT_CLEAR with GO: with no entry of SOURCE and KIND, RESULT is 3 and the table stays; an entry whose cause is present stays,
RESULT is 2 and CLEAR_REFUSED rises by one; any other is removed with RESULT 1. FAULT_CLEAR_ALL with GO leaves only entries that
were there and shows 3 on an empty table, 2 if one was refused, else 1. FAULT_LOG_READ and ACTIVE_READ set the register that
selects what the data registers show. -/
def Obligations.FaultClearAndReads : Prop :=
  ∀ (s : State) (v : Word), s.wf → wbit v 31 = true →
    ((∀ e ∈ s.flt.active, ¬ (e.src = wfld v 11 0 ∧ e.kind = wfld v 19 12)) →
      ∃ t, exec (.faultClear v) s = .next t ∧ t.flt.active = s.flt.active ∧ t.flt.clrResult = 3) ∧
    (∀ e, s.flt.active.find? (fun e => e.src == wfld v 11 0 && e.kind == wfld v 19 12) = some e →
      (({ s with flt := { s.flt with clrRefused := 0 } } : State).causePresent e.kind e.src = true →
        ∃ t, exec (.faultClear v) s = .next t ∧ t.flt.active = s.flt.active ∧ t.flt.clrResult = 2 ∧ t.flt.clrRefused = 1) ∧
      (({ s with flt := { s.flt with clrRefused := 0 } } : State).causePresent e.kind e.src = false →
        ∃ t, exec (.faultClear v) s = .next t ∧ t.flt.clrResult = 1 ∧
          t.flt.active = s.flt.active.filter fun x => !(x.src == e.src && x.kind == e.kind))) ∧
    (∃ t, exec (.faultClearAll v) s = .next t ∧ (∀ e ∈ t.flt.active, e ∈ s.flt.active) ∧
      t.flt.clrResult = (if s.flt.active = [] then 3 else if t.flt.clrRefused = 0 then 1 else 2)) ∧
    (∃ t, exec (.faultLogRead v) s = .next t ∧ t.rw Reg.faultLogRead = v ∧ (∀ o, o ≠ Reg.faultLogRead → t.rw o = s.rw o) ∧
      t.logSel = s.flt.log.find? (fun r : FltRec => r.seq == v.toNat) ∧ Only [.rw] s t) ∧
    (∃ t, exec (.activeRead v) s = .next t ∧ (t.rw Reg.activeRead).toNat = wfld v 10 0 ∧
      (∀ o, o ≠ Reg.activeRead → t.rw o = s.rw o) ∧ Only [.rw] s t)

/-- HOLD_REQUEST with KEY 0x401D and GO raises the fault HOST_HOLD, any other key changes nothing. A core's own KICK restarts its
watchdog at this tick; one whose PERIOD has passed raises CORE_LOST of the core with the core and the period, and counts anew. A
stopping unit whose port's clock has stopped becomes STOPPED, with UNIT_STOPPED recorded. HELD turns HELD_DARK when HOLD_TIME has
passed. 200 µs after an S3 fault the clocks and supplies stop. -/
def Obligations.HoldWatchdogAndStops : Prop :=
  ∀ s : State,
    (∀ v : Word, (wfld v 31 16 = 0x401D ∧ wbit v 0 = true → exec (.holdRequest v) s = .next (s.fault Fk.hostHold fsFault [])) ∧
      (wfld v 31 16 ≠ 0x401D → exec (.holdRequest v) s = .next s)) ∧
    (∀ (c : Fin 4) (v : Word), s.flt.kickTick.length = 4 → wbit v 0 = true →
      ∃ t, exec (.coreKick (.core c) c v) s = .next t ∧ t.flt.kickTick.getD c 0 = s.ticks ∧
        (c.val ≠ 0 → (s.flt.unit (c - 1)).st = .starting → c.val - 1 < s.flt.units.length → (t.flt.unit (c - 1)).st = .running) ∧
        Only [.flt, .evt, .cnt] s t) ∧
    (∀ c : Fin 4, s.wdtDue c = true → exec (.coreWdtExpiry c) s =
      .next (({ s with flt := { s.flt with kickTick := setAt s.flt.kickTick c s.ticks } } : State).fault Fk.coreLost (fsCore c) [c, s.wdtMs c])) ∧
    (∀ u : Fin 19, (s.flt.unit u).st = .stopping → (s.flt.unit u).enPend = false → s.flt.units.length = 19 →
      (3 ≤ u.val → (s.port (u - 3)).clock = false) →
      ∃ t, exec (.portStopComplete u) s = .next t ∧ (t.flt.unit u).st = .stopped ∧ (∀ w, w ≠ u.val → t.flt.unit w = s.flt.unit w) ∧
        t = ({ s with flt := t.flt } : State).ev Ev.unitStopped [u]) ∧
    (s.flt.hold = .held → s.flt.holdFresh = false → s.cfg.holdTime ≠ 0 → s.flt.holdTick + s.cfg.holdTime * 625000000 ≤ s.ticks →
      exec .holdTimeExpiry s = .next (({ s with flt := { s.flt with hold := .heldDark } } : State).ev Ev.holdDark [])) ∧
    (∀ t0, s.flt.shutTick = some t0 → s.flt.shutDone = false → t0 + 125000 ≤ s.ticks →
      ∃ t, exec .shutdownClockStop s = .next t ∧ t.flt.shutDone = true ∧ t.pwr.shdn = true ∧ t.pwr.vcore = false ∧ t.pwr.hbmRail = false ∧
        t.pwr.serdes = false ∧ t.tl.on = false ∧ t.flt.log = s.flt.log ∧ t.regs.rws = s.regs.rws)

/-- STAGE_GO, attached with nothing running, starts PULLING and asks for the list; ABORT ends a running stage with code 9, at once
unless a page, a sector or the STAGED header is being written. The list read is taken if it is well formed, the image bytes
follow in order and the last of them begins CHECKING; a failed read ends with code 3. A check that passes takes the kind, the
version and the container with its SHA-256, writes the ERASING header and begins ERASING; a check that fails ends with its code;
a waiting check resumes when TRIAL is clear. Erased sectors and programmed pages change the flash there and count in
STAGE_PROGRESS, and after the last the next stage begins. The read-back equal in digest queues the STAGED header, whose program
ends staging DONE; not equal, FAILED with code 8. A failed erase or program is tried once more first. -/
def Obligations.StagingPasses : Prop :=
  ∀ s : State,
    (∀ v : Word, s.host.stage.runs = false → s.host.attached = true → s.mem.ok = true → 1 ≤ s.stageCount → s.stageCount ≤ 65536 →
      wbit v 1 = false → ∃ t, exec (.stageGo v) s = .next t ∧ t.host.stage = { Stage.reset with state := 1 } ∧
        t = ({ s with host := { s.host with stage := { Stage.reset with state := 1 } } } : State).readHostMem s.stageList (16 * s.stageCount)) ∧
    (∀ v : Word, s.host.stage.runs = true → wbit v 0 = false →
      (s.stageWriting = false → ∃ t, exec (.stageAbort v) s = .next t ∧
        t.host.stage.state = 7 ∧ t.host.stage.code = 9 ∧ Only [.cnt, .evt, .nvm, .host] s t) ∧
      (s.stageWriting = true → ∃ t, exec (.stageAbort v) s = .next t ∧
        t.host = { s.host with stage := { s.host.stage with abort := true } } ∧ Only [.host] s t)) ∧
    (s.host.stage.state = 1 → s.host.attached = true →
      (∀ (es : List (Nat × Nat)) (data : List Byte), s.host.stage.list = [] → stageListOk es = true →
        es.length = s.stageCount → listBytes es ≠ 0 → listBytes es ≤ max (s.slotSize 1) (s.slotSize 3) →
        ∃ t, exec (.stagePullDone es data false) s = .next t ∧ t.host.stage = { s.host.stage with list := es } ∧ Only [.host] s t) ∧
      (∀ (es : List (Nat × Nat)) (data : List Byte), s.host.stage.list ≠ [] →
        (s.host.stage.image ++ data).length ≤ listBytes (s.host.stage.list.take s.host.stage.pos) →
        listBytes s.host.stage.list ≤ s.slotSize (leAt (s.host.stage.image ++ data) 5 1) →
        ((s.host.stage.image ++ data).length < listBytes s.host.stage.list → ∃ t, exec (.stagePullDone es data false) s = .next t ∧
          t.host.stage = { s.host.stage with image := s.host.stage.image ++ data, kib := (s.host.stage.image ++ data).length / 1024 } ∧
          Only [.host] s t) ∧
        (listBytes s.host.stage.list ≤ (s.host.stage.image ++ data).length → ∃ t, exec (.stagePullDone es data false) s = .next t ∧
          t.host.stage = { s.host.stage with state := 2, kib := 0, pos := 0, image := s.host.stage.image ++ data } ∧ Only [.host] s t)) ∧
      (∀ (es : List (Nat × Nat)) (data : List Byte), ∃ t, exec (.stagePullDone es data true) s = .next t ∧
        t.host.stage.state = 7 ∧ t.host.stage.code = 3 ∧ Only [.cnt, .evt, .nvm, .host] s t)) ∧
    (s.host.stage.state = 2 → s.host.stage.wait = false →
      (s.stageCheck = 0 → (leAt s.host.stage.image 5 1 = 3 ∨ s.nvm.hdr.trial (leAt s.host.stage.image 5 1) = false) →
        ∃ t, exec .stageCheckDone s = .next t ∧ t.host.stage = { s.host.stage with state := 3, kib := 0, pos := 0, wait := false, kind := leAt s.host.stage.image 5 1, version := leAt s.host.stage.image 12 4, image := s.host.stage.image.take (containerLen s.host.stage.image), sealHash := sha256 (s.host.stage.image.take (containerLen s.host.stage.image)) } ∧
          t.nvm.hdr = { s.nvm.hdr.setArea (({ s with host := { s.host with stage := { s.host.stage with kind := leAt s.host.stage.image 5 1 } } } : State).stageArea) 1 with hseq := s.nvm.hdr.hseq + 1 }) ∧
      (s.stageCheck ≠ 0 → ∃ t, exec .stageCheckDone s = .next t ∧ t.host.stage.state = 7 ∧
        t.host.stage.code = stageCode s.stageCheck ∧ t.nvm.flash = s.nvm.flash)) ∧
    (s.host.stage.state = 2 → s.host.stage.wait = true → s.stageHeld = false →
      ∃ t, exec .stageEraseResume s = .next t ∧ t.host.stage = { s.host.stage with state := 3, kib := 0, pos := 0, wait := false } ∧
        t.nvm.hdr = { s.nvm.hdr.setArea s.stageArea 1 with hseq := s.nvm.hdr.hseq + 1 }) ∧
    (∀ (a left n : Nat) (r : Bool), s.nvm.op = some ⟨.stErase a left, r⟩ → s.nvm.frozen = false → s.host.stage.abort = false →
      (left ≤ max 1 n → ∃ t, exec (.stageEraseDone ⟨n, true⟩) s = .next t ∧ t.host.stage = { s.host.stage with state := 4, kib := 0, pos := 0 } ∧
        t.nvm.flash = flashErase s.nvm.flash a (left * sector) ∧ Only [.host, .nvm] s t) ∧
      (max 1 n < left → ∃ t, exec (.stageEraseDone ⟨n, true⟩) s = .next t ∧
        t.host.stage = { s.host.stage with pos := s.host.stage.pos + max 1 n, kib := 64 * (s.host.stage.pos + max 1 n) } ∧
        t.nvm.flash = flashErase s.nvm.flash a (max 1 n * sector) ∧ Only [.host, .nvm] s t) ∧
      (r = false → ∃ t, exec (.stageEraseDone ⟨n, false⟩) s = .next t ∧ t.host.stage = s.host.stage ∧
        t.nvm = { s.nvm with op := some ⟨.stErase a left, true⟩ } ∧ t.cnt Reg.nvmErrors = (s.bump Reg.nvmErrors).cnt Reg.nvmErrors)) ∧
    (∀ (a n : Nat) (b : List Byte) (r : Bool), s.nvm.op = some ⟨.stProg a b, r⟩ → s.nvm.frozen = false → s.host.stage.abort = false →
      (b.length ≤ 256 * max 1 n → ∃ t, exec (.stageProgramDone ⟨n, true⟩) s = .next t ∧
        t.host.stage = { s.host.stage with state := 5, kib := 0, pos := 0 } ∧ t.nvm.flash = flashWrite s.nvm.flash a b ∧ Only [.host, .nvm] s t) ∧
      (256 * max 1 n < b.length → ∃ t, exec (.stageProgramDone ⟨n, true⟩) s = .next t ∧
        t.host.stage = { s.host.stage with pos := s.host.stage.pos + max 1 n, kib := (s.host.stage.pos + max 1 n) / 4 } ∧
        t.nvm.flash = flashWrite s.nvm.flash a (b.take (256 * max 1 n)) ∧ Only [.host, .nvm] s t) ∧
      (r = false → ∃ t, exec (.stageProgramDone ⟨n, false⟩) s = .next t ∧ t.host.stage = s.host.stage ∧
        t.nvm = { s.nvm with op := some ⟨.stProg a b, true⟩ } ∧ t.cnt Reg.nvmErrors = (s.bump Reg.nvmErrors).cnt Reg.nvmErrors)) ∧
    (∀ r : Bool, s.nvm.op = some ⟨.stRead, r⟩ → s.nvm.frozen = false →
      ∃ t, exec .stageVerifyDone s = .next t ∧
        (sha256 (flashRead s.nvm.flash (areaAddr s.stageArea) s.host.stage.image.length) = s.host.stage.sealHash →
          t.host.stage = { s.host.stage with kib := s.host.stage.image.length / 1024, mark := true } ∧
            t.nvm.hdr = { s.nvm.hdr.setArea s.stageArea 2 with hseq := s.nvm.hdr.hseq + 1 }) ∧
        (sha256 (flashRead s.nvm.flash (areaAddr s.stageArea) s.host.stage.image.length) ≠ s.host.stage.sealHash →
          t.host.stage.state = 7 ∧ t.host.stage.code = 8 ∧ t.nvm.flash = s.nvm.flash)) ∧
    (∀ (a : Nat) (h : NvmHeader) (r : Bool), s.nvm.op = some ⟨.header a h, r⟩ → s.nvm.frozen = false → s.host.stage.mark = true →
      h.area s.stageArea = 2 → (∀ e, s.macsecOn e = false) →
      ∃ t, exec (.nvmOpDone true) s = .next t ∧ t.host.stage.state = 6 ∧ t.host.stage.code = 0 ∧
        t.nvm.flash = flashWrite s.nvm.flash a h.bytes)

/-- JOURNAL_READ, with a flash present and not frozen, clears VALID and NOT_FOUND and sets BUSY; without it, NOT_FOUND.
JOURNAL_READ_DONE gives the record found or NOT_FOUND. NVM_OP_DONE of a journal record that is not a SECTOR record, on a device
whose ports run no MACsec, has the record at its slot in flash, takes it off the queue and advances SEQ; an operation other than
a read that the flash reports as failed the first time is counted and stays to be tried again. NVM_GRACE_TIMEOUT, 5 ms after a
freeze, leaves no operation in flight and, shut down or in reset, VIO_OUT off. -/
def Obligations.NvmOperations : Prop :=
  ∀ s : State,
    (∀ v : Word, s.wf → ∃ t, exec (.journalRead v) s = .next t ∧ t.rw Reg.journalRead = v ∧ t.nvm.rdValid = false ∧
      t.nvm.rdSeq = v.toNat ∧ (s.nvm.present = true → s.nvm.frozen = false → t.nvm.rdBusy = true ∧ t.nvm.rdMissing = false) ∧
      (s.nvm.present = false ∨ s.nvm.frozen = true → t.nvm.rdBusy = false ∧ t.nvm.rdMissing = true) ∧ Only [.rw, .nvm] s t) ∧
    (∀ (q : Nat) (r : Bool), s.nvm.op = some ⟨.jread q, r⟩ → s.nvm.rdSeq = q → s.nvm.rdBusy = true →
      ∃ t, exec .journalReadDone s = .next t ∧ t.nvm.rdBusy = false ∧ Only [.nvm] s t ∧
        (∀ b, s.nvm.findRec q = some b → t.nvm.rdValid = true ∧ t.nvm.rdData = toWords b) ∧
        (s.nvm.findRec q = none → t.nvm.rdMissing = true)) ∧
    (∀ (r : JRec) (f : Bool), s.nvm.op = some ⟨.record r, f⟩ → r.kind ≠ 0 → (∀ e, s.macsecOn e = false) →
      ∃ t, exec (.nvmOpDone true) s = .next t ∧
        t.nvm.flash = flashWrite s.nvm.flash (jAddr s.nvm.jSect + 64 * s.nvm.jSlot) (r.bytes s.nvm.jNext s.nvm.ovr) ∧
        t.nvm.jNext = nextSeq s.nvm.jNext ∧ t.nvm.jq = s.nvm.jq.drop 1) ∧
    (∀ j : NvmJob, s.nvm.op = some ⟨j, false⟩ → j.op ≠ 1 → j.staging = false → s.nvm.frozen = false →
      ∃ t, exec (.nvmOpDone false) s = .next t ∧ t.nvm = { s.nvm with op := some ⟨j, true⟩ } ∧
        t.cnt Reg.nvmErrors = (s.bump Reg.nvmErrors).cnt Reg.nvmErrors ∧ Only [.cnt, .nvm] s t) ∧
    (s.nvm.frozen = true → s.nvm.freezeTick + 5 * 625000 ≤ s.ticks →
      ∃ t, exec .nvmGraceTimeout s = .next t ∧ t.nvm.op = none ∧ t.nvm.frozen = true ∧
        (s.flt.shutDone = true ∨ s.boot.running = false → t.pwr.vio = false ∧ t.pwr.vioHold = false) ∧ Only [.nvm, .free, .pwr] s t)

/-- At a slot's end the reading is stored and the next slot follows: a temperature within −40 °C to 150 °C, below the die limit and
below its levels, that passes the cross-check clears the counts; a feed reading in range clears its count. FABRIC_TRIM_DONE in
SB4 before the seal stores each stage's result, and when a stage has a line without an element that stage stalls. A stalled stage
marks the fabric lost and records FABRIC_STALL with its fault. HURDLE_CHECK_DONE counts the run and gives every plan and scene
its reason; HURDLE_QUERY clears VALID and HURDLE_QUERY_DONE gives the figures or UNJUDGED. -/
def Obligations.HousekeepingAndHurdle : Prop :=
  ∀ s : State,
    (∀ r : HkReading, s.slotDue = true → s.hk.slot < 12 → s.hk.chans.length = 16 → (s.hk.chan s.hk.slot).broken = false →
      (let v := s.hkValue s.hk.slot r.raw;
       -640 ≤ v ∧ v ≤ 2400 ∧ v < 1888 ∧ s.crossFails s.hk.slot v = false ∧
         (s.hotLevel s.hk.slot = 0 ∨ v < 16 * s.hotLevel s.hk.slot) ∧ (s.holdLevel s.hk.slot = 0 ∨ v < 16 * s.holdLevel s.hk.slot)) →
      ∃ t, exec (.hkSlot r) s = .next t ∧ t.hk.slot = s.hk.slot + 1 ∧ t.hk.rounds = s.hk.rounds ∧
        (t.hk.chan s.hk.slot).value = s.hkValue s.hk.slot r.raw ∧ (t.hk.chan s.hk.slot).broken = false ∧
        (t.hk.chan s.hk.slot).count = 0 ∧ (t.hk.chan s.hk.slot).fails = 0 ∧
        (∀ k, k ≠ s.hk.slot → t.hk.chan k = s.hk.chan k) ∧ Only [.cnt, .evt, .hk] s t) ∧
    (∀ r : HkReading, s.slotDue = true → (s.hk.slot = 12 ∨ s.hk.slot = 13) → s.hk.chans.length = 16 → supplyOut s.hk.slot r.raw = false →
      ∃ t, exec (.hkSlot r) s = .next t ∧ t.hk.slot = s.hk.slot + 1 ∧ (t.hk.chan s.hk.slot).value = r.raw ∧
        (t.hk.chan s.hk.slot).oor = 0 ∧ Only [.hk] s t) ∧
    (∀ lines : List (List (List Int)), s.boot.stage = 4 → s.boot.sealWhen = .notYet → (∀ x ∈ s.hk.fabTrim, x.1 = 0) →
      (∀ g, g < 4 → (trimStage (lines.getD g [])).isSome = true) →
      ∃ t, exec (.fabricTrimDone lines) s = .next t ∧ (∀ g, g < 4 → some (t.hk.fabTrim.getD g (0, 0, 0, 0)) = trimStage (lines.getD g [])) ∧
        Only [.hk] s t) ∧
    (∀ g : Fin 5, g.val ≠ 0 → s.fab.lost = false → s.boot.running = true → 4 ≤ s.boot.stage → s.boot.stage ≠ 6 →
      exec (.fabricStallTimeout g) s = .next (({ s with fab := { s.fab with lost := true, stage := g, slowDue := s.fab.slowDue || s.slowNow } } : State).evFault
        Ev.fabricStall Fk.fabricStall (fsStage g) [g])) ∧
    (s.fab.runTick.isSome = true → s.boot.stage ≠ 7 → ∃ t, exec .hurdleCheckDone s = .next t ∧ t.fab.runs = s.fab.runs + 1 ∧ t.fab.runTick = none ∧
      (∀ n, n < 8 → t.tl.reasons.getD n 0 = match s.cfg.plan? n with | some p => s.planCode p | none => 0) ∧
      (∀ n, n < 64 → t.sc.reasons.getD n 0 = match s.scene? n with
        | some ws => s.sceneCode (s.cfg.plans.filter fun p => t.tl.reasons.getD p.num 0 == 0) ws
        | none => 0) ∧ Only [.cnt, .evt, .tl, .sc, .fab] s t) ∧
    (∀ v : Word, s.wf → ∃ t, exec (.hurdleQueryWrite v) s = .next t ∧ t.rw Reg.hurdleQuery = Word.of (v.toNat &&& 0x7BF3F) ∧
      t.fab = { s.fab with qTick := some s.ticks, qValid := false, qUnj := false } ∧ Only [.rw, .fab] s t) ∧
    (s.fab.qTick.isSome = true → ∃ t, exec .hurdleQueryDone s = .next t ∧ t.fab.qValid = true ∧ t.fab.qTick = none ∧
      (t.fab.qUnj = true ↔ s.queryFigures (s.rw Reg.hurdleQuery) = none) ∧
      (∀ l, s.queryFigures (s.rw Reg.hurdleQuery) = some l → t.fab.qUse = l) ∧ Only [.fab] s t)

/-- A feed that rises or falls and a reference clock that starts or stops leave PWRGD_OUT high exactly when a feed is present and
REF_CLK runs; a start begins at SB0 when PWRGD_OUT rises with a RESET_N release waiting, and one that has begun in the tick
PWRGD_OUT falls waits again. With both feeds gone the shutdown latch is lost, and POWER_LOSS leaves every rail down and every
volatile part at its reset value. REF_CLK_STOP ends a start in SB0 with code 4 (in the tick of another false start of SB0, with
the lower code); later the device runs on from its oscillator. RESET_RELEASE begins a start at once if PWRGD_OUT is high and else
waits; RESET_ASSERT stops a running device outside a shutdown and drops its rails and keys. The test port takes identification
and boundary scan while TRST_N is high, and TRST_N low clears its instruction. -/
def Obligations.PowerAndReset : Prop :=
  ∀ s : State,
    (∀ b : Bool, ∃ t, exec (.feedPresent b) s = .next t ∧ (if b then t.pwr.feedB else t.pwr.feedA) = true ∧
      t.pwr.pwrgd = s.tb.refClk ∧
      (s.pwr.pwrgd = false → s.tb.refClk = true → s.pwr.waiting = true → t.boot.running = true ∧ t.boot.stage = 0 ∧ t.pwr.vcore = true) ∧
      (s.pwr.waiting = false → s.boot.startTick ≠ s.ticks → t.boot = s.boot)) ∧
    (∀ b : Bool, ∃ t, exec (.feedAbsent b) s = .next t ∧ (if b then t.pwr.feedB else t.pwr.feedA) = false ∧
      ((if b then s.pwr.feedA else s.pwr.feedB) = false → t.pwr.pwrgd = false ∧ t.hk.latch = none ∧ t.pwr.shdn = false ∧
        (s.boot.startTick ≠ s.ticks → t.boot = s.boot) ∧
        (s.pwr.pwrgd = true → s.boot.running = true → s.boot.stage = 0 → s.boot.startTick = s.ticks → t.boot = State.reset.boot ∧ t.pwr.waiting = true))) ∧
    (s.pwr.feedA = false → s.pwr.feedB = false → ∃ t, exec .powerLoss s = .next t ∧ t.boot = State.reset.boot ∧ t.regs = State.reset.regs ∧
      t.flt = State.reset.flt ∧ t.evt = State.reset.evt ∧ t.ports = State.reset.ports ∧ t.tiles = State.reset.tiles ∧
      t.mem = State.reset.mem ∧ t.hk = State.reset.hk ∧ t.fuses = s.fuses ∧ t.pwr.vcore = false ∧ t.pwr.vio = false) ∧
    (∃ t, exec .refClkStart s = .next t ∧ t.tb.refClk = true ∧ t.tb.oscOnly = false ∧ t.pwr.pwrgd = (s.pwr.feedA || s.pwr.feedB)) ∧
    (s.tb.refClk = true → s.boot.startTick ≠ s.ticks → ∃ t, exec .refClkStop s = .next t ∧ t.tb.refClk = false ∧ t.pwr.pwrgd = false ∧
      (s.inSb0 = true → t.boot.stage = 6 ∧ (s.boot.stage = 0 → t.boot.fsCode = 4) ∧ (s.boot.stage = 6 → t.boot.fsCode = if 4 < s.boot.fsCode then 4 else s.boot.fsCode)) ∧
      (s.inSb0 = false → t.tb.oscOnly = s.boot.running ∧ t.boot = s.boot)) ∧
    (s.pwr.resetN = false → ∃ t, exec .resetRelease s = .next t ∧ t.pwr.resetN = true ∧
      (s.pwr.pwrgd = true → t.boot.running = true ∧ t.boot.stage = 0 ∧ t.boot.sealWhen = .notYet ∧ t.pwr.vcore = true ∧
        t.flt = State.reset.flt ∧ t.regs.rws = State.reset.regs.rws) ∧
      (s.pwr.pwrgd = false → t.pwr.waiting = true ∧ t.boot = s.boot)) ∧
    (s.pwr.resetN = true → s.boot.running = true → s.flt.shutTick = none → ∃ t, exec .resetAssert s = .next t ∧ t.pwr.resetN = false ∧ t.boot.running = false ∧
      t.pwr.vcore = false ∧ t.pwr.hbmRail = false ∧ t.pwr.serdes = false ∧ t.sec.idKey = none ∧ t.flt = State.reset.flt ∧ t.fuses = s.fuses) ∧
    (∃ t, exec (.debugTapAccess (.trst false)) s = .next t ∧ t.pwr = { s.pwr with trstN := false, tapIr := 0 } ∧ Only [.pwr] s t) ∧
    (s.pwr.trstN = true → (∃ t, exec (.debugTapAccess .ident) s = .next t ∧ t.pwr = { s.pwr with tapIr := tapIdent } ∧ Only [.pwr] s t) ∧
      ∀ pins, ∃ t, exec (.debugTapAccess (.scan pins)) s = .next t ∧ t.pwr = { s.pwr with tapIr := tapScan } ∧
        t.out = s.out ++ [Output.tap pins] ∧ Only [.pwr, .out] s t)

/-- SB_STAGE_COMPLETE in SB0 with all it lists produced enters SB1 with the identity key derived, and otherwise ends in the false
start of the first thing missing; in SB4, ready, it applies the seal at the end of SB4. SB_STAGE_TIMEOUT in SB0 past 60 ms with
nothing failed is false start 4. RESTART with its key in a false start or limp service stops the NVM and waits;
RESTART_TAKES_EFFECT then begins a start at SB0 with everything volatile, the seal too, as after reset. SLATE_LOAD_DONE puts the
slate into a warm-up buffer; WARM_SOURCE_TIMEOUT finds the source absent after 1 s. -/
def Obligations.StartingStages : Prop :=
  ∀ s : State,
    (∀ r : StageReport, s.boot.running = true → s.flt.shutTick = none → s.boot.stage = 0 → 3 ≤ s.hk.rounds →
      (s.sb0Fail r = none → ∃ t, exec (.sbStageComplete r) s = .next t ∧ t.boot.stage = 1 ∧ t.boot.selfOk = true ∧
        t.boot.running = true ∧ t.sec.idKey = some (identityKey s.fuses.seed) ∧ t.out = s.out ++ [.nvmReset] ∧ Only [.cnt, .evt, .boot, .sec, .out] s t) ∧
      (∀ c d, s.sb0Fail r = some (c, d) → c ≠ 1 → ∃ t, exec (.sbStageComplete r) s = .next t ∧ t.boot.stage = 6 ∧ t.boot.fsCode = c ∧
        t.boot.fsStage = 0 ∧ t.boot.fsDetail = d ∧ t.fab.vset = 900)) ∧
    (∀ r : StageReport, s.boot.running = true → s.flt.shutTick = none → s.boot.stage = 4 → s.boot.sealWhen = .notYet → s.sb4Ready = true →
      s.tl.stepB = none → (s.seal .endSb4).planWhy s.cfg.initPlan = 0 → (s.seal .endSb4).sceneWhy s.cfg.initScene = 0 →
      ∃ t, exec (.sbStageComplete r) s = .next t ∧ t.boot.sealWhen = .endSb4 ∧ t.boot.sealSplit = s.split ∧ t.tl.fullB.isSome = true ∧
        Only [.rws, .cnt, .boot, .tb, .tl, .ports, .pwr, .out] s t) ∧
    (∀ r : StageReport, s.boot.running = true → s.flt.shutTick = none → s.boot.stage = 0 → s.boot.stageTick + 60 * 625000 ≤ s.ticks →
      s.sb0Fail r = none → ∃ t, exec (.sbStageTimeout r) s = .next t ∧ t.boot.stage = 6 ∧ t.boot.fsCode = 4 ∧ t.fab.vset = 900) ∧
    (∀ v : Word, wfld v 31 16 = 0x5A3C → (s.boot.stage = 6 ∨ s.boot.stage = 7) → s.flt.shutTick = none →
      ∃ t, exec (.restart v) s = .next t ∧ t.boot = { s.boot with restart := true } ∧ t.nvm.frozen = true ∧ t.nvm.jq = [] ∧
        t.nvm.op = s.nvm.op ∧ Only [.boot, .nvm] s t) ∧
    (s.boot.restart = true → (s.nvm.op = none ∨ s.nvm.freezeTick + 5 * 625000 ≤ s.ticks) →
      ∃ t, exec .restartTakesEffect s = .next t ∧ t.boot.running = true ∧ t.boot.stage = 0 ∧ t.boot.sealWhen = .notYet ∧ t.boot.restart = false ∧
        t.flt = State.reset.flt ∧ t.regs.rws = State.reset.regs.rws ∧ t.sec.idKey = none ∧ t.fuses = s.fuses) ∧
    (∀ b, s.warm.loading = true → (∀ j ∈ s.nvm.jobs, ∀ k, j ≠ .slate k) → (∀ k f, s.nvm.op ≠ some ⟨.slate k, f⟩) → s.warm.bufs.length = 2 →
      s.ownerImage.bind slateOf = some b →
      ∃ t, exec .slateLoadDone s = .next t ∧ t.warm.loading = false ∧
        (∃ i, i < 2 ∧ t.warm.slate = some i ∧ t.warm.bufs.getD i none = some b ∧ t.warm.newest ≠ some i) ∧ Only [.warm] s t) ∧
    (∀ d, s.warm.present = true → s.warm.done = some d → d + 625000000 ≤ s.ticks →
      ∃ t, exec .warmSourceTimeout s = .next t ∧ t.warm.present = false ∧ t.warm.bufs = s.warm.bufs ∧ Only [.nvm, .warm] s t)

/-- OWNER_ENROL with its key while enrolment is open blows the written hash if both copies read back, else sets ENROL_FAILED. A nonce
write clears VALID. ATTEST_GO with an identity key and a good self-test sets BUSY, without the key it sets REFUSED; in the tick
of a debug unlock, the report is made as before it. ATTEST_REPORT_DONE places the body and its signature, sets VALID and clears
BUSY. DEBUG_SUBMIT below 8 failures also opens the scope of an accepted token after zeroising, or counts the failure. ZEROISE
leaves no identity key, cue key or SAK; PERMANENT also blows RETIRED; nothing else in the fuses changes. A failed entropy test
sets SELFTEST_ERROR and raises its fault. -/
def Obligations.SecurityCommands : Prop :=
  ∀ s : State,
    (∀ v : Word, wfld v 31 16 = 0x0E4C → wbit v 0 = true → s.mayEnrol = true →
      (∃ t, exec (.ownerEnrol v true) s = .next t ∧ t.fuses = { s.fuses with ownerHash := s.sec.written } ∧ Only [.fuses] s t) ∧
      (∃ t, exec (.ownerEnrol v false) s = .next t ∧ t.sec = { s.sec with enrolFailed := true } ∧ Only [.sec] s t)) ∧
    (∀ (i : Fin 8) (v : Word), ∃ t, exec (.attestNonceWrite i v) s = .next t ∧
      t.sec = { s.sec with nonce := putWord s.sec.nonce i v, valid := false } ∧ Only [.sec] s t) ∧
    (∀ v : Word, s.sec.busy = none →
      (s.sec.opened ≠ some s.ticks → s.sec.idKey.isSome = true → s.sec.err = false → ∃ t, exec (.attestGo v) s = .next t ∧
        t.sec = { s.sec with busy := some s.ticks, refused := false } ∧ Only [.sec] s t) ∧
      (s.sec.opened ≠ some s.ticks → s.sec.idKey = none → ∃ t, exec (.attestGo v) s = .next t ∧ t.sec = { s.sec with refused := true } ∧ Only [.sec] s t) ∧
      (s.sec.opened = some s.ticks → s.sec.err = false → ∃ t, exec (.attestGo v) s = .next t ∧
        (let b := State.attestBody { s with sec := { s.sec with unlocked := false } }
         t.sec = { s.sec with report := b ++ ecdsaSign (identityKey s.fuses.seed) b, valid := true, refused := false, reports := s.sec.reports + 1 }) ∧ Only [.sec] s t)) ∧
    (∀ b d, s.sec.busy = some b → s.sec.idKey = some d → ∃ t, exec .attestReportDone s = .next t ∧
      t.sec = { s.sec with report := s.attestBody ++ ecdsaSign d s.attestBody, valid := true, busy := none, refused := false, reports := s.sec.reports + 1 } ∧
      Only [.sec] s t) ∧
    (∀ v : Word, s.sec.fails < 8 → s.sec.busy = none →
      (s.tokenOk = true → ∃ t, exec (.debugSubmit v) s = .next t ∧ t.sec.unlocked = true ∧ t.sec.scope = s.sec.scope ||| leAt s.sec.token 5 1 % 8 ∧
        t.sec.idKey = none ∧ t.sec.cueKey = none ∧ t.sec.fails = s.sec.fails ∧ Only [.cnt, .evt, .nvm, .sec, .net, .host] s t) ∧
      (s.tokenOk = false → ∃ t, exec (.debugSubmit v) s = .next t ∧ t.sec.fails = s.sec.fails + 1 ∧ t.sec.unlocked = s.sec.unlocked ∧
        t.sec.scope = s.sec.scope ∧ t.sec.idKey = s.sec.idKey ∧ Only [.cnt, .evt, .sec] s t)) ∧
    (∀ v : Word, wfld v 31 16 = 0xD1E5 →
      (∃ t, exec (.zeroise v) s = .next t ∧ t.sec = s.sec.zero ∧ t.sec.idKey = none ∧ t.sec.cueKey = none ∧ t.fuses = s.fuses) ∧
      (∃ t, exec (.zeroisePermanent v) s = .next t ∧ t.sec = s.sec.zero ∧ t.fuses = { s.fuses with retired := true })) ∧
    (∀ k : Fin 3, ∃ x : State, exec (.entropyHealthFailure k) s =
        .next (x.raise [⟨Fk.secSelftestFailed, fsSec, [Config.code Ev.secSelftestFailed k]⟩]) ∧ x.sec.err = true ∧ x.sec.busy = none ∧
      x.sec.idKey = s.sec.idKey ∧ Only [.cnt, .evt, .sec] s x)

/-- PCIE_LINK_TRAINED with the rails good, PE_PERST_N high and a rate, width and mode of Table 9.1 shows them, with the configuration
the host wrote, in D0. A link-down, a hot reset and PE_PERST_N low take the link away and reset the configuration space (presumed
from PCI Express, log entry 125), as a Function Level Reset does; a cleared Bus Master Enable clears that bit; D3hot enters
D3hot. These and DETACH leave the attached state, and no host surface pull goes on. PE_PERST_RELEASE lets the port train again.
ATTACH sets ATTACHED, clears the failure and starts CI at 0 when none of the reasons of R252 holds, and otherwise shows the
lowest reason. -/
def Obligations.HostLinkAndAttachment : Prop :=
  ∀ s : State,
    (∀ (speed : Fin 7) (width : Fin 17) (flit : Bool) (conf : HostConf), s.pwr.serdes = true → s.host.perst = false →
      linkOk speed width flit = true → ∃ t, exec (.pcieLinkTrained speed width flit conf) s = .next t ∧
        t.host.link = true ∧ t.host.speed = speed ∧ t.host.width = width ∧ t.host.flit = flit ∧ t.host.conf = conf ∧ t.host.d3hot = false ∧
        (conf.master = true → t.host = { s.host with link := true, speed := speed, width := width, flit := flit, conf := conf, d3hot := false } ∧
          Only [.cnt, .evt, .host] s t) ∧
        (conf.master = false → t.host.attached = false) ∧ Only [.cnt, .evt, .nvm, .sc, .warm, .host, .mem] s t) ∧
    (∀ c : Instr, c = .pcieLinkDown ∨ c = .hotReset ∨ c = .pePerstAssert →
      ∃ t, exec c s = .next t ∧ t.host.link = false ∧ t.host.speed = 0 ∧ t.host.width = 0 ∧ t.host.conf = confReset ∧ t.host.d3hot = false ∧
        t.host.attached = false ∧ (t.host.perst = true ↔ s.host.perst = true ∨ c = .pePerstAssert) ∧
        (s.host.attached = true → ∀ n, n < 16 → (t.surf n).pull = none) ∧ Only [.cnt, .evt, .nvm, .sc, .warm, .host, .mem] s t) ∧
    (∀ c : Instr, c = .functionLevelReset ∨ c = .busMasterEnableClear ∨ c = .d3hotEntry ∨ (∃ v, wbit v 0 = false ∧ c = .detach v) →
      ∃ t, exec c s = .next t ∧ t.host.attached = false ∧ t.host.link = s.host.link ∧
        (c = .functionLevelReset → t.host.conf = confReset ∧ t.host.d3hot = false) ∧
        (c = .busMasterEnableClear → t.host.conf = { s.host.conf with master := false }) ∧ (c = .d3hotEntry → t.host.d3hot = s.host.link) ∧
        (s.host.attached = true → ∀ n, n < 16 → (t.surf n).pull = none) ∧ Only [.cnt, .evt, .nvm, .sc, .warm, .host, .mem] s t) ∧
    (s.host.perst = true → ∃ t, exec .pePerstRelease s = .next t ∧ t.host = { s.host with perst := false, perstTick := s.ticks } ∧
      Only [.host] s t) ∧
    (∀ v : Word, s.wf → wbit v 1 = false → s.host.attached = false →
      (s.attachFail = 0 → ∃ t, exec (.attach v) s = .next t ∧ t.host = { s.host with attached := true, fail := 0 } ∧
        t.rw Reg.evtHostCi = 0 ∧ (s.evt.hostQ = [] → t.evt.pi = 0) ∧ Only [.rw, .cnt, .evt, .host, .out] s t) ∧
      (s.attachFail ≠ 0 → ∃ t, exec (.attach v) s = .next t ∧ t.host = { s.host with fail := s.attachFail } ∧ Only [.host] s t))

/-- PULL_COMPLETION_RX of a table entry that is a non-zero multiple of 256 gives the pull its address, whose line reads follow as
they fall due. Of the next line it stores the line in the slot, and in the slot's place in HBM. An error on a read that is out, a
bad entry or a timeout fails a pull that lacks a line: it ends, and its missing lines are filled from the slot before.
HS_PULL_COMPLETE ends a pull that has every line, leaving its slot. -/
def Obligations.HostSurfacePulls : Prop :=
  ∀ (s : State) (n : Fin 16) (p : Pull) (r : SurfRec), (s.surf n).pull = some p → s.surfRec? n = some r → s.host.surfs.length = 16 →
    (∀ data : List Byte, data.length = 8 → p.addr = none →
      (leAt data 0 8 ≠ 0 → leAt data 0 8 % 256 = 0 → exec (.pullCompletionRx n 0 data) s = .next (s.modPull n { p with addr := some (leAt data 0 8) })) ∧
      (leAt data 0 8 = 0 ∨ leAt data 0 8 % 256 ≠ 0 → exec (.pullCompletionRx n 0 data) s = .next (s.breakPull n p r))) ∧
    (∀ (a : Nat) (data : List Byte), p.addr = some a → p.line < r.h → p.line < p.sent → data.length = r.lineBytes →
      ∃ t, exec (.pullCompletionRx n 0 data) s = .next t ∧ (t.surf n).pull = some { p with line := p.line + 1 } ∧
        (t.surf n).lines = p.line + 1 ∧
        (t.surf n).slots = (modAt (s.surf n).slots p.slot fun x => { x with lines := setAt x.lines p.line (some data) }) ∧
        (∀ m, m ≠ n.val → t.surf m = s.surf m) ∧ t.mem = (s.storeLine n p.slot p.line r data).mem ∧ Only [.host, .mem] s t) ∧
    (∀ c : Instr, p.addr = none ∨ p.line < r.h →
      c = .pullCompletionTimeout n ∨ (p.addr = none ∨ p.line < p.sent) ∧ (∃ (st : Fin 4) (data : List Byte), st.val ≠ 0 ∧ c = .pullCompletionRx n st data) →
      ∃ t x a, exec c s = .next t ∧ t = { s with host := { s.host with status := x, aer := a } }.breakPull n p r ∧
        (t.surf n).pull = none ∧ (∀ m, m ≠ n.val → t.surf m = s.surf m) ∧
        (t.surf n).slots = (modAt (s.surf n).slots p.slot fun x => { x with lines := fillLines ((s.surf n).slots.getD p.slot .reset).lines (match p.prev with | some i => ((s.surf n).slots.getD i .reset).lines | none => []) }) ∧
        Only [.cnt, .evt, .sc, .host, .mem] s t) ∧
    (∀ a : Nat, p.addr = some a → r.h ≤ p.line →
      ∃ t, exec (.hsPullComplete n) s = .next t ∧ (t.surf n).pull = none ∧ (t.surf n).slots = (s.surf n).slots ∧
        (∀ m, m ≠ n.val → t.surf m = s.surf m) ∧ (p.warm = false → t.warm = s.warm) ∧ Only [.cnt, .evt, .sc, .warm, .host] s t)

/-- A BAR2 read that must wait, for a sleeping stack or for an earlier access to the same unit, waits; any other returns the bytes of
its range, poisoned where an uncorrectable burst held some of them; neither changes a byte. A BAR2 write before the seal that
need not wait leaves every byte outside the lamp table reading as written where the write covers it and as before elsewhere; one
that must wait, waits. After the seal a write of any range leaves HBM and every lamp entry as they were and only raises a counter
(which one is the reading of log entry 88). -/
def Obligations.HbmWindow : Prop :=
  ∀ (s : State) (addr : BitVec 40),
    (∀ len : Nat, len ≠ 0 → addr.toNat < 2 ^ 36 →
      (s.bar2Waits s.host.waits (.read addr.toNat len) = true → ∃ t, exec (.bar2Read addr len) s = .next t ∧ t.out = s.out ∧
        t.host = { s.host with waits := s.host.waits ++ [.read addr.toNat len] } ∧ t.mem.bytes = s.mem.bytes ∧ Only [.cnt, .host, .mem] s t) ∧
      (s.bar2Waits s.host.waits (.read addr.toNat len) = false → ∃ t, exec (.bar2Read addr len) s = .next t ∧ t.mem.bytes = s.mem.bytes ∧
        (∃ bad, t.out = s.out ++ [Output.readBytes ((List.range len).map fun i => s.bar2Byte (addr.toNat + i)) bad] ∧
          (bad = true ↔ ∃ u ∈ s.mem.poison, addr.toNat / 64 ≤ u ∧ u ≤ (addr.toNat + len - 1) / 64)) ∧ Only [.cnt, .mem, .out] s t)) ∧
    (∀ data : List Byte, s.wf → s.boot.stage ≠ 7 → addr.toNat < s.bar2Top → data ≠ [] →
      (s.boot.sealWhen = .notYet →
        (s.bar2Waits s.host.waits (.write addr.toNat (data.take (s.bar2Top - addr.toNat))) = true → ∃ t, exec (.bar2Write addr data) s = .next t ∧
          t.host = { s.host with waits := s.host.waits ++ [.write addr.toNat (data.take (s.bar2Top - addr.toNat))] } ∧
          (∀ b, t.bar2Byte b = s.bar2Byte b) ∧ Only [.cnt, .host, .mem] s t) ∧
        (s.bar2Waits s.host.waits (.write addr.toNat (data.take (s.bar2Top - addr.toNat))) = false →
          ∃ t, exec (.bar2Write addr data) s = .next t ∧ Only [.cnt, .mem, .tiles] s t ∧
          ∀ b, s.inTable b = false → t.bar2Byte b =
            if addr.toNat ≤ b ∧ b < addr.toNat + data.length ∧ b < s.bar2Top then data.getD (b - addr.toNat) 0 else s.bar2Byte b)) ∧
      (s.boot.sealWhen ≠ .notYet → ∃ t, exec (.bar2Write addr data) s = .next t ∧ Only [.cnt] s t ∧ ∀ b, t.bar2Byte b = s.bar2Byte b))

/-- MEM_REQUEST of working HBM below 64 of its port waiting queues the request at the controller of its address, aborts a pending
rest of its stack (a step up goes on) and notes a real-time port's level and whether it has consumption scheduled. MEM_READ_BURST
takes the oldest read off: a corrected burst is counted, an uncorrectable one leaves its address and port shown. REFRESH_DUE
refreshes at once when nothing real-time waits or its stack has just become hot, else postpones below the limit, else is forced.
An idle row is closed. PARITY_ALERT stops the controller at the named command and ends a calibration slot as aborted; the replay
precharges all banks, issues the command and every later one again and clears it, or counts a failed try below three. -/
def Obligations.ControllersServe : Prop :=
  ∀ (s : State), s.mem.pcs.length = 128 → s.mem.stks.length = 4 →
    (∀ (port : Fin 8) (addr : BitVec 40) (write : Bool) (level : Fin 16385) (busy : Bool), s.mem.ok = true →
      addr.toNat < s.variant.hbmBytes → stackOf (s.place addr.toNat).pc < 4 → (rtClass port = true → s.panicMark port ≤ level) →
      ((s.mem.pc (s.place addr.toNat).pc).queue.filter (·.port == port.val)).length < 64 →
      ∃ t, exec (.memRequest port addr write level busy) s = .next t ∧
        (t.mem.pc (s.place addr.toNat).pc).queue = enqueue ⟨port, addr.toNat, write, s.ticks⟩ (s.mem.pc (s.place addr.toNat).pc).queue ∧
        (∀ p, p ≠ (s.place addr.toNat).pc → t.mem.pc p = s.mem.pc p) ∧ (t.mem.stk (stackOf (s.place addr.toNat).pc)).quiet = s.ticks ∧
        (t.mem.stk (stackOf (s.place addr.toNat).pc)).phase =
          (if (s.mem.stk (stackOf (s.place addr.toNat).pc)).phase = .entering ∧ ¬((s.mem.stk (stackOf (s.place addr.toNat).pc)).step = true ∧ (s.mem.stk (stackOf (s.place addr.toNat).pc)).down = true) then .active else (s.mem.stk (stackOf (s.place addr.toNat).pc)).phase) ∧
        t.mem.rt = (if rtClass port then setAt s.mem.rt port ⟨level, false, busy⟩ else s.mem.rt) ∧ Only [.cnt, .mem] s t) ∧
    (∀ (p : Fin 128) (sev : Fin 3) (hit : BurstHit) (r : MemReq) (rest : List MemReq), (s.mem.pc p).flight = r :: rest →
      ∃ t, exec (.memReadBurst p sev hit) s = .next t ∧ (t.mem.pc p).flight = rest ∧
        (sev.val = 0 → Only [.mem] s t) ∧
        (sev.val = 1 → t.cnt (Reg.stackCe (stackOf p)) = (s.bump (Reg.stackCe (stackOf p))).cnt (Reg.stackCe (stackOf p)) ∧ Only [.mem, .cnt] s t) ∧
        (sev.val = 2 → t.mem.ueAddr = r.addr ∧ t.mem.uePort = r.port)) ∧
    (∀ p : Fin 128, s.pcRuns p = true → (s.mem.pc p).refTick + s.refiPb p ≤ 64 * s.ticks →
      ∃ t, exec (.refreshDue p) s = .next t ∧ (∀ q, q ≠ p.val → t.mem.pc q = s.mem.pc q) ∧
        t.mem.pc p = (if ((s.mem.pc p).rtQueued = false ∨ (s.mem.pc p).payAll = true ∨ (s.mem.stk (stackOf p)).hotTick = some s.ticks) ∨ s.oweLimit p ≤ (s.mem.pc p).owed
          then PcSt.refresh { s.mem.pc p with refTick := (s.mem.pc p).refTick + s.refiPb p }
          else { s.mem.pc p with refTick := (s.mem.pc p).refTick + s.refiPb p, owed := (s.mem.pc p).owed + 1 }) ∧ Only [.cnt, .mem] s t) ∧
    (∀ (p : Fin 128) (b : Fin 48), s.pcRuns p = true → (∃ o ∈ (s.mem.pc p).rows, o.bank = b.val ∧ o.tick + (s.pageIdle * 5 + 1) / 2 ≤ s.ticks) →
      ∃ t, exec (.pageIdleTimeout p b) s = .next t ∧ (t.mem.pc p).rows = (s.mem.pc p).rows.filter (·.bank != b.val) ∧
        (t.mem.pc p).queue = (s.mem.pc p).queue ∧ (∀ q, q ≠ p.val → t.mem.pc q = s.mem.pc q) ∧ Only [.mem] s t) ∧
    (∀ (p : Fin 128) (c : Fin 32), s.mem.ok = true → (s.mem.pc p).alert = none → c.val < (s.mem.pc p).cmds.length →
      ∃ t, exec (.parityAlert p c) s = .next t ∧ t.mem.pc p = { s.mem.pc p with alert := some ((s.mem.pc p).cmds.drop c), tries := 0, slotOn := none, trimStatus := if (s.mem.pc p).slotOn.isSome then 4 else (s.mem.pc p).trimStatus, trimQ := if (s.mem.pc p).slotOn.isSome then 0 else (s.mem.pc p).trimQ, eye := if (s.mem.pc p).slotOn.isSome then 0 else (s.mem.pc p).eye } ∧ (∀ q, q ≠ p.val → t.mem.pc q = s.mem.pc q) ∧ Only [.mem] s t) ∧
    (∀ (p : Fin 128) (cs : List MemCmd), (s.mem.pc p).alert = some cs →
      (∃ t, exec (.parityAlertClear p false) s = .next t ∧ t.mem.pc p = { (s.mem.pc p).replay s.ticks cs with alert := none, tries := 0 } ∧
        Only [.cnt, .mem] s t) ∧
      ((s.mem.pc p).tries < 2 → ∃ t, exec (.parityAlertClear p true) s = .next t ∧
        t.mem.pc p = { (s.mem.pc p).replay s.ticks cs with tries := (s.mem.pc p).tries + 1, rows := [] } ∧ Only [.cnt, .mem] s t))

/-- A stack reading is stored and makes the stack hot from 85 °C and cool from 83 °C; without limits reached nothing is raised. No
reading for 16 ms makes it hot and raises HK_STACK_UNREAD. A quiet stack that may rest or step enters it; a sleeping one wakes
for a need after its residency; at the exit it is active again with nothing owed and a step has changed its rate; one still
stepped down may begin the step up at once. A calibration slot starts when it may, and ends after 2 µs with its quality and each
delay moved toward its centre, or invalid with the delays kept. Training without a failure or a weak lane makes HBM work. -/
def Obligations.StacksAndCalibration : Prop :=
  ∀ (s : State), s.mem.pcs.length = 128 → s.mem.stks.length = 4 →
    (∀ (st : Fin 4) (v : BitVec 16), s.stackRead st = true → (s.mem.stk st).tempTick + 625000 ≤ s.ticks →
      ∃ (x : State) (ms : List FltMsg), exec (.stackTempReading st v) s = .next (x.hkRaise ms) ∧
        (x.mem.stk st).temp = v.toInt ∧ (x.mem.stk st).tempTick = s.ticks ∧
        ((x.mem.stk st).hot = true ↔ 1360 ≤ v.toInt ∨ ((s.mem.stk st).hot = true ∧ 1328 < v.toInt)) ∧
        (v.toInt < 1680 → v.toInt < 16 * s.stackWarn → ms = []) ∧ Only [.cnt, .evt, .hk, .mem] s x) ∧
    (∀ st : Fin 4, s.stackRead st = true → (s.mem.stk st).tempTick + 16 * 625000 ≤ s.ticks →
      ∃ x : State, exec (.stackReadTimeout st) s = .next (x.hkRaise [⟨Fk.hkStackUnread, srcStack st, []⟩]) ∧ (x.mem.stk st).hot = true ∧
        Only [.cnt, .evt, .hk, .mem] s x) ∧
    (∀ (st : Fin 4) (step : Bool), s.restOk st step = true →
      ∃ t, exec (.stackQuiet st step) s = .next t ∧ (t.mem.stk st).phase = .entering ∧ (t.mem.stk st).step = step ∧
        (t.mem.stk st).phaseTick = s.ticks ∧ t.mem.pcs = s.mem.pcs ∧ Only [.mem] s t) ∧
    (∀ st : Fin 4, (s.mem.stk st).phase = .selfRefresh → (s.mem.stk st).phaseTick + 625 ≤ s.ticks →
      ∃ t, exec (.stackWake st true) s = .next t ∧ (t.mem.stk st).phase = .exiting ∧ t.mem.pcs = s.mem.pcs ∧ Only [.mem] s t) ∧
    (∀ st : Fin 4, (s.mem.stk st).phase = .exiting →
      ∃ t, exec (.stackExitDone st) s = .next t ∧ (t.mem.stk st).down = ((s.mem.stk st).down != (s.mem.stk st).step) ∧
        (((t.mem.stk st).phase = .active ∧ (t.mem.stk st).step = false) ∨
          ((t.mem.stk st).down = true ∧ (t.mem.stk st).phase = .entering ∧ (t.mem.stk st).step = true)) ∧
        (t.mem.stk st).rate = (if (t.mem.stk st).down then 0 else s.memRate) ∧
        (∀ p ∈ pcsOf st, (t.mem.pc p).owed = 0 ∧ (t.mem.pc p).queue = (s.mem.pc p).queue) ∧ Only [.tiles, .mem, .host, .out] s t) ∧
    (∀ p : Fin 128, s.mem.ok = true → p.val < s.variant.pcsN → (s.mem.pc p).slotOn = none → (s.mem.pc p).slotTick ≤ s.ticks → s.slotOk p = true →
      ∃ t, exec (.trimSlotDue p) s = .next t ∧ t.mem.pc p = { s.mem.pc p with slotOn := some s.ticks } ∧ Only [.mem] s t) ∧
    (∀ (p : Fin 128) (t0 : Nat) (eye : List Nat) (centre : List Int), s.wf → (s.mem.pc p).slotOn = some t0 → t0 + 1250 ≤ s.ticks →
      (∃ t, exec (.trimSlotEnd p false eye centre) s = .next t ∧ (t.mem.pc p).slotOn = none ∧ (t.mem.pc p).trimStatus = 3 ∧
        t.regs.rws = s.regs.rws ∧ Only [.cnt, .evt, .mem] s t) ∧
      (eye ≠ [] → ∃ t, exec (.trimSlotEnd p true eye centre) s = .next t ∧ (t.mem.pc p).slotOn = none ∧
        (t.mem.pc p).trimStatus = (if 16 ≤ min 63 (eye.foldl min (eye.headD 0)) then 1 else 2) ∧
        (∀ l, l < 34 → t.rws (Reg.phyDelay p l) =
          wput (wput (s.rws (Reg.phyDelay p l)) 15 8 (trimMove (wfld (s.rws (Reg.phyDelay p l)) 15 8) (centre.getD (2 * l) (wfld (s.rws (Reg.phyDelay p l)) 15 8))))
            23 16 (trimMove (wfld (s.rws (Reg.phyDelay p l)) 23 16) (centre.getD (2 * l + 1) (wfld (s.rws (Reg.phyDelay p l)) 23 16)))) ∧
        Only [.rws, .cnt, .evt, .mem] s t)) ∧
    (∀ (eyes : List (List Nat)) (base : Word) (place : HbmPlaces), s.boot.stage = 4 → s.boot.sealWhen = .notYet → s.mem.ok = false →
      s.flt.shutTick = none → (∀ p l, p < s.variant.pcsN → l < 32 → 12 ≤ (eyes.getD p []).getD l 0) →
      ∃ t, exec (.hbmTrainingDone eyes [] base place) s = .next t ∧ t.mem.ok = true ∧ t.mem.lampBase = base.toNat ∧
        (∀ i, i < s.variant.stacksN → (t.mem.stk i).phase = .active ∧ (t.mem.stk i).trained = true) ∧
        (∀ p, p < s.variant.pcsN → (t.mem.pc p).train = 1) ∧ Only [.cnt, .evt, .mem] s t)

/-- CUE_GO and PLAN_CUE submit what their registers hold. A STANDBY counts and discards its own cues; an ACTIVE unit with a warm
standby delays them by 50 µs; otherwise an accepted scene cue joins the pending table with its acceptance instant, and a refused
one is shown with the lowest reason of R71 and counted. An accepted plan cue for another plan, with no re-step and no fixed
change, is pending; a refused one shows its reason. CUE_FLUSH empties the table. At the fix point the pending change becomes
fixed. A schedule entry's newest occurrence is submitted once, with valid wall time in full service. A due datagram or delayed
cue reaches the cue unit. -/
def Obligations.CuesFromEverySource : Prop :=
  ∀ s : State,
    (∀ v : Word, wbit v 1 = false →
      (s.rl.role = .standby → exec (.cueGo v) s = .next (s.bump Reg.relayCuesIgnored)) ∧
      (s.rl.role ≠ .standby → s.hasWarm = true → ∃ t, exec (.cueGo v) s = .next t ∧
        t.net = { s.net with relayQ := s.net.relayQ ++ [⟨s.ticks + 31250, .cue s.hostCue⟩] } ∧ Only [.net] s t) ∧
      (s.rl.role ≠ .standby → s.hasWarm = false → s.cueReason s.hostCue = 0 → ∃ x : State, exec (.cueGo v) s = .next x.cuesChanged ∧
        x.sc = { s.sc with pend := s.sc.pend ++ [s.pendCue s.hostCue], order := s.sc.order + 1 } ∧ Only [.sc, .rl, .out] s x) ∧
      (s.rl.role ≠ .standby → s.hasWarm = false → s.cueReason s.hostCue ≠ 0 → (s.cueReason s.hostCue = 5 → s.yields s.hostCue = none) → ∃ t, exec (.cueGo v) s = .next t ∧
        t.sc = { s.sc with refSrc := 0, refScene := s.hostCue.num, refWhy := s.cueReason s.hostCue } ∧ Only [.cnt, .evt, .sc] s t)) ∧
    (∀ v : Word, wbit v 0 = false → ∃ x : State, exec (.cueFlush v) s = .next x.cuesChanged ∧ x.sc = { s.sc with pend := [] } ∧
      Only [.cnt, .evt, .sc] s x) ∧
    (∀ v : Word, s.rl.role ≠ .standby → s.hasWarm = false →
      let w := s.setRw Reg.planCue (Word.of ((wput v 31 31 1).toNat &&& 0x207))
      (w.planReason w.hostPlan = 0 → w.hostPlan.num ≠ s.tl.num → s.tl.stepB = none → s.tl.pend = none →
        ∃ x : State, exec (.planCue v) s = .next x.cuesChanged ∧ x.tl.fixed = false ∧
          (∃ c, x.tl.pend = some c ∧ c.plan = w.hostPlan.num ∧ c.accept = s.wall ∧ c.src = 0 ∧ x.tl.pendB = s.heldAt s.tl.plan s.wall c) ∧
          Only [.rw, .tl] s x) ∧
      (w.planReason w.hostPlan ≠ 0 → ∃ t, exec (.planCue v) s = .next t ∧
        t.tl = { s.tl with refSrc := 0, refPlan := w.hostPlan.num, refWhy := w.planReason w.hostPlan } ∧ Only [.rw, .cnt, .evt, .tl] s t)) ∧
    (s.tl.pend.isSome = true → s.tl.fixed = false → s.fixPoint ≤ s.wall → ∃ t, exec .planCueFixPoint s = .next t ∧
      t.tl = { s.tl with fixed := true } ∧ Only [.tl, .rl, .out] s t) ∧
    (∀ (i : Nat) (e : Sched) (m a : Int), s.cfg.sched[i]? = some e → s.sc.schedMarks[i]? = some m → e.newest s.wall = some a → m < a - schedLead →
      ∃ x : State, x.sc = { s.sc with schedMarks := setAt s.sc.schedMarks i (a - schedLead) } ∧ Only [.sc] s x ∧
        exec (.scheduleOccurrence i) s = .next (if s.timeValid && s.tl.service then x.submitCue (e.cue a) else x.ev Ev.schedSkipped [i])) ∧
    (∀ d rest, s.net.dgQueue = d :: rest → d.due ≤ s.ticks →
      exec .cueDatagramAccept s = .next (State.asOf { s with net := { s.net with dgQueue := rest } } d.due fun y => y.submitCue (dgCue d.bytes))) ∧
    (∀ d rest, s.net.relayQ = d :: rest → d.due ≤ s.ticks → ∃ x : State, x.net = { s.net with relayQ := rest } ∧ Only [.net] s x ∧
      (∀ c, d.what = .cue c → exec .relayDelayedAccept s = .next (x.asOf d.due fun y => y.takeCue c)) ∧
      (∀ p q k z, d.what = .lamp p q k z → exec .relayDelayedAccept s = .next (x.asOf d.due fun y => y.lampFault p q k z)))

/-- At an input that is on, with a cue port configured: a malformed datagram, a bad tag, another device, no valid time and an instant
outside the window each raise only their own counter (a bad tag also its record), in that order; a datagram newer than the last
of its sender raises CUE_DG_ACCEPTED, is remembered, and is due at the cue unit 20 µs later. One whose tag matches is noted for
the rest of its tick, in which a zeroisation may still undo it. -/
def Obligations.CueDatagramChecks : Prop :=
  ∀ (s : State) (sub : Fin 8) (d : List Byte), s.subOn sub = true → wfld (s.rws Reg.cueDgCfg) 31 16 ≠ 0 →
    (dgFormed d = false → exec (.cueDatagramRx sub d) s = .next (s.bump Reg.cueDgMalformed)) ∧
    (dgFormed d = true →
      (s.dgTag d = false → ∃ t, exec (.cueDatagramRx sub d) s = .next t ∧ t.net.dgQueue = s.net.dgQueue ∧ t.net.senders = s.net.senders ∧
        Only [.cnt, .evt, .net] s t) ∧
      (s.dgTag d = true →
        (nbit (leAt d 6 2) s.cfg.devNum = false → exec (.cueDatagramRx sub d) s = .next ((s.dgNote (beAt d 8 1)).bump Reg.cueDgOther)) ∧
        (nbit (leAt d 6 2) s.cfg.devNum = true →
          (s.timeValid = false → exec (.cueDatagramRx sub d) s = .next ((s.dgNote (beAt d 8 1)).bump Reg.cueDgNoTime)) ∧
          (s.timeValid = true →
            (s.cueWindow * 1000000 < (splitDiff (leAt d 20 5) s.split).natAbs →
              exec (.cueDatagramRx sub d) s = .next ((s.dgNote (beAt d 8 1)).bump Reg.cueDgStale)) ∧
            ((splitDiff (leAt d 20 5) s.split).natAbs ≤ s.cueWindow * 1000000 →
              (∀ l, (s.net.senders.getD (beAt d 8 1) ⟨none, [], 0, 0⟩).last = some l → l < leAt d 12 8) →
              ∃ t, exec (.cueDatagramRx sub d) s = .next t ∧ t.net.dgQueue = s.net.dgQueue ++ [⟨s.ticks + 12500, d⟩] ∧
                t.net.senders = setAt s.net.senders (beAt d 8 1) ⟨some (leAt d 12 8), d, s.ticks, sub⟩ ∧
                t.cnt Reg.cueDgAccepted = (s.bump Reg.cueDgAccepted).cnt Reg.cueDgAccepted ∧ Only [.cnt, .net] s t)))))

/-- A read of TB_NOW_NS returns the nanoseconds, copies seconds, nanoseconds and fraction into the snapshot, and the split and
snapshot registers then show that instant. A pulse whose width is no symbol, or after decoding an edge more than 1 ms from a
whole second, raises LAPREF_BAD and drops the word in progress, keeping offset and rate. A usable first edge starts a word only
if it is a marker, and counts as one valid second. Once two seconds have passed since the last edge, the run of valid seconds is
0 and the source loses its qualification. -/
def Obligations.CounterReadsAndReferencePulses : Prop :=
  ∀ s : State,
    (∃ t, exec .tbNowNsRead s = .next t ∧ t.out = s.out ++ [.readWords [Word.of s.tb.ns]] ∧
      t.readTb Reg.tbNowSecLo = some (Word.of (s.tb.sec % 2 ^ 32)) ∧ t.readTb Reg.tbNowSecHi = some (Word.of (s.tb.sec / 2 ^ 32)) ∧
      t.readTb Reg.tbNowFrac = some (Word.of s.tb.frac) ∧ t.readTb Reg.tbSplitLo = some (Word.of (splitOf s.wall % 2 ^ 32)) ∧
      t.readTb Reg.tbSplitHi = some (Word.of (splitOf s.wall / 2 ^ 32)) ∧
      t.tb = { s.tb with snapSec := s.tb.sec, snapNs := s.tb.ns, snapFrac := s.tb.frac } ∧ Only [.tb, .out] s t) ∧
    (∀ (w : Nat) (ph : Fin 8),
      (laprefSym w = 3 ↔ ¬(10 ≤ w ∧ w ≤ 30 ∨ 50 ≤ w ∧ w ≤ 70 ∨ 90 ≤ w ∧ w ≤ 110)) ∧
      (laprefSym w = 3 ∨ s.tb.lapref.decoded = true ∧ 1000000 < phaseNs (s.stamp10 ph) →
        ∃ t, exec (.laprefPulse w ph) s = .next t ∧ t.cnt Reg.laprefBad = (s.bump Reg.laprefBad).cnt Reg.laprefBad ∧
          t.tb = { s.tb with lapref := { s.tb.lapref with width := min w 65535, sym := laprefSym w, word := none } } ∧ Only [.cnt, .tb] s t) ∧
      (laprefSym w ≠ 3 → s.tb.lapref.decoded = false → s.tb.lapref.word = none → s.tb.lapref.edgeTick = none →
        ∃ t, exec (.laprefPulse w ph) s = .next t ∧ t.tb.lapref.edgeTick = some s.ticks ∧ t.tb.lapref.run = 1 ∧ t.tb.lapref.decoded = false ∧
          t.tb.lapref.word = (if laprefSym w = 2 then some [] else none) ∧ t.tb.offs = s.tb.offs ∧ Only [.tb] s t)) ∧
    (∀ k, s.tb.lapref.edgeTick = some k → k + 1250000000 ≤ s.ticks → s.tb.lapref.run ≠ 0 →
      ∃ x : State, exec .laprefEdgeTimeout s = .next (x.setQual 3 false) ∧
        x.tb = { s.tb with lapref := { s.tb.lapref with run := 0, word := none } } ∧ Only [.tb] s x)

/-- TB_RESTEP outside a large offset or a running plan, or with a re-step in progress, only raises RESTEP_REFUSED. Otherwise a fixed
change holds it, and with none fixed the boundary is fixed at once, and a pending unfixed plan cue is held. At the decision point
an offset below 1 µs cancels it, recording its event, and any other commits it; nothing else changes. The revert timer applies
the source choice: nothing where the choice stands, holdover where no source is left, and otherwise the source chosen. -/
def Obligations.RestepsAndSources : Prop :=
  ∀ s : State,
    (∀ v : Word,
      (s.tb.large = false ∨ s.tl.on = false ∨ s.boot.stage = 6 ∨ s.tl.stepB.isSome = true ∨ s.tl.stepHeld = true →
        exec (.tbRestep v) s = .next (s.bump Reg.restepRefused)) ∧
      (s.tb.large = true → s.tl.on = true → s.boot.stage ≠ 6 → s.tl.stepB = none → s.tl.stepHeld = false →
        (s.changeFixed = true → exec (.tbRestep v) s = .next { s with tl := { s.tl with stepHeld := true } }) ∧
        (s.changeFixed = false → s.tl.fixed = false → ∃ t, exec (.tbRestep v) s = .next t ∧ t.tl.stepB = some (s.changeAt s.wall) ∧
          t.tl.stepGo = none ∧ t.tl.pend = none ∧ t.tl.held = (if s.tl.pend.isSome then s.tl.pend else s.tl.held) ∧ Only [.tl] s t))) ∧
    (∀ b, s.tl.stepB = some b → s.tl.stepGo = none → b - 2000000 ≤ s.wall →
      (s.tb.est.natAbs < 1000 → ∃ t, exec .restepDecisionPoint s = .next t ∧ t.tl = { s.tl with stepGo := some false } ∧
        t.tb = { s.tb with firstDue := false } ∧ Only [.cnt, .evt, .tb, .tl] s t) ∧
      (1000 ≤ s.tb.est.natAbs → exec .restepDecisionPoint s = .next { s with tl := { s.tl with stepGo := some true } })) ∧
    (s.nextSel = s.tb.sel → exec .sourceRevertTimer s = .next { s with tb := { s.tb with judge := false } }) ∧
    (s.nextSel ≠ s.tb.sel → s.nextSel = 0 → ∃ t, exec .sourceRevertTimer s = .next t ∧ t.tb = { s.tb with sel := 0, judge := false } ∧ Only [.cnt, .evt, .tb] s t) ∧
    (∀ n, s.nextSel = n + 1 → n + 1 ≠ s.tb.sel → s.tb.stepped = true → ∃ t, exec .sourceRevertTimer s = .next t ∧
      t.tb.sel = n + 1 ∧ t.tb.prev = n + 1 ∧ Only [.cnt, .evt, .tb] s t)

/-- The high write is only staged. The low write clears the staged part, and forms the new value with it, or with the held high part.
A value not above the fence only raises HS_FENCE_REGRESS; a larger one becomes the fence, fresh in full service, and the fence of
the ticks before stays for a latch of the same tick still to be taken. A scene query keeps its two scenes, and then reads them
(where the register file is canonical) with the destination's reason and whether a fade between the two has been passed. -/
def Obligations.FencesAndSceneQueries : Prop :=
  ∀ (s : State) (v : Word),
    (∀ n : Fin 16, exec (.hsFenceHiWrite n v) s = .next (s.modFence n fun f => { f with staged := some v.toNat })) ∧
    (∀ n : Fin 16, n < s.sc.fences.length →
      let f := s.fence n
      let g := f.staged.getD (f.value / 2 ^ 32) * 2 ^ 32 + v.toNat
      (g ≤ f.value → ∃ t, exec (.hsFenceLoWrite n v) s = .next t ∧ t.fence n = { f with staged := none } ∧
        t.cnt (Reg.hsFenceRegress n) = (s.bump (Reg.hsFenceRegress n)).cnt (Reg.hsFenceRegress n) ∧ Only [.cnt, .sc] s t) ∧
      (f.value < g → ∃ t, exec (.hsFenceLoWrite n v) s = .next t ∧
        t.fence n = { f with staged := none, value := g, fresh := s.tl.service, live := true, tick := s.ticks, prior := if f.tick = s.ticks then f.prior else f.value, priorFresh := if f.tick = s.ticks then f.priorFresh else f.fresh, priorLive := if f.tick = s.ticks then f.priorLive else f.live && s.latchPending } ∧ Only [.cnt, .evt, .sc] s t) ∧
      (∀ t, exec (.hsFenceLoWrite n v) s = .next t → ∀ m, m ≠ (n : Nat) → t.fence m = s.fence m)) ∧
    (∃ t, exec (.sceneQueryWrite v) s = .next t ∧ t = s.setRw Reg.sceneQuery (Word.of (wfld v 13 8 * 256 + wfld v 5 0)) ∧
      (s.wf → t.readCues Reg.sceneQuery = some (Word.of (b2n (s.fab.fades.contains (wfld v 5 0, wfld v 13 8)) * 2 ^ 24 +
        s.sc.reasons.getD (wfld v 13 8) 0 * 2 ^ 16 + (wfld v 13 8 * 256 + wfld v 5 0)))) ∧ Only [.rw] s t)

/-- On a sub-port with one running slot: a malformed message only raises BAD_MESSAGES, and one of another domain, a management and a
signaling message have no effect. An Announce makes its sender one of at most 8 known masters, of which those unselected that
have fallen silent no longer count, and the best is chosen. A Sync of the selected master with an interval in range is kept, and
completes a measurement where its origin time and a delay are known; a two-step one waits for its Follow_Up. A response to the
slot's own request gives the delay of its mode; a two-step Pdelay_Resp waits. A peer's request in peer-to-peer mode is answered
by two messages. -/
def Obligations.PtpMessagesTaken : Prop :=
  ∀ (s : State) (i ph : Fin 8) (a : Nat) (d : List Byte), s.slotsOn i = [a] →
    (PtpHdr.parse d = none → ∀ c ∈ [Instr.ptpAnnounce i d, .ptpSync i d ph, .ptpFollowUp i d, .ptpDelayResp i d, .ptpPdelayReq i d ph,
      .ptpPdelayResp i d ph, .ptpPdelayRespFollowUp i d, .ptpManagement i d, .ptpSignaling i d], exec c s = .next (s.bump (Reg.badMessages a))) ∧
    (∀ h, PtpHdr.parse d = some h →
      exec (.ptpManagement i d) s = .next s ∧ exec (.ptpSignaling i d) s = .next s ∧
      (h.domain ≠ s.ptpDomain a → ∀ c ∈ [Instr.ptpAnnounce i d, .ptpSync i d ph, .ptpFollowUp i d, .ptpDelayResp i d, .ptpPdelayReq i d ph,
        .ptpPdelayResp i d ph, .ptpPdelayRespFollowUp i d], exec c s = .next s) ∧
      (h.domain = s.ptpDomain a → let p := s.ptp a; let t2 := s.rxStamp (s.ptpSub a) ph
        (h.type = 0xB →
          let same := fun x : Master => x.clock == h.clock && x.port == h.port
          let known := p.masters.filter fun x => !(s.masterLate a x) || p.sel == some (x.clock, x.port) || same x
          a < s.tb.ptp.length →
          (known.any same = false → 8 ≤ known.length → exec (.ptpAnnounce i d) s = .next (s.modPtp a fun q => { q with masters := known })) ∧
          (known.any same = true ∨ known.length < 8 → ∃ m : Master, m.clock = h.clock ∧ m.port = h.port ∧ m.prio1 = leAt d 47 1 ∧
            m.cls = leAt d 48 1 ∧ m.prio2 = leAt d 52 1 ∧ m.gm = beAt d 53 8 ∧ m.steps = beAt d 61 2 ∧ m.tick = s.ticks ∧
            exec (.ptpAnnounce i d) s = .next ((s.modPtp a fun q => { q with masters := (known.filter fun x => !same x) ++ [m] }).chooseMaster a))) ∧
        (h.type = 0 →
          (p.sel ≠ some (h.clock, h.port) ∨ h.log < -7 ∨ 1 < h.log → exec (.ptpSync i d ph) s = .next s) ∧
          (p.sel = some (h.clock, h.port) → -7 ≤ h.log → h.log ≤ 1 →
            (h.twoStep = true → exec (.ptpSync i d ph) s = .next (s.modPtp a fun p => { p with sync := some ⟨h.seq, t2, h.corr, none⟩, syncLog := h.log })) ∧
            (h.twoStep = false → exec (.ptpSync i d ph) s =
              .next ((s.modPtp a fun p => { p with sync := some ⟨h.seq, t2, h.corr, some h.time⟩, syncLog := h.log }).tryMeasure a)))) ∧
        (h.type = 8 → ∀ r, p.sync = some r → p.sel = some (h.clock, h.port) → r.seq = h.seq → r.t1 = none → exec (.ptpFollowUp i d) s =
          .next ((s.modPtp a fun p => { p with sync := some { r with corr := r.corr + h.corr, t1 := some h.time } }).tryMeasure a)) ∧
        (h.type = 9 → ∀ t3 t1 t2', p.dreqT3 = some t3 → p.last = some (t1, t2') → s.ptpP2p a = false → p.sel = some (h.clock, h.port) →
          s.forMe a d = true → h.seq = p.dreqSeq → exec (.ptpDelayResp i d) s =
          .next ((s.modPtp a fun p => { p with dreqLog := h.log }).gotDelay a (((t2' - t1) + (h.time - h.corr - t3)) / 2))) ∧
        (h.type = 3 → ∀ t1, p.dreqT3 = some t1 → s.ptpP2p a = true → s.forMe a d = true → h.seq = p.dreqSeq → exec (.ptpPdelayResp i d ph) s =
          .next (if h.twoStep then s.modPtp a fun p => { p with pdT2 := some (h.time - h.corr), pdT4 := t2 } else s.gotDelay a ((t2 - t1 - h.corr) / 2))) ∧
        (h.type = 0xA → ∀ t1 r2, p.dreqT3 = some t1 → p.pdT2 = some r2 → s.ptpP2p a = true → s.forMe a d = true → h.seq = p.dreqSeq →
          exec (.ptpPdelayRespFollowUp i d) s = .next (s.gotDelay a (((p.pdT4 - t1) - (h.time + h.corr - r2)) / 2))) ∧
        (h.type = 2 →
          (s.ptpP2p a = false → exec (.ptpPdelayReq i d ph) s = .next s) ∧
          (s.ptpP2p a = true → ∃ x : State, x = s.ptpSend a 319 true (s.ptpHead a 3 54 0x0200 h.seq 0x7F 0 ++ timeBytes t2 ++ slice d 20 10) ∧
            exec (.ptpPdelayReq i d ph) s = .next (x.ptpSend a 320 true (x.ptpHead a 0xA 54 0 h.seq 0x7F (h.corr / 10) ++
              timeBytes (x.txStamp (x.ptpSub a) 0) ++ slice d 20 10))))))

/-- A Sync with origin time and a known delay completes a measurement: the count of consecutive ones rises, no interval counts as
missed, and with the sixteenth the slot qualifies. A delay request goes out at its interval in its mode, with the next sequence
number and its departure stamp. When the announces of the selected master have stopped for the receipt time, the masters that are
late are forgotten, the timeout is counted and the slot is not qualified. Each interval without a measurement counts in
SYNC_MISSED and ends the run of measurements; the third in a row ends the qualification. -/
def Obligations.PtpMeasuringAndTimeouts : Prop :=
  ∀ (s : State) (a : Fin 2), a < s.tb.ptp.length → let p := s.ptp a
    (∀ r t1, p.sync = some r → r.t1 = some t1 → p.delayOk = true → s.tryMeasure a = s.measured a r t1) ∧
    (p.delayOk = false ∨ p.sync = none → s.tryMeasure a = s) ∧
    (∀ r t1, ((s.measured a r t1).ptp a).good = min 16 (p.good + 1) ∧ ((s.measured a r t1).ptp a).missed = 0 ∧
      ((s.measured a r t1).ptp a).qual = (p.qual || decide (15 ≤ p.good))) ∧
    (∀ ph : Fin 8, s.ptpOn a = true → s.ptpP2p a = false → p.sel.isSome = true →
      p.dreqTick + max (logTicks p.dreqLog) (logTicks (s.ptpLog a)) ≤ s.ticks → ∃ x : State,
        exec (.delayReqSend a ph) s = .next (x.ptpSend a 319 false (x.ptpHead a 1 44 0 ((p.dreqSeq + 1) % 65536) 0x7F 0 ++ List.replicate 10 0)) ∧
        x.ptp a = { p with dreqSeq := (p.dreqSeq + 1) % 65536, dreqT3 := some (s.txStamp (s.ptpSub a) ph), dreqTick := s.ticks } ∧ Only [.tb] s x) ∧
    (∀ ph : Fin 8, s.ptpOn a = true → s.ptpP2p a = true → p.dreqTick + 625000000 ≤ s.ticks → ∃ x : State,
        exec (.pdelayReqSend a ph) s = .next (x.ptpSend a 319 true (x.ptpHead a 2 54 0 ((p.dreqSeq + 1) % 65536) 0x7F 0 ++ List.replicate 20 0)) ∧
        x.ptp a = { p with dreqSeq := (p.dreqSeq + 1) % 65536, dreqT3 := some (s.txStamp (s.ptpSub a) ph), dreqTick := s.ticks, pdT2 := none } ∧
        Only [.tb] s x) ∧
    (∀ m, p.masters.find? (fun m => p.sel == some (m.clock, m.port)) = some m →
      let late := fun x : Master => s.past x.tick (s.ptpTimeout a * logTicks x.logInt)
      (late m = false → exec (.announceReceiptTimeout a) s = .next s) ∧
      (late m = true → ∃ x : State, exec (.announceReceiptTimeout a) s = .next ((x.chooseMaster a).ptpLost a) ∧
        x.ptp a = { p with masters := p.masters.filter fun x => !late x } ∧ x.cnt (Reg.announceTimeouts a) = (s.bump (Reg.announceTimeouts a)).cnt (Reg.announceTimeouts a) ∧
        Only [.cnt, .tb] s x ∧ (((x.chooseMaster a).ptpLost a).ptp a).qual = false)) ∧
    (p.sel.isSome = true → p.syncTick + logTicks p.syncLog ≤ s.ticks → ∃ t, exec (.syncIntervalMiss a) s = .next t ∧ (t.ptp a).good = 0 ∧
      (t.ptp a).missed = min 3 (p.missed + 1) ∧ (t.ptp a).qual = (p.qual && decide (p.missed < 2)) ∧
      (p.missed < 2 → t.cnt (Reg.syncMissed a) = (s.bump (Reg.syncMissed a)).cnt (Reg.syncMissed a) ∧ Only [.cnt, .tb] s t))

/-- At a sub-port that is off nothing happens. An overrun counts in the elastic buffer; an errored frame, one out of size, one with a
bad FCS and a PAUSE frame are discarded and counted. With MACsec a frame that does not open counts in MACSEC_DISCARDS, one that
opens is taken in; without it a good frame is taken in. Taken in, a frame of another VLAN, of another destination or of no known
type is discarded; ARP and IPv4 go to their receivers. An ARP packet that is no request for the own address has no effect; a
request is answered. A link change is kept; coming up and going down are recorded, and coming up reports the groups. -/
def Obligations.EthernetFramesIn : Prop :=
  ∀ (s : State) (i : Fin 8),
    (s.subOn i = false → (∀ rx d, exec (.ethFrameRx i rx d) s = .next s) ∧ ∀ up hi, exec (.ethLinkChange i up hi) s = .next s) ∧
    (s.subOn i = true → ∀ (rx : EthRx) (d : List Byte),
      let x := (s.bumpN (Reg.fecCorrected (i / 2)) rx.corrected).bumpN (Reg.fecUncorrected (i / 2)) rx.lost
      let good := rx.errored = false ∧ 64 ≤ d.length ∧ d.length ≤ 9216 ∧ leAt d (d.length - 4) 4 = (crc32 (d.take (d.length - 4))).toNat ∧
        beAt d 12 2 ≠ 0x8808
      let f := d.take (d.length - 4)
      (rx.full = true → exec (.ethFrameRx i rx d) s = .next (x.elasticLoss 2)) ∧
      (rx.full = false → ¬good → exec (.ethFrameRx i rx d) s = .next (x.bump (Reg.rxDiscards (i / 2)))) ∧
      (rx.full = false → good →
        (s.macsecOn (i / 2) = false → exec (.ethFrameRx i rx d) s = .next (x.ethTake i rx.phase (f.take 6) (f.drop 12))) ∧
        (s.macsecOn (i / 2) = true → x.macsecOpen (i / 2) f = none → exec (.ethFrameRx i rx d) s = .next (x.bump (Reg.macsecDiscards (i / 2)))) ∧
        (s.macsecOn (i / 2) = true → ∀ p y, x.macsecOpen (i / 2) f = some (p, y) →
          exec (.ethFrameRx i rx d) s = .next (y.ethTake i rx.phase (f.take 6) p)))) ∧
    (∀ (ph : Nat) (da p : List Byte),
      (vlanTake (s.ethVid (i / 2)) p = none → s.ethTake i ph da p = s.bump (Reg.rxDiscards (i / 2))) ∧
      (∀ t b, vlanTake (s.ethVid (i / 2)) p = some (t, b) → s.ethTake i ph da p =
        if s.macOk i da t = false then s.bump (Reg.rxDiscards (i / 2)) else if t = 0x0806 then s.arp i b else if t = 0x0800 then s.ipTake i ph b
        else s.bump (Reg.rxDiscards (i / 2)))) ∧
    (∀ d : List Byte,
      let ask := 28 ≤ d.length ∧ beAt d 0 2 = 1 ∧ beAt d 2 2 = 0x0800 ∧ leAt d 4 1 = 6 ∧ leAt d 5 1 = 4 ∧ beAt d 6 2 = 1 ∧ beAt d 24 4 = s.ip i ∧ s.ip i ≠ 0
      (¬ask → exec (.arpRequest i d) s = .next s) ∧
      (ask → exec (.arpRequest i d) s = .next (s.ethSend i (slice d 8 6) 0x0806 ([0, 1, 8, 0, 6, 4, 0, 2] ++ s.mac (i / 2) ++ beBytes 4 (s.ip i) ++
        slice d 8 6 ++ slice d 14 4)))) ∧
    (s.subOn i = true → ∀ up hi, let x := s.modSub i fun p => { p with up := up, hiSer := hi }
      (up = (s.sub i).up → exec (.ethLinkChange i up hi) s = .next x) ∧
      (up = false → (s.sub i).up = true → exec (.ethLinkChange i up hi) s = .next (x.evtAt (srcSub i) Ev.ethLinkDown [i / 2, i % 2])) ∧
      (up = true → (s.sub i).up = false → i < s.net.subs.length → ∃ y : State, y.net = { x.net with subs := modAt x.net.subs i fun p => { p with again := (s.sub i).groups.flatMap (fun g => groupChange g.1 none (some g.2)), repTick := s.ticks } } ∧
        Only [.cnt, .evt, .net] s y ∧
        exec (.ethLinkChange i up hi) s = .next (y.igmpReport i ((s.sub i).groups.flatMap fun g => groupChange g.1 none (some g.2)))))

/-- A message that is no query with a good checksum on a running sub-port has no effect. A version 3 query is answered with the
current state of the groups it names, cut to its sources; an older one, of 8 bytes, is answered for its groups, and recorded
unless one was within the last hour; another length below 12 bytes is no query. The report timer sends the second report and
forgets it. A flow that has been unwanted for 2 s is left: it is on no path and receives no frame, what completed stays, and the
groups follow. A path with no valid packet for 1 s is not alive, with its event; the other path stays as it was. -/
def Obligations.GroupQueriesAndTimers : Prop :=
  ∀ s : State,
    (∀ (i : Fin 8) (d : List Byte),
      let query := leAt d 0 1 = 0x11 ∧ 8 ≤ d.length ∧ fold16 (sum16 d) = 65535 ∧ s.subOn i = true
      let p := s.sub i
      let asked := fun (srcs : List Nat) => (p.groups.filter fun x => beAt d 4 4 == 0 || x.1 == beAt d 4 4).flatMap fun x => queryRec x.1 x.2 srcs
      (¬query → exec (.igmpQuery i d) s = .next s) ∧
      (query → 12 ≤ d.length → exec (.igmpQuery i d) s = .next (s.igmpReport i (asked ((List.range (beAt d 10 2)).map fun k => beAt d (12 + 4 * k) 4)))) ∧
      (query → 8 < d.length → d.length < 12 → exec (.igmpQuery i d) s = .next s) ∧
      (query → d.length = 8 →
        (∀ k, p.oldTick = some k → s.ticks < k + 3600 * 625000000 → exec (.igmpQuery i d) s = .next (s.igmpReport i (asked []))) ∧
        (p.oldTick = none → ∃ x : State, exec (.igmpQuery i d) s = .next (x.igmpReport i (asked [])) ∧ Only [.cnt, .evt, .net] s x ∧
          x = (s.modSub i fun p => { p with oldTick := some s.ticks }).evtAt (srcSub i) Ev.igmpOldQuerier [i / 2, i % 2, if leAt d 1 1 = 0 then 1 else 2]))) ∧
    (∀ i : Fin 8, ∃ x : State, x = s.igmpReport i (s.sub i).again ∧ exec (.igmpReportTimer i) s = .next (x.modSub i fun p => { p with again := [] })) ∧
    (∀ (f : Fin 64) (k : Nat), (s.flow f).unused = some k → k + 1250000000 ≤ s.ticks → s.flowWanted f = false → f < s.net.flows.length → ∃ x : State,
      exec (.flowLeaveTimer f) s = .next x.syncGroups ∧ (x.flow f).pri.joined = false ∧ (x.flow f).sec.joined = false ∧
      (x.flow f).pri.alive = (s.flow f).pri.alive ∧ (x.flow f).sec.alive = (s.flow f).sec.alive ∧ (x.flow f).rx = [] ∧ (x.flow f).unused = none ∧
      (x.flow f).done = (s.flow f).done ∧ (x.flow f).count = (s.flow f).count ∧ Only [.net] s x) ∧
    (∀ f : Fin 64, f < s.net.flows.length →
      ((s.flow f).sec.alive = true → (s.flow f).sec.tick + 625000000 ≤ s.ticks → ∃ t, exec (.flowPathTimeout f true) s = .next t ∧
        (t.flow f).sec.alive = false ∧ (t.flow f).sec.joined = (s.flow f).sec.joined ∧ (t.flow f).pri = (s.flow f).pri ∧
        (t.flow f).rx = (s.flow f).rx ∧ (t.flow f).bufs = (s.flow f).bufs ∧ Only [.cnt, .evt, .net] s t) ∧
      ((s.flow f).pri.alive = true → (s.flow f).pri.tick + 625000000 ≤ s.ticks → ∃ t, exec (.flowPathTimeout f false) s = .next t ∧
        (t.flow f).pri.alive = false ∧ (t.flow f).pri.joined = (s.flow f).pri.joined ∧ (t.flow f).sec = (s.flow f).sec ∧
        (t.flow f).rx = (s.flow f).rx ∧ (t.flow f).bufs = (s.flow f).bufs ∧ Only [.cnt, .evt, .net] s t))

/-- A packet for an invalid flow, of another payload type or on a path not joined has no effect; one of another source only counts
until the eighth in a row. A packet of the locked source no more than 2^20 behind is noted on its path; on a single-path flow it
is then taken into its frame, or counted bad when it carries a field or an old time stamp. A due frame that has a buffer is
dropped and counted, or completed with the pixels of the previous frame below its own and counted; its lost packets and those
missing on a path count. A completed frame with a buffer becomes the newest completed frame, with the next number, its time stamp
and its runs, and its lines stand in HBM at the buffer's place. -/
def Obligations.FlowPacketsAndFrames : Prop :=
  ∀ (s : State) (f : Fin 64) (r : FlowRec), s.flowRec? f = some r → f < s.net.flows.length → let w := s.flow f
    (∀ (sec : Bool) (d : List Byte) (p : RtpPkt), RtpPkt.parse d = some p →
      let joined := if sec then w.sec.joined else w.pri.joined
      (w.valid = false ∨ p.pt ≠ r.pt ∨ joined = false → exec (.flowPacketRx f sec d) s = .next s) ∧
      (w.valid = true → p.pt = r.pt → joined = true →
        (∀ k, w.ssrc = some k → k ≠ p.ssrc → (if w.otherSsrc = p.ssrc then w.other + 1 else 1) < 8 → exec (.flowPacketRx f sec d) s =
          .next (s.modFlow f fun w' => { w' with other := if w.otherSsrc = p.ssrc then w.other + 1 else 1, otherSsrc := p.ssrc })) ∧
        (∀ n, w.ssrc = some p.ssrc → w.newest = some n → -1048576 ≤ diff32 p.seq n → r.dual = false → ∃ x : State,
          x = (((s.modFlow f fun w => { w with other := 0 }).modFlow f fun w =>
            { w with newest := some (if 0 < diff32 p.seq n then p.seq else n), back := 0 }).pathPacket f sec r p.seq).noteSeq f p.seq ∧
          (x.flow f).rx = w.rx ∧ (x.flow f).lastTs = w.lastTs ∧ Only [.cnt, .evt, .net] s x ∧
          exec (.flowPacketRx f sec d) s = .next (if (p.srds.any (·.field) || w.tsOld p.ts) = true then x.bump (Reg.flowBad f) else x.takePacket f r p)))) ∧
    (∀ x, w.rx.filter (·.due r s.ticks) = [x] → x.buf.isSome = true → ∃ y : State,
      exec (.flowFrameClose f) s = .next ((y.countPath f false r).countPath f true r) ∧
      (r.conceal = false → y = (((s.bump (Reg.flowDropped f)).modFlow f fun w => w.dropRx x.ts).countLost f x).freeBufs f) ∧
      (r.conceal = true → y = (s.bump (Reg.flowConcealed f)).frameDone f r x (w.doneRuns ++ x.runs))) ∧
    (w.rx.filter (·.due r s.ticks) = [] → exec (.flowFrameClose f) s = .next ((s.countPath f false r).countPath f true r)) ∧
    (∀ (x : FrameRx) (b : Nat) (runs : List Run), x.buf = some b → b < w.bufs.length → let u := s.frameDone f r x runs; let y := u.flow f
      y.done = some b ∧ y.count = (w.count + 1) % 2 ^ 32 ∧ y.rtpTs = x.ts ∧ (y.buf b).runs = runs ∧ (y.buf b).frame = (w.count + 1) % 2 ^ 32 ∧
      y.rx = w.rx.filter (·.ts != x.ts) ∧ u.mem = (s.storeFrame f b r runs).mem)

/-- Before its instant or with no timeline a boundary does nothing. At a boundary that is no lap boundary the leg and lap follow from
its index, the leg sequence number has risen once full service has been entered, a hold that waits for its entry is held, and
plan, dark state and pending changes stay; the next boundary is the next index at the instant R33 gives. At a lap boundary a dark
lap ends, the cues of the boundary are taken, and with no change the lap begins at that boundary; a change goes on from its
instant, in a lap where that instant is a lap boundary of the plan now in force, else in a gap up to the first, or, after a
re-step, from the first leg boundary at or after it. -/
def Obligations.LegBoundaries : Prop :=
  ∀ s : State, let m := s.tl.next; let l : Int := s.tl.plan.legs; let b := s.tl.nextAt
    (s.tl.on = false ∨ s.wall < b → exec .legBoundary s = .next s) ∧
    (s.tl.on = true → b ≤ s.wall →
      let seq := if s.sc.shown then (s.tl.legSeq + 1) % 2 ^ 32 else s.tl.legSeq
      ((m % l).toNat ≠ 0 → ∃ t, exec .legBoundary s = .next t ∧ t.tl.leg = (m % l).toNat ∧ t.tl.lap = m / l ∧ t.tl.next = m + 1 ∧
        t.tl.nextAt = s.tl.plan.legAt s.cfg.epoch (m + 1) ∧ t.tl.legSeq = seq ∧ t.tl.plan = s.tl.plan ∧ t.tl.dark = s.tl.dark ∧
        t.tl.pend = s.tl.pend ∧ t.tl.began = true ∧ t.flt.hold = (if s.flt.holdFresh then .held else s.flt.hold)) ∧
      ((m % l).toNat = 0 → ∃ x : State, x.tl = { s.tl with began := true, legSeq := seq, gap := false, dark := s.tl.dark && !s.tl.darkLap, darkLap := s.tl.dark && !s.tl.darkLap } ∧ x.sc = s.sc ∧ x.ports = s.ports ∧
        ∀ y c, (x.cuesAt b (m / l)).lapChange b = (y, c) → let n := fun a => y.tl.plan.lapFrom y.cfg.epoch a
          (c = none → exec .legBoundary s = .next (y.lapLeg b (m / l) none)) ∧
          (∀ a st, c = some (a, st) → y.tl.plan.lapAt y.cfg.epoch (n a) = a → exec .legBoundary s =
            .next (State.lapLeg { y with tl := { y.tl with darkLap := y.tl.dark } } a (n a) (some a))) ∧
          (∀ a st, c = some (a, st) → y.tl.plan.lapAt y.cfg.epoch (n a) ≠ a →
            let z := (State.holdLap (State.monDrop { y with tl := { y.tl with gap := true, darkLap := false, leg := 0, lap := m / l } })).lapActions a (m / l)
            exec .legBoundary s = .next (if st then z.legsAfter a else z.goOn (n a * z.tl.plan.legs) (some a)))))

/-- With nothing due a lap boundary makes no change. A re-step comes first, then full service, limp service and the pending plan cue,
and a plan cue held meanwhile is placed. A plan change puts the cued plan in force; where the lap rate, legs, strides or scan
geometry differ the wall is dark and every pair is sent again. Full service starts with the initial plan and scene, dark, in
stage 5, with leg sequence number 0. Limp service puts the warm-up plan in force, dark. A scene cue for the current scene outside
a fade changes no scene; a cut makes the scene current; a fade of a fadeable pair begins at the boundary. -/
def Obligations.ChangesAtTheirBoundary : Prop :=
  ∀ (s : State) (b : Int),
    (s.changeDue b = none → s.lapChange b = (s, none)) ∧
    (∀ a, s.tl.stepB = some a → a ≤ b → let x : State := { s with tl := { s.tl with stepB := none, stepGo := none } }
      (s.tl.stepGo = some true → s.lapChange b = (x.takeStep b s.tb.est, some (b + s.tb.est, true))) ∧
      (s.tl.stepGo = some false → s.lapChange b = ((x.stepAsks b).placeHeld b, none))) ∧
    (s.tl.stepB = none → ∀ a, s.tl.fullB = some a → a ≤ b → s.lapChange b = (((s.takeFull b).placeHeld b).acceptHeld, some (b, false))) ∧
    (s.tl.stepB = none → s.tl.fullB = none → ∀ a, s.tl.limpB = some a → a ≤ b → s.lapChange b = ((s.takeLimp.placeHeld b).acceptHeld, some (b, false))) ∧
    (s.tl.stepB = none → s.tl.fullB = none → s.tl.limpB = none → ∀ c, s.tl.pend = some c → s.tl.pendB ≤ b →
      s.lapChange b = (((s.takePlan c b).placeHeld b).acceptHeld, some (b, false)) ∧
      ∃ x : State, s.takePlan c b = ((x.fadeViews.judgeRoom).guardUntil b).cuesChanged ∧ x.tl.plan = s.planOf c.plan ∧
        x.tl.num = (s.planOf c.plan).num ∧ x.tl.pend = none ∧ x.tl.fixed = false ∧
        (s.tl.plan.needsDark (s.planOf c.plan) = true → x.tl.dark = true ∧ x.tiles = s.tiles.map fun t =>
          if s.tl.plan.sameStore (s.planOf c.plan) && !s.tl.warm then t.forceAll.unready else t.legsNew (s.planOf c.plan).legs) ∧
        (s.tl.plan.needsDark (s.planOf c.plan) = false → x.tl.dark = s.tl.dark)) ∧
    (∃ x : State, s.takeFull b = ((x.judgeRoom).joins).updGuard ∧ x.tl.plan = s.planOf s.cfg.initPlan ∧ x.tl.service = true ∧ x.tl.legSeq = 0 ∧
      x.tl.dark = true ∧ x.tl.warm = false ∧ x.tl.fullB = none ∧ x.sc.cur = s.cfg.initScene ∧ x.sc.shown = true ∧ x.sc.fade = none ∧
      x.boot.stage = 5 ∧ x.boot.warmActive = false) ∧
    (s.takeLimp.tl.plan = s.cfg.warm ∧ s.takeLimp.tl.warm = true ∧ s.takeLimp.tl.dark = true ∧ s.takeLimp.tl.limpB = none ∧
      s.takeLimp.boot.warmActive = true ∧ s.takeLimp.flt.limpHold = false) ∧
    (∀ c : SceneCue, s.sc.fade = none →
      (c.scene = s.sc.cur → (s.takeScene c b).sc = s.sc) ∧
      (c.scene ≠ s.sc.cur → c.fade = false → (s.takeScene c b).sc.cur = c.scene ∧ (s.takeScene c b).sc.fade = none) ∧
      (c.scene ≠ s.sc.cur → c.fade = true → c.time ≠ 0 → s.fab.fades.contains (s.sc.cur, c.scene) = true →
        (s.takeScene c b).sc.cur = s.sc.cur ∧ (s.takeScene c b).sc.fade = some ⟨c.scene, c.ramp, c.time, b⟩))

/-- A due pulse leaves the queue, and where PIN_CTRL lets it its pin is active for WIDTH units of 62.5 ticks; at the end the pin is
inactive. On a running port that the device drives, the LAP frame of the next boundary with none sent is queued from 2,000 µs to
100 µs before that boundary, and at no other time. A pair that waits past its send deadline keeps its content for later: it is
dirty and not ready, and is in no computation of that leg; before the deadline nothing happens. -/
def Obligations.PinsLapFramesAndDeadlines : Prop :=
  ∀ s : State,
    (∀ (leg : Bool) (p : Pulse), s.tl.pulses.find? (fun p => p.leg == leg && decide (p.at_ ≤ s.wall)) = some p →
      (s.pinOn leg p.idx = false → exec (.pinPulseStart leg) s = .next { s with tl := { s.tl with pulses := s.tl.pulses.erase p } }) ∧
      (s.pinOn leg p.idx = true → ∃ x : State,
        exec (.pinPulseStart leg) s = .next (x.drivePin leg true) ∧ Only [.tl] s x ∧ x.tl.pulses = s.tl.pulses.erase p ∧
        (leg = true → x.tl.legPin = some (s.ticks + (125 * wfld (s.rws Reg.pinCtrl) 23 16 + 1) / 2) ∧ x.tl.lapPin = s.tl.lapPin) ∧
        (leg = false → x.tl.lapPin = some (s.ticks + (125 * wfld (s.rws Reg.pinCtrl) 15 8 + 1) / 2) ∧ x.tl.legPin = s.tl.legPin))) ∧
    (∀ k, (s.tl.legPin = some k → k ≤ s.ticks → exec (.pinPulseEnd true) s = .next (State.drivePin { s with tl := { s.tl with legPin := none } } true false)) ∧
      (s.tl.lapPin = some k → k ≤ s.ticks → exec (.pinPulseEnd false) s = .next (State.drivePin { s with tl := { s.tl with lapPin := none } } false false))) ∧
    (∀ leg on, ((s.drivePin leg on).pwr.legOut = if leg then s.pinLevel leg on else s.pwr.legOut) ∧
      ((s.drivePin leg on).pwr.lapOut = if leg then s.pwr.lapOut else s.pinLevel leg on)) ∧
    (∀ (p : Fin 16) (l : LapAhead), p < s.ports.length → s.tl.on = true → (s.port p).up = true → s.drives p = true → s.silent p = false →
      (s.lapsAhead p).find? (fun l => match (s.port p).lapNext with | some b => decide (b < l.at_) | none => true) = some l →
      (l.at_ - 2000000 ≤ s.wall ∧ s.wall ≤ l.at_ - 100000 → ∃ t f, exec (.lapFrameSend p) s = .next t ∧
        t.port p = { s.port p with queue := (s.port p).queue ++ [f], tag := (s.port p).tag + 1, lapNext := some l.at_ } ∧
        f.kind = .lap ∧ f.due = l.at_ ∧ Only [.ports] s t) ∧
      (¬(l.at_ - 2000000 ≤ s.wall ∧ s.wall ≤ l.at_ - 100000) → exec (.lapFrameSend p) s = .next s)) ∧
    (∀ (p : Fin 16) (q : Fin 32) (j : Fin 8) (k : Nat) (t : Tile), s.tile? p q = some t →
      (32 * s.wall < s.deadline t j k → exec (.sendDeadline p q j k) s = .next s) ∧
      (s.tl.on = true → j < s.tl.plan.legs → s.unsent t j k = true → s.deadline t j k ≤ 32 * s.wall → ∃ u,
        exec (.sendDeadline p q j k) s = .next u ∧ u.tiles = (s.modTile t.port t.pos fun t => { t with pairs := modAt t.pairs j fun l => modAt l k fun x => { x with dirty := true, ready := false } }).tiles ∧ Only [.cnt, .evt, .sc, .tiles, .fab] s u))

/-- Without an unfinished changed latch, or while a pull for it is in progress, a composition's end has no effect. Otherwise the
view's canvas is the composition of its latch, with the block CRCs of that canvas, in the other buffer, and the latch is done
with nothing due. A block whose correction must begin before the composition ends is once noted as underrun, counted, and checked
again at the next latch, and the pairs that need it are formed with it as background, the canvas staying as it was; only the
first such block of a latch is recorded. A stopped monitor gives its frame up. A monitor packet is not sent before its time; when
due, the first in line goes out, is counted, and completes a frame if it is the last and none of it was lost; one that the
transmit buffer runs dry in is lost, and whether it does is a free value (log 9). -/
def Obligations.CompositionAndMonitor : Prop :=
  ∀ s : State,
    (∀ v : Fin 8,
      ((s.view v).latch = none → exec (.viewComposeDone v) s = .next s) ∧
      (∀ l r, (s.view v).latch = some l → s.cfg.view? v = some r →
        (l.done = true ∨ l.changed = false ∨ s.pullFor l = true → exec (.viewComposeDone v) s = .next s) ∧
        (l.done = false → l.changed = true → s.pullFor l = false → v < s.sc.views.length → ∃ t k, exec (.viewComposeDone v) s = .next t ∧
          (t.view v).canvas = s.compose v l r.w r.h ∧ (t.view v).crcs = blockCrcs r.w r.h (s.compose v l r.w r.h) ∧
          (t.view v).buf = 1 - (s.view v).buf ∧ (t.view v).latch = some k ∧ k.done = true ∧ k.due = [] ∧ k.seq = l.seq ∧
          (∀ w, w ≠ (v : Nat) → t.view w = s.view w)))) ∧
    (∀ (v : Fin 8) (b : Nat),
      (s.unfinished v = none → exec (.blockCorrectionDue v b) s = .next s) ∧
      (∀ l r, s.unfinished v = some l → s.cfg.view? v = some r → v < s.sc.views.length →
        (l.underrun.contains b = true → exec (.blockCorrectionDue v b) s = .next s) ∧
        (l.underrun.contains b = false → ∃ x t, exec (.blockCorrectionDue v b) s = .next t ∧
          t = x.formLate v { l with underrun := l.underrun ++ [b] } r.w r.h b ∧
          (x.view v).latch = some { l with underrun := l.underrun ++ [b] } ∧ (x.view v).recheckBlocks.contains b = true ∧
          (∀ w, w ≠ (v : Nat) → x.view w = s.view w) ∧
          (l.underrun ≠ [] → x.cnt Reg.underrunCount = (s.bump Reg.underrunCount).cnt Reg.underrunCount ∧ Only [.cnt, .sc] s x) ∧
          (t.view v).canvas = (s.view v).canvas ∧ (t.view v).recheckBlocks = (x.view v).recheckBlocks ∧ (∀ w, w ≠ (v : Nat) → t.view w = s.view w)))) ∧
    (s.net.mon.packets = [] → exec .monitorPacketSend s = .next s) ∧
    (∀ p rest, s.net.mon.packets = p :: rest → let m := s.net.mon; let due := m.at_ + (m.sent * m.lapNum / (m.lapDen * max 1 m.total) : Nat)
      (s.monStop ≠ 0 → exec .monitorPacketSend s = .next s.monDrop) ∧
      (s.monStop = 0 → s.wall < due → exec .monitorPacketSend s = .next s) ∧
      (s.monStop = 0 → due ≤ s.wall → ∃ x : State, x.net = { s.net with mon := { m with packets := rest, sent := m.sent + 1, seq := (m.seq + 1) % 2 ^ 32, frames := if rest.isEmpty && !m.dry then (m.frames + 1) % 2 ^ 32 else m.frames } } ∧ Only [.net, .free] s x ∧
        exec .monitorPacketSend s = .next (if s.draw.1.getLsbD 0 then s.draw.2.monDry rest else
          x.udpSend s.monSub (wfld (s.rws Reg.monCfg) 13 8 * 4) 16 (s.rws Reg.monDst).toNat
          (wfld (s.rws Reg.monUdp) 15 0) (wfld (s.rws Reg.monUdp) 31 16) p)))

/-- A recheck of a lamp that is open or shorted, on a tile that detects, with room and none pending, is pending for that lamp; any
other only raises RECHECK_REFUSED. A watch keeps its lamp and leg and is not valid. A second after the last sweep in full service
every lamp that is checkable in some leg has count 0, and any other one more, at most 63; PROBE_DUE is taken. A tile that has had
no valid temperature for 1 s is stale, with its event, once. New delays change no other part of a tile. -/
def Obligations.LampsAndTilesByTimeAndSoftware : Prop :=
  ∀ s : State,
    (∀ v : Word,
      (s.mayRecheck (wfld v 24 0) = false → exec (.lampRecheck v) s = .next (s.bump Reg.recheckRefused)) ∧
      (s.mayRecheck (wfld v 24 0) = true → exec (.lampRecheck v) s =
        .next { s with tl := { s.tl with recheck := some (wfld v 24 0, 0), recheckRes := 1, recheckIdx := wfld v 24 0 } })) ∧
    (∀ i, s.mayRecheck i = true ↔ ∃ t k ty, s.lampAt i = some (t, k) ∧ ((t.lamps.map (·.state)).getD k 0 = 1 ∨ (t.lamps.map (·.state)).getD k 0 = 2) ∧
      s.typeOf t = some ty ∧ ty.detFloor ≠ 0 ∧ s.tl.recheckRes ≠ 1 ∧ s.tl.noRoom = false) ∧
    (∀ v : Word, ∃ t, exec (.lampWatchWrite v) s = .next t ∧ t.tl = { s.tl with watchOk := false } ∧
      (s.wf → t.rw Reg.lampWatch = Word.of (v.toNat % 2 ^ 28)) ∧ Only [.rw, .tl] s t) ∧
    (s.tl.service = true → s.tl.probeTick + 625000000 ≤ s.ticks → ∃ t, exec .probeCountSecond s = .next t ∧
      t.tiles = s.tiles.map (fun t => { t with lamps := t.lamps.map fun l => { l with unchecked := if l.check.any id then 0 else min 63 (l.unchecked + 1) } }) ∧
      t.tl.probeTick = s.ticks ∧ t.tl.probeDue = State.dueCount { s with tiles := t.tiles } ∧ Only [.tl, .tiles] s t) ∧
    (∀ (p : Fin 16) (q : Fin 32) (t : Tile), s.tile? p q = some t →
      (t.admitted = false ∨ t.stale = true ∨ s.ticks < t.tempTick + 625000000 → exec (.tileTempStale p q) s = .next s) ∧
      (t.admitted = true → t.stale = false → s.tends t = true → t.tempTick + 625000000 ≤ s.ticks → ∃ u, exec (.tileTempStale p q) s = .next u ∧
        u.tiles = (s.modTile p q fun t => { t with stale := true }).tiles ∧ Only [.cnt, .evt, .tiles] s u)) ∧
    (∃ x : State, exec .delayRecompute s = .next ((List.range 16).foldl State.relayDelays x) ∧ Only [.tiles] s x ∧
      x.tiles.map (fun t => { t with delay := 0 }) = s.tiles.map (fun t => { t with delay := 0 }))

/-- An enabled port whose clock is still starts; one that may not run, or runs, does not. Blocks and markers begin 10 µs after the
clock; a port not up after 10 ms has failed, recorded once; a failed one that may run starts again 100 ms after its start. A
start leaves the port not up, with no lock, empty queue and sequence numbers 0. A lock of a clocked port is taken by its lane's
state machine; a lost lock is counted, recorded and ends lock, alignment and the port being up, and a port that was up and may
run starts again; a third marker missed in a row does the same, one or two are only counted. -/
def Obligations.ChainPortStartAndLocks : Prop :=
  ∀ (s : State) (p : Fin 16), p < s.ports.length → let q := s.port p
    (s.portMayRun p = true → q.clock = false → exec (.portEnable p) s = .next (s.startPort p)) ∧
    (s.portMayRun p = false ∨ q.clock = true → exec (.portEnable p) s = .next s) ∧
    (let r := (s.startPort p).port p;
      r.clock = true ∧ r.blocks = false ∧ r.up = false ∧ r.lock = false ∧ r.clkTick = s.ticks ∧ r.queue = [] ∧ r.seqAll = 0 ∧ r.driveOk = false ∧
      Only [.ports, .out] s (s.startPort p)) ∧
    (q.clock = true → q.blocks = false → q.clkTick + 6250 ≤ s.ticks → ∃ t, exec (.portBlocksStart p) s = .next t ∧
      t.port p = { q with blocks := true, lanes := 15, blk0 := s.tb.run, markBlk := 0, busy := 0, beatTick := s.ticks } ∧ Only [.ports] s t) ∧
    (q.clock = true → q.up = false → q.failed = false → q.clkTick + 6250000 ≤ s.ticks → ∃ t, exec (.portStartTimeout p) s = .next t ∧
      t.port p = { q with failed := true, downSeen := true } ∧ Only [.cnt, .evt, .ports] s t ∧ (q.downSeen = true → Only [.ports] s t)) ∧
    (q.clock = true → q.up = false → q.failed = true → s.portMayRun p = true → q.clkTick + 62500000 ≤ s.ticks → exec (.portRestartTimer p) s = .next (s.startPort p)) ∧
    (q.clock = true → q.lock = false → q.lockSt = .hunt ∨ (∃ n : Fin 64, q.lockSt = .test n) → ∃ t, exec (.upstreamBlockLock p) s = .next t ∧
      (t.port p).lock = true ∧ t.port p = { q with lock := true, lockSt := (t.port p).lockSt } ∧ Only [.ports] s t) ∧
    (q.lock = true → ∃ x : State, exec (.upstreamLockLoss p) s = .next (x.loseUp p) ∧ x.port p = { q with lock := (x.port p).lock, lockSt := (x.port p).lockSt } ∧
      Only [.cnt, .evt, .ports] s x) ∧
    (q.lock = true → q.aligned = true →
      (q.missed + 1 < 3 → ∃ t, exec (.alignMissed p) s = .next t ∧ t.port p = { q with missed := q.missed + 1 } ∧ Only [.ports] s t) ∧
      (3 ≤ q.missed + 1 → exec (.alignMissed p) s = .next (s.loseUp p))) ∧
    (((s.loseUp p).port p).lock = false ∧ ((s.loseUp p).port p).aligned = false ∧ ((s.loseUp p).port p).up = false ∧
      (q.up = true → s.portMayRun p = true → ((s.loseUp p).port p).clkTick = s.ticks ∧ ((s.loseUp p).port p).blocks = false) ∧
      (s.portMayRun p = false → ((s.loseUp p).port p).clkTick = q.clkTick ∧ ((s.loseUp p).port p).clock = q.clock))

/-- On a port that follows no partner, a due marker goes out with the next count, on every lane that carries blocks with the lanes in
use and the lane's own BIP-8, and none in electrical idle; a due BEACON is queued on a port with blocks; a claim is repeated
after 100 µs until every tile names this device. A marker received aligns the port; the ECHO of a count of its own last markers
gives the round trip and brings a port with blocks up, and without it a port that was up loses its upstream lane. A port enters
electrical idle only when enabled, up, with nothing queued and nothing due; it leaves it before something is due, with a TRAIN
burst on every lane. -/
def Obligations.MarkersIdleBeaconsAndClaims : Prop :=
  ∀ (s : State) (p : Fin 16), p < s.ports.length → let q := s.port p
    ((∀ r, r < 16 → r ≠ (p : Nat) → (s.port r).blocks = false ∨ s.blockNow r < (s.port r).markBlk) → q.blocks = true → q.markBlk ≤ s.blockNow p →
      s.follows p = false → ∃ t, exec .alignSend s = .next t ∧ (t.port p).markBlk = q.markBlk + 16384 ∧ Only [.ports, .out] s t ∧
        (q.idle = false → t.out = s.out ++ [.chainAlign p ((s.blockLanes p).map fun k => (k, (Ctl.align k (s.inUse p) (q.sums.getD k .reset).value
          (nbit q.bipBad k) false q.mark).block.payload))] ∧ (t.port p).mark = (q.mark + 1) % 65536) ∧
        (q.idle = true → t.out = s.out ∧ (t.port p).mark = q.mark)) ∧
    ((∀ r, r < 16 → r ≠ (p : Nat) → (s.port r).blocks = false ∨ s.ticks < (s.port r).beatTick + 59375) → q.blocks = true → s.portOn p = true →
      s.silent p = false → q.beatTick + 59375 ≤ s.ticks → exec .beaconSend s = .next (s.beacon p)) ∧
    ((∀ r, r < 16 → r ≠ (p : Nat) → (s.port r).claim = none) → ∀ k, q.claim = some k → k + 62500 ≤ s.ticks → ∃ t, exec .batonClaimRepeat s = .next t ∧
      Only [.ports] s t ∧
      (((s.onPort p).all fun t => t.holder == some s.cfg.devNum) = true ∨ (s.rport p).split = true → t.port p = { q with claim := none }) ∧
      (((s.onPort p).all fun t => t.holder == some s.cfg.devNum) = false → (s.rport p).split = false → (t.port p).claim = some s.ticks ∧
        ∃ f, f.kind = .baton ∧ f.addr = 63 ∧ (t.port p).queue = q.queue ++ [f])) ∧
    (∀ (n : BitVec 16) (echo bip : Bool) (rt : Nat),
      (q.lock = false → exec (.upAlignRx p n echo bip rt) s = .next s) ∧
      (q.lock = true → s.follows p = false → let ok := echo && q.marks.any fun m => m.1 == n.toNat
        ∃ x : State, (x.port p).aligned = true ∧ (x.port p).missed = 0 ∧ Only [.cnt, .ports] s x ∧
          (ok = true → q.up = true → exec (.upAlignRx p n echo bip rt) s = .next (x.takeRt0 p rt)) ∧
          (ok = false → q.up = true → exec (.upAlignRx p n echo bip rt) s = .next (x.loseUp p)) ∧
          (ok = true → q.up = false → q.blocks = true → exec (.upAlignRx p n echo bip rt) s = .next ((x.takeRt0 p rt).portUp p)) ∧
          (ok = false → q.up = false → exec (.upAlignRx p n echo bip rt) s = .next x))) ∧
    (∃ x : State, s.portUp p = x.startWaiting p ∧ (x.port p).up = true ∧ (x.port p).failed = false ∧ Only [.cnt, .evt, .flt, .ports, .tiles] s x) ∧
    (let may := wbit (s.rws (Reg.portCfg p)) 8 = true ∧ q.up = true ∧ q.idle = false ∧ q.exitBlk = none ∧ q.cal = none ∧ q.busy ≤ s.blockNext p ∧
        s.hasFrames p = false ∧ s.idleFor p (s.idleMin p) = true;
      (¬may → exec (.idleEntry p) s = .next s) ∧
      (may → ∃ t, exec (.idleEntry p) s = .next t ∧ t.out = s.out ++ [.chainIdle p true] ∧ t.port p = { q with idle := true } ∧ Only [.ports, .out] s t)) ∧
    (q.idle = true → s.hasFrames p = true ∨ s.idleFor p 1 = false → ∃ t, exec (.idleExit p) s = .next t ∧ t.out = s.out ++ [.chainIdle p false, .chainTrain p 15 ((trainCounts (s.blockNext p) q.markBlk).map fun n => (Ctl.train n).block.payload)] ∧
      t.port p = { q with idle := false, exitBlk := some (s.blockNext p + 64), bipBad := q.bipBad ||| 15 } ∧
      t.cnt (Reg.idleExits p) = (s.bump (Reg.idleExits p)).cnt (Reg.idleExits p) ∧ Only [.cnt, .ports, .out] s t)

/-- The frame chosen among those queued has the lowest rank of R448, and the pair chosen the earliest deadline. A port that is not
free sends nothing. On a free one a queued frame of a rank before SCAN leaves first; else the first SCAN due; else the earliest
pair; else the queued frame; else nothing. A frame that leaves carries the next number of its stream, and the port is busy for
its blocks over the lanes in use and a marker that falls due inside. Running dry outside a frame does nothing; inside one the
frame is aborted and its pairs stay dirty, and the sixteenth time within 1 s the port is stuck. -/
def Obligations.ChainFramesInOrder : Prop :=
  (∀ l f, firstFrame l = some f → f ∈ l ∧ ∀ g ∈ l, f.kind.rank ≤ g.kind.rank) ∧
  (∀ l w, firstPair l = some w → w ∈ l ∧ ∀ v ∈ l, w.due ≤ v.due) ∧
  ∀ (s : State) (p : Fin 16), p < s.ports.length →
    (s.portFree p = false → exec (.chainFrameStart p) s = .next s) ∧
    (s.portFree p = true → ∃ x : State, x = State.dropLate (s.modPort p fun q => { q with sending := none, queue := q.queue.filter fun f => !(s.lapStale f) }) p ∧
      let best := firstFrame ((x.port p).queue.filter fun f => x.mayCarry p f.kind)
      let go := fun f => State.launch (x.modPort p fun q => { q with queue := q.queue.erase f }) p f
      (∀ f, best = some f → f.kind.rank < 5 → exec (.chainFrameStart p) s = .next (go f)) ∧
      (best = none ∨ (∃ f, best = some f ∧ 5 ≤ f.kind.rank) → (x.port p).laneOut = false →
        (∀ t j r, x.scansDue p = (t, j) :: r → exec (.chainFrameStart p) s = .next (x.launchScan p t j)) ∧
        (x.scansDue p = [] → ∀ w, firstPair (x.waiting p) = some w → exec (.chainFrameStart p) s = .next (x.launchDrive p w)) ∧
        (x.scansDue p = [] → firstPair (x.waiting p) = none → ∀ f, best = some f → exec (.chainFrameStart p) s = .next (go f)) ∧
        (x.scansDue p = [] → firstPair (x.waiting p) = none → best = none → exec (.chainFrameStart p) s = .next x))) ∧
    (∀ f : TxFrame, f.kind ≠ .lap → f.kind ≠ .census → let n := (s.port p).nextSeq f.addr
      let bs := lineBlocks (f.bytes s.cfg.devNum n); let rows := (spread bs.length (lanesOf (s.inUse p)) bs).length; let at_ := s.blockNext p
      let u := (s.sendRows p bs).port p
      (s.launch p f).out = s.out ++ [.chainFrame p n f] ∧ (s.launch p f).port p = { u.putSeq f.addr n with sending := some f, exitBlk := none } ∧
      u.busy = at_ + rows + (if (s.port p).markBlk - at_ < rows then 1 else 0) ∧
      { u with busy := (s.port p).busy, sums := (s.port p).sums, sumsNext := (s.port p).sumsNext } = s.port p) ∧
    ((s.port p).sending = none → exec (.chainTxDry p) s = .next s) ∧
    (∀ f, (s.port p).sending = some f → s.blockNow p < (s.port p).busy → let dry := ((s.port p).dry.filter fun t => !(s.past t 625000000)) ++ [s.ticks]
      ∃ x : State, x.out = s.out ++ [.chainAbort p] ∧ (x.port p).sending = none ∧ (x.port p).busy = s.blockNext p ∧ (x.port p).dry = dry ∧
        x.tiles = (s.unsend p f).tiles ∧ Only [.cnt, .evt, .ports, .tiles, .fab, .out] s x ∧
        (dry.length < 16 → exec (.chainTxDry p) s = .next x) ∧
        (16 ≤ dry.length → exec (.chainTxDry p) s = .next (State.fault (x.modPort p fun q => { q with dry := [] }) Fk.portStuck (fsPort p) [p])))

/-- A calibration starts on a port that is up when its round is due and nothing bars it: it is announced with a block of the lane or
the upstream hop, and is in progress; barred, it waits for a later leg boundary, and a lane out of the stripe is passed over. 64
blocks later the lane leaves the stripe, with the pattern on hop 0; 7,758 blocks later a downstream lane is announced for
restoring, after a TRAIN burst of the port on hop 0, and the own upstream lane has its eye judged; another 64 blocks later the
lane is back, and the turn passes on, or the report is awaited. Without a report within 1 ms the result is ABORTED and the turn
passes on. Each of these is made only when due. -/
def Obligations.CalibrationOfALane : Prop :=
  ∀ (s : State) (p : Fin 16), p < s.ports.length → let q := s.port p
    (let n := 5 * s.calHops p; let h := q.calTurn.1; let k := q.calTurn.2;
      q.up = true → q.cal = none → q.calTick ≤ s.ticks → n ≠ 0 → (q.calStart || q.driveOk || s.standsBy p) = true →
        (n ≤ q.calNext → exec (.calStart p) s = .next (s.endRound p)) ∧
        (q.calNext < n → k ≠ 4 → nbit q.lanes k = false ∨ q.drops.any (·.1 == k) = true → exec (.calStart p) s = .next (s.nextTurn p)) ∧
        (q.calNext < n → (k ≠ 4 → nbit q.lanes k = true ∧ q.drops.any (·.1 == k) = false) → s.tl.on = false ∨ q.calHeld ≠ some s.tl.next →
          (s.calFree p = false → exec (.calStart p) s = .next (s.calWaits p h k)) ∧
          (s.calFree p = true → ∃ t, exec (.calStart p) s = .next t ∧ Only [.ports, .out] s t ∧
            t.port p = { q with cal := some ⟨h, k, .announced, s.blockNext p, s.ticks, false, false⟩, sums := (t.port p).sums } ∧
            t.out = s.out ++ [.chainBlock p (if k = 4 then Ctl.upCal h 64 else Ctl.laneDrop k 64 h 1).block.payload]))) ∧
    (∀ c, q.cal = some c →
      (c.phase = .announced → c.blk + 64 ≤ s.blockNow p → c.aborted = false → ∃ t, exec (.calDropChange p) s = .next t ∧ Only [.ports, .out] s t ∧
        t.port p = { q with cal := some { c with phase := .pattern, blk := s.blockNow p, tick := s.ticks }, lanes := if c.lane = 4 then q.lanes else clrBit q.lanes c.lane } ∧
        t.out = s.out ++ (if c.hop = 0 ∧ c.lane ≠ 4 then [.chainPattern p c.lane] else [])) ∧
      (c.phase = .announced → c.blk + 64 ≤ s.blockNow p → c.aborted = true → ∃ t, exec (.calDropChange p) s = .next t ∧ Only [.ports, .out] s t ∧
        (t.port p).cal = some { c with phase := .restoring, blk := s.blockNext p, tick := s.ticks }) ∧
      (c.phase = .pattern → c.blk + 7758 ≤ s.blockNow p → ∀ eye ctle ph,
        (c.lane ≠ 4 → ∃ t o, exec (.calPatternEnd p eye ctle ph) s = .next t ∧ Only [.ports, .out] s t ∧
          (t.port p).cal = some { c with phase := .restoring, blk := s.blockNext p, tick := s.ticks } ∧ (t.port p).lanes = q.lanes ∧
          t.out = s.out ++ (if c.hop = 0 then [.chainTrain p (2 ^ c.lane) o] else []) ++ [.chainBlock p (Ctl.laneRestore c.lane 64).block.payload]) ∧
        (c.lane = 4 → c.hop ≠ 0 → ∃ t, exec (.calPatternEnd p eye ctle ph) s = .next t ∧ Only [.ports] s t ∧
          t.port p = { q with cal := some { c with phase := .restoring, blk := s.blockNext p, tick := s.ticks } }) ∧
        (c.lane = 4 → c.hop = 0 → ∃ x : State, x = s.calResult p 0 4 eye ∧ ∃ t, exec (.calPatternEnd p eye ctle ph) s = .next t ∧ Only [.ports] x t ∧
          (t.port p).cal = some { c with phase := .restoring, blk := s.blockNext p, tick := s.ticks, got := true } ∧
          (eye.isSome = true → (t.port p).upCtle = ctle ∧ (t.port p).upPhase = ph))) ∧
      (c.phase = .restoring → c.blk + 64 ≤ s.blockNow p → ∃ x : State, Only [.ports] s x ∧
        x.port p = (if c.lane = 4 then q else { q with lanes := setBit q.lanes c.lane, bipBad := setBit q.bipBad c.lane, restored := some (c.hop, c.lane) }) ∧
        (c.aborted = true ∨ c.got = true → exec (.calRestoreChange p) s = .next (x.nextTurn p)) ∧
        (c.aborted = false → c.got = false → exec (.calRestoreChange p) s =
          .next (x.modPort p fun q => { q with cal := some { c with phase := .waiting, tick := s.ticks } }))) ∧
      (c.phase = .waiting → c.tick + 625000 ≤ s.ticks → exec (.calReportTimeout p) s =
        .next ((s.modPort p fun q => q.setCal c.hop c.lane ⟨4, 0, 0, 0⟩).nextTurn p)))

/-- On a port that does not receive, a frame does nothing. What passes the envelope has its length, its CRC, a tile's kind and a
position; what fails it is counted. A sequence number 1 to 1,024 ahead is taken, with the numbers passed over counted as gaps;
any other is taken on a fresh stream or after three rejects, else rejected and counted. Of a taken STATUS frame each record is
applied in order; of an unadmitted tile only TILE and LANES records are. A taken census answer goes to the enumeration or the
reads; one that does not fit has no effect. A SENSE record gives the valid sums and restarts their time. -/
def Obligations.UpstreamFrames : Prop :=
  (∀ (dev : Nat) (d : List Byte) (f : UpFrame), UpFrame.parse dev d = some f → d.length = 12 + leAt d 6 2 ∧
    leAt d (8 + leAt d 6 2) 4 = (crc32 (d.take (8 + leAt d 6 2))).toNat ∧ (f.kind = 0x81 ∨ f.kind = 0x87) ∧ f.pos < 32 ∧ f.body.length = leAt d 6 2) ∧
  (∀ (r : RxStream) (n : Nat), let d := (n + 65536 - r.last) % 65536
    (1 ≤ d → d ≤ 1024 → r.take n = (.accept (d - 1), ⟨n, false, 0⟩)) ∧
    (d = 0 ∨ 1024 < d → r.fresh = true ∨ 3 ≤ r.rejects → r.take n = (.accept 0, ⟨n, false, 0⟩)) ∧
    (d = 0 ∨ 1024 < d → r.fresh = false → r.rejects < 3 → r.take n = (.reject, { r with rejects := r.rejects + 1 }))) ∧
  ∀ (s : State) (p : Fin 16) (l : UpLoss) (d : List Byte),
    ((s.port p).hears = false → exec (.statusFrameRx p l d) s = .next s ∧ exec (.censusDataRx p l d) s = .next s) ∧
    ((s.port p).hears = true → UpFrame.parse s.cfg.devNum d = none →
      exec (.statusFrameRx p l d) s = .next ((s.upLoss p l).bump (Reg.upCrcErrors p)) ∧
      exec (.censusDataRx p l d) s = .next ((s.upLoss p l).bump (Reg.upCrcErrors p))) ∧
    ((s.port p).hears = true → ∀ f, UpFrame.parse s.cfg.devNum d = some f → ∃ (ok : Bool) (x : State), (s.upLoss p l).takeSeq p f.pos (leAt d 2 2) = (ok, x) ∧
      (f.kind = 0x81 → exec (.statusFrameRx p l d) s = .next (if ok then (statusRecords 256 f.body).foldl (State.statusRecord p f.pos) x else x)) ∧
      (f.kind = 0x87 → exec (.censusDataRx p l d) s = .next (if ok = false then x else if f.arg = 2 then x.enumAnswer p f.pos f.body
        else if f.arg = 3 then x.readAnswer p f.pos f.body else x))) ∧
    (∀ (q : Nat) (r : List Byte),
      (leAt r 0 1 ≠ 1 → leAt r 0 1 ≠ 6 → (∀ t, s.tile? p q = some t → t.admitted = false) → State.statusRecord p q s r = s) ∧
      (leAt r 0 1 = 2 → ∀ t, s.tile? p q = some t → t.admitted = true → (State.statusRecord p q s r).tiles = s.tiles.map fun t => if t.is p q then
        { t with senseTick := s.ticks, sense := [0, 1, 2].map fun k => if nbit (leAt r 2 1) k then some (leAt r (4 + 4 * k) 4) else none } else t)) ∧
    (∀ (q : Nat) (b : List Byte), (s.port p).census.phase ≠ .enum ∨ q ≠ (s.port p).census.next ∨ b.length < 72 → s.enumAnswer p q b = s)

/-- An enumeration whose frame has gone out 1 ms ago ends; before, nothing happens. A read not answered for 1 ms is sent again and
counted; after 8 tries its tile is refused with cause 6. An AGE frame not acknowledged for 20 ms is sent again with RETRY up to 3
times; then it is given up, counted and recorded, and the next may go. -/
def Obligations.CensusAndAgeTimeouts : Prop :=
  ∀ (s : State) (p : Fin 16), p < s.ports.length → let q := s.port p
    (q.up = true → q.census.phase = .enum → q.censusWaits (fun f => f.arg == 2) = false →
      (q.census.tick + 625000 ≤ s.ticks → exec (.censusEnumTimeout p) s = .next (s.endEnum p)) ∧
      (s.ticks < q.census.tick + 625000 → exec (.censusEnumTimeout p) s = .next s)) ∧
    (q.up = true → q.census.phase = .reading → ∀ r, q.census.reads.find? (fun r => s.past r.tick 625000 &&
        !(q.censusWaits fun f => f.arg == 3 && f.addr == r.pos && leAt f.body 0 1 == r.part && leAt f.body 4 4 == r.off)) = some r →
      (8 ≤ r.tries → exec (.censusReadTimeout p) s = .next (s.dropTile p r.pos)) ∧
      (r.tries < 8 → ∃ x : State, (x.port p).census = { q.census with reads := q.census.reads.map fun x => if x == r then { x with tries := x.tries + 1, tick := s.ticks } else x } ∧ Only [.ports] s x ∧
        exec (.censusReadTimeout p) s = .next ((x.bump (Reg.censusRetries p)).sendRead p r true))) ∧
    (∀ k t, s.tile? p k = some t → ∃ x : State, s.dropTile p k = (if t.admitted then State.refused x t 6 else x).nextReads p ∧ x.tiles = s.tiles.map (fun t => if t.is p k then
        { t with admitted := false, cause := if t.admitted then 6 else t.cause, part1 := [], part2 := [] } else t) ∧ Only [.ports, .tiles] s x) ∧
    (∀ (k : Fin 32) (t : Tile) (a : AgeOut), s.tile? p k = some t → t.ageOut.find? (fun a => a.sent && s.past a.tick 12500000) = some a →
      (a.tries < 3 → ∃ u f, exec (.ageAckTimeout p k) s = .next u ∧ f.kind = .age ∧ f.retry = true ∧ f.body = a.body ∧ f.addr = (k : Nat) ∧
        (u.port p).queue = q.queue ++ [f] ∧ Only [.ports, .tiles] s u ∧ u.tiles = (s.modTile p k fun t => { t with ageOut := t.ageOut.map fun x => if x == a then { x with tries := x.tries + 1, sent := false, tick := s.ticks } else x }).tiles) ∧
      (3 ≤ a.tries → ∃ x : State, exec (.ageAckTimeout p k) s = .next (State.ageFill 4 x p k) ∧ Only [.cnt, .evt, .tiles] s x ∧
        x.tiles = (s.modTile p k fun t => { t with ageOut := t.ageOut.erase a }).tiles))

/-- A message on a relay that works passes the checks of R171 when its length, its CRC, its kind and ORIGIN are right; what fails
them is counted. Its sequence number is judged by R172 over the one stream of the direction; a rejected message is counted and
not taken. CUE, TILE, LAMP, FLUSH, SIGS, DELAYS, CENSUS_READY and PLACE have their effect only on a STANDBY that is not COLD. A
mirrored TILE, LAMP or FLUSH is kept with the lap and leg that it names; a scene CUE replaces a scene cue kept for the same lap.
That a body shorter than its kind's LEN, and a kind the command does not name, have no effect is the model's choice (log entry
108). -/
def Obligations.RelayMessagesMirrored : Prop :=
  (∀ (d : List Byte) (m : RelayMsg), RelayMsg.parse d = some m → d.length = 12 + leAt d 6 2 ∧ leAt d (8 + leAt d 6 2) 4 = (crc32 (d.take (8 + leAt d 6 2))).toNat ∧
    m.kind = leAt d 0 1 ∧ 0xC1 ≤ m.kind ∧ m.kind ≤ 0xCB ∧ nbit (leAt d 4 1) 7 = false ∧ m.body = (d.drop 8).take (leAt d 6 2)) ∧
  (∀ (s : State) (k : Nat) (d : List Byte), let x := s.modRl fun r => { r with lanes := true }
    (s.relayOn = false → s.relayTake k d = (none, s)) ∧
    (s.relayOn = true →
      (RelayMsg.parse d = none → s.relayTake k d = (none, x.bump Reg.relayLinkErrors)) ∧
      ∀ m, RelayMsg.parse d = some m →
        (m.kind ≠ k → s.relayTake k d = (none, x)) ∧
        (m.kind = k → ∀ r,
          (∀ g, s.rl.rx.take (leAt d 2 2) = (.accept g, r) → s.relayTake k d = (if relayLen k ≤ m.body.length then some m.body else none, x.modRl fun y => { y with rx := r })) ∧
          (s.rl.rx.take (leAt d 2 2) = (.reject, r) → s.relayTake k d = (none, (x.modRl fun y => { y with rx := r }).bump Reg.relayLinkErrors))))) ∧
  (let rows : List (Nat × (List Byte → Instr) × (List Byte → State → State)) :=
      [(0xC3, Instr.relayCueRx, State.mirrorCue),
       (0xC4, Instr.relayTileRx, fun b s => s.mirrorIn (leAt b 16 4) (leAt b 14 1) (.tile (leAt b 0 1) (leAt b 1 1) (sint 16 (leAt b 2 2)) (sint 16 (leAt b 4 2))
         (leAt b 6 1) [sint 16 (leAt b 8 2), sint 16 (leAt b 10 2), sint 16 (leAt b 12 2)])),
       (0xC5, Instr.relayLampRx, fun b s => s.mirrorIn (leAt b 8 4) (leAt b 6 1) (.lamp (leAt b 0 1) (leAt b 1 1) (leAt b 2 3) (leAt b 5 1))),
       (0xC6, Instr.relayFlushRx, fun b s => s.mirrorIn (leAt b 4 4) 0 (.flush (leAt b 0 1) (leAt b 1 1)))]
    ∀ r ∈ rows, ∀ (s : State) (d : List Byte),
      (∀ x, s.relayTake r.1 d = (none, x) → exec (r.2.1 d) s = .next x) ∧
      (∀ b x, s.relayTake r.1 d = (some b, x) → (x.rl.role = .standby → x.rl.cold = false → exec (r.2.1 d) s = .next (r.2.2 b x)) ∧
        (x.rl.role ≠ .standby ∨ x.rl.cold = true → exec (r.2.1 d) s = .next x))) ∧
  (∀ (s : State) (lap leg : Nat) (m : Mirror), (s.mirrorIn lap leg m).rl = { s.rl with mirror := s.rl.mirror ++ [⟨lap, leg, m⟩] } ∧ Only [.rl] s (s.mirrorIn lap leg m)) ∧
  ∀ (b : List Byte) (s : State), leAt b 0 1 ≠ 2 → (State.mirrorCue b s).rl = { s.rl with mcues := (s.rl.mcues.filter fun x => x.plan || x.lap != leAt b 8 4) ++ [⟨false, leAt b 1 1, leAt b 2 2, nbit (leAt b 4 1) 1, leAt b 8 4, leAt b 12 5, s.ticks⟩] } ∧
    Only [.rl] s (State.mirrorCue b s)

/-- On a STANDBY that is not COLD: each line of a SIGS message is compared with the unit's own signature of that lap; a difference
counts, and the third lap in a row takes FIT away with RELAY_SIG_MISMATCH; a line of equal signatures counts nothing. A DELAYS
message gives the deltas of the partner's port. CENSUS_READY opens the port's census. A port whose census is done pairs with the
partner's port whose tile count and placements, in reversed order, equal its own, or on a COLD unit at once; it is unpaired when
all of the partner's answers are there and none fits. The chain delays follow the recursion of R412. Where no own signature of a
lap stands, nothing is compared (the model's choice, log entry 109). -/
def Obligations.RelaySignaturesDelaysAndPairs : Prop :=
  (let rows : List (Nat × (List Byte → Instr) × (List Byte → State → State)) :=
      [(0xC7, Instr.relaySigsRx, fun b s => (List.range (min (leAt b 6 2) ((b.length - 8) / 8))).foldl (fun s i =>
          match s.ownPlace (leAt b 5 1) (leAt b (8 + 8 * i) 1) with
          | some (p, q) => s.compareLine (leAt b 0 4) (leAt b 4 1) p q (leAt b (9 + 8 * i) 1) (leAt b (12 + 8 * i) 4)
          | none => s) s),
       (0xC8, Instr.relayDelaysRx, fun b s =>
          let x := s.modRport (leAt b 0 1) fun r => { r with deltas := (List.range (min 33 (leAt b 1 1 + 1))).map fun h => leAt b (4 + 2 * h) 2 };
          (idxs 16 fun p => (x.rport p).paired && (x.rport p).partner == leAt b 0 1).foldl State.applyDeltas x),
       (0xC9, Instr.relayCensusReadyRx, fun b s => ((s.modRport (leAt b 0 1) fun r => { r with ready := some (leAt b 1 1), places := r.places.filter fun x => x.1 < leAt b 1 1 }).startShared).judgePairs),
       (0xCB, Instr.relayPlaceRx, fun b s => (s.modRport (leAt b 0 1) fun r => { r with places := (r.places.filter (·.1 != leAt b 1 1)) ++ [(leAt b 1 1, (List.range 7).map fun i => Word.of (leAt b (8 + 4 * i) 4))] }).judgePairs)]
    ∀ r ∈ rows, ∀ (s : State) (d : List Byte),
      (∀ x, s.relayTake r.1 d = (none, x) → exec (r.2.1 d) s = .next x) ∧
      (∀ b x, s.relayTake r.1 d = (some b, x) → (x.rl.role = .standby → x.rl.cold = false → ∃ t, exec (r.2.1 d) s = .next t ∧ t = r.2.2 b x) ∧
        (x.rl.role ≠ .standby ∨ x.rl.cold = true → exec (r.2.1 d) s = .next x))) ∧
  (∀ (s : State) (lap leg p q line sig : Nat),
    let at_ := fun (x : LineDiff) => x.port == p && x.pos == q && x.leg == leg && x.line == line;
    let own := s.rl.sigs.find? fun x => x.port == p && x.pos == q && x.leg == leg && x.line == line && x.lap == lap;
    let run := match s.rl.diffs.find? at_ with | some d => if (d.lap + 1) % 2 ^ 32 == lap then d.runs + 1 else 1 | none => 1;
    (own = none → s.compareLine lap leg p q line sig = s) ∧
    (∀ o, own = some o → o.sig = sig → Only [.rl] s (s.compareLine lap leg p q line sig) ∧ (s.compareLine lap leg p q line sig).rl.fit = s.rl.fit) ∧
    (∀ o, own = some o → o.sig ≠ sig → ∃ x : State, x.rl.diffs = (s.rl.diffs.filter fun d => !(at_ d)) ++ [⟨p, q, leg, line, lap, run⟩] ∧
      x.cnt Reg.relaySigMismatches = (s.bump Reg.relaySigMismatches).cnt Reg.relaySigMismatches ∧ Only [.cnt, .rl] s x ∧
      (run ≠ 3 → x.rl.fit = s.rl.fit ∧ s.compareLine lap leg p q line sig = x) ∧
      (run = 3 → x.rl.fit = false ∧ s.compareLine lap leg p q line sig = x.evFault Ev.relaySigMismatch Fk.relaySigMismatch fsRelay [p, q, leg, line]))) ∧
  (∀ (d0 : Nat) (ts : List Tile) (ds : List Nat), (standbyDelays d0 ts ds).length = ts.length ∧ (ts ≠ [] → (standbyDelays d0 ts ds)[0]? = some d0) ∧
    ∀ (q : Nat) (t : Tile), ts[q]? = some t → q + 1 < ts.length →
      (standbyDelays d0 ts ds)[q + 1]? = (standbyDelays d0 ts ds)[q]?.map fun x => x + t.repeatLat + ds.getD q 0) ∧
  ∀ (s : State) (p : Nat), p < s.rl.ports.length →
    (s.rl.role ≠ .standby ∨ s.shared p = false ∨ (s.rport p).paired = true ∨ (s.port p).census.phase ≠ .done → s.judgePair p = s) ∧
    (s.rl.role = .standby → s.shared p = true → (s.rport p).paired = false → (s.rport p).unpaired = false → (s.port p).census.phase = .done →
      (s.port p).census.pass ≠ 1 →
        (s.rl.cold = true → ((s.judgePair p).rport p).paired = true ∧ Only [.rl] s (s.judgePair p)) ∧
        (s.rl.cold = false → ∀ k, s.partnerPort p = some k → (s.judgePair p).rport p = { s.rport p with paired := true, partner := k } ∧ Only [.rl, .tiles] s (s.judgePair p))) ∧
    (∀ k, s.partnerPort p = some k → (s.rport k).ready = some (s.byPos p).length ∧ ∀ t ∈ s.byPos p, ∃ ws, ((s.byPos p).length - 1 - t.pos, ws) ∈ (s.rport k).places ∧
      ∀ x, s.cfg.placeOf t = some x → ws = x.words)

/-- On a relay that works: a link that is up goes down on a lost lane, or 1 ms after the last HEARTBEAT, with the change recorded and
the fault raised while the chain path is alive; with the lanes whole and a HEARTBEAT within 1 ms it stays. A trim starts once a
link that is down has been so for 10 ms, ends 10 ms later, and an INVALID one leaves the instant from which the next counts. A
TRAIN burst goes out each millisecond while the link is down, a TIME message each millisecond. A TIME message taken keeps the
marker it arrived after; one that names that marker sets the offset to half the difference of R414, and another leaves the offset
alone. -/
def Obligations.RelayLinkAndTime : Prop :=
  ∀ s : State, s.relayOn = true →
    (∀ lanes, let y := s.relayDown lanes;
      (s.rl.up = true → ∃ x u : State, x.rl.up = false ∧ x.rl.lanes = lanes ∧ x.rl.downTick = s.ticks ∧ x.rl.measured = false ∧ Only [.cnt, .evt, .rl] s x ∧
        (s.pathUp 1 = true → u = x.fault Fk.relayLinkDown fsRelay []) ∧ (s.pathUp 1 = false → u = x) ∧ y = u.relayQual.updMend) ∧
      (s.rl.up = false → Only [.rl] s y ∧ y.rl.up = false)) ∧
    exec (.relayLinkTimeout false) s = .next (s.relayDown false) ∧
    (∀ h, s.rl.up = true → s.rl.hbTick = some h →
      (h + 625000 ≤ s.ticks → exec (.relayLinkTimeout true) s = .next (s.relayDown s.rl.lanes)) ∧ (s.ticks < h + 625000 → exec (.relayLinkTimeout true) s = .next s)) ∧
    (s.rl.up = false → s.rl.trim = none →
      (s.rl.downTick + 6250000 ≤ s.ticks → exec .relayLinkRetrim s = .next { s with rl := { s.rl with trim := some s.ticks } }) ∧
      (s.ticks < s.rl.downTick + 6250000 → exec .relayLinkRetrim s = .next s)) ∧
    (s.rl.up = true → exec .relayLinkRetrim s = .next s ∧ exec .relayTrainSend s = .next s) ∧
    (∀ t ok, s.rl.trim = some t → t + 6250000 ≤ s.ticks → exec (.relayTrimDone ok) s = .next { s with rl := { s.rl with trim := none, trimBad := !ok, downTick := if ok then s.ticks else s.rl.downTick } }) ∧
    (s.rl.up = false → s.rl.trainSend + 625000 ≤ s.ticks → exec .relayTrainSend s = .next { s with rl := { s.rl with trainSend := s.ticks }, out := s.out ++ [.relayTrain] }) ∧
    (s.rl.timeSend + 625000 ≤ s.ticks → ∃ u b, exec .relayTimeSend s = .next u ∧ u.out = s.out ++ [.relay 0xC2 ((s.rl.txSeq + 1) % 65536) b] ∧ b.length = 24 ∧
      b.take 2 = leBytes 2 s.txMark ∧ (b.drop 2).take 2 = leBytes 2 s.rl.rxMark ∧ (b.drop 12).take 5 = leBytes 5 s.rl.rxSplit ∧
      u.rl = { s.rl with timeSend := s.ticks, txSeq := (s.rl.txSeq + 1) % 65536 } ∧ Only [.rl, .out] s u) ∧
    (∀ (d b : List Byte) (mark : BitVec 16) (age : Nat) (x : State), s.relayTake 0xC2 d = (some b, x) →
      let a := splitOf (x.wallAt (x.ticks - age));
      (leAt b 0 2 ≠ mark.toNat → exec (.relayTimeRx d mark age) s = .next { x with rl := { x.rl with rxMark := mark.toNat, rxSplit := a } }) ∧
      (leAt b 0 2 = mark.toNat → ∃ u, exec (.relayTimeRx d mark age) s = .next u ∧
        u.rl = { x.rl with rxMark := mark.toNat, rxSplit := a, measured := true, offset := (splitDiff a (leAt b 4 5) - splitDiff (leAt b 12 5) (x.txSplit (leAt b 2 2))) / 2 } ∧ Only [.cnt, .evt, .tb, .tl, .sc, .ports, .rl] x u)) ∧
    (∀ (d : List Byte) (mark : BitVec 16) (age : Nat) (x : State), s.relayTake 0xC2 d = (none, x) → exec (.relayTimeRx d mark age) s = .next x)

/-- A unit in PAIRING becomes STANDBY of a partner shown ACTIVE or SOLO, decides by ROLE and device number when both pair with the
link up, and becomes SOLO when nothing was heard for 100 ms after SB3; with unequal digests the STANDBY is UNPAIRED. A HEARTBEAT
goes out within 100 us. One taken sets the partner's items, ends its path's misses and brings the link up; a partner's BEACON
that passes on a paired port does so on the chain path; each carries the loss when it shows the shutting-down flag. A path misses
when 105 us have passed; the third miss on both loses the partner (from when misses count: log entry 102). An ACTIVE or a
qualified STANDBY that loses its partner becomes SOLO, an unqualified STANDBY keeps its role. -/
def Obligations.RelayHeartbeatsAndRoles : Prop :=
  ∀ s : State,
    (s.relayOn = true → s.rl.hbSend + 59375 ≤ s.ticks → ∃ u b, exec .relayHeartbeatSend s = .next u ∧ b.length = 32 ∧
      b.take 2 = [byte s.rl.role.code, byte s.beatFlags] ∧ u.out = s.out ++ [.relay 0xC1 ((s.rl.txSeq + 1) % 65536) b] ∧
      u.rl = { s.rl with hbSend := s.ticks, txSeq := (s.rl.txSeq + 1) % 65536 } ∧ Only [.rl, .out] s u) ∧
    (s.rl.role = .pairing → s.tl.on = true → s.rl.sb3Tick + 62500000 ≤ s.ticks → s.rl.hbTick = none → s.rl.bcTick = none → ∃ u,
      exec .pairingTimeout s = .next u ∧ u.rl = { s.rl with role := .solo, fit := true } ∧ Only [.cnt, .evt, .ports, .rl] s u) ∧
    (s.rl.role ≠ .pairing ∨ s.ticks < s.rl.sb3Tick + 62500000 ∨ s.rl.hbTick.isSome = true ∨ s.rl.bcTick.isSome = true → exec .pairingTimeout s = .next s) ∧
    (∀ link st, (s.rl.role ≠ .pairing → s.decideRole link st = s) ∧ (s.rl.role = .pairing →
      (s.rl.pRole = some .active ∨ s.rl.pRole = some .solo → s.decideRole link st = s.beStandby (!s.rl.up)) ∧
      (s.rl.pRole = some .pairing → link = true → s.rl.up = true → s.decideRole link st = if s.preferred st then s.beHolder .active else s.beStandby false) ∧
      (s.rl.pRole = some .pairing → link = false ∨ s.rl.up = false → s.decideRole link st = s))) ∧
    (∀ st r, s.cfg.relay = some r → (r.standby ≠ st → s.preferred st = !r.standby) ∧ (r.standby = st → (s.preferred st = true ↔ s.cfg.devNum < r.partner))) ∧
    (∀ cold, (s.digestOk = true → (s.beStandby cold).rl = { s.rl with role := .standby, cold := cold, fit := !cold } ∧ Only [.cnt, .evt, .ports, .rl] s (s.beStandby cold)) ∧
      (s.digestOk = false → ∃ x : State, x.rl = { s.rl with role := .unpaired } ∧ Only [.cnt, .evt, .rl] s x ∧
        s.beStandby cold = x.evFault Ev.relayConfigMismatch Fk.relayConfigMismatch fsRelay [s.rl.pDigest % 2 ^ 32])) ∧
    (∀ (d b : List Byte) (st : Bool) (x : State), s.relayTake 0xC1 d = (some b, x) → ∃ y : State,
      exec (.relayHeartbeatRx d st) s = .next (y.heard x.rl.pRole (nbit x.rl.pFlags 6) true st).relayQual ∧ Only [.cnt, .evt, .rl] x y ∧
      y.rl.hbTick = some x.ticks ∧ y.rl.up = true ∧ y.rl.miss = setAt x.rl.miss 0 0 ∧ y.rl.pRole = some (Role.of (leAt b 0 1)) ∧ y.rl.pFlags = leAt b 1 1 ∧
      y.rl.pHold = leAt b 2 2 ∧ y.rl.pDigest = leAt b 8 8 ∧ y.rl.pSource = leAt b 16 1) ∧
    (∀ (d : List Byte) (st : Bool) (x : State), s.relayTake 0xC1 d = (none, x) → exec (.relayHeartbeatRx d st) s = .next x) ∧
    (∀ was cold link st, nbit s.rl.pFlags 3 = true → s.heard was cold link st = s.losePartner 2) ∧
    (∀ (p : Fin 16) (d : List Byte), s.relayOn = true → s.shared p = true → (s.port p).hears = true →
      (beaconBody s.partnerDev d = none → exec (.partnerBeaconRx p d) s = .next (s.bump (Reg.upCrcErrors p))) ∧
      ∀ b, beaconBody s.partnerDev d = some b →
        (∀ x, s.takeSeq p 32 (leAt d 2 2) = (false, x) → exec (.partnerBeaconRx p d) s = .next x) ∧
        (∀ x, s.takeSeq p 32 (leAt d 2 2) = (true, x) → s.rl.role = .pairing ∨ (s.rport p).paired = true → nbit (leAt b 5 1) 3 = true → ∃ y u : State,
          exec (.partnerBeaconRx p d) s = .next u ∧ y.rl.bcTick = some s.ticks ∧ y.rl.miss = setAt s.rl.miss 1 0 ∧ y.rl.pRole = some (Role.of (leAt b 4 1)) ∧
          y.rl.pFlags = leAt b 5 1 ∧ Only [.rl] x y ∧ (u = (y.losePartner 2).startWaiting p ∨ u = ((y.losePartner 2).fault Fk.relayLinkDown fsRelay []).startWaiting p))) ∧
    (∀ chain, s.relayOn = true → s.rl.hbTick.isSome = true ∨ s.rl.bcTick.isSome = true → let i := b2n chain; let r := s.rl.missRef.getD i 0;
      (s.ticks ≤ r + 65625 → exec (.heartbeatPathMiss chain) s = .next s) ∧
      (r + 65625 < s.ticks → ∃ x : State, x.rl.miss = modAt s.rl.miss i (· + 1) ∧ x.rl.missRef = setAt s.rl.missRef i (r + 65625) ∧ Only [.cnt, .rl] s x ∧
        exec (.heartbeatPathMiss chain) s = .next (if 3 ≤ x.rl.miss.getD 0 0 ∧ 3 ≤ x.rl.miss.getD 1 0 then x.losePartner 1 else x))) ∧
    (∀ c, (s.rl.lostTick.isSome = true → s.losePartner c = s) ∧ (s.rl.lostTick = none → ∃ x : State,
      x = ({ s with rl := { s.rl with lostTick := some s.ticks, pRole := none, pHold := 0, mendTick := none } }).evFault Ev.relayPartnerLost Fk.relayPartnerLost fsRelay [s.partnerDev, c] ∧
      (s.rl.role = .active ∨ s.rl.role = .standby ∧ s.qualified = true → s.losePartner c = (x.claimAll x.pairedMask).setRole .solo ∧ (s.losePartner c).rl.role = .solo) ∧
      (s.rl.role = .standby → s.qualified = false → s.losePartner c = x)))

/-- With KEY 0x6E1A, HANDOVER of an ACTIVE unit whose partner is fit, and MEND or MEND_TIMER of two SOLO units that may mend on the
unit that is to release, send HANDOVER with OP 1 and the mask of the paired ports that hold tiles, and note the instant; another
KEY, another role, an unfit partner or a release under way does nothing. The unit that releases holds fewer tiles, or as many and
is not preferred. A HANDOVER message with OP 1 has a STANDBY or SOLO unit claim the ports named. 400 us after the release a unit
that no tile names stands by, with FIT 0 when it is in limp service or hold; one that a tile names records the failure and keeps
its role. -/
def Obligations.RelayHandoverAndMending : Prop :=
  ∀ s : State,
    (let u := s.release; let q := (s.rl.txSeq + 1) % 65536;
      (s.rl.release = none → s.partnerFit = true → u = { s with rl := { s.rl with txSeq := q, release := some ⟨s.ticks, s.releaseMask⟩ }, out := s.out ++ [.relay 0xCA q ([1, 0] ++ leBytes 2 s.releaseMask ++ [0, 0, 0, 0])] }) ∧
      (s.rl.release ≠ none ∨ s.partnerFit = false → u = s)) ∧
    (s.partnerFit = true ↔ s.rl.up = true ∧ nbit s.rl.pFlags 0 = true ∧ nbit s.rl.pFlags 2 = false ∧ nbit s.rl.pFlags 5 = true ∧ nbit s.rl.pFlags 6 = false) ∧
    (∀ v : Word, (wfld v 31 16 ≠ 0x6E1A → exec (.handover v) s = .next s ∧ exec (.mend v) s = .next s) ∧
      (wfld v 31 16 = 0x6E1A →
        (wbit v 1 = false → s.rl.role = .active → exec (.handover v) s = .next s.release) ∧
        (wbit v 1 = false → s.rl.role ≠ .active → exec (.handover v) s = .next s) ∧
        (wbit v 0 = false → exec (.mend v) s = .next s.mend))) ∧
    (s.mendable = true → s.claimsOpen = false → s.mendReleases = true → s.mend = s.release) ∧
    (s.mendable = false ∨ s.claimsOpen = true ∨ s.mendReleases = false → s.mend = s) ∧
    (s.mendable = true → s.rl.role = .solo ∧ s.rl.pRole = some .solo ∧ s.pathUp 0 = true ∧ s.pathUp 1 = true ∧ s.rl.up = true ∧ s.digestOk = true) ∧
    (s.heldBy s.cfg.devNum < s.heldBy s.partnerDev → s.mendReleases = true) ∧ (s.heldBy s.partnerDev < s.heldBy s.cfg.devNum → s.mendReleases = false) ∧
    (s.heldBy s.cfg.devNum = s.heldBy s.partnerDev → s.mendReleases = !(s.preferred s.rl.pStandby)) ∧
    (∀ t, s.rl.mendTick = some t → let n := wfld (s.rws Reg.relayCfg) 7 0;
      (n ≠ 0 → t + n * 625000000 ≤ s.ticks → exec .mendTimer s = .next s.mend) ∧ (n = 0 ∨ s.ticks < t + n * 625000000 → exec .mendTimer s = .next s)) ∧
    (∀ (d : List Byte) (x : State), (s.relayTake 0xCA d = (none, x) → exec (.relayHandoverRx d) s = .next x) ∧
      ∀ b, s.relayTake 0xCA d = (some b, x) →
        (leAt b 0 1 = 1 → x.rl.role = .standby ∨ x.rl.role = .solo → exec (.relayHandoverRx d) s = .next (x.claimAll (maskOf ((List.range 16).map fun p =>
          (x.rport p).paired && nbit (leAt b 2 2) (x.rport p).partner)))) ∧
        (leAt b 0 1 ≠ 1 ∨ x.rl.role = .active → exec (.relayHandoverRx d) s = .next x)) ∧
    (∀ p, (s.port p).up = false → s.claimOn p = s) ∧
    (∀ p, p < s.ports.length → (s.port p).up = true → ((s.claimOn p).port p).claim = some s.ticks ∧ Only [.ports, .out] s (s.claimOn p) ∧
      ∃ f, f.kind = .baton ∧ ((s.claimOn p).port p).queue = (s.port p).queue ++ [f]) ∧
    (∀ r, s.rl.release = some r → (s.ticks < r.tick + 250000 → exec .handoverSilenceEnd s = .next s) ∧
      (r.tick + 250000 ≤ s.ticks →
        (((idxs 16 (nbit r.mask)).any fun p => 0 < s.heldOn p) = true → exec .handoverSilenceEnd s = .next
          (({ s with rl := { s.rl with release := none } }).evFault Ev.relayHandoverFailed Fk.relayHandoverFailed fsRelay [r.mask])) ∧
        (((idxs 16 (nbit r.mask)).any fun p => 0 < s.heldOn p) = false → ∃ x : State, exec .handoverSilenceEnd s = .next ((List.range 16).foldl State.judgeSplit x) ∧
          x.rl = { s.rl with release := none, role := .standby, cold := false, fit := !(s.boot.stage == 7 || s.flt.hold != .none) } ∧ Only [.cnt, .evt, .tiles, .rl] s x))) ∧
    (s.rl.release = none → exec .handoverSilenceEnd s = .next s)

/-- A write with the byte enables of R249 writes its DWORDs in ascending order; a host write with others is only counted. A DWORD to
an offset that names no register, or to a register absent on the variant, changes nothing. To a register without an effect of its
own: RW bits take the value written and other RW registers keep theirs; a count is cleared only when all its ones are written,
and then keeps what the present tick has counted; before the seal the RWS bits that the variant has take the value, settings out
of range replaced, and other RWS registers keep theirs (the settings whose write brings more, the source choice, the increment,
MEM_CFG, the pins and the ports, are named apart); after it no RWS register changes, and a write that would have changed one
counts once as a violation and is kept in SEAL_LAST. A write to a register of a row of its own has that row's effect. A plain
register reads its stored fields, without the bits absent on the variant. -/
def Obligations.RegisterWritesByTheirFields : Prop :=
  (∀ (s : State) (who : Requester) (off : BitVec 26) (first last : BitVec 4) (data : List Word),
    (who = .host → badEnables data.length first last = false) →
      exec (.registerWrite who off first last data) s = .next (State.writeWords who (off.toNat / 4 * 4) data s)) ∧
  (∀ (s : State) (off : BitVec 26) (first last : BitVec 4) (data : List Word), badEnables data.length first last = true →
      exec (.registerWrite .host off first last data) s = .next (s.bump Reg.hostBadAccess)) ∧
  (∀ (n : Nat) (first last : BitVec 4), badEnables n first last = false ↔ first = 15 ∧ (n < 2 ∨ last = 15)) ∧
  (∀ (s : State) (who : Requester) (off : Nat), State.writeWords who off [] s = s ∧
    ∀ w ws, State.writeWords who off (w :: ws) s = State.writeWords who (off + 4) ws (s.writeReg who off w)) ∧
  (∀ (s : State) (who : Requester) (off : Nat) (v : Word), regFind off = none ∨ s.variant.absent off = allBits → s.writeReg who off v = s) ∧
  (∀ (s : State) (who : Requester) (off : Nat) (v : Word) (r : RegRow), s.wf → regFind off = some r → s.variant.absent off ≠ allBits →
    s.writeCore who off v = none → s.writeSecure off v = none → s.writeWork off v = none →
      let t := s.writeReg who off v; let mask := r.rws &&& (allBits - s.variant.absent off); let new := fixReg off (rwsNew mask (s.rws off) v);
      Only [.rws, .rw, .cnt, .evt, .boot, .tb, .ports, .mem, .pwr, .out] s t ∧
      (settingMore off = false → Only [.rws, .rw, .cnt, .evt, .boot, .mem] s t) ∧
      (∀ o, t.rw o = if o = off ∧ r.rw ≠ 0 then Word.of (v.toNat &&& r.rw) else s.rw o) ∧
      (r.rws = 0 → ∀ o, t.cnt o = if o = off ∧ r.w1c ≠ 0 ∧ v.toNat &&& r.w1c = r.w1c then (Sparse.get (fun _ => 0#32) s.regs.cnt off - Sparse.get (fun _ => 0#32) s.regs.cnt0 off).toNat else s.cnt o) ∧
      (s.boot.sealWhen = .notYet → off ≠ Reg.tbIncrNomLo → off ≠ Reg.tbIncrNomHi → ∀ o, t.rws o = if o = off ∧ mask ≠ 0 then new else s.rws o) ∧
      (s.boot.sealWhen ≠ .notYet → (∀ o, t.rws o = s.rws o) ∧
        (mask ≠ 0 → new ≠ s.rws off → (r.w1c = 0 → t.cnt Reg.sealViolations = (s.bump Reg.sealViolations).cnt Reg.sealViolations) ∧
          t.boot = { s.boot with sealSeen := true, sealCore := who != .host, sealOff := off % 2 ^ 26 }) ∧
        (mask = 0 ∨ new = s.rws off → t.boot = s.boot ∧ (r.w1c = 0 → t.cnt Reg.sealViolations = s.cnt Reg.sealViolations)))) ∧
  (∀ (s : State) (who : Requester) (v : Word),
    s.writeReg who Reg.tbRestep v = s.writeRestep v ∧ s.writeReg who Reg.hostAttach v = s.writeAttach v ∧ s.writeReg who Reg.stageCtrl v = s.writeStageCtrl v ∧
    s.writeReg who Reg.cueGo v = s.writeCueGo v ∧ s.writeReg who Reg.planCue v = s.writePlanCue v ∧ s.writeReg who Reg.faultClear v = s.writeFaultClear v ∧
    s.writeReg who Reg.holdRequest v = s.writeHoldRequest v ∧ s.writeReg who Reg.sbCtrl v = s.writeSbCtrl v ∧ s.writeReg who Reg.evtHostCi v = s.writeCi v) ∧
  (∀ (s : State) (off : Nat), (regFind off = none → s.readReg off = 0) ∧
    ∀ r, regFind off = some r → s.readView off = none → s.readReg off =
      ((s.rws off &&& Word.of r.rws) ||| (s.rw off &&& Word.of r.rw) ||| (Word.of (s.cnt off) &&& Word.of r.w1c)) &&& Word.of (allBits - s.variant.absent off))

/-- A frame of at least 12 bytes goes out as one START block, data blocks and one TERM block, 2 + (LEN + 5) div 8 in all, each with 8
payload bytes. A receiver of the striped stream that takes those blocks has the same bytes as one frame carried whole, whatever
it had before, with lane-local blocks between any two of them or not. A device-originated frame has 12 + LEN bytes, and its
blocks number what the send deadlines count. A descrambler whose state is that of the scrambler gives back the scrambled bits and
ends in the same state; one with any other state gives back all but its first 58 bits. -/
def Obligations.LineCodingRoundTrips : Prop :=
  (∀ (bs : List Byte), 12 ≤ bs.length → (lineBlocks bs).length = 2 + (bs.length - 7) / 8 ∧ (∀ b ∈ lineBlocks bs, b.payload.length = 8) ∧
    (∀ b ∈ lineBlocks bs, b.control = true → leAt b.payload 0 1 = 0x33 ∨ ∃ k, k < 8 ∧ leAt b.payload 0 1 = 0x40 + k)) ∧
  (∀ (bs : List Byte) (r : Deframer) (l : List Block), 12 ≤ bs.length →
    (l.filter fun b => !(b.control && ctlLaneLocal (leAt b.payload 0 1))) = lineBlocks bs →
    l.foldl Deframer.feed r = ⟨none, r.done ++ [bs], r.counted + b2n r.cur.isSome⟩) ∧
  (∀ (f : TxFrame) (dev seq : Nat), (f.bytes dev seq).length = 12 + f.body.length ∧
    (lineBlocks (f.bytes dev seq)).length = frameBlocks f.body.length) ∧
  (∀ (st : Scrambler) (l : List Bool), descramble st (scramble st l).1 = (l, (scramble st l).2)) ∧
  (∀ (st st' : Scrambler) (l : List Bool), (descramble st' (scramble st l).1).1.drop 58 = l.drop 58)

/-- For each of the 189 commands, one arm: for every state and operands that meet conditions on the state and the operands alone (the
operand in range, the unit present and on, the time reached, the mode the command is for), exec answers a next state, in which
the effect that the spec gives the command stands. The arms name the main effect of one form each; the other forms, the frames
and the rest of the effect stand in the statements of the families. The one arm that stops is DEBUG_TAP_ACCESS with an
instruction other than boundary scan and identification while a debug scope is open, to which R484 gives no effect (log entry 3). -/
def Obligations.EveryCommandCompletes : Prop :=
  ∀ (c : Instr) (s : State), match c with
  | .registerWrite who off first last data => (who = .host → badEnables data.length first last = false) →
      exec (.registerWrite who off first last data) s = .next (State.writeWords who (off.toNat / 4 * 4) data s)
  | .bar2Read addr len => len ≠ 0 → addr.toNat < 2 ^ 36 → s.bar2Waits s.host.waits (.read addr.toNat len) = false →
      ∃ t, exec (.bar2Read addr len) s = .next t ∧
      ∃ bad, t.out = s.out ++ [Output.readBytes ((List.range len).map fun i => s.bar2Byte (addr.toNat + i)) bad]
  | .bar2Write addr data => s.wf → s.boot.stage ≠ 7 → addr.toNat < s.bar2Top → data ≠ [] → s.boot.sealWhen = .notYet →
      s.bar2Waits s.host.waits (.write addr.toNat (data.take (s.bar2Top - addr.toNat))) = false → ∃ t, exec (.bar2Write addr data) s = .next t ∧
      ∀ b, s.inTable b = false → t.bar2Byte b = if addr.toNat ≤ b ∧ b < addr.toNat + data.length ∧
      b < s.bar2Top then data.getD (b - addr.toNat) 0 else s.bar2Byte b
  | .cueGo v => wbit v 1 = false → s.rl.role ≠ .standby → s.hasWarm = false → s.cueReason s.hostCue = 0 →
      ∃ x : State, exec (.cueGo v) s = .next x.cuesChanged ∧ x.sc = { s.sc with pend := s.sc.pend ++ [s.pendCue s.hostCue], order := s.sc.order + 1 }
  | .cueFlush v => wbit v 0 = false → ∃ x : State, exec (.cueFlush v) s = .next x.cuesChanged ∧ x.sc = { s.sc with pend := [] }
  | .hsFenceHiWrite n v => exec (.hsFenceHiWrite n v) s = .next (s.modFence n fun f => { f with staged := some v.toNat })
  | .hsFenceLoWrite n v => n < s.sc.fences.length → (s.fence n).value < (s.fence n).staged.getD ((s.fence n).value / 2 ^ 32) * 2 ^ 32 + v.toNat →
      ∃ t, exec (.hsFenceLoWrite n v) s = .next t ∧ (t.fence n).staged = none ∧
      (t.fence n).value = (s.fence n).staged.getD ((s.fence n).value / 2 ^ 32) * 2 ^ 32 + v.toNat ∧ (t.fence n).fresh = s.tl.service
  | .sceneQueryWrite v => exec (.sceneQueryWrite v) s = .next (s.setRw Reg.sceneQuery (Word.of (wfld v 13 8 * 256 + wfld v 5 0)))
  | .lampRecheck v => s.mayRecheck (wfld v 24 0) = true →
      exec (.lampRecheck v) s = .next { s with tl := { s.tl with recheck := some (wfld v 24 0, 0), recheckRes := 1, recheckIdx := wfld v 24 0 } }
  | .lampWatchWrite v => s.wf → ∃ t, exec (.lampWatchWrite v) s = .next t ∧ t.tl = { s.tl with watchOk := false } ∧
      t.rw Reg.lampWatch = Word.of (v.toNat % 2 ^ 28)
  | .planCue v => s.rl.role ≠ .standby → s.hasWarm = false →
      (let w := s.setRw Reg.planCue (Word.of ((wput v 31 31 1).toNat &&& 0x207)); w.planReason w.hostPlan = 0 → w.hostPlan.num ≠ s.tl.num → s.tl.stepB = none → s.tl.pend = none → ∃ x : State, exec (.planCue v) s = .next x.cuesChanged ∧ ∃ c, x.tl.pend = some c ∧ c.plan = w.hostPlan.num ∧ x.tl.pendB = s.heldAt s.tl.plan s.wall c)
  | .tbRestep v => s.tb.large = true → s.tl.on = true → s.boot.stage ≠ 6 → s.tl.stepB = none → s.tl.stepHeld = false → s.changeFixed = false →
      s.tl.fixed = false → ∃ t, exec (.tbRestep v) s = .next t ∧ t.tl.stepB = some (s.changeAt s.wall) ∧ t.tl.stepGo = none
  | .tbNowNsRead => ∃ t, exec .tbNowNsRead s = .next t ∧ t.out = s.out ++ [.readWords [Word.of s.tb.ns]] ∧
      t.tb = { s.tb with snapSec := s.tb.sec, snapNs := s.tb.ns, snapFrac := s.tb.frac }
  | .attach v => s.wf → wbit v 1 = false → s.host.attached = false → s.attachFail = 0 → ∃ t, exec (.attach v) s = .next t ∧
      t.host = { s.host with attached := true, fail := 0 } ∧ t.rw Reg.evtHostCi = 0
  | .detach v => wbit v 0 = false → ∃ t, exec (.detach v) s = .next t ∧ t.host.attached = false ∧
      (s.host.attached = true → ∀ n, n < 16 → (t.surf n).pull = none)
  | .stageGo v => s.host.stage.runs = false → s.host.attached = true → s.mem.ok = true → 1 ≤ s.stageCount → s.stageCount ≤ 65536 → wbit v 1 = false →
      ∃ t, exec (.stageGo v) s = .next t ∧ t.host.stage = { Stage.reset with state := 1 }
  | .stageAbort v => s.host.stage.runs = true → wbit v 0 = false → s.stageWriting = false → ∃ t, exec (.stageAbort v) s = .next t ∧
      t.host.stage.state = 7 ∧ t.host.stage.code = 9
  | .evtHostCiWrite v => s.wf → ∃ t, exec (.evtHostCiWrite v) s = .next t ∧ t.rw Reg.evtHostCi = v
  | .evtPop who c v => ∀ k r rest, who = .core k → s.wf → s.evt.cores.length = 4 → wbit v 0 = true → (s.evt.core c).queue (wbit v 1) = r :: rest →
      ∃ t, exec (.evtPop who c v) s = .next t ∧ (t.evt.core c).queue (wbit v 1) = rest ∧ (t.evt.core c).active = (s.evt.core c).active ++ [r.src]
  | .evtDone who c v => ∀ k, who = .core k → s.wf → s.evt.cores.length = 4 → wbit v 31 = true → (s.evt.core c).active.contains (wfld v 8 0) = true →
      ∃ t, exec (.evtDone who c v) s = .next t ∧ (t.evt.core c).active = (s.evt.core c).active.erase (wfld v 8 0)
  | .evtCoreStateWrite who c v => ∀ k, who = .core k → s.wf → ∃ t, exec (.evtCoreStateWrite who c v) s = .next t ∧
      coreSt (t.rws (Reg.evtCore c)) = (if c.val = 0 ∧ coreSt v = 3 then coreSt (s.rws (Reg.evtCore c)) else coreSt v)
  | .evtLineEnableWrite who core v => ∀ k, who = .core k → s.wf → ∃ t, exec (.evtLineEnableWrite who core v) s = .next t ∧
      (core = none → t.rws Reg.evtGlobal = rwsNew 1 (s.rws Reg.evtGlobal) v) ∧ ∀ c, core = some c → wbit (t.rws (Reg.evtCore c)) 0 = wbit v 0 ∧
      wbit (t.rws (Reg.evtCore c)) 1 = wbit v 1
  | .evtRouteWrite who src v => ∀ k, who = .core k → s.wf → s.variant.routeAbsent src = false → ∃ t, exec (.evtRouteWrite who src v) s = .next t ∧
      t.rws (Reg.evtRoute src) = rwsNew 0x73 (s.rws (Reg.evtRoute src)) v
  | .faultClear v => ∀ e, s.wf → wbit v 31 = true → s.flt.active.find? (fun e => e.src == wfld v 11 0 && e.kind == wfld v 19 12) = some e →
      ({ s with flt := { s.flt with clrRefused := 0 } } : State).causePresent e.kind e.src = false → ∃ t, exec (.faultClear v) s = .next t ∧
      t.flt.clrResult = 1 ∧ t.flt.active = s.flt.active.filter fun x => !(x.src == e.src && x.kind == e.kind)
  | .faultClearAll v => s.wf → wbit v 31 = true → ∃ t, exec (.faultClearAll v) s = .next t ∧ (∀ e ∈ t.flt.active, e ∈ s.flt.active) ∧
      t.flt.clrResult = (if s.flt.active = [] then 3 else if t.flt.clrRefused = 0 then 1 else 2)
  | .holdRequest v => wfld v 31 16 = 0x401D → wbit v 0 = true → exec (.holdRequest v) s = .next (s.fault Fk.hostHold fsFault [])
  | .faultLogRead v => s.wf → wbit v 31 = true → ∃ t, exec (.faultLogRead v) s = .next t ∧ t.rw Reg.faultLogRead = v ∧
      t.logSel = s.flt.log.find? (fun r : FltRec => r.seq == v.toNat)
  | .activeRead v => s.wf → wbit v 31 = true → ∃ t, exec (.activeRead v) s = .next t ∧ (t.rw Reg.activeRead).toNat = wfld v 10 0
  | .journalRead v => s.wf → s.nvm.present = true → s.nvm.frozen = false → ∃ t, exec (.journalRead v) s = .next t ∧ t.nvm.rdBusy = true ∧
      t.nvm.rdSeq = v.toNat ∧ t.nvm.rdValid = false
  | .journalReadDone => ∀ q r, s.nvm.op = some ⟨.jread q, r⟩ → s.nvm.rdSeq = q → s.nvm.rdBusy = true → ∃ t, exec .journalReadDone s = .next t ∧
      t.nvm.rdBusy = false ∧ (∀ b, s.nvm.findRec q = some b → t.nvm.rdValid = true ∧ t.nvm.rdData = toWords b) ∧
      (s.nvm.findRec q = none → t.nvm.rdMissing = true)
  | .restart v => wfld v 31 16 = 0x5A3C → s.boot.stage = 6 ∨ s.boot.stage = 7 → s.flt.shutTick = none → ∃ t, exec (.restart v) s = .next t ∧
      t.boot = { s.boot with restart := true } ∧ t.nvm.frozen = true
  | .restartTakesEffect => s.boot.restart = true → s.nvm.op = none ∨ s.nvm.freezeTick + 5 * 625000 ≤ s.ticks →
      ∃ t, exec .restartTakesEffect s = .next t ∧ t.boot.running = true ∧ t.boot.stage = 0 ∧ t.boot.sealWhen = .notYet ∧
      t.regs.rws = State.reset.regs.rws
  | .ownerEnrol v blown => wfld v 31 16 = 0x0E4C → wbit v 0 = true → s.mayEnrol = true → ∃ t, exec (.ownerEnrol v blown) s = .next t ∧
      (blown = true → t.fuses = { s.fuses with ownerHash := s.sec.written }) ∧ (blown = false → t.sec = { s.sec with enrolFailed := true })
  | .attestNonceWrite i v => ∃ t, exec (.attestNonceWrite i v) s = .next t ∧ t.sec = { s.sec with nonce := putWord s.sec.nonce i v, valid := false }
  | .attestGo v => s.sec.busy = none → s.sec.opened ≠ some s.ticks → s.sec.idKey.isSome = true → s.sec.err = false →
      ∃ t, exec (.attestGo v) s = .next t ∧ t.sec = { s.sec with busy := some s.ticks, refused := false }
  | .attestReportDone => ∀ b d, s.sec.busy = some b → s.sec.idKey = some d → ∃ t, exec .attestReportDone s = .next t ∧
      t.sec = { s.sec with report := s.attestBody ++ ecdsaSign d s.attestBody, valid := true, busy := none, refused := false, reports := s.sec.reports + 1 }
  | .debugSubmit v => s.sec.fails < 8 → s.sec.busy = none → s.tokenOk = true → ∃ t, exec (.debugSubmit v) s = .next t ∧ t.sec.unlocked = true ∧
      t.sec.scope = s.sec.scope ||| leAt s.sec.token 5 1 % 8 ∧ t.sec.idKey = none
  | .zeroise v => wfld v 31 16 = 0xD1E5 → ∃ t, exec (.zeroise v) s = .next t ∧ t.sec = s.sec.zero ∧ t.fuses = s.fuses
  | .zeroisePermanent v => wfld v 31 16 = 0xD1E5 → ∃ t, exec (.zeroisePermanent v) s = .next t ∧ t.sec = s.sec.zero ∧
      t.fuses = { s.fuses with retired := true }
  | .handover v => wfld v 31 16 = 0x6E1A → wbit v 1 = false → s.rl.role = .active → s.rl.release = none → s.partnerFit = true →
      exec (.handover v) s = .next { s with rl := { s.rl with txSeq := (s.rl.txSeq + 1) % 65536, release := some ⟨s.ticks, s.releaseMask⟩ }, out := s.out ++ [.relay 0xCA ((s.rl.txSeq + 1) % 65536) ([1, 0] ++ leBytes 2 s.releaseMask ++ [0, 0, 0, 0])] }
  | .mend v => wfld v 31 16 = 0x6E1A → wbit v 0 = false → s.mendable = true → s.claimsOpen = false → s.mendReleases = true →
      exec (.mend v) s = .next s.release
  | .hurdleQueryWrite v => s.wf → ∃ t, exec (.hurdleQueryWrite v) s = .next t ∧ t.rw Reg.hurdleQuery = Word.of (v.toNat &&& 0x7BF3F) ∧
      t.fab = { s.fab with qTick := some s.ticks, qValid := false, qUnj := false }
  | .hurdleQueryDone => s.fab.qTick.isSome = true → ∃ t, exec .hurdleQueryDone s = .next t ∧ t.fab.qValid = true ∧
      (t.fab.qUnj = true ↔ s.queryFigures (s.rw Reg.hurdleQuery) = none) ∧ ∀ l, s.queryFigures (s.rw Reg.hurdleQuery) = some l → t.fab.qUse = l
  | .coreKick who c v => who = .core c → s.flt.kickTick.length = 4 → wbit v 0 = true → ∃ t, exec (.coreKick who c v) s = .next t ∧
      t.flt.kickTick.getD c 0 = s.ticks
  | .coreWdtExpiry c => s.wdtDue c = true →
      exec (.coreWdtExpiry c) s = .next (({ s with flt := { s.flt with kickTick := setAt s.flt.kickTick c s.ticks } } : State).fault Fk.coreLost (fsCore c) [c, s.wdtMs c])
  | .portStopComplete u => (s.flt.unit u).st = .stopping → (s.flt.unit u).enPend = false → s.flt.units.length = 19 →
      (3 ≤ u.val → (s.port (u - 3)).clock = false) → ∃ t, exec (.portStopComplete u) s = .next t ∧ (t.flt.unit u).st = .stopped ∧
      t = ({ s with flt := t.flt } : State).ev Ev.unitStopped [u]
  | .holdTimeExpiry => s.flt.hold = .held → s.flt.holdFresh = false → s.cfg.holdTime ≠ 0 → s.flt.holdTick + s.cfg.holdTime * 625000000 ≤ s.ticks →
      exec .holdTimeExpiry s = .next (({ s with flt := { s.flt with hold := .heldDark } } : State).ev Ev.holdDark [])
  | .pcieLinkTrained speed width flit conf => s.pwr.serdes = true → s.host.perst = false → linkOk speed width flit = true →
      ∃ t, exec (.pcieLinkTrained speed width flit conf) s = .next t ∧ t.host.link = true ∧ t.host.speed = speed ∧ t.host.width = width ∧
      t.host.flit = flit ∧ t.host.conf = conf
  | .pcieLinkDown => ∃ t, exec .pcieLinkDown s = .next t ∧ t.host.link = false ∧ t.host.attached = false ∧ t.host.conf = confReset
  | .functionLevelReset => ∃ t, exec .functionLevelReset s = .next t ∧ t.host.conf = confReset ∧ t.host.d3hot = false ∧ t.host.attached = false ∧
      t.host.link = s.host.link
  | .hotReset => ∃ t, exec .hotReset s = .next t ∧ t.host.link = false ∧ t.host.attached = false ∧ t.host.conf = confReset
  | .d3hotEntry => ∃ t, exec .d3hotEntry s = .next t ∧ t.host.d3hot = s.host.link ∧ t.host.attached = false
  | .busMasterEnableClear => ∃ t, exec .busMasterEnableClear s = .next t ∧ t.host.conf = { s.host.conf with master := false } ∧
      t.host.attached = false
  | .pePerstAssert => ∃ t, exec .pePerstAssert s = .next t ∧ t.host.perst = true ∧ t.host.link = false ∧ t.host.attached = false ∧
      t.host.conf = confReset
  | .pePerstRelease => s.host.perst = true → ∃ t, exec .pePerstRelease s = .next t ∧ t.host = { s.host with perst := false, perstTick := s.ticks }
  | .pullCompletionRx n st data => ∀ p r a, (s.surf n).pull = some p → s.surfRec? n = some r → s.host.surfs.length = 16 → st.val = 0 →
      p.addr = some a → p.line < r.h → p.line < p.sent → data.length = r.lineBytes → ∃ t, exec (.pullCompletionRx n st data) s = .next t ∧
      (t.surf n).pull = some { p with line := p.line + 1 } ∧ (t.surf n).slots = modAt (s.surf n).slots p.slot fun x =>
      { x with lines := setAt x.lines p.line (some data) }
  | .pullCompletionTimeout n => ∀ p r, (s.surf n).pull = some p → s.surfRec? n = some r → s.host.surfs.length = 16 → p.addr = none ∨ p.line < r.h →
      ∃ t, exec (.pullCompletionTimeout n) s = .next t ∧ (t.surf n).pull = none ∧ (t.surf n).slots = modAt (s.surf n).slots p.slot fun x =>
      { x with lines := fillLines ((s.surf n).slots.getD p.slot .reset).lines (match p.prev with | some i => ((s.surf n).slots.getD i .reset).lines | none => []) }
  | .hsPullComplete n => ∀ p r a, (s.surf n).pull = some p → s.surfRec? n = some r → s.host.surfs.length = 16 → p.addr = some a → r.h ≤ p.line →
      ∃ t, exec (.hsPullComplete n) s = .next t ∧ (t.surf n).pull = none ∧ (t.surf n).slots = (s.surf n).slots
  | .stagePullDone es data fail => s.host.stage.state = 1 → s.host.attached = true → ∃ t, exec (.stagePullDone es data fail) s = .next t ∧
      (fail = true → t.host.stage.state = 7 ∧ t.host.stage.code = 3) ∧
      (fail = false → s.host.stage.list = [] → stageListOk es = true → es.length = s.stageCount → listBytes es ≠ 0 → listBytes es ≤ max (s.slotSize 1) (s.slotSize 3) → t.host.stage = { s.host.stage with list := es })
  | .stageCheckDone => s.host.stage.state = 2 → s.host.stage.wait = false → s.stageCheck = 0 →
      leAt s.host.stage.image 5 1 = 3 ∨ s.nvm.hdr.trial (leAt s.host.stage.image 5 1) = false → ∃ t, exec .stageCheckDone s = .next t ∧
      t.host.stage.state = 3 ∧ t.host.stage.kind = leAt s.host.stage.image 5 1 ∧ t.host.stage.version = leAt s.host.stage.image 12 4
  | .stageEraseResume => s.host.stage.state = 2 → s.host.stage.wait = true → s.stageHeld = false → ∃ t, exec .stageEraseResume s = .next t ∧
      t.host.stage = { s.host.stage with state := 3, kib := 0, pos := 0, wait := false }
  | .stageEraseDone run => ∀ a left, s.nvm.op = some ⟨.stErase a left, false⟩ → s.nvm.frozen = false → s.host.stage.abort = false →
      ∃ t, exec (.stageEraseDone run) s = .next t ∧ (run.ok = false → t.nvm = { s.nvm with op := some ⟨.stErase a left, true⟩ }) ∧
      (run.ok = true → left ≤ max 1 run.n → t.host.stage = { s.host.stage with state := 4, kib := 0, pos := 0 } ∧ t.nvm.flash = flashErase s.nvm.flash a (left * sector)) ∧
      (run.ok = true → max 1 run.n < left → t.nvm.flash = flashErase s.nvm.flash a (max 1 run.n * sector))
  | .stageProgramDone run => ∀ a b, s.nvm.op = some ⟨.stProg a b, false⟩ → s.nvm.frozen = false → s.host.stage.abort = false →
      ∃ t, exec (.stageProgramDone run) s = .next t ∧ (run.ok = false → t.nvm = { s.nvm with op := some ⟨.stProg a b, true⟩ }) ∧
      (run.ok = true → b.length ≤ 256 * max 1 run.n → t.host.stage = { s.host.stage with state := 5, kib := 0, pos := 0 } ∧ t.nvm.flash = flashWrite s.nvm.flash a b) ∧
      (run.ok = true → 256 * max 1 run.n < b.length → t.nvm.flash = flashWrite s.nvm.flash a (b.take (256 * max 1 run.n)))
  | .stageVerifyDone => ∀ r, s.nvm.op = some ⟨.stRead, r⟩ → s.nvm.frozen = false → ∃ t, exec .stageVerifyDone s = .next t ∧
      (sha256 (flashRead s.nvm.flash (areaAddr s.stageArea) s.host.stage.image.length) = s.host.stage.sealHash → t.host.stage = { s.host.stage with kib := s.host.stage.image.length / 1024, mark := true }) ∧
      (sha256 (flashRead s.nvm.flash (areaAddr s.stageArea) s.host.stage.image.length) ≠ s.host.stage.sealHash → t.host.stage.state = 7 ∧ t.host.stage.code = 8)
  | .hostRingWrite => ∀ r rest, s.host.attached = true → s.ringSpace = true → s.evt.hostQ = r :: rest → r.tick < s.ticks → s.evt.dropped = 0 →
      ∃ t, exec .hostRingWrite s = .next t ∧ t.evt.hostQ = rest ∧ t.evt.pi = (s.evt.pi + 1) % 2 ^ 32
  | .indexBlockTimer => s.host.attached = true → s.evt.idxTick + 100 * 625000 ≤ s.ticks → ∃ t, exec .indexBlockTimer s = .next t ∧
      t.evt.idxTick = s.ticks ∧
      t.out = s.out ++ [Output.hostWrite (s.addr64 Reg.hostIndexAddrLo Reg.hostIndexAddrHi) (leBytes 4 s.evt.pi ++ leBytes 4 (s.cnt Reg.evtHostDropped) ++ leBytes 5 s.split ++ leBytes 3 0)]
  | .legBoundary => s.tl.on = true → s.tl.nextAt ≤ s.wall → (s.tl.next % (s.tl.plan.legs : Int)).toNat ≠ 0 → ∃ t, exec .legBoundary s = .next t ∧
      t.tl.leg = (s.tl.next % (s.tl.plan.legs : Int)).toNat ∧ t.tl.lap = s.tl.next / (s.tl.plan.legs : Int) ∧ t.tl.next = s.tl.next + 1 ∧
      t.tl.nextAt = s.tl.plan.legAt s.cfg.epoch (s.tl.next + 1)
  | .pinPulseStart leg => ∀ p, s.tl.pulses.find? (fun p => p.leg == leg && decide (p.at_ ≤ s.wall)) = some p → s.pinOn leg p.idx = true →
      ∃ x : State, exec (.pinPulseStart leg) s = .next (x.drivePin leg true) ∧ x.tl.pulses = s.tl.pulses.erase p
  | .pinPulseEnd leg => ∀ k, (if leg then s.tl.legPin else s.tl.lapPin) = some k → k ≤ s.ticks →
      exec (.pinPulseEnd leg) s = .next (State.drivePin { s with tl := if leg then { s.tl with legPin := none } else { s.tl with lapPin := none } } leg false)
  | .planCueFixPoint => s.tl.pend.isSome = true → s.tl.fixed = false → s.fixPoint ≤ s.wall → ∃ t, exec .planCueFixPoint s = .next t ∧
      t.tl = { s.tl with fixed := true }
  | .restepDecisionPoint => ∀ b, s.tl.stepB = some b → s.tl.stepGo = none → b - 2000000 ≤ s.wall → ∃ t, exec .restepDecisionPoint s = .next t ∧
      t.tl = { s.tl with stepGo := some (decide (1000 ≤ s.tb.est.natAbs)) }
  | .lapFrameSend p => ∀ l, p < s.ports.length → s.tl.on = true → (s.port p).up = true → s.drives p = true → s.silent p = false →
      (s.lapsAhead p).find? (fun l => match (s.port p).lapNext with | some b => decide (b < l.at_) | none => true) = some l →
      l.at_ - 2000000 ≤ s.wall → s.wall ≤ l.at_ - 100000 → ∃ t f, exec (.lapFrameSend p) s = .next t ∧
      t.port p = { s.port p with queue := (s.port p).queue ++ [f], tag := (s.port p).tag + 1, lapNext := some l.at_ } ∧ f.kind = .lap
  | .scheduleOccurrence i => ∀ e m a, s.cfg.sched[i]? = some e → s.sc.schedMarks[i]? = some m → e.newest s.wall = some a → m < a - schedLead →
      s.timeValid = true → s.tl.service = true → ∃ x : State, exec (.scheduleOccurrence i) s = .next (x.submitCue (e.cue a)) ∧
      x.sc = { s.sc with schedMarks := setAt s.sc.schedMarks i (a - schedLead) }
  | .blockCorrectionDue v b => ∀ l r, s.unfinished v = some l → s.cfg.view? v = some r → v < s.sc.views.length → l.underrun.contains b = false →
      ∃ x t : State, exec (.blockCorrectionDue v b) s = .next t ∧ t = x.formLate v { l with underrun := l.underrun ++ [b] } r.w r.h b ∧
      (x.view v).latch = some { l with underrun := l.underrun ++ [b] } ∧ (x.view v).recheckBlocks.contains b = true
  | .sendDeadline p q j k => ∀ t, s.tile? p q = some t → s.tl.on = true → j < s.tl.plan.legs → s.unsent t j k = true →
      s.deadline t j k ≤ 32 * s.wall → ∃ u, exec (.sendDeadline p q j k) s = .next u ∧
      u.tiles = (s.modTile t.port t.pos fun t => { t with pairs := modAt t.pairs j fun l => modAt l k fun x => { x with dirty := true, ready := false } }).tiles
  | .viewComposeDone v => ∀ l r, (s.view v).latch = some l → s.cfg.view? v = some r → l.done = false → l.changed = true → s.pullFor l = false →
      v < s.sc.views.length → ∃ t k, exec (.viewComposeDone v) s = .next t ∧ (t.view v).canvas = s.compose v l r.w r.h ∧
      (t.view v).buf = 1 - (s.view v).buf ∧ (t.view v).latch = some k ∧ k.done = true
  | .probeCountSecond => s.tl.service = true → s.tl.probeTick + 625000000 ≤ s.ticks → ∃ t, exec .probeCountSecond s = .next t ∧
      t.tiles = s.tiles.map (fun t => { t with lamps := t.lamps.map fun l => { l with unchecked := if l.check.any id then 0 else min 63 (l.unchecked + 1) } })
  | .tileTempStale p q => ∀ t, s.tile? p q = some t → t.admitted = true → t.stale = false → s.tends t = true → t.tempTick + 625000000 ≤ s.ticks →
      ∃ u, exec (.tileTempStale p q) s = .next u ∧ u.tiles = (s.modTile p q fun t => { t with stale := true }).tiles
  | .delayRecompute => ∃ x : State, exec .delayRecompute s = .next ((List.range 16).foldl State.relayDelays x) ∧
      x.tiles.map (fun t => { t with delay := 0 }) = s.tiles.map (fun t => { t with delay := 0 })
  | .ptpAnnounce i d => ∀ a h, s.slotsOn i = [a] → a < s.tb.ptp.length → PtpHdr.parse d = some h → h.domain = s.ptpDomain a → h.type = 0xB →
      (s.ptp a).masters.any (fun x => x.clock == h.clock && x.port == h.port) = true →
      ∃ m l, exec (.ptpAnnounce i d) s = .next ((s.modPtp a fun q => { q with masters := l ++ [m] }).chooseMaster a) ∧ m.clock = h.clock ∧
      m.port = h.port ∧ m.prio1 = leAt d 47 1 ∧ m.tick = s.ticks
  | .ptpSync i d ph => ∀ a h, s.slotsOn i = [a] → PtpHdr.parse d = some h → h.domain = s.ptpDomain a → h.type = 0 →
      (s.ptp a).sel = some (h.clock, h.port) → -7 ≤ h.log → h.log ≤ 1 →
      exec (.ptpSync i d ph) s = .next (if h.twoStep then s.modPtp a fun p => { p with sync := some ⟨h.seq, s.rxStamp (s.ptpSub a) ph, h.corr, none⟩, syncLog := h.log } else (s.modPtp a fun p => { p with sync := some ⟨h.seq, s.rxStamp (s.ptpSub a) ph, h.corr, some h.time⟩, syncLog := h.log }).tryMeasure a)
  | .ptpFollowUp i d => ∀ a h r, s.slotsOn i = [a] → PtpHdr.parse d = some h → h.domain = s.ptpDomain a → h.type = 8 → (s.ptp a).sync = some r →
      (s.ptp a).sel = some (h.clock, h.port) → r.seq = h.seq → r.t1 = none →
      exec (.ptpFollowUp i d) s = .next ((s.modPtp a fun p => { p with sync := some { r with corr := r.corr + h.corr, t1 := some h.time } }).tryMeasure a)
  | .ptpDelayResp i d => ∀ a h t3 t1 t2, s.slotsOn i = [a] → PtpHdr.parse d = some h → h.domain = s.ptpDomain a → h.type = 9 →
      (s.ptp a).dreqT3 = some t3 → (s.ptp a).last = some (t1, t2) → s.ptpP2p a = false → (s.ptp a).sel = some (h.clock, h.port) →
      s.forMe a d = true → h.seq = (s.ptp a).dreqSeq →
      exec (.ptpDelayResp i d) s = .next ((s.modPtp a fun p => { p with dreqLog := h.log }).gotDelay a (((t2 - t1) + (h.time - h.corr - t3)) / 2))
  | .ptpPdelayReq i d ph => ∀ a h, s.slotsOn i = [a] → PtpHdr.parse d = some h → h.domain = s.ptpDomain a → h.type = 2 → s.ptpP2p a = true →
      ∃ x : State, x = s.ptpSend a 319 true (s.ptpHead a 3 54 0x0200 h.seq 0x7F 0 ++ timeBytes (s.rxStamp (s.ptpSub a) ph) ++ slice d 20 10) ∧
      exec (.ptpPdelayReq i d ph) s = .next (x.ptpSend a 320 true (x.ptpHead a 0xA 54 0 h.seq 0x7F (h.corr / 10) ++ timeBytes (x.txStamp (x.ptpSub a) 0) ++ slice d 20 10))
  | .ptpPdelayResp i d ph => ∀ a h t1, s.slotsOn i = [a] → PtpHdr.parse d = some h → h.domain = s.ptpDomain a → h.type = 3 →
      (s.ptp a).dreqT3 = some t1 → s.ptpP2p a = true → s.forMe a d = true → h.seq = (s.ptp a).dreqSeq →
      exec (.ptpPdelayResp i d ph) s = .next (if h.twoStep then s.modPtp a fun p => { p with pdT2 := some (h.time - h.corr), pdT4 := s.rxStamp (s.ptpSub a) ph } else s.gotDelay a ((s.rxStamp (s.ptpSub a) ph - t1 - h.corr) / 2))
  | .ptpPdelayRespFollowUp i d => ∀ a h t1 r2, s.slotsOn i = [a] → PtpHdr.parse d = some h → h.domain = s.ptpDomain a → h.type = 0xA →
      (s.ptp a).dreqT3 = some t1 → (s.ptp a).pdT2 = some r2 → s.ptpP2p a = true → s.forMe a d = true → h.seq = (s.ptp a).dreqSeq →
      exec (.ptpPdelayRespFollowUp i d) s = .next (s.gotDelay a ((((s.ptp a).pdT4 - t1) - (h.time + h.corr - r2)) / 2))
  | .ptpManagement i d => ∀ a h, s.slotsOn i = [a] → PtpHdr.parse d = some h → exec (.ptpManagement i d) s = .next s
  | .ptpSignaling i d => ∀ a h, s.slotsOn i = [a] → PtpHdr.parse d = some h → exec (.ptpSignaling i d) s = .next s
  | .delayReqSend a ph => a < s.tb.ptp.length → s.ptpOn a = true → s.ptpP2p a = false → (s.ptp a).sel.isSome = true →
      (s.ptp a).dreqTick + max (logTicks (s.ptp a).dreqLog) (logTicks (s.ptpLog a)) ≤ s.ticks →
      ∃ x : State, exec (.delayReqSend a ph) s = .next (x.ptpSend a 319 false (x.ptpHead a 1 44 0 (((s.ptp a).dreqSeq + 1) % 65536) 0x7F 0 ++ List.replicate 10 0)) ∧
      (x.ptp a).dreqT3 = some (s.txStamp (s.ptpSub a) ph) ∧ (x.ptp a).dreqTick = s.ticks
  | .pdelayReqSend a ph => a < s.tb.ptp.length → s.ptpOn a = true → s.ptpP2p a = true → (s.ptp a).dreqTick + 625000000 ≤ s.ticks →
      ∃ x : State, exec (.pdelayReqSend a ph) s = .next (x.ptpSend a 319 true (x.ptpHead a 2 54 0 (((s.ptp a).dreqSeq + 1) % 65536) 0x7F 0 ++ List.replicate 20 0)) ∧
      (x.ptp a).dreqT3 = some (s.txStamp (s.ptpSub a) ph) ∧ (x.ptp a).pdT2 = none
  | .announceReceiptTimeout a => ∀ m, a < s.tb.ptp.length → (s.ptp a).masters.find? (fun m => (s.ptp a).sel == some (m.clock, m.port)) = some m →
      s.past m.tick (s.ptpTimeout a * logTicks m.logInt) = true →
      ∃ x : State, exec (.announceReceiptTimeout a) s = .next ((x.chooseMaster a).ptpLost a) ∧
      (x.ptp a).masters = ((s.ptp a).masters.filter fun x => !(s.past x.tick (s.ptpTimeout a * logTicks x.logInt))) ∧
      (((x.chooseMaster a).ptpLost a).ptp a).qual = false
  | .syncIntervalMiss a => a < s.tb.ptp.length → (s.ptp a).sel.isSome = true → (s.ptp a).syncTick + logTicks (s.ptp a).syncLog ≤ s.ticks →
      ∃ t, exec (.syncIntervalMiss a) s = .next t ∧ (t.ptp a).good = 0 ∧ (t.ptp a).missed = min 3 ((s.ptp a).missed + 1) ∧
      (t.ptp a).qual = ((s.ptp a).qual && decide ((s.ptp a).missed < 2))
  | .sourceRevertTimer => s.nextSel = 0 ∨ s.tb.stepped = true → ∃ t, exec .sourceRevertTimer s = .next t ∧ t.tb.sel = s.nextSel
  | .laprefPulse w ph => laprefSym w ≠ 3 → s.tb.lapref.decoded = false → s.tb.lapref.word = none → s.tb.lapref.edgeTick = none →
      ∃ t, exec (.laprefPulse w ph) s = .next t ∧ t.tb.lapref.edgeTick = some s.ticks ∧ t.tb.lapref.run = 1 ∧
      t.tb.lapref.word = (if laprefSym w = 2 then some [] else none)
  | .laprefEdgeTimeout => ∀ k, s.tb.lapref.edgeTick = some k → k + 1250000000 ≤ s.ticks → s.tb.lapref.run ≠ 0 →
      ∃ x : State, exec .laprefEdgeTimeout s = .next (x.setQual 3 false) ∧ x.tb = { s.tb with lapref := { s.tb.lapref with run := 0, word := none } }
  | .refClkStop => s.tb.refClk = true → s.boot.startTick ≠ s.ticks → ∃ t, exec .refClkStop s = .next t ∧ t.tb.refClk = false ∧ t.pwr.pwrgd = false
  | .ethFrameRx i rx d => s.subOn i = true → rx.full = false → s.macsecOn (i / 2) = false → rx.errored = false → 64 ≤ d.length → d.length ≤ 9216 →
      leAt d (d.length - 4) 4 = (crc32 (d.take (d.length - 4))).toNat → beAt d 12 2 ≠ 0x8808 →
      exec (.ethFrameRx i rx d) s = .next (((s.bumpN (Reg.fecCorrected (i / 2)) rx.corrected).bumpN (Reg.fecUncorrected (i / 2)) rx.lost).ethTake i rx.phase ((d.take (d.length - 4)).take 6) ((d.take (d.length - 4)).drop 12))
  | .arpRequest i d => 28 ≤ d.length → beAt d 0 2 = 1 → beAt d 2 2 = 0x0800 → leAt d 4 1 = 6 → leAt d 5 1 = 4 → beAt d 6 2 = 1 →
      beAt d 24 4 = s.ip i → s.ip i ≠ 0 →
      exec (.arpRequest i d) s = .next (s.ethSend i (slice d 8 6) 0x0806 ([0, 1, 8, 0, 6, 4, 0, 2] ++ s.mac (i / 2) ++ beBytes 4 (s.ip i) ++ slice d 8 6 ++ slice d 14 4))
  | .igmpQuery i d => leAt d 0 1 = 0x11 → 12 ≤ d.length → fold16 (sum16 d) = 65535 → s.subOn i = true →
      exec (.igmpQuery i d) s = .next (s.igmpReport i (((s.sub i).groups.filter fun x => beAt d 4 4 == 0 || x.1 == beAt d 4 4).flatMap fun x => queryRec x.1 x.2 ((List.range (beAt d 10 2)).map fun k => beAt d (12 + 4 * k) 4)))
  | .igmpReportTimer i => exec (.igmpReportTimer i) s = .next ((s.igmpReport i (s.sub i).again).modSub i fun p => { p with again := [] })
  | .flowPacketRx f sec d => ∀ r p n, s.flowRec? f = some r → f < s.net.flows.length → RtpPkt.parse d = some p → (s.flow f).valid = true →
      p.pt = r.pt → (if sec then (s.flow f).sec.joined else (s.flow f).pri.joined) = true → (s.flow f).ssrc = some p.ssrc →
      (s.flow f).newest = some n → -1048576 ≤ diff32 p.seq n → r.dual = false → p.srds.any (·.field) = false → (s.flow f).tsOld p.ts = false →
      ∃ x : State, exec (.flowPacketRx f sec d) s = .next (x.takePacket f r p) ∧ (x.flow f).rx = (s.flow f).rx ∧
      (x.flow f).lastTs = (s.flow f).lastTs
  | .flowFrameClose f => ∀ r x, s.flowRec? f = some r → f < s.net.flows.length → (s.flow f).rx.filter (·.due r s.ticks) = [x] → x.buf.isSome = true →
      exec (.flowFrameClose f) s = .next (((if r.conceal then (s.bump (Reg.flowConcealed f)).frameDone f r x ((s.flow f).doneRuns ++ x.runs) else (((s.bump (Reg.flowDropped f)).modFlow f fun w => w.dropRx x.ts).countLost f x).freeBufs f).countPath f false r).countPath f true r)
  | .flowPathTimeout f sec => f < s.net.flows.length → (if sec then (s.flow f).sec else (s.flow f).pri).alive = true →
      (if sec then (s.flow f).sec else (s.flow f).pri).tick + 625000000 ≤ s.ticks → ∃ t, exec (.flowPathTimeout f sec) s = .next t ∧
      (if sec then (t.flow f).sec else (t.flow f).pri).alive = false
  | .flowLeaveTimer f => ∀ k, (s.flow f).unused = some k → k + 1250000000 ≤ s.ticks → s.flowWanted f = false → f < s.net.flows.length →
      ∃ x : State, exec (.flowLeaveTimer f) s = .next x.syncGroups ∧ (x.flow f).pri.joined = false ∧ (x.flow f).sec.joined = false ∧
      (x.flow f).rx = []
  | .cueDatagramRx i d => s.subOn i = true → wfld (s.rws Reg.cueDgCfg) 31 16 ≠ 0 → dgFormed d = true → s.dgTag d = true →
      nbit (leAt d 6 2) s.cfg.devNum = true → s.timeValid = true → (splitDiff (leAt d 20 5) s.split).natAbs ≤ s.cueWindow * 1000000 →
      (∀ l, (s.net.senders.getD (beAt d 8 1) ⟨none, [], 0, 0⟩).last = some l → l < leAt d 12 8) → ∃ t, exec (.cueDatagramRx i d) s = .next t ∧
      t.net.dgQueue = s.net.dgQueue ++ [⟨s.ticks + 12500, d⟩] ∧ t.cnt Reg.cueDgAccepted = (s.bump Reg.cueDgAccepted).cnt Reg.cueDgAccepted
  | .cueDatagramAccept => ∀ d rest, s.net.dgQueue = d :: rest → d.due ≤ s.ticks →
      exec .cueDatagramAccept s = .next (State.asOf { s with net := { s.net with dgQueue := rest } } d.due fun y => y.submitCue (dgCue d.bytes))
  | .relayDelayedAccept => ∀ d rest c, s.net.relayQ = d :: rest → d.due ≤ s.ticks → d.what = .cue c →
      ∃ x : State, exec .relayDelayedAccept s = .next (x.asOf d.due fun y => y.takeCue c) ∧ x.net = { s.net with relayQ := rest }
  | .monitorPacketSend => ∀ p rest, s.net.mon.packets = p :: rest → s.monStop = 0 →
      s.net.mon.at_ + (s.net.mon.sent * s.net.mon.lapNum / (s.net.mon.lapDen * max 1 s.net.mon.total) : Nat) ≤ s.wall →
      ∃ x t : State, exec .monitorPacketSend s = .next t ∧
      (t = x.udpSend s.monSub (wfld (s.rws Reg.monCfg) 13 8 * 4) 16 (s.rws Reg.monDst).toNat (wfld (s.rws Reg.monUdp) 15 0) (wfld (s.rws Reg.monUdp) 31 16) p ∨ t = x.elasticLoss 3) ∧
      x.net.mon.packets = rest ∧ x.net.mon.sent = s.net.mon.sent + 1
  | .ethLinkChange i up hi => s.subOn i = true → up = false → (s.sub i).up = true →
      exec (.ethLinkChange i up hi) s = .next ((s.modSub i fun p => { p with up := up, hiSer := hi }).evtAt (srcSub i) Ev.ethLinkDown [i / 2, i % 2])
  | .memRequest port addr write level busy => s.mem.pcs.length = 128 → s.mem.stks.length = 4 → s.mem.ok = true → addr.toNat < s.variant.hbmBytes →
      stackOf (s.place addr.toNat).pc < 4 → (rtClass port = true → s.panicMark port ≤ level) →
      ((s.mem.pc (s.place addr.toNat).pc).queue.filter (·.port == port.val)).length < 64 →
      ∃ t, exec (.memRequest port addr write level busy) s = .next t ∧
      (t.mem.pc (s.place addr.toNat).pc).queue = enqueue ⟨port, addr.toNat, write, s.ticks⟩ (s.mem.pc (s.place addr.toNat).pc).queue
  | .memReadBurst p sev hit => ∀ r rest, s.mem.pcs.length = 128 → s.mem.stks.length = 4 → (s.mem.pc p).flight = r :: rest →
      ∃ t, exec (.memReadBurst p sev hit) s = .next t ∧ (t.mem.pc p).flight = rest
  | .refreshDue p => s.mem.pcs.length = 128 → s.mem.stks.length = 4 → s.pcRuns p = true → (s.mem.pc p).refTick + s.refiPb p ≤ 64 * s.ticks →
      (s.mem.pc p).rtQueued = false → ∃ t, exec (.refreshDue p) s = .next t ∧
      t.mem.pc p = PcSt.refresh { s.mem.pc p with refTick := (s.mem.pc p).refTick + s.refiPb p }
  | .pageIdleTimeout p b => ∀ o ∈ (s.mem.pc p).rows, s.mem.pcs.length = 128 → s.mem.stks.length = 4 → s.pcRuns p = true → o.bank = b.val →
      o.tick + (s.pageIdle * 5 + 1) / 2 ≤ s.ticks → ∃ t, exec (.pageIdleTimeout p b) s = .next t ∧
      (t.mem.pc p).rows = (s.mem.pc p).rows.filter (·.bank != b.val)
  | .stackTempReading st v => s.mem.pcs.length = 128 → s.mem.stks.length = 4 → s.stackRead st = true → (s.mem.stk st).tempTick + 625000 ≤ s.ticks →
      ∃ (x : State) (ms : List FltMsg), exec (.stackTempReading st v) s = .next (x.hkRaise ms) ∧ (x.mem.stk st).temp = v.toInt ∧
      (x.mem.stk st).tempTick = s.ticks
  | .stackReadTimeout st => s.mem.pcs.length = 128 → s.mem.stks.length = 4 → s.stackRead st = true →
      (s.mem.stk st).tempTick + 16 * 625000 ≤ s.ticks →
      ∃ x : State, exec (.stackReadTimeout st) s = .next (x.hkRaise [⟨Fk.hkStackUnread, srcStack st, []⟩]) ∧ (x.mem.stk st).hot = true
  | .stackQuiet st step => s.mem.pcs.length = 128 → s.mem.stks.length = 4 → s.restOk st step = true → ∃ t, exec (.stackQuiet st step) s = .next t ∧
      (t.mem.stk st).phase = .entering ∧ (t.mem.stk st).step = step
  | .stackWake st need => s.mem.pcs.length = 128 → s.mem.stks.length = 4 → need = true → (s.mem.stk st).phase = .selfRefresh →
      (s.mem.stk st).phaseTick + 625 ≤ s.ticks → ∃ t, exec (.stackWake st need) s = .next t ∧ (t.mem.stk st).phase = .exiting
  | .stackExitDone st => s.mem.pcs.length = 128 → s.mem.stks.length = 4 → (s.mem.stk st).phase = .exiting →
      ∃ t, exec (.stackExitDone st) s = .next t ∧ (t.mem.stk st).down = ((s.mem.stk st).down != (s.mem.stk st).step) ∧
      ∀ p ∈ pcsOf st, (t.mem.pc p).owed = 0
  | .parityAlert p c => s.mem.pcs.length = 128 → s.mem.stks.length = 4 → s.mem.ok = true → (s.mem.pc p).alert = none →
      c.val < (s.mem.pc p).cmds.length → ∃ t, exec (.parityAlert p c) s = .next t ∧ (t.mem.pc p).alert = some ((s.mem.pc p).cmds.drop c) ∧
      (t.mem.pc p).slotOn = none
  | .parityAlertClear p again => ∀ cs, s.mem.pcs.length = 128 → s.mem.stks.length = 4 → (s.mem.pc p).alert = some cs → again = false →
      ∃ t, exec (.parityAlertClear p again) s = .next t ∧ t.mem.pc p = { (s.mem.pc p).replay s.ticks cs with alert := none, tries := 0 }
  | .trimSlotDue p => s.mem.pcs.length = 128 → s.mem.stks.length = 4 → s.mem.ok = true → p.val < s.variant.pcsN → (s.mem.pc p).slotOn = none →
      (s.mem.pc p).slotTick ≤ s.ticks → s.slotOk p = true → ∃ t, exec (.trimSlotDue p) s = .next t ∧
      t.mem.pc p = { s.mem.pc p with slotOn := some s.ticks }
  | .trimSlotEnd p found eye centre => ∀ t0, s.mem.pcs.length = 128 → s.mem.stks.length = 4 → s.wf → (s.mem.pc p).slotOn = some t0 →
      t0 + 1250 ≤ s.ticks → found = false ∨ eye ≠ [] → ∃ t, exec (.trimSlotEnd p found eye centre) s = .next t ∧ (t.mem.pc p).slotOn = none ∧
      (t.mem.pc p).trimStatus = (if found then if 16 ≤ min 63 (eye.foldl min (eye.headD 0)) then 1 else 2 else 3)
  | .hbmTrainingDone eyes fails base place => s.mem.pcs.length = 128 → s.mem.stks.length = 4 → s.boot.stage = 4 → s.boot.sealWhen = .notYet →
      s.mem.ok = false → s.flt.shutTick = none → (∀ p l, p < s.variant.pcsN → l < 32 → 12 ≤ (eyes.getD p []).getD l 0) → fails = [] →
      ∃ t, exec (.hbmTrainingDone eyes fails base place) s = .next t ∧ t.mem.ok = true ∧ ∀ i, i < s.variant.stacksN → (t.mem.stk i).phase = .active ∧
      (t.mem.stk i).trained = true
  | .fabricTrimDone lines => s.boot.stage = 4 → s.boot.sealWhen = .notYet → (∀ x ∈ s.hk.fabTrim, x.1 = 0) →
      (∀ g, g < 4 → (trimStage (lines.getD g [])).isSome = true) → ∃ t, exec (.fabricTrimDone lines) s = .next t ∧ ∀ g, g < 4 →
      some (t.hk.fabTrim.getD g (0, 0, 0, 0)) = trimStage (lines.getD g [])
  | .fabricStallTimeout g => g.val ≠ 0 → s.fab.lost = false → s.boot.running = true → 4 ≤ s.boot.stage → s.boot.stage ≠ 6 →
      exec (.fabricStallTimeout g) s = .next (({ s with fab := { s.fab with lost := true, stage := g, slowDue := s.fab.slowDue || s.slowNow } } : State).evFault Ev.fabricStall Fk.fabricStall (fsStage g) [g])
  | .hurdleCheckDone => s.fab.runTick.isSome = true → s.boot.stage ≠ 7 → ∃ t, exec .hurdleCheckDone s = .next t ∧ t.fab.runs = s.fab.runs + 1 ∧
      t.fab.runTick = none ∧ ∀ n, n < 8 → t.tl.reasons.getD n 0 = match s.cfg.plan? n with | some p => s.planCode p | none => 0
  | .resetRelease => s.pwr.resetN = false → ∃ t, exec .resetRelease s = .next t ∧ t.pwr.resetN = true ∧
      (s.pwr.pwrgd = true → t.boot.running = true ∧ t.boot.stage = 0) ∧ (s.pwr.pwrgd = false → t.pwr.waiting = true)
  | .resetAssert => s.pwr.resetN = true → s.boot.running = true → s.flt.shutTick = none → ∃ t, exec .resetAssert s = .next t ∧ t.pwr.resetN = false ∧
      t.boot.running = false ∧ t.pwr.vcore = false
  | .sbStageComplete r => s.boot.running = true → s.flt.shutTick = none → s.boot.stage = 0 → 3 ≤ s.hk.rounds → s.sb0Fail r = none →
      ∃ t, exec (.sbStageComplete r) s = .next t ∧ t.boot.stage = 1 ∧ t.sec.idKey = some (identityKey s.fuses.seed) ∧ t.out = s.out ++ [.nvmReset]
  | .sbStageTimeout r => s.boot.running = true → s.flt.shutTick = none → s.boot.stage = 0 → s.boot.stageTick + 60 * 625000 ≤ s.ticks →
      s.sb0Fail r = none → ∃ t, exec (.sbStageTimeout r) s = .next t ∧ t.boot.stage = 6 ∧ t.boot.fsCode = 4 ∧ t.fab.vset = 900
  | .slateLoadDone => ∀ b, s.warm.loading = true → (∀ j ∈ s.nvm.jobs, ∀ k, j ≠ .slate k) → (∀ k f, s.nvm.op ≠ some ⟨.slate k, f⟩) →
      s.warm.bufs.length = 2 → s.ownerImage.bind slateOf = some b → ∃ t, exec .slateLoadDone s = .next t ∧ t.warm.loading = false ∧ ∃ i, i < 2 ∧
      t.warm.slate = some i ∧ t.warm.bufs.getD i none = some b
  | .warmSourceTimeout => ∀ d, s.warm.present = true → s.warm.done = some d → d + 625000000 ≤ s.ticks → ∃ t, exec .warmSourceTimeout s = .next t ∧
      t.warm.present = false ∧ t.warm.bufs = s.warm.bufs
  | .nvmOpDone ok => ∀ r f, s.nvm.op = some ⟨.record r, f⟩ → r.kind ≠ 0 → (∀ e, s.macsecOn e = false) → ok = true →
      ∃ t, exec (.nvmOpDone ok) s = .next t ∧
      t.nvm.flash = flashWrite s.nvm.flash (jAddr s.nvm.jSect + 64 * s.nvm.jSlot) (r.bytes s.nvm.jNext s.nvm.ovr) ∧ t.nvm.jNext = nextSeq s.nvm.jNext
  | .nvmGraceTimeout => s.nvm.frozen = true → s.nvm.freezeTick + 5 * 625000 ≤ s.ticks → ∃ t, exec .nvmGraceTimeout s = .next t ∧ t.nvm.op = none ∧
      (s.flt.shutDone = true ∨ s.boot.running = false → t.pwr.vio = false)
  | .entropyHealthFailure k =>
      ∃ x : State, exec (.entropyHealthFailure k) s = .next (x.raise [⟨Fk.secSelftestFailed, fsSec, [Config.code Ev.secSelftestFailed k]⟩]) ∧
      x.sec.err = true ∧ x.sec.busy = none
  | .portEnable p => p < s.ports.length → s.portMayRun p = true → (s.port p).clock = false → exec (.portEnable p) s = .next (s.startPort p) ∧
      ((s.startPort p).port p).clock = true
  | .portBlocksStart p => p < s.ports.length → (s.port p).clock = true → (s.port p).blocks = false → (s.port p).clkTick + 6250 ≤ s.ticks →
      ∃ t, exec (.portBlocksStart p) s = .next t ∧
      t.port p = { s.port p with blocks := true, lanes := 15, blk0 := s.tb.run, markBlk := 0, busy := 0, beatTick := s.ticks }
  | .portStartTimeout p => p < s.ports.length → (s.port p).clock = true → (s.port p).up = false → (s.port p).failed = false →
      (s.port p).clkTick + 6250000 ≤ s.ticks → ∃ t, exec (.portStartTimeout p) s = .next t ∧
      t.port p = { s.port p with failed := true, downSeen := true }
  | .portRestartTimer p => p < s.ports.length → (s.port p).clock = true → (s.port p).up = false → (s.port p).failed = true → s.portMayRun p = true →
      (s.port p).clkTick + 62500000 ≤ s.ticks → exec (.portRestartTimer p) s = .next (s.startPort p)
  | .alignSend => ∀ p : Fin 16, p < s.ports.length → (∀ r, r < 16 → r ≠ (p : Nat) → (s.port r).blocks = false ∨ s.blockNow r < (s.port r).markBlk) →
      (s.port p).blocks = true → (s.port p).markBlk ≤ s.blockNow p → s.follows p = false → (s.port p).idle = false →
      ∃ t, exec .alignSend s = .next t ∧ (t.port p).markBlk = (s.port p).markBlk + 16384 ∧ (t.port p).mark = ((s.port p).mark + 1) % 65536 ∧
      t.out = s.out ++ [.chainAlign p ((s.blockLanes p).map fun k => (k, (Ctl.align k (s.inUse p) ((s.port p).sums.getD k .reset).value (nbit (s.port p).bipBad k) false (s.port p).mark).block.payload))]
  | .upAlignRx p n echo bip rt => p < s.ports.length → (s.port p).lock = true → s.follows p = false → (s.port p).up = true →
      (echo && (s.port p).marks.any fun m => m.1 == n.toNat) = true → ∃ x : State, exec (.upAlignRx p n echo bip rt) s = .next (x.takeRt0 p rt) ∧
      (x.port p).aligned = true ∧ (x.port p).missed = 0
  | .alignMissed p => p < s.ports.length → (s.port p).lock = true → (s.port p).aligned = true → (s.port p).missed + 1 < 3 →
      ∃ t, exec (.alignMissed p) s = .next t ∧ t.port p = { s.port p with missed := (s.port p).missed + 1 }
  | .upstreamLockLoss p => p < s.ports.length → (s.port p).lock = true → ∃ x : State, exec (.upstreamLockLoss p) s = .next (x.loseUp p) ∧
      ((x.loseUp p).port p).lock = false ∧ ((x.loseUp p).port p).aligned = false
  | .idleEntry p => p < s.ports.length → wbit (s.rws (Reg.portCfg p)) 8 = true → (s.port p).up = true → (s.port p).idle = false →
      (s.port p).exitBlk = none → (s.port p).cal = none → (s.port p).busy ≤ s.blockNext p → s.hasFrames p = false →
      s.idleFor p (s.idleMin p) = true → ∃ t, exec (.idleEntry p) s = .next t ∧ t.out = s.out ++ [.chainIdle p true] ∧
      t.port p = { s.port p with idle := true }
  | .idleExit p => p < s.ports.length → (s.port p).idle = true → s.hasFrames p = true ∨ s.idleFor p 1 = false → ∃ t, exec (.idleExit p) s = .next t ∧
      t.port p = { s.port p with idle := false, exitBlk := some (s.blockNext p + 64), bipBad := (s.port p).bipBad ||| 15 }
  | .chainFrameStart p => ∀ f, p < s.ports.length → s.portFree p = true →
      (let x := State.dropLate (s.modPort p fun q => { q with sending := none, queue := q.queue.filter fun f => !(s.lapStale f) }) p; firstFrame ((x.port p).queue.filter fun f => x.mayCarry p f.kind) = some f → f.kind.rank < 5 → exec (.chainFrameStart p) s = .next (State.launch (x.modPort p fun q => { q with queue := q.queue.erase f }) p f))
  | .chainTxDry p => ∀ f, p < s.ports.length → (s.port p).sending = some f → s.blockNow p < (s.port p).busy →
      ((s.port p).dry.filter fun t => !(s.past t 625000000)).length < 15 → ∃ t, exec (.chainTxDry p) s = .next t ∧ t.out = s.out ++ [.chainAbort p] ∧
      (t.port p).sending = none ∧ t.tiles = (s.unsend p f).tiles
  | .beaconSend => ∀ p : Fin 16, p < s.ports.length →
      (∀ r, r < 16 → r ≠ (p : Nat) → (s.port r).blocks = false ∨ s.ticks < (s.port r).beatTick + 59375) → (s.port p).blocks = true →
      s.portOn p = true → s.silent p = false → (s.port p).beatTick + 59375 ≤ s.ticks → exec .beaconSend s = .next (s.beacon p)
  | .calStart p => p < s.ports.length → (s.port p).up = true → (s.port p).cal = none → (s.port p).calTick ≤ s.ticks →
      ((s.port p).calStart || (s.port p).driveOk || s.standsBy p) = true → (s.port p).calNext < 5 * s.calHops p → (s.port p).calTurn.2 = 4 →
      s.tl.on = false ∨ (s.port p).calHeld ≠ some s.tl.next → s.calFree p = true → ∃ t, exec (.calStart p) s = .next t ∧
      (t.port p).cal = some ⟨(s.port p).calTurn.1, (s.port p).calTurn.2, .announced, s.blockNext p, s.ticks, false, false⟩ ∧
      t.out = s.out ++ [.chainBlock p (Ctl.upCal (s.port p).calTurn.1 64).block.payload]
  | .calDropChange p => ∀ c, p < s.ports.length → (s.port p).cal = some c → c.phase = .announced → c.blk + 64 ≤ s.blockNow p → c.aborted = false →
      ∃ t, exec (.calDropChange p) s = .next t ∧
      t.port p = { s.port p with cal := some { c with phase := .pattern, blk := s.blockNow p, tick := s.ticks }, lanes := if c.lane = 4 then (s.port p).lanes else clrBit (s.port p).lanes c.lane }
  | .calPatternEnd p eye ctle ph => ∀ c, p < s.ports.length → (s.port p).cal = some c → c.phase = .pattern → c.blk + 7758 ≤ s.blockNow p →
      c.lane ≠ 4 → ∃ t o, exec (.calPatternEnd p eye ctle ph) s = .next t ∧
      (t.port p).cal = some { c with phase := .restoring, blk := s.blockNext p, tick := s.ticks } ∧
      t.out = s.out ++ (if c.hop = 0 then [.chainTrain p (2 ^ c.lane) o] else []) ++ [.chainBlock p (Ctl.laneRestore c.lane 64).block.payload]
  | .calRestoreChange p => ∀ c, p < s.ports.length → (s.port p).cal = some c → c.phase = .restoring → c.blk + 64 ≤ s.blockNow p →
      c.aborted = true ∨ c.got = true → ∃ x : State, exec (.calRestoreChange p) s = .next (x.nextTurn p) ∧
      x.port p = (if c.lane = 4 then s.port p else { s.port p with lanes := setBit (s.port p).lanes c.lane, bipBad := setBit (s.port p).bipBad c.lane, restored := some (c.hop, c.lane) })
  | .calReportTimeout p => ∀ c, p < s.ports.length → (s.port p).cal = some c → c.phase = .waiting → c.tick + 625000 ≤ s.ticks →
      exec (.calReportTimeout p) s = .next ((s.modPort p fun q => q.setCal c.hop c.lane ⟨4, 0, 0, 0⟩).nextTurn p)
  | .statusFrameRx p l d => ∀ f, (s.port p).hears = true → UpFrame.parse s.cfg.devNum d = some f → f.kind = 0x81 →
      ∃ (ok : Bool) (x : State), (s.upLoss p l).takeSeq p f.pos (leAt d 2 2) = (ok, x) ∧
      exec (.statusFrameRx p l d) s = .next (if ok then (statusRecords 256 f.body).foldl (State.statusRecord p f.pos) x else x)
  | .censusDataRx p l d => ∀ f, (s.port p).hears = true → UpFrame.parse s.cfg.devNum d = some f → f.kind = 0x87 →
      ∃ (ok : Bool) (x : State), (s.upLoss p l).takeSeq p f.pos (leAt d 2 2) = (ok, x) ∧
      exec (.censusDataRx p l d) s = .next (if ok = false then x else if f.arg = 2 then x.enumAnswer p f.pos f.body else if f.arg = 3 then x.readAnswer p f.pos f.body else x)
  | .censusEnumTimeout p => p < s.ports.length → (s.port p).up = true → (s.port p).census.phase = .enum →
      (s.port p).censusWaits (fun f => f.arg == 2) = false → (s.port p).census.tick + 625000 ≤ s.ticks →
      exec (.censusEnumTimeout p) s = .next (s.endEnum p)
  | .censusReadTimeout p => ∀ r, p < s.ports.length → (s.port p).up = true → (s.port p).census.phase = .reading →
      (s.port p).census.reads.find? (fun r => s.past r.tick 625000 && !((s.port p).censusWaits fun f => f.arg == 3 && f.addr == r.pos && leAt f.body 0 1 == r.part && leAt f.body 4 4 == r.off)) = some r →
      r.tries < 8 → ∃ x : State, exec (.censusReadTimeout p) s = .next ((x.bump (Reg.censusRetries p)).sendRead p r true) ∧
      (x.port p).census = { (s.port p).census with reads := (s.port p).census.reads.map fun x => if x == r then { x with tries := x.tries + 1, tick := s.ticks } else x }
  | .ageAckTimeout p k => ∀ t a, p < s.ports.length → s.tile? p k = some t → t.ageOut.find? (fun a => a.sent && s.past a.tick 12500000) = some a →
      a.tries < 3 → ∃ u f, exec (.ageAckTimeout p k) s = .next u ∧ f.kind = .age ∧ f.retry = true ∧ f.body = a.body ∧
      (u.port p).queue = (s.port p).queue ++ [f]
  | .batonClaimRepeat => ∀ (p : Fin 16) (k : Nat), p < s.ports.length → (∀ r, r < 16 → r ≠ (p : Nat) → (s.port r).claim = none) →
      (s.port p).claim = some k → k + 62500 ≤ s.ticks → ((s.onPort p).all fun t => t.holder == some s.cfg.devNum) = false →
      (s.rport p).split = false → ∃ t f, exec .batonClaimRepeat s = .next t ∧ (t.port p).claim = some s.ticks ∧ f.kind = .baton ∧
      (t.port p).queue = (s.port p).queue ++ [f]
  | .relayHeartbeatSend => s.relayOn = true → s.rl.hbSend + 59375 ≤ s.ticks → ∃ t b, exec .relayHeartbeatSend s = .next t ∧ b.length = 32 ∧
      t.out = s.out ++ [.relay 0xC1 ((s.rl.txSeq + 1) % 65536) b]
  | .relayHeartbeatRx d st => ∀ b x, s.relayOn = true → s.relayTake 0xC1 d = (some b, x) →
      ∃ y : State, exec (.relayHeartbeatRx d st) s = .next (y.heard x.rl.pRole (nbit x.rl.pFlags 6) true st).relayQual ∧ y.rl.hbTick = some x.ticks ∧
      y.rl.up = true ∧ y.rl.pRole = some (Role.of (leAt b 0 1))
  | .relayLinkTimeout lanes => ∀ h, s.relayOn = true → lanes = true → s.rl.up = true → s.rl.hbTick = some h → h + 625000 ≤ s.ticks →
      exec (.relayLinkTimeout lanes) s = .next (s.relayDown s.rl.lanes)
  | .relayLinkRetrim => s.relayOn = true → s.rl.up = false → s.rl.trim = none → s.rl.downTick + 6250000 ≤ s.ticks →
      exec .relayLinkRetrim s = .next { s with rl := { s.rl with trim := some s.ticks } }
  | .relayTrimDone ok => ∀ t, s.relayOn = true → s.rl.trim = some t → t + 6250000 ≤ s.ticks →
      exec (.relayTrimDone ok) s = .next { s with rl := { s.rl with trim := none, trimBad := !ok, downTick := if ok then s.ticks else s.rl.downTick } }
  | .relayTrainSend => s.relayOn = true → s.rl.up = false → s.rl.trainSend + 625000 ≤ s.ticks →
      exec .relayTrainSend s = .next { s with rl := { s.rl with trainSend := s.ticks }, out := s.out ++ [.relayTrain] }
  | .relayTimeSend => s.relayOn = true → s.rl.timeSend + 625000 ≤ s.ticks → ∃ t b, exec .relayTimeSend s = .next t ∧
      t.out = s.out ++ [.relay 0xC2 ((s.rl.txSeq + 1) % 65536) b] ∧ b.length = 24
  | .relayTimeRx d mark age => ∀ b x, s.relayOn = true → s.relayTake 0xC2 d = (some b, x) → leAt b 0 2 = mark.toNat →
      ∃ t, exec (.relayTimeRx d mark age) s = .next t ∧
      t.rl = { x.rl with rxMark := mark.toNat, rxSplit := splitOf (x.wallAt (x.ticks - age)), measured := true, offset := (splitDiff (splitOf (x.wallAt (x.ticks - age))) (leAt b 4 5) - splitDiff (leAt b 12 5) (x.txSplit (leAt b 2 2))) / 2 }
  | .relayCueRx d => ∀ b x, s.relayTake 0xC3 d = (some b, x) → x.rl.role = .standby → x.rl.cold = false →
      exec (.relayCueRx d) s = .next (State.mirrorCue b x)
  | .relayTileRx d => ∀ b x, s.relayTake 0xC4 d = (some b, x) → x.rl.role = .standby → x.rl.cold = false →
      exec (.relayTileRx d) s = .next (x.mirrorIn (leAt b 16 4) (leAt b 14 1) (.tile (leAt b 0 1) (leAt b 1 1) (sint 16 (leAt b 2 2)) (sint 16 (leAt b 4 2)) (leAt b 6 1) [sint 16 (leAt b 8 2), sint 16 (leAt b 10 2), sint 16 (leAt b 12 2)]))
  | .relayLampRx d => ∀ b x, s.relayTake 0xC5 d = (some b, x) → x.rl.role = .standby → x.rl.cold = false →
      exec (.relayLampRx d) s = .next (x.mirrorIn (leAt b 8 4) (leAt b 6 1) (.lamp (leAt b 0 1) (leAt b 1 1) (leAt b 2 3) (leAt b 5 1)))
  | .relayFlushRx d => ∀ b x, s.relayTake 0xC6 d = (some b, x) → x.rl.role = .standby → x.rl.cold = false →
      exec (.relayFlushRx d) s = .next (x.mirrorIn (leAt b 4 4) 0 (.flush (leAt b 0 1) (leAt b 1 1)))
  | .relaySigsRx d => ∀ b x, s.relayTake 0xC7 d = (some b, x) → x.rl.role = .standby → x.rl.cold = false →
      exec (.relaySigsRx d) s = .next ((List.range (min (leAt b 6 2) ((b.length - 8) / 8))).foldl (fun s i => match s.ownPlace (leAt b 5 1) (leAt b (8 + 8 * i) 1) with | some (p, q) => s.compareLine (leAt b 0 4) (leAt b 4 1) p q (leAt b (9 + 8 * i) 1) (leAt b (12 + 8 * i) 4) | none => s) x)
  | .relayDelaysRx d => ∀ b x, s.relayTake 0xC8 d = (some b, x) → x.rl.role = .standby → x.rl.cold = false →
      exec (.relayDelaysRx d) s = .next ((idxs 16 fun p => ((x.modRport (leAt b 0 1) fun r => { r with deltas := (List.range (min 33 (leAt b 1 1 + 1))).map fun h => leAt b (4 + 2 * h) 2 }).rport p).paired && ((x.modRport (leAt b 0 1) fun r => { r with deltas := (List.range (min 33 (leAt b 1 1 + 1))).map fun h => leAt b (4 + 2 * h) 2 }).rport p).partner == leAt b 0 1).foldl State.applyDeltas (x.modRport (leAt b 0 1) fun r => { r with deltas := (List.range (min 33 (leAt b 1 1 + 1))).map fun h => leAt b (4 + 2 * h) 2 }))
  | .relayCensusReadyRx d => ∀ b x, s.relayTake 0xC9 d = (some b, x) → x.rl.role = .standby → x.rl.cold = false →
      exec (.relayCensusReadyRx d) s = .next ((x.modRport (leAt b 0 1) fun r => { r with ready := some (leAt b 1 1), places := r.places.filter fun x => x.1 < leAt b 1 1 }).startShared).judgePairs
  | .relayPlaceRx d => ∀ b x, s.relayTake 0xCB d = (some b, x) → x.rl.role = .standby → x.rl.cold = false →
      exec (.relayPlaceRx d) s = .next (x.modRport (leAt b 0 1) fun r => { r with places := (r.places.filter (·.1 != leAt b 1 1)) ++ [(leAt b 1 1, (List.range 7).map fun i => Word.of (leAt b (8 + 4 * i) 4))] }).judgePairs
  | .relayHandoverRx d => ∀ b x, s.relayTake 0xCA d = (some b, x) → leAt b 0 1 = 1 → x.rl.role = .standby ∨ x.rl.role = .solo →
      exec (.relayHandoverRx d) s = .next (x.claimAll (maskOf ((List.range 16).map fun p => (x.rport p).paired && nbit (leAt b 2 2) (x.rport p).partner)))
  | .partnerBeaconRx p d => ∀ b x, s.relayOn = true → s.shared p = true → (s.port p).hears = true → beaconBody s.partnerDev d = some b →
      s.takeSeq p 32 (leAt d 2 2) = (true, x) → s.rl.role = .pairing ∨ (s.rport p).paired = true →
      ∃ y u : State, exec (.partnerBeaconRx p d) s = .next (u.startWaiting p) ∧
      (u = y.heard x.rl.pRole (nbit x.rl.pFlags 6) false false ∨ u = (y.heard x.rl.pRole (nbit x.rl.pFlags 6) false false).fault Fk.relayLinkDown fsRelay []) ∧
      y.rl.bcTick = some s.ticks ∧ y.rl.miss = setAt s.rl.miss 1 0 ∧ y.rl.pRole = some (Role.of (leAt b 4 1)) ∧ y.rl.pFlags = leAt b 5 1
  | .heartbeatPathMiss chain => s.relayOn = true → s.rl.hbTick.isSome = true ∨ s.rl.bcTick.isSome = true →
      s.rl.missRef.getD (b2n chain) 0 + 65625 < s.ticks →
      ∃ x : State, exec (.heartbeatPathMiss chain) s = .next (if 3 ≤ x.rl.miss.getD 0 0 ∧ 3 ≤ x.rl.miss.getD 1 0 then x.losePartner 1 else x) ∧
      x.rl.miss = modAt s.rl.miss (b2n chain) (· + 1)
  | .pairingTimeout => s.rl.role = .pairing → s.tl.on = true → s.rl.sb3Tick + 62500000 ≤ s.ticks → s.rl.hbTick = none → s.rl.bcTick = none →
      ∃ t, exec .pairingTimeout s = .next t ∧ t.rl = { s.rl with role := .solo, fit := true }
  | .handoverSilenceEnd => ∀ r, s.rl.release = some r → r.tick + 250000 ≤ s.ticks → ((idxs 16 (nbit r.mask)).any fun p => 0 < s.heldOn p) = false →
      ∃ x : State, exec .handoverSilenceEnd s = .next ((List.range 16).foldl State.judgeSplit x) ∧
      x.rl = { s.rl with release := none, role := .standby, cold := false, fit := !(s.boot.stage == 7 || s.flt.hold != .none) }
  | .mendTimer => ∀ t, s.rl.mendTick = some t → wfld (s.rws Reg.relayCfg) 7 0 ≠ 0 → t + wfld (s.rws Reg.relayCfg) 7 0 * 625000000 ≤ s.ticks →
      exec .mendTimer s = .next s.mend
  | .hkSlot r => s.slotDue = true → s.hk.slot = 12 ∨ s.hk.slot = 13 → s.hk.chans.length = 16 → supplyOut s.hk.slot r.raw = false →
      ∃ t, exec (.hkSlot r) s = .next t ∧ t.hk.slot = s.hk.slot + 1 ∧ (t.hk.chan s.hk.slot).value = r.raw
  | .shutdownClockStop => ∀ t0, s.flt.shutTick = some t0 → s.flt.shutDone = false → t0 + 125000 ≤ s.ticks →
      ∃ t, exec .shutdownClockStop s = .next t ∧ t.flt.shutDone = true ∧ t.pwr.shdn = true ∧ t.pwr.vcore = false
  | .feedPresent b => ∃ t, exec (.feedPresent b) s = .next t ∧ (if b then t.pwr.feedB else t.pwr.feedA) = true ∧ t.pwr.pwrgd = s.tb.refClk
  | .feedAbsent b => ∃ t, exec (.feedAbsent b) s = .next t ∧ (if b then t.pwr.feedB else t.pwr.feedA) = false ∧
      ((if b then s.pwr.feedA else s.pwr.feedB) = false → t.pwr.pwrgd = false)
  | .powerLoss => s.pwr.feedA = false → s.pwr.feedB = false → ∃ t, exec .powerLoss s = .next t ∧ t.boot = State.reset.boot ∧
      t.regs = State.reset.regs ∧ t.fuses = s.fuses
  | .upstreamBlockLock p => p < s.ports.length → (s.port p).clock = true → (s.port p).lock = false →
      (s.port p).lockSt = .hunt ∨ (∃ n : Fin 64, (s.port p).lockSt = .test n) → ∃ t, exec (.upstreamBlockLock p) s = .next t ∧ (t.port p).lock = true
  | .refClkStart => ∃ t, exec .refClkStart s = .next t ∧ t.tb.refClk = true ∧ t.pwr.pwrgd = (s.pwr.feedA || s.pwr.feedB)
  | .debugTapAccess (.trst b) => b = false → ∃ t, exec (.debugTapAccess (.trst b)) s = .next t ∧ t.pwr = { s.pwr with trstN := false, tapIr := 0 }
  | .debugTapAccess .ident => s.pwr.trstN = true → ∃ t, exec (.debugTapAccess .ident) s = .next t ∧ t.pwr = { s.pwr with tapIr := tapIdent }
  | .debugTapAccess (.scan pins) => s.pwr.trstN = true → ∃ t, exec (.debugTapAccess (.scan pins)) s = .next t ∧
      t.pwr = { s.pwr with tapIr := tapScan } ∧ t.out = s.out ++ [Output.tap pins]
  | .debugTapAccess .other => s.pwr.trstN = true → s.sec.scope ≠ 0 → exec (.debugTapAccess .other) s = .refused .debugInstruction
end

