-- ==== Sys2Proof/Laws/Queues.lean ====
section
/-! SUPPORT. The queues of the marshal: a record put into its place keeps them in the order of R375 and within their room. -/

namespace Sys2Proof.Machine

/-- The order of R375 spelled out. -/
theorem EvtRec.ahead_iff (a b : EvtRec) : a.ahead b = true ↔ a.tick < b.tick ∨ a.tick = b.tick ∧
    ((!a.fast).toNat < (!b.fast).toNat ∨ (!a.fast).toNat = (!b.fast).toNat ∧ (a.src < b.src ∨ a.src = b.src ∧ a.code < b.code)) := by
  unfold EvtRec.ahead
  by_cases h1 : a.tick = b.tick <;> by_cases h2 : a.src = b.src <;> cases a.fast <;> cases b.fast <;> simp [h1, h2]

theorem EvtRec.ahead_asymm {r x : EvtRec} (h : r.ahead x = true) : x.ahead r = false := by
  rw [← Bool.not_eq_true]
  rw [EvtRec.ahead_iff] at *
  omega

theorem EvtRec.ahead_trans {r x y : EvtRec} (h1 : x.ahead r = false) (h2 : y.ahead x = false) : y.ahead r = false := by
  rw [← Bool.not_eq_true] at *
  rw [EvtRec.ahead_iff] at *
  omega

/-- A record queued before another does not come after it in the order of R375, and one not queued before it does not come ahead. -/
theorem EvtRec.ahead_of_before {r x : EvtRec} (h : r.before x = true) : x.ahead r = false := by
  unfold EvtRec.before at h
  rcases Bool.or_eq_true .. ▸ h with h | h
  · exact EvtRec.ahead_asymm h
  · simp only [Bool.and_eq_true, Bool.not_eq_true'] at h
    exact h.1.1

theorem EvtRec.ahead_of_not_before {r x : EvtRec} (h : ¬ r.before x = true) : r.ahead x = false := by
  unfold EvtRec.before at h
  simp only [Bool.or_eq_true, not_or, Bool.not_eq_true] at h
  exact h.1

theorem insertRec_length (r : EvtRec) (l : List EvtRec) : (insertRec r l).length = l.length + 1 := by
  induction l with
  | nil => rfl
  | cons x xs ih =>
    unfold insertRec
    split
    · rfl
    · simp [ih]

theorem mem_insertRec {r y : EvtRec} {l : List EvtRec} : y ∈ insertRec r l → y = r ∨ y ∈ l := by
  induction l with
  | nil => simp [insertRec]
  | cons x xs ih =>
    unfold insertRec
    split
    · simp
    · intro h
      rcases List.mem_cons.1 h with h | h
      · exact .inr (by simp [h])
      · rcases ih h with h | h
        · exact .inl h
        · exact .inr (.tail _ h)

/-- A record put into its place keeps a queue in order. -/
theorem insertRec_inOrder {r : EvtRec} {l : List EvtRec} (h : inOrder l) : inOrder (insertRec r l) := by
  induction l with
  | nil => exact List.pairwise_singleton ..
  | cons x xs ih =>
    have hx := List.pairwise_cons.1 h
    unfold insertRec
    split
    · rename_i hb
      refine List.pairwise_cons.2 ⟨fun y hy => ?_, h⟩
      rcases List.mem_cons.1 hy with rfl | hy
      · exact EvtRec.ahead_of_before hb
      · exact EvtRec.ahead_trans (EvtRec.ahead_of_before hb) (hx.1 y hy)
    · rename_i hb
      refine List.pairwise_cons.2 ⟨fun y hy => ?_, ih hx.2⟩
      rcases mem_insertRec hy with rfl | hy
      · exact EvtRec.ahead_of_not_before hb
      · exact hx.1 y hy

/-- A core's queues changed by a function that keeps them in order keep the marshal's. -/
theorem Evt.Ordered.modCores {e : Evt} {c : Nat} {f : CoreQ → CoreQ} (h : e.Ordered)
    (hf : ∀ q ∈ e.cores, e.core c = q → inOrder (f q).normal ∧ (f q).normal.length ≤ 64 ∧ inOrder (f q).fast ∧ (f q).fast.length ≤ 16) :
    Evt.Ordered { e with cores := modAt e.cores c f } := by
  refine ⟨h.1, ⟨h.2.1.1, (List.length_modify ..).trans h.2.1.2⟩, fun q hq => ?_⟩
  obtain ⟨i, hi, rfl⟩ := List.getElem_of_mem hq
  simp only [modAt, List.length_modify] at hi
  simp only [modAt, List.getElem_modify]
  split
  · rename_i hc
    subst hc
    refine hf _ (List.getElem_mem hi) ?_
    simp [Evt.core, List.getD_eq_getElem?_getD, hi]
  · exact h.2.2 _ (List.getElem_mem hi)

theorem Evt.Ordered.core {e : Evt} (h : e.Ordered) (c : Nat) : inOrder (e.core c).normal ∧ (e.core c).normal.length ≤ 64 ∧
    inOrder (e.core c).fast ∧ (e.core c).fast.length ≤ 16 := by
  by_cases hc : c < e.cores.length
  · have : e.core c = e.cores[c] := by simp [Evt.core, List.getD_eq_getElem?_getD, hc]
    rw [this]
    exact h.2.2 _ (List.getElem_mem hc)
  · have : e.core c = .reset := by simp [Evt.core, List.getD_eq_getElem?_getD, hc]
    rw [this]
    exact ⟨List.Pairwise.nil, Nat.zero_le _, List.Pairwise.nil, Nat.zero_le _⟩

theorem Evt.toHost_ordered {e c r} (h : e.Ordered) : (Evt.toHost e c r).1.Ordered := by
  unfold Evt.toHost
  split
  · rename_i hl
    exact ⟨insertRec_inOrder h.1, ⟨by rw [insertRec_length]; omega, h.2.1.2⟩, h.2.2⟩
  · exact ⟨(insertRec_inOrder h.1).sublist (List.take_sublist ..), ⟨List.length_take_le .., h.2.1.2⟩, h.2.2⟩

theorem Evt.toCore_ordered {e c k st r} (h : e.Ordered) : (Evt.toCore e c k st r).1.Ordered := by
  have hq := h.core k
  unfold Evt.toCore
  dsimp only
  split
  · rename_i hl
    refine h.modCores fun q _ he => ?_
    unfold CoreQ.setQueue CoreQ.queue queueCap at *
    have hqe := h.core k
    subst he
    split
    · rename_i hf
      simp only [hf, if_true] at *
      exact ⟨hqe.1, hqe.2.1, insertRec_inOrder hqe.2.2.1, by rw [insertRec_length]; omega⟩
    · rename_i hf
      simp only [hf, Bool.false_eq_true, if_false] at *
      exact ⟨insertRec_inOrder hqe.1, by rw [insertRec_length]; omega, hqe.2.2⟩
  · exact h.modCores fun q hq _ => h.2.2 q hq

theorem Evt.post_ordered {route core k e c r} (h : e.Ordered) : (Evt.post route core k e c r).1.Ordered := by
  induction k generalizing e c r with
  | zero => exact h
  | succ k ih =>
    unfold Evt.post
    extract_lets +onlyGivenNames -merge -useContext -underBinder w
    have h1 : (if wbit w 6 = true then e.toHost c r else (e, c)).1.Ordered := by
      split
      · exact Evt.toHost_ordered h
      · exact h
    generalize (if wbit w 6 = true then e.toHost c r else (e, c)) = a at h1 ⊢
    obtain ⟨e1, c1⟩ := a
    dsimp only at h1 ⊢
    split
    · exact h1
    · generalize (if (wfld w 1 0 != 0 && coreSt (core (wfld w 1 0)) == 3) = true then cntAdd c1 Reg.evtRedirected 1 else c1) = c2
      generalize he2 : (if (wfld w 1 0 != 0 && coreSt (core (wfld w 1 0)) == 3) = true then
        ({ e1 with cores := modAt e1.cores (wfld w 1 0) fun q => { q with redirect := true } } : Evt) else e1) = e2
      have h2 : e2.Ordered := by
        subst he2
        split
        · exact h1.modCores fun q hq _ => h1.2.2 q hq
        · exact h1
      generalize (if (wfld w 1 0 != 0 && coreSt (core (wfld w 1 0)) == 3) = true then 0 else wfld w 1 0) = k2
      have h3 := @Evt.toCore_ordered e2 c2 k2 (coreSt (core k2)) r h2
      generalize Evt.toCore e2 c2 k2 (coreSt (core k2)) r = a at h3 ⊢
      obtain ⟨e3, c3, o⟩ := a
      dsimp only at h3 ⊢
      have h4 : ∀ b : Bool, (if b = true then Evt.post route core k e3 c3
          (r.child Ev.evtRedirectBegan route [Word.of (wfld w 1 0)]) else (e3, c3)).1.Ordered := by
        intro b
        split
        · exact ih h3
        · exact h3
      split
      · exact ih (h4 _)
      · exact h4 _

theorem Evt.post_eq_ordered {route core k e c r e' c'} (he : Evt.post route core k e c r = (e', c')) (h : e.Ordered) : e'.Ordered := by
  have hw := @Evt.post_ordered route core k e c r h
  rw [he] at hw
  exact hw

/-- Records changed or taken out leave the queues in order if what R375 orders by stays. -/
theorem filterMap_inOrder {l : List EvtRec} {g : EvtRec → Option EvtRec}
    (hg : ∀ r r', g r = some r' → r'.tick = r.tick ∧ r'.fast = r.fast ∧ r'.src = r.src ∧ r'.code = r.code) (h : inOrder l) :
    inOrder (l.filterMap g) := by
  refine List.Pairwise.filterMap g (fun a b hab a' ha b' hb => ?_) h
  obtain ⟨p1, p2, p3, p4⟩ := hg _ _ ha
  obtain ⟨q1, q2, q3, q4⟩ := hg _ _ hb
  unfold EvtRec.ahead at *
  rw [p1, p2, p3, p4, q1, q2, q3, q4]
  exact hab

theorem Evt.editQueued_ordered {e : Evt} {g : EvtRec → Option EvtRec}
    (hg : ∀ r r', g r = some r' → r'.tick = r.tick ∧ r'.fast = r.fast ∧ r'.src = r.src ∧ r'.code = r.code) (h : e.Ordered) :
    (e.editQueued g).Ordered := by
  refine ⟨filterMap_inOrder hg h.1, ⟨Nat.le_trans (List.length_filterMap_le ..) h.2.1.1, (List.length_map ..).trans h.2.1.2⟩,
    fun q' hq' => ?_⟩
  obtain ⟨q, hq, rfl⟩ := List.mem_map.1 hq'
  obtain ⟨h1, h2, h3, h4⟩ := h.2.2 q hq
  exact ⟨filterMap_inOrder hg h1, Nat.le_trans (List.length_filterMap_le ..) h2, filterMap_inOrder hg h3,
    Nat.le_trans (List.length_filterMap_le ..) h4⟩

theorem Evt.raisedUp_ordered {e : Evt} {t q : Nat} (h : e.Ordered) : (e.raisedUp t q).Ordered := by
  refine Evt.editQueued_ordered (fun r r' hr => ?_) h
  simp only [Option.some.injEq] at hr
  subst hr
  split <;> exact ⟨rfl, rfl, rfl, rfl⟩

theorem Evt.reset_ordered : Evt.reset.Ordered := by
  refine ⟨List.Pairwise.nil, ⟨Nat.zero_le _, rfl⟩, fun q hq => ?_⟩
  rw [List.eq_of_mem_replicate hq]
  exact ⟨List.Pairwise.nil, Nat.zero_le _, List.Pairwise.nil, Nat.zero_le _⟩

end Sys2Proof.Machine
end

