-- ==== Sys2Proof/Laws/Sparse.lean ====
section
/-! SUPPORT. Sparse stores: reading after writing, and that every writing operation keeps the canonical form. -/

namespace Sys2Proof.Machine

variable {w : Nat} {d : Nat → BitVec w}

/-- The canonical form said about one entry and the rest: the rest is canonical, and its keys lie above. -/
theorem Sparse.wf_cons (k : Nat) (v : BitVec w) (r : List (Nat × BitVec w)) :
    Sparse.wf d ((k, v) :: r) = true ↔ v ≠ d k ∧ (∀ e ∈ r, k < e.1) ∧ Sparse.wf d r = true := by
  induction r generalizing k v with
  | nil => simp [Sparse.wf]
  | cons e r ih =>
    obtain ⟨k', v'⟩ := e
    have h := ih k' v'
    simp only [Sparse.wf, Bool.and_eq_true, bne_iff_ne, decide_eq_true_eq, List.mem_cons, forall_eq_or_imp]
    refine ⟨fun ⟨⟨h1, h2⟩, h3⟩ => ⟨h1, ⟨h2, fun e he => Nat.lt_trans h2 ((h.1 h3).2.1 e he)⟩, h3⟩,
      fun ⟨h1, ⟨h2, _⟩, h3⟩ => ⟨⟨h1, h2⟩, h3⟩⟩

theorem Sparse.wf_nil : Sparse.wf d [] = true := rfl

/-- Every key of a written store was there or is the one written. -/
theorem Sparse.mem_set {l : List (Nat × BitVec w)} {k : Nat} {v : BitVec w} {e : Nat × BitVec w}
    (h : e ∈ Sparse.set d l k v) : e ∈ l ∨ e.1 = k := by
  induction l with
  | nil =>
    simp only [Sparse.set] at h
    split at h <;> simp_all
  | cons x r ih =>
    obtain ⟨a, y⟩ := x
    simp only [Sparse.set] at h
    split at h
    · rcases List.mem_cons.1 h with h | h
      · exact .inl (h ▸ List.mem_cons_self)
      · exact (ih h).imp (List.mem_cons_of_mem _) id
    · split at h
      · split at h
        · exact .inl (List.mem_cons_of_mem _ h)
        · rcases List.mem_cons.1 h with h | h
          · exact .inr (h ▸ rfl)
          · exact .inl (List.mem_cons_of_mem _ h)
      · split at h
        · exact .inl h
        · rcases List.mem_cons.1 h with h | h
          · exact .inr (h ▸ rfl)
          · exact .inl h

/-- Writing keeps the canonical form. -/
theorem Sparse.set_wf {l : List (Nat × BitVec w)} (k : Nat) (v : BitVec w) (h : Sparse.wf d l = true) :
    Sparse.wf d (Sparse.set d l k v) = true := by
  induction l with
  | nil =>
    simp only [Sparse.set]
    split
    · rfl
    · simp_all [Sparse.wf]
  | cons x r ih =>
    obtain ⟨a, y⟩ := x
    obtain ⟨h1, h2, h3⟩ := (Sparse.wf_cons a y r).1 h
    simp only [Sparse.set]
    split
    · rename_i hak
      refine (Sparse.wf_cons _ _ _).2 ⟨h1, fun e he => ?_, ih h3⟩
      rcases Sparse.mem_set he with he | he
      · exact h2 e he
      · exact he ▸ hak
    · split
      · rename_i hak
        split
        · exact h3
        · rename_i hv
          exact (Sparse.wf_cons _ _ _).2 ⟨hv, fun e he => hak ▸ h2 e he, h3⟩
      · split
        · exact h
        · rename_i hle hne hv
          have hlt : k < a := by omega
          refine (Sparse.wf_cons _ _ _).2 ⟨hv, fun e he => ?_, h⟩
          rcases List.mem_cons.1 he with he | he
          · exact he ▸ hlt
          · exact Nat.lt_trans hlt (h2 e he)

/-- Reading the key just written. -/
theorem Sparse.get_set_same {l : List (Nat × BitVec w)} (k : Nat) (v : BitVec w) (h : Sparse.wf d l = true) :
    Sparse.get d (Sparse.set d l k v) k = v := by
  have absent : ∀ r : List (Nat × BitVec w), (∀ e ∈ r, e.1 ≠ k) → Sparse.get d r k = d k := by
    intro r hr
    induction r with
    | nil => rfl
    | cons e r ih =>
      have h0 := hr e List.mem_cons_self
      simp only [Sparse.get, h0, if_false]
      exact ih fun e he => hr e (List.mem_cons_of_mem _ he)
  induction l with
  | nil =>
    simp only [Sparse.set]
    split <;> simp_all [Sparse.get]
  | cons x r ih =>
    obtain ⟨a, y⟩ := x
    obtain ⟨-, h2, h3⟩ := (Sparse.wf_cons a y r).1 h
    simp only [Sparse.set]
    split
    · rename_i hak
      have : a ≠ k := by omega
      simp only [Sparse.get, this, if_false]
      exact ih h3
    · split
      · rename_i hak
        split
        · rename_i hv
          rw [hv]
          exact absent r fun e he => by have := h2 e he; omega
        · simp [Sparse.get]
      · split
        · rename_i hv
          rw [hv]
          refine absent _ fun e he => ?_
          rcases List.mem_cons.1 he with he | he
          · subst he; simpa using ‹¬a = k›
          · have := h2 e he; omega
        · simp [Sparse.get]

/-- Reading another key. -/
theorem Sparse.get_set_other {l : List (Nat × BitVec w)} (k : Nat) (v : BitVec w) {k' : Nat} (hk : k' ≠ k)
    (h : Sparse.wf d l = true) : Sparse.get d (Sparse.set d l k v) k' = Sparse.get d l k' := by
  induction l with
  | nil =>
    simp only [Sparse.set]
    split
    · rfl
    · simp [Sparse.get, hk.symm]
  | cons x r ih =>
    obtain ⟨a, y⟩ := x
    obtain ⟨-, h2, h3⟩ := (Sparse.wf_cons a y r).1 h
    simp only [Sparse.set]
    split
    · simp only [Sparse.get, ih h3]
    · split
      · rename_i hak
        have : a ≠ k' := fun h => hk (by omega)
        split
        · simp [Sparse.get, this]
        · simp [Sparse.get, this, hk.symm]
      · split
        · rfl
        · simp [Sparse.get, hk.symm]

theorem Sparse.setList_wf {l : List (Nat × BitVec w)} (k : Nat) (vs : List (BitVec w)) (h : Sparse.wf d l = true) :
    Sparse.wf d (Sparse.setList d l k vs) = true := by
  induction vs generalizing l k with
  | nil => exact h
  | cons v vs ih => exact ih (k + 1) (Sparse.set_wf k v h)

theorem Sparse.filter_wf {l : List (Nat × BitVec w)} (p : Nat × BitVec w → Bool) (h : Sparse.wf d l = true) :
    Sparse.wf d (l.filter p) = true := by
  induction l with
  | nil => rfl
  | cons x r ih =>
    obtain ⟨a, y⟩ := x
    obtain ⟨h1, h2, h3⟩ := (Sparse.wf_cons a y r).1 h
    rw [List.filter_cons]
    split
    · exact (Sparse.wf_cons _ _ _).2 ⟨h1, fun e he => h2 e ((List.mem_filter.1 he).1), ih h3⟩
    · exact ih h3

theorem Sparse.foldl_wf {α : Type} {l : List (Nat × BitVec w)} (f : List (Nat × BitVec w) → α → List (Nat × BitVec w)) (xs : List α)
    (hf : ∀ m x, Sparse.wf d m = true → Sparse.wf d (f m x) = true) (h : Sparse.wf d l = true) :
    Sparse.wf d (xs.foldl f l) = true := by
  induction xs generalizing l with
  | nil => exact h
  | cons x xs ih => exact ih (hf l x h)

theorem hbmWriteList_wf {m : List (Nat × BitVec 9)} (a : Nat) (bs : List Byte) (h : Sparse.wf (fun _ => 0#9) m = true) :
    Sparse.wf (fun _ => 0#9) (hbmWriteList m a bs) = true := by
  induction bs generalizing m a with
  | nil => exact h
  | cons b bs ih => exact ih (a + 1) (Sparse.set_wf _ _ h)

theorem flashWrite_wf {m : List (Nat × Byte)} (a : Nat) (bs : List Byte) (h : Sparse.wf erased m = true) :
    Sparse.wf erased (flashWrite m a bs) = true := Sparse.setList_wf a bs h

theorem flashErase_wf {m : List (Nat × Byte)} (a n : Nat) (h : Sparse.wf erased m = true) :
    Sparse.wf erased (flashErase m a n) = true := Sparse.filter_wf _ h

theorem Nvm.jTurn_wf {n : Nvm} (h : Sparse.wf erased n.flash = true) : Sparse.wf erased n.jTurn.flash = true := by
  unfold Nvm.jTurn
  split <;> exact h

theorem Nvm.jWipe_wf {n : Nvm} {k : Nat} (h : Sparse.wf erased n.flash = true) : Sparse.wf erased (n.jWipe k).flash = true :=
  flashErase_wf _ _ h

theorem Nvm.scan_wf {n : Nvm} (h : Sparse.wf erased n.flash = true) : Sparse.wf erased n.scan.flash = true := h

end Sys2Proof.Machine
end

