-- ==== Sys2Proof/Laws/State.lean ====
section
/-! SUPPORT. One lemma for each field of the state and each named update: what the update leaves, and what a read gives after it. -/

namespace Sys2Proof.Machine

theorem getD_modAt {α : Type} (l : List α) (i j : Nat) (f : α → α) (d : α) :
    (modAt l i f).getD j d = if i = j ∧ j < l.length then f (l.getD j d) else l.getD j d := by
  unfold modAt
  rw [List.getD_eq_getElem?_getD, List.getD_eq_getElem?_getD, List.getElem?_modify]
  by_cases h : j < l.length
  · by_cases hij : i = j
    · simp [h, hij]
    · simp [h, hij]
  · simp [h]

theorem length_modAt {α : Type} (l : List α) (i : Nat) (f : α → α) : (modAt l i f).length = l.length := by
  unfold modAt
  exact List.length_modify ..

/- setRws -/
@[simp] theorem State.setRws_variant (s : State) (o : Nat) (w : Word) : (s.setRws o w).variant = s.variant := rfl
@[simp] theorem State.setRws_evt (s : State) (o : Nat) (w : Word) : (s.setRws o w).evt = s.evt := rfl
@[simp] theorem State.setRws_flt (s : State) (o : Nat) (w : Word) : (s.setRws o w).flt = s.flt := rfl
@[simp] theorem State.setRws_hk (s : State) (o : Nat) (w : Word) : (s.setRws o w).hk = s.hk := rfl
@[simp] theorem State.setRws_boot (s : State) (o : Nat) (w : Word) : (s.setRws o w).boot = s.boot := rfl
@[simp] theorem State.setRws_nvm (s : State) (o : Nat) (w : Word) : (s.setRws o w).nvm = s.nvm := rfl
@[simp] theorem State.setRws_fuses (s : State) (o : Nat) (w : Word) : (s.setRws o w).fuses = s.fuses := rfl
@[simp] theorem State.setRws_sec (s : State) (o : Nat) (w : Word) : (s.setRws o w).sec = s.sec := rfl
@[simp] theorem State.setRws_cfg (s : State) (o : Nat) (w : Word) : (s.setRws o w).cfg = s.cfg := rfl
@[simp] theorem State.setRws_tb (s : State) (o : Nat) (w : Word) : (s.setRws o w).tb = s.tb := rfl
@[simp] theorem State.setRws_tl (s : State) (o : Nat) (w : Word) : (s.setRws o w).tl = s.tl := rfl
@[simp] theorem State.setRws_sc (s : State) (o : Nat) (w : Word) : (s.setRws o w).sc = s.sc := rfl
@[simp] theorem State.setRws_warm (s : State) (o : Nat) (w : Word) : (s.setRws o w).warm = s.warm := rfl
@[simp] theorem State.setRws_ports (s : State) (o : Nat) (w : Word) : (s.setRws o w).ports = s.ports := rfl
@[simp] theorem State.setRws_tiles (s : State) (o : Nat) (w : Word) : (s.setRws o w).tiles = s.tiles := rfl
@[simp] theorem State.setRws_net (s : State) (o : Nat) (w : Word) : (s.setRws o w).net = s.net := rfl
@[simp] theorem State.setRws_host (s : State) (o : Nat) (w : Word) : (s.setRws o w).host = s.host := rfl
@[simp] theorem State.setRws_mem (s : State) (o : Nat) (w : Word) : (s.setRws o w).mem = s.mem := rfl
@[simp] theorem State.setRws_fab (s : State) (o : Nat) (w : Word) : (s.setRws o w).fab = s.fab := rfl
@[simp] theorem State.setRws_rl (s : State) (o : Nat) (w : Word) : (s.setRws o w).rl = s.rl := rfl
@[simp] theorem State.setRws_pwr (s : State) (o : Nat) (w : Word) : (s.setRws o w).pwr = s.pwr := rfl
@[simp] theorem State.setRws_ticks (s : State) (o : Nat) (w : Word) : (s.setRws o w).ticks = s.ticks := rfl
@[simp] theorem State.setRws_free (s : State) (o : Nat) (w : Word) : (s.setRws o w).free = s.free := rfl
@[simp] theorem State.setRws_out (s : State) (o : Nat) (w : Word) : (s.setRws o w).out = s.out := rfl
@[simp] theorem State.setRws_pending (s : State) (o : Nat) (w : Word) : (s.setRws o w).pending = s.pending := rfl

/- setRw -/
@[simp] theorem State.setRw_variant (s : State) (o : Nat) (w : Word) : (s.setRw o w).variant = s.variant := rfl
@[simp] theorem State.setRw_evt (s : State) (o : Nat) (w : Word) : (s.setRw o w).evt = s.evt := rfl
@[simp] theorem State.setRw_flt (s : State) (o : Nat) (w : Word) : (s.setRw o w).flt = s.flt := rfl
@[simp] theorem State.setRw_hk (s : State) (o : Nat) (w : Word) : (s.setRw o w).hk = s.hk := rfl
@[simp] theorem State.setRw_boot (s : State) (o : Nat) (w : Word) : (s.setRw o w).boot = s.boot := rfl
@[simp] theorem State.setRw_nvm (s : State) (o : Nat) (w : Word) : (s.setRw o w).nvm = s.nvm := rfl
@[simp] theorem State.setRw_fuses (s : State) (o : Nat) (w : Word) : (s.setRw o w).fuses = s.fuses := rfl
@[simp] theorem State.setRw_sec (s : State) (o : Nat) (w : Word) : (s.setRw o w).sec = s.sec := rfl
@[simp] theorem State.setRw_cfg (s : State) (o : Nat) (w : Word) : (s.setRw o w).cfg = s.cfg := rfl
@[simp] theorem State.setRw_tb (s : State) (o : Nat) (w : Word) : (s.setRw o w).tb = s.tb := rfl
@[simp] theorem State.setRw_tl (s : State) (o : Nat) (w : Word) : (s.setRw o w).tl = s.tl := rfl
@[simp] theorem State.setRw_sc (s : State) (o : Nat) (w : Word) : (s.setRw o w).sc = s.sc := rfl
@[simp] theorem State.setRw_warm (s : State) (o : Nat) (w : Word) : (s.setRw o w).warm = s.warm := rfl
@[simp] theorem State.setRw_ports (s : State) (o : Nat) (w : Word) : (s.setRw o w).ports = s.ports := rfl
@[simp] theorem State.setRw_tiles (s : State) (o : Nat) (w : Word) : (s.setRw o w).tiles = s.tiles := rfl
@[simp] theorem State.setRw_net (s : State) (o : Nat) (w : Word) : (s.setRw o w).net = s.net := rfl
@[simp] theorem State.setRw_host (s : State) (o : Nat) (w : Word) : (s.setRw o w).host = s.host := rfl
@[simp] theorem State.setRw_mem (s : State) (o : Nat) (w : Word) : (s.setRw o w).mem = s.mem := rfl
@[simp] theorem State.setRw_fab (s : State) (o : Nat) (w : Word) : (s.setRw o w).fab = s.fab := rfl
@[simp] theorem State.setRw_rl (s : State) (o : Nat) (w : Word) : (s.setRw o w).rl = s.rl := rfl
@[simp] theorem State.setRw_pwr (s : State) (o : Nat) (w : Word) : (s.setRw o w).pwr = s.pwr := rfl
@[simp] theorem State.setRw_ticks (s : State) (o : Nat) (w : Word) : (s.setRw o w).ticks = s.ticks := rfl
@[simp] theorem State.setRw_free (s : State) (o : Nat) (w : Word) : (s.setRw o w).free = s.free := rfl
@[simp] theorem State.setRw_out (s : State) (o : Nat) (w : Word) : (s.setRw o w).out = s.out := rfl
@[simp] theorem State.setRw_pending (s : State) (o : Nat) (w : Word) : (s.setRw o w).pending = s.pending := rfl

/- bumpN -/
@[simp] theorem State.bumpN_variant (s : State) (o n : Nat) : (s.bumpN o n).variant = s.variant := rfl
@[simp] theorem State.bumpN_evt (s : State) (o n : Nat) : (s.bumpN o n).evt = s.evt := rfl
@[simp] theorem State.bumpN_flt (s : State) (o n : Nat) : (s.bumpN o n).flt = s.flt := rfl
@[simp] theorem State.bumpN_hk (s : State) (o n : Nat) : (s.bumpN o n).hk = s.hk := rfl
@[simp] theorem State.bumpN_boot (s : State) (o n : Nat) : (s.bumpN o n).boot = s.boot := rfl
@[simp] theorem State.bumpN_nvm (s : State) (o n : Nat) : (s.bumpN o n).nvm = s.nvm := rfl
@[simp] theorem State.bumpN_fuses (s : State) (o n : Nat) : (s.bumpN o n).fuses = s.fuses := rfl
@[simp] theorem State.bumpN_sec (s : State) (o n : Nat) : (s.bumpN o n).sec = s.sec := rfl
@[simp] theorem State.bumpN_cfg (s : State) (o n : Nat) : (s.bumpN o n).cfg = s.cfg := rfl
@[simp] theorem State.bumpN_tb (s : State) (o n : Nat) : (s.bumpN o n).tb = s.tb := rfl
@[simp] theorem State.bumpN_tl (s : State) (o n : Nat) : (s.bumpN o n).tl = s.tl := rfl
@[simp] theorem State.bumpN_sc (s : State) (o n : Nat) : (s.bumpN o n).sc = s.sc := rfl
@[simp] theorem State.bumpN_warm (s : State) (o n : Nat) : (s.bumpN o n).warm = s.warm := rfl
@[simp] theorem State.bumpN_ports (s : State) (o n : Nat) : (s.bumpN o n).ports = s.ports := rfl
@[simp] theorem State.bumpN_tiles (s : State) (o n : Nat) : (s.bumpN o n).tiles = s.tiles := rfl
@[simp] theorem State.bumpN_net (s : State) (o n : Nat) : (s.bumpN o n).net = s.net := rfl
@[simp] theorem State.bumpN_host (s : State) (o n : Nat) : (s.bumpN o n).host = s.host := rfl
@[simp] theorem State.bumpN_mem (s : State) (o n : Nat) : (s.bumpN o n).mem = s.mem := rfl
@[simp] theorem State.bumpN_fab (s : State) (o n : Nat) : (s.bumpN o n).fab = s.fab := rfl
@[simp] theorem State.bumpN_rl (s : State) (o n : Nat) : (s.bumpN o n).rl = s.rl := rfl
@[simp] theorem State.bumpN_pwr (s : State) (o n : Nat) : (s.bumpN o n).pwr = s.pwr := rfl
@[simp] theorem State.bumpN_ticks (s : State) (o n : Nat) : (s.bumpN o n).ticks = s.ticks := rfl
@[simp] theorem State.bumpN_free (s : State) (o n : Nat) : (s.bumpN o n).free = s.free := rfl
@[simp] theorem State.bumpN_out (s : State) (o n : Nat) : (s.bumpN o n).out = s.out := rfl
@[simp] theorem State.bumpN_pending (s : State) (o n : Nat) : (s.bumpN o n).pending = s.pending := rfl

/- bump -/
@[simp] theorem State.bump_variant (s : State) (o : Nat) : (s.bump o).variant = s.variant := rfl
@[simp] theorem State.bump_evt (s : State) (o : Nat) : (s.bump o).evt = s.evt := rfl
@[simp] theorem State.bump_flt (s : State) (o : Nat) : (s.bump o).flt = s.flt := rfl
@[simp] theorem State.bump_hk (s : State) (o : Nat) : (s.bump o).hk = s.hk := rfl
@[simp] theorem State.bump_boot (s : State) (o : Nat) : (s.bump o).boot = s.boot := rfl
@[simp] theorem State.bump_nvm (s : State) (o : Nat) : (s.bump o).nvm = s.nvm := rfl
@[simp] theorem State.bump_fuses (s : State) (o : Nat) : (s.bump o).fuses = s.fuses := rfl
@[simp] theorem State.bump_sec (s : State) (o : Nat) : (s.bump o).sec = s.sec := rfl
@[simp] theorem State.bump_cfg (s : State) (o : Nat) : (s.bump o).cfg = s.cfg := rfl
@[simp] theorem State.bump_tb (s : State) (o : Nat) : (s.bump o).tb = s.tb := rfl
@[simp] theorem State.bump_tl (s : State) (o : Nat) : (s.bump o).tl = s.tl := rfl
@[simp] theorem State.bump_sc (s : State) (o : Nat) : (s.bump o).sc = s.sc := rfl
@[simp] theorem State.bump_warm (s : State) (o : Nat) : (s.bump o).warm = s.warm := rfl
@[simp] theorem State.bump_ports (s : State) (o : Nat) : (s.bump o).ports = s.ports := rfl
@[simp] theorem State.bump_tiles (s : State) (o : Nat) : (s.bump o).tiles = s.tiles := rfl
@[simp] theorem State.bump_net (s : State) (o : Nat) : (s.bump o).net = s.net := rfl
@[simp] theorem State.bump_host (s : State) (o : Nat) : (s.bump o).host = s.host := rfl
@[simp] theorem State.bump_mem (s : State) (o : Nat) : (s.bump o).mem = s.mem := rfl
@[simp] theorem State.bump_fab (s : State) (o : Nat) : (s.bump o).fab = s.fab := rfl
@[simp] theorem State.bump_rl (s : State) (o : Nat) : (s.bump o).rl = s.rl := rfl
@[simp] theorem State.bump_pwr (s : State) (o : Nat) : (s.bump o).pwr = s.pwr := rfl
@[simp] theorem State.bump_ticks (s : State) (o : Nat) : (s.bump o).ticks = s.ticks := rfl
@[simp] theorem State.bump_free (s : State) (o : Nat) : (s.bump o).free = s.free := rfl
@[simp] theorem State.bump_out (s : State) (o : Nat) : (s.bump o).out = s.out := rfl
@[simp] theorem State.bump_pending (s : State) (o : Nat) : (s.bump o).pending = s.pending := rfl

/- clearCnt -/
@[simp] theorem State.clearCnt_variant (s : State) (o : Nat) : (s.clearCnt o).variant = s.variant := rfl
@[simp] theorem State.clearCnt_evt (s : State) (o : Nat) : (s.clearCnt o).evt = s.evt := rfl
@[simp] theorem State.clearCnt_flt (s : State) (o : Nat) : (s.clearCnt o).flt = s.flt := rfl
@[simp] theorem State.clearCnt_hk (s : State) (o : Nat) : (s.clearCnt o).hk = s.hk := rfl
@[simp] theorem State.clearCnt_boot (s : State) (o : Nat) : (s.clearCnt o).boot = s.boot := rfl
@[simp] theorem State.clearCnt_nvm (s : State) (o : Nat) : (s.clearCnt o).nvm = s.nvm := rfl
@[simp] theorem State.clearCnt_fuses (s : State) (o : Nat) : (s.clearCnt o).fuses = s.fuses := rfl
@[simp] theorem State.clearCnt_sec (s : State) (o : Nat) : (s.clearCnt o).sec = s.sec := rfl
@[simp] theorem State.clearCnt_cfg (s : State) (o : Nat) : (s.clearCnt o).cfg = s.cfg := rfl
@[simp] theorem State.clearCnt_tb (s : State) (o : Nat) : (s.clearCnt o).tb = s.tb := rfl
@[simp] theorem State.clearCnt_tl (s : State) (o : Nat) : (s.clearCnt o).tl = s.tl := rfl
@[simp] theorem State.clearCnt_sc (s : State) (o : Nat) : (s.clearCnt o).sc = s.sc := rfl
@[simp] theorem State.clearCnt_warm (s : State) (o : Nat) : (s.clearCnt o).warm = s.warm := rfl
@[simp] theorem State.clearCnt_ports (s : State) (o : Nat) : (s.clearCnt o).ports = s.ports := rfl
@[simp] theorem State.clearCnt_tiles (s : State) (o : Nat) : (s.clearCnt o).tiles = s.tiles := rfl
@[simp] theorem State.clearCnt_net (s : State) (o : Nat) : (s.clearCnt o).net = s.net := rfl
@[simp] theorem State.clearCnt_host (s : State) (o : Nat) : (s.clearCnt o).host = s.host := rfl
@[simp] theorem State.clearCnt_mem (s : State) (o : Nat) : (s.clearCnt o).mem = s.mem := rfl
@[simp] theorem State.clearCnt_fab (s : State) (o : Nat) : (s.clearCnt o).fab = s.fab := rfl
@[simp] theorem State.clearCnt_rl (s : State) (o : Nat) : (s.clearCnt o).rl = s.rl := rfl
@[simp] theorem State.clearCnt_pwr (s : State) (o : Nat) : (s.clearCnt o).pwr = s.pwr := rfl
@[simp] theorem State.clearCnt_ticks (s : State) (o : Nat) : (s.clearCnt o).ticks = s.ticks := rfl
@[simp] theorem State.clearCnt_free (s : State) (o : Nat) : (s.clearCnt o).free = s.free := rfl
@[simp] theorem State.clearCnt_out (s : State) (o : Nat) : (s.clearCnt o).out = s.out := rfl
@[simp] theorem State.clearCnt_pending (s : State) (o : Nat) : (s.clearCnt o).pending = s.pending := rfl

/- send -/
@[simp] theorem State.send_variant (s : State) (o : Output) : (s.send o).variant = s.variant := rfl
@[simp] theorem State.send_regs (s : State) (o : Output) : (s.send o).regs = s.regs := rfl
@[simp] theorem State.send_evt (s : State) (o : Output) : (s.send o).evt = s.evt := rfl
@[simp] theorem State.send_flt (s : State) (o : Output) : (s.send o).flt = s.flt := rfl
@[simp] theorem State.send_hk (s : State) (o : Output) : (s.send o).hk = s.hk := rfl
@[simp] theorem State.send_boot (s : State) (o : Output) : (s.send o).boot = s.boot := rfl
@[simp] theorem State.send_nvm (s : State) (o : Output) : (s.send o).nvm = s.nvm := rfl
@[simp] theorem State.send_fuses (s : State) (o : Output) : (s.send o).fuses = s.fuses := rfl
@[simp] theorem State.send_sec (s : State) (o : Output) : (s.send o).sec = s.sec := rfl
@[simp] theorem State.send_cfg (s : State) (o : Output) : (s.send o).cfg = s.cfg := rfl
@[simp] theorem State.send_tb (s : State) (o : Output) : (s.send o).tb = s.tb := rfl
@[simp] theorem State.send_tl (s : State) (o : Output) : (s.send o).tl = s.tl := rfl
@[simp] theorem State.send_sc (s : State) (o : Output) : (s.send o).sc = s.sc := rfl
@[simp] theorem State.send_warm (s : State) (o : Output) : (s.send o).warm = s.warm := rfl
@[simp] theorem State.send_ports (s : State) (o : Output) : (s.send o).ports = s.ports := rfl
@[simp] theorem State.send_tiles (s : State) (o : Output) : (s.send o).tiles = s.tiles := rfl
@[simp] theorem State.send_net (s : State) (o : Output) : (s.send o).net = s.net := rfl
@[simp] theorem State.send_host (s : State) (o : Output) : (s.send o).host = s.host := rfl
@[simp] theorem State.send_mem (s : State) (o : Output) : (s.send o).mem = s.mem := rfl
@[simp] theorem State.send_fab (s : State) (o : Output) : (s.send o).fab = s.fab := rfl
@[simp] theorem State.send_rl (s : State) (o : Output) : (s.send o).rl = s.rl := rfl
@[simp] theorem State.send_pwr (s : State) (o : Output) : (s.send o).pwr = s.pwr := rfl
@[simp] theorem State.send_ticks (s : State) (o : Output) : (s.send o).ticks = s.ticks := rfl
@[simp] theorem State.send_free (s : State) (o : Output) : (s.send o).free = s.free := rfl
@[simp] theorem State.send_pending (s : State) (o : Output) : (s.send o).pending = s.pending := rfl

/- modPort -/
@[simp] theorem State.modPort_variant (s : State) (p : Nat) (f : Port → Port) : (s.modPort p f).variant = s.variant := rfl
@[simp] theorem State.modPort_regs (s : State) (p : Nat) (f : Port → Port) : (s.modPort p f).regs = s.regs := rfl
@[simp] theorem State.modPort_evt (s : State) (p : Nat) (f : Port → Port) : (s.modPort p f).evt = s.evt := rfl
@[simp] theorem State.modPort_flt (s : State) (p : Nat) (f : Port → Port) : (s.modPort p f).flt = s.flt := rfl
@[simp] theorem State.modPort_hk (s : State) (p : Nat) (f : Port → Port) : (s.modPort p f).hk = s.hk := rfl
@[simp] theorem State.modPort_boot (s : State) (p : Nat) (f : Port → Port) : (s.modPort p f).boot = s.boot := rfl
@[simp] theorem State.modPort_nvm (s : State) (p : Nat) (f : Port → Port) : (s.modPort p f).nvm = s.nvm := rfl
@[simp] theorem State.modPort_fuses (s : State) (p : Nat) (f : Port → Port) : (s.modPort p f).fuses = s.fuses := rfl
@[simp] theorem State.modPort_sec (s : State) (p : Nat) (f : Port → Port) : (s.modPort p f).sec = s.sec := rfl
@[simp] theorem State.modPort_cfg (s : State) (p : Nat) (f : Port → Port) : (s.modPort p f).cfg = s.cfg := rfl
@[simp] theorem State.modPort_tb (s : State) (p : Nat) (f : Port → Port) : (s.modPort p f).tb = s.tb := rfl
@[simp] theorem State.modPort_tl (s : State) (p : Nat) (f : Port → Port) : (s.modPort p f).tl = s.tl := rfl
@[simp] theorem State.modPort_sc (s : State) (p : Nat) (f : Port → Port) : (s.modPort p f).sc = s.sc := rfl
@[simp] theorem State.modPort_warm (s : State) (p : Nat) (f : Port → Port) : (s.modPort p f).warm = s.warm := rfl
@[simp] theorem State.modPort_tiles (s : State) (p : Nat) (f : Port → Port) : (s.modPort p f).tiles = s.tiles := rfl
@[simp] theorem State.modPort_net (s : State) (p : Nat) (f : Port → Port) : (s.modPort p f).net = s.net := rfl
@[simp] theorem State.modPort_host (s : State) (p : Nat) (f : Port → Port) : (s.modPort p f).host = s.host := rfl
@[simp] theorem State.modPort_mem (s : State) (p : Nat) (f : Port → Port) : (s.modPort p f).mem = s.mem := rfl
@[simp] theorem State.modPort_fab (s : State) (p : Nat) (f : Port → Port) : (s.modPort p f).fab = s.fab := rfl
@[simp] theorem State.modPort_rl (s : State) (p : Nat) (f : Port → Port) : (s.modPort p f).rl = s.rl := rfl
@[simp] theorem State.modPort_pwr (s : State) (p : Nat) (f : Port → Port) : (s.modPort p f).pwr = s.pwr := rfl
@[simp] theorem State.modPort_ticks (s : State) (p : Nat) (f : Port → Port) : (s.modPort p f).ticks = s.ticks := rfl
@[simp] theorem State.modPort_free (s : State) (p : Nat) (f : Port → Port) : (s.modPort p f).free = s.free := rfl
@[simp] theorem State.modPort_out (s : State) (p : Nat) (f : Port → Port) : (s.modPort p f).out = s.out := rfl
@[simp] theorem State.modPort_pending (s : State) (p : Nat) (f : Port → Port) : (s.modPort p f).pending = s.pending := rfl

/- modTile -/
@[simp] theorem State.modTile_variant (s : State) (p q : Nat) (f : Tile → Tile) : (s.modTile p q f).variant = s.variant := rfl
@[simp] theorem State.modTile_regs (s : State) (p q : Nat) (f : Tile → Tile) : (s.modTile p q f).regs = s.regs := rfl
@[simp] theorem State.modTile_evt (s : State) (p q : Nat) (f : Tile → Tile) : (s.modTile p q f).evt = s.evt := rfl
@[simp] theorem State.modTile_flt (s : State) (p q : Nat) (f : Tile → Tile) : (s.modTile p q f).flt = s.flt := rfl
@[simp] theorem State.modTile_hk (s : State) (p q : Nat) (f : Tile → Tile) : (s.modTile p q f).hk = s.hk := rfl
@[simp] theorem State.modTile_boot (s : State) (p q : Nat) (f : Tile → Tile) : (s.modTile p q f).boot = s.boot := rfl
@[simp] theorem State.modTile_nvm (s : State) (p q : Nat) (f : Tile → Tile) : (s.modTile p q f).nvm = s.nvm := rfl
@[simp] theorem State.modTile_fuses (s : State) (p q : Nat) (f : Tile → Tile) : (s.modTile p q f).fuses = s.fuses := rfl
@[simp] theorem State.modTile_sec (s : State) (p q : Nat) (f : Tile → Tile) : (s.modTile p q f).sec = s.sec := rfl
@[simp] theorem State.modTile_cfg (s : State) (p q : Nat) (f : Tile → Tile) : (s.modTile p q f).cfg = s.cfg := rfl
@[simp] theorem State.modTile_tb (s : State) (p q : Nat) (f : Tile → Tile) : (s.modTile p q f).tb = s.tb := rfl
@[simp] theorem State.modTile_tl (s : State) (p q : Nat) (f : Tile → Tile) : (s.modTile p q f).tl = s.tl := rfl
@[simp] theorem State.modTile_sc (s : State) (p q : Nat) (f : Tile → Tile) : (s.modTile p q f).sc = s.sc := rfl
@[simp] theorem State.modTile_warm (s : State) (p q : Nat) (f : Tile → Tile) : (s.modTile p q f).warm = s.warm := rfl
@[simp] theorem State.modTile_ports (s : State) (p q : Nat) (f : Tile → Tile) : (s.modTile p q f).ports = s.ports := rfl
@[simp] theorem State.modTile_net (s : State) (p q : Nat) (f : Tile → Tile) : (s.modTile p q f).net = s.net := rfl
@[simp] theorem State.modTile_host (s : State) (p q : Nat) (f : Tile → Tile) : (s.modTile p q f).host = s.host := rfl
@[simp] theorem State.modTile_mem (s : State) (p q : Nat) (f : Tile → Tile) : (s.modTile p q f).mem = s.mem := rfl
@[simp] theorem State.modTile_fab (s : State) (p q : Nat) (f : Tile → Tile) : (s.modTile p q f).fab = s.fab := rfl
@[simp] theorem State.modTile_rl (s : State) (p q : Nat) (f : Tile → Tile) : (s.modTile p q f).rl = s.rl := rfl
@[simp] theorem State.modTile_pwr (s : State) (p q : Nat) (f : Tile → Tile) : (s.modTile p q f).pwr = s.pwr := rfl
@[simp] theorem State.modTile_ticks (s : State) (p q : Nat) (f : Tile → Tile) : (s.modTile p q f).ticks = s.ticks := rfl
@[simp] theorem State.modTile_free (s : State) (p q : Nat) (f : Tile → Tile) : (s.modTile p q f).free = s.free := rfl
@[simp] theorem State.modTile_out (s : State) (p q : Nat) (f : Tile → Tile) : (s.modTile p q f).out = s.out := rfl
@[simp] theorem State.modTile_pending (s : State) (p q : Nat) (f : Tile → Tile) : (s.modTile p q f).pending = s.pending := rfl

/- modView -/
@[simp] theorem State.modView_variant (s : State) (v : Nat) (f : View → View) : (s.modView v f).variant = s.variant := rfl
@[simp] theorem State.modView_regs (s : State) (v : Nat) (f : View → View) : (s.modView v f).regs = s.regs := rfl
@[simp] theorem State.modView_evt (s : State) (v : Nat) (f : View → View) : (s.modView v f).evt = s.evt := rfl
@[simp] theorem State.modView_flt (s : State) (v : Nat) (f : View → View) : (s.modView v f).flt = s.flt := rfl
@[simp] theorem State.modView_hk (s : State) (v : Nat) (f : View → View) : (s.modView v f).hk = s.hk := rfl
@[simp] theorem State.modView_boot (s : State) (v : Nat) (f : View → View) : (s.modView v f).boot = s.boot := rfl
@[simp] theorem State.modView_nvm (s : State) (v : Nat) (f : View → View) : (s.modView v f).nvm = s.nvm := rfl
@[simp] theorem State.modView_fuses (s : State) (v : Nat) (f : View → View) : (s.modView v f).fuses = s.fuses := rfl
@[simp] theorem State.modView_sec (s : State) (v : Nat) (f : View → View) : (s.modView v f).sec = s.sec := rfl
@[simp] theorem State.modView_cfg (s : State) (v : Nat) (f : View → View) : (s.modView v f).cfg = s.cfg := rfl
@[simp] theorem State.modView_tb (s : State) (v : Nat) (f : View → View) : (s.modView v f).tb = s.tb := rfl
@[simp] theorem State.modView_tl (s : State) (v : Nat) (f : View → View) : (s.modView v f).tl = s.tl := rfl
@[simp] theorem State.modView_warm (s : State) (v : Nat) (f : View → View) : (s.modView v f).warm = s.warm := rfl
@[simp] theorem State.modView_ports (s : State) (v : Nat) (f : View → View) : (s.modView v f).ports = s.ports := rfl
@[simp] theorem State.modView_tiles (s : State) (v : Nat) (f : View → View) : (s.modView v f).tiles = s.tiles := rfl
@[simp] theorem State.modView_net (s : State) (v : Nat) (f : View → View) : (s.modView v f).net = s.net := rfl
@[simp] theorem State.modView_host (s : State) (v : Nat) (f : View → View) : (s.modView v f).host = s.host := rfl
@[simp] theorem State.modView_mem (s : State) (v : Nat) (f : View → View) : (s.modView v f).mem = s.mem := rfl
@[simp] theorem State.modView_fab (s : State) (v : Nat) (f : View → View) : (s.modView v f).fab = s.fab := rfl
@[simp] theorem State.modView_rl (s : State) (v : Nat) (f : View → View) : (s.modView v f).rl = s.rl := rfl
@[simp] theorem State.modView_pwr (s : State) (v : Nat) (f : View → View) : (s.modView v f).pwr = s.pwr := rfl
@[simp] theorem State.modView_ticks (s : State) (v : Nat) (f : View → View) : (s.modView v f).ticks = s.ticks := rfl
@[simp] theorem State.modView_free (s : State) (v : Nat) (f : View → View) : (s.modView v f).free = s.free := rfl
@[simp] theorem State.modView_out (s : State) (v : Nat) (f : View → View) : (s.modView v f).out = s.out := rfl
@[simp] theorem State.modView_pending (s : State) (v : Nat) (f : View → View) : (s.modView v f).pending = s.pending := rfl

/- modFence -/
@[simp] theorem State.modFence_variant (s : State) (n : Nat) (f : Fence → Fence) : (s.modFence n f).variant = s.variant := rfl
@[simp] theorem State.modFence_regs (s : State) (n : Nat) (f : Fence → Fence) : (s.modFence n f).regs = s.regs := rfl
@[simp] theorem State.modFence_evt (s : State) (n : Nat) (f : Fence → Fence) : (s.modFence n f).evt = s.evt := rfl
@[simp] theorem State.modFence_flt (s : State) (n : Nat) (f : Fence → Fence) : (s.modFence n f).flt = s.flt := rfl
@[simp] theorem State.modFence_hk (s : State) (n : Nat) (f : Fence → Fence) : (s.modFence n f).hk = s.hk := rfl
@[simp] theorem State.modFence_boot (s : State) (n : Nat) (f : Fence → Fence) : (s.modFence n f).boot = s.boot := rfl
@[simp] theorem State.modFence_nvm (s : State) (n : Nat) (f : Fence → Fence) : (s.modFence n f).nvm = s.nvm := rfl
@[simp] theorem State.modFence_fuses (s : State) (n : Nat) (f : Fence → Fence) : (s.modFence n f).fuses = s.fuses := rfl
@[simp] theorem State.modFence_sec (s : State) (n : Nat) (f : Fence → Fence) : (s.modFence n f).sec = s.sec := rfl
@[simp] theorem State.modFence_cfg (s : State) (n : Nat) (f : Fence → Fence) : (s.modFence n f).cfg = s.cfg := rfl
@[simp] theorem State.modFence_tb (s : State) (n : Nat) (f : Fence → Fence) : (s.modFence n f).tb = s.tb := rfl
@[simp] theorem State.modFence_tl (s : State) (n : Nat) (f : Fence → Fence) : (s.modFence n f).tl = s.tl := rfl
@[simp] theorem State.modFence_warm (s : State) (n : Nat) (f : Fence → Fence) : (s.modFence n f).warm = s.warm := rfl
@[simp] theorem State.modFence_ports (s : State) (n : Nat) (f : Fence → Fence) : (s.modFence n f).ports = s.ports := rfl
@[simp] theorem State.modFence_tiles (s : State) (n : Nat) (f : Fence → Fence) : (s.modFence n f).tiles = s.tiles := rfl
@[simp] theorem State.modFence_net (s : State) (n : Nat) (f : Fence → Fence) : (s.modFence n f).net = s.net := rfl
@[simp] theorem State.modFence_host (s : State) (n : Nat) (f : Fence → Fence) : (s.modFence n f).host = s.host := rfl
@[simp] theorem State.modFence_mem (s : State) (n : Nat) (f : Fence → Fence) : (s.modFence n f).mem = s.mem := rfl
@[simp] theorem State.modFence_fab (s : State) (n : Nat) (f : Fence → Fence) : (s.modFence n f).fab = s.fab := rfl
@[simp] theorem State.modFence_rl (s : State) (n : Nat) (f : Fence → Fence) : (s.modFence n f).rl = s.rl := rfl
@[simp] theorem State.modFence_pwr (s : State) (n : Nat) (f : Fence → Fence) : (s.modFence n f).pwr = s.pwr := rfl
@[simp] theorem State.modFence_ticks (s : State) (n : Nat) (f : Fence → Fence) : (s.modFence n f).ticks = s.ticks := rfl
@[simp] theorem State.modFence_free (s : State) (n : Nat) (f : Fence → Fence) : (s.modFence n f).free = s.free := rfl
@[simp] theorem State.modFence_out (s : State) (n : Nat) (f : Fence → Fence) : (s.modFence n f).out = s.out := rfl
@[simp] theorem State.modFence_pending (s : State) (n : Nat) (f : Fence → Fence) : (s.modFence n f).pending = s.pending := rfl

/- modSurf -/
@[simp] theorem State.modSurf_variant (s : State) (n : Nat) (f : Surf → Surf) : (s.modSurf n f).variant = s.variant := rfl
@[simp] theorem State.modSurf_regs (s : State) (n : Nat) (f : Surf → Surf) : (s.modSurf n f).regs = s.regs := rfl
@[simp] theorem State.modSurf_evt (s : State) (n : Nat) (f : Surf → Surf) : (s.modSurf n f).evt = s.evt := rfl
@[simp] theorem State.modSurf_flt (s : State) (n : Nat) (f : Surf → Surf) : (s.modSurf n f).flt = s.flt := rfl
@[simp] theorem State.modSurf_hk (s : State) (n : Nat) (f : Surf → Surf) : (s.modSurf n f).hk = s.hk := rfl
@[simp] theorem State.modSurf_boot (s : State) (n : Nat) (f : Surf → Surf) : (s.modSurf n f).boot = s.boot := rfl
@[simp] theorem State.modSurf_nvm (s : State) (n : Nat) (f : Surf → Surf) : (s.modSurf n f).nvm = s.nvm := rfl
@[simp] theorem State.modSurf_fuses (s : State) (n : Nat) (f : Surf → Surf) : (s.modSurf n f).fuses = s.fuses := rfl
@[simp] theorem State.modSurf_sec (s : State) (n : Nat) (f : Surf → Surf) : (s.modSurf n f).sec = s.sec := rfl
@[simp] theorem State.modSurf_cfg (s : State) (n : Nat) (f : Surf → Surf) : (s.modSurf n f).cfg = s.cfg := rfl
@[simp] theorem State.modSurf_tb (s : State) (n : Nat) (f : Surf → Surf) : (s.modSurf n f).tb = s.tb := rfl
@[simp] theorem State.modSurf_tl (s : State) (n : Nat) (f : Surf → Surf) : (s.modSurf n f).tl = s.tl := rfl
@[simp] theorem State.modSurf_sc (s : State) (n : Nat) (f : Surf → Surf) : (s.modSurf n f).sc = s.sc := rfl
@[simp] theorem State.modSurf_warm (s : State) (n : Nat) (f : Surf → Surf) : (s.modSurf n f).warm = s.warm := rfl
@[simp] theorem State.modSurf_ports (s : State) (n : Nat) (f : Surf → Surf) : (s.modSurf n f).ports = s.ports := rfl
@[simp] theorem State.modSurf_tiles (s : State) (n : Nat) (f : Surf → Surf) : (s.modSurf n f).tiles = s.tiles := rfl
@[simp] theorem State.modSurf_net (s : State) (n : Nat) (f : Surf → Surf) : (s.modSurf n f).net = s.net := rfl
@[simp] theorem State.modSurf_mem (s : State) (n : Nat) (f : Surf → Surf) : (s.modSurf n f).mem = s.mem := rfl
@[simp] theorem State.modSurf_fab (s : State) (n : Nat) (f : Surf → Surf) : (s.modSurf n f).fab = s.fab := rfl
@[simp] theorem State.modSurf_rl (s : State) (n : Nat) (f : Surf → Surf) : (s.modSurf n f).rl = s.rl := rfl
@[simp] theorem State.modSurf_pwr (s : State) (n : Nat) (f : Surf → Surf) : (s.modSurf n f).pwr = s.pwr := rfl
@[simp] theorem State.modSurf_ticks (s : State) (n : Nat) (f : Surf → Surf) : (s.modSurf n f).ticks = s.ticks := rfl
@[simp] theorem State.modSurf_free (s : State) (n : Nat) (f : Surf → Surf) : (s.modSurf n f).free = s.free := rfl
@[simp] theorem State.modSurf_out (s : State) (n : Nat) (f : Surf → Surf) : (s.modSurf n f).out = s.out := rfl
@[simp] theorem State.modSurf_pending (s : State) (n : Nat) (f : Surf → Surf) : (s.modSurf n f).pending = s.pending := rfl

/- modFlow -/
@[simp] theorem State.modFlow_variant (s : State) (n : Nat) (f : Flow → Flow) : (s.modFlow n f).variant = s.variant := rfl
@[simp] theorem State.modFlow_regs (s : State) (n : Nat) (f : Flow → Flow) : (s.modFlow n f).regs = s.regs := rfl
@[simp] theorem State.modFlow_evt (s : State) (n : Nat) (f : Flow → Flow) : (s.modFlow n f).evt = s.evt := rfl
@[simp] theorem State.modFlow_flt (s : State) (n : Nat) (f : Flow → Flow) : (s.modFlow n f).flt = s.flt := rfl
@[simp] theorem State.modFlow_hk (s : State) (n : Nat) (f : Flow → Flow) : (s.modFlow n f).hk = s.hk := rfl
@[simp] theorem State.modFlow_boot (s : State) (n : Nat) (f : Flow → Flow) : (s.modFlow n f).boot = s.boot := rfl
@[simp] theorem State.modFlow_nvm (s : State) (n : Nat) (f : Flow → Flow) : (s.modFlow n f).nvm = s.nvm := rfl
@[simp] theorem State.modFlow_fuses (s : State) (n : Nat) (f : Flow → Flow) : (s.modFlow n f).fuses = s.fuses := rfl
@[simp] theorem State.modFlow_sec (s : State) (n : Nat) (f : Flow → Flow) : (s.modFlow n f).sec = s.sec := rfl
@[simp] theorem State.modFlow_cfg (s : State) (n : Nat) (f : Flow → Flow) : (s.modFlow n f).cfg = s.cfg := rfl
@[simp] theorem State.modFlow_tb (s : State) (n : Nat) (f : Flow → Flow) : (s.modFlow n f).tb = s.tb := rfl
@[simp] theorem State.modFlow_tl (s : State) (n : Nat) (f : Flow → Flow) : (s.modFlow n f).tl = s.tl := rfl
@[simp] theorem State.modFlow_sc (s : State) (n : Nat) (f : Flow → Flow) : (s.modFlow n f).sc = s.sc := rfl
@[simp] theorem State.modFlow_warm (s : State) (n : Nat) (f : Flow → Flow) : (s.modFlow n f).warm = s.warm := rfl
@[simp] theorem State.modFlow_ports (s : State) (n : Nat) (f : Flow → Flow) : (s.modFlow n f).ports = s.ports := rfl
@[simp] theorem State.modFlow_tiles (s : State) (n : Nat) (f : Flow → Flow) : (s.modFlow n f).tiles = s.tiles := rfl
@[simp] theorem State.modFlow_host (s : State) (n : Nat) (f : Flow → Flow) : (s.modFlow n f).host = s.host := rfl
@[simp] theorem State.modFlow_mem (s : State) (n : Nat) (f : Flow → Flow) : (s.modFlow n f).mem = s.mem := rfl
@[simp] theorem State.modFlow_fab (s : State) (n : Nat) (f : Flow → Flow) : (s.modFlow n f).fab = s.fab := rfl
@[simp] theorem State.modFlow_rl (s : State) (n : Nat) (f : Flow → Flow) : (s.modFlow n f).rl = s.rl := rfl
@[simp] theorem State.modFlow_pwr (s : State) (n : Nat) (f : Flow → Flow) : (s.modFlow n f).pwr = s.pwr := rfl
@[simp] theorem State.modFlow_ticks (s : State) (n : Nat) (f : Flow → Flow) : (s.modFlow n f).ticks = s.ticks := rfl
@[simp] theorem State.modFlow_free (s : State) (n : Nat) (f : Flow → Flow) : (s.modFlow n f).free = s.free := rfl
@[simp] theorem State.modFlow_out (s : State) (n : Nat) (f : Flow → Flow) : (s.modFlow n f).out = s.out := rfl
@[simp] theorem State.modFlow_pending (s : State) (n : Nat) (f : Flow → Flow) : (s.modFlow n f).pending = s.pending := rfl

/- modSub -/
@[simp] theorem State.modSub_variant (s : State) (n : Nat) (f : SubPort → SubPort) : (s.modSub n f).variant = s.variant := rfl
@[simp] theorem State.modSub_regs (s : State) (n : Nat) (f : SubPort → SubPort) : (s.modSub n f).regs = s.regs := rfl
@[simp] theorem State.modSub_evt (s : State) (n : Nat) (f : SubPort → SubPort) : (s.modSub n f).evt = s.evt := rfl
@[simp] theorem State.modSub_flt (s : State) (n : Nat) (f : SubPort → SubPort) : (s.modSub n f).flt = s.flt := rfl
@[simp] theorem State.modSub_hk (s : State) (n : Nat) (f : SubPort → SubPort) : (s.modSub n f).hk = s.hk := rfl
@[simp] theorem State.modSub_boot (s : State) (n : Nat) (f : SubPort → SubPort) : (s.modSub n f).boot = s.boot := rfl
@[simp] theorem State.modSub_nvm (s : State) (n : Nat) (f : SubPort → SubPort) : (s.modSub n f).nvm = s.nvm := rfl
@[simp] theorem State.modSub_fuses (s : State) (n : Nat) (f : SubPort → SubPort) : (s.modSub n f).fuses = s.fuses := rfl
@[simp] theorem State.modSub_sec (s : State) (n : Nat) (f : SubPort → SubPort) : (s.modSub n f).sec = s.sec := rfl
@[simp] theorem State.modSub_cfg (s : State) (n : Nat) (f : SubPort → SubPort) : (s.modSub n f).cfg = s.cfg := rfl
@[simp] theorem State.modSub_tb (s : State) (n : Nat) (f : SubPort → SubPort) : (s.modSub n f).tb = s.tb := rfl
@[simp] theorem State.modSub_tl (s : State) (n : Nat) (f : SubPort → SubPort) : (s.modSub n f).tl = s.tl := rfl
@[simp] theorem State.modSub_sc (s : State) (n : Nat) (f : SubPort → SubPort) : (s.modSub n f).sc = s.sc := rfl
@[simp] theorem State.modSub_warm (s : State) (n : Nat) (f : SubPort → SubPort) : (s.modSub n f).warm = s.warm := rfl
@[simp] theorem State.modSub_ports (s : State) (n : Nat) (f : SubPort → SubPort) : (s.modSub n f).ports = s.ports := rfl
@[simp] theorem State.modSub_tiles (s : State) (n : Nat) (f : SubPort → SubPort) : (s.modSub n f).tiles = s.tiles := rfl
@[simp] theorem State.modSub_host (s : State) (n : Nat) (f : SubPort → SubPort) : (s.modSub n f).host = s.host := rfl
@[simp] theorem State.modSub_mem (s : State) (n : Nat) (f : SubPort → SubPort) : (s.modSub n f).mem = s.mem := rfl
@[simp] theorem State.modSub_fab (s : State) (n : Nat) (f : SubPort → SubPort) : (s.modSub n f).fab = s.fab := rfl
@[simp] theorem State.modSub_rl (s : State) (n : Nat) (f : SubPort → SubPort) : (s.modSub n f).rl = s.rl := rfl
@[simp] theorem State.modSub_pwr (s : State) (n : Nat) (f : SubPort → SubPort) : (s.modSub n f).pwr = s.pwr := rfl
@[simp] theorem State.modSub_ticks (s : State) (n : Nat) (f : SubPort → SubPort) : (s.modSub n f).ticks = s.ticks := rfl
@[simp] theorem State.modSub_free (s : State) (n : Nat) (f : SubPort → SubPort) : (s.modSub n f).free = s.free := rfl
@[simp] theorem State.modSub_out (s : State) (n : Nat) (f : SubPort → SubPort) : (s.modSub n f).out = s.out := rfl
@[simp] theorem State.modSub_pending (s : State) (n : Nat) (f : SubPort → SubPort) : (s.modSub n f).pending = s.pending := rfl

/- modPtp -/
@[simp] theorem State.modPtp_variant (s : State) (a : Nat) (f : PtpSlot → PtpSlot) : (s.modPtp a f).variant = s.variant := rfl
@[simp] theorem State.modPtp_regs (s : State) (a : Nat) (f : PtpSlot → PtpSlot) : (s.modPtp a f).regs = s.regs := rfl
@[simp] theorem State.modPtp_evt (s : State) (a : Nat) (f : PtpSlot → PtpSlot) : (s.modPtp a f).evt = s.evt := rfl
@[simp] theorem State.modPtp_flt (s : State) (a : Nat) (f : PtpSlot → PtpSlot) : (s.modPtp a f).flt = s.flt := rfl
@[simp] theorem State.modPtp_hk (s : State) (a : Nat) (f : PtpSlot → PtpSlot) : (s.modPtp a f).hk = s.hk := rfl
@[simp] theorem State.modPtp_boot (s : State) (a : Nat) (f : PtpSlot → PtpSlot) : (s.modPtp a f).boot = s.boot := rfl
@[simp] theorem State.modPtp_nvm (s : State) (a : Nat) (f : PtpSlot → PtpSlot) : (s.modPtp a f).nvm = s.nvm := rfl
@[simp] theorem State.modPtp_fuses (s : State) (a : Nat) (f : PtpSlot → PtpSlot) : (s.modPtp a f).fuses = s.fuses := rfl
@[simp] theorem State.modPtp_sec (s : State) (a : Nat) (f : PtpSlot → PtpSlot) : (s.modPtp a f).sec = s.sec := rfl
@[simp] theorem State.modPtp_cfg (s : State) (a : Nat) (f : PtpSlot → PtpSlot) : (s.modPtp a f).cfg = s.cfg := rfl
@[simp] theorem State.modPtp_tl (s : State) (a : Nat) (f : PtpSlot → PtpSlot) : (s.modPtp a f).tl = s.tl := rfl
@[simp] theorem State.modPtp_sc (s : State) (a : Nat) (f : PtpSlot → PtpSlot) : (s.modPtp a f).sc = s.sc := rfl
@[simp] theorem State.modPtp_warm (s : State) (a : Nat) (f : PtpSlot → PtpSlot) : (s.modPtp a f).warm = s.warm := rfl
@[simp] theorem State.modPtp_ports (s : State) (a : Nat) (f : PtpSlot → PtpSlot) : (s.modPtp a f).ports = s.ports := rfl
@[simp] theorem State.modPtp_tiles (s : State) (a : Nat) (f : PtpSlot → PtpSlot) : (s.modPtp a f).tiles = s.tiles := rfl
@[simp] theorem State.modPtp_net (s : State) (a : Nat) (f : PtpSlot → PtpSlot) : (s.modPtp a f).net = s.net := rfl
@[simp] theorem State.modPtp_host (s : State) (a : Nat) (f : PtpSlot → PtpSlot) : (s.modPtp a f).host = s.host := rfl
@[simp] theorem State.modPtp_mem (s : State) (a : Nat) (f : PtpSlot → PtpSlot) : (s.modPtp a f).mem = s.mem := rfl
@[simp] theorem State.modPtp_fab (s : State) (a : Nat) (f : PtpSlot → PtpSlot) : (s.modPtp a f).fab = s.fab := rfl
@[simp] theorem State.modPtp_rl (s : State) (a : Nat) (f : PtpSlot → PtpSlot) : (s.modPtp a f).rl = s.rl := rfl
@[simp] theorem State.modPtp_pwr (s : State) (a : Nat) (f : PtpSlot → PtpSlot) : (s.modPtp a f).pwr = s.pwr := rfl
@[simp] theorem State.modPtp_ticks (s : State) (a : Nat) (f : PtpSlot → PtpSlot) : (s.modPtp a f).ticks = s.ticks := rfl
@[simp] theorem State.modPtp_free (s : State) (a : Nat) (f : PtpSlot → PtpSlot) : (s.modPtp a f).free = s.free := rfl
@[simp] theorem State.modPtp_out (s : State) (a : Nat) (f : PtpSlot → PtpSlot) : (s.modPtp a f).out = s.out := rfl
@[simp] theorem State.modPtp_pending (s : State) (a : Nat) (f : PtpSlot → PtpSlot) : (s.modPtp a f).pending = s.pending := rfl

/- modRport -/
@[simp] theorem State.modRport_variant (s : State) (p : Nat) (f : RPort → RPort) : (s.modRport p f).variant = s.variant := rfl
@[simp] theorem State.modRport_regs (s : State) (p : Nat) (f : RPort → RPort) : (s.modRport p f).regs = s.regs := rfl
@[simp] theorem State.modRport_evt (s : State) (p : Nat) (f : RPort → RPort) : (s.modRport p f).evt = s.evt := rfl
@[simp] theorem State.modRport_flt (s : State) (p : Nat) (f : RPort → RPort) : (s.modRport p f).flt = s.flt := rfl
@[simp] theorem State.modRport_hk (s : State) (p : Nat) (f : RPort → RPort) : (s.modRport p f).hk = s.hk := rfl
@[simp] theorem State.modRport_boot (s : State) (p : Nat) (f : RPort → RPort) : (s.modRport p f).boot = s.boot := rfl
@[simp] theorem State.modRport_nvm (s : State) (p : Nat) (f : RPort → RPort) : (s.modRport p f).nvm = s.nvm := rfl
@[simp] theorem State.modRport_fuses (s : State) (p : Nat) (f : RPort → RPort) : (s.modRport p f).fuses = s.fuses := rfl
@[simp] theorem State.modRport_sec (s : State) (p : Nat) (f : RPort → RPort) : (s.modRport p f).sec = s.sec := rfl
@[simp] theorem State.modRport_cfg (s : State) (p : Nat) (f : RPort → RPort) : (s.modRport p f).cfg = s.cfg := rfl
@[simp] theorem State.modRport_tb (s : State) (p : Nat) (f : RPort → RPort) : (s.modRport p f).tb = s.tb := rfl
@[simp] theorem State.modRport_tl (s : State) (p : Nat) (f : RPort → RPort) : (s.modRport p f).tl = s.tl := rfl
@[simp] theorem State.modRport_sc (s : State) (p : Nat) (f : RPort → RPort) : (s.modRport p f).sc = s.sc := rfl
@[simp] theorem State.modRport_warm (s : State) (p : Nat) (f : RPort → RPort) : (s.modRport p f).warm = s.warm := rfl
@[simp] theorem State.modRport_ports (s : State) (p : Nat) (f : RPort → RPort) : (s.modRport p f).ports = s.ports := rfl
@[simp] theorem State.modRport_tiles (s : State) (p : Nat) (f : RPort → RPort) : (s.modRport p f).tiles = s.tiles := rfl
@[simp] theorem State.modRport_net (s : State) (p : Nat) (f : RPort → RPort) : (s.modRport p f).net = s.net := rfl
@[simp] theorem State.modRport_host (s : State) (p : Nat) (f : RPort → RPort) : (s.modRport p f).host = s.host := rfl
@[simp] theorem State.modRport_mem (s : State) (p : Nat) (f : RPort → RPort) : (s.modRport p f).mem = s.mem := rfl
@[simp] theorem State.modRport_fab (s : State) (p : Nat) (f : RPort → RPort) : (s.modRport p f).fab = s.fab := rfl
@[simp] theorem State.modRport_pwr (s : State) (p : Nat) (f : RPort → RPort) : (s.modRport p f).pwr = s.pwr := rfl
@[simp] theorem State.modRport_ticks (s : State) (p : Nat) (f : RPort → RPort) : (s.modRport p f).ticks = s.ticks := rfl
@[simp] theorem State.modRport_free (s : State) (p : Nat) (f : RPort → RPort) : (s.modRport p f).free = s.free := rfl
@[simp] theorem State.modRport_out (s : State) (p : Nat) (f : RPort → RPort) : (s.modRport p f).out = s.out := rfl
@[simp] theorem State.modRport_pending (s : State) (p : Nat) (f : RPort → RPort) : (s.modRport p f).pending = s.pending := rfl

/- modStk -/
@[simp] theorem State.modStk_variant (s : State) (i : Nat) (f : StackSt → StackSt) : (s.modStk i f).variant = s.variant := rfl
@[simp] theorem State.modStk_regs (s : State) (i : Nat) (f : StackSt → StackSt) : (s.modStk i f).regs = s.regs := rfl
@[simp] theorem State.modStk_evt (s : State) (i : Nat) (f : StackSt → StackSt) : (s.modStk i f).evt = s.evt := rfl
@[simp] theorem State.modStk_flt (s : State) (i : Nat) (f : StackSt → StackSt) : (s.modStk i f).flt = s.flt := rfl
@[simp] theorem State.modStk_hk (s : State) (i : Nat) (f : StackSt → StackSt) : (s.modStk i f).hk = s.hk := rfl
@[simp] theorem State.modStk_boot (s : State) (i : Nat) (f : StackSt → StackSt) : (s.modStk i f).boot = s.boot := rfl
@[simp] theorem State.modStk_nvm (s : State) (i : Nat) (f : StackSt → StackSt) : (s.modStk i f).nvm = s.nvm := rfl
@[simp] theorem State.modStk_fuses (s : State) (i : Nat) (f : StackSt → StackSt) : (s.modStk i f).fuses = s.fuses := rfl
@[simp] theorem State.modStk_sec (s : State) (i : Nat) (f : StackSt → StackSt) : (s.modStk i f).sec = s.sec := rfl
@[simp] theorem State.modStk_cfg (s : State) (i : Nat) (f : StackSt → StackSt) : (s.modStk i f).cfg = s.cfg := rfl
@[simp] theorem State.modStk_tb (s : State) (i : Nat) (f : StackSt → StackSt) : (s.modStk i f).tb = s.tb := rfl
@[simp] theorem State.modStk_tl (s : State) (i : Nat) (f : StackSt → StackSt) : (s.modStk i f).tl = s.tl := rfl
@[simp] theorem State.modStk_sc (s : State) (i : Nat) (f : StackSt → StackSt) : (s.modStk i f).sc = s.sc := rfl
@[simp] theorem State.modStk_warm (s : State) (i : Nat) (f : StackSt → StackSt) : (s.modStk i f).warm = s.warm := rfl
@[simp] theorem State.modStk_ports (s : State) (i : Nat) (f : StackSt → StackSt) : (s.modStk i f).ports = s.ports := rfl
@[simp] theorem State.modStk_tiles (s : State) (i : Nat) (f : StackSt → StackSt) : (s.modStk i f).tiles = s.tiles := rfl
@[simp] theorem State.modStk_net (s : State) (i : Nat) (f : StackSt → StackSt) : (s.modStk i f).net = s.net := rfl
@[simp] theorem State.modStk_host (s : State) (i : Nat) (f : StackSt → StackSt) : (s.modStk i f).host = s.host := rfl
@[simp] theorem State.modStk_fab (s : State) (i : Nat) (f : StackSt → StackSt) : (s.modStk i f).fab = s.fab := rfl
@[simp] theorem State.modStk_rl (s : State) (i : Nat) (f : StackSt → StackSt) : (s.modStk i f).rl = s.rl := rfl
@[simp] theorem State.modStk_pwr (s : State) (i : Nat) (f : StackSt → StackSt) : (s.modStk i f).pwr = s.pwr := rfl
@[simp] theorem State.modStk_ticks (s : State) (i : Nat) (f : StackSt → StackSt) : (s.modStk i f).ticks = s.ticks := rfl
@[simp] theorem State.modStk_free (s : State) (i : Nat) (f : StackSt → StackSt) : (s.modStk i f).free = s.free := rfl
@[simp] theorem State.modStk_out (s : State) (i : Nat) (f : StackSt → StackSt) : (s.modStk i f).out = s.out := rfl
@[simp] theorem State.modStk_pending (s : State) (i : Nat) (f : StackSt → StackSt) : (s.modStk i f).pending = s.pending := rfl

/- modPc -/
@[simp] theorem State.modPc_variant (s : State) (i : Nat) (f : PcSt → PcSt) : (s.modPc i f).variant = s.variant := rfl
@[simp] theorem State.modPc_regs (s : State) (i : Nat) (f : PcSt → PcSt) : (s.modPc i f).regs = s.regs := rfl
@[simp] theorem State.modPc_evt (s : State) (i : Nat) (f : PcSt → PcSt) : (s.modPc i f).evt = s.evt := rfl
@[simp] theorem State.modPc_flt (s : State) (i : Nat) (f : PcSt → PcSt) : (s.modPc i f).flt = s.flt := rfl
@[simp] theorem State.modPc_hk (s : State) (i : Nat) (f : PcSt → PcSt) : (s.modPc i f).hk = s.hk := rfl
@[simp] theorem State.modPc_boot (s : State) (i : Nat) (f : PcSt → PcSt) : (s.modPc i f).boot = s.boot := rfl
@[simp] theorem State.modPc_nvm (s : State) (i : Nat) (f : PcSt → PcSt) : (s.modPc i f).nvm = s.nvm := rfl
@[simp] theorem State.modPc_fuses (s : State) (i : Nat) (f : PcSt → PcSt) : (s.modPc i f).fuses = s.fuses := rfl
@[simp] theorem State.modPc_sec (s : State) (i : Nat) (f : PcSt → PcSt) : (s.modPc i f).sec = s.sec := rfl
@[simp] theorem State.modPc_cfg (s : State) (i : Nat) (f : PcSt → PcSt) : (s.modPc i f).cfg = s.cfg := rfl
@[simp] theorem State.modPc_tb (s : State) (i : Nat) (f : PcSt → PcSt) : (s.modPc i f).tb = s.tb := rfl
@[simp] theorem State.modPc_tl (s : State) (i : Nat) (f : PcSt → PcSt) : (s.modPc i f).tl = s.tl := rfl
@[simp] theorem State.modPc_sc (s : State) (i : Nat) (f : PcSt → PcSt) : (s.modPc i f).sc = s.sc := rfl
@[simp] theorem State.modPc_warm (s : State) (i : Nat) (f : PcSt → PcSt) : (s.modPc i f).warm = s.warm := rfl
@[simp] theorem State.modPc_ports (s : State) (i : Nat) (f : PcSt → PcSt) : (s.modPc i f).ports = s.ports := rfl
@[simp] theorem State.modPc_tiles (s : State) (i : Nat) (f : PcSt → PcSt) : (s.modPc i f).tiles = s.tiles := rfl
@[simp] theorem State.modPc_net (s : State) (i : Nat) (f : PcSt → PcSt) : (s.modPc i f).net = s.net := rfl
@[simp] theorem State.modPc_host (s : State) (i : Nat) (f : PcSt → PcSt) : (s.modPc i f).host = s.host := rfl
@[simp] theorem State.modPc_fab (s : State) (i : Nat) (f : PcSt → PcSt) : (s.modPc i f).fab = s.fab := rfl
@[simp] theorem State.modPc_rl (s : State) (i : Nat) (f : PcSt → PcSt) : (s.modPc i f).rl = s.rl := rfl
@[simp] theorem State.modPc_pwr (s : State) (i : Nat) (f : PcSt → PcSt) : (s.modPc i f).pwr = s.pwr := rfl
@[simp] theorem State.modPc_ticks (s : State) (i : Nat) (f : PcSt → PcSt) : (s.modPc i f).ticks = s.ticks := rfl
@[simp] theorem State.modPc_free (s : State) (i : Nat) (f : PcSt → PcSt) : (s.modPc i f).free = s.free := rfl
@[simp] theorem State.modPc_out (s : State) (i : Nat) (f : PcSt → PcSt) : (s.modPc i f).out = s.out := rfl
@[simp] theorem State.modPc_pending (s : State) (i : Nat) (f : PcSt → PcSt) : (s.modPc i f).pending = s.pending := rfl

@[simp] theorem State.setRws_regs_rw (s : State) (o : Nat) (w : Word) : (s.setRws o w).regs.rw = s.regs.rw := rfl
@[simp] theorem State.setRws_regs_cnt (s : State) (o : Nat) (w : Word) : (s.setRws o w).regs.cnt = s.regs.cnt := rfl
@[simp] theorem State.setRw_regs_rws (s : State) (o : Nat) (w : Word) : (s.setRw o w).regs.rws = s.regs.rws := rfl
@[simp] theorem State.setRw_regs_cnt (s : State) (o : Nat) (w : Word) : (s.setRw o w).regs.cnt = s.regs.cnt := rfl
@[simp] theorem State.bumpN_regs_rws (s : State) (o n : Nat) : (s.bumpN o n).regs.rws = s.regs.rws := rfl
@[simp] theorem State.bumpN_regs_rw (s : State) (o n : Nat) : (s.bumpN o n).regs.rw = s.regs.rw := rfl
@[simp] theorem State.bump_regs_rws (s : State) (o : Nat) : (s.bump o).regs.rws = s.regs.rws := rfl
@[simp] theorem State.bump_regs_rw (s : State) (o : Nat) : (s.bump o).regs.rw = s.regs.rw := rfl
@[simp] theorem State.clearCnt_regs_rws (s : State) (o : Nat) : (s.clearCnt o).regs.rws = s.regs.rws := rfl
@[simp] theorem State.clearCnt_regs_rw (s : State) (o : Nat) : (s.clearCnt o).regs.rw = s.regs.rw := rfl

/-- A part changed is what a read of it gives, and the others stay. -/
theorem State.port_modPort (s : State) (p q : Nat) (f : Port → Port) :
    (s.modPort p f).port q = if p = q ∧ q < s.ports.length then f (s.port q) else s.port q := getD_modAt ..

theorem State.view_modView (s : State) (p q : Nat) (f : View → View) :
    (s.modView p f).view q = if p = q ∧ q < s.sc.views.length then f (s.view q) else s.view q := getD_modAt ..

theorem State.fence_modFence (s : State) (p q : Nat) (f : Fence → Fence) :
    (s.modFence p f).fence q = if p = q ∧ q < s.sc.fences.length then f (s.fence q) else s.fence q := getD_modAt ..

theorem State.surf_modSurf (s : State) (p q : Nat) (f : Surf → Surf) :
    (s.modSurf p f).surf q = if p = q ∧ q < s.host.surfs.length then f (s.surf q) else s.surf q := getD_modAt ..

theorem State.flow_modFlow (s : State) (p q : Nat) (f : Flow → Flow) :
    (s.modFlow p f).flow q = if p = q ∧ q < s.net.flows.length then f (s.flow q) else s.flow q := getD_modAt ..

theorem State.sub_modSub (s : State) (p q : Nat) (f : SubPort → SubPort) :
    (s.modSub p f).sub q = if p = q ∧ q < s.net.subs.length then f (s.sub q) else s.sub q := getD_modAt ..

theorem State.ptp_modPtp (s : State) (p q : Nat) (f : PtpSlot → PtpSlot) :
    (s.modPtp p f).ptp q = if p = q ∧ q < s.tb.ptp.length then f (s.ptp q) else s.ptp q := getD_modAt ..

theorem State.rport_modRport (s : State) (p q : Nat) (f : RPort → RPort) :
    (s.modRport p f).rport q = if p = q ∧ q < s.rl.ports.length then f (s.rport q) else s.rport q := getD_modAt ..

theorem State.stk_modStk (s : State) (p q : Nat) (f : StackSt → StackSt) :
    (s.modStk p f).mem.stk q = if p = q ∧ q < s.mem.stks.length then f (s.mem.stk q) else s.mem.stk q := getD_modAt ..

theorem State.pc_modPc (s : State) (p q : Nat) (f : PcSt → PcSt) :
    (s.modPc p f).mem.pc q = if p = q ∧ q < s.mem.pcs.length then f (s.mem.pc q) else s.mem.pc q := getD_modAt ..

/-- The RWS, RW and W1C stores: a read of what was written, and of anything else. -/
theorem State.rws_setRws (s : State) (off o : Nat) (w : Word) (h : s.wf) :
    (s.setRws off w).rws o = if o = off then w else s.rws o := by
  unfold State.rws State.setRws
  split
  · subst o
    exact Sparse.get_set_same _ _ h.1
  · exact Sparse.get_set_other _ _ ‹_› h.1

theorem State.rw_setRw (s : State) (off o : Nat) (w : Word) (h : s.wf) : (s.setRw off w).rw o = if o = off then w else s.rw o := by
  unfold State.rw State.setRw
  split
  · subst o
    exact Sparse.get_set_same _ _ h.2.1
  · exact Sparse.get_set_other _ _ ‹_› h.2.1

theorem State.cnt_bumpN (s : State) (off n o : Nat) (h : s.wf) :
    (s.bumpN off n).cnt o = if o = off then min maxU32 (s.cnt off + n) else s.cnt o := by
  unfold State.cnt State.bumpN cntAdd
  split
  · subst o
    rw [Sparse.get_set_same _ _ h.2.2.1]
    exact Nat.mod_eq_of_lt (Nat.lt_of_le_of_lt (Nat.min_le_left _ _) (by decide))
  · rw [Sparse.get_set_other _ _ ‹_› h.2.2.1]

/-- A cleared counter keeps what the present tick has counted. -/
theorem State.cnt_clearCnt (s : State) (off o : Nat) (h : s.wf) : (s.clearCnt off).cnt o =
    if o = off then (Sparse.get (fun _ => 0#32) s.regs.cnt off - Sparse.get (fun _ => 0#32) s.regs.cnt0 off).toNat else s.cnt o := by
  unfold State.cnt State.clearCnt
  split
  · subst o
    rw [Sparse.get_set_same _ _ h.2.2.1]
  · rw [Sparse.get_set_other _ _ ‹_› h.2.2.1]

end Sys2Proof.Machine
end

