-- ==== Sys2Proof/Laws/Keeps.lean ====
section
/-! SUPPORT. The relation every operation's spec lemma is stated with: which parts the operation may change, and that what must last
lasts. Its lemmas for the ways operations are put together. -/

namespace Sys2Proof.Machine

/-- The parts outside `m` (a set of parts as bits) are the same, and everything that must last lasts. -/
structure Keeps (m : Nat) (s t : State) : Prop where
  lasting : Lasting s t
  same : ∀ p : Part, m.testBit p.code = false → p.same s t
  lock : m.testBit 25 = false → s.wf → SealHolds (fun _ => false) s t
  lockX : m.testBit 26 = false → s.wf → SealHolds openAfterSeal s t

theorem SealHolds.of_eq {o : Nat → Bool} {s t : State} (h : t.boot.sealWhen = s.boot.sealWhen) (k : t.regs.rws = s.regs.rws) :
    SealHolds o s t := fun _ => ⟨h, fun off _ => by unfold State.rws; rw [k]⟩

theorem SealHolds.refl {o : Nat → Bool} {s : State} : SealHolds o s s := .of_eq rfl rfl

theorem SealHolds.trans {o : Nat → Bool} {s t u : State} (h : SealHolds o s t) (k : SealHolds o t u) : SealHolds o s u := fun hs =>
  have ht := h hs
  have hu := k (by rw [ht.1]; exact hs)
  ⟨hu.1.trans ht.1, fun off ho => (hu.2 off ho).trans (ht.2 off ho)⟩

theorem SealHolds.weak {o : Nat → Bool} {s t : State} (h : SealHolds (fun _ => false) s t) : SealHolds o s t := fun hs =>
  ⟨(h hs).1, fun off _ => (h hs).2 off rfl⟩

theorem Lasting.refl (s : State) : Lasting s s :=
  ⟨rfl, rfl, rfl, ⟨rfl, rfl, rfl, rfl⟩, id, List.prefix_rfl, Nat.le_refl _, id, id⟩

theorem Lasting.trans {s t u : State} (h : Lasting s t) (k : Lasting t u) : Lasting s u :=
  ⟨k.variant.trans h.variant, k.ticks.trans h.ticks, k.pending.trans h.pending,
    ⟨k.factory.1.trans h.factory.1, k.factory.2.1.trans h.factory.2.1, k.factory.2.2.1.trans h.factory.2.2.1,
      k.factory.2.2.2.trans h.factory.2.2.2⟩,
    fun r => k.retired (h.retired r), h.sent.trans k.sent, Nat.le_trans h.drawn k.drawn, fun o => k.queues (h.queues o), fun w => k.wf (h.wf w)⟩

theorem Part.same_trans {p : Part} {s t u : State} (h : p.same s t) (k : p.same t u) : p.same s u := by
  cases p <;> first | exact k.trans h | exact ⟨k.1.trans h.1, k.2.trans h.2⟩

theorem Part.same_refl {p : Part} {s : State} : p.same s s := by
  cases p <;> first | rfl | exact ⟨rfl, rfl⟩

theorem Keeps.refl {m : Nat} {s : State} : Keeps m s s :=
  ⟨.refl s, fun _ _ => Part.same_refl, fun _ _ => .refl, fun _ _ => .refl⟩

/-- An operation after others: its parts lie within the whole's. -/
theorem Keeps.andThen {m b : Nat} {s t u : State} (h : Keeps m s t) (k : Keeps b t u) (hb : b &&& m = b) : Keeps m s u := by
  have hm : ∀ i, m.testBit i = false → b.testBit i = false := fun i hi => by rw [← hb, Nat.testBit_and, hi, Bool.and_false]
  exact ⟨h.lasting.trans k.lasting, fun p hp => Part.same_trans (h.same p hp) (k.same p (hm _ hp)),
    fun hi w => (h.lock hi w).trans (k.lock (hm _ hi) (h.lasting.wf w)), fun hi w => (h.lockX hi w).trans (k.lockX (hm _ hi) (h.lasting.wf w))⟩

theorem Keeps.mono {m b : Nat} {s t : State} (k : Keeps b s t) (hb : b &&& m = b) : Keeps m s t := Keeps.refl.andThen k hb

theorem Keeps.ite {m : Nat} {s a b : State} {c : Prop} [Decidable c] (ha : c → Keeps m s a) (hb : ¬ c → Keeps m s b) :
    Keeps m s (if c then a else b) := by
  split
  · exact ha ‹_›
  · exact hb ‹_›

theorem Keeps.foldl {α : Type} {m : Nat} {s t : State} {f : State → α → State} {l : List α} (h : Keeps m s t)
    (hf : ∀ t x, Keeps m s t → Keeps m s (f t x)) : Keeps m s (l.foldl f t) := by
  induction l generalizing t with
  | nil => exact h
  | cons a l ih => exact ih (hf _ _ h)

theorem Keeps.foldlMem {α : Type} {m : Nat} {s t : State} {f : State → α → State} {l : List α} (h : Keeps m s t)
    (hf : ∀ t x, x ∈ l → Keeps m s t → Keeps m s (f t x)) : Keeps m s (l.foldl f t) := by
  induction l generalizing t with
  | nil => exact h
  | cons a l ih => exact ih (hf _ _ (.head _) h) fun t x hx k => hf t x (.tail _ hx) k

theorem Keeps.fst {α : Type} {m : Nat} {s a : State} {e : State × α} {b : α} (h : Keeps m s e.1) (he : e = (a, b)) : Keeps m s a := by
  subst he
  exact h

theorem Keeps.snd {α : Type} {m : Nat} {s a : State} {e : α × State} {b : α} (h : Keeps m s e.2) (he : e = (b, a)) : Keeps m s a := by
  subst he
  exact h

/-- The same of every next state a command answers. -/
def Answers (m : Nat) (s : State) (o : Host.Outcome State Fault Refusal) : Prop := ∀ t, o = .next t → Keeps m s t

theorem Answers.next {m : Nat} {s t : State} (h : Keeps m s t) : Answers m s (.next t) := fun _ ht => by
  cases ht
  exact h

theorem Answers.refused {m : Nat} {s : State} {r : Refusal} : Answers m s (.refused r) := fun _ ht => by
  cases ht

theorem Answers.ite {m : Nat} {s : State} {a b : Host.Outcome State Fault Refusal} {c : Prop} [Decidable c] (ha : c → Answers m s a)
    (hb : ¬ c → Answers m s b) : Answers m s (if c then a else b) := by
  split
  · exact ha ‹_›
  · exact hb ‹_›

theorem Answers.mono {m b : Nat} {s : State} {o : Host.Outcome State Fault Refusal} (k : Answers b s o) (hb : b &&& m = b) :
    Answers m s o := fun t ht => (k t ht).mono hb

theorem Answers.andThen {m b : Nat} {s t : State} {o : Host.Outcome State Fault Refusal} (h : Keeps m s t) (k : Answers b t o)
    (hb : b &&& m = b) : Answers m s o := fun u hu => h.andThen (k u hu) hb

/-- The same of an operation that answers a state beside something else, or none. -/
def KeepsL {α : Type} (m : Nat) (s : State) (e : State × α) : Prop := Keeps m s e.1
def KeepsR {α : Type} (m : Nat) (s : State) (e : α × State) : Prop := Keeps m s e.2
def KeepsO (m : Nat) (s : State) (o : Option State) : Prop := ∀ t, o = some t → Keeps m s t
def KeepsOR {α : Type} (m : Nat) (s : State) (o : Option (α × State)) : Prop := ∀ a t, o = some (a, t) → Keeps m s t

theorem KeepsL.ite {α : Type} {m : Nat} {s : State} {a b : State × α} {c : Prop} [Decidable c] (ha : c → KeepsL m s a) (hb : ¬ c → KeepsL m s b) :
    KeepsL m s (if c then a else b) := by
  split
  · exact ha ‹_›
  · exact hb ‹_›

theorem KeepsL.andThen {α : Type} {m b : Nat} {s t : State} {e : State × α} (h : Keeps m s t) (k : KeepsL b t e) (hb : b &&& m = b) : KeepsL m s e :=
  Keeps.andThen h k hb

theorem KeepsR.ite {α : Type} {m : Nat} {s : State} {a b : α × State} {c : Prop} [Decidable c] (ha : c → KeepsR m s a) (hb : ¬ c → KeepsR m s b) :
    KeepsR m s (if c then a else b) := by
  split
  · exact ha ‹_›
  · exact hb ‹_›

theorem KeepsR.andThen {α : Type} {m b : Nat} {s t : State} {e : α × State} (h : Keeps m s t) (k : KeepsR b t e) (hb : b &&& m = b) : KeepsR m s e :=
  Keeps.andThen h k hb

theorem KeepsO.ite {m : Nat} {s : State} {a b : Option State} {c : Prop} [Decidable c] (ha : c → KeepsO m s a) (hb : ¬ c → KeepsO m s b) :
    KeepsO m s (if c then a else b) := by
  split
  · exact ha ‹_›
  · exact hb ‹_›

theorem KeepsO.andThen {m b : Nat} {s t : State} {e : Option State} (h : Keeps m s t) (k : KeepsO b t e) (hb : b &&& m = b) : KeepsO m s e :=
  fun u hu => Keeps.andThen h (k u hu) hb

theorem KeepsO.some {m : Nat} {s t : State} (h : Keeps m s t) : KeepsO m s (some t) := fun u hu => by
  cases hu
  exact h

theorem KeepsO.none {m : Nat} {s : State} : KeepsO m s none := fun u hu => by
  cases hu

theorem KeepsOR.ite {α : Type} {m : Nat} {s : State} {a b : Option (α × State)} {c : Prop} [Decidable c] (ha : c → KeepsOR m s a) (hb : ¬ c → KeepsOR m s b) :
    KeepsOR m s (if c then a else b) := by
  split
  · exact ha ‹_›
  · exact hb ‹_›

theorem KeepsOR.andThen {α : Type} {m b : Nat} {s t : State} {e : Option (α × State)} (h : Keeps m s t) (k : KeepsOR b t e) (hb : b &&& m = b) : KeepsOR m s e :=
  fun a u hu => Keeps.andThen h (k a u hu) hb

theorem KeepsOR.some {α : Type} {m : Nat} {s t : State} {a : α} (h : Keeps m s t) : KeepsOR m s (some (a, t)) := fun b u hu => by
  cases hu
  exact h

theorem KeepsOR.none {α : Type} {m : Nat} {s : State} : KeepsOR (α := α) m s none := fun a u hu => by
  cases hu

theorem KeepsL.mk {α : Type} {m : Nat} {s t : State} {a : α} (h : Keeps m s t) : KeepsL m s (t, a) := h
theorem KeepsR.mk {α : Type} {m : Nat} {s t : State} {a : α} (h : Keeps m s t) : KeepsR m s (a, t) := h

theorem Keeps.flt {v : State} {x : _} : Keeps 16 v { v with flt := x } :=
  ⟨⟨rfl, rfl, rfl, ⟨rfl, rfl, rfl, rfl⟩, id, List.prefix_rfl, Nat.le_refl _, id, id⟩, fun p hp => (by cases p <;> first | rfl | exact ⟨rfl, rfl⟩ | cases hp), fun _ _ => .of_eq rfl rfl, fun _ _ => .of_eq rfl rfl⟩

theorem Keeps.hk {v : State} {x : _} : Keeps 32 v { v with hk := x } :=
  ⟨⟨rfl, rfl, rfl, ⟨rfl, rfl, rfl, rfl⟩, id, List.prefix_rfl, Nat.le_refl _, id, id⟩, fun p hp => (by cases p <;> first | rfl | exact ⟨rfl, rfl⟩ | cases hp), fun _ _ => .of_eq rfl rfl, fun _ _ => .of_eq rfl rfl⟩

theorem Keeps.sec {v : State} {x : _} : Keeps 512 v { v with sec := x } :=
  ⟨⟨rfl, rfl, rfl, ⟨rfl, rfl, rfl, rfl⟩, id, List.prefix_rfl, Nat.le_refl _, id, id⟩, fun p hp => (by cases p <;> first | rfl | exact ⟨rfl, rfl⟩ | cases hp), fun _ _ => .of_eq rfl rfl, fun _ _ => .of_eq rfl rfl⟩

theorem Keeps.cfg {v : State} {x : _} : Keeps 1024 v { v with cfg := x } :=
  ⟨⟨rfl, rfl, rfl, ⟨rfl, rfl, rfl, rfl⟩, id, List.prefix_rfl, Nat.le_refl _, id, id⟩, fun p hp => (by cases p <;> first | rfl | exact ⟨rfl, rfl⟩ | cases hp), fun _ _ => .of_eq rfl rfl, fun _ _ => .of_eq rfl rfl⟩

theorem Keeps.tb {v : State} {x : _} : Keeps 2048 v { v with tb := x } :=
  ⟨⟨rfl, rfl, rfl, ⟨rfl, rfl, rfl, rfl⟩, id, List.prefix_rfl, Nat.le_refl _, id, id⟩, fun p hp => (by cases p <;> first | rfl | exact ⟨rfl, rfl⟩ | cases hp), fun _ _ => .of_eq rfl rfl, fun _ _ => .of_eq rfl rfl⟩

theorem Keeps.tl {v : State} {x : _} : Keeps 4096 v { v with tl := x } :=
  ⟨⟨rfl, rfl, rfl, ⟨rfl, rfl, rfl, rfl⟩, id, List.prefix_rfl, Nat.le_refl _, id, id⟩, fun p hp => (by cases p <;> first | rfl | exact ⟨rfl, rfl⟩ | cases hp), fun _ _ => .of_eq rfl rfl, fun _ _ => .of_eq rfl rfl⟩

theorem Keeps.sc {v : State} {x : _} : Keeps 8192 v { v with sc := x } :=
  ⟨⟨rfl, rfl, rfl, ⟨rfl, rfl, rfl, rfl⟩, id, List.prefix_rfl, Nat.le_refl _, id, id⟩, fun p hp => (by cases p <;> first | rfl | exact ⟨rfl, rfl⟩ | cases hp), fun _ _ => .of_eq rfl rfl, fun _ _ => .of_eq rfl rfl⟩

theorem Keeps.warm {v : State} {x : _} : Keeps 16384 v { v with warm := x } :=
  ⟨⟨rfl, rfl, rfl, ⟨rfl, rfl, rfl, rfl⟩, id, List.prefix_rfl, Nat.le_refl _, id, id⟩, fun p hp => (by cases p <;> first | rfl | exact ⟨rfl, rfl⟩ | cases hp), fun _ _ => .of_eq rfl rfl, fun _ _ => .of_eq rfl rfl⟩

theorem Keeps.ports {v : State} {x : _} : Keeps 32768 v { v with ports := x } :=
  ⟨⟨rfl, rfl, rfl, ⟨rfl, rfl, rfl, rfl⟩, id, List.prefix_rfl, Nat.le_refl _, id, id⟩, fun p hp => (by cases p <;> first | rfl | exact ⟨rfl, rfl⟩ | cases hp), fun _ _ => .of_eq rfl rfl, fun _ _ => .of_eq rfl rfl⟩

theorem Keeps.tiles {v : State} {x : _} : Keeps 65536 v { v with tiles := x } :=
  ⟨⟨rfl, rfl, rfl, ⟨rfl, rfl, rfl, rfl⟩, id, List.prefix_rfl, Nat.le_refl _, id, id⟩, fun p hp => (by cases p <;> first | rfl | exact ⟨rfl, rfl⟩ | cases hp), fun _ _ => .of_eq rfl rfl, fun _ _ => .of_eq rfl rfl⟩

theorem Keeps.net {v : State} {x : _} : Keeps 131072 v { v with net := x } :=
  ⟨⟨rfl, rfl, rfl, ⟨rfl, rfl, rfl, rfl⟩, id, List.prefix_rfl, Nat.le_refl _, id, id⟩, fun p hp => (by cases p <;> first | rfl | exact ⟨rfl, rfl⟩ | cases hp), fun _ _ => .of_eq rfl rfl, fun _ _ => .of_eq rfl rfl⟩

theorem Keeps.host {v : State} {x : _} : Keeps 262144 v { v with host := x } :=
  ⟨⟨rfl, rfl, rfl, ⟨rfl, rfl, rfl, rfl⟩, id, List.prefix_rfl, Nat.le_refl _, id, id⟩, fun p hp => (by cases p <;> first | rfl | exact ⟨rfl, rfl⟩ | cases hp), fun _ _ => .of_eq rfl rfl, fun _ _ => .of_eq rfl rfl⟩

theorem Keeps.fab {v : State} {x : _} : Keeps 1048576 v { v with fab := x } :=
  ⟨⟨rfl, rfl, rfl, ⟨rfl, rfl, rfl, rfl⟩, id, List.prefix_rfl, Nat.le_refl _, id, id⟩, fun p hp => (by cases p <;> first | rfl | exact ⟨rfl, rfl⟩ | cases hp), fun _ _ => .of_eq rfl rfl, fun _ _ => .of_eq rfl rfl⟩

theorem Keeps.rl {v : State} {x : _} : Keeps 2097152 v { v with rl := x } :=
  ⟨⟨rfl, rfl, rfl, ⟨rfl, rfl, rfl, rfl⟩, id, List.prefix_rfl, Nat.le_refl _, id, id⟩, fun p hp => (by cases p <;> first | rfl | exact ⟨rfl, rfl⟩ | cases hp), fun _ _ => .of_eq rfl rfl, fun _ _ => .of_eq rfl rfl⟩

theorem Keeps.pwr {v : State} {x : _} : Keeps 4194304 v { v with pwr := x } :=
  ⟨⟨rfl, rfl, rfl, ⟨rfl, rfl, rfl, rfl⟩, id, List.prefix_rfl, Nat.le_refl _, id, id⟩, fun p hp => (by cases p <;> first | rfl | exact ⟨rfl, rfl⟩ | cases hp), fun _ _ => .of_eq rfl rfl, fun _ _ => .of_eq rfl rfl⟩

theorem Keeps.evt {v : State} {x : Evt} (h : v.evt.Ordered → x.Ordered) : Keeps 8 v { v with evt := x } :=
  ⟨⟨rfl, rfl, rfl, ⟨rfl, rfl, rfl, rfl⟩, id, List.prefix_rfl, Nat.le_refl _, h, id⟩, (fun p hp => by cases p <;> first | rfl | exact ⟨rfl, rfl⟩ | cases hp),
    fun _ _ => .of_eq rfl rfl, fun _ _ => .of_eq rfl rfl⟩

theorem Keeps.boot {v : State} {x : Boot} (h : x.sealWhen = v.boot.sealWhen) : Keeps 64 v { v with boot := x } :=
  ⟨⟨rfl, rfl, rfl, ⟨rfl, rfl, rfl, rfl⟩, id, List.prefix_rfl, Nat.le_refl _, id, id⟩, fun p hp => (by cases p <;> first | rfl | exact ⟨rfl, rfl⟩ | cases hp),
    fun _ _ => .of_eq h rfl, fun _ _ => .of_eq h rfl⟩

theorem Keeps.rws {v : State} {l : List (Nat × Word)} (h : v.wf → Sparse.wf rwsReset l = true) :
    Keeps 100663297 v { v with regs := { v.regs with rws := l } } :=
  ⟨⟨rfl, rfl, rfl, ⟨rfl, rfl, rfl, rfl⟩, id, List.prefix_rfl, Nat.le_refl _, id, fun w => ⟨h w, w.2⟩⟩,
    fun p hp => (by cases p <;> first | rfl | exact ⟨rfl, rfl⟩ | cases hp), fun h => (by cases h), fun h => (by cases h)⟩

/-- The RWS file changed where what the mask says of the seal is shown. -/
theorem Keeps.rwsAt {m : Nat} {v : State} {l : List (Nat × Word)} (h : v.wf → Sparse.wf rwsReset l = true)
    (h1 : m.testBit 25 = false → v.wf → SealHolds (fun _ => false) v { v with regs := { v.regs with rws := l } })
    (h2 : m.testBit 26 = false → v.wf → SealHolds openAfterSeal v { v with regs := { v.regs with rws := l } }) (hm : m.testBit 0 = true) :
    Keeps m v { v with regs := { v.regs with rws := l } } :=
  ⟨⟨rfl, rfl, rfl, ⟨rfl, rfl, rfl, rfl⟩, id, List.prefix_rfl, Nat.le_refl _, id, fun w => ⟨h w, w.2⟩⟩,
    fun p hp => (by cases p <;> first | rfl | exact ⟨rfl, rfl⟩ | (rw [show Part.code .rws = 0 from rfl, hm] at hp; cases hp)), h1, h2⟩

theorem Keeps.rw {v : State} {l : List (Nat × Word)} (h : v.wf → Sparse.wf rwReset l = true) :
    Keeps 2 v { v with regs := { v.regs with rw := l } } :=
  ⟨⟨rfl, rfl, rfl, ⟨rfl, rfl, rfl, rfl⟩, id, List.prefix_rfl, Nat.le_refl _, id, fun w => ⟨w.1, h w, w.2.2⟩⟩, fun p hp => (by cases p <;> first | rfl | exact ⟨rfl, rfl⟩ | cases hp), fun _ _ => .of_eq rfl rfl, fun _ _ => .of_eq rfl rfl⟩

theorem Keeps.cnt {v : State} {l : List (Nat × Word)} (h : v.wf → Sparse.wf (fun _ => 0#32) l = true) :
    Keeps 4 v { v with regs := { v.regs with cnt := l } } :=
  ⟨⟨rfl, rfl, rfl, ⟨rfl, rfl, rfl, rfl⟩, id, List.prefix_rfl, Nat.le_refl _, id, fun w => ⟨w.1, w.2.1, h w, w.2.2.2⟩⟩, fun p hp => (by cases p <;> first | rfl | exact ⟨rfl, rfl⟩ | cases hp), fun _ _ => .of_eq rfl rfl, fun _ _ => .of_eq rfl rfl⟩

/-- The counters and what they were as the tick began, changed together. -/
theorem Keeps.cnts {v : State} {l m : List (Nat × Word)} (h : v.wf → Sparse.wf (fun _ => 0#32) l = true)
    (h0 : v.wf → Sparse.wf (fun _ => 0#32) m = true) : Keeps 4 v { v with regs := { v.regs with cnt := l, cnt0 := m } } :=
  ⟨⟨rfl, rfl, rfl, ⟨rfl, rfl, rfl, rfl⟩, id, List.prefix_rfl, Nat.le_refl _, id,
    fun w => ⟨w.1, w.2.1, h w, w.2.2.2.1, w.2.2.2.2.1, w.2.2.2.2.2.1, h0 w⟩⟩, fun p hp => (by cases p <;> first | rfl | exact ⟨rfl, rfl⟩ | cases hp), fun _ _ => .of_eq rfl rfl, fun _ _ => .of_eq rfl rfl⟩

theorem Keeps.evt_cnt {v : State} {x : Evt} {l : List (Nat × Word)} (ho : v.evt.Ordered → x.Ordered) (h : v.wf → Sparse.wf (fun _ => 0#32) l = true) :
    Keeps 12 v { v with evt := x, regs := { v.regs with cnt := l } } :=
  ((Keeps.evt (v := v) (x := x) ho).mono (by rfl)).andThen (Keeps.cnt (v := { v with evt := x }) h) (by rfl)

theorem Keeps.rws_boot {v : State} {x : Boot} {l : List (Nat × Word)} (h : v.wf → Sparse.wf rwsReset l = true)
    (hv : v.boot.sealWhen = .notYet) : Keeps 65 v { v with regs := { v.regs with rws := l }, boot := x } :=
  ⟨⟨rfl, rfl, rfl, ⟨rfl, rfl, rfl, rfl⟩, id, List.prefix_rfl, Nat.le_refl _, id, fun w => ⟨h w, w.2⟩⟩,
    fun p hp => (by cases p <;> first | rfl | exact ⟨rfl, rfl⟩ | cases hp), fun _ _ hs => absurd hv hs, fun _ _ hs => absurd hv hs⟩

theorem Keeps.nvm {v : State} {x : Nvm} (h : Sparse.wf erased v.nvm.flash = true → Sparse.wf erased x.flash = true) :
    Keeps 128 v { v with nvm := x } :=
  ⟨⟨rfl, rfl, rfl, ⟨rfl, rfl, rfl, rfl⟩, id, List.prefix_rfl, Nat.le_refl _, id,
    fun w => ⟨w.1, w.2.1, w.2.2.1, w.2.2.2.1, w.2.2.2.2.1, h w.2.2.2.2.2.1, w.2.2.2.2.2.2⟩⟩, fun p hp => (by cases p <;> first | rfl | exact ⟨rfl, rfl⟩ | cases hp), fun _ _ => .of_eq rfl rfl, fun _ _ => .of_eq rfl rfl⟩

theorem Keeps.mem {v : State} {x : Mem} (h1 : x.bytes = v.mem.bytes) (h2 : x.trained = v.mem.trained) :
    Keeps 524288 v { v with mem := x } :=
  ⟨⟨rfl, rfl, rfl, ⟨rfl, rfl, rfl, rfl⟩, id, List.prefix_rfl, Nat.le_refl _, id,
    fun w => ⟨w.1, w.2.1, w.2.2.1, by simpa only [h1] using w.2.2.2.1, by simpa only [h2] using w.2.2.2.2.1, w.2.2.2.2.2⟩⟩, fun p hp => (by cases p <;> first | rfl | exact ⟨rfl, rfl⟩ | cases hp), fun _ _ => .of_eq rfl rfl, fun _ _ => .of_eq rfl rfl⟩

theorem Keeps.memBytes {v : State} {x : Mem} (h1 : Sparse.wf (fun _ => 0#9) v.mem.bytes = true → Sparse.wf (fun _ => 0#9) x.bytes = true)
    (h2 : x.trained = v.mem.trained) : Keeps 524288 v { v with mem := x } :=
  ⟨⟨rfl, rfl, rfl, ⟨rfl, rfl, rfl, rfl⟩, id, List.prefix_rfl, Nat.le_refl _, id,
    fun w => ⟨w.1, w.2.1, w.2.2.1, h1 w.2.2.2.1, by simpa only [h2] using w.2.2.2.2.1, w.2.2.2.2.2⟩⟩, fun p hp => (by cases p <;> first | rfl | exact ⟨rfl, rfl⟩ | cases hp), fun _ _ => .of_eq rfl rfl, fun _ _ => .of_eq rfl rfl⟩

theorem Keeps.memTrained {v : State} {x : Mem} (h1 : x.bytes = v.mem.bytes)
    (h2 : Sparse.wf rwsReset v.mem.trained = true → Sparse.wf rwsReset x.trained = true) : Keeps 524288 v { v with mem := x } :=
  ⟨⟨rfl, rfl, rfl, ⟨rfl, rfl, rfl, rfl⟩, id, List.prefix_rfl, Nat.le_refl _, id,
    fun w => ⟨w.1, w.2.1, w.2.2.1, by simpa only [h1] using w.2.2.2.1, h2 w.2.2.2.2.1, w.2.2.2.2.2⟩⟩, fun p hp => (by cases p <;> first | rfl | exact ⟨rfl, rfl⟩ | cases hp), fun _ _ => .of_eq rfl rfl, fun _ _ => .of_eq rfl rfl⟩

theorem Keeps.fuses {v : State} {x : Fuses} (h1 : x.vendorHash = v.fuses.vendorHash) (h2 : x.seed = v.fuses.seed)
    (h3 : x.uid = v.fuses.uid) (h4 : x.cert = v.fuses.cert) (h5 : v.fuses.retired = true → x.retired = true) :
    Keeps 256 v { v with fuses := x } :=
  ⟨⟨rfl, rfl, rfl, ⟨h1, h2, h3, h4⟩, h5, List.prefix_rfl, Nat.le_refl _, id, id⟩, fun p hp => (by cases p <;> first | rfl | exact ⟨rfl, rfl⟩ | cases hp), fun _ _ => .of_eq rfl rfl, fun _ _ => .of_eq rfl rfl⟩

theorem Keeps.free {v : State} {x : Nat} (h : v.free ≤ x) : Keeps 8388608 v { v with free := x } :=
  ⟨⟨rfl, rfl, rfl, ⟨rfl, rfl, rfl, rfl⟩, id, List.prefix_rfl, h, id, id⟩, fun p hp => (by cases p <;> first | rfl | exact ⟨rfl, rfl⟩ | cases hp), fun _ _ => .of_eq rfl rfl, fun _ _ => .of_eq rfl rfl⟩

/-- Before the seal nothing is said of what it holds. -/
theorem Keeps.unsealed {m n : Nat} {s t : State} (h : Keeps m s t) (hs : s.boot.sealWhen = .notYet)
    (hn : ∀ p : Part, n.testBit p.code = false → m.testBit p.code = false) : Keeps n s t :=
  ⟨h.lasting, fun p hp => h.same p (hn p hp), fun _ _ k => absurd hs k, fun _ _ k => absurd hs k⟩

theorem Keeps.boot_nvm {v : State} {x0 : Boot} {x1 : Nvm} (h_boot : x0.sealWhen = v.boot.sealWhen) (h_nvm : Sparse.wf erased v.nvm.flash = true → Sparse.wf erased x1.flash = true) :
    Keeps 192 v { v with boot := x0, nvm := x1 } :=
  (((Keeps.boot (v := v) (x := x0) h_boot).mono (by rfl)).andThen (Keeps.nvm (v := { v with boot := x0 }) (x := x1) h_nvm) (by rfl))

theorem Keeps.boot_sec {v : State} {x0 : Boot} {x1 : Sec} (h_boot : x0.sealWhen = v.boot.sealWhen) :
    Keeps 576 v { v with boot := x0, sec := x1 } :=
  (((Keeps.boot (v := v) (x := x0) h_boot).mono (by rfl)).andThen (Keeps.sec (v := { v with boot := x0 }) (x := x1)) (by rfl))

theorem Keeps.evt_flt {v : State} {x0 : Evt} {x1 : Flt} (h_evt : v.evt.Ordered → x0.Ordered) :
    Keeps 24 v { v with evt := x0, flt := x1 } :=
  (((Keeps.evt (v := v) (x := x0) h_evt).mono (by rfl)).andThen (Keeps.flt (v := { v with evt := x0 }) (x := x1)) (by rfl))

theorem Keeps.evt_host {v : State} {x0 : Evt} {x1 : HostPort} (h_evt : v.evt.Ordered → x0.Ordered) :
    Keeps 262152 v { v with evt := x0, host := x1 } :=
  (((Keeps.evt (v := v) (x := x0) h_evt).mono (by rfl)).andThen (Keeps.host (v := { v with evt := x0 }) (x := x1)) (by rfl))

theorem Keeps.flt_boot {v : State} {x0 : Flt} {x1 : Boot} (h_boot : x1.sealWhen = v.boot.sealWhen) :
    Keeps 80 v { v with flt := x0, boot := x1 } :=
  (((Keeps.flt (v := v) (x := x0)).mono (by rfl)).andThen (Keeps.boot (v := { v with flt := x0 }) (x := x1) h_boot) (by rfl))

theorem Keeps.flt_ports {v : State} {x0 : Flt} {x1 : List Port} :
    Keeps 32784 v { v with flt := x0, ports := x1 } :=
  (((Keeps.flt (v := v) (x := x0)).mono (by rfl)).andThen (Keeps.ports (v := { v with flt := x0 }) (x := x1)) (by rfl))

theorem Keeps.hk_pwr {v : State} {x0 : Hk} {x1 : Power} :
    Keeps 4194336 v { v with hk := x0, pwr := x1 } :=
  (((Keeps.hk (v := v) (x := x0)).mono (by rfl)).andThen (Keeps.pwr (v := { v with hk := x0 }) (x := x1)) (by rfl))

theorem Keeps.mem_fab {v : State} {x0 : Mem} {x1 : Fab} (hm1 : x0.bytes = v.mem.bytes) (hm2 : x0.trained = v.mem.trained) :
    Keeps 1572864 v { v with mem := x0, fab := x1 } :=
  (((Keeps.mem (v := v) (x := x0) hm1 hm2).mono (by rfl)).andThen (Keeps.fab (v := { v with mem := x0 }) (x := x1)) (by rfl))

theorem Keeps.nvm_free {v : State} {x0 : Nvm} {x1 : Nat} (h_nvm : Sparse.wf erased v.nvm.flash = true → Sparse.wf erased x0.flash = true) (h_free : v.free ≤ x1) :
    Keeps 8388736 v { v with nvm := x0, free := x1 } :=
  (((Keeps.nvm (v := v) (x := x0) h_nvm).mono (by rfl)).andThen (Keeps.free (v := { v with nvm := x0 }) (x := x1) h_free) (by rfl))

theorem Keeps.nvm_host {v : State} {x0 : Nvm} {x1 : HostPort} (h_nvm : Sparse.wf erased v.nvm.flash = true → Sparse.wf erased x0.flash = true) :
    Keeps 262272 v { v with nvm := x0, host := x1 } :=
  (((Keeps.nvm (v := v) (x := x0) h_nvm).mono (by rfl)).andThen (Keeps.host (v := { v with nvm := x0 }) (x := x1)) (by rfl))

theorem Keeps.nvm_pwr {v : State} {x0 : Nvm} {x1 : Power} (h_nvm : Sparse.wf erased v.nvm.flash = true → Sparse.wf erased x0.flash = true) :
    Keeps 4194432 v { v with nvm := x0, pwr := x1 } :=
  (((Keeps.nvm (v := v) (x := x0) h_nvm).mono (by rfl)).andThen (Keeps.pwr (v := { v with nvm := x0 }) (x := x1)) (by rfl))

theorem Keeps.sc_rl {v : State} {x0 : Scenes} {x1 : Relay} :
    Keeps 2105344 v { v with sc := x0, rl := x1 } :=
  (((Keeps.sc (v := v) (x := x0)).mono (by rfl)).andThen (Keeps.rl (v := { v with sc := x0 }) (x := x1)) (by rfl))

theorem Keeps.tb_tl {v : State} {x0 : TimeBase} {x1 : Timeline} :
    Keeps 6144 v { v with tb := x0, tl := x1 } :=
  (((Keeps.tb (v := v) (x := x0)).mono (by rfl)).andThen (Keeps.tl (v := { v with tb := x0 }) (x := x1)) (by rfl))

theorem Keeps.tl_sc {v : State} {x0 : Timeline} {x1 : Scenes} :
    Keeps 12288 v { v with tl := x0, sc := x1 } :=
  (((Keeps.tl (v := v) (x := x0)).mono (by rfl)).andThen (Keeps.sc (v := { v with tl := x0 }) (x := x1)) (by rfl))

theorem Keeps.boot_nvm_cfg {v : State} {x0 : Boot} {x1 : Nvm} {x2 : Cfg} (h_boot : x0.sealWhen = v.boot.sealWhen) (h_nvm : Sparse.wf erased v.nvm.flash = true → Sparse.wf erased x1.flash = true) :
    Keeps 1216 v { v with boot := x0, nvm := x1, cfg := x2 } :=
  ((((Keeps.boot (v := v) (x := x0) h_boot).mono (by rfl)).andThen (Keeps.nvm (v := { v with boot := x0 }) (x := x1) h_nvm) (by rfl)).andThen (Keeps.cfg (v := { v with boot := x0, nvm := x1 }) (x := x2)) (by rfl))

theorem Keeps.boot_tl_fab {v : State} {x0 : Boot} {x1 : Timeline} {x2 : Fab} (h_boot : x0.sealWhen = v.boot.sealWhen) :
    Keeps 1052736 v { v with boot := x0, tl := x1, fab := x2 } :=
  ((((Keeps.boot (v := v) (x := x0) h_boot).mono (by rfl)).andThen (Keeps.tl (v := { v with boot := x0 }) (x := x1)) (by rfl)).andThen (Keeps.fab (v := { v with boot := x0, tl := x1 }) (x := x2)) (by rfl))

theorem Keeps.boot_tl_rl {v : State} {x0 : Boot} {x1 : Timeline} {x2 : Relay} (h_boot : x0.sealWhen = v.boot.sealWhen) :
    Keeps 2101312 v { v with boot := x0, tl := x1, rl := x2 } :=
  ((((Keeps.boot (v := v) (x := x0) h_boot).mono (by rfl)).andThen (Keeps.tl (v := { v with boot := x0 }) (x := x1)) (by rfl)).andThen (Keeps.rl (v := { v with boot := x0, tl := x1 }) (x := x2)) (by rfl))

theorem Keeps.boot_tl_sc {v : State} {x0 : Boot} {x1 : Timeline} {x2 : Scenes} (h_boot : x0.sealWhen = v.boot.sealWhen) :
    Keeps 12352 v { v with boot := x0, tl := x1, sc := x2 } :=
  ((((Keeps.boot (v := v) (x := x0) h_boot).mono (by rfl)).andThen (Keeps.tl (v := { v with boot := x0 }) (x := x1)) (by rfl)).andThen (Keeps.sc (v := { v with boot := x0, tl := x1 }) (x := x2)) (by rfl))

theorem Keeps.evt_flt_nvm {v : State} {x0 : Evt} {x1 : Flt} {x2 : Nvm} (h_evt : v.evt.Ordered → x0.Ordered) (h_nvm : Sparse.wf erased v.nvm.flash = true → Sparse.wf erased x2.flash = true) :
    Keeps 152 v { v with evt := x0, flt := x1, nvm := x2 } :=
  ((((Keeps.evt (v := v) (x := x0) h_evt).mono (by rfl)).andThen (Keeps.flt (v := { v with evt := x0 }) (x := x1)) (by rfl)).andThen (Keeps.nvm (v := { v with evt := x0, flt := x1 }) (x := x2) h_nvm) (by rfl))

theorem Keeps.flt_boot_tl {v : State} {x0 : Flt} {x1 : Boot} {x2 : Timeline} (h_boot : x1.sealWhen = v.boot.sealWhen) :
    Keeps 4176 v { v with flt := x0, boot := x1, tl := x2 } :=
  ((((Keeps.flt (v := v) (x := x0)).mono (by rfl)).andThen (Keeps.boot (v := { v with flt := x0 }) (x := x1) h_boot) (by rfl)).andThen (Keeps.tl (v := { v with flt := x0, boot := x1 }) (x := x2)) (by rfl))

theorem Keeps.flt_tl_sc {v : State} {x0 : Flt} {x1 : Timeline} {x2 : Scenes} :
    Keeps 12304 v { v with flt := x0, tl := x1, sc := x2 } :=
  ((((Keeps.flt (v := v) (x := x0)).mono (by rfl)).andThen (Keeps.tl (v := { v with flt := x0 }) (x := x1)) (by rfl)).andThen (Keeps.sc (v := { v with flt := x0, tl := x1 }) (x := x2)) (by rfl))

theorem Keeps.sc_net_host {v : State} {x0 : Scenes} {x1 : Net} {x2 : HostPort} :
    Keeps 401408 v { v with sc := x0, net := x1, host := x2 } :=
  ((((Keeps.sc (v := v) (x := x0)).mono (by rfl)).andThen (Keeps.net (v := { v with sc := x0 }) (x := x1)) (by rfl)).andThen (Keeps.host (v := { v with sc := x0, net := x1 }) (x := x2)) (by rfl))

theorem Keeps.tb_sc_ports {v : State} {x0 : TimeBase} {x1 : Scenes} {x2 : List Port} :
    Keeps 43008 v { v with tb := x0, sc := x1, ports := x2 } :=
  ((((Keeps.tb (v := v) (x := x0)).mono (by rfl)).andThen (Keeps.sc (v := { v with tb := x0 }) (x := x1)) (by rfl)).andThen (Keeps.ports (v := { v with tb := x0, sc := x1 }) (x := x2)) (by rfl))

theorem Keeps.tb_sc_rl {v : State} {x0 : TimeBase} {x1 : Scenes} {x2 : Relay} :
    Keeps 2107392 v { v with tb := x0, sc := x1, rl := x2 } :=
  ((((Keeps.tb (v := v) (x := x0)).mono (by rfl)).andThen (Keeps.sc (v := { v with tb := x0 }) (x := x1)) (by rfl)).andThen (Keeps.rl (v := { v with tb := x0, sc := x1 }) (x := x2)) (by rfl))

theorem Keeps.tl_sc_fab {v : State} {x0 : Timeline} {x1 : Scenes} {x2 : Fab} :
    Keeps 1060864 v { v with tl := x0, sc := x1, fab := x2 } :=
  ((((Keeps.tl (v := v) (x := x0)).mono (by rfl)).andThen (Keeps.sc (v := { v with tl := x0 }) (x := x1)) (by rfl)).andThen (Keeps.fab (v := { v with tl := x0, sc := x1 }) (x := x2)) (by rfl))

theorem Keeps.boot_tl_sc_tiles {v : State} {x0 : Boot} {x1 : Timeline} {x2 : Scenes} {x3 : List Tile} (h_boot : x0.sealWhen = v.boot.sealWhen) :
    Keeps 77888 v { v with boot := x0, tl := x1, sc := x2, tiles := x3 } :=
  (((((Keeps.boot (v := v) (x := x0) h_boot).mono (by rfl)).andThen (Keeps.tl (v := { v with boot := x0 }) (x := x1)) (by rfl)).andThen (Keeps.sc (v := { v with boot := x0, tl := x1 }) (x := x2)) (by rfl)).andThen (Keeps.tiles (v := { v with boot := x0, tl := x1, sc := x2 }) (x := x3)) (by rfl))

theorem Keeps.hk_boot_mem_fab_pwr {v : State} {x0 : Hk} {x1 : Boot} {x2 : Mem} {x3 : Fab} {x4 : Power} (h_boot : x1.sealWhen = v.boot.sealWhen) (hm1 : x2.bytes = v.mem.bytes) (hm2 : x2.trained = v.mem.trained) :
    Keeps 5767264 v { v with hk := x0, boot := x1, mem := x2, fab := x3, pwr := x4 } :=
  ((((((Keeps.hk (v := v) (x := x0)).mono (by rfl)).andThen (Keeps.boot (v := { v with hk := x0 }) (x := x1) h_boot) (by rfl)).andThen (Keeps.mem (v := { v with hk := x0, boot := x1 }) (x := x2) hm1 hm2) (by rfl)).andThen (Keeps.fab (v := { v with hk := x0, boot := x1, mem := x2 }) (x := x3)) (by rfl)).andThen (Keeps.pwr (v := { v with hk := x0, boot := x1, mem := x2, fab := x3 }) (x := x4)) (by rfl))

theorem Keeps.flt_boot_tl_warm_fab_pwr {v : State} {x0 : Flt} {x1 : Boot} {x2 : Timeline} {x3 : Warm} {x4 : Fab} {x5 : Power} (h_boot : x1.sealWhen = v.boot.sealWhen) :
    Keeps 5263440 v { v with flt := x0, boot := x1, tl := x2, warm := x3, fab := x4, pwr := x5 } :=
  (((((((Keeps.flt (v := v) (x := x0)).mono (by rfl)).andThen (Keeps.boot (v := { v with flt := x0 }) (x := x1) h_boot) (by rfl)).andThen (Keeps.tl (v := { v with flt := x0, boot := x1 }) (x := x2)) (by rfl)).andThen (Keeps.warm (v := { v with flt := x0, boot := x1, tl := x2 }) (x := x3)) (by rfl)).andThen (Keeps.fab (v := { v with flt := x0, boot := x1, tl := x2, warm := x3 }) (x := x4)) (by rfl)).andThen (Keeps.pwr (v := { v with flt := x0, boot := x1, tl := x2, warm := x3, fab := x4 }) (x := x5)) (by rfl))

/-- The parts that a frame names, from the bits. -/
theorem Keeps.only {m : Nat} {l : List Part} {s t : State} (h : Keeps m s t) (hm : m &&& partMask l = m)
    (hl : ∀ p : Part, p ∉ l → (partMask l).testBit p.code = false) : Only l s t :=
  ⟨h.lasting.variant, h.lasting.ticks, h.lasting.pending, fun p hp => h.same p (by
    rw [← hm, Nat.testBit_and, hl p hp, Bool.and_false])⟩

end Sys2Proof.Machine
end

