-- ==== Sys2Proof/Laws/KeepOps.lean ====
section
/-! SUPPORT. One lemma for each operation of Machine/Ops.lean: the parts it may change, and that what must last lasts. -/

namespace Sys2Proof.Machine

theorem State.setRws_keeps {s off w} : Keeps 100663297 s (State.setRws s off w) :=
  Keeps.rws fun h => Sparse.set_wf _ _ h.1

/-- An RWS field set that the seal leaves open. -/
theorem State.setRws_open_keeps {s off w} (ho : openAfterSeal off = true) : Keeps 0x2000001 s (State.setRws s off w) := by
  refine Keeps.rwsAt (fun h => Sparse.set_wf _ _ h.1) (fun h => (by cases h)) (fun _ h _ => ⟨rfl, fun o hn => ?_⟩) (by rfl)
  show writtenBits o ((s.setRws off w).rws o) = _
  rw [State.rws_setRws s _ _ _ h, if_neg]
  rintro rfl
  rw [ho] at hn
  cases hn

/-- An RWS field set where only bits outside those a write alone changes differ. -/
theorem State.setRws_bits_keeps {s off w} (ho : writtenBits off w = writtenBits off (s.rws off)) :
    Keeps 1 s (State.setRws s off w) := by
  refine Keeps.rwsAt (fun h => Sparse.set_wf _ _ h.1) (fun _ h _ => ⟨rfl, fun o _ => ?_⟩) (fun _ h _ => ⟨rfl, fun o _ => ?_⟩) (by rfl) <;>
  · show writtenBits o ((s.setRws off w).rws o) = _
    rw [State.rws_setRws s _ _ _ h]
    split
    · subst o
      exact ho
    · rfl

theorem State.setRw_keeps {s off w} : Keeps 2 s (State.setRw s off w) :=
  Keeps.rw fun h => Sparse.set_wf _ _ h.2.1

theorem State.bumpN_keeps {s off n} : Keeps 4 s (State.bumpN s off n) :=
  Keeps.cnt fun h => Sparse.set_wf _ _ h.2.2.1

theorem State.bump_keeps {s a1} : Keeps 4 s (State.bump s a1) := by
  unfold State.bump
  refine Keeps.andThen ?_ State.bumpN_keeps (by rfl)
  exact Keeps.refl

theorem State.clearCnt_keeps {s off} : Keeps 4 s (State.clearCnt s off) :=
  Keeps.cnts (fun h => Sparse.set_wf _ _ h.2.2.1) (fun h => Sparse.set_wf _ _ h.2.2.2.2.2.2)

theorem State.send_keeps {s o} : Keeps 16777216 s (State.send s o) :=
  ⟨⟨rfl, rfl, rfl, ⟨rfl, rfl, rfl, rfl⟩, id, List.prefix_append _ _, Nat.le_refl _, id, id⟩,
    fun p hp => (by cases p <;> first | rfl | exact ⟨rfl, rfl⟩ | cases hp), fun _ _ => .of_eq rfl rfl, fun _ _ => .of_eq rfl rfl⟩

theorem State.draw_keeps {s} : KeepsR 8388608 s (State.draw s) := Keeps.free (Nat.le_add_right _ _)

theorem State.modPort_keeps {s a1 a2} : Keeps 32768 s (State.modPort s a1 a2) := by
  unfold State.modPort
  refine Keeps.andThen ?_ (Keeps.ports) (by rfl)
  exact Keeps.refl

theorem State.modTile_keeps {s a1 a2 a3} : Keeps 65536 s (State.modTile s a1 a2 a3) := by
  unfold State.modTile
  refine Keeps.andThen ?_ (Keeps.tiles) (by rfl)
  exact Keeps.refl

theorem State.modView_keeps {s a1 a2} : Keeps 8192 s (State.modView s a1 a2) := by
  unfold State.modView
  refine Keeps.andThen ?_ (Keeps.sc) (by rfl)
  exact Keeps.refl

theorem State.modFence_keeps {s a1 a2} : Keeps 8192 s (State.modFence s a1 a2) := by
  unfold State.modFence
  refine Keeps.andThen ?_ (Keeps.sc) (by rfl)
  exact Keeps.refl

theorem State.modSurf_keeps {s a1 a2} : Keeps 262144 s (State.modSurf s a1 a2) := by
  unfold State.modSurf
  refine Keeps.andThen ?_ (Keeps.host) (by rfl)
  exact Keeps.refl

theorem State.modFlow_keeps {s a1 a2} : Keeps 131072 s (State.modFlow s a1 a2) := by
  unfold State.modFlow
  refine Keeps.andThen ?_ (Keeps.net) (by rfl)
  exact Keeps.refl

theorem State.modSub_keeps {s a1 a2} : Keeps 131072 s (State.modSub s a1 a2) := by
  unfold State.modSub
  refine Keeps.andThen ?_ (Keeps.net) (by rfl)
  exact Keeps.refl

theorem State.modPtp_keeps {s a1 a2} : Keeps 2048 s (State.modPtp s a1 a2) := by
  unfold State.modPtp
  refine Keeps.andThen ?_ (Keeps.tb) (by rfl)
  exact Keeps.refl

theorem State.modRport_keeps {s a1 a2} : Keeps 2097152 s (State.modRport s a1 a2) := by
  unfold State.modRport
  refine Keeps.andThen ?_ (Keeps.rl) (by rfl)
  exact Keeps.refl

theorem State.modStk_keeps {s a1 a2} : Keeps 524288 s (State.modStk s a1 a2) := by
  unfold State.modStk
  refine Keeps.andThen ?_ (Keeps.mem (by rfl) (by rfl)) (by rfl)
  exact Keeps.refl

theorem State.modPc_keeps {s a1 a2} : Keeps 524288 s (State.modPc s a1 a2) := by
  unfold State.modPc
  refine Keeps.andThen ?_ (Keeps.mem (by rfl) (by rfl)) (by rfl)
  exact Keeps.refl

end Sys2Proof.Machine
end

