-- ==== Sys2Proof/Laws/KeepEvents.lean ====
section
/-! SUPPORT. One lemma for each operation of Machine/Events.lean: the parts it may change, and that what must last lasts. -/

namespace Sys2Proof.Machine

theorem Evt.toHost_wf {e c r} (h : Sparse.wf (fun _ => 0#32) c = true) : Sparse.wf (fun _ => 0#32) (Evt.toHost e c r).2 = true := by
  unfold Evt.toHost
  split
  · exact h
  · exact Sparse.set_wf _ _ h

theorem Evt.toCore_wf {e c k st r} (h : Sparse.wf (fun _ => 0#32) c = true) : Sparse.wf (fun _ => 0#32) (Evt.toCore e c k st r).2.1 = true := by
  unfold Evt.toCore
  dsimp only
  split
  · exact h
  · exact Sparse.set_wf _ _ h

/-- Posting a record keeps the counter file canonical. -/
theorem Evt.post_wf {route core k e c r} (h : Sparse.wf (fun _ => 0#32) c = true) :
    Sparse.wf (fun _ => 0#32) (Evt.post route core k e c r).2 = true := by
  induction k generalizing e c r with
  | zero => exact h
  | succ k ih =>
    unfold Evt.post
    extract_lets +onlyGivenNames -merge -useContext -underBinder w
    have h1 : Sparse.wf (fun _ => 0#32) (if wbit w 6 = true then e.toHost c r else (e, c)).2 = true := by
      split
      · exact Evt.toHost_wf h
      · exact h
    generalize (if wbit w 6 = true then e.toHost c r else (e, c)) = a at h1 ⊢
    obtain ⟨e1, c1⟩ := a
    dsimp only at h1 ⊢
    split
    · exact h1
    · generalize hc : (if (wfld w 1 0 != 0 && coreSt (core (wfld w 1 0)) == 3) = true then cntAdd c1 Reg.evtRedirected 1 else c1) = c2
      have h2 : Sparse.wf (fun _ => 0#32) c2 = true := by
        subst hc
        split
        · exact Sparse.set_wf _ _ h1
        · exact h1
      generalize (if (wfld w 1 0 != 0 && coreSt (core (wfld w 1 0)) == 3) = true then
        ({ e1 with cores := modAt e1.cores (wfld w 1 0) fun q => { q with redirect := true } } : Evt) else e1) = e2
      generalize (if (wfld w 1 0 != 0 && coreSt (core (wfld w 1 0)) == 3) = true then 0 else wfld w 1 0) = k2
      have h3 := @Evt.toCore_wf e2 c2 k2 (coreSt (core k2)) r h2
      generalize Evt.toCore e2 c2 k2 (coreSt (core k2)) r = a at h3 ⊢
      obtain ⟨e3, c3, o⟩ := a
      dsimp only at h3 ⊢
      have h4 : ∀ b : Bool, Sparse.wf (fun _ => 0#32) (if b = true then Evt.post route core k e3 c3
          (r.child Ev.evtRedirectBegan route [Word.of (wfld w 1 0)]) else (e3, c3)).2 = true := by
        intro b
        split
        · exact ih h3
        · exact h3
      split
      · exact ih (h4 _)
      · exact h4 _

theorem Evt.post_eq_wf {route core k e c r e' c'} (he : Evt.post route core k e c r = (e', c'))
    (h : Sparse.wf (fun _ => 0#32) c = true) : Sparse.wf (fun _ => 0#32) c' = true := by
  have hw := @Evt.post_wf route core k e c r h
  rw [he] at hw
  exact hw

theorem State.evtW_keeps {s src code args} : Keeps 12 s (State.evtW s src code args) := by
  unfold State.evtW
  split
  rename_i e c he
  exact Keeps.evt_cnt (fun h => Evt.post_eq_ordered he h) fun h => Evt.post_eq_wf he h.2.2.1

theorem State.evtAt_keeps {s a1 a2 a3} : Keeps 12 s (State.evtAt s a1 a2 a3) := by
  unfold State.evtAt
  refine Keeps.andThen ?_ State.evtW_keeps (by rfl)
  exact Keeps.refl

theorem State.ev_keeps {s a1 a2} : Keeps 12 s (State.ev s a1 a2) := by
  unfold State.ev
  refine Keeps.andThen ?_ State.evtAt_keeps (by rfl)
  exact Keeps.refl

theorem State.writeIndex_keeps {s} : Keeps 16777224 s (State.writeIndex s) := by
  unfold State.writeIndex
  extract_lets +onlyGivenNames -merge -useContext -underBinder v1
  have h1 : Keeps 16777224 s v1 := by
    unfold v1
    refine Keeps.andThen ?_ State.send_keeps (by rfl)
    exact Keeps.refl
  refine Keeps.andThen ?_ (Keeps.evt (by exact fun h => h)) (by rfl)
  exact h1

theorem State.writeRec_keeps {s a1} : Keeps 16777224 s (State.writeRec s a1) := by
  unfold State.writeRec
  extract_lets +onlyGivenNames -merge -useContext -underBinder v1
  extract_lets +onlyGivenNames -merge -useContext -underBinder v2
  have h2 : Keeps 16777224 s v2 := by
    unfold v2
    refine Keeps.andThen ?_ State.send_keeps (by rfl)
    exact Keeps.refl
  refine Keeps.andThen ?_ (Keeps.evt (by exact fun h => h)) (by rfl)
  exact h2

theorem State.dropNotice_keeps {s} : Keeps 16777228 s (State.dropNotice s) := by
  unfold State.dropNotice
  extract_lets +onlyGivenNames -merge -useContext -underBinder d0 d u
  have hu : Keeps 16777228 s u := Keeps.refl.andThen State.writeRec_keeps (by rfl)
  clear_value u
  split
  rename_i e c he
  exact hu.andThen (Keeps.evt_cnt (fun h => Evt.post_eq_ordered he h) fun h => Evt.post_eq_wf he h.2.2.1) (by rfl)

theorem State.ringPut_keeps {s r rest} (hr : s.evt.hostQ = r :: rest) : Keeps 16777224 s (State.ringPut s r rest) := by
  unfold State.ringPut
  extract_lets +onlyGivenNames -merge -useContext -underBinder v1
  have h1 : Keeps 16777224 s v1 := Keeps.refl.andThen State.writeRec_keeps (by rfl)
  refine h1.andThen (Keeps.evt fun h => ?_) (by rfl)
  have hv : v1.evt.hostQ = r :: rest := hr
  have ho := h.1
  have hl := h.2.1.1
  rw [hv] at ho hl
  exact ⟨(List.pairwise_cons.1 ho).2, ⟨Nat.le_of_succ_le hl, h.2.1.2⟩, h.2.2⟩

theorem State.takeCut_keeps {s} : Keeps 12 s (State.takeCut s) := by
  unfold State.takeCut
  split
  · exact Keeps.refl
  · rename_i r rest hr
    refine Keeps.ite (fun _ => Keeps.refl) (fun hc => ?_)
    simp only [Bool.or_eq_true, decide_eq_true_eq, not_or] at hc
    refine Keeps.evt_cnt (fun h => ⟨insertRec_inOrder h.1, ⟨?_, h.2.1.2⟩, h.2.2⟩) (fun h => Sparse.set_wf _ _ h.2.2.1)
    rw [insertRec_length]
    omega

theorem State.ringStep_keeps {s} : Keeps 16777228 s (State.ringStep s) := by
  unfold State.ringStep
  refine Keeps.ite (fun _ => ?_) (fun _ => ?_)
  · exact Keeps.refl
  · split
    · exact Keeps.refl
    · rename_i r rest hr
      refine Keeps.ite (fun _ => Keeps.refl) (fun _ => ?_)
      extract_lets +onlyGivenNames -merge -useContext -underBinder late
      extract_lets +onlyGivenNames -merge -useContext -underBinder w v1
      have h1 : Keeps 16777228 s v1 := by
        unfold v1
        refine Keeps.ite (fun _ => ?_) (fun _ => Keeps.ite (fun _ => ?_) (fun _ => ?_))
        · refine Keeps.andThen ?_ (State.ringPut_keeps hr) (by rfl)
          exact Keeps.refl
        · have h0 : Keeps 16777228 s { s with evt := { s.evt with lostNext := s.evt.cutLost } } := Keeps.refl.andThen (Keeps.evt fun h => h) (by rfl)
          exact (h0.andThen (State.ringPut_keeps hr) (by rfl)).andThen State.takeCut_keeps (by rfl)
        · refine Keeps.andThen ?_ State.dropNotice_keeps (by rfl)
          exact Keeps.refl
      refine Keeps.ite (fun _ => ?_) (fun _ => ?_)
      · refine Keeps.andThen ?_ State.writeIndex_keeps (by rfl)
        exact h1
      · exact h1

theorem execHostRingWrite_keeps {s} : Answers 16777228 s (execHostRingWrite s) := by
  unfold execHostRingWrite
  refine Answers.next ?_
  refine Keeps.andThen ?_ State.ringStep_keeps (by rfl)
  exact Keeps.refl

theorem execIndexBlockTimer_keeps {s} : Answers 16777224 s (execIndexBlockTimer s) := by
  unfold execIndexBlockTimer
  refine Answers.ite (fun _ => ?_) (fun _ => ?_)
  · refine Answers.next ?_
    refine Keeps.andThen ?_ State.writeIndex_keeps (by rfl)
    exact Keeps.refl
  · refine Answers.next ?_
    exact Keeps.refl

theorem State.writeCi_keeps {s a1} : Keeps 2 s (State.writeCi s a1) := by
  unfold State.writeCi
  refine Keeps.andThen ?_ State.setRw_keeps (by rfl)
  exact Keeps.refl

theorem execEvtHostCiWrite_keeps {a0 s} : Answers 2 s (execEvtHostCiWrite a0 s) := by
  unfold execEvtHostCiWrite
  refine Answers.next ?_
  refine Keeps.andThen ?_ State.writeCi_keeps (by rfl)
  exact Keeps.refl

theorem State.pop_keeps {s c fast} : Keeps 8 s (State.pop s c fast) := by
  unfold State.pop
  split
  · exact Keeps.refl
  · rename_i r rest hr
    refine Keeps.refl.andThen (Keeps.evt fun h => h.modCores fun q hq he => ?_) (by rfl)
    have hc := h.2.2 q hq
    subst he
    unfold CoreQ.queue at hr
    unfold CoreQ.setQueue
    split
    · rename_i hf
      rw [if_pos hf] at hr
      rw [hr] at hc
      exact ⟨hc.1, hc.2.1, (List.pairwise_cons.1 hc.2.2.1).2, Nat.le_of_succ_le hc.2.2.2⟩
    · rename_i hf
      rw [if_neg hf] at hr
      rw [hr] at hc
      exact ⟨(List.pairwise_cons.1 hc.1).2, Nat.le_of_succ_le hc.2.1, hc.2.2⟩

theorem State.writePop_keeps {s a1 a2 a3} : Keeps 8 s (State.writePop s a1 a2 a3) := by
  unfold State.writePop
  split
  · exact Keeps.refl
  · refine Keeps.ite (fun _ => ?_) (fun _ => ?_)
    · refine Keeps.andThen ?_ State.pop_keeps (by rfl)
      exact Keeps.refl
    · exact Keeps.refl

theorem execEvtPop_keeps {a0 a1 a2 s} : Answers 8 s (execEvtPop a0 a1 a2 s) := by
  unfold execEvtPop
  refine Answers.next ?_
  refine Keeps.andThen ?_ State.writePop_keeps (by rfl)
  exact Keeps.refl

theorem State.writeDone_keeps {s who c value} : Keeps 12 s (State.writeDone s who c value) := by
  unfold State.writeDone
  split
  · exact Keeps.refl
  · refine Keeps.ite (fun _ => Keeps.refl) (fun _ => Keeps.ite (fun _ => ?_) (fun _ => ?_))
    · exact Keeps.refl.andThen (Keeps.evt fun h => h.modCores fun q hq _ => h.2.2 q hq) (by rfl)
    refine Keeps.refl.andThen (Keeps.cnt ?_) (by rfl)
    exact fun h => Sparse.set_wf _ _ h.2.2.1

theorem execEvtDone_keeps {a0 a1 a2 s} : Answers 12 s (execEvtDone a0 a1 a2 s) := by
  unfold execEvtDone
  refine Answers.next ?_
  refine Keeps.andThen ?_ State.writeDone_keeps (by rfl)
  exact Keeps.refl

theorem State.moveRec_keeps {s r} : Keeps 12 s (State.moveRec s r) := by
  unfold State.moveRec
  extract_lets +onlyGivenNames -merge -useContext -underBinder t
  have ht : Keeps 12 s t := Keeps.refl.andThen State.bump_keeps (by rfl)
  clear_value t
  split
  rename_i e c o he
  have hu : Keeps 12 s { t with evt := e, regs := { t.regs with cnt := c } } := by
    refine ht.andThen (Keeps.evt_cnt (fun h => ?_) ?_) (by rfl)
    · have hc := @Evt.toCore_ordered t.evt t.regs.cnt 0 (coreSt (t.rws (Reg.evtCore 0))) r h
      rw [he] at hc
      exact hc
    intro h
    have hc := @Evt.toCore_wf t.evt t.regs.cnt 0 (coreSt (t.rws (Reg.evtCore 0))) r h.2.2.1
    rw [he] at hc
    exact hc
  refine Keeps.ite (fun _ => ?_) (fun _ => hu)
  exact hu.andThen State.ev_keeps (by rfl)

theorem State.coreOffline_keeps {s a1} : Keeps 12 s (State.coreOffline s a1) := by
  unfold State.coreOffline
  extract_lets +onlyGivenNames -merge -useContext -underBinder v1
  extract_lets +onlyGivenNames -merge -useContext -underBinder v2
  extract_lets +onlyGivenNames -merge -useContext -underBinder v3
  extract_lets +onlyGivenNames -merge -useContext -underBinder v4
  have h4 : Keeps 12 s v4 := by
    unfold v4
    refine Keeps.andThen ?_ (Keeps.evt fun h => h.modCores fun q hq _ => ⟨List.Pairwise.nil, Nat.zero_le _, List.Pairwise.nil, Nat.zero_le _⟩) (by rfl)
    exact Keeps.refl
  extract_lets +onlyGivenNames -merge -useContext -underBinder v5
  have h5 : Keeps 12 s v5 := by
    unfold v5
    refine Keeps.foldl ?_ (fun t6 x6 h6 => ?_)
    · exact h4
    · refine Keeps.andThen ?_ State.moveRec_keeps (by rfl)
      exact h6
  refine Keeps.ite (fun _ => ?_) (fun _ => ?_)
  · exact h5
  · extract_lets +onlyGivenNames -merge -useContext -underBinder v7
    extract_lets +onlyGivenNames -merge -useContext -underBinder v8
    have h8 : Keeps 12 s v8 := by
      unfold v8
      refine Keeps.andThen ?_ (Keeps.evt fun h => h.modCores fun q hq _ => h.2.2 q hq) (by rfl)
      exact h5
    refine Keeps.andThen ?_ State.ev_keeps (by rfl)
    exact h8

theorem Word.state_bits (w : Word) (n : Nat) : wput w 31 30 n &&& 0x3FFFFFFF#32 = w &&& 0x3FFFFFFF#32 := by
  apply BitVec.eq_of_toNat_eq
  have h1 : ∀ v : Word, (v &&& 0x3FFFFFFF#32).toNat = v.toNat % 2 ^ 30 := fun v => Nat.and_two_pow_sub_one_eq_mod v.toNat 30
  rw [h1, h1]
  unfold wput wfld Word.of
  have := w.isLt
  simp only [BitVec.toNat_ofNat, Nat.shiftRight_eq_div_pow]
  omega

theorem writtenBits_core {c n : Nat} (h : c < 4) (w : Word) : writtenBits (Reg.evtCore c) (wput w 31 30 n) = writtenBits (Reg.evtCore c) w := by
  have : ∀ c < 4, ∀ v : Word, writtenBits (Reg.evtCore c) v = v &&& 0x3FFFFFFF#32 := by
    intro c hc v
    have : c = 0 ∨ c = 1 ∨ c = 2 ∨ c = 3 := by omega
    rcases this with rfl | rfl | rfl | rfl <;> rfl
  rw [this c h, this c h, Word.state_bits]

theorem State.setCoreState_keeps {s c n} (hc : c < 4 := by omega) : Keeps 13 s (State.setCoreState s c n) := by
  unfold State.setCoreState
  extract_lets +onlyGivenNames -merge -useContext -underBinder v1 v2 v3 v4 v5 v6 v7
  have h3 : Keeps 13 s v3 := Keeps.refl.andThen (State.setRws_bits_keeps (writtenBits_core hc _)) (by rfl)
  have h7 : Keeps 13 s v7 := h3.andThen (Keeps.evt fun h => h.modCores fun q hq _ => h.2.2 q hq) (by rfl)
  refine Keeps.ite (fun _ => ?_) (fun _ => h7)
  exact h7.andThen State.coreOffline_keeps (by rfl)

theorem State.violation_keeps {s a1 a2} : Keeps 68 s (State.violation s a1 a2) := by
  unfold State.violation
  extract_lets +onlyGivenNames -merge -useContext -underBinder v1
  have h1 : Keeps 68 s v1 := by
    unfold v1
    refine Keeps.andThen ?_ State.bump_keeps (by rfl)
    exact Keeps.refl
  refine Keeps.andThen ?_ (Keeps.boot (by rfl)) (by rfl)
  exact h1

theorem State.tried_keeps {s a1 a2 a3} : Keeps 64 s (State.tried s a1 a2 a3) := by
  unfold State.tried
  refine Keeps.andThen ?_ (Keeps.boot (by rfl)) (by rfl)
  exact Keeps.refl

theorem State.clearOverflow_keeps {s a1 a2} : Keeps 8 s (State.clearOverflow s a1 a2) := by
  unfold State.clearOverflow
  refine Keeps.ite (fun _ => ?_) (fun _ => ?_)
  · refine Keeps.andThen ?_ (Keeps.evt fun h => h.modCores fun q hq _ => h.2.2 q hq) (by rfl)
    exact Keeps.refl
  · exact Keeps.refl

theorem openAfterSeal_core {c : Nat} (h : c < 4) : openAfterSeal (Reg.evtCore c) = true := by
  unfold openAfterSeal Reg.evtCore
  simp only [Bool.or_eq_true, Bool.and_eq_true, decide_eq_true_eq]
  omega

theorem State.writeEvtCore_keeps {s a1 a2 a3} (hc : a2 < 4 := by omega) : Keeps 33554509 s (State.writeEvtCore s a1 a2 a3) := by
  unfold State.writeEvtCore
  extract_lets +onlyGivenNames -merge -useContext -underBinder v1
  extract_lets +onlyGivenNames -merge -useContext -underBinder v2
  extract_lets +onlyGivenNames -merge -useContext -underBinder v3
  extract_lets +onlyGivenNames -merge -useContext -underBinder v4
  extract_lets +onlyGivenNames -merge -useContext -underBinder v5
  have h5 : Keeps 33554509 s v5 := by
    unfold v5
    refine Keeps.andThen ?_ State.clearOverflow_keeps (by rfl)
    exact Keeps.refl
  refine Keeps.ite (fun _ => ?_) (fun _ => ?_)
  · refine Keeps.andThen ?_ State.setCoreState_keeps (by rfl)
    refine Keeps.andThen ?_ (State.setRws_open_keeps (openAfterSeal_core hc)) (by rfl)
    exact h5.andThen State.tried_keeps (by rfl)
  · refine Keeps.ite (fun _ => ?_) (fun _ => ?_)
    · refine Keeps.andThen ?_ State.violation_keeps (by rfl)
      exact h5
    · exact h5

theorem execEvtCoreStateWrite_keeps {a0 a1 a2 s} : Answers 33554509 s (execEvtCoreStateWrite a0 a1 a2 s) := by
  unfold execEvtCoreStateWrite
  refine Answers.next ?_
  refine Keeps.andThen ?_ State.writeEvtCore_keeps (by rfl)
  exact Keeps.refl

theorem State.writeEvtGlobal_keeps {s a1 a2} : Keeps 33554501 s (State.writeEvtGlobal s a1 a2) := by
  unfold State.writeEvtGlobal
  extract_lets +onlyGivenNames -merge -useContext -underBinder v1
  extract_lets +onlyGivenNames -merge -useContext -underBinder v2
  refine Keeps.ite (fun _ => ?_) (fun _ => ?_)
  · refine Keeps.andThen ?_ (State.setRws_open_keeps (by rfl)) (by rfl)
    exact Keeps.refl.andThen State.tried_keeps (by rfl)
  · refine Keeps.ite (fun _ => ?_) (fun _ => ?_)
    · refine Keeps.andThen ?_ State.violation_keeps (by rfl)
      exact Keeps.refl
    · exact Keeps.refl

theorem execEvtLineEnableWrite_keeps {a0 a1 a2 s} : Answers 33554509 s (execEvtLineEnableWrite a0 a1 a2 s) := by
  unfold execEvtLineEnableWrite
  split
  · refine Answers.next ?_
    refine Keeps.andThen ?_ State.writeEvtCore_keeps (by rfl)
    exact Keeps.refl
  · refine Answers.next ?_
    refine Keeps.andThen ?_ State.writeEvtGlobal_keeps (by rfl)
    exact Keeps.refl

theorem openAfterSeal_route {v : Variant} {n : Nat} (h : ¬ v.routeAbsent n = true) : openAfterSeal (Reg.evtRoute n) = true := by
  have hn : n < 261 := Nat.lt_of_not_le fun hc =>
    h (by unfold Variant.routeAbsent; simp only [Bool.or_eq_true, decide_eq_true_eq]; omega)
  unfold openAfterSeal Reg.evtRoute
  simp only [Bool.or_eq_true, Bool.and_eq_true, decide_eq_true_eq]
  omega

theorem State.writeRoute_keeps {s a1 a2 a3} : Keeps 33554509 s (State.writeRoute s a1 a2 a3) := by
  unfold State.writeRoute
  refine Keeps.ite (fun _ => ?_) (fun ha => ?_)
  · exact Keeps.refl
  · extract_lets +onlyGivenNames -merge -useContext -underBinder v1
    extract_lets +onlyGivenNames -merge -useContext -underBinder v2
    refine Keeps.ite (fun _ => ?_) (fun _ => ?_)
    · extract_lets +onlyGivenNames -merge -useContext -underBinder w1 w2
      refine Keeps.andThen ?_ (Keeps.evt fun h => h) (by rfl)
      refine Keeps.andThen ?_ (State.setRws_open_keeps (openAfterSeal_route ha)) (by rfl)
      exact Keeps.refl.andThen State.tried_keeps (by rfl)
    · refine Keeps.ite (fun _ => ?_) (fun _ => ?_)
      · refine Keeps.andThen ?_ State.violation_keeps (by rfl)
        exact Keeps.refl
      · exact Keeps.refl

theorem execEvtRouteWrite_keeps {a0 a1 a2 s} : Answers 33554509 s (execEvtRouteWrite a0 a1 a2 s) := by
  unfold execEvtRouteWrite
  refine Answers.next ?_
  refine Keeps.andThen ?_ State.writeRoute_keeps (by rfl)
  exact Keeps.refl

end Sys2Proof.Machine
end

