-- ==== Sys2Proof/Laws/KeepLanes.lean ====
section
/-! SUPPORT. One lemma for each operation of Machine/Lanes.lean: the parts it may change, and that what must last lasts. -/

namespace Sys2Proof.Machine

theorem State.sendRows_keeps {s a1 a2} : Keeps 32768 s (State.sendRows s a1 a2) := by
  unfold State.sendRows
  extract_lets +onlyGivenNames -merge -useContext -underBinder v1
  extract_lets +onlyGivenNames -merge -useContext -underBinder v2
  extract_lets +onlyGivenNames -merge -useContext -underBinder v3
  extract_lets +onlyGivenNames -merge -useContext -underBinder v4
  refine Keeps.andThen ?_ State.modPort_keeps (by rfl)
  exact Keeps.refl

theorem State.sendMark_keeps {s a1 a2 a3 a4} : Keeps 16809984 s (State.sendMark s a1 a2 a3 a4) := by
  unfold State.sendMark
  extract_lets +onlyGivenNames -merge -useContext -underBinder v1
  extract_lets +onlyGivenNames -merge -useContext -underBinder v2
  extract_lets +onlyGivenNames -merge -useContext -underBinder v3
  extract_lets +onlyGivenNames -merge -useContext -underBinder v4
  refine Keeps.andThen ?_ State.modPort_keeps (by rfl)
  refine Keeps.andThen ?_ State.send_keeps (by rfl)
  exact Keeps.refl

theorem State.sendLocal_keeps {s a1 a2} : Keeps 16809984 s (State.sendLocal s a1 a2) := by
  unfold State.sendLocal
  refine Keeps.andThen ?_ State.modPort_keeps (by rfl)
  refine Keeps.andThen ?_ State.send_keeps (by rfl)
  exact Keeps.refl

theorem State.sendTrain_keeps {s a1 a2} : Keeps 16809984 s (State.sendTrain s a1 a2) := by
  unfold State.sendTrain
  refine Keeps.andThen ?_ State.modPort_keeps (by rfl)
  refine Keeps.andThen ?_ State.send_keeps (by rfl)
  exact Keeps.refl

end Sys2Proof.Machine
end

