-- ==== Sys2Proof/Laws/KeepFrames.lean ====
section
/-! SUPPORT. One lemma for each operation of Machine/Frames.lean: the parts it may change, and that what must last lasts. -/

namespace Sys2Proof.Machine

theorem State.queueFrame_keeps {s a1 a2} : Keeps 32768 s (State.queueFrame s a1 a2) := by
  unfold State.queueFrame
  refine Keeps.andThen ?_ State.modPort_keeps (by rfl)
  exact Keeps.refl

theorem State.holdOn_keeps {s a1 a2} : Keeps 32768 s (State.holdOn s a1 a2) := by
  unfold State.holdOn
  refine Keeps.andThen ?_ State.queueFrame_keeps (by rfl)
  exact Keeps.refl

theorem State.holdAll_keeps {s a1} : Keeps 32768 s (State.holdAll s a1) := by
  unfold State.holdAll
  refine Keeps.foldl ?_ (fun t1 x1 h1 => ?_)
  · exact Keeps.refl
  · refine Keeps.andThen ?_ State.holdOn_keeps (by rfl)
    exact h1

theorem State.restoreLane_keeps {s a1 a2} : Keeps 16809984 s (State.restoreLane s a1 a2) := by
  unfold State.restoreLane
  extract_lets +onlyGivenNames -merge -useContext -underBinder v1
  have h1 : Keeps 16809984 s v1 := by
    unfold v1
    refine Keeps.ite (fun _ => ?_) (fun _ => ?_)
    · exact Keeps.refl
    · refine Keeps.andThen ?_ State.sendLocal_keeps (by rfl)
      refine Keeps.ite (fun _ => ?_) (fun _ => ?_)
      · refine Keeps.andThen ?_ State.sendTrain_keeps (by rfl)
        exact Keeps.refl
      · exact Keeps.refl
  refine Keeps.andThen ?_ State.modPort_keeps (by rfl)
  exact h1

theorem State.abortCal_keeps {s a1} : Keeps 16809984 s (State.abortCal s a1) := by
  unfold State.abortCal
  extract_lets +onlyGivenNames -merge -useContext -underBinder v1
  split
  · exact Keeps.refl
  · refine Keeps.ite (fun _ => ?_) (fun _ => ?_)
    · exact Keeps.refl
    · extract_lets +onlyGivenNames -merge -useContext -underBinder v2
      have h2 : Keeps 16809984 s v2 := by
        unfold v2
        refine Keeps.andThen ?_ State.modPort_keeps (by rfl)
        exact Keeps.refl
      extract_lets +onlyGivenNames -merge -useContext -underBinder v3
      refine Keeps.ite (fun _ => ?_) (fun _ => ?_)
      · refine Keeps.andThen ?_ State.modPort_keeps (by rfl)
        exact h2
      · refine Keeps.ite (fun _ => ?_) (fun _ => ?_)
        · refine Keeps.andThen ?_ State.restoreLane_keeps (by rfl)
          exact h2
        · refine Keeps.andThen ?_ State.modPort_keeps (by rfl)
          exact h2

theorem State.abortCals_keeps {s} : Keeps 16809984 s (State.abortCals s) := by
  unfold State.abortCals
  refine Keeps.foldl ?_ (fun t1 x1 h1 => ?_)
  · exact Keeps.refl
  · refine Keeps.andThen ?_ State.abortCal_keeps (by rfl)
    exact h1

theorem State.stopClock_keeps {s a1} : Keeps 16809984 s (State.stopClock s a1) := by
  unfold State.stopClock
  extract_lets +onlyGivenNames -merge -useContext -underBinder v1
  have h1 : Keeps 16809984 s v1 := by
    unfold v1
    refine Keeps.ite (fun _ => ?_) (fun _ => ?_)
    · refine Keeps.andThen ?_ State.send_keeps (by rfl)
      exact Keeps.refl
    · exact Keeps.refl
  refine Keeps.andThen ?_ State.modPort_keeps (by rfl)
  exact h1

theorem State.stopClocks_keeps {s} : Keeps 16809984 s (State.stopClocks s) := by
  unfold State.stopClocks
  refine Keeps.foldl ?_ (fun t1 x1 h1 => ?_)
  · exact Keeps.refl
  · refine Keeps.andThen ?_ State.stopClock_keeps (by rfl)
    exact h1

end Sys2Proof.Machine
end

