-- ==== Sys2Proof/Laws/KeepJournal.lean ====
section
/-! SUPPORT. One lemma for each operation of Machine/Journal.lean: the parts it may change, and that what must last lasts. -/

namespace Sys2Proof.Machine

theorem State.nvmKick_keeps {s} : Keeps 128 s (State.nvmKick s) := by
  unfold State.nvmKick
  extract_lets +onlyGivenNames -merge -useContext -underBinder v1
  refine Keeps.ite (fun _ => ?_) (fun _ => ?_)
  · exact Keeps.refl
  · split
    · exact Keeps.refl
    · refine Keeps.andThen ?_ (Keeps.nvm (by exact fun w => w)) (by rfl)
      exact Keeps.refl

theorem State.nvmJob_keeps {s a1} : Keeps 128 s (State.nvmJob s a1) := by
  unfold State.nvmJob
  refine Keeps.andThen ?_ State.nvmKick_keeps (by rfl)
  refine Keeps.andThen ?_ (Keeps.nvm (by exact fun w => w)) (by rfl)
  exact Keeps.refl

theorem State.journalRec_keeps {s a1} : Keeps 140 s (State.journalRec s a1) := by
  unfold State.journalRec
  refine Keeps.ite (fun _ => ?_) (fun _ => ?_)
  · exact Keeps.refl
  · refine Keeps.ite (fun _ => ?_) (fun _ => ?_)
    · refine Keeps.andThen ?_ State.nvmKick_keeps (by rfl)
      refine Keeps.andThen ?_ (Keeps.nvm (by exact fun w => w)) (by rfl)
      exact Keeps.refl
    · extract_lets +onlyGivenNames -merge -useContext -underBinder v1
      have h1 : Keeps 140 s v1 := by
        unfold v1
        refine Keeps.andThen ?_ State.bump_keeps (by rfl)
        exact Keeps.refl
      extract_lets +onlyGivenNames -merge -useContext -underBinder v2
      refine Keeps.ite (fun _ => ?_) (fun _ => ?_)
      · refine Keeps.andThen ?_ State.ev_keeps (by rfl)
        refine Keeps.andThen ?_ (Keeps.nvm (by exact fun w => w)) (by rfl)
        exact h1
      · exact h1

theorem State.journal_keeps {s a1 a2 a3} : Keeps 140 s (State.journal s a1 a2 a3) := by
  unfold State.journal
  refine Keeps.andThen ?_ State.journalRec_keeps (by rfl)
  exact Keeps.refl

theorem State.nvmFreeze_keeps {s} : Keeps 128 s (State.nvmFreeze s) := by
  unfold State.nvmFreeze
  extract_lets +onlyGivenNames -merge -useContext -underBinder v1
  extract_lets +onlyGivenNames -merge -useContext -underBinder v2
  refine Keeps.andThen ?_ (Keeps.nvm (by exact fun w => w)) (by rfl)
  exact Keeps.refl

theorem State.stageEnd_keeps {s a1} : Keeps 262284 s (State.stageEnd s a1) := by
  unfold State.stageEnd
  extract_lets +onlyGivenNames -merge -useContext -underBinder v1
  extract_lets +onlyGivenNames -merge -useContext -underBinder v2
  extract_lets +onlyGivenNames -merge -useContext -underBinder v3
  extract_lets +onlyGivenNames -merge -useContext -underBinder v4
  have h4 : Keeps 262284 s v4 := by
    unfold v4
    refine Keeps.andThen ?_ (Keeps.nvm_host (by exact fun w => w)) (by rfl)
    exact Keeps.refl
  extract_lets +onlyGivenNames -merge -useContext -underBinder v5
  have h5 : Keeps 262284 s v5 := by
    unfold v5
    refine Keeps.andThen ?_ State.ev_keeps (by rfl)
    exact h4
  refine Keeps.andThen ?_ State.journal_keeps (by rfl)
  exact h5

theorem State.dgReject_keeps {s a1 a2} : Keeps 12 s (State.dgReject s a1 a2) := by
  unfold State.dgReject
  refine Keeps.andThen ?_ State.ev_keeps (by rfl)
  exact Keeps.refl

theorem State.dgBadTag_keeps {s a1} : Keeps 131084 s (State.dgBadTag s a1) := by
  unfold State.dgBadTag
  extract_lets +onlyGivenNames -merge -useContext -underBinder v1
  have h1 : Keeps 131084 s v1 := by
    unfold v1
    refine Keeps.andThen ?_ State.bump_keeps (by rfl)
    exact Keeps.refl
  extract_lets +onlyGivenNames -merge -useContext -underBinder v2
  refine Keeps.ite (fun _ => ?_) (fun _ => ?_)
  · refine Keeps.andThen ?_ State.dgReject_keeps (by rfl)
    refine Keeps.andThen ?_ (Keeps.net) (by rfl)
    exact h1
  · exact h1

theorem State.dgNote_keeps {s a1} : Keeps 131072 s (State.dgNote s a1) := by
  unfold State.dgNote
  extract_lets +onlyGivenNames -merge -useContext -underBinder v1
  extract_lets +onlyGivenNames -merge -useContext -underBinder v2
  refine Keeps.andThen ?_ (Keeps.net) (by rfl)
  exact Keeps.refl

theorem State.putCnt_keeps {s off n} : Keeps 4 s (State.putCnt s off n) :=
  Keeps.cnt fun h => Sparse.set_wf _ _ h.2.2.1

theorem State.dgUndo_keeps {s} : Keeps 131084 s (State.dgUndo s) := by
  unfold State.dgUndo
  split
  · exact Keeps.refl
  · refine Keeps.ite (fun _ => ?_) (fun _ => ?_)
    · exact Keeps.refl
    · extract_lets +onlyGivenNames -merge -useContext -underBinder v1
      have h1 : Keeps 131084 s v1 := by
        unfold v1
        refine Keeps.foldl ?_ (fun t2 x2 h2 => ?_)
        · exact Keeps.refl
        · refine Keeps.andThen ?_ State.putCnt_keeps (by rfl)
          exact h2
      refine Keeps.foldl ?_ (fun t3 x3 h3 => ?_)
      · refine Keeps.andThen ?_ (Keeps.net) (by rfl)
        exact h1
      · refine Keeps.andThen ?_ State.dgBadTag_keeps (by rfl)
        exact h3

theorem State.zeroise_keeps {s a1} : Keeps 393868 s (State.zeroise s a1) := by
  unfold State.zeroise
  extract_lets +onlyGivenNames -merge -useContext -underBinder v1
  have h1 : Keeps 393868 s v1 := by
    unfold v1
    refine Keeps.andThen ?_ State.dgUndo_keeps (by rfl)
    refine Keeps.andThen ?_ (Keeps.sec) (by rfl)
    exact Keeps.refl
  extract_lets +onlyGivenNames -merge -useContext -underBinder v2
  have h2 : Keeps 393868 s v2 := by
    unfold v2
    refine Keeps.andThen ?_ State.evtW_keeps (by rfl)
    exact h1
  refine Keeps.ite (fun _ => ?_) (fun _ => ?_)
  · refine Keeps.andThen ?_ State.stageEnd_keeps (by rfl)
    exact h2
  · exact h2

end Sys2Proof.Machine
end

