-- ==== Sys2Proof/Laws/KeepHostLink.lean ====
section
/-! SUPPORT. One lemma for each operation of Machine/HostLink.lean: the parts it may change, and that what must last lasts. -/

namespace Sys2Proof.Machine

theorem State.retire_keeps {s a1 a2 a3 a4 a5} : Keeps 12 s (State.retire s a1 a2 a3 a4 a5) := by
  unfold State.retire
  refine Keeps.andThen ?_ State.evtAt_keeps (by rfl)
  exact Keeps.refl

theorem State.healthEvents_keeps {s a1 a2 a3 a4} : Keeps 12 s (State.healthEvents s a1 a2 a3 a4) := by
  unfold State.healthEvents
  extract_lets +onlyGivenNames -merge -useContext -underBinder v1
  extract_lets +onlyGivenNames -merge -useContext -underBinder v2
  have h2 : Keeps 12 s v2 := by
    unfold v2
    refine Keeps.ite (fun _ => ?_) (fun _ => ?_)
    · unfold v1
      refine Keeps.andThen ?_ State.evtAt_keeps (by rfl)
      exact Keeps.refl
    · exact Keeps.refl
  extract_lets +onlyGivenNames -merge -useContext -underBinder v3
  have h3 : Keeps 12 s v3 := by
    unfold v3
    refine Keeps.ite (fun _ => ?_) (fun _ => ?_)
    · unfold v1
      refine Keeps.andThen ?_ State.evtAt_keeps (by rfl)
      exact h2
    · exact h2
  refine Keeps.ite (fun _ => ?_) (fun _ => ?_)
  · unfold v1
    refine Keeps.andThen ?_ State.evtAt_keeps (by rfl)
    exact h3
  · exact h3

theorem State.signScene_keeps {s a1 a2 a3 a4 a5} : KeepsL 12 s (State.signScene s a1 a2 a3 a4 a5) := by
  unfold State.signScene
  extract_lets +onlyGivenNames -merge -useContext -underBinder v1
  extract_lets +onlyGivenNames -merge -useContext -underBinder v2
  refine KeepsL.mk ?_
  refine Keeps.foldl ?_ (fun t3 x3 h3 => ?_)
  · exact Keeps.refl
  · refine Keeps.andThen ?_ State.healthEvents_keeps (by rfl)
    exact h3

theorem State.signSlot_keeps {s a1 a2} : Keeps 8204 s (State.signSlot s a1 a2) := by
  unfold State.signSlot
  refine Keeps.foldl ?_ (fun t1 x1 h1 => ?_)
  · exact Keeps.refl
  · extract_lets +onlyGivenNames -merge -useContext -underBinder v2
    extract_lets +onlyGivenNames -merge -useContext -underBinder v3
    split
    · rename_i t4 y4_1 e4
      have h4 : Keeps 8204 s t4 := by
        refine Keeps.fst (e := _) ?_ e4
        refine KeepsL.andThen ?_ State.signScene_keeps (by rfl)
        exact h1
      split
      · rename_i t5 y5_1 e5
        have h5 : Keeps 8204 s t5 := by
          refine Keeps.fst (e := _) ?_ e5
          refine KeepsL.ite (fun _ => ?_) (fun _ => ?_)
          · refine KeepsL.andThen ?_ State.signScene_keeps (by rfl)
            exact h4
          · refine KeepsL.mk ?_
            exact h4
        refine Keeps.andThen ?_ State.modView_keeps (by rfl)
        exact h5

theorem State.warmTake_keeps {s a1 a2 a3} : Keeps 16384 s (State.warmTake s a1 a2 a3) := by
  unfold State.warmTake
  extract_lets +onlyGivenNames -merge -useContext -underBinder v1
  refine Keeps.andThen ?_ (Keeps.warm) (by rfl)
  exact Keeps.refl

theorem State.storeLine_keeps {s a1 a2 a3 a4 a5} : Keeps 524288 s (State.storeLine s a1 a2 a3 a4 a5) := by
  unfold State.storeLine
  extract_lets +onlyGivenNames -merge -useContext -underBinder v1
  refine Keeps.andThen ?_ (Keeps.memBytes (by intro w; dsimp only; exact hbmWriteList_wf _ _ w) (by rfl)) (by rfl)
  exact Keeps.refl

theorem State.endPull_keeps {s a1 a2 a3} : Keeps 286732 s (State.endPull s a1 a2 a3) := by
  unfold State.endPull
  extract_lets +onlyGivenNames -merge -useContext -underBinder v1
  have h1 : Keeps 286732 s v1 := by
    unfold v1
    refine Keeps.andThen ?_ State.modSurf_keeps (by rfl)
    exact Keeps.refl
  extract_lets +onlyGivenNames -merge -useContext -underBinder v2
  have h2 : Keeps 286732 s v2 := by
    unfold v2
    refine Keeps.andThen ?_ State.signSlot_keeps (by rfl)
    refine Keeps.andThen ?_ State.retire_keeps (by rfl)
    exact h1
  refine Keeps.ite (fun _ => ?_) (fun _ => ?_)
  · refine Keeps.andThen ?_ State.warmTake_keeps (by rfl)
    exact h2
  · exact h2

theorem State.breakPull_keeps {s a1 a2 a3} : Keeps 794636 s (State.breakPull s a1 a2 a3) := by
  unfold State.breakPull
  extract_lets +onlyGivenNames -merge -useContext -underBinder v1
  extract_lets +onlyGivenNames -merge -useContext -underBinder v2
  extract_lets +onlyGivenNames -merge -useContext -underBinder v3
  extract_lets +onlyGivenNames -merge -useContext -underBinder v4
  have h4 : Keeps 794636 s v4 := by
    unfold v4
    refine Keeps.andThen ?_ State.modSurf_keeps (by rfl)
    exact Keeps.refl
  extract_lets +onlyGivenNames -merge -useContext -underBinder v5
  have h5 : Keeps 794636 s v5 := by
    unfold v5
    refine Keeps.foldl ?_ (fun t6 x6 h6 => ?_)
    · exact h4
    · refine Keeps.andThen ?_ State.storeLine_keeps (by rfl)
      exact h6
  extract_lets +onlyGivenNames -merge -useContext -underBinder v7
  have h7 : Keeps 794636 s v7 := by
    unfold v7
    refine Keeps.andThen ?_ State.bump_keeps (by rfl)
    exact h5
  extract_lets +onlyGivenNames -merge -useContext -underBinder v8
  have h8 : Keeps 794636 s v8 := by
    unfold v8
    refine Keeps.andThen ?_ State.evtAt_keeps (by rfl)
    exact h7
  refine Keeps.andThen ?_ State.signSlot_keeps (by rfl)
  refine Keeps.andThen ?_ State.retire_keeps (by rfl)
  exact h8

theorem State.failPull_keeps {s a1} : Keeps 811020 s (State.failPull s a1) := by
  unfold State.failPull
  split
  · extract_lets +onlyGivenNames -merge -useContext -underBinder v1
    refine Keeps.ite (fun _ => ?_) (fun _ => ?_)
    · refine Keeps.andThen ?_ State.endPull_keeps (by rfl)
      exact Keeps.refl
    · refine Keeps.andThen ?_ State.breakPull_keeps (by rfl)
      exact Keeps.refl
  · exact Keeps.refl

theorem State.readHostMem_keeps {s a1 a2} : Keeps 16777216 s (State.readHostMem s a1 a2) := by
  unfold State.readHostMem
  extract_lets +onlyGivenNames -merge -useContext -underBinder v1
  refine Keeps.foldl ?_ (fun t2 x2 h2 => ?_)
  · exact Keeps.refl
  · refine Keeps.andThen ?_ State.send_keeps (by rfl)
    exact h2

theorem State.pacePull_keeps {s a1} : Keeps 17039360 s (State.pacePull s a1) := by
  unfold State.pacePull
  split
  · split
    · exact Keeps.refl
    · extract_lets +onlyGivenNames -merge -useContext -underBinder v1
      refine Keeps.ite (fun _ => ?_) (fun _ => ?_)
      · exact Keeps.refl
      · extract_lets +onlyGivenNames -merge -useContext -underBinder v2
        have h2 : Keeps 17039360 s v2 := by
          unfold v2
          refine Keeps.foldl ?_ (fun t3 x3 h3 => ?_)
          · exact Keeps.refl
          · refine Keeps.andThen ?_ State.readHostMem_keeps (by rfl)
            exact h3
        refine Keeps.andThen ?_ State.modSurf_keeps (by rfl)
        exact h2
  · exact Keeps.refl

theorem State.paceStage_keeps {s} : Keeps 17039360 s (State.paceStage s) := by
  unfold State.paceStage
  extract_lets +onlyGivenNames -merge -useContext -underBinder v1
  split
  · refine Keeps.ite (fun _ => ?_) (fun _ => ?_)
    · extract_lets +onlyGivenNames -merge -useContext -underBinder v2
      have h2 : Keeps 17039360 s v2 := by
        unfold v2
        refine Keeps.andThen ?_ State.readHostMem_keeps (by rfl)
        exact Keeps.refl
      refine Keeps.andThen ?_ (Keeps.host) (by rfl)
      exact h2
    · exact Keeps.refl
  · exact Keeps.refl

theorem State.hostPace_keeps {s} : Keeps 17039360 s (State.hostPace s) := by
  unfold State.hostPace
  extract_lets +onlyGivenNames -merge -useContext -underBinder v1
  refine Keeps.ite (fun _ => ?_) (fun _ => ?_)
  · exact Keeps.refl
  · refine Keeps.ite (fun _ => ?_) (fun _ => ?_)
    · refine Keeps.foldl ?_ (fun t2 x2 h2 => ?_)
      · exact Keeps.refl
      · refine Keeps.andThen ?_ State.pacePull_keeps (by rfl)
        exact h2
    · refine Keeps.andThen ?_ State.paceStage_keeps (by rfl)
      exact Keeps.refl

theorem State.detach_keeps {s} : Keeps 811148 s (State.detach s) := by
  unfold State.detach
  refine Keeps.ite (fun _ => ?_) (fun _ => ?_)
  · exact Keeps.refl
  · extract_lets +onlyGivenNames -merge -useContext -underBinder v1
    extract_lets +onlyGivenNames -merge -useContext -underBinder v2
    have h2 : Keeps 811148 s v2 := by
      unfold v2
      refine Keeps.andThen ?_ (Keeps.host) (by rfl)
      exact Keeps.refl
    extract_lets +onlyGivenNames -merge -useContext -underBinder v3
    have h3 : Keeps 811148 s v3 := by
      unfold v3
      refine Keeps.foldl ?_ (fun t4 x4 h4 => ?_)
      · exact h2
      · refine Keeps.andThen ?_ State.failPull_keeps (by rfl)
        exact h4
    refine Keeps.ite (fun _ => ?_) (fun _ => ?_)
    · refine Keeps.andThen ?_ State.stageEnd_keeps (by rfl)
      exact h3
    · exact h3

theorem State.linkDown_keeps {s} : Keeps 811148 s (State.linkDown s) := by
  unfold State.linkDown
  extract_lets +onlyGivenNames -merge -useContext -underBinder v1
  have h1 : Keeps 811148 s v1 := by
    unfold v1
    refine Keeps.andThen ?_ State.detach_keeps (by rfl)
    exact Keeps.refl
  extract_lets +onlyGivenNames -merge -useContext -underBinder v2
  extract_lets +onlyGivenNames -merge -useContext -underBinder v3
  refine Keeps.andThen ?_ (Keeps.host) (by rfl)
  exact h1

end Sys2Proof.Machine
end

