-- ==== Sys2Proof/Laws/KeepHold.lean ====
section
/-! SUPPORT. One lemma for each operation of Machine/Hold.lean: the parts it may change, and that what must last lasts. -/

namespace Sys2Proof.Machine

theorem State.drivePin_keeps {s a1 a2} : Keeps 20971520 s (State.drivePin s a1 a2) := by
  unfold State.drivePin
  extract_lets +onlyGivenNames -merge -useContext -underBinder v1
  extract_lets +onlyGivenNames -merge -useContext -underBinder v2
  refine Keeps.ite (fun _ => ?_) (fun _ => ?_)
  · exact Keeps.refl
  · extract_lets +onlyGivenNames -merge -useContext -underBinder v3
    have h3 : Keeps 20971520 s v3 := by
      unfold v3
      refine Keeps.andThen ?_ State.send_keeps (by rfl)
      exact Keeps.refl
    refine Keeps.andThen ?_ (Keeps.pwr) (by rfl)
    exact h3

theorem State.showPins_keeps {s} : Keeps 20971520 s (State.showPins s) := by
  unfold State.showPins
  extract_lets +onlyGivenNames -merge -useContext -underBinder v1
  refine Keeps.andThen ?_ State.drivePin_keeps (by rfl)
  refine Keeps.andThen ?_ State.drivePin_keeps (by rfl)
  exact Keeps.refl

theorem State.lateTry_keeps {s a1} : Keeps 68 s (State.lateTry s a1) := by
  unfold State.lateTry
  split
  · extract_lets +onlyGivenNames -merge -useContext -underBinder v1
    refine Keeps.ite (fun _ => ?_) (fun _ => ?_)
    · refine Keeps.andThen ?_ State.violation_keeps (by rfl)
      exact Keeps.refl
    · exact Keeps.refl

theorem State.sealSettings_keeps {s a1} : Keeps 21006336 s (State.sealSettings s a1) := by
  unfold State.sealSettings
  extract_lets +onlyGivenNames -merge -useContext -underBinder v1
  extract_lets +onlyGivenNames -merge -useContext -underBinder v2
  have h2 : Keeps 21006336 s v2 := by
    unfold v2
    refine Keeps.andThen ?_ (Keeps.tb) (by rfl)
    exact Keeps.refl
  refine Keeps.andThen ?_ State.showPins_keeps (by rfl)
  refine Keeps.foldl ?_ (fun t3 x3 h3 => ?_)
  · exact h2
  · refine Keeps.andThen ?_ State.stopClock_keeps (by rfl)
    exact h3

theorem fixIncr_wf {m : List (Nat × Word)} (h : Sparse.wf rwsReset m = true) : Sparse.wf rwsReset (fixIncr m) = true := by
  unfold fixIncr
  split
  · exact h
  · exact Sparse.set_wf _ _ (Sparse.set_wf _ _ h)

theorem State.putRegs_wf {s : State} {l} (h : Sparse.wf rwsReset l = true) : Sparse.wf rwsReset (s.putRegs l) = true :=
  fixIncr_wf (Sparse.foldl_wf _ _ (fun _ _ h => Sparse.set_wf _ _ h) h)

theorem State.seal_keeps {s why} : Keeps 21006405 s (State.seal s why) := by
  unfold State.seal
  refine Keeps.ite (fun _ => Keeps.refl) (fun hv => ?_)
  extract_lets +onlyGivenNames -merge -useContext -underBinder m w1 w2 t
  have ht : Keeps 21006405 s t := by
    refine Keeps.refl.andThen (Keeps.rws_boot ?_ (by simpa using hv)) (by rfl)
    exact fun _ => Sparse.foldl_wf _ _ (fun _ _ h => Sparse.set_wf _ _ h) (State.putRegs_wf Sparse.wf_nil)
  clear_value t
  exact (Keeps.foldl ht fun _ _ h => h.andThen State.lateTry_keeps (by rfl)).andThen State.sealSettings_keeps (by rfl)

theorem State.startPort_keeps {s a1} : Keeps 16809984 s (State.startPort s a1) := by
  unfold State.startPort
  extract_lets +onlyGivenNames -merge -useContext -underBinder v1
  have h1 : Keeps 16809984 s v1 := by
    unfold v1
    refine Keeps.ite (fun _ => ?_) (fun _ => ?_)
    · exact Keeps.refl
    · refine Keeps.andThen ?_ State.send_keeps (by rfl)
      exact Keeps.refl
  refine Keeps.andThen ?_ State.modPort_keeps (by rfl)
  exact h1

theorem State.holdEnterAll_keeps {s} : Keeps 32768 s (State.holdEnterAll s) := by
  unfold State.holdEnterAll
  refine Keeps.foldl ?_ (fun t1 x1 h1 => ?_)
  · exact Keeps.refl
  · refine Keeps.andThen ?_ State.holdOn_keeps (by rfl)
    exact h1

theorem State.holdLeaveAll_keeps {s} : Keeps 32768 s (State.holdLeaveAll s) := by
  unfold State.holdLeaveAll
  refine Keeps.foldl ?_ (fun t1 x1 h1 => ?_)
  · exact Keeps.refl
  · refine Keeps.andThen ?_ State.holdOn_keeps (by rfl)
    exact h1

theorem State.dropProbes_keeps {s} : Keeps 32768 s (State.dropProbes s) := by
  unfold State.dropProbes
  refine Keeps.andThen ?_ (Keeps.ports) (by rfl)
  exact Keeps.refl

theorem State.recallLeave_keeps {s} : Keeps 32784 s (State.recallLeave s) := by
  unfold State.recallLeave
  refine Keeps.andThen ?_ (Keeps.flt_ports) (by rfl)
  exact Keeps.refl

theorem State.enterHold_keeps {s a1} : Keeps 16810000 s (State.enterHold s a1) := by
  unfold State.enterHold
  split
  · refine Keeps.andThen ?_ State.abortCals_keeps (by rfl)
    refine Keeps.andThen ?_ State.dropProbes_keeps (by rfl)
    refine Keeps.andThen ?_ State.holdEnterAll_keeps (by rfl)
    refine Keeps.andThen ?_ (Keeps.flt) (by rfl)
    exact Keeps.refl
  · refine Keeps.ite (fun _ => ?_) (fun _ => ?_)
    · refine Keeps.andThen ?_ State.abortCals_keeps (by rfl)
      refine Keeps.andThen ?_ State.dropProbes_keeps (by rfl)
      refine Keeps.andThen ?_ State.holdEnterAll_keeps (by rfl)
      refine Keeps.andThen ?_ State.recallLeave_keeps (by rfl)
      exact Keeps.refl
    · refine Keeps.andThen ?_ State.abortCals_keeps (by rfl)
      refine Keeps.andThen ?_ State.dropProbes_keeps (by rfl)
      refine Keeps.andThen ?_ State.holdEnterAll_keeps (by rfl)
      refine Keeps.andThen ?_ (Keeps.flt) (by rfl)
      exact Keeps.refl
  · exact Keeps.refl

theorem State.holdAgain_keeps {s} : Keeps 32784 s (State.holdAgain s) := by
  unfold State.holdAgain
  refine Keeps.ite (fun _ => ?_) (fun _ => ?_)
  · exact Keeps.refl
  · refine Keeps.andThen ?_ State.holdEnterAll_keeps (by rfl)
    refine Keeps.andThen ?_ (Keeps.flt) (by rfl)
    exact Keeps.refl

theorem State.holdDark_keeps {s} : Keeps 28 s (State.holdDark s) := by
  unfold State.holdDark
  split
  · refine Keeps.ite (fun _ => ?_) (fun _ => ?_)
    · refine Keeps.andThen ?_ State.ev_keeps (by rfl)
      refine Keeps.andThen ?_ (Keeps.flt) (by rfl)
      exact Keeps.refl
    · exact Keeps.refl
  · exact Keeps.refl

theorem State.relaySend_keeps {s a1 a2} : Keeps 18874368 s (State.relaySend s a1 a2) := by
  unfold State.relaySend
  extract_lets +onlyGivenNames -merge -useContext -underBinder v1
  refine Keeps.andThen ?_ State.send_keeps (by rfl)
  refine Keeps.andThen ?_ (Keeps.rl) (by rfl)
  exact Keeps.refl

theorem State.heartbeat_keeps {s} : Keeps 18874368 s (State.heartbeat s) := by
  unfold State.heartbeat
  extract_lets +onlyGivenNames -merge -useContext -underBinder v1
  have h1 : Keeps 18874368 s v1 := by
    unfold v1
    refine Keeps.andThen ?_ State.relaySend_keeps (by rfl)
    exact Keeps.refl
  refine Keeps.andThen ?_ (Keeps.rl) (by rfl)
  exact h1

theorem State.beacon_keeps {s a1} : Keeps 32768 s (State.beacon s a1) := by
  unfold State.beacon
  extract_lets +onlyGivenNames -merge -useContext -underBinder v1
  extract_lets +onlyGivenNames -merge -useContext -underBinder v2
  extract_lets +onlyGivenNames -merge -useContext -underBinder v3
  have h3 : Keeps 32768 s v3 := by
    unfold v3
    refine Keeps.andThen ?_ State.queueFrame_keeps (by rfl)
    exact Keeps.refl
  refine Keeps.andThen ?_ State.modPort_keeps (by rfl)
  exact h3

theorem State.setRole_keeps {s a1} : Keeps 2097164 s (State.setRole s a1) := by
  unfold State.setRole
  refine Keeps.ite (fun _ => ?_) (fun _ => ?_)
  · exact Keeps.refl
  · refine Keeps.andThen ?_ State.ev_keeps (by rfl)
    refine Keeps.andThen ?_ (Keeps.rl) (by rfl)
    exact Keeps.refl

theorem State.release_keeps {s} : Keeps 18874368 s (State.release s) := by
  unfold State.release
  refine Keeps.ite (fun _ => ?_) (fun _ => ?_)
  · exact Keeps.refl
  · extract_lets +onlyGivenNames -merge -useContext -underBinder v1
    extract_lets +onlyGivenNames -merge -useContext -underBinder v2
    have h2 : Keeps 18874368 s v2 := by
      unfold v2
      refine Keeps.andThen ?_ State.relaySend_keeps (by rfl)
      exact Keeps.refl
    refine Keeps.andThen ?_ (Keeps.rl) (by rfl)
    exact h2

theorem State.releaseIfActive_keeps {s} : Keeps 18874368 s (State.releaseIfActive s) := by
  unfold State.releaseIfActive
  refine Keeps.ite (fun _ => ?_) (fun _ => ?_)
  · refine Keeps.andThen ?_ State.release_keeps (by rfl)
    exact Keeps.refl
  · exact Keeps.refl

theorem State.acceptStep_keeps {s} : Keeps 4096 s (State.acceptStep s) := by
  unfold State.acceptStep
  extract_lets +onlyGivenNames -merge -useContext -underBinder v1
  extract_lets +onlyGivenNames -merge -useContext -underBinder v2
  refine Keeps.andThen ?_ (Keeps.tl) (by rfl)
  exact Keeps.refl

theorem State.acceptHeld_keeps {s} : Keeps 4096 s (State.acceptHeld s) := by
  unfold State.acceptHeld
  refine Keeps.ite (fun _ => ?_) (fun _ => ?_)
  · refine Keeps.andThen ?_ State.acceptStep_keeps (by rfl)
    exact Keeps.refl
  · exact Keeps.refl

theorem State.endFade_keeps {s} : Keeps 8192 s (State.endFade s) := by
  unfold State.endFade
  split
  · exact Keeps.refl
  · refine Keeps.andThen ?_ (Keeps.sc) (by rfl)
    exact Keeps.refl

theorem State.flushCues_keeps {s} : Keeps 8204 s (State.flushCues s) := by
  unfold State.flushCues
  extract_lets +onlyGivenNames -merge -useContext -underBinder v1
  refine Keeps.foldl ?_ (fun t2 x2 h2 => ?_)
  · refine Keeps.andThen ?_ (Keeps.sc) (by rfl)
    exact Keeps.refl
  · refine Keeps.andThen ?_ State.ev_keeps (by rfl)
    exact h2

theorem State.planGone_keeps {s a1} : Keeps 12 s (State.planGone s a1) := by
  unfold State.planGone
  split
  · exact Keeps.refl
  · refine Keeps.andThen ?_ State.ev_keeps (by rfl)
    exact Keeps.refl

theorem State.recallLap_keeps {s a1} : Keeps 32768 s (State.recallLap s a1) := by
  unfold State.recallLap
  refine Keeps.andThen ?_ (Keeps.ports) (by rfl)
  exact Keeps.refl

theorem State.markLimp_keeps {s a1} : Keeps 64 s (State.markLimp s a1) := by
  unfold State.markLimp
  refine Keeps.andThen ?_ (Keeps.boot (by rfl)) (by rfl)
  exact Keeps.refl

theorem State.settleStage_keeps {s} : Keeps 204 s (State.settleStage s) := by
  unfold State.settleStage
  extract_lets +onlyGivenNames -merge -useContext -underBinder v1
  extract_lets +onlyGivenNames -merge -useContext -underBinder v2
  have h2 : Keeps 204 s v2 := by
    unfold v2
    refine Keeps.ite (fun _ => ?_) (fun _ => ?_)
    · refine Keeps.andThen ?_ State.journal_keeps (by rfl)
      refine Keeps.andThen ?_ State.ev_keeps (by rfl)
      refine Keeps.andThen ?_ (Keeps.boot (by rfl)) (by rfl)
      exact Keeps.refl
    · exact Keeps.refl
  refine Keeps.ite (fun _ => ?_) (fun _ => ?_)
  · refine Keeps.andThen ?_ State.journal_keeps (by rfl)
    refine Keeps.andThen ?_ State.ev_keeps (by rfl)
    refine Keeps.andThen ?_ (Keeps.boot (by rfl)) (by rfl)
    exact h2
  · exact h2

theorem State.limpEarly_keeps {s a1} : Keeps 21010501 s (State.limpEarly s a1) := by
  unfold State.limpEarly
  extract_lets +onlyGivenNames -merge -useContext -underBinder v1
  have h1 : Keeps 21010501 s v1 := by
    unfold v1
    refine Keeps.andThen ?_ State.seal_keeps (by rfl)
    exact Keeps.refl
  extract_lets +onlyGivenNames -merge -useContext -underBinder v2
  extract_lets +onlyGivenNames -merge -useContext -underBinder v3
  have h3 : Keeps 21010501 s v3 := by
    unfold v3
    refine Keeps.andThen ?_ (Keeps.tl) (by rfl)
    exact h1
  extract_lets +onlyGivenNames -merge -useContext -underBinder v4
  have h4 : Keeps 21010501 s v4 := by
    unfold v4
    split
    · exact h3
    · extract_lets +onlyGivenNames -merge -useContext -underBinder v5
      extract_lets +onlyGivenNames -merge -useContext -underBinder v6
      extract_lets +onlyGivenNames -merge -useContext -underBinder v7
      have h7 : Keeps 21010501 s v7 := by
        unfold v7
        refine Keeps.andThen ?_ State.recallLap_keeps (by rfl)
        refine Keeps.andThen ?_ (Keeps.tl) (by rfl)
        exact h3
      refine Keeps.ite (fun _ => ?_) (fun _ => ?_)
      · refine Keeps.andThen ?_ State.acceptHeld_keeps (by rfl)
        exact h7
      · refine Keeps.andThen ?_ (Keeps.tl) (by rfl)
        exact h7
  refine Keeps.andThen ?_ State.markLimp_keeps (by rfl)
  exact h4

theorem State.limpFull_keeps {s a1} : Keeps 19968092 s (State.limpFull s a1) := by
  unfold State.limpFull
  extract_lets +onlyGivenNames -merge -useContext -underBinder v1
  have h1 : Keeps 19968092 s v1 := by
    unfold v1
    split
    · refine Keeps.andThen ?_ State.enterHold_keeps (by rfl)
      exact Keeps.refl
    · refine Keeps.andThen ?_ State.enterHold_keeps (by rfl)
      exact Keeps.refl
    · refine Keeps.andThen ?_ State.holdAgain_keeps (by rfl)
      exact Keeps.refl
  extract_lets +onlyGivenNames -merge -useContext -underBinder v2
  extract_lets +onlyGivenNames -merge -useContext -underBinder v3
  have h3 : Keeps 19968092 s v3 := by
    unfold v3
    refine Keeps.andThen ?_ (Keeps.boot (by rfl)) (by rfl)
    exact h1
  extract_lets +onlyGivenNames -merge -useContext -underBinder v4
  extract_lets +onlyGivenNames -merge -useContext -underBinder v5
  extract_lets +onlyGivenNames -merge -useContext -underBinder v6
  extract_lets +onlyGivenNames -merge -useContext -underBinder v7
  have h7 : Keeps 19968092 s v7 := by
    unfold v7
    refine Keeps.andThen ?_ (Keeps.flt_tl_sc) (by rfl)
    exact h3
  extract_lets +onlyGivenNames -merge -useContext -underBinder v8
  have h8 : Keeps 19968092 s v8 := by
    unfold v8
    refine Keeps.andThen ?_ State.flushCues_keeps (by rfl)
    exact h7
  extract_lets +onlyGivenNames -merge -useContext -underBinder v9
  have h9 : Keeps 19968092 s v9 := by
    unfold v9
    refine Keeps.andThen ?_ State.planGone_keeps (by rfl)
    refine Keeps.andThen ?_ State.planGone_keeps (by rfl)
    exact h8
  extract_lets +onlyGivenNames -merge -useContext -underBinder v10
  extract_lets +onlyGivenNames -merge -useContext -underBinder v11
  have h11 : Keeps 19968092 s v11 := by
    unfold v11
    refine Keeps.andThen ?_ (Keeps.tl) (by rfl)
    exact h9
  extract_lets +onlyGivenNames -merge -useContext -underBinder v12
  have h12 : Keeps 19968092 s v12 := by
    unfold v12
    refine Keeps.andThen ?_ State.acceptHeld_keeps (by rfl)
    refine Keeps.andThen ?_ State.endFade_keeps (by rfl)
    exact h11
  extract_lets +onlyGivenNames -merge -useContext -underBinder v13
  extract_lets +onlyGivenNames -merge -useContext -underBinder v14
  extract_lets +onlyGivenNames -merge -useContext -underBinder v15
  have h15 : Keeps 19968092 s v15 := by
    unfold v15
    refine Keeps.ite (fun _ => ?_) (fun _ => ?_)
    · refine Keeps.andThen ?_ (Keeps.tl) (by rfl)
      exact h12
    · refine Keeps.andThen ?_ (Keeps.tl) (by rfl)
      exact h12
  extract_lets +onlyGivenNames -merge -useContext -underBinder v16
  extract_lets +onlyGivenNames -merge -useContext -underBinder v17
  have h17 : Keeps 19968092 s v17 := by
    unfold v17
    refine Keeps.andThen ?_ (Keeps.fab) (by rfl)
    exact h15
  refine Keeps.andThen ?_ State.markLimp_keeps (by rfl)
  refine Keeps.andThen ?_ State.releaseIfActive_keeps (by rfl)
  exact h17

theorem State.leaveFull_keeps {s} : Keeps 77888 s (State.leaveFull s) := by
  unfold State.leaveFull
  extract_lets +onlyGivenNames -merge -useContext -underBinder v1
  extract_lets +onlyGivenNames -merge -useContext -underBinder v2
  refine Keeps.andThen ?_ (Keeps.boot_tl_sc_tiles (by rfl)) (by rfl)
  exact Keeps.refl

theorem State.limp_keeps {s a1} : Keeps 24492253 s (State.limp s a1) := by
  unfold State.limp
  extract_lets +onlyGivenNames -merge -useContext -underBinder v1
  have h1 : Keeps 24492253 s v1 := by
    unfold v1
    refine Keeps.ite (fun _ => ?_) (fun _ => ?_)
    · refine Keeps.andThen ?_ State.stageEnd_keeps (by rfl)
      exact Keeps.refl
    · exact Keeps.refl
  refine Keeps.ite (fun _ => ?_) (fun _ => ?_)
  · refine Keeps.andThen ?_ (Keeps.boot (by rfl)) (by rfl)
    exact h1
  · refine Keeps.ite (fun _ => ?_) (fun _ => ?_)
    · exact h1
    · refine Keeps.ite (fun _ => ?_) (fun _ => ?_)
      · refine Keeps.andThen ?_ State.markLimp_keeps (by rfl)
        refine Keeps.andThen ?_ State.leaveFull_keeps (by rfl)
        exact h1
      · refine Keeps.ite (fun _ => ?_) (fun _ => ?_)
        · refine Keeps.andThen ?_ State.limpFull_keeps (by rfl)
          exact h1
        · refine Keeps.ite (fun _ => ?_) (fun _ => ?_)
          · refine Keeps.andThen ?_ State.limpEarly_keeps (by rfl)
            exact h1
          · exact h1

theorem State.setLatch_keeps {s a1 a2} : Keeps 32 s (State.setLatch s a1 a2) := by
  unfold State.setLatch
  refine Keeps.ite (fun _ => ?_) (fun _ => ?_)
  · exact Keeps.refl
  · refine Keeps.andThen ?_ (Keeps.hk) (by rfl)
    exact Keeps.refl

theorem State.shutdown_keeps {s a1 a2 a3} : Keeps 19301052 s (State.shutdown s a1 a2 a3) := by
  unfold State.shutdown
  refine Keeps.ite (fun _ => ?_) (fun _ => ?_)
  · exact Keeps.refl
  · extract_lets +onlyGivenNames -merge -useContext -underBinder v1
    extract_lets +onlyGivenNames -merge -useContext -underBinder v2
    have h2 : Keeps 19301052 s v2 := by
      unfold v2
      refine Keeps.andThen ?_ (Keeps.flt) (by rfl)
      exact Keeps.refl
    extract_lets +onlyGivenNames -merge -useContext -underBinder v3
    have h3 : Keeps 19301052 s v3 := by
      unfold v3
      split
      · refine Keeps.andThen ?_ State.enterHold_keeps (by rfl)
        exact h2
      · refine Keeps.andThen ?_ State.enterHold_keeps (by rfl)
        exact h2
      · refine Keeps.andThen ?_ State.abortCals_keeps (by rfl)
        refine Keeps.andThen ?_ State.holdAgain_keeps (by rfl)
        exact h2
    extract_lets +onlyGivenNames -merge -useContext -underBinder v4
    have h4 : Keeps 19301052 s v4 := by
      unfold v4
      refine Keeps.andThen ?_ State.setLatch_keeps (by rfl)
      exact h3
    extract_lets +onlyGivenNames -merge -useContext -underBinder v5
    have h5 : Keeps 19301052 s v5 := by
      unfold v5
      refine Keeps.ite (fun _ => ?_) (fun _ => ?_)
      · refine Keeps.andThen ?_ State.stageEnd_keeps (by rfl)
        exact h4
      · exact h4
    extract_lets +onlyGivenNames -merge -useContext -underBinder v6
    have h6 : Keeps 19301052 s v6 := by
      unfold v6
      refine Keeps.andThen ?_ State.zeroise_keeps (by rfl)
      refine Keeps.andThen ?_ State.nvmFreeze_keeps (by rfl)
      exact h5
    refine Keeps.ite (fun _ => ?_) (fun _ => ?_)
    · exact h6
    · refine Keeps.foldl ?_ (fun t7 x7 h7 => ?_)
      · refine Keeps.andThen ?_ State.heartbeat_keeps (by rfl)
        exact h6
      · refine Keeps.andThen ?_ State.beacon_keeps (by rfl)
        exact h7

theorem State.pinsLow_keeps {s} : Keeps 20971520 s (State.pinsLow s) := by
  unfold State.pinsLow
  extract_lets +onlyGivenNames -merge -useContext -underBinder low t
  have hl : ∀ u n b, Keeps 20971520 s u → Keeps 20971520 s (low u n b) := fun u n b h =>
    Keeps.ite (fun _ => h.andThen State.send_keeps (by rfl)) (fun _ => h)
  exact (hl _ _ _ (hl _ _ _ .refl)).andThen Keeps.pwr (by rfl)

theorem State.powerOff_keeps {s} : Keeps 22868188 s (State.powerOff s) := by
  unfold State.powerOff
  extract_lets +onlyGivenNames -merge -useContext -underBinder v1
  have h1 : Keeps 22868188 s v1 := by
    unfold v1
    refine Keeps.andThen ?_ State.pinsLow_keeps (by rfl)
    refine Keeps.andThen ?_ State.linkDown_keeps (by rfl)
    refine Keeps.andThen ?_ State.stopClocks_keeps (by rfl)
    exact Keeps.refl
  clear_value v1
  extract_lets +onlyGivenNames -merge -useContext -underBinder v2
  extract_lets +onlyGivenNames -merge -useContext -underBinder v3
  extract_lets +onlyGivenNames -merge -useContext -underBinder v4
  refine Keeps.andThen ?_ (Keeps.flt_boot_tl_warm_fab_pwr (by rfl)) (by rfl)
  exact h1


theorem State.modUnit_keeps {s a1 a2} : Keeps 16 s (State.modUnit s a1 a2) := by
  unfold State.modUnit
  refine Keeps.andThen ?_ (Keeps.flt) (by rfl)
  exact Keeps.refl

theorem State.stopUnit_keeps {s a1} : Keeps 32797 s (State.stopUnit s a1) := by
  unfold State.stopUnit
  extract_lets +onlyGivenNames -merge -useContext -underBinder v1
  split
  · refine Keeps.andThen ?_ State.modUnit_keeps (by rfl)
    exact Keeps.refl
  · exact Keeps.refl
  · extract_lets +onlyGivenNames -merge -useContext -underBinder v2
    have h2 : Keeps 32797 s v2 := by
      unfold v2
      refine Keeps.andThen ?_ State.modUnit_keeps (by rfl)
      exact Keeps.refl
    refine Keeps.ite (fun _ => ?_) (fun _ => ?_)
    · refine Keeps.andThen ?_ State.modPort_keeps (by rfl)
      refine Keeps.andThen ?_ State.holdOn_keeps (by rfl)
      exact h2
    · refine Keeps.andThen ?_ State.setCoreState_keeps (by rfl)
      exact h2

theorem State.startUnit_keeps {s a1} : Keeps 16810013 s (State.startUnit s a1) := by
  unfold State.startUnit
  extract_lets +onlyGivenNames -merge -useContext -underBinder v1
  have h1 : Keeps 16810013 s v1 := by
    unfold v1
    refine Keeps.andThen ?_ State.modUnit_keeps (by rfl)
    exact Keeps.refl
  refine Keeps.ite (fun _ => ?_) (fun _ => ?_)
  · refine Keeps.andThen ?_ State.startPort_keeps (by rfl)
    exact h1
  · extract_lets +onlyGivenNames -merge -useContext -underBinder v2
    have h2 : Keeps 16810013 s v2 := by
      unfold v2
      refine Keeps.andThen ?_ State.setCoreState_keeps (by rfl)
      exact h1
    refine Keeps.andThen ?_ (Keeps.flt) (by rfl)
    exact h2

theorem State.unitRuns_keeps {s a1} : Keeps 28 s (State.unitRuns s a1) := by
  unfold State.unitRuns
  split
  · refine Keeps.andThen ?_ State.ev_keeps (by rfl)
    refine Keeps.andThen ?_ State.modUnit_keeps (by rfl)
    exact Keeps.refl
  · exact Keeps.refl

theorem State.unitStops_keeps {s a1} : Keeps 16810013 s (State.unitStops s a1) := by
  unfold State.unitStops
  extract_lets +onlyGivenNames -merge -useContext -underBinder v1
  split
  · extract_lets +onlyGivenNames -merge -useContext -underBinder v2
    have h2 : Keeps 16810013 s v2 := by
      unfold v2
      refine Keeps.andThen ?_ State.modUnit_keeps (by rfl)
      exact Keeps.refl
    extract_lets +onlyGivenNames -merge -useContext -underBinder v3
    have h3 : Keeps 16810013 s v3 := by
      unfold v3
      refine Keeps.andThen ?_ State.ev_keeps (by rfl)
      exact h2
    refine Keeps.ite (fun _ => ?_) (fun _ => ?_)
    · refine Keeps.andThen ?_ State.startUnit_keeps (by rfl)
      exact h3
    · exact h3
  · exact Keeps.refl

end Sys2Proof.Machine
end

