-- ==== Sys2Proof/Laws/KeepFaults.lean ====
section
/-! SUPPORT. One lemma for each operation of Machine/Faults.lean: the parts it may change, and that what must last lasts. -/

namespace Sys2Proof.Machine

theorem State.moveUp_keeps {s a1 a2} : Keeps 152 s (State.moveUp s a1 a2) :=
  Keeps.evt_flt_nvm (fun h => Evt.raisedUp_ordered h) (fun w => w)

theorem State.logFault_keeps {s a1 a2} : Keeps 156 s (State.logFault s a1 a2) := by
  unfold State.logFault
  extract_lets +onlyGivenNames -merge -useContext -underBinder v1
  extract_lets +onlyGivenNames -merge -useContext -underBinder v2
  extract_lets +onlyGivenNames -merge -useContext -underBinder v3
  extract_lets +onlyGivenNames -merge -useContext -underBinder v4
  extract_lets +onlyGivenNames -merge -useContext -underBinder v5
  extract_lets +onlyGivenNames -merge -useContext -underBinder v6
  extract_lets +onlyGivenNames -merge -useContext -underBinder v7
  have h7 : Keeps 156 s v7 := by
    unfold v7
    refine Keeps.ite (fun _ => ?_) (fun _ => ?_)
    · exact Keeps.refl
    · refine Keeps.andThen ?_ State.moveUp_keeps (by rfl)
      exact Keeps.refl
  extract_lets +onlyGivenNames -merge -useContext -underBinder v8
  extract_lets +onlyGivenNames -merge -useContext -underBinder v9
  extract_lets +onlyGivenNames -merge -useContext -underBinder v10
  extract_lets +onlyGivenNames -merge -useContext -underBinder v11
  extract_lets +onlyGivenNames -merge -useContext -underBinder v12
  extract_lets +onlyGivenNames -merge -useContext -underBinder v13
  extract_lets +onlyGivenNames -merge -useContext -underBinder v14
  extract_lets +onlyGivenNames -merge -useContext -underBinder v15
  extract_lets +onlyGivenNames -merge -useContext -underBinder v16
  have h16 : Keeps 156 s v16 := by
    unfold v16
    refine Keeps.andThen ?_ (Keeps.flt) (by rfl)
    exact h7
  extract_lets +onlyGivenNames -merge -useContext -underBinder v17
  have h17 : Keeps 156 s v17 := by
    unfold v17
    refine Keeps.andThen ?_ State.ev_keeps (by rfl)
    exact h16
  refine Keeps.ite (fun _ => ?_) (fun _ => ?_)
  · refine Keeps.andThen ?_ State.journalRec_keeps (by rfl)
    exact h17
  · exact h17

theorem State.clearFe_keeps {s} : Keeps 16 s (State.clearFe s) := by
  unfold State.clearFe
  extract_lets +onlyGivenNames -merge -useContext -underBinder v1
  split
  · refine Keeps.andThen ?_ (Keeps.flt) (by rfl)
    exact Keeps.refl
  · refine Keeps.andThen ?_ (Keeps.flt) (by rfl)
    exact Keeps.refl

theorem State.holdCause_keeps {s} : Keeps 16 s (State.holdCause s) := by
  unfold State.holdCause
  refine Keeps.ite (fun _ => ?_) (fun _ => ?_)
  · exact Keeps.refl
  · split
    · refine Keeps.andThen ?_ (Keeps.flt) (by rfl)
      exact Keeps.refl
    · exact Keeps.refl

theorem State.latchFirst_keeps {s} : Keeps 32 s (State.latchFirst s) := by
  unfold State.latchFirst
  split
  · refine Keeps.ite (fun _ => ?_) (fun _ => ?_)
    · refine Keeps.andThen ?_ (Keeps.hk) (by rfl)
      exact Keeps.refl
    · exact Keeps.refl
  · exact Keeps.refl

theorem State.classReact_keeps {s a1 a2} : Keeps 19301052 s (State.classReact s a1 a2) := by
  unfold State.classReact
  refine Keeps.ite (fun _ => ?_) (fun _ => ?_)
  · refine Keeps.andThen ?_ State.releaseIfActive_keeps (by rfl)
    refine Keeps.andThen ?_ State.holdCause_keeps (by rfl)
    refine Keeps.andThen ?_ State.enterHold_keeps (by rfl)
    exact Keeps.refl
  · refine Keeps.ite (fun _ => ?_) (fun _ => ?_)
    · refine Keeps.andThen ?_ State.holdCause_keeps (by rfl)
      refine Keeps.andThen ?_ State.latchFirst_keeps (by rfl)
      refine Keeps.andThen ?_ State.shutdown_keeps (by rfl)
      exact Keeps.refl
    · exact Keeps.refl

theorem State.kindReact_keeps {s a1} : Keeps 24492253 s (State.kindReact s a1) := by
  unfold State.kindReact
  refine Keeps.ite (fun _ => ?_) (fun _ => ?_)
  · refine Keeps.andThen ?_ State.limp_keeps (by rfl)
    exact Keeps.refl
  · refine Keeps.ite (fun _ => ?_) (fun _ => ?_)
    · refine Keeps.andThen ?_ State.limp_keeps (by rfl)
      exact Keeps.refl
    · refine Keeps.ite (fun _ => ?_) (fun _ => ?_)
      · refine Keeps.andThen ?_ State.stopUnit_keeps (by rfl)
        exact Keeps.refl
      · refine Keeps.ite (fun _ => ?_) (fun _ => ?_)
        · refine Keeps.andThen ?_ State.stopUnit_keeps (by rfl)
          exact Keeps.refl
        · exact Keeps.refl

theorem State.unclear_keeps {s a1} : Keeps 28 s (State.unclear s a1) := by
  unfold State.unclear
  split
  · exact Keeps.refl
  · refine Keeps.ite (fun _ => Keeps.refl) (fun _ => ?_)
    extract_lets +onlyGivenNames -merge -useContext -underBinder gone v0 v1 v2
    have h2 : Keeps 28 s v2 := by
      unfold v2
      refine (Keeps.refl.andThen State.bump_keeps (by rfl)).andThen (Keeps.evt_flt fun h => Evt.editQueued_ordered (fun r r' hr => ?_) h) (by rfl)
      split at hr
      · cases hr
      · cases hr
        exact ⟨rfl, rfl, rfl, rfl⟩
    exact h2.andThen State.ev_keeps (by rfl)

theorem State.take1_keeps {s a1} : Keeps 24623869 s (State.take1 s a1) := by
  unfold State.take1
  refine Keeps.ite (fun _ => ?_) (fun _ => ?_)
  · refine Keeps.andThen ?_ (Keeps.flt) (by rfl)
    exact Keeps.refl
  · extract_lets +onlyGivenNames -merge -useContext -underBinder v1
    extract_lets +onlyGivenNames -merge -useContext -underBinder v2
    have h2 : Keeps 24623869 s v2 := by
      unfold v2
      refine Keeps.andThen ?_ State.unclear_keeps (by rfl)
      refine Keeps.andThen ?_ State.bump_keeps (by rfl)
      exact Keeps.refl
    split
    · refine Keeps.andThen ?_ State.kindReact_keeps (by rfl)
      refine Keeps.andThen ?_ (Keeps.flt) (by rfl)
      exact h2
    · refine Keeps.andThen ?_ State.kindReact_keeps (by rfl)
      refine Keeps.andThen ?_ State.classReact_keeps (by rfl)
      refine Keeps.andThen ?_ State.logFault_keeps (by rfl)
      exact h2

theorem State.raise_keeps {s a1} : Keeps 24623869 s (State.raise s a1) := by
  unfold State.raise
  refine Keeps.foldl ?_ (fun t1 x1 h1 => ?_)
  · exact Keeps.refl
  · refine Keeps.andThen ?_ State.take1_keeps (by rfl)
    exact h1

theorem State.fault_keeps {s a1 a2 a3} : Keeps 24623869 s (State.fault s a1 a2 a3) := by
  unfold State.fault
  refine Keeps.andThen ?_ State.raise_keeps (by rfl)
  exact Keeps.refl

theorem State.evFault_keeps {s a1 a2 a3 a4} : Keeps 24623869 s (State.evFault s a1 a2 a3 a4) := by
  unfold State.evFault
  refine Keeps.andThen ?_ State.fault_keeps (by rfl)
  refine Keeps.andThen ?_ State.ev_keeps (by rfl)
  exact Keeps.refl

theorem State.cleared_keeps {s a1 a2} : Keeps 19955741 s (State.cleared s a1 a2) := by
  unfold State.cleared
  extract_lets +onlyGivenNames -merge -useContext -underBinder v1
  refine Keeps.ite (fun _ => ?_) (fun _ => ?_)
  · unfold v1
    split
    · refine Keeps.andThen ?_ State.startUnit_keeps (by rfl)
      exact Keeps.refl
    · refine Keeps.andThen ?_ State.modUnit_keeps (by rfl)
      exact Keeps.refl
    · exact Keeps.refl
  · refine Keeps.ite (fun _ => ?_) (fun _ => ?_)
    · unfold v1
      split
      · refine Keeps.andThen ?_ State.startUnit_keeps (by rfl)
        exact Keeps.refl
      · refine Keeps.andThen ?_ State.modUnit_keeps (by rfl)
        exact Keeps.refl
      · exact Keeps.refl
    · refine Keeps.ite (fun _ => ?_) (fun _ => ?_)
      · refine Keeps.andThen ?_ (Keeps.fab) (by rfl)
        exact Keeps.refl
      · refine Keeps.ite (fun _ => ?_) (fun _ => ?_)
        · refine Keeps.andThen ?_ (Keeps.fab) (by rfl)
          exact Keeps.refl
        · refine Keeps.ite (fun _ => ?_) (fun _ => ?_)
          · refine Keeps.andThen ?_ (Keeps.rl) (by rfl)
            exact Keeps.refl
          · exact Keeps.refl

theorem State.clear1_keeps {s a1} : Keeps 19955741 s (State.clear1 s a1) := by
  unfold State.clear1
  refine Keeps.ite (fun _ => ?_) (fun _ => ?_)
  · refine Keeps.andThen ?_ State.ev_keeps (by rfl)
    extract_lets +onlyGivenNames -merge -useContext -underBinder v1
    have h1 : Keeps 19955741 s v1 := by
      unfold v1
      refine Keeps.andThen ?_ State.bump_keeps (by rfl)
      exact Keeps.refl
    refine Keeps.andThen ?_ (Keeps.flt) (by rfl)
    exact h1
  · extract_lets +onlyGivenNames -merge -useContext -underBinder v2
    extract_lets +onlyGivenNames -merge -useContext -underBinder v3
    have h3 : Keeps 19955741 s v3 := by
      unfold v3
      refine Keeps.andThen ?_ (Keeps.flt) (by rfl)
      exact Keeps.refl
    refine Keeps.andThen ?_ State.cleared_keeps (by rfl)
    refine Keeps.andThen ?_ State.ev_keeps (by rfl)
    exact h3

theorem State.clrDone_keeps {s a1} : Keeps 16 s (State.clrDone s a1) := by
  unfold State.clrDone
  refine Keeps.andThen ?_ (Keeps.flt) (by rfl)
  exact Keeps.refl

theorem State.faultClear_keeps {s a1 a2} : Keeps 19955741 s (State.faultClear s a1 a2) := by
  unfold State.faultClear
  extract_lets +onlyGivenNames -merge -useContext -underBinder v1
  extract_lets +onlyGivenNames -merge -useContext -underBinder v2
  have h2 : Keeps 19955741 s v2 := by
    unfold v2
    refine Keeps.andThen ?_ (Keeps.flt) (by rfl)
    exact Keeps.refl
  split
  · refine Keeps.andThen ?_ State.clrDone_keeps (by rfl)
    exact h2
  · refine Keeps.andThen ?_ State.clrDone_keeps (by rfl)
    refine Keeps.andThen ?_ State.clear1_keeps (by rfl)
    exact h2

theorem State.faultClearAll_keeps {s} : Keeps 19955741 s (State.faultClearAll s) := by
  unfold State.faultClearAll
  extract_lets +onlyGivenNames -merge -useContext -underBinder v1
  extract_lets +onlyGivenNames -merge -useContext -underBinder v2
  extract_lets +onlyGivenNames -merge -useContext -underBinder v3
  have h3 : Keeps 19955741 s v3 := by
    unfold v3
    refine Keeps.foldl ?_ (fun t4 x4 h4 => ?_)
    · refine Keeps.andThen ?_ (Keeps.flt) (by rfl)
      exact Keeps.refl
    · refine Keeps.andThen ?_ State.clear1_keeps (by rfl)
      exact h4
  extract_lets +onlyGivenNames -merge -useContext -underBinder v5
  extract_lets +onlyGivenNames -merge -useContext -underBinder v6
  have h6 : Keeps 19955741 s v6 := by
    unfold v6
    refine Keeps.ite (fun _ => ?_) (fun _ => ?_)
    · refine Keeps.andThen ?_ (Keeps.flt) (by rfl)
      exact h3
    · exact h3
  refine Keeps.andThen ?_ State.clrDone_keeps (by rfl)
  exact h6

theorem State.writeFaultClear_keeps {s a1} : Keeps 19955741 s (State.writeFaultClear s a1) := by
  unfold State.writeFaultClear
  refine Keeps.ite (fun _ => ?_) (fun _ => ?_)
  · exact Keeps.refl
  · refine Keeps.ite (fun _ => ?_) (fun _ => ?_)
    · refine Keeps.andThen ?_ State.faultClearAll_keeps (by rfl)
      exact Keeps.refl
    · refine Keeps.andThen ?_ State.faultClear_keeps (by rfl)
      exact Keeps.refl

theorem execFaultClear_keeps {a0 s} : Answers 19955741 s (execFaultClear a0 s) := by
  unfold execFaultClear
  refine Answers.next ?_
  refine Keeps.andThen ?_ State.writeFaultClear_keeps (by rfl)
  exact Keeps.refl

theorem execFaultClearAll_keeps {a0 s} : Answers 19955741 s (execFaultClearAll a0 s) := by
  unfold execFaultClearAll
  refine Answers.next ?_
  refine Keeps.andThen ?_ State.writeFaultClear_keeps (by rfl)
  exact Keeps.refl

theorem State.writeHoldRequest_keeps {s a1} : Keeps 24623869 s (State.writeHoldRequest s a1) := by
  unfold State.writeHoldRequest
  refine Keeps.ite (fun _ => ?_) (fun _ => ?_)
  · refine Keeps.andThen ?_ State.fault_keeps (by rfl)
    exact Keeps.refl
  · exact Keeps.refl

theorem execHoldRequest_keeps {a0 s} : Answers 24623869 s (execHoldRequest a0 s) := by
  unfold execHoldRequest
  refine Answers.next ?_
  refine Keeps.andThen ?_ State.writeHoldRequest_keeps (by rfl)
  exact Keeps.refl

theorem State.writeLogRead_keeps {s a1} : Keeps 2 s (State.writeLogRead s a1) := by
  unfold State.writeLogRead
  refine Keeps.andThen ?_ State.setRw_keeps (by rfl)
  exact Keeps.refl

theorem execFaultLogRead_keeps {a0 s} : Answers 2 s (execFaultLogRead a0 s) := by
  unfold execFaultLogRead
  refine Answers.next ?_
  refine Keeps.andThen ?_ State.writeLogRead_keeps (by rfl)
  exact Keeps.refl

theorem State.writeActiveRead_keeps {s a1} : Keeps 2 s (State.writeActiveRead s a1) := by
  unfold State.writeActiveRead
  refine Keeps.andThen ?_ State.setRw_keeps (by rfl)
  exact Keeps.refl

theorem execActiveRead_keeps {a0 s} : Answers 2 s (execActiveRead a0 s) := by
  unfold execActiveRead
  refine Answers.next ?_
  refine Keeps.andThen ?_ State.writeActiveRead_keeps (by rfl)
  exact Keeps.refl

theorem State.writeKick_keeps {s a1 a2 a3} : Keeps 28 s (State.writeKick s a1 a2 a3) := by
  unfold State.writeKick
  split
  · exact Keeps.refl
  · refine Keeps.ite (fun _ => ?_) (fun _ => ?_)
    · exact Keeps.refl
    · extract_lets +onlyGivenNames -merge -useContext -underBinder v1
      extract_lets +onlyGivenNames -merge -useContext -underBinder v2
      have h2 : Keeps 28 s v2 := by
        unfold v2
        refine Keeps.andThen ?_ (Keeps.flt) (by rfl)
        exact Keeps.refl
      refine Keeps.ite (fun _ => ?_) (fun _ => ?_)
      · exact h2
      · refine Keeps.andThen ?_ State.unitRuns_keeps (by rfl)
        exact h2

theorem execCoreKick_keeps {a0 a1 a2 s} : Answers 28 s (execCoreKick a0 a1 a2 s) := by
  unfold execCoreKick
  refine Answers.next ?_
  refine Keeps.andThen ?_ State.writeKick_keeps (by rfl)
  exact Keeps.refl

theorem execCoreWdtExpiry_keeps {a0 s} : Answers 24623869 s (execCoreWdtExpiry a0 s) := by
  unfold execCoreWdtExpiry
  refine Answers.ite (fun _ => ?_) (fun _ => ?_)
  · extract_lets +onlyGivenNames -merge -useContext -underBinder v1
    extract_lets +onlyGivenNames -merge -useContext -underBinder v2
    have h2 : Keeps 24623869 s v2 := by
      unfold v2
      refine Keeps.andThen ?_ (Keeps.flt) (by rfl)
      exact Keeps.refl
    refine Answers.next ?_
    refine Keeps.andThen ?_ State.fault_keeps (by rfl)
    exact h2
  · refine Answers.next ?_
    exact Keeps.refl

theorem execPortStopComplete_keeps {a0 s} : Answers 16810013 s (execPortStopComplete a0 s) := by
  unfold execPortStopComplete
  refine Answers.ite (fun _ => ?_) (fun _ => ?_)
  · refine Answers.next ?_
    exact Keeps.refl
  · refine Answers.next ?_
    refine Keeps.andThen ?_ State.unitStops_keeps (by rfl)
    exact Keeps.refl

theorem execHoldTimeExpiry_keeps {s} : Answers 28 s (execHoldTimeExpiry s) := by
  unfold execHoldTimeExpiry
  refine Answers.next ?_
  refine Keeps.andThen ?_ State.holdDark_keeps (by rfl)
  exact Keeps.refl

theorem execShutdownClockStop_keeps {s} : Answers 22868188 s (execShutdownClockStop s) := by
  unfold execShutdownClockStop
  split
  · refine Answers.ite (fun _ => ?_) (fun _ => ?_)
    · refine Answers.next ?_
      refine Keeps.andThen ?_ State.powerOff_keeps (by rfl)
      exact Keeps.refl
    · refine Answers.next ?_
      exact Keeps.refl
  · refine Answers.next ?_
    exact Keeps.refl

end Sys2Proof.Machine
end

