-- ==== Sys2Proof/Laws/KeepHk.lean ====
section
/-! SUPPORT. One lemma for each operation of Machine/Hk.lean: the parts it may change, and that what must last lasts. -/

namespace Sys2Proof.Machine

theorem State.modChan_keeps {s a1 a2} : Keeps 32 s (State.modChan s a1 a2) := by
  unfold State.modChan
  refine Keeps.andThen ?_ (Keeps.hk) (by rfl)
  exact Keeps.refl

theorem State.thermalStart_keeps {s a1 a2} : Keeps 393980 s (State.thermalStart s a1 a2) := by
  unfold State.thermalStart
  refine Keeps.ite (fun _ => ?_) (fun _ => ?_)
  · exact Keeps.refl
  · extract_lets +onlyGivenNames -merge -useContext -underBinder v1
    extract_lets +onlyGivenNames -merge -useContext -underBinder v2
    extract_lets +onlyGivenNames -merge -useContext -underBinder v3
    have h3 : Keeps 393980 s v3 := by
      unfold v3
      refine Keeps.andThen ?_ (Keeps.flt_boot (by rfl)) (by rfl)
      exact Keeps.refl
    refine Keeps.andThen ?_ State.zeroise_keeps (by rfl)
    refine Keeps.andThen ?_ State.nvmFreeze_keeps (by rfl)
    refine Keeps.andThen ?_ State.setLatch_keeps (by rfl)
    exact h3

theorem State.hkRaise_keeps {s a1} : Keeps 24623869 s (State.hkRaise s a1) := by
  unfold State.hkRaise
  refine Keeps.ite (fun _ => ?_) (fun _ => ?_)
  · split
    · refine Keeps.andThen ?_ State.thermalStart_keeps (by rfl)
      exact Keeps.refl
    · exact Keeps.refl
  · refine Keeps.andThen ?_ State.raise_keeps (by rfl)
    exact Keeps.refl

theorem State.levelEvent_keeps {s a1 a2 a3 a4 a5} : Keeps 12 s (State.levelEvent s a1 a2 a3 a4 a5) := by
  unfold State.levelEvent
  extract_lets +onlyGivenNames -merge -useContext -underBinder v1
  extract_lets +onlyGivenNames -merge -useContext -underBinder v2
  refine Keeps.ite (fun _ => ?_) (fun _ => ?_)
  · refine Keeps.andThen ?_ State.evtW_keeps (by rfl)
    exact Keeps.refl
  · exact Keeps.refl

theorem State.judgeTemp_keeps {s a1 a2} : KeepsL 44 s (State.judgeTemp s a1 a2) := by
  unfold State.judgeTemp
  extract_lets +onlyGivenNames -merge -useContext -underBinder v1
  extract_lets +onlyGivenNames -merge -useContext -underBinder v2
  extract_lets +onlyGivenNames -merge -useContext -underBinder v3
  have h3 : Keeps 44 s v3 := by
    unfold v3
    refine Keeps.andThen ?_ State.modChan_keeps (by rfl)
    exact Keeps.refl
  refine KeepsL.ite (fun _ => ?_) (fun _ => ?_)
  · refine KeepsL.mk ?_
    exact h3
  · extract_lets +onlyGivenNames -merge -useContext -underBinder v4
    extract_lets +onlyGivenNames -merge -useContext -underBinder v5
    refine KeepsL.ite (fun _ => ?_) (fun _ => ?_)
    · extract_lets +onlyGivenNames -merge -useContext -underBinder v6
      extract_lets +onlyGivenNames -merge -useContext -underBinder v7
      have h7 : Keeps 44 s v7 := by
        unfold v7
        refine Keeps.andThen ?_ State.ev_keeps (by rfl)
        refine Keeps.andThen ?_ State.modChan_keeps (by rfl)
        exact h3
      extract_lets +onlyGivenNames -merge -useContext -underBinder v8
      refine KeepsL.mk ?_
      exact h7
    · extract_lets +onlyGivenNames -merge -useContext -underBinder v9
      extract_lets +onlyGivenNames -merge -useContext -underBinder v10
      have h10 : Keeps 44 s v10 := by
        unfold v10
        refine Keeps.andThen ?_ State.modChan_keeps (by rfl)
        exact h3
      extract_lets +onlyGivenNames -merge -useContext -underBinder v11
      extract_lets +onlyGivenNames -merge -useContext -underBinder v12
      extract_lets +onlyGivenNames -merge -useContext -underBinder v13
      have h13 : Keeps 44 s v13 := by
        unfold v13
        refine Keeps.andThen ?_ State.levelEvent_keeps (by rfl)
        refine Keeps.andThen ?_ State.levelEvent_keeps (by rfl)
        exact h10
      refine KeepsL.mk ?_
      exact h13

theorem State.judgeVcore_keeps {s a1} : KeepsL 1048588 s (State.judgeVcore s a1) := by
  unfold State.judgeVcore
  refine KeepsL.ite (fun _ => ?_) (fun _ => ?_)
  · refine KeepsL.mk ?_
    exact Keeps.refl
  · extract_lets +onlyGivenNames -merge -useContext -underBinder v1
    extract_lets +onlyGivenNames -merge -useContext -underBinder v2
    extract_lets +onlyGivenNames -merge -useContext -underBinder v3
    extract_lets +onlyGivenNames -merge -useContext -underBinder v4
    have h4 : Keeps 1048588 s v4 := by
      unfold v4
      refine Keeps.andThen ?_ (Keeps.fab) (by rfl)
      exact Keeps.refl
    refine KeepsL.ite (fun _ => ?_) (fun _ => ?_)
    · extract_lets +onlyGivenNames -merge -useContext -underBinder v5
      extract_lets +onlyGivenNames -merge -useContext -underBinder v6
      extract_lets +onlyGivenNames -merge -useContext -underBinder v7
      have h7 : Keeps 1048588 s v7 := by
        unfold v7
        refine Keeps.andThen ?_ (Keeps.fab) (by rfl)
        exact h4
      refine KeepsL.mk ?_
      refine Keeps.andThen ?_ State.ev_keeps (by rfl)
      exact h7
    · refine KeepsL.mk ?_
      exact h4

theorem State.judgeSupply_keeps {s a1 a2} : KeepsL 1048620 s (State.judgeSupply s a1 a2) := by
  unfold State.judgeSupply
  extract_lets +onlyGivenNames -merge -useContext -underBinder v1
  extract_lets +onlyGivenNames -merge -useContext -underBinder v2
  have h2 : Keeps 1048620 s v2 := by
    unfold v2
    refine Keeps.andThen ?_ State.modChan_keeps (by rfl)
    exact Keeps.refl
  extract_lets +onlyGivenNames -merge -useContext -underBinder v3
  refine KeepsL.ite (fun _ => ?_) (fun _ => ?_)
  · split
    · rename_i t4 y4_1 e4
      have h4 : Keeps 1048620 s t4 := by
        refine Keeps.fst (e := _) ?_ e4
        refine KeepsL.andThen ?_ State.judgeVcore_keeps (by rfl)
        exact h2
      refine KeepsL.mk ?_
      exact h4
  · refine KeepsL.mk ?_
    exact h2

theorem State.judgeMargins_keeps {s a1} : Keeps 12 s (State.judgeMargins s a1) := by
  unfold State.judgeMargins
  refine Keeps.foldl ?_ (fun t1 x1 h1 => ?_)
  · exact Keeps.refl
  · refine Keeps.ite (fun _ => ?_) (fun _ => ?_)
    · refine Keeps.andThen ?_ State.ev_keeps (by rfl)
      refine Keeps.andThen ?_ State.bump_keeps (by rfl)
      exact h1
    · exact h1

theorem execHkSlot_keeps {a0 s} : Answers 24623869 s (execHkSlot a0 s) := by
  unfold execHkSlot
  refine Answers.ite (fun _ => ?_) (fun _ => ?_)
  · refine Answers.next ?_
    exact Keeps.refl
  · extract_lets +onlyGivenNames -merge -useContext -underBinder v1
    extract_lets +onlyGivenNames -merge -useContext -underBinder v2
    split
    · rename_i t3 y3_1 e3
      have h3 : Keeps 24623869 s t3 := by
        refine Keeps.fst (e := _) ?_ e3
        refine KeepsL.ite (fun _ => ?_) (fun _ => ?_)
        · refine KeepsL.andThen ?_ State.judgeTemp_keeps (by rfl)
          exact Keeps.refl
        · refine KeepsL.andThen ?_ State.judgeSupply_keeps (by rfl)
          exact Keeps.refl
      extract_lets +onlyGivenNames -merge -useContext -underBinder v4
      have h4 : Keeps 24623869 s v4 := by
        unfold v4
        refine Keeps.andThen ?_ (Keeps.hk) (by rfl)
        exact h3
      extract_lets +onlyGivenNames -merge -useContext -underBinder v5
      have h5 : Keeps 24623869 s v5 := by
        unfold v5
        refine Keeps.ite (fun _ => ?_) (fun _ => ?_)
        · refine Keeps.andThen ?_ State.judgeMargins_keeps (by rfl)
          exact h4
        · exact h4
      refine Answers.next ?_
      refine Keeps.andThen ?_ State.hkRaise_keeps (by rfl)
      exact h5

theorem State.fabricStall_keeps {s a1} : Keeps 24623869 s (State.fabricStall s a1) := by
  unfold State.fabricStall
  extract_lets +onlyGivenNames -merge -useContext -underBinder v1
  extract_lets +onlyGivenNames -merge -useContext -underBinder v2
  have h2 : Keeps 24623869 s v2 := by
    unfold v2
    refine Keeps.andThen ?_ (Keeps.fab) (by rfl)
    exact Keeps.refl
  refine Keeps.andThen ?_ State.evFault_keeps (by rfl)
  exact h2

theorem execFabricTrimDone_keeps {a0 s} : Answers 24623869 s (execFabricTrimDone a0 s) := by
  unfold execFabricTrimDone
  refine Answers.ite (fun _ => ?_) (fun _ => ?_)
  · refine Answers.next ?_
    exact Keeps.refl
  · extract_lets +onlyGivenNames -merge -useContext -underBinder v1
    extract_lets +onlyGivenNames -merge -useContext -underBinder v2
    extract_lets +onlyGivenNames -merge -useContext -underBinder v3
    have h3 : Keeps 24623869 s v3 := by
      unfold v3
      refine Keeps.andThen ?_ (Keeps.hk) (by rfl)
      exact Keeps.refl
    refine Answers.next ?_
    refine Keeps.foldl ?_ (fun t4 x4 h4 => ?_)
    · exact h3
    · refine Keeps.andThen ?_ State.fabricStall_keeps (by rfl)
      exact h4

end Sys2Proof.Machine
end

