-- ==== Sys2Proof/Laws/KeepNvm.lean ====
section
/-! SUPPORT. One lemma for each operation of Machine/Nvm.lean: the parts it may change, and that what must last lasts. -/

namespace Sys2Proof.Machine

theorem State.reErased_keeps {s a1 a2} : Keeps 140 s (State.reErased s a1 a2) := by
  unfold State.reErased
  refine Keeps.andThen ?_ State.journal_keeps (by rfl)
  refine Keeps.andThen ?_ State.ev_keeps (by rfl)
  exact Keeps.refl

theorem State.hdrRoom_keeps {s} : Keeps 128 s (State.hdrRoom s) := by
  unfold State.hdrRoom
  extract_lets +onlyGivenNames -merge -useContext -underBinder v1
  refine Keeps.ite (fun _ => ?_) (fun _ => ?_)
  · exact Keeps.refl
  · extract_lets +onlyGivenNames -merge -useContext -underBinder v2
    extract_lets +onlyGivenNames -merge -useContext -underBinder v3
    have h3 : Keeps 128 s v3 := by
      unfold v3
      refine Keeps.andThen ?_ (Keeps.nvm (by exact fun w => w)) (by rfl)
      exact Keeps.refl
    refine Keeps.ite (fun _ => ?_) (fun _ => ?_)
    · exact h3
    · refine Keeps.andThen ?_ State.nvmJob_keeps (by rfl)
      exact h3

theorem State.hdrTidy_keeps {s} : Keeps 128 s (State.hdrTidy s) := by
  unfold State.hdrTidy
  extract_lets +onlyGivenNames -merge -useContext -underBinder v1
  refine Keeps.ite (fun _ => ?_) (fun _ => ?_)
  · refine Keeps.andThen ?_ State.nvmJob_keeps (by rfl)
    exact Keeps.refl
  · exact Keeps.refl

theorem State.putHeader_keeps {s a1 a2} : Keeps 140 s (State.putHeader s a1 a2) := by
  unfold State.putHeader
  extract_lets +onlyGivenNames -merge -useContext -underBinder v1
  have h1 : Keeps 140 s v1 := by
    unfold v1
    refine Keeps.andThen ?_ State.hdrRoom_keeps (by rfl)
    exact Keeps.refl
  extract_lets +onlyGivenNames -merge -useContext -underBinder v2
  extract_lets +onlyGivenNames -merge -useContext -underBinder v3
  extract_lets +onlyGivenNames -merge -useContext -underBinder v4
  have h4 : Keeps 140 s v4 := by
    unfold v4
    refine Keeps.andThen ?_ State.nvmJob_keeps (by rfl)
    refine Keeps.andThen ?_ (Keeps.nvm (by exact fun w => w)) (by rfl)
    exact h1
  refine Keeps.andThen ?_ State.hdrTidy_keeps (by rfl)
  refine Keeps.andThen ?_ State.journal_keeps (by rfl)
  exact h4

theorem State.jTidy_keeps {s} : Keeps 128 s (State.jTidy s) := by
  unfold State.jTidy
  extract_lets +onlyGivenNames -merge -useContext -underBinder v1
  extract_lets +onlyGivenNames -merge -useContext -underBinder v2
  refine Keeps.ite (fun _ => ?_) (fun _ => ?_)
  · refine Keeps.andThen ?_ (Keeps.nvm (by exact fun w => w)) (by rfl)
    exact Keeps.refl
  · exact Keeps.refl

theorem State.modMac_keeps {s a1 a2} : Keeps 512 s (State.modMac s a1 a2) := by
  unfold State.modMac
  refine Keeps.andThen ?_ (Keeps.sec) (by rfl)
  exact Keeps.refl

theorem State.pnBlock_keeps {s a1 a2} : Keeps 512 s (State.pnBlock s a1 a2) := by
  unfold State.pnBlock
  refine Keeps.ite (fun _ => ?_) (fun _ => ?_)
  · extract_lets +onlyGivenNames -merge -useContext -underBinder v1
    refine Keeps.andThen ?_ (Keeps.sec) (by rfl)
    exact Keeps.refl
  · exact Keeps.refl

theorem State.recordDone_keeps {s a1} : Keeps 640 s (State.recordDone s a1) := by
  unfold State.recordDone
  extract_lets +onlyGivenNames -merge -useContext -underBinder v1
  extract_lets +onlyGivenNames -merge -useContext -underBinder v2
  refine Keeps.ite (fun _ => ?_) (fun _ => ?_)
  · refine Keeps.ite (fun _ => ?_) (fun _ => ?_)
    · refine Keeps.andThen ?_ (Keeps.nvm (by intro w; dsimp only; exact (flashWrite_wf _ _ w))) (by rfl)
      exact Keeps.refl
    · refine Keeps.andThen ?_ (Keeps.nvm (by intro w; exact (by refine Nvm.jTurn_wf ?_; dsimp only; exact (flashWrite_wf _ _ w)))) (by rfl)
      exact Keeps.refl
  · extract_lets +onlyGivenNames -merge -useContext -underBinder v3
    have h3 : Keeps 640 s v3 := by
      unfold v3
      refine Keeps.andThen ?_ (Keeps.nvm (by intro w; exact (by refine Nvm.jTurn_wf ?_; dsimp only; exact (flashWrite_wf _ _ w)))) (by rfl)
      exact Keeps.refl
    refine Keeps.andThen ?_ State.jTidy_keeps (by rfl)
    refine Keeps.andThen ?_ State.pnBlock_keeps (by rfl)
    exact h3

theorem State.headerDone_keeps {s a1 a2} : Keeps 262284 s (State.headerDone s a1 a2) := by
  unfold State.headerDone
  extract_lets +onlyGivenNames -merge -useContext -underBinder v1
  extract_lets +onlyGivenNames -merge -useContext -underBinder v2
  have h2 : Keeps 262284 s v2 := by
    unfold v2
    refine Keeps.andThen ?_ (Keeps.nvm (by intro w; dsimp only; exact (flashWrite_wf _ _ w))) (by rfl)
    exact Keeps.refl
  refine Keeps.ite (fun _ => ?_) (fun _ => ?_)
  · refine Keeps.andThen ?_ State.stageEnd_keeps (by rfl)
    exact h2
  · exact h2

theorem State.jobDone_keeps {s a1} : Keeps 262796 s (State.jobDone s a1) := by
  unfold State.jobDone
  split
  · refine Keeps.andThen ?_ State.recordDone_keeps (by rfl)
    exact Keeps.refl
  · refine Keeps.andThen ?_ State.nvmJob_keeps (by rfl)
    refine Keeps.andThen ?_ (Keeps.nvm (by intro w; exact (by refine Nvm.jWipe_wf ?_; exact w))) (by rfl)
    exact Keeps.refl
  · refine Keeps.andThen ?_ State.reErased_keeps (by rfl)
    refine Keeps.andThen ?_ (Keeps.nvm (by intro w; exact (by refine Nvm.jWipe_wf ?_; exact w))) (by rfl)
    exact Keeps.refl
  · extract_lets +onlyGivenNames -merge -useContext -underBinder v1
    extract_lets +onlyGivenNames -merge -useContext -underBinder v2
    extract_lets +onlyGivenNames -merge -useContext -underBinder v3
    have h3 : Keeps 262796 s v3 := by
      unfold v3
      refine Keeps.andThen ?_ (Keeps.nvm (by intro w; dsimp only; exact (flashErase_wf _ _ w))) (by rfl)
      exact Keeps.refl
    refine Keeps.ite (fun _ => ?_) (fun _ => ?_)
    · refine Keeps.andThen ?_ State.reErased_keeps (by rfl)
      exact h3
    · exact h3
  · extract_lets +onlyGivenNames -merge -useContext -underBinder v4
    extract_lets +onlyGivenNames -merge -useContext -underBinder v5
    have h5 : Keeps 262796 s v5 := by
      unfold v5
      refine Keeps.andThen ?_ (Keeps.nvm (by intro w; dsimp only; exact (flashErase_wf _ _ w))) (by rfl)
      exact Keeps.refl
    refine Keeps.andThen ?_ State.reErased_keeps (by rfl)
    refine Keeps.andThen ?_ State.putHeader_keeps (by rfl)
    exact h5
  · refine Keeps.ite (fun _ => ?_) (fun _ => ?_)
    · refine Keeps.andThen ?_ State.nvmJob_keeps (by rfl)
      exact Keeps.refl
    · exact Keeps.refl
  · refine Keeps.andThen ?_ State.headerDone_keeps (by rfl)
    exact Keeps.refl
  · exact Keeps.refl

theorem State.jobLost_keeps {s a1} : Keeps 24623869 s (State.jobLost s a1) := by
  unfold State.jobLost
  extract_lets +onlyGivenNames -merge -useContext -underBinder v1
  have h1 : Keeps 24623869 s v1 := by
    unfold v1
    split
    · extract_lets +onlyGivenNames -merge -useContext -underBinder v2
      have h2 : Keeps 24623869 s v2 := by
        unfold v2
        refine Keeps.ite (fun _ => ?_) (fun _ => ?_)
        · refine Keeps.andThen ?_ State.modMac_keeps (by rfl)
          exact Keeps.refl
        · exact Keeps.refl
      extract_lets +onlyGivenNames -merge -useContext -underBinder v3
      refine Keeps.ite (fun _ => ?_) (fun _ => ?_)
      · refine Keeps.andThen ?_ (Keeps.nvm (by exact fun w => w)) (by rfl)
        exact h2
      · refine Keeps.andThen ?_ State.jTidy_keeps (by rfl)
        refine Keeps.andThen ?_ (Keeps.nvm (by intro w; exact (by refine Nvm.jTurn_wf ?_; exact w))) (by rfl)
        exact h2
    · refine Keeps.ite (fun _ => ?_) (fun _ => ?_)
      · refine Keeps.andThen ?_ State.stageEnd_keeps (by rfl)
        exact Keeps.refl
      · exact Keeps.refl
    · exact Keeps.refl
  refine Keeps.andThen ?_ State.fault_keeps (by rfl)
  exact h1

theorem State.cutOp_keeps {s} : Keeps 8388736 s (State.cutOp s) := by
  have torn : ∀ (o : Option NvmOp) (a : Nat) (bs : List Byte) (k : Nat), Keeps 8388736 s
      { s with nvm := { s.nvm with op := o, flash := flashWrite s.nvm.flash a bs }, free := s.free + k } := fun _ _ _ _ =>
    Keeps.refl.andThen (Keeps.nvm_free (by intro w; dsimp only; exact flashWrite_wf _ _ w) (by exact Nat.le_add_right _ _)) (by rfl)
  have half : ∀ (o : Option NvmOp) (a n : Nat) (bs : List Byte) (k : Nat), Keeps 8388736 s
      { s with nvm := { s.nvm with op := o, flash := flashWrite (flashErase s.nvm.flash a n) a bs }, free := s.free + k } :=
    fun _ _ _ _ _ => Keeps.refl.andThen (Keeps.nvm_free (by intro w; dsimp only; exact flashWrite_wf _ _ (flashErase_wf _ _ w)) (by exact Nat.le_add_right _ _)) (by rfl)
  have none_ : ∀ o : Option NvmOp, Keeps 8388736 s { s with nvm := { s.nvm with op := o } } :=
    fun _ => Keeps.refl.andThen (Keeps.nvm (by exact fun h => h)) (by rfl)
  unfold State.cutOp
  split
  · exact Keeps.refl
  · extract_lets
    split
    · exact Keeps.ite (fun _ => torn _ _ _ _) (fun _ => torn _ _ _ _)
    · exact half _ _ _ _ _
    · exact half _ _ _ _ _
    · exact half _ _ _ _ _
    · exact none_ _
    · exact torn _ _ _ _
    · exact half _ _ _ _ _
    · exact torn _ _ _ _
    · exact none_ _

theorem State.vioRelease_keeps {s} : Keeps 4194304 s (State.vioRelease s) := by
  unfold State.vioRelease
  refine Keeps.ite (fun _ => ?_) (fun _ => ?_)
  · refine Keeps.andThen ?_ (Keeps.pwr) (by rfl)
    exact Keeps.refl
  · exact Keeps.refl

theorem State.pnReserve_keeps {s a1} : Keeps 24623869 s (State.pnReserve s a1) := by
  unfold State.pnReserve
  refine Keeps.ite (fun _ => ?_) (fun _ => ?_)
  · exact Keeps.refl
  · extract_lets +onlyGivenNames -merge -useContext -underBinder v1
    refine Keeps.andThen ?_ State.fault_keeps (by rfl)
    refine Keeps.andThen ?_ State.modMac_keeps (by rfl)
    exact Keeps.refl

theorem State.pnReserveAll_keeps {s} : Keeps 24623869 s (State.pnReserveAll s) := by
  unfold State.pnReserveAll
  refine Keeps.foldl ?_ (fun t1 x1 h1 => ?_)
  · exact Keeps.refl
  · refine Keeps.andThen ?_ State.pnReserve_keeps (by rfl)
    exact h1

theorem execNvmOpDone_keeps {a0 s} : Answers 33012477 s (execNvmOpDone a0 s) := by
  unfold execNvmOpDone
  split
  · refine Answers.next ?_
    exact Keeps.refl
  · split
    · refine Answers.next ?_
      exact Keeps.refl
    · refine Answers.ite (fun _ => ?_) (fun _ => ?_)
      · refine Answers.next ?_
        refine Keeps.andThen ?_ State.vioRelease_keeps (by rfl)
        refine Keeps.andThen ?_ State.cutOp_keeps (by rfl)
        exact Keeps.refl
      · refine Answers.ite (fun _ => ?_) (fun _ => ?_)
        · refine Answers.next ?_
          exact Keeps.refl
        · refine Answers.ite (fun _ => ?_) (fun _ => ?_)
          · refine Answers.next ?_
            refine Keeps.andThen ?_ State.vioRelease_keeps (by rfl)
            refine Keeps.andThen ?_ State.pnReserveAll_keeps (by rfl)
            refine Keeps.andThen ?_ State.nvmKick_keeps (by rfl)
            refine Keeps.andThen ?_ State.jobDone_keeps (by rfl)
            refine Keeps.andThen ?_ (Keeps.nvm (by exact fun w => w)) (by rfl)
            exact Keeps.refl
          · extract_lets +onlyGivenNames -merge -useContext -underBinder v1
            have h1 : Keeps 33012477 s v1 := by
              unfold v1
              refine Keeps.andThen ?_ State.bump_keeps (by rfl)
              exact Keeps.refl
            refine Answers.ite (fun _ => ?_) (fun _ => ?_)
            · refine Answers.next ?_
              refine Keeps.andThen ?_ State.vioRelease_keeps (by rfl)
              refine Keeps.andThen ?_ (Keeps.nvm (by exact fun w => w)) (by rfl)
              exact h1
            · refine Answers.ite (fun _ => ?_) (fun _ => ?_)
              · refine Answers.next ?_
                refine Keeps.andThen ?_ (Keeps.nvm (by exact fun w => w)) (by rfl)
                exact h1
              · refine Answers.next ?_
                refine Keeps.andThen ?_ State.nvmKick_keeps (by rfl)
                refine Keeps.andThen ?_ State.jobLost_keeps (by rfl)
                refine Keeps.andThen ?_ (Keeps.nvm (by exact fun w => w)) (by rfl)
                exact h1

theorem execNvmGraceTimeout_keeps {s} : Answers 12583040 s (execNvmGraceTimeout s) := by
  unfold execNvmGraceTimeout
  refine Answers.ite (fun _ => ?_) (fun _ => ?_)
  · refine Answers.next ?_
    exact Keeps.refl
  · refine Answers.next ?_
    refine Keeps.andThen ?_ State.vioRelease_keeps (by rfl)
    refine Keeps.andThen ?_ State.cutOp_keeps (by rfl)
    exact Keeps.refl

theorem State.writeJournalRead_keeps {s a1} : Keeps 130 s (State.writeJournalRead s a1) := by
  unfold State.writeJournalRead
  extract_lets +onlyGivenNames -merge -useContext -underBinder v1
  extract_lets +onlyGivenNames -merge -useContext -underBinder v2
  extract_lets +onlyGivenNames -merge -useContext -underBinder v3
  have h3 : Keeps 130 s v3 := by
    unfold v3
    refine Keeps.andThen ?_ State.setRw_keeps (by rfl)
    exact Keeps.refl
  extract_lets +onlyGivenNames -merge -useContext -underBinder v4
  have h4 : Keeps 130 s v4 := by
    unfold v4
    refine Keeps.andThen ?_ (Keeps.nvm (by exact fun w => w)) (by rfl)
    exact h3
  refine Keeps.ite (fun _ => ?_) (fun _ => ?_)
  · refine Keeps.andThen ?_ State.nvmJob_keeps (by rfl)
    exact h4
  · refine Keeps.andThen ?_ (Keeps.nvm (by exact fun w => w)) (by rfl)
    exact h4

theorem execJournalRead_keeps {a0 s} : Answers 130 s (execJournalRead a0 s) := by
  unfold execJournalRead
  refine Answers.next ?_
  refine Keeps.andThen ?_ State.writeJournalRead_keeps (by rfl)
  exact Keeps.refl

theorem execJournalReadDone_keeps {s} : Answers 128 s (execJournalReadDone s) := by
  unfold execJournalReadDone
  split
  · extract_lets +onlyGivenNames -merge -useContext -underBinder n0 n1 n2
    refine Answers.next ?_
    refine Keeps.andThen (t := { s with nvm := n2 }) ?_ State.nvmKick_keeps (by rfl)
    refine Keeps.refl.andThen (Keeps.nvm ?_) (by rfl)
    intro w
    unfold n2
    split
    · exact w
    · split <;> exact w
  · exact Answers.next Keeps.refl

end Sys2Proof.Machine
end

