-- ==== Sys2Proof/Laws/KeepStaging.lean ====
section
/-! SUPPORT. One lemma for each operation of Machine/Staging.lean: the parts it may change, and that what must last lasts. -/

namespace Sys2Proof.Machine

theorem State.modStage_keeps {s a1} : Keeps 262144 s (State.modStage s a1) := by
  unfold State.modStage
  refine Keeps.andThen ?_ (Keeps.host) (by rfl)
  exact Keeps.refl

theorem State.stageGo_keeps {s} : Keeps 17039500 s (State.stageGo s) := by
  unfold State.stageGo
  refine Keeps.ite (fun _ => ?_) (fun _ => ?_)
  · refine Keeps.andThen ?_ State.bump_keeps (by rfl)
    exact Keeps.refl
  · refine Keeps.ite (fun _ => ?_) (fun _ => ?_)
    · exact Keeps.refl
    · extract_lets +onlyGivenNames -merge -useContext -underBinder v1
      have h1 : Keeps 17039500 s v1 := by
        unfold v1
        refine Keeps.andThen ?_ State.modStage_keeps (by rfl)
        exact Keeps.refl
      refine Keeps.ite (fun _ => ?_) (fun _ => ?_)
      · refine Keeps.andThen ?_ State.stageEnd_keeps (by rfl)
        exact h1
      · refine Keeps.ite (fun _ => ?_) (fun _ => ?_)
        · refine Keeps.andThen ?_ State.stageEnd_keeps (by rfl)
          exact h1
        · refine Keeps.andThen ?_ State.readHostMem_keeps (by rfl)
          exact h1

theorem State.stageAbort_keeps {s} : Keeps 262284 s (State.stageAbort s) := by
  unfold State.stageAbort
  refine Keeps.ite (fun _ => ?_) (fun _ => ?_)
  · exact Keeps.refl
  · refine Keeps.ite (fun _ => ?_) (fun _ => ?_)
    · refine Keeps.andThen ?_ State.modStage_keeps (by rfl)
      exact Keeps.refl
    · refine Keeps.andThen ?_ State.stageEnd_keeps (by rfl)
      exact Keeps.refl

theorem State.writeStageCtrl_keeps {s a1} : Keeps 17039500 s (State.writeStageCtrl s a1) := by
  unfold State.writeStageCtrl
  extract_lets +onlyGivenNames -merge -useContext -underBinder v1
  have h1 : Keeps 17039500 s v1 := by
    unfold v1
    refine Keeps.ite (fun _ => ?_) (fun _ => ?_)
    · refine Keeps.andThen ?_ State.stageAbort_keeps (by rfl)
      exact Keeps.refl
    · exact Keeps.refl
  refine Keeps.ite (fun _ => ?_) (fun _ => ?_)
  · refine Keeps.andThen ?_ State.stageGo_keeps (by rfl)
    exact h1
  · exact h1

theorem execStageGo_keeps {a0 s} : Answers 17039500 s (execStageGo a0 s) := by
  unfold execStageGo
  refine Answers.next ?_
  refine Keeps.andThen ?_ State.writeStageCtrl_keeps (by rfl)
  exact Keeps.refl

theorem execStageAbort_keeps {a0 s} : Answers 17039500 s (execStageAbort a0 s) := by
  unfold execStageAbort
  refine Answers.next ?_
  refine Keeps.andThen ?_ State.writeStageCtrl_keeps (by rfl)
  exact Keeps.refl

theorem State.stageBytes_keeps {s a1} : Keeps 262284 s (State.stageBytes s a1) := by
  unfold State.stageBytes
  extract_lets +onlyGivenNames -merge -useContext -underBinder v1
  extract_lets +onlyGivenNames -merge -useContext -underBinder v2
  refine Keeps.ite (fun _ => ?_) (fun _ => ?_)
  · refine Keeps.andThen ?_ State.stageEnd_keeps (by rfl)
    exact Keeps.refl
  · refine Keeps.ite (fun _ => ?_) (fun _ => ?_)
    · refine Keeps.andThen ?_ State.stageEnd_keeps (by rfl)
      exact Keeps.refl
    · refine Keeps.ite (fun _ => ?_) (fun _ => ?_)
      · refine Keeps.andThen ?_ State.modStage_keeps (by rfl)
        exact Keeps.refl
      · refine Keeps.andThen ?_ State.modStage_keeps (by rfl)
        exact Keeps.refl

theorem execStagePullDone_keeps {a0 a1 a2 s} : Answers 262284 s (execStagePullDone a0 a1 a2 s) := by
  unfold execStagePullDone
  refine Answers.ite (fun _ => ?_) (fun _ => ?_)
  · refine Answers.next ?_
    exact Keeps.refl
  · refine Answers.ite (fun _ => ?_) (fun _ => ?_)
    · refine Answers.next ?_
      refine Keeps.andThen ?_ State.stageEnd_keeps (by rfl)
      exact Keeps.refl
    · refine Answers.ite (fun _ => ?_) (fun _ => ?_)
      · refine Answers.ite (fun _ => ?_) (fun _ => ?_)
        · refine Answers.next ?_
          refine Keeps.andThen ?_ State.stageEnd_keeps (by rfl)
          exact Keeps.refl
        · refine Answers.next ?_
          refine Keeps.andThen ?_ State.modStage_keeps (by rfl)
          exact Keeps.refl
      · refine Answers.next ?_
        refine Keeps.andThen ?_ State.stageBytes_keeps (by rfl)
        exact Keeps.refl

theorem State.stageErase_keeps {s} : Keeps 262284 s (State.stageErase s) := by
  unfold State.stageErase
  extract_lets +onlyGivenNames -merge -useContext -underBinder v1
  have h1 : Keeps 262284 s v1 := by
    unfold v1
    refine Keeps.andThen ?_ State.modStage_keeps (by rfl)
    exact Keeps.refl
  extract_lets +onlyGivenNames -merge -useContext -underBinder v2
  have h2 : Keeps 262284 s v2 := by
    unfold v2
    refine Keeps.andThen ?_ State.putHeader_keeps (by rfl)
    exact h1
  refine Keeps.andThen ?_ State.nvmJob_keeps (by rfl)
  exact h2

theorem execStageCheckDone_keeps {s} : Answers 262284 s (execStageCheckDone s) := by
  unfold execStageCheckDone
  refine Answers.ite (fun _ => ?_) (fun _ => ?_)
  · refine Answers.next ?_
    exact Keeps.refl
  · extract_lets +onlyGivenNames -merge -useContext -underBinder v1
    extract_lets +onlyGivenNames -merge -useContext -underBinder v2
    extract_lets +onlyGivenNames -merge -useContext -underBinder v3
    have h3 : Keeps 262284 s v3 := by
      unfold v3
      refine Keeps.andThen ?_ State.modStage_keeps (by rfl)
      exact Keeps.refl
    refine Answers.ite (fun _ => ?_) (fun _ => ?_)
    · refine Answers.next ?_
      refine Keeps.andThen ?_ State.stageEnd_keeps (by rfl)
      exact h3
    · extract_lets +onlyGivenNames -merge -useContext -underBinder v4
      extract_lets +onlyGivenNames -merge -useContext -underBinder v5
      have h5 : Keeps 262284 s v5 := by
        unfold v5
        refine Keeps.andThen ?_ State.modStage_keeps (by rfl)
        exact h3
      refine Answers.ite (fun _ => ?_) (fun _ => ?_)
      · refine Answers.next ?_
        exact h5
      · refine Answers.next ?_
        refine Keeps.andThen ?_ State.stageErase_keeps (by rfl)
        exact h5

theorem execStageEraseResume_keeps {s} : Answers 262284 s (execStageEraseResume s) := by
  unfold execStageEraseResume
  refine Answers.ite (fun _ => ?_) (fun _ => ?_)
  · refine Answers.next ?_
    refine Keeps.andThen ?_ State.stageErase_keeps (by rfl)
    exact Keeps.refl
  · refine Answers.next ?_
    exact Keeps.refl

theorem State.stageFlashFail_keeps {s a1} : Keeps 24623869 s (State.stageFlashFail s a1) := by
  unfold State.stageFlashFail
  extract_lets +onlyGivenNames -merge -useContext -underBinder v1
  have h1 : Keeps 24623869 s v1 := by
    unfold v1
    refine Keeps.andThen ?_ State.bump_keeps (by rfl)
    exact Keeps.refl
  refine Keeps.ite (fun _ => ?_) (fun _ => ?_)
  · refine Keeps.andThen ?_ State.nvmKick_keeps (by rfl)
    refine Keeps.andThen ?_ State.fault_keeps (by rfl)
    refine Keeps.andThen ?_ State.stageEnd_keeps (by rfl)
    refine Keeps.andThen ?_ (Keeps.nvm (by exact fun w => w)) (by rfl)
    exact h1
  · refine Keeps.andThen ?_ (Keeps.nvm (by exact fun w => w)) (by rfl)
    exact h1

theorem State.stageGoOn_keeps {s a1} : Keeps 262284 s (State.stageGoOn s a1) := by
  unfold State.stageGoOn
  refine Keeps.ite (fun _ => ?_) (fun _ => ?_)
  · refine Keeps.andThen ?_ State.stageEnd_keeps (by rfl)
    exact Keeps.refl
  · refine Keeps.andThen ?_ State.nvmJob_keeps (by rfl)
    exact Keeps.refl

theorem execStageEraseDone_keeps {a0 s} : Answers 33012477 s (execStageEraseDone a0 s) := by
  unfold execStageEraseDone
  split
  · refine Answers.ite (fun _ => ?_) (fun _ => ?_)
    · refine Answers.next ?_
      refine Keeps.andThen ?_ State.vioRelease_keeps (by rfl)
      refine Keeps.andThen ?_ State.cutOp_keeps (by rfl)
      exact Keeps.refl
    · refine Answers.ite (fun _ => ?_) (fun _ => ?_)
      · refine Answers.next ?_
        refine Keeps.andThen ?_ State.stageFlashFail_keeps (by rfl)
        exact Keeps.refl
      · extract_lets +onlyGivenNames -merge -useContext -underBinder v1
        extract_lets +onlyGivenNames -merge -useContext -underBinder v2
        extract_lets +onlyGivenNames -merge -useContext -underBinder v3
        have h3 : Keeps 33012477 s v3 := by
          unfold v3
          refine Keeps.andThen ?_ (Keeps.nvm (by intro w; dsimp only; exact (flashErase_wf _ _ w))) (by rfl)
          exact Keeps.refl
        refine Answers.ite (fun _ => ?_) (fun _ => ?_)
        · extract_lets +onlyGivenNames -merge -useContext -underBinder v4
          have h4 : Keeps 33012477 s v4 := by
            unfold v4
            refine Keeps.andThen ?_ State.modStage_keeps (by rfl)
            exact h3
          refine Answers.next ?_
          refine Keeps.andThen ?_ State.nvmKick_keeps (by rfl)
          refine Keeps.andThen ?_ State.stageGoOn_keeps (by rfl)
          exact h4
        · extract_lets +onlyGivenNames -merge -useContext -underBinder v5
          have h5 : Keeps 33012477 s v5 := by
            unfold v5
            refine Keeps.andThen ?_ State.modStage_keeps (by rfl)
            exact h3
          refine Answers.next ?_
          refine Keeps.andThen ?_ State.nvmKick_keeps (by rfl)
          refine Keeps.andThen ?_ State.stageGoOn_keeps (by rfl)
          exact h5
  · refine Answers.next ?_
    exact Keeps.refl

theorem execStageProgramDone_keeps {a0 s} : Answers 24623869 s (execStageProgramDone a0 s) := by
  unfold execStageProgramDone
  split
  · refine Answers.ite (fun _ => ?_) (fun _ => ?_)
    · refine Answers.next ?_
      refine Keeps.andThen ?_ State.stageFlashFail_keeps (by rfl)
      exact Keeps.refl
    · extract_lets +onlyGivenNames -merge -useContext -underBinder v1
      extract_lets +onlyGivenNames -merge -useContext -underBinder v2
      extract_lets +onlyGivenNames -merge -useContext -underBinder v3
      have h3 : Keeps 24623869 s v3 := by
        unfold v3
        refine Keeps.andThen ?_ (Keeps.nvm (by intro w; dsimp only; exact (flashWrite_wf _ _ w))) (by rfl)
        exact Keeps.refl
      refine Answers.ite (fun _ => ?_) (fun _ => ?_)
      · refine Answers.next ?_
        refine Keeps.andThen ?_ State.vioRelease_keeps (by rfl)
        exact h3
      · refine Answers.ite (fun _ => ?_) (fun _ => ?_)
        · refine Answers.next ?_
          refine Keeps.andThen ?_ State.nvmKick_keeps (by rfl)
          refine Keeps.andThen ?_ State.stageGoOn_keeps (by rfl)
          refine Keeps.andThen ?_ State.modStage_keeps (by rfl)
          exact h3
        · extract_lets +onlyGivenNames -merge -useContext -underBinder v4
          have h4 : Keeps 24623869 s v4 := by
            unfold v4
            refine Keeps.andThen ?_ State.modStage_keeps (by rfl)
            exact h3
          refine Answers.next ?_
          refine Keeps.andThen ?_ State.nvmKick_keeps (by rfl)
          refine Keeps.andThen ?_ State.stageGoOn_keeps (by rfl)
          exact h4
  · refine Answers.next ?_
    exact Keeps.refl

theorem execStageVerifyDone_keeps {s} : Answers 4456588 s (execStageVerifyDone s) := by
  unfold execStageVerifyDone
  split
  · extract_lets +onlyGivenNames -merge -useContext -underBinder v1
    extract_lets +onlyGivenNames -merge -useContext -underBinder v2
    have h2 : Keeps 4456588 s v2 := by
      unfold v2
      refine Keeps.andThen ?_ (Keeps.nvm (by exact fun w => w)) (by rfl)
      exact Keeps.refl
    extract_lets +onlyGivenNames -merge -useContext -underBinder v3
    extract_lets +onlyGivenNames -merge -useContext -underBinder v4
    refine Answers.ite (fun _ => ?_) (fun _ => ?_)
    · refine Answers.next ?_
      refine Keeps.andThen ?_ State.vioRelease_keeps (by rfl)
      exact h2
    · refine Answers.ite (fun _ => ?_) (fun _ => ?_)
      · refine Answers.next ?_
        refine Keeps.andThen ?_ State.nvmKick_keeps (by rfl)
        refine Keeps.andThen ?_ State.stageEnd_keeps (by rfl)
        exact h2
      · extract_lets +onlyGivenNames -merge -useContext -underBinder v5
        have h5 : Keeps 4456588 s v5 := by
          unfold v5
          refine Keeps.andThen ?_ State.modStage_keeps (by rfl)
          exact h2
        refine Answers.next ?_
        refine Keeps.andThen ?_ State.nvmKick_keeps (by rfl)
        refine Keeps.andThen ?_ State.putHeader_keeps (by rfl)
        exact h5
  · refine Answers.next ?_
    exact Keeps.refl

end Sys2Proof.Machine
end

