-- ==== Sys2Proof/Laws/KeepSecurity.lean ====
section
/-! SUPPORT. One lemma for each operation of Machine/Security.lean: the parts it may change, and that what must last lasts. -/

namespace Sys2Proof.Machine

theorem State.loadMac_keeps {s a1} : Keeps 524 s (State.loadMac s a1) := by
  unfold State.loadMac
  split
  · refine Keeps.ite (fun _ => ?_) (fun _ => ?_)
    · refine Keeps.andThen ?_ State.ev_keeps (by rfl)
      exact Keeps.refl
    · exact Keeps.refl
  · split
    · refine Keeps.andThen ?_ State.modMac_keeps (by rfl)
      exact Keeps.refl
    · refine Keeps.andThen ?_ State.ev_keeps (by rfl)
      exact Keeps.refl

theorem State.loadKeys_keeps {s} : Keeps 524 s (State.loadKeys s) := by
  unfold State.loadKeys
  extract_lets +onlyGivenNames -merge -useContext -underBinder v1
  have h1 : Keeps 524 s v1 := by
    unfold v1
    split
    · exact Keeps.refl
    · split
      · refine Keeps.andThen ?_ (Keeps.sec) (by rfl)
        exact Keeps.refl
      · refine Keeps.andThen ?_ State.ev_keeps (by rfl)
        exact Keeps.refl
  refine Keeps.ite (fun _ => ?_) (fun _ => ?_)
  · refine Keeps.foldl ?_ (fun t2 x2 h2 => ?_)
    · exact h1
    · refine Keeps.andThen ?_ State.loadMac_keeps (by rfl)
      exact h2
  · exact h1

theorem State.pnTake_keeps {s a1} : KeepsOR 24623869 s (State.pnTake s a1) := by
  unfold State.pnTake
  extract_lets +onlyGivenNames -merge -useContext -underBinder v1
  split
  · exact KeepsOR.none
  · refine KeepsOR.ite (fun _ => ?_) (fun _ => ?_)
    · refine KeepsOR.some ?_
      refine Keeps.andThen ?_ State.pnReserve_keeps (by rfl)
      refine Keeps.andThen ?_ State.modMac_keeps (by rfl)
      exact Keeps.refl
    · split
      · exact KeepsOR.none
      · refine KeepsOR.some ?_
        refine Keeps.andThen ?_ State.pnReserve_keeps (by rfl)
        refine Keeps.andThen ?_ State.modMac_keeps (by rfl)
        exact Keeps.refl

theorem State.writeOwnerHash_keeps {s a1 a2} : Keeps 512 s (State.writeOwnerHash s a1 a2) := by
  unfold State.writeOwnerHash
  refine Keeps.ite (fun _ => ?_) (fun _ => ?_)
  · refine Keeps.andThen ?_ (Keeps.sec) (by rfl)
    exact Keeps.refl
  · exact Keeps.refl

theorem State.writeEnrol_keeps {s value blown} : Keeps 768 s (State.writeEnrol s value blown) := by
  unfold State.writeEnrol
  refine Keeps.ite (fun _ => Keeps.refl) (fun _ => Keeps.ite (fun _ => ?_) (fun _ => Keeps.sec.mono (by rfl)))
  exact (Keeps.fuses (by rfl) (by rfl) (by rfl) (by rfl) (by exact fun h => h)).mono (by rfl)

theorem execOwnerEnrol_keeps {a0 a1 s} : Answers 768 s (execOwnerEnrol a0 a1 s) := by
  unfold execOwnerEnrol
  refine Answers.next ?_
  refine Keeps.andThen ?_ State.writeEnrol_keeps (by rfl)
  exact Keeps.refl

theorem State.writeNonce_keeps {s a1 a2} : Keeps 512 s (State.writeNonce s a1 a2) := by
  unfold State.writeNonce
  refine Keeps.andThen ?_ (Keeps.sec) (by rfl)
  exact Keeps.refl

theorem execAttestNonceWrite_keeps {a0 a1 s} : Answers 512 s (execAttestNonceWrite a0 a1 s) := by
  unfold execAttestNonceWrite
  refine Answers.next ?_
  refine Keeps.andThen ?_ State.writeNonce_keeps (by rfl)
  exact Keeps.refl

theorem State.putReport_keeps {s a1} : Keeps 512 s (State.putReport s a1) := by
  unfold State.putReport
  extract_lets +onlyGivenNames -merge -useContext -underBinder v1
  refine Keeps.andThen ?_ (Keeps.sec) (by rfl)
  exact Keeps.refl

theorem State.finishReport_keeps {s} : Keeps 512 s (State.finishReport s) := by
  unfold State.finishReport
  split
  · refine Keeps.andThen ?_ State.putReport_keeps (by rfl)
    exact Keeps.refl
  · exact Keeps.refl

theorem State.lateReport_keeps {s} : Keeps 512 s (State.lateReport s) := by
  unfold State.lateReport
  extract_lets +onlyGivenNames -merge -useContext -underBinder v1
  extract_lets +onlyGivenNames -merge -useContext -underBinder v2
  have h2 : Keeps 512 s v2 := by
    unfold v2
    refine Keeps.andThen ?_ State.putReport_keeps (by rfl)
    refine Keeps.andThen ?_ (Keeps.sec) (by rfl)
    exact Keeps.refl
  refine Keeps.andThen ?_ (Keeps.sec) (by rfl)
  exact h2

theorem State.writeAttest_keeps {s a1} : Keeps 512 s (State.writeAttest s a1) := by
  unfold State.writeAttest
  refine Keeps.ite (fun _ => ?_) (fun _ => ?_)
  · exact Keeps.refl
  · refine Keeps.ite (fun _ => ?_) (fun _ => ?_)
    · refine Keeps.andThen ?_ State.lateReport_keeps (by rfl)
      exact Keeps.refl
    · refine Keeps.ite (fun _ => ?_) (fun _ => ?_)
      · refine Keeps.andThen ?_ (Keeps.sec) (by rfl)
        exact Keeps.refl
      · refine Keeps.andThen ?_ (Keeps.sec) (by rfl)
        exact Keeps.refl

theorem execAttestGo_keeps {a0 s} : Answers 512 s (execAttestGo a0 s) := by
  unfold execAttestGo
  refine Answers.next ?_
  refine Keeps.andThen ?_ State.writeAttest_keeps (by rfl)
  exact Keeps.refl

theorem execAttestReportDone_keeps {s} : Answers 512 s (execAttestReportDone s) := by
  unfold execAttestReportDone
  refine Answers.next ?_
  refine Keeps.andThen ?_ State.finishReport_keeps (by rfl)
  exact Keeps.refl

theorem State.writeDebug_keeps {s a1} : Keeps 393868 s (State.writeDebug s a1) := by
  unfold State.writeDebug
  refine Keeps.ite (fun _ => ?_) (fun _ => ?_)
  · exact Keeps.refl
  · extract_lets +onlyGivenNames -merge -useContext -underBinder v1
    have h1 : Keeps 393868 s v1 := by
      unfold v1
      refine Keeps.ite (fun _ => ?_) (fun _ => ?_)
      · refine Keeps.andThen ?_ State.finishReport_keeps (by rfl)
        exact Keeps.refl
      · exact Keeps.refl
    extract_lets +onlyGivenNames -merge -useContext -underBinder v2
    refine Keeps.ite (fun _ => ?_) (fun _ => ?_)
    · extract_lets +onlyGivenNames -merge -useContext -underBinder v3
      extract_lets +onlyGivenNames -merge -useContext -underBinder v4
      have h4 : Keeps 393868 s v4 := by
        unfold v4
        refine Keeps.andThen ?_ State.ev_keeps (by rfl)
        refine Keeps.andThen ?_ State.zeroise_keeps (by rfl)
        exact h1
      refine Keeps.andThen ?_ (Keeps.sec) (by rfl)
      exact h4
    · extract_lets +onlyGivenNames -merge -useContext -underBinder v5
      extract_lets +onlyGivenNames -merge -useContext -underBinder v6
      have h6 : Keeps 393868 s v6 := by
        unfold v6
        refine Keeps.andThen ?_ (Keeps.sec) (by rfl)
        exact h1
      refine Keeps.andThen ?_ State.ev_keeps (by rfl)
      exact h6

theorem execDebugSubmit_keeps {a0 s} : Answers 393868 s (execDebugSubmit a0 s) := by
  unfold execDebugSubmit
  refine Answers.next ?_
  refine Keeps.andThen ?_ State.writeDebug_keeps (by rfl)
  exact Keeps.refl

theorem State.writeZeroise_keeps {s value} : Keeps 394124 s (State.writeZeroise s value) := by
  unfold State.writeZeroise
  refine Keeps.ite (fun _ => Keeps.refl) (fun _ => ?_)
  have h : Keeps 394124 s (s.zeroise 0) := Keeps.refl.andThen State.zeroise_keeps (by rfl)
  refine Keeps.ite (fun _ => ?_) (fun _ => h)
  exact h.andThen (Keeps.fuses (by rfl) (by rfl) (by rfl) (by rfl) (by exact fun _ => rfl)) (by rfl)

theorem execZeroise_keeps {a0 s} : Answers 394124 s (execZeroise a0 s) := by
  unfold execZeroise
  refine Answers.next ?_
  refine Keeps.andThen ?_ State.writeZeroise_keeps (by rfl)
  exact Keeps.refl

theorem execZeroisePermanent_keeps {a0 s} : Answers 394124 s (execZeroisePermanent a0 s) := by
  unfold execZeroisePermanent
  refine Answers.next ?_
  refine Keeps.andThen ?_ State.writeZeroise_keeps (by rfl)
  exact Keeps.refl

theorem execEntropyHealthFailure_keeps {a0 s} : Answers 24623869 s (execEntropyHealthFailure a0 s) := by
  unfold execEntropyHealthFailure
  extract_lets +onlyGivenNames -merge -useContext -underBinder v1
  extract_lets +onlyGivenNames -merge -useContext -underBinder v2
  extract_lets +onlyGivenNames -merge -useContext -underBinder v3
  have h3 : Keeps 24623869 s v3 := by
    unfold v3
    refine Keeps.andThen ?_ (Keeps.sec) (by rfl)
    exact Keeps.refl
  refine Answers.next ?_
  refine Keeps.andThen ?_ State.raise_keeps (by rfl)
  refine Keeps.andThen ?_ State.evtW_keeps (by rfl)
  exact h3

end Sys2Proof.Machine
end

