-- ==== Sys2Proof/Laws/KeepNetOps.lean ====
section
/-! SUPPORT. One lemma for each operation of Machine/NetOps.lean: the parts it may change, and that what must last lasts. -/

namespace Sys2Proof.Machine

theorem State.ethSend_keeps {s a1 a2 a3 a4} : Keeps 24623869 s (State.ethSend s a1 a2 a3 a4) := by
  unfold State.ethSend
  extract_lets +onlyGivenNames -merge -useContext -underBinder v1
  refine Keeps.ite (fun _ => ?_) (fun _ => ?_)
  · exact Keeps.refl
  · extract_lets +onlyGivenNames -merge -useContext -underBinder v2
    extract_lets +onlyGivenNames -merge -useContext -underBinder v3
    extract_lets +onlyGivenNames -merge -useContext -underBinder v4
    refine Keeps.ite (fun _ => ?_) (fun _ => ?_)
    · refine Keeps.andThen ?_ State.send_keeps (by rfl)
      exact Keeps.refl
    · split
      · exact Keeps.refl
      · split
        · refine Keeps.andThen ?_ State.bump_keeps (by rfl)
          exact Keeps.refl
        · rename_i y5_0 t5 e5
          have h5 : Keeps 24623869 s t5 := by
            refine (?_ : KeepsOR 24623869 s _) _ _ e5
            refine KeepsOR.andThen ?_ State.pnTake_keeps (by rfl)
            exact Keeps.refl
          extract_lets +onlyGivenNames -merge -useContext -underBinder v6
          split
          · refine Keeps.andThen ?_ State.send_keeps (by rfl)
            exact h5

theorem State.udpSend_keeps {s a1 a2 a3 a4 a5 a6 a7} : Keeps 24623869 s (State.udpSend s a1 a2 a3 a4 a5 a6 a7) := by
  unfold State.udpSend
  refine Keeps.andThen ?_ State.ethSend_keeps (by rfl)
  exact Keeps.refl

theorem State.igmpReport_keeps {s a1 a2} : Keeps 24623869 s (State.igmpReport s a1 a2) := by
  unfold State.igmpReport
  refine Keeps.ite (fun _ => ?_) (fun _ => ?_)
  · exact Keeps.refl
  · extract_lets +onlyGivenNames -merge -useContext -underBinder v1
    extract_lets +onlyGivenNames -merge -useContext -underBinder v2
    refine Keeps.andThen ?_ State.ethSend_keeps (by rfl)
    exact Keeps.refl

theorem State.judgeFlow_keeps {s : State} {a f} (h : Keeps 131084 s a.1) : Keeps 131084 s (State.judgeFlow a f).1 := by
  unfold State.judgeFlow
  split
  · exact h
  · extract_lets +onlyGivenNames -merge -useContext -underBinder c t
    have ht : Keeps 131084 s t := h.andThen State.modFlow_keeps (by rfl)
    split
    · exact ht
    · exact ht.andThen State.evtAt_keeps (by rfl)

theorem State.judgeFlows_keeps {s} : Keeps 131084 s (State.judgeFlows s) := by
  unfold State.judgeFlows
  refine Keeps.ite (fun _ => ?_) (fun _ => Keeps.refl)
  have h : ∀ (l : List Nat) (a : State × List FlowRec), Keeps 131084 s a.1 → Keeps 131084 s (l.foldl State.judgeFlow a).1 := by
    intro l
    induction l with
    | nil => exact fun _ h => h
    | cons x l ih => exact fun a h => ih _ (State.judgeFlow_keeps h)
  exact h _ _ Keeps.refl

theorem State.judgeEth_keeps {s} : Keeps 12 s (State.judgeEth s) := by
  unfold State.judgeEth
  refine Keeps.foldl ?_ (fun t1 x1 h1 => ?_)
  · exact Keeps.refl
  · extract_lets +onlyGivenNames -merge -useContext -underBinder v2
    have h2 : Keeps 12 s v2 := by
      unfold v2
      refine Keeps.ite (fun _ => ?_) (fun _ => ?_)
      · refine Keeps.andThen ?_ State.evtAt_keeps (by rfl)
        exact h1
      · exact h1
    extract_lets +onlyGivenNames -merge -useContext -underBinder v3
    refine Keeps.ite (fun _ => ?_) (fun _ => ?_)
    · refine Keeps.andThen ?_ State.evtAt_keeps (by rfl)
      exact h2
    · exact h2

theorem State.syncSub_keeps {s a1} : Keeps 24623869 s (State.syncSub s a1) := by
  unfold State.syncSub
  refine Keeps.ite (fun _ => ?_) (fun _ => ?_)
  · exact Keeps.refl
  · extract_lets +onlyGivenNames -merge -useContext -underBinder v1
    extract_lets +onlyGivenNames -merge -useContext -underBinder v2
    extract_lets +onlyGivenNames -merge -useContext -underBinder v3
    refine Keeps.ite (fun _ => ?_) (fun _ => ?_)
    · exact Keeps.refl
    · extract_lets +onlyGivenNames -merge -useContext -underBinder v4
      refine Keeps.andThen ?_ State.igmpReport_keeps (by rfl)
      refine Keeps.andThen ?_ State.modSub_keeps (by rfl)
      exact Keeps.refl

theorem State.syncGroups_keeps {s} : Keeps 24623869 s (State.syncGroups s) := by
  unfold State.syncGroups
  refine Keeps.foldl ?_ (fun t1 x1 h1 => ?_)
  · exact Keeps.refl
  · refine Keeps.andThen ?_ State.syncSub_keeps (by rfl)
    exact h1

theorem State.freeBufs_keeps {s a1} : Keeps 131072 s (State.freeBufs s a1) := by
  unfold State.freeBufs
  refine Keeps.andThen ?_ State.modFlow_keeps (by rfl)
  exact Keeps.refl

theorem State.joinFlow_keeps {s a1} : Keeps 131072 s (State.joinFlow s a1) := by
  unfold State.joinFlow
  split
  · exact Keeps.refl
  · refine Keeps.andThen ?_ State.freeBufs_keeps (by rfl)
    refine Keeps.andThen ?_ State.modFlow_keeps (by rfl)
    exact Keeps.refl

theorem State.leaveFlow_keeps {s a1} : Keeps 131072 s (State.leaveFlow s a1) := by
  unfold State.leaveFlow
  refine Keeps.andThen ?_ State.freeBufs_keeps (by rfl)
  refine Keeps.andThen ?_ State.modFlow_keeps (by rfl)
  exact Keeps.refl

theorem State.joinStep_keeps {s a1} : Keeps 131072 s (State.joinStep s a1) := by
  unfold State.joinStep
  extract_lets +onlyGivenNames -merge -useContext -underBinder v1
  refine Keeps.ite (fun _ => ?_) (fun _ => ?_)
  · refine Keeps.ite (fun _ => ?_) (fun _ => ?_)
    · refine Keeps.andThen ?_ State.modFlow_keeps (by rfl)
      exact Keeps.refl
    · refine Keeps.andThen ?_ State.joinFlow_keeps (by rfl)
      exact Keeps.refl
  · refine Keeps.ite (fun _ => ?_) (fun _ => ?_)
    · refine Keeps.andThen ?_ State.modFlow_keeps (by rfl)
      exact Keeps.refl
    · exact Keeps.refl

theorem State.joins_keeps {s} : Keeps 24623869 s (State.joins s) := by
  unfold State.joins
  refine Keeps.ite (fun _ => ?_) (fun _ => ?_)
  · refine Keeps.andThen ?_ State.syncGroups_keeps (by rfl)
    refine Keeps.foldl ?_ (fun t1 x1 h1 => ?_)
    · exact Keeps.refl
    · refine Keeps.andThen ?_ State.joinStep_keeps (by rfl)
      exact h1
  · exact Keeps.refl

end Sys2Proof.Machine
end

