-- ==== Sys2Proof/Laws/KeepIngest.lean ====
section
/-! SUPPORT. One lemma for each operation of Machine/Ingest.lean: the parts it may change, and that what must last lasts. -/

namespace Sys2Proof.Machine

theorem State.storeFrame_keeps {s a1 a2 a3 a4} : Keeps 524288 s (State.storeFrame s a1 a2 a3 a4) := by
  unfold State.storeFrame
  extract_lets +onlyGivenNames -merge -useContext -underBinder v1
  refine Keeps.andThen ?_ (Keeps.memBytes (by intro w; dsimp only; refine Sparse.foldl_wf _ _ (fun _ _ h => hbmWriteList_wf _ _ h) w) (by rfl)) (by rfl)
  exact Keeps.refl

theorem State.countLost_keeps {s a1 a2} : Keeps 131076 s (State.countLost s a1 a2) := by
  unfold State.countLost
  extract_lets +onlyGivenNames -merge -useContext -underBinder v1
  split
  · exact Keeps.refl
  · extract_lets +onlyGivenNames -merge -useContext -underBinder v2
    refine Keeps.ite (fun _ => ?_) (fun _ => ?_)
    · exact Keeps.refl
    · extract_lets +onlyGivenNames -merge -useContext -underBinder v3
      extract_lets +onlyGivenNames -merge -useContext -underBinder v4
      refine Keeps.andThen ?_ State.modFlow_keeps (by rfl)
      refine Keeps.andThen ?_ State.bumpN_keeps (by rfl)
      exact Keeps.refl

theorem State.frameDone_keeps {s a1 a2 a3 a4} : Keeps 671748 s (State.frameDone s a1 a2 a3 a4) := by
  unfold State.frameDone
  extract_lets +onlyGivenNames -merge -useContext -underBinder v1
  have h1 : Keeps 671748 s v1 := by
    unfold v1
    refine Keeps.andThen ?_ State.countLost_keeps (by rfl)
    refine Keeps.andThen ?_ State.modFlow_keeps (by rfl)
    exact Keeps.refl
  extract_lets +onlyGivenNames -merge -useContext -underBinder v2
  have h2 : Keeps 671748 s v2 := by
    unfold v2
    split
    · exact h1
    · refine Keeps.andThen ?_ State.storeFrame_keeps (by rfl)
      refine Keeps.andThen ?_ State.modFlow_keeps (by rfl)
      exact h1
  extract_lets +onlyGivenNames -merge -useContext -underBinder v3
  have h3 : Keeps 671748 s v3 := by
    unfold v3
    refine Keeps.andThen ?_ State.freeBufs_keeps (by rfl)
    exact h2
  refine Keeps.ite (fun _ => ?_) (fun _ => ?_)
  · refine Keeps.andThen ?_ State.warmTake_keeps (by rfl)
    exact h3
  · exact h3

theorem State.frameClose_keeps {s a1 a2 a3} : Keeps 671748 s (State.frameClose s a1 a2 a3) := by
  unfold State.frameClose
  refine Keeps.ite (fun _ => ?_) (fun _ => ?_)
  · extract_lets +onlyGivenNames -merge -useContext -underBinder v1
    have h1 : Keeps 671748 s v1 := by
      unfold v1
      refine Keeps.ite (fun _ => ?_) (fun _ => ?_)
      · refine Keeps.andThen ?_ State.bump_keeps (by rfl)
        exact Keeps.refl
      · exact Keeps.refl
    refine Keeps.andThen ?_ State.frameDone_keeps (by rfl)
    exact h1
  · extract_lets +onlyGivenNames -merge -useContext -underBinder v2
    have h2 : Keeps 671748 s v2 := by
      unfold v2
      refine Keeps.ite (fun _ => ?_) (fun _ => ?_)
      · refine Keeps.andThen ?_ State.bump_keeps (by rfl)
        exact Keeps.refl
      · exact Keeps.refl
    refine Keeps.andThen ?_ State.freeBufs_keeps (by rfl)
    refine Keeps.andThen ?_ State.countLost_keeps (by rfl)
    refine Keeps.andThen ?_ State.modFlow_keeps (by rfl)
    exact h2

theorem State.flowRestart_keeps {s a1 a2} : Keeps 131084 s (State.flowRestart s a1 a2) := by
  unfold State.flowRestart
  extract_lets +onlyGivenNames -merge -useContext -underBinder v1
  have h1 : Keeps 131084 s v1 := by
    unfold v1
    refine Keeps.andThen ?_ State.modFlow_keeps (by rfl)
    exact Keeps.refl
  refine Keeps.andThen ?_ State.evtAt_keeps (by rfl)
  refine Keeps.andThen ?_ State.freeBufs_keeps (by rfl)
  exact h1

theorem State.closeDue_keeps {s a1 a2} : Keeps 671748 s (State.closeDue s a1 a2) := by
  unfold State.closeDue
  refine Keeps.foldl ?_ (fun t1 x1 h1 => ?_)
  · exact Keeps.refl
  · refine Keeps.andThen ?_ State.frameClose_keeps (by rfl)
    exact h1

theorem State.frameStart_keeps {s a1 a2 a3} : Keeps 671756 s (State.frameStart s a1 a2 a3) := by
  unfold State.frameStart
  extract_lets +onlyGivenNames -merge -useContext -underBinder v1
  have h1 : Keeps 671756 s v1 := by
    unfold v1
    refine Keeps.andThen ?_ State.freeBufs_keeps (by rfl)
    refine Keeps.andThen ?_ State.closeDue_keeps (by rfl)
    exact Keeps.refl
  extract_lets +onlyGivenNames -merge -useContext -underBinder v2
  extract_lets +onlyGivenNames -merge -useContext -underBinder v3
  extract_lets +onlyGivenNames -merge -useContext -underBinder v4
  extract_lets +onlyGivenNames -merge -useContext -underBinder v5
  have h5 : Keeps 671756 s v5 := by
    unfold v5
    refine Keeps.andThen ?_ State.modFlow_keeps (by rfl)
    exact h1
  extract_lets +onlyGivenNames -merge -useContext -underBinder v6
  have h6 : Keeps 671756 s v6 := by
    unfold v6
    refine Keeps.andThen ?_ State.freeBufs_keeps (by rfl)
    exact h5
  refine Keeps.ite (fun _ => ?_) (fun _ => ?_)
  · exact h6
  · extract_lets +onlyGivenNames -merge -useContext -underBinder v7
    have h7 : Keeps 671756 s v7 := by
      unfold v7
      refine Keeps.andThen ?_ State.bump_keeps (by rfl)
      exact h6
    extract_lets +onlyGivenNames -merge -useContext -underBinder v8
    refine Keeps.ite (fun _ => ?_) (fun _ => ?_)
    · refine Keeps.andThen ?_ State.evtAt_keeps (by rfl)
      refine Keeps.andThen ?_ State.modFlow_keeps (by rfl)
      exact h7
    · exact h7

theorem State.countPath_keeps {s a1 a2 a3} : Keeps 131076 s (State.countPath s a1 a2 a3) := by
  unfold State.countPath
  extract_lets +onlyGivenNames -merge -useContext -underBinder v1
  extract_lets +onlyGivenNames -merge -useContext -underBinder v2
  extract_lets +onlyGivenNames -merge -useContext -underBinder v3
  extract_lets +onlyGivenNames -merge -useContext -underBinder v4
  extract_lets +onlyGivenNames -merge -useContext -underBinder v5
  refine Keeps.andThen ?_ State.modFlow_keeps (by rfl)
  refine Keeps.andThen ?_ State.bumpN_keeps (by rfl)
  exact Keeps.refl

theorem State.pathPacket_keeps {s a1 a2 a3 a4} : Keeps 131084 s (State.pathPacket s a1 a2 a3 a4) := by
  unfold State.pathPacket
  extract_lets +onlyGivenNames -merge -useContext -underBinder v1
  have h1 : Keeps 131084 s v1 := by
    unfold v1
    refine Keeps.andThen ?_ State.countPath_keeps (by rfl)
    exact Keeps.refl
  extract_lets +onlyGivenNames -merge -useContext -underBinder v2
  extract_lets +onlyGivenNames -merge -useContext -underBinder v3
  extract_lets +onlyGivenNames -merge -useContext -underBinder v4
  extract_lets +onlyGivenNames -merge -useContext -underBinder v5
  extract_lets +onlyGivenNames -merge -useContext -underBinder v6
  have h6 : Keeps 131084 s v6 := by
    unfold v6
    refine Keeps.andThen ?_ State.modFlow_keeps (by rfl)
    exact h1
  refine Keeps.ite (fun _ => ?_) (fun _ => ?_)
  · exact h6
  · refine Keeps.andThen ?_ State.evtAt_keeps (by rfl)
    exact h6

theorem State.noteCopy_keeps {s a1 a2 a3} : KeepsR 131072 s (State.noteCopy s a1 a2 a3) := by
  unfold State.noteCopy
  extract_lets +onlyGivenNames -merge -useContext -underBinder v1
  extract_lets +onlyGivenNames -merge -useContext -underBinder v2
  split
  · refine KeepsR.mk ?_
    refine Keeps.andThen ?_ State.modFlow_keeps (by rfl)
    exact Keeps.refl
  · refine KeepsR.ite (fun _ => ?_) (fun _ => ?_)
    · refine KeepsR.mk ?_
      refine Keeps.andThen ?_ State.modFlow_keeps (by rfl)
      exact Keeps.refl
    · refine KeepsR.mk ?_
      refine Keeps.andThen ?_ State.modFlow_keeps (by rfl)
      exact Keeps.refl

theorem State.swapCopy_keeps {s a1 a2 a3} : Keeps 655360 s (State.swapCopy s a1 a2 a3) := by
  unfold State.swapCopy
  extract_lets +onlyGivenNames -merge -useContext -underBinder v1
  extract_lets +onlyGivenNames -merge -useContext -underBinder v2
  extract_lets +onlyGivenNames -merge -useContext -underBinder v3
  have h3 : Keeps 655360 s v3 := by
    unfold v3
    refine Keeps.andThen ?_ State.modFlow_keeps (by rfl)
    exact Keeps.refl
  split
  · refine Keeps.ite (fun _ => ?_) (fun _ => ?_)
    · extract_lets +onlyGivenNames -merge -useContext -underBinder v4
      have h4 : Keeps 655360 s v4 := by
        unfold v4
        refine Keeps.andThen ?_ State.modFlow_keeps (by rfl)
        exact h3
      refine Keeps.andThen ?_ State.storeFrame_keeps (by rfl)
      exact h4
    · exact h3
  · exact h3

theorem State.noteSeq_keeps {s a1 a2} : Keeps 131072 s (State.noteSeq s a1 a2) := by
  unfold State.noteSeq
  refine Keeps.andThen ?_ State.modFlow_keeps (by rfl)
  exact Keeps.refl

theorem State.ssrcOk_keeps {s a1 a2 a3} : KeepsR 131084 s (State.ssrcOk s a1 a2 a3) := by
  unfold State.ssrcOk
  extract_lets +onlyGivenNames -merge -useContext -underBinder v1
  split
  · refine KeepsR.mk ?_
    refine Keeps.andThen ?_ State.modFlow_keeps (by rfl)
    exact Keeps.refl
  · refine KeepsR.ite (fun _ => ?_) (fun _ => ?_)
    · refine KeepsR.mk ?_
      refine Keeps.andThen ?_ State.modFlow_keeps (by rfl)
      exact Keeps.refl
    · extract_lets +onlyGivenNames -merge -useContext -underBinder v2
      refine KeepsR.ite (fun _ => ?_) (fun _ => ?_)
      · refine KeepsR.mk ?_
        refine Keeps.andThen ?_ State.modFlow_keeps (by rfl)
        exact Keeps.refl
      · refine KeepsR.mk ?_
        refine Keeps.andThen ?_ State.flowRestart_keeps (by rfl)
        refine Keeps.andThen ?_ State.modFlow_keeps (by rfl)
        exact Keeps.refl

theorem State.seqOk_keeps {s a1 a2 a3} : KeepsR 131084 s (State.seqOk s a1 a2 a3) := by
  unfold State.seqOk
  extract_lets +onlyGivenNames -merge -useContext -underBinder v1
  split
  · refine KeepsR.mk ?_
    refine Keeps.andThen ?_ State.modFlow_keeps (by rfl)
    exact Keeps.refl
  · refine KeepsR.ite (fun _ => ?_) (fun _ => ?_)
    · extract_lets +onlyGivenNames -merge -useContext -underBinder v2
      have h2 : Keeps 131084 s v2 := by
        unfold v2
        refine Keeps.andThen ?_ State.bump_keeps (by rfl)
        exact Keeps.refl
      refine KeepsR.ite (fun _ => ?_) (fun _ => ?_)
      · refine KeepsR.mk ?_
        refine Keeps.andThen ?_ State.modFlow_keeps (by rfl)
        exact h2
      · refine KeepsR.mk ?_
        refine Keeps.andThen ?_ State.modFlow_keeps (by rfl)
        refine Keeps.andThen ?_ State.flowRestart_keeps (by rfl)
        exact h2
    · refine KeepsR.mk ?_
      refine Keeps.andThen ?_ State.modFlow_keeps (by rfl)
      exact Keeps.refl

theorem State.takePacket_keeps {s a1 a2 a3} : Keeps 671756 s (State.takePacket s a1 a2 a3) := by
  unfold State.takePacket
  extract_lets +onlyGivenNames -merge -useContext -underBinder v1
  have h1 : Keeps 671756 s v1 := by
    unfold v1
    refine Keeps.ite (fun _ => ?_) (fun _ => ?_)
    · exact Keeps.refl
    · refine Keeps.andThen ?_ State.frameStart_keeps (by rfl)
      exact Keeps.refl
  extract_lets +onlyGivenNames -merge -useContext -underBinder v2
  extract_lets +onlyGivenNames -merge -useContext -underBinder v3
  have h3 : Keeps 671756 s v3 := by
    unfold v3
    refine Keeps.andThen ?_ State.bumpN_keeps (by rfl)
    exact h1
  extract_lets +onlyGivenNames -merge -useContext -underBinder v4
  have h4 : Keeps 671756 s v4 := by
    unfold v4
    refine Keeps.andThen ?_ State.modFlow_keeps (by rfl)
    exact h3
  split
  · refine Keeps.andThen ?_ State.frameDone_keeps (by rfl)
    exact h4
  · exact h4

theorem State.flowPacket_keeps {s a1 a2 a3} : Keeps 671756 s (State.flowPacket s a1 a2 a3) := by
  unfold State.flowPacket
  split
  · extract_lets +onlyGivenNames -merge -useContext -underBinder v1
    refine Keeps.ite (fun _ => ?_) (fun _ => ?_)
    · exact Keeps.refl
    · split
      · rename_i y2_0 t2 e2
        have h2 : Keeps 671756 s t2 := by
          refine Keeps.snd (e := _) ?_ e2
          refine KeepsR.andThen ?_ State.ssrcOk_keeps (by rfl)
          exact Keeps.refl
        refine Keeps.ite (fun _ => ?_) (fun _ => ?_)
        · exact h2
        · split
          · rename_i y3_0 t3 e3
            have h3 : Keeps 671756 s t3 := by
              refine Keeps.snd (e := _) ?_ e3
              refine KeepsR.andThen ?_ State.seqOk_keeps (by rfl)
              exact h2
            refine Keeps.ite (fun _ => ?_) (fun _ => ?_)
            · exact h3
            · extract_lets +onlyGivenNames -merge -useContext -underBinder v4
              have h4 : Keeps 671756 s v4 := by
                unfold v4
                refine Keeps.andThen ?_ State.noteSeq_keeps (by rfl)
                refine Keeps.andThen ?_ State.pathPacket_keeps (by rfl)
                exact h3
              split
              · rename_i y5_0 t5 e5
                have h5 : Keeps 671756 s t5 := by
                  refine Keeps.snd (e := _) ?_ e5
                  refine KeepsR.ite (fun _ => ?_) (fun _ => ?_)
                  · refine KeepsR.andThen ?_ State.noteCopy_keeps (by rfl)
                    exact h4
                  · refine KeepsR.mk ?_
                    exact h4
                refine Keeps.ite (fun _ => ?_) (fun _ => ?_)
                · refine Keeps.andThen ?_ State.swapCopy_keeps (by rfl)
                  exact h5
                · refine Keeps.ite (fun _ => ?_) (fun _ => ?_)
                  · exact h5
                  · refine Keeps.ite (fun _ => ?_) (fun _ => ?_)
                    · refine Keeps.andThen ?_ State.bump_keeps (by rfl)
                      exact h5
                    · refine Keeps.andThen ?_ State.takePacket_keeps (by rfl)
                      exact h5
  · exact Keeps.refl

theorem execFlowPacketRx_keeps {a0 a1 a2 s} : Answers 671756 s (execFlowPacketRx a0 a1 a2 s) := by
  unfold execFlowPacketRx
  refine Answers.next ?_
  refine Keeps.andThen ?_ State.flowPacket_keeps (by rfl)
  exact Keeps.refl

theorem execFlowFrameClose_keeps {a0 s} : Answers 671748 s (execFlowFrameClose a0 s) := by
  unfold execFlowFrameClose
  split
  · refine Answers.next ?_
    exact Keeps.refl
  · refine Answers.next ?_
    refine Keeps.andThen ?_ State.countPath_keeps (by rfl)
    refine Keeps.andThen ?_ State.countPath_keeps (by rfl)
    refine Keeps.andThen ?_ State.closeDue_keeps (by rfl)
    exact Keeps.refl

theorem execFlowPathTimeout_keeps {a0 a1 s} : Answers 131084 s (execFlowPathTimeout a0 a1 s) := by
  unfold execFlowPathTimeout
  extract_lets +onlyGivenNames -merge -useContext -underBinder v1
  extract_lets +onlyGivenNames -merge -useContext -underBinder v2
  refine Answers.ite (fun _ => ?_) (fun _ => ?_)
  · refine Answers.next ?_
    exact Keeps.refl
  · extract_lets +onlyGivenNames -merge -useContext -underBinder v3
    have h3 : Keeps 131084 s v3 := by
      unfold v3
      split
      · refine Keeps.andThen ?_ State.countPath_keeps (by rfl)
        exact Keeps.refl
      · exact Keeps.refl
    extract_lets +onlyGivenNames -merge -useContext -underBinder v4
    have h4 : Keeps 131084 s v4 := by
      unfold v4
      refine Keeps.andThen ?_ State.modFlow_keeps (by rfl)
      exact h3
    refine Answers.next ?_
    refine Keeps.andThen ?_ State.evtAt_keeps (by rfl)
    exact h4

theorem execFlowLeaveTimer_keeps {a0 s} : Answers 24623869 s (execFlowLeaveTimer a0 s) := by
  unfold execFlowLeaveTimer
  split
  · refine Answers.ite (fun _ => ?_) (fun _ => ?_)
    · refine Answers.next ?_
      refine Keeps.andThen ?_ State.syncGroups_keeps (by rfl)
      refine Keeps.andThen ?_ State.leaveFlow_keeps (by rfl)
      exact Keeps.refl
    · refine Answers.next ?_
      exact Keeps.refl
  · refine Answers.next ?_
    exact Keeps.refl

theorem State.arp_keeps {s a1 a2} : Keeps 24623869 s (State.arp s a1 a2) := by
  unfold State.arp
  refine Keeps.ite (fun _ => ?_) (fun _ => ?_)
  · exact Keeps.refl
  · extract_lets +onlyGivenNames -merge -useContext -underBinder v1
    refine Keeps.andThen ?_ State.ethSend_keeps (by rfl)
    exact Keeps.refl

theorem execArpRequest_keeps {a0 a1 s} : Answers 24623869 s (execArpRequest a0 a1 s) := by
  unfold execArpRequest
  refine Answers.next ?_
  refine Keeps.andThen ?_ State.arp_keeps (by rfl)
  exact Keeps.refl

theorem State.igmp_keeps {s a1 a2} : Keeps 24623869 s (State.igmp s a1 a2) := by
  unfold State.igmp
  refine Keeps.ite (fun _ => ?_) (fun _ => ?_)
  · exact Keeps.refl
  · extract_lets +onlyGivenNames -merge -useContext -underBinder v1
    refine Keeps.ite (fun _ => ?_) (fun _ => ?_)
    · exact Keeps.refl
    · refine Keeps.ite (fun _ => ?_) (fun _ => ?_)
      · extract_lets +onlyGivenNames -merge -useContext -underBinder v2
        extract_lets +onlyGivenNames -merge -useContext -underBinder v3
        have h3 : Keeps 24623869 s v3 := by
          unfold v3
          refine Keeps.ite (fun _ => ?_) (fun _ => ?_)
          · refine Keeps.andThen ?_ State.evtAt_keeps (by rfl)
            refine Keeps.andThen ?_ State.modSub_keeps (by rfl)
            exact Keeps.refl
          · exact Keeps.refl
        extract_lets +onlyGivenNames -merge -useContext -underBinder v4
        refine Keeps.andThen ?_ State.igmpReport_keeps (by rfl)
        exact h3
      · extract_lets +onlyGivenNames -merge -useContext -underBinder v5
        extract_lets +onlyGivenNames -merge -useContext -underBinder v6
        refine Keeps.andThen ?_ State.igmpReport_keeps (by rfl)
        exact Keeps.refl

theorem execIgmpQuery_keeps {a0 a1 s} : Answers 24623869 s (execIgmpQuery a0 a1 s) := by
  unfold execIgmpQuery
  refine Answers.next ?_
  refine Keeps.andThen ?_ State.igmp_keeps (by rfl)
  exact Keeps.refl

theorem execIgmpReportTimer_keeps {a0 s} : Answers 24623869 s (execIgmpReportTimer a0 s) := by
  unfold execIgmpReportTimer
  extract_lets +onlyGivenNames -merge -useContext -underBinder v1
  refine Answers.next ?_
  refine Keeps.andThen ?_ State.modSub_keeps (by rfl)
  refine Keeps.andThen ?_ State.igmpReport_keeps (by rfl)
  exact Keeps.refl

theorem execEthLinkChange_keeps {a0 a1 a2 s} : Answers 24623869 s (execEthLinkChange a0 a1 a2 s) := by
  unfold execEthLinkChange
  refine Answers.ite (fun _ => ?_) (fun _ => ?_)
  · refine Answers.next ?_
    exact Keeps.refl
  · extract_lets +onlyGivenNames -merge -useContext -underBinder v1
    extract_lets +onlyGivenNames -merge -useContext -underBinder v2
    have h2 : Keeps 24623869 s v2 := by
      unfold v2
      refine Keeps.andThen ?_ State.modSub_keeps (by rfl)
      exact Keeps.refl
    refine Answers.ite (fun _ => ?_) (fun _ => ?_)
    · refine Answers.next ?_
      exact h2
    · refine Answers.ite (fun _ => ?_) (fun _ => ?_)
      · refine Answers.next ?_
        refine Keeps.andThen ?_ State.evtAt_keeps (by rfl)
        exact h2
      · extract_lets +onlyGivenNames -merge -useContext -underBinder v3
        have h3 : Keeps 24623869 s v3 := by
          unfold v3
          refine Keeps.andThen ?_ State.evtAt_keeps (by rfl)
          exact h2
        extract_lets +onlyGivenNames -merge -useContext -underBinder v4
        refine Answers.next ?_
        refine Keeps.andThen ?_ State.igmpReport_keeps (by rfl)
        refine Keeps.andThen ?_ State.modSub_keeps (by rfl)
        exact h3

end Sys2Proof.Machine
end

