-- ==== Sys2Proof/Laws/KeepTimeBase.lean ====
section
/-! SUPPORT. One lemma for each operation of Machine/TimeBase.lean: the parts it may change, and that what must last lasts. -/

namespace Sys2Proof.Machine

theorem State.judgeLarge_keeps {s} : Keeps 2060 s (State.judgeLarge s) := by
  unfold State.judgeLarge
  extract_lets +onlyGivenNames -merge -useContext -underBinder v1
  refine Keeps.ite (fun _ => ?_) (fun _ => ?_)
  · refine Keeps.andThen ?_ State.ev_keeps (by rfl)
    refine Keeps.andThen ?_ (Keeps.tb) (by rfl)
    exact Keeps.refl
  · refine Keeps.ite (fun _ => ?_) (fun _ => ?_)
    · refine Keeps.andThen ?_ (Keeps.tb) (by rfl)
      exact Keeps.refl
    · exact Keeps.refl

theorem State.applyStep_keeps {s a1} : Keeps 43020 s (State.applyStep s a1) := by
  unfold State.applyStep
  extract_lets +onlyGivenNames -merge -useContext -underBinder v1
  extract_lets +onlyGivenNames -merge -useContext -underBinder v2
  extract_lets +onlyGivenNames -merge -useContext -underBinder v3
  extract_lets +onlyGivenNames -merge -useContext -underBinder v4
  extract_lets +onlyGivenNames -merge -useContext -underBinder v5
  extract_lets +onlyGivenNames -merge -useContext -underBinder v6
  have h6 : Keeps 43020 s v6 := by
    unfold v6
    refine Keeps.andThen ?_ (Keeps.tb_sc_ports) (by rfl)
    exact Keeps.refl
  refine Keeps.andThen ?_ State.judgeLarge_keeps (by rfl)
  refine Keeps.andThen ?_ State.ev_keeps (by rfl)
  exact h6

theorem State.askStep_keeps {s} : Keeps 4096 s (State.askStep s) := by
  unfold State.askStep
  refine Keeps.ite (fun _ => ?_) (fun _ => ?_)
  · refine Keeps.andThen ?_ (Keeps.tl) (by rfl)
    exact Keeps.refl
  · refine Keeps.andThen ?_ State.acceptStep_keeps (by rfl)
    exact Keeps.refl

theorem State.firstStep_keeps {s} : Keeps 47116 s (State.firstStep s) := by
  unfold State.firstStep
  refine Keeps.ite (fun _ => ?_) (fun _ => ?_)
  · exact Keeps.refl
  · refine Keeps.ite (fun _ => ?_) (fun _ => ?_)
    · refine Keeps.andThen ?_ State.applyStep_keeps (by rfl)
      exact Keeps.refl
    · refine Keeps.ite (fun _ => ?_) (fun _ => ?_)
      · exact Keeps.refl
      · refine Keeps.andThen ?_ State.askStep_keeps (by rfl)
        refine Keeps.andThen ?_ (Keeps.tb) (by rfl)
        exact Keeps.refl

theorem State.select_keeps {s} : Keeps 47116 s (State.select s) := by
  unfold State.select
  extract_lets +onlyGivenNames -merge -useContext -underBinder v1
  extract_lets +onlyGivenNames -merge -useContext -underBinder v2
  extract_lets +onlyGivenNames -merge -useContext -underBinder v3
  extract_lets +onlyGivenNames -merge -useContext -underBinder v4
  have h4 : Keeps 47116 s v4 := by
    unfold v4
    refine Keeps.andThen ?_ (Keeps.tb) (by rfl)
    exact Keeps.refl
  refine Keeps.ite (fun _ => ?_) (fun _ => ?_)
  · exact h4
  · extract_lets +onlyGivenNames -merge -useContext -underBinder v5
    extract_lets +onlyGivenNames -merge -useContext -underBinder v6
    have h6 : Keeps 47116 s v6 := by
      unfold v6
      refine Keeps.andThen ?_ (Keeps.tb) (by rfl)
      exact h4
    extract_lets +onlyGivenNames -merge -useContext -underBinder v7
    have h7 : Keeps 47116 s v7 := by
      unfold v7
      refine Keeps.andThen ?_ State.bump_keeps (by rfl)
      refine Keeps.andThen ?_ State.ev_keeps (by rfl)
      exact h6
    refine Keeps.ite (fun _ => ?_) (fun _ => ?_)
    · refine Keeps.ite (fun _ => ?_) (fun _ => ?_)
      · refine Keeps.andThen ?_ State.ev_keeps (by rfl)
        exact h7
      · exact h7
    · refine Keeps.andThen ?_ State.firstStep_keeps (by rfl)
      refine Keeps.andThen ?_ State.judgeLarge_keeps (by rfl)
      exact h7

theorem State.settleSource_keeps {s} : Keeps 47116 s (State.settleSource s) := by
  unfold State.settleSource
  refine Keeps.ite (fun _ => ?_) (fun _ => ?_)
  · refine Keeps.andThen ?_ State.select_keeps (by rfl)
    exact Keeps.refl
  · exact Keeps.refl

theorem State.setQual_keeps {s a1 a2} : Keeps 2048 s (State.setQual s a1 a2) := by
  unfold State.setQual
  extract_lets +onlyGivenNames -merge -useContext -underBinder v1
  refine Keeps.ite (fun _ => ?_) (fun _ => ?_)
  · exact Keeps.refl
  · extract_lets +onlyGivenNames -merge -useContext -underBinder v2
    refine Keeps.andThen ?_ (Keeps.tb) (by rfl)
    exact Keeps.refl

theorem State.discipline_keeps {s} : Keeps 2048 s (State.discipline s) := by
  unfold State.discipline
  refine Keeps.ite (fun _ => ?_) (fun _ => ?_)
  · exact Keeps.refl
  · refine Keeps.andThen ?_ (Keeps.tb) (by rfl)
    exact Keeps.refl

theorem State.newOffset_keeps {s a1 a2} : Keeps 47116 s (State.newOffset s a1 a2) := by
  unfold State.newOffset
  extract_lets +onlyGivenNames -merge -useContext -underBinder v1
  extract_lets +onlyGivenNames -merge -useContext -underBinder v2
  have h2 : Keeps 47116 s v2 := by
    unfold v2
    refine Keeps.andThen ?_ (Keeps.tb) (by rfl)
    exact Keeps.refl
  refine Keeps.ite (fun _ => ?_) (fun _ => ?_)
  · refine Keeps.andThen ?_ State.firstStep_keeps (by rfl)
    refine Keeps.andThen ?_ State.discipline_keeps (by rfl)
    refine Keeps.andThen ?_ State.judgeLarge_keeps (by rfl)
    exact h2
  · exact h2

theorem State.newRate_keeps {s a1 a2} : Keeps 2048 s (State.newRate s a1 a2) := by
  unfold State.newRate
  refine Keeps.andThen ?_ (Keeps.tb) (by rfl)
  exact Keeps.refl

theorem execSourceRevertTimer_keeps {s} : Answers 47116 s (execSourceRevertTimer s) := by
  unfold execSourceRevertTimer
  refine Answers.next ?_
  refine Keeps.andThen ?_ State.select_keeps (by rfl)
  exact Keeps.refl

theorem State.snapshot_keeps {s} : Keeps 2048 s (State.snapshot s) := by
  unfold State.snapshot
  refine Keeps.andThen ?_ (Keeps.tb) (by rfl)
  exact Keeps.refl

theorem execTbNowNsRead_keeps {s} : Answers 16779264 s (execTbNowNsRead s) := by
  unfold execTbNowNsRead
  refine Answers.next ?_
  refine Keeps.andThen ?_ State.send_keeps (by rfl)
  refine Keeps.andThen ?_ State.snapshot_keeps (by rfl)
  exact Keeps.refl

theorem State.writeRestep_keeps {s a1} : Keeps 4100 s (State.writeRestep s a1) := by
  unfold State.writeRestep
  refine Keeps.ite (fun _ => ?_) (fun _ => ?_)
  · exact Keeps.refl
  · refine Keeps.ite (fun _ => ?_) (fun _ => ?_)
    · refine Keeps.andThen ?_ State.bump_keeps (by rfl)
      exact Keeps.refl
    · refine Keeps.andThen ?_ State.askStep_keeps (by rfl)
      exact Keeps.refl

theorem execTbRestep_keeps {a0 s} : Answers 4100 s (execTbRestep a0 s) := by
  unfold execTbRestep
  refine Answers.next ?_
  refine Keeps.andThen ?_ State.writeRestep_keeps (by rfl)
  exact Keeps.refl

theorem execRestepDecisionPoint_keeps {s} : Answers 6156 s (execRestepDecisionPoint s) := by
  unfold execRestepDecisionPoint
  split
  · refine Answers.ite (fun _ => ?_) (fun _ => ?_)
    · refine Answers.next ?_
      exact Keeps.refl
    · refine Answers.ite (fun _ => ?_) (fun _ => ?_)
      · refine Answers.next ?_
        refine Keeps.andThen ?_ State.ev_keeps (by rfl)
        refine Keeps.andThen ?_ (Keeps.tb_tl) (by rfl)
        exact Keeps.refl
      · refine Answers.next ?_
        refine Keeps.andThen ?_ (Keeps.tl) (by rfl)
        exact Keeps.refl
  · refine Answers.next ?_
    exact Keeps.refl

theorem State.laprefEdge_keeps {s a1 a2} : Keeps 47116 s (State.laprefEdge s a1 a2) := by
  unfold State.laprefEdge
  extract_lets +onlyGivenNames -merge -useContext -underBinder v1
  extract_lets +onlyGivenNames -merge -useContext -underBinder v2
  extract_lets +onlyGivenNames -merge -useContext -underBinder v3
  extract_lets +onlyGivenNames -merge -useContext -underBinder v4
  extract_lets +onlyGivenNames -merge -useContext -underBinder v5
  extract_lets +onlyGivenNames -merge -useContext -underBinder v6
  extract_lets +onlyGivenNames -merge -useContext -underBinder v7
  extract_lets +onlyGivenNames -merge -useContext -underBinder v8
  have h8 : Keeps 47116 s v8 := by
    unfold v8
    refine Keeps.andThen ?_ (Keeps.tb) (by rfl)
    exact Keeps.refl
  extract_lets +onlyGivenNames -merge -useContext -underBinder v9
  have h9 : Keeps 47116 s v9 := by
    unfold v9
    clear_value v3
    split
    · refine Keeps.ite (fun _ => ?_) (fun _ => ?_)
      · exact h8
      · extract_lets +onlyGivenNames -merge -useContext -underBinder v10
        extract_lets +onlyGivenNames -merge -useContext -underBinder v11
        extract_lets +onlyGivenNames -merge -useContext -underBinder v12
        extract_lets +onlyGivenNames -merge -useContext -underBinder v13
        extract_lets +onlyGivenNames -merge -useContext -underBinder v14
        have h14 : Keeps 47116 s v14 := by
          unfold v14
          refine Keeps.andThen ?_ (Keeps.tb) (by rfl)
          exact h8
        refine Keeps.ite (fun _ => ?_) (fun _ => ?_)
        · extract_lets +onlyGivenNames -merge -useContext -underBinder v15
          have h15 : Keeps 47116 s v15 := by
            unfold v15
            refine Keeps.andThen ?_ State.setQual_keeps (by rfl)
            refine Keeps.andThen ?_ State.newOffset_keeps (by rfl)
            refine Keeps.andThen ?_ State.ev_keeps (by rfl)
            exact h14
          refine Keeps.andThen ?_ (Keeps.tb) (by rfl)
          exact h15
        · exact h14
    · exact h8
  extract_lets +onlyGivenNames -merge -useContext -underBinder v16
  refine Keeps.ite (fun _ => ?_) (fun _ => ?_)
  · exact h9
  · extract_lets +onlyGivenNames -merge -useContext -underBinder v17
    extract_lets +onlyGivenNames -merge -useContext -underBinder v18
    have h18 : Keeps 47116 s v18 := by
      unfold v18
      refine Keeps.andThen ?_ State.newOffset_keeps (by rfl)
      exact h9
    extract_lets +onlyGivenNames -merge -useContext -underBinder v19
    have h19 : Keeps 47116 s v19 := by
      unfold v19
      refine Keeps.andThen ?_ State.newRate_keeps (by rfl)
      exact h18
    refine Keeps.ite (fun _ => ?_) (fun _ => ?_)
    · refine Keeps.andThen ?_ State.setQual_keeps (by rfl)
      exact h19
    · exact h19

theorem execLaprefPulse_keeps {a0 a1 s} : Answers 47116 s (execLaprefPulse a0 a1 s) := by
  unfold execLaprefPulse
  extract_lets +onlyGivenNames -merge -useContext -underBinder v1
  extract_lets +onlyGivenNames -merge -useContext -underBinder v2
  extract_lets +onlyGivenNames -merge -useContext -underBinder v3
  extract_lets +onlyGivenNames -merge -useContext -underBinder v4
  extract_lets +onlyGivenNames -merge -useContext -underBinder v5
  have h5 : Keeps 47116 s v5 := by
    unfold v5
    refine Keeps.andThen ?_ (Keeps.tb) (by rfl)
    exact Keeps.refl
  extract_lets +onlyGivenNames -merge -useContext -underBinder v6
  refine Answers.ite (fun _ => ?_) (fun _ => ?_)
  · refine Answers.next ?_
    refine Keeps.andThen ?_ State.bump_keeps (by rfl)
    refine Keeps.andThen ?_ (Keeps.tb) (by rfl)
    exact h5
  · refine Answers.next ?_
    refine Keeps.andThen ?_ State.laprefEdge_keeps (by rfl)
    exact h5

theorem execLaprefEdgeTimeout_keeps {s} : Answers 2048 s (execLaprefEdgeTimeout s) := by
  unfold execLaprefEdgeTimeout
  split
  · refine Answers.ite (fun _ => ?_) (fun _ => ?_)
    · refine Answers.next ?_
      refine Keeps.andThen ?_ State.setQual_keeps (by rfl)
      refine Keeps.andThen ?_ (Keeps.tb) (by rfl)
      exact Keeps.refl
    · refine Answers.next ?_
      exact Keeps.refl
  · refine Answers.next ?_
    exact Keeps.refl

end Sys2Proof.Machine
end

