-- ==== Sys2Proof/Laws/KeepPtp.lean ====
section
/-! SUPPORT. One lemma for each operation of Machine/Ptp.lean: the parts it may change, and that what must last lasts. -/

namespace Sys2Proof.Machine

theorem State.ptpEach_keeps {m s u i t d f} (hu : Keeps m s u) (hf : ∀ u a h, Keeps m s u → Keeps m s (f u a h)) (hm : 4 &&& m = 4) :
    Keeps m s (State.ptpEach u i t d f) := by
  unfold State.ptpEach
  refine Keeps.foldl hu (fun u a h => ?_)
  split
  · exact h.andThen State.bump_keeps hm
  · exact Keeps.ite (fun _ => hf _ _ _ h) (fun _ => h)

theorem State.chooseMaster_keeps {s a1} : Keeps 2060 s (State.chooseMaster s a1) := by
  unfold State.chooseMaster
  extract_lets +onlyGivenNames -merge -useContext -underBinder v1
  extract_lets +onlyGivenNames -merge -useContext -underBinder v2
  refine Keeps.ite (fun _ => ?_) (fun _ => ?_)
  · exact Keeps.refl
  · extract_lets +onlyGivenNames -merge -useContext -underBinder v3
    have h3 : Keeps 2060 s v3 := by
      unfold v3
      refine Keeps.andThen ?_ State.modPtp_keeps (by rfl)
      exact Keeps.refl
    refine Keeps.andThen ?_ State.ev_keeps (by rfl)
    refine Keeps.andThen ?_ State.bump_keeps (by rfl)
    exact h3

theorem State.ptpLost_keeps {s a1} : Keeps 2048 s (State.ptpLost s a1) := by
  unfold State.ptpLost
  refine Keeps.andThen ?_ State.setQual_keeps (by rfl)
  refine Keeps.andThen ?_ State.modPtp_keeps (by rfl)
  exact Keeps.refl

theorem State.announce_keeps {s a1 a2 a3} : Keeps 2060 s (State.announce s a1 a2 a3) := by
  unfold State.announce
  extract_lets +onlyGivenNames -merge -useContext -underBinder v1
  extract_lets +onlyGivenNames -merge -useContext -underBinder v2
  have h2 : Keeps 2060 s v2 := by
    unfold v2
    refine Keeps.andThen ?_ State.modPtp_keeps (by rfl)
    exact Keeps.refl
  extract_lets +onlyGivenNames -merge -useContext -underBinder v3
  extract_lets +onlyGivenNames -merge -useContext -underBinder v4
  refine Keeps.ite (fun _ => ?_) (fun _ => ?_)
  · exact h2
  · extract_lets +onlyGivenNames -merge -useContext -underBinder v5
    refine Keeps.andThen ?_ State.chooseMaster_keeps (by rfl)
    refine Keeps.andThen ?_ State.modPtp_keeps (by rfl)
    exact h2

theorem State.measured_keeps {s a1 a2 a3} : Keeps 47116 s (State.measured s a1 a2 a3) := by
  unfold State.measured
  extract_lets +onlyGivenNames -merge -useContext -underBinder v1
  extract_lets +onlyGivenNames -merge -useContext -underBinder v2
  extract_lets +onlyGivenNames -merge -useContext -underBinder v3
  extract_lets +onlyGivenNames -merge -useContext -underBinder v4
  extract_lets +onlyGivenNames -merge -useContext -underBinder v5
  extract_lets +onlyGivenNames -merge -useContext -underBinder v6
  have h6 : Keeps 47116 s v6 := by
    unfold v6
    refine Keeps.andThen ?_ State.modPtp_keeps (by rfl)
    exact Keeps.refl
  extract_lets +onlyGivenNames -merge -useContext -underBinder v7
  have h7 : Keeps 47116 s v7 := by
    unfold v7
    refine Keeps.andThen ?_ State.newOffset_keeps (by rfl)
    refine Keeps.andThen ?_ State.newRate_keeps (by rfl)
    exact h6
  refine Keeps.ite (fun _ => ?_) (fun _ => ?_)
  · refine Keeps.andThen ?_ State.setQual_keeps (by rfl)
    exact h7
  · exact h7

theorem State.tryMeasure_keeps {s a1} : Keeps 47116 s (State.tryMeasure s a1) := by
  unfold State.tryMeasure
  extract_lets +onlyGivenNames -merge -useContext -underBinder v1
  split
  · split
    · refine Keeps.ite (fun _ => ?_) (fun _ => ?_)
      · refine Keeps.andThen ?_ State.measured_keeps (by rfl)
        exact Keeps.refl
      · exact Keeps.refl
    · exact Keeps.refl
  · exact Keeps.refl

theorem State.syncMsg_keeps {s a1 a2 a3} : Keeps 47116 s (State.syncMsg s a1 a2 a3) := by
  unfold State.syncMsg
  extract_lets +onlyGivenNames -merge -useContext -underBinder v1
  refine Keeps.ite (fun _ => ?_) (fun _ => ?_)
  · exact Keeps.refl
  · extract_lets +onlyGivenNames -merge -useContext -underBinder v2
    refine Keeps.andThen ?_ State.tryMeasure_keeps (by rfl)
    refine Keeps.andThen ?_ State.modPtp_keeps (by rfl)
    exact Keeps.refl

theorem State.followUp_keeps {s a1 a2} : Keeps 47116 s (State.followUp s a1 a2) := by
  unfold State.followUp
  extract_lets +onlyGivenNames -merge -useContext -underBinder v1
  split
  · refine Keeps.ite (fun _ => ?_) (fun _ => ?_)
    · exact Keeps.refl
    · refine Keeps.andThen ?_ State.tryMeasure_keeps (by rfl)
      refine Keeps.andThen ?_ State.modPtp_keeps (by rfl)
      exact Keeps.refl
  · exact Keeps.refl

theorem State.gotDelay_keeps {s a1 a2} : Keeps 47116 s (State.gotDelay s a1 a2) := by
  unfold State.gotDelay
  refine Keeps.andThen ?_ State.tryMeasure_keeps (by rfl)
  refine Keeps.andThen ?_ State.modPtp_keeps (by rfl)
  exact Keeps.refl

theorem State.delayResp_keeps {s a1 a2 a3} : Keeps 47116 s (State.delayResp s a1 a2 a3) := by
  unfold State.delayResp
  extract_lets +onlyGivenNames -merge -useContext -underBinder v1
  split
  · refine Keeps.ite (fun _ => ?_) (fun _ => ?_)
    · exact Keeps.refl
    · refine Keeps.andThen ?_ State.gotDelay_keeps (by rfl)
      refine Keeps.andThen ?_ State.modPtp_keeps (by rfl)
      exact Keeps.refl
  · exact Keeps.refl

theorem State.pdelayResp_keeps {s a1 a2 a3 a4} : Keeps 47116 s (State.pdelayResp s a1 a2 a3 a4) := by
  unfold State.pdelayResp
  extract_lets +onlyGivenNames -merge -useContext -underBinder v1
  split
  · refine Keeps.ite (fun _ => ?_) (fun _ => ?_)
    · exact Keeps.refl
    · extract_lets +onlyGivenNames -merge -useContext -underBinder v2
      refine Keeps.ite (fun _ => ?_) (fun _ => ?_)
      · refine Keeps.andThen ?_ State.modPtp_keeps (by rfl)
        exact Keeps.refl
      · refine Keeps.andThen ?_ State.gotDelay_keeps (by rfl)
        exact Keeps.refl
  · exact Keeps.refl

theorem State.pdelayFollow_keeps {s a1 a2 a3} : Keeps 47116 s (State.pdelayFollow s a1 a2 a3) := by
  unfold State.pdelayFollow
  extract_lets +onlyGivenNames -merge -useContext -underBinder v1
  split
  · refine Keeps.ite (fun _ => ?_) (fun _ => ?_)
    · exact Keeps.refl
    · refine Keeps.andThen ?_ State.gotDelay_keeps (by rfl)
      exact Keeps.refl
  · exact Keeps.refl

theorem State.ptpSend_keeps {s a1 a2 a3 a4} : Keeps 24623869 s (State.ptpSend s a1 a2 a3 a4) := by
  unfold State.ptpSend
  extract_lets +onlyGivenNames -merge -useContext -underBinder v1
  extract_lets +onlyGivenNames -merge -useContext -underBinder v2
  refine Keeps.andThen ?_ State.udpSend_keeps (by rfl)
  exact Keeps.refl

theorem State.pdelayReq_keeps {s a1 a2 a3 a4} : Keeps 24623869 s (State.pdelayReq s a1 a2 a3 a4) := by
  unfold State.pdelayReq
  refine Keeps.ite (fun _ => ?_) (fun _ => ?_)
  · exact Keeps.refl
  · extract_lets +onlyGivenNames -merge -useContext -underBinder v1
    extract_lets +onlyGivenNames -merge -useContext -underBinder v2
    extract_lets +onlyGivenNames -merge -useContext -underBinder v3
    have h3 : Keeps 24623869 s v3 := by
      unfold v3
      refine Keeps.andThen ?_ State.ptpSend_keeps (by rfl)
      exact Keeps.refl
    refine Keeps.andThen ?_ State.ptpSend_keeps (by rfl)
    exact h3

theorem State.rxAnnounce_keeps {s a1 a2} : Keeps 2060 s (State.rxAnnounce s a1 a2) := by
  unfold State.rxAnnounce
  refine State.ptpEach_keeps ?_ (fun t1 x1 y1 h1 => ?_) (by rfl)
  · exact Keeps.refl
  · refine Keeps.andThen ?_ State.announce_keeps (by rfl)
    exact h1

theorem execPtpAnnounce_keeps {a0 a1 s} : Answers 2060 s (execPtpAnnounce a0 a1 s) := by
  unfold execPtpAnnounce
  refine Answers.next ?_
  refine Keeps.andThen ?_ State.rxAnnounce_keeps (by rfl)
  exact Keeps.refl

theorem State.rxSync_keeps {s a1 a2 a3} : Keeps 47116 s (State.rxSync s a1 a2 a3) := by
  unfold State.rxSync
  refine State.ptpEach_keeps ?_ (fun t1 x1 y1 h1 => ?_) (by rfl)
  · exact Keeps.refl
  · refine Keeps.andThen ?_ State.syncMsg_keeps (by rfl)
    exact h1

theorem execPtpSync_keeps {a0 a1 a2 s} : Answers 47116 s (execPtpSync a0 a1 a2 s) := by
  unfold execPtpSync
  refine Answers.next ?_
  refine Keeps.andThen ?_ State.rxSync_keeps (by rfl)
  exact Keeps.refl

theorem State.rxFollowUp_keeps {s a1 a2} : Keeps 47116 s (State.rxFollowUp s a1 a2) := by
  unfold State.rxFollowUp
  refine State.ptpEach_keeps ?_ (fun t1 x1 y1 h1 => ?_) (by rfl)
  · exact Keeps.refl
  · refine Keeps.andThen ?_ State.followUp_keeps (by rfl)
    exact h1

theorem execPtpFollowUp_keeps {a0 a1 s} : Answers 47116 s (execPtpFollowUp a0 a1 s) := by
  unfold execPtpFollowUp
  refine Answers.next ?_
  refine Keeps.andThen ?_ State.rxFollowUp_keeps (by rfl)
  exact Keeps.refl

theorem State.rxDelayResp_keeps {s a1 a2} : Keeps 47116 s (State.rxDelayResp s a1 a2) := by
  unfold State.rxDelayResp
  refine State.ptpEach_keeps ?_ (fun t1 x1 y1 h1 => ?_) (by rfl)
  · exact Keeps.refl
  · refine Keeps.andThen ?_ State.delayResp_keeps (by rfl)
    exact h1

theorem execPtpDelayResp_keeps {a0 a1 s} : Answers 47116 s (execPtpDelayResp a0 a1 s) := by
  unfold execPtpDelayResp
  refine Answers.next ?_
  refine Keeps.andThen ?_ State.rxDelayResp_keeps (by rfl)
  exact Keeps.refl

theorem State.rxPdelayReq_keeps {s a1 a2 a3} : Keeps 24623869 s (State.rxPdelayReq s a1 a2 a3) := by
  unfold State.rxPdelayReq
  refine State.ptpEach_keeps ?_ (fun t1 x1 y1 h1 => ?_) (by rfl)
  · exact Keeps.refl
  · refine Keeps.andThen ?_ State.pdelayReq_keeps (by rfl)
    exact h1

theorem execPtpPdelayReq_keeps {a0 a1 a2 s} : Answers 24623869 s (execPtpPdelayReq a0 a1 a2 s) := by
  unfold execPtpPdelayReq
  refine Answers.next ?_
  refine Keeps.andThen ?_ State.rxPdelayReq_keeps (by rfl)
  exact Keeps.refl

theorem State.rxPdelayResp_keeps {s a1 a2 a3} : Keeps 47116 s (State.rxPdelayResp s a1 a2 a3) := by
  unfold State.rxPdelayResp
  refine State.ptpEach_keeps ?_ (fun t1 x1 y1 h1 => ?_) (by rfl)
  · exact Keeps.refl
  · refine Keeps.andThen ?_ State.pdelayResp_keeps (by rfl)
    exact h1

theorem execPtpPdelayResp_keeps {a0 a1 a2 s} : Answers 47116 s (execPtpPdelayResp a0 a1 a2 s) := by
  unfold execPtpPdelayResp
  refine Answers.next ?_
  refine Keeps.andThen ?_ State.rxPdelayResp_keeps (by rfl)
  exact Keeps.refl

theorem State.rxPdelayFollow_keeps {s a1 a2} : Keeps 47116 s (State.rxPdelayFollow s a1 a2) := by
  unfold State.rxPdelayFollow
  refine State.ptpEach_keeps ?_ (fun t1 x1 y1 h1 => ?_) (by rfl)
  · exact Keeps.refl
  · refine Keeps.andThen ?_ State.pdelayFollow_keeps (by rfl)
    exact h1

theorem execPtpPdelayRespFollowUp_keeps {a0 a1 s} : Answers 47116 s (execPtpPdelayRespFollowUp a0 a1 s) := by
  unfold execPtpPdelayRespFollowUp
  refine Answers.next ?_
  refine Keeps.andThen ?_ State.rxPdelayFollow_keeps (by rfl)
  exact Keeps.refl

theorem State.rxManagement_keeps {s a1 a2} : Keeps 4 s (State.rxManagement s a1 a2) := by
  unfold State.rxManagement
  refine State.ptpEach_keeps ?_ (fun t1 x1 y1 h1 => ?_) (by rfl)
  · exact Keeps.refl
  · exact h1

theorem execPtpManagement_keeps {a0 a1 s} : Answers 4 s (execPtpManagement a0 a1 s) := by
  unfold execPtpManagement
  refine Answers.next ?_
  refine Keeps.andThen ?_ State.rxManagement_keeps (by rfl)
  exact Keeps.refl

theorem State.rxSignaling_keeps {s a1 a2} : Keeps 4 s (State.rxSignaling s a1 a2) := by
  unfold State.rxSignaling
  refine State.ptpEach_keeps ?_ (fun t1 x1 y1 h1 => ?_) (by rfl)
  · exact Keeps.refl
  · exact h1

theorem execPtpSignaling_keeps {a0 a1 s} : Answers 4 s (execPtpSignaling a0 a1 s) := by
  unfold execPtpSignaling
  refine Answers.next ?_
  refine Keeps.andThen ?_ State.rxSignaling_keeps (by rfl)
  exact Keeps.refl

theorem State.rxPtp_keeps {s a1 a2 a3} : Keeps 24623869 s (State.rxPtp s a1 a2 a3) := by
  unfold State.rxPtp
  split
  · refine Keeps.andThen ?_ State.rxSync_keeps (by rfl)
    exact Keeps.refl
  · refine Keeps.andThen ?_ State.rxPdelayReq_keeps (by rfl)
    exact Keeps.refl
  · refine Keeps.andThen ?_ State.rxPdelayResp_keeps (by rfl)
    exact Keeps.refl
  · refine Keeps.andThen ?_ State.rxFollowUp_keeps (by rfl)
    exact Keeps.refl
  · refine Keeps.andThen ?_ State.rxDelayResp_keeps (by rfl)
    exact Keeps.refl
  · refine Keeps.andThen ?_ State.rxPdelayFollow_keeps (by rfl)
    exact Keeps.refl
  · refine Keeps.andThen ?_ State.rxAnnounce_keeps (by rfl)
    exact Keeps.refl
  · refine Keeps.andThen ?_ State.rxSignaling_keeps (by rfl)
    exact Keeps.refl
  · refine Keeps.andThen ?_ State.rxManagement_keeps (by rfl)
    exact Keeps.refl

theorem execDelayReqSend_keeps {a0 a1 s} : Answers 24623869 s (execDelayReqSend a0 a1 s) := by
  unfold execDelayReqSend
  extract_lets +onlyGivenNames -merge -useContext -underBinder v1
  extract_lets +onlyGivenNames -merge -useContext -underBinder v2
  refine Answers.ite (fun _ => ?_) (fun _ => ?_)
  · refine Answers.next ?_
    exact Keeps.refl
  · extract_lets +onlyGivenNames -merge -useContext -underBinder v3
    extract_lets +onlyGivenNames -merge -useContext -underBinder v4
    have h4 : Keeps 24623869 s v4 := by
      unfold v4
      refine Keeps.andThen ?_ State.modPtp_keeps (by rfl)
      exact Keeps.refl
    refine Answers.next ?_
    refine Keeps.andThen ?_ State.ptpSend_keeps (by rfl)
    exact h4

theorem execPdelayReqSend_keeps {a0 a1 s} : Answers 24623869 s (execPdelayReqSend a0 a1 s) := by
  unfold execPdelayReqSend
  extract_lets +onlyGivenNames -merge -useContext -underBinder v1
  refine Answers.ite (fun _ => ?_) (fun _ => ?_)
  · refine Answers.next ?_
    exact Keeps.refl
  · extract_lets +onlyGivenNames -merge -useContext -underBinder v2
    extract_lets +onlyGivenNames -merge -useContext -underBinder v3
    have h3 : Keeps 24623869 s v3 := by
      unfold v3
      refine Keeps.andThen ?_ State.modPtp_keeps (by rfl)
      exact Keeps.refl
    refine Answers.next ?_
    refine Keeps.andThen ?_ State.ptpSend_keeps (by rfl)
    exact h3

theorem execAnnounceReceiptTimeout_keeps {a0 s} : Answers 2060 s (execAnnounceReceiptTimeout a0 s) := by
  unfold execAnnounceReceiptTimeout
  extract_lets +onlyGivenNames -merge -useContext -underBinder v1
  extract_lets +onlyGivenNames -merge -useContext -underBinder v2
  split
  · refine Answers.ite (fun _ => ?_) (fun _ => ?_)
    · extract_lets +onlyGivenNames -merge -useContext -underBinder v3
      have h3 : Keeps 2060 s v3 := by
        unfold v3
        refine Keeps.andThen ?_ State.modPtp_keeps (by rfl)
        exact Keeps.refl
      refine Answers.next ?_
      refine Keeps.andThen ?_ State.ptpLost_keeps (by rfl)
      refine Keeps.andThen ?_ State.chooseMaster_keeps (by rfl)
      refine Keeps.andThen ?_ State.bump_keeps (by rfl)
      exact h3
    · refine Answers.next ?_
      exact Keeps.refl
  · refine Answers.next ?_
    exact Keeps.refl

theorem execSyncIntervalMiss_keeps {a0 s} : Answers 2052 s (execSyncIntervalMiss a0 s) := by
  unfold execSyncIntervalMiss
  extract_lets +onlyGivenNames -merge -useContext -underBinder v1
  refine Answers.ite (fun _ => ?_) (fun _ => ?_)
  · refine Answers.next ?_
    exact Keeps.refl
  · extract_lets +onlyGivenNames -merge -useContext -underBinder v2
    have h2 : Keeps 2052 s v2 := by
      unfold v2
      refine Keeps.andThen ?_ State.bump_keeps (by rfl)
      refine Keeps.andThen ?_ State.modPtp_keeps (by rfl)
      exact Keeps.refl
    refine Answers.next ?_
    refine Keeps.ite (fun _ => ?_) (fun _ => ?_)
    · refine Keeps.andThen ?_ State.ptpLost_keeps (by rfl)
      exact h2
    · exact h2

end Sys2Proof.Machine
end

