-- ==== Sys2Proof/Laws/KeepCensus.lean ====
section
/-! SUPPORT. One lemma for each operation of Machine/Census.lean: the parts it may change, and that what must last lasts. -/

namespace Sys2Proof.Machine

theorem State.setDelays_keeps {s a1} : Keeps 65536 s (State.setDelays s a1) := by
  unfold State.setDelays
  extract_lets +onlyGivenNames -merge -useContext -underBinder v1
  refine Keeps.foldl ?_ (fun t2 x2 h2 => ?_)
  · exact Keeps.refl
  · refine Keeps.andThen ?_ State.modTile_keeps (by rfl)
    exact h2

theorem State.modCensus_keeps {s a1 a2} : Keeps 32768 s (State.modCensus s a1 a2) := by
  unfold State.modCensus
  refine Keeps.andThen ?_ State.modPort_keeps (by rfl)
  exact Keeps.refl

theorem State.censusFrame_keeps {s a1 a2 a3 a4 a5} : Keeps 32768 s (State.censusFrame s a1 a2 a3 a4 a5) := by
  unfold State.censusFrame
  refine Keeps.andThen ?_ State.queueFrame_keeps (by rfl)
  exact Keeps.refl

theorem State.sendEnum_keeps {s a1} : Keeps 32768 s (State.sendEnum s a1) := by
  unfold State.sendEnum
  refine Keeps.andThen ?_ State.modCensus_keeps (by rfl)
  refine Keeps.andThen ?_ State.censusFrame_keeps (by rfl)
  exact Keeps.refl

theorem State.startCensus_keeps {s a1} : Keeps 32768 s (State.startCensus s a1) := by
  unfold State.startCensus
  extract_lets +onlyGivenNames -merge -useContext -underBinder v1
  extract_lets +onlyGivenNames -merge -useContext -underBinder v2
  have h2 : Keeps 32768 s v2 := by
    unfold v2
    refine Keeps.andThen ?_ State.modCensus_keeps (by rfl)
    exact Keeps.refl
  refine Keeps.andThen ?_ State.sendEnum_keeps (by rfl)
  refine Keeps.andThen ?_ State.censusFrame_keeps (by rfl)
  exact h2

theorem State.startWaiting_keeps {s a1} : Keeps 32768 s (State.startWaiting s a1) := by
  unfold State.startWaiting
  extract_lets +onlyGivenNames -merge -useContext -underBinder v1
  refine Keeps.ite (fun _ => ?_) (fun _ => ?_)
  · refine Keeps.andThen ?_ State.startCensus_keeps (by rfl)
    exact Keeps.refl
  · exact Keeps.refl

theorem State.refused_keeps {s a1 a2} : Keeps 24623869 s (State.refused s a1 a2) := by
  unfold State.refused
  extract_lets +onlyGivenNames -merge -useContext -underBinder v1
  have h1 : Keeps 24623869 s v1 := by
    unfold v1
    refine Keeps.andThen ?_ State.ev_keeps (by rfl)
    exact Keeps.refl
  refine Keeps.ite (fun _ => ?_) (fun _ => ?_)
  · refine Keeps.andThen ?_ State.fault_keeps (by rfl)
    exact h1
  · exact h1

theorem State.enterTile_keeps {s a1} : Keeps 24623869 s (State.enterTile s a1) := by
  unfold State.enterTile
  extract_lets +onlyGivenNames -merge -useContext -underBinder v1
  extract_lets +onlyGivenNames -merge -useContext -underBinder v2
  refine Keeps.ite (fun _ => ?_) (fun _ => ?_)
  · refine Keeps.andThen ?_ State.refused_keeps (by rfl)
    refine Keeps.andThen ?_ (Keeps.tiles) (by rfl)
    exact Keeps.refl
  · extract_lets +onlyGivenNames -merge -useContext -underBinder v3
    extract_lets +onlyGivenNames -merge -useContext -underBinder v4
    extract_lets +onlyGivenNames -merge -useContext -underBinder v5
    extract_lets +onlyGivenNames -merge -useContext -underBinder v6
    have h6 : Keeps 24623869 s v6 := by
      unfold v6
      refine Keeps.andThen ?_ (Keeps.tiles) (by rfl)
      exact Keeps.refl
    refine Keeps.ite (fun _ => ?_) (fun _ => ?_)
    · exact h6
    · refine Keeps.andThen ?_ State.evFault_keeps (by rfl)
      exact h6

theorem State.judgeAll_keeps {s a1 a2} : Keeps 24623869 s (State.judgeAll s a1 a2) := by
  unfold State.judgeAll
  extract_lets +onlyGivenNames -merge -useContext -underBinder v1
  have h1 : Keeps 24623869 s v1 := by
    unfold v1
    refine Keeps.andThen ?_ (Keeps.tiles) (by rfl)
    exact Keeps.refl
  refine Keeps.foldl ?_ (fun t2 x2 h2 => ?_)
  · exact h1
  · refine Keeps.andThen ?_ State.enterTile_keeps (by rfl)
    exact h2

theorem State.matchTile_keeps {a0 s a2} : Keeps 24623869 s (State.matchTile a0 s a2) := by
  unfold State.matchTile
  extract_lets +onlyGivenNames -merge -useContext -underBinder v1
  extract_lets +onlyGivenNames -merge -useContext -underBinder v2
  clear_value v2
  split
  · extract_lets +onlyGivenNames -merge -useContext -underBinder v3
    refine Keeps.andThen ?_ (Keeps.tiles) (by rfl)
    exact Keeps.refl
  · refine Keeps.andThen ?_ State.refused_keeps (by rfl)
    refine Keeps.andThen ?_ (Keeps.tiles) (by rfl)
    exact Keeps.refl

theorem State.matchAll_keeps {s a1 a2} : Keeps 24623869 s (State.matchAll s a1 a2) := by
  unfold State.matchAll
  extract_lets +onlyGivenNames -merge -useContext -underBinder v1
  extract_lets +onlyGivenNames -merge -useContext -underBinder v2
  extract_lets +onlyGivenNames -merge -useContext -underBinder v3
  extract_lets +onlyGivenNames -merge -useContext -underBinder v4
  have h4 : Keeps 24623869 s v4 := by
    unfold v4
    refine Keeps.foldl ?_ (fun t5 x5 h5 => ?_)
    · refine Keeps.andThen ?_ (Keeps.tiles) (by rfl)
      exact Keeps.refl
    · refine Keeps.andThen ?_ State.matchTile_keeps (by rfl)
      exact h5
  extract_lets +onlyGivenNames -merge -useContext -underBinder v6
  extract_lets +onlyGivenNames -merge -useContext -underBinder v7
  have h7 : Keeps 24623869 s v7 := by
    unfold v7
    refine Keeps.andThen ?_ State.modPort_keeps (by rfl)
    exact h4
  refine Keeps.ite (fun _ => ?_) (fun _ => ?_)
  · exact h7
  · refine Keeps.andThen ?_ (Keeps.fab) (by rfl)
    exact h7

theorem State.relayPlace_keeps {s a1} : Keeps 18874368 s (State.relayPlace s a1) := by
  unfold State.relayPlace
  extract_lets +onlyGivenNames -merge -useContext -underBinder v1
  refine Keeps.andThen ?_ State.relaySend_keeps (by rfl)
  exact Keeps.refl

theorem State.pairOwn_keeps {s a1} : Keeps 2097152 s (State.pairOwn s a1) := by
  unfold State.pairOwn
  refine Keeps.ite (fun _ => ?_) (fun _ => ?_)
  · refine Keeps.andThen ?_ State.modRport_keeps (by rfl)
    exact Keeps.refl
  · exact Keeps.refl

theorem State.relayCensus_keeps {s a1} : Keeps 18874368 s (State.relayCensus s a1) := by
  unfold State.relayCensus
  refine Keeps.ite (fun _ => ?_) (fun _ => ?_)
  · exact Keeps.refl
  · extract_lets +onlyGivenNames -merge -useContext -underBinder v1
    have h1 : Keeps 18874368 s v1 := by
      unfold v1
      refine Keeps.andThen ?_ State.pairOwn_keeps (by rfl)
      exact Keeps.refl
    extract_lets +onlyGivenNames -merge -useContext -underBinder v2
    have h2 : Keeps 18874368 s v2 := by
      unfold v2
      refine Keeps.foldl ?_ (fun t3 x3 h3 => ?_)
      · exact h1
      · refine Keeps.andThen ?_ State.relayPlace_keeps (by rfl)
        exact h3
    refine Keeps.andThen ?_ State.relaySend_keeps (by rfl)
    exact h2

theorem State.sendDone_keeps {s a1} : Keeps 98316 s (State.sendDone s a1) := by
  unfold State.sendDone
  extract_lets +onlyGivenNames -merge -useContext -underBinder v1
  have h1 : Keeps 98316 s v1 := by
    unfold v1
    refine Keeps.andThen ?_ State.censusFrame_keeps (by rfl)
    exact Keeps.refl
  extract_lets +onlyGivenNames -merge -useContext -underBinder v2
  extract_lets +onlyGivenNames -merge -useContext -underBinder v3
  extract_lets +onlyGivenNames -merge -useContext -underBinder v4
  extract_lets +onlyGivenNames -merge -useContext -underBinder v5
  have h5 : Keeps 98316 s v5 := by
    unfold v5
    refine Keeps.ite (fun _ => ?_) (fun _ => ?_)
    · exact h1
    · refine Keeps.andThen ?_ (Keeps.tiles) (by rfl)
      exact h1
  extract_lets +onlyGivenNames -merge -useContext -underBinder v6
  have h6 : Keeps 98316 s v6 := by
    unfold v6
    refine Keeps.andThen ?_ State.modCensus_keeps (by rfl)
    exact h5
  refine Keeps.andThen ?_ State.ev_keeps (by rfl)
  exact h6

theorem State.startCals_keeps {s a1} : Keeps 32768 s (State.startCals s a1) := by
  unfold State.startCals
  refine Keeps.ite (fun _ => ?_) (fun _ => ?_)
  · refine Keeps.andThen ?_ State.modPort_keeps (by rfl)
    exact Keeps.refl
  · refine Keeps.andThen ?_ State.modPort_keeps (by rfl)
    exact Keeps.refl

theorem State.sendRead_keeps {s a1 a2 a3} : Keeps 32768 s (State.sendRead s a1 a2 a3) := by
  unfold State.sendRead
  refine Keeps.andThen ?_ State.censusFrame_keeps (by rfl)
  exact Keeps.refl

theorem State.fillReads_keeps {s a1} : Keeps 32768 s (State.fillReads s a1) := by
  unfold State.fillReads
  extract_lets +onlyGivenNames -merge -useContext -underBinder v1
  extract_lets +onlyGivenNames -merge -useContext -underBinder v2
  refine Keeps.foldl ?_ (fun t3 x3 h3 => ?_)
  · refine Keeps.andThen ?_ State.modCensus_keeps (by rfl)
    exact Keeps.refl
  · refine Keeps.ite (fun _ => ?_) (fun _ => ?_)
    · refine Keeps.andThen ?_ State.sendRead_keeps (by rfl)
      refine Keeps.andThen ?_ State.modCensus_keeps (by rfl)
      exact h3
    · refine Keeps.andThen ?_ State.modCensus_keeps (by rfl)
      exact h3

theorem State.entryEvents_keeps {s a1} : Keeps 12 s (State.entryEvents s a1) := by
  unfold State.entryEvents
  refine Keeps.foldl ?_ (fun t1 x1 h1 => ?_)
  · exact Keeps.refl
  · extract_lets +onlyGivenNames -merge -useContext -underBinder v2
    have h2 : Keeps 12 s v2 := by
      unfold v2
      refine Keeps.ite (fun _ => ?_) (fun _ => ?_)
      · refine Keeps.andThen ?_ State.ev_keeps (by rfl)
        exact h1
      · exact h1
    refine Keeps.ite (fun _ => ?_) (fun _ => ?_)
    · refine Keeps.andThen ?_ State.ev_keeps (by rfl)
      exact h2
    · exact h2

theorem State.buildTile_keeps {s a1} : Keeps 24623869 s (State.buildTile s a1) := by
  unfold State.buildTile
  extract_lets +onlyGivenNames -merge -useContext -underBinder v1
  extract_lets +onlyGivenNames -merge -useContext -underBinder v2
  extract_lets +onlyGivenNames -merge -useContext -underBinder v3
  extract_lets +onlyGivenNames -merge -useContext -underBinder v4
  extract_lets +onlyGivenNames -merge -useContext -underBinder v5
  extract_lets +onlyGivenNames -merge -useContext -underBinder v6
  extract_lets +onlyGivenNames -merge -useContext -underBinder v7
  extract_lets +onlyGivenNames -merge -useContext -underBinder v8
  have h8 : Keeps 24623869 s v8 := by
    unfold v8
    refine Keeps.andThen ?_ State.modTile_keeps (by rfl)
    exact Keeps.refl
  refine Keeps.ite (fun _ => ?_) (fun _ => ?_)
  · exact h8
  · refine Keeps.andThen ?_ State.evFault_keeps (by rfl)
    refine Keeps.andThen ?_ State.bump_keeps (by rfl)
    exact h8

theorem State.countErrors_keeps {s a1} : Keeps 524288 s (State.countErrors s a1) := by
  unfold State.countErrors
  extract_lets +onlyGivenNames -merge -useContext -underBinder v1
  extract_lets +onlyGivenNames -merge -useContext -underBinder v2
  refine Keeps.andThen ?_ (Keeps.mem (by rfl) (by rfl)) (by rfl)
  exact Keeps.refl

theorem State.madeEntries_keeps {s a1} : Keeps 524300 s (State.madeEntries s a1) := by
  unfold State.madeEntries
  extract_lets +onlyGivenNames -merge -useContext -underBinder v1
  extract_lets +onlyGivenNames -merge -useContext -underBinder v2
  have h2 : Keeps 524300 s v2 := by
    unfold v2
    refine Keeps.andThen ?_ State.countErrors_keeps (by rfl)
    refine Keeps.foldl ?_ (fun t3 x3 h3 => ?_)
    · exact Keeps.refl
    · refine Keeps.andThen ?_ State.entryEvents_keeps (by rfl)
      exact h3
  refine Keeps.andThen ?_ (Keeps.mem (by rfl) (by rfl)) (by rfl)
  exact h2

theorem State.assignLamps_keeps {s} : Keeps 25148157 s (State.assignLamps s) := by
  unfold State.assignLamps
  extract_lets +onlyGivenNames -merge -useContext -underBinder new t1
  have h1 : Keeps 25148157 s t1 := by
    unfold t1
    refine Keeps.foldl Keeps.refl (fun t x h => ?_)
    exact h.andThen State.buildTile_keeps (by rfl)
  clear_value t1
  extract_lets +onlyGivenNames -merge -useContext -underBinder t2
  have h2 : Keeps 25148157 s t2 := by
    have h : ∀ (l : List Tile) (a : State × Nat × Nat), Keeps 25148157 s a.1 → Keeps 25148157 s (l.foldl (fun (a : State × Nat × Nat) t =>
        (a.1.modTile t.port t.pos fun t => { t with base := a.2.1, no := a.2.2 }, a.2.1 + t.lampsN, a.2.2 + 1)) a).1 := by
      intro l
      induction l with
      | nil => exact fun _ h => h
      | cons x l ih => exact fun a h => ih _ (h.andThen State.modTile_keeps (by rfl))
    exact h _ _ h1
  clear_value t2
  extract_lets +onlyGivenNames -merge -useContext -underBinder t3
  have h3 : Keeps 25148157 s t3 := h2.andThen State.madeEntries_keeps (by rfl)
  clear_value t3
  exact h3.andThen (Keeps.mem_fab (by rfl) (by rfl)) (by rfl)

theorem State.rebuild_keeps {s a1} : Keeps 25148157 s (State.rebuild s a1) := by
  unfold State.rebuild
  extract_lets +onlyGivenNames -merge -useContext -underBinder v1
  refine Keeps.andThen ?_ State.madeEntries_keeps (by rfl)
  refine Keeps.foldl ?_ (fun t2 x2 h2 => ?_)
  · exact Keeps.refl
  · refine Keeps.andThen ?_ State.buildTile_keeps (by rfl)
    exact h2

theorem State.normalPort_keeps {s a1} : Keeps 65536 s (State.normalPort s a1) := by
  unfold State.normalPort
  extract_lets +onlyGivenNames -merge -useContext -underBinder v1
  extract_lets +onlyGivenNames -merge -useContext -underBinder v2
  refine Keeps.andThen ?_ (Keeps.tiles) (by rfl)
  exact Keeps.refl

theorem State.judgePair_keeps {s a1} : Keeps 24623869 s (State.judgePair s a1) := by
  unfold State.judgePair
  extract_lets +onlyGivenNames -merge -useContext -underBinder v1
  extract_lets +onlyGivenNames -merge -useContext -underBinder v2
  refine Keeps.ite (fun _ => ?_) (fun _ => ?_)
  · exact Keeps.refl
  · refine Keeps.ite (fun _ => ?_) (fun _ => ?_)
    · refine Keeps.andThen ?_ State.modRport_keeps (by rfl)
      exact Keeps.refl
    · split
      · refine Keeps.andThen ?_ State.normalPort_keeps (by rfl)
        refine Keeps.andThen ?_ State.modRport_keeps (by rfl)
        exact Keeps.refl
      · extract_lets +onlyGivenNames -merge -useContext -underBinder v3
        extract_lets +onlyGivenNames -merge -useContext -underBinder v4
        extract_lets +onlyGivenNames -merge -useContext -underBinder v5
        refine Keeps.ite (fun _ => ?_) (fun _ => ?_)
        · exact Keeps.refl
        · extract_lets +onlyGivenNames -merge -useContext -underBinder v6
          refine Keeps.andThen ?_ State.evFault_keeps (by rfl)
          refine Keeps.andThen ?_ State.modRport_keeps (by rfl)
          exact Keeps.refl

theorem State.refuseFar_keeps {s a1} : Keeps 24623869 s (State.refuseFar s a1) := by
  unfold State.refuseFar
  refine Keeps.ite (fun _ => ?_) (fun _ => ?_)
  · refine Keeps.andThen ?_ State.refused_keeps (by rfl)
    refine Keeps.andThen ?_ State.modTile_keeps (by rfl)
    exact Keeps.refl
  · exact Keeps.refl

theorem State.endReads_keeps {s a1} : Keeps 25148157 s (State.endReads s a1) := by
  unfold State.endReads
  extract_lets +onlyGivenNames -merge -useContext -underBinder v1
  extract_lets +onlyGivenNames -merge -useContext -underBinder v2
  have h2 : Keeps 25148157 s v2 := by
    unfold v2
    refine Keeps.andThen ?_ State.setDelays_keeps (by rfl)
    exact Keeps.refl
  extract_lets +onlyGivenNames -merge -useContext -underBinder v3
  have h3 : Keeps 25148157 s v3 := by
    unfold v3
    refine Keeps.andThen ?_ State.sendDone_keeps (by rfl)
    refine Keeps.foldl ?_ (fun t4 x4 h4 => ?_)
    · exact h2
    · refine Keeps.andThen ?_ State.refuseFar_keeps (by rfl)
      exact h4
  refine Keeps.ite (fun _ => ?_) (fun _ => ?_)
  · extract_lets +onlyGivenNames -merge -useContext -underBinder v5
    have h5 : Keeps 25148157 s v5 := by
      unfold v5
      refine Keeps.andThen ?_ State.modPort_keeps (by rfl)
      exact h3
    extract_lets +onlyGivenNames -merge -useContext -underBinder v6
    have h6 : Keeps 25148157 s v6 := by
      unfold v6
      refine Keeps.ite (fun _ => ?_) (fun _ => ?_)
      · refine Keeps.andThen ?_ State.assignLamps_keeps (by rfl)
        exact h5
      · exact h5
    refine Keeps.andThen ?_ State.judgePair_keeps (by rfl)
    refine Keeps.andThen ?_ State.relayCensus_keeps (by rfl)
    exact h6
  · extract_lets +onlyGivenNames -merge -useContext -underBinder v7
    have h7 : Keeps 25148157 s v7 := by
      unfold v7
      refine Keeps.andThen ?_ State.modPort_keeps (by rfl)
      refine Keeps.andThen ?_ State.rebuild_keeps (by rfl)
      exact h3
    refine Keeps.andThen ?_ State.judgePair_keeps (by rfl)
    refine Keeps.andThen ?_ State.relayCensus_keeps (by rfl)
    exact h7

theorem State.nextReads_keeps {s a1} : Keeps 25148157 s (State.nextReads s a1) := by
  unfold State.nextReads
  extract_lets +onlyGivenNames -merge -useContext -underBinder v1
  have h1 : Keeps 25148157 s v1 := by
    unfold v1
    refine Keeps.andThen ?_ State.fillReads_keeps (by rfl)
    exact Keeps.refl
  extract_lets +onlyGivenNames -merge -useContext -underBinder v2
  refine Keeps.ite (fun _ => ?_) (fun _ => ?_)
  · refine Keeps.andThen ?_ State.endReads_keeps (by rfl)
    exact h1
  · exact h1

theorem State.startReads_keeps {s a1 a2} : Keeps 25148157 s (State.startReads s a1 a2) := by
  unfold State.startReads
  extract_lets +onlyGivenNames -merge -useContext -underBinder v1
  extract_lets +onlyGivenNames -merge -useContext -underBinder v2
  extract_lets +onlyGivenNames -merge -useContext -underBinder v3
  extract_lets +onlyGivenNames -merge -useContext -underBinder v4
  have h4 : Keeps 25148157 s v4 := by
    unfold v4
    refine Keeps.andThen ?_ (Keeps.tiles) (by rfl)
    exact Keeps.refl
  refine Keeps.andThen ?_ State.nextReads_keeps (by rfl)
  refine Keeps.andThen ?_ State.modCensus_keeps (by rfl)
  exact h4

theorem State.endEnum_keeps {s a1} : Keeps 25148157 s (State.endEnum s a1) := by
  unfold State.endEnum
  extract_lets +onlyGivenNames -merge -useContext -underBinder v1
  extract_lets +onlyGivenNames -merge -useContext -underBinder v2
  refine Keeps.ite (fun _ => ?_) (fun _ => ?_)
  · extract_lets +onlyGivenNames -merge -useContext -underBinder v3
    have h3 : Keeps 25148157 s v3 := by
      unfold v3
      refine Keeps.andThen ?_ State.startCals_keeps (by rfl)
      refine Keeps.andThen ?_ State.modPort_keeps (by rfl)
      refine Keeps.andThen ?_ State.sendDone_keeps (by rfl)
      refine Keeps.andThen ?_ State.judgeAll_keeps (by rfl)
      exact Keeps.refl
    refine Keeps.ite (fun _ => ?_) (fun _ => ?_)
    · refine Keeps.andThen ?_ State.startReads_keeps (by rfl)
      exact h3
    · refine Keeps.andThen ?_ State.judgePair_keeps (by rfl)
      refine Keeps.andThen ?_ State.relayCensus_keeps (by rfl)
      exact h3
  · extract_lets +onlyGivenNames -merge -useContext -underBinder v4
    have h4 : Keeps 25148157 s v4 := by
      unfold v4
      refine Keeps.andThen ?_ State.matchAll_keeps (by rfl)
      exact Keeps.refl
    refine Keeps.ite (fun _ => ?_) (fun _ => ?_)
    · refine Keeps.andThen ?_ State.startReads_keeps (by rfl)
      exact h4
    · refine Keeps.ite (fun _ => ?_) (fun _ => ?_)
      · refine Keeps.andThen ?_ State.startReads_keeps (by rfl)
        exact h4
      · extract_lets +onlyGivenNames -merge -useContext -underBinder v5
        have h5 : Keeps 25148157 s v5 := by
          unfold v5
          refine Keeps.andThen ?_ State.modPort_keeps (by rfl)
          refine Keeps.andThen ?_ State.sendDone_keeps (by rfl)
          exact h4
        refine Keeps.andThen ?_ State.judgePair_keeps (by rfl)
        refine Keeps.andThen ?_ State.relayCensus_keeps (by rfl)
        exact h5

theorem State.startPass2_keeps {s} : Keeps 25148157 s (State.startPass2 s) := by
  unfold State.startPass2
  refine Keeps.foldl ?_ (fun t1 x1 h1 => ?_)
  · exact Keeps.refl
  · extract_lets +onlyGivenNames -merge -useContext -underBinder v2
    refine Keeps.ite (fun _ => ?_) (fun _ => ?_)
    · refine Keeps.andThen ?_ State.startReads_keeps (by rfl)
      exact h1
    · exact h1

end Sys2Proof.Machine
end

