-- ==== Sys2Proof/Laws/KeepBoot.lean ====
section
/-! SUPPORT. One lemma for each operation of Machine/Boot.lean: the parts it may change, and that what must last lasts. -/

namespace Sys2Proof.Machine

theorem State.enterStage_keeps {s a1} : Keeps 76 s (State.enterStage s a1) := by
  unfold State.enterStage
  extract_lets +onlyGivenNames -merge -useContext -underBinder v1
  extract_lets +onlyGivenNames -merge -useContext -underBinder v2
  have h2 : Keeps 76 s v2 := by
    unfold v2
    refine Keeps.andThen ?_ (Keeps.boot (by rfl)) (by rfl)
    exact Keeps.refl
  refine Keeps.andThen ?_ State.ev_keeps (by rfl)
  exact h2

theorem State.fresh_keeps {s} : Keeps 104857343 s (State.fresh s) :=
  ⟨⟨rfl, rfl, rfl, ⟨rfl, rfl, rfl, rfl⟩, id, List.prefix_rfl, Nat.le_refl _, fun _ => Evt.reset_ordered, fun h => ⟨rfl, rfl, rfl, rfl, rfl, h.2.2.2.2.2.1, rfl⟩⟩,
    fun p hp => (by cases p <;> first | rfl | exact ⟨rfl, rfl⟩ | cases hp), fun h => (by cases h), fun h => (by cases h)⟩

theorem State.beginStart_keeps {s} : Keeps 125828863 s (State.beginStart s) := by
  unfold State.beginStart
  extract_lets +onlyGivenNames -merge -useContext -underBinder v1
  have h1 : Keeps 125828863 s v1 := by
    unfold v1
    refine Keeps.andThen ?_ State.fresh_keeps (by rfl)
    refine Keeps.andThen ?_ State.pinsLow_keeps (by rfl)
    exact Keeps.refl
  extract_lets +onlyGivenNames -merge -useContext -underBinder v2
  extract_lets +onlyGivenNames -merge -useContext -underBinder v3
  extract_lets +onlyGivenNames -merge -useContext -underBinder v4
  extract_lets +onlyGivenNames -merge -useContext -underBinder v5
  extract_lets +onlyGivenNames -merge -useContext -underBinder v6
  extract_lets +onlyGivenNames -merge -useContext -underBinder v7
  extract_lets +onlyGivenNames -merge -useContext -underBinder v8
  have h8 : Keeps 125828863 s v8 := by
    unfold v8
    refine Keeps.andThen ?_ (Keeps.hk_boot_mem_fab_pwr (by rfl) (by rfl) (by rfl)) (by rfl)
    exact h1
  refine Keeps.andThen ?_ State.enterStage_keeps (by rfl)
  exact h8

theorem State.revertTrial_keeps {s} : Keeps 140 s (State.revertTrial s) := by
  unfold State.revertTrial
  extract_lets +onlyGivenNames -merge -useContext -underBinder v1
  extract_lets +onlyGivenNames -merge -useContext -underBinder v2
  extract_lets +onlyGivenNames -merge -useContext -underBinder v3
  refine Keeps.ite (fun _ => ?_) (fun _ => ?_)
  · exact Keeps.refl
  · extract_lets +onlyGivenNames -merge -useContext -underBinder v4
    extract_lets +onlyGivenNames -merge -useContext -underBinder v5
    have h5 : Keeps 140 s v5 := by
      unfold v5
      refine Keeps.andThen ?_ State.putHeader_keeps (by rfl)
      exact Keeps.refl
    refine Keeps.andThen ?_ State.evtW_keeps (by rfl)
    exact h5

theorem State.falseStart_keeps {s a1 a2} : Keeps 17862860 s (State.falseStart s a1 a2) := by
  unfold State.falseStart
  refine Keeps.ite (fun _ => ?_) (fun _ => ?_)
  · refine Keeps.ite (fun _ => ?_) (fun _ => ?_)
    · refine Keeps.andThen ?_ (Keeps.boot (by rfl)) (by rfl)
      exact Keeps.refl
    · exact Keeps.refl
  · extract_lets +onlyGivenNames -merge -useContext -underBinder v1
    extract_lets +onlyGivenNames -merge -useContext -underBinder v2
    have h2 : Keeps 17862860 s v2 := by
      unfold v2
      refine Keeps.andThen ?_ State.stopClocks_keeps (by rfl)
      exact Keeps.refl
    clear_value v2
    extract_lets +onlyGivenNames -merge -useContext -underBinder v3
    extract_lets +onlyGivenNames -merge -useContext -underBinder v4
    extract_lets +onlyGivenNames -merge -useContext -underBinder v5
    extract_lets +onlyGivenNames -merge -useContext -underBinder v6
    have h6 : Keeps 17862860 s v6 := by
      unfold v6
      refine Keeps.andThen ?_ (Keeps.boot_tl_fab (by rfl)) (by rfl)
      exact h2
    extract_lets +onlyGivenNames -merge -useContext -underBinder v7
    have h7 : Keeps 17862860 s v7 := by
      unfold v7
      refine Keeps.ite (fun _ => ?_) (fun _ => ?_)
      · refine Keeps.andThen ?_ State.journal_keeps (by rfl)
        exact h6
      · exact h6
    refine Keeps.ite (fun _ => ?_) (fun _ => ?_)
    · refine Keeps.andThen ?_ State.revertTrial_keeps (by rfl)
      exact h7
    · exact h7


theorem State.doneSb0_keeps {s} : Keeps 16777804 s (State.doneSb0 s) := by
  unfold State.doneSb0
  extract_lets +onlyGivenNames -merge -useContext -underBinder v1
  extract_lets +onlyGivenNames -merge -useContext -underBinder v2
  extract_lets +onlyGivenNames -merge -useContext -underBinder v3
  have h3 : Keeps 16777804 s v3 := by
    unfold v3
    refine Keeps.andThen ?_ (Keeps.boot_sec (by rfl)) (by rfl)
    exact Keeps.refl
  refine Keeps.andThen ?_ State.send_keeps (by rfl)
  refine Keeps.andThen ?_ State.enterStage_keeps (by rfl)
  exact h3

theorem State.promote_keeps {s} : Keeps 140 s (State.promote s) := by
  unfold State.promote
  extract_lets +onlyGivenNames -merge -useContext -underBinder v1
  extract_lets +onlyGivenNames -merge -useContext -underBinder v2
  extract_lets +onlyGivenNames -merge -useContext -underBinder v3
  extract_lets +onlyGivenNames -merge -useContext -underBinder v4
  refine Keeps.ite (fun _ => ?_) (fun _ => ?_)
  · exact Keeps.refl
  · refine Keeps.andThen ?_ State.putHeader_keeps (by rfl)
    exact Keeps.refl

theorem State.fellBack_keeps {s a1 a2 a3} : Keeps 24623869 s (State.fellBack s a1 a2 a3) := by
  unfold State.fellBack
  refine Keeps.ite (fun _ => ?_) (fun _ => ?_)
  · exact Keeps.refl
  · extract_lets +onlyGivenNames -merge -useContext -underBinder v1
    have h1 : Keeps 24623869 s v1 := by
      unfold v1
      refine Keeps.andThen ?_ State.evFault_keeps (by rfl)
      exact Keeps.refl
    refine Keeps.ite (fun _ => ?_) (fun _ => ?_)
    · refine Keeps.andThen ?_ State.putHeader_keeps (by rfl)
      exact h1
    · exact h1

theorem State.readNvmState_keeps {s a1} : Keeps 128 s (State.readNvmState s a1) := by
  unfold State.readNvmState
  split
  · refine Keeps.andThen ?_ (Keeps.nvm (by intro w; exact (by refine Nvm.scan_wf ?_; exact w))) (by rfl)
    exact Keeps.refl
  · refine Keeps.andThen ?_ (Keeps.nvm (by exact fun w => w)) (by rfl)
    exact Keeps.refl

theorem State.runSb1_keeps {s a1} : Keeps 24623869 s (State.runSb1 s a1) := by
  unfold State.runSb1
  extract_lets +onlyGivenNames -merge -useContext -underBinder v1
  have h1 : Keeps 24623869 s v1 := by
    unfold v1
    refine Keeps.andThen ?_ State.readNvmState_keeps (by rfl)
    exact Keeps.refl
  refine Keeps.ite (fun _ => ?_) (fun _ => ?_)
  · refine Keeps.andThen ?_ State.falseStart_keeps (by rfl)
    exact h1
  · extract_lets +onlyGivenNames -merge -useContext -underBinder v2
    have h2 : Keeps 24623869 s v2 := by
      unfold v2
      refine Keeps.andThen ?_ State.promote_keeps (by rfl)
      exact h1
    split
    · refine Keeps.andThen ?_ State.falseStart_keeps (by rfl)
      exact h2
    · extract_lets +onlyGivenNames -merge -useContext -underBinder v3
      extract_lets +onlyGivenNames -merge -useContext -underBinder v4
      extract_lets +onlyGivenNames -merge -useContext -underBinder v5
      have h5 : Keeps 24623869 s v5 := by
        unfold v5
        refine Keeps.andThen ?_ (Keeps.boot_nvm (by rfl) (by exact fun w => w)) (by rfl)
        exact h2
      extract_lets +onlyGivenNames -merge -useContext -underBinder v6
      have h6 : Keeps 24623869 s v6 := by
        unfold v6
        refine Keeps.andThen ?_ State.fellBack_keeps (by rfl)
        exact h5
      refine Keeps.ite (fun _ => ?_) (fun _ => ?_)
      · refine Keeps.andThen ?_ State.falseStart_keeps (by rfl)
        exact h6
      · extract_lets +onlyGivenNames -merge -useContext -underBinder v7
        have h7 : Keeps 24623869 s v7 := by
          unfold v7
          refine Keeps.andThen ?_ State.enterStage_keeps (by rfl)
          exact h6
        refine Keeps.andThen ?_ (Keeps.rl) (by rfl)
        exact h7

theorem State.memSettings_keeps {s} : Keeps 12 s (State.memSettings s) := by
  unfold State.memSettings
  extract_lets +onlyGivenNames -merge -useContext -underBinder v1
  extract_lets +onlyGivenNames -merge -useContext -underBinder v2
  extract_lets +onlyGivenNames -merge -useContext -underBinder v3
  have h3 : Keeps 12 s v3 := by
    unfold v3
    refine Keeps.ite (fun _ => ?_) (fun _ => ?_)
    · unfold v2
      refine Keeps.andThen ?_ State.evtW_keeps (by rfl)
      exact Keeps.refl
    · exact Keeps.refl
  refine Keeps.ite (fun _ => ?_) (fun _ => ?_)
  · unfold v2
    refine Keeps.andThen ?_ State.evtW_keeps (by rfl)
    exact h3
  · exact h3

theorem State.settingEvents_keeps {s} : Keeps 12 s (State.settingEvents s) := by
  unfold State.settingEvents
  extract_lets +onlyGivenNames -merge -useContext -underBinder v1
  have h1 : Keeps 12 s v1 := by
    unfold v1
    refine Keeps.foldl ?_ (fun t2 x2 h2 => ?_)
    · exact Keeps.refl
    · refine Keeps.foldl ?_ (fun t3 x3 h3 => ?_)
      · exact h2
      · refine Keeps.andThen ?_ State.ev_keeps (by rfl)
        exact h3
  extract_lets +onlyGivenNames -merge -useContext -underBinder v4
  extract_lets +onlyGivenNames -merge -useContext -underBinder v5
  have h5 : Keeps 12 s v5 := by
    unfold v5
    refine Keeps.ite (fun _ => ?_) (fun _ => ?_)
    · exact h1
    · refine Keeps.andThen ?_ State.ev_keeps (by rfl)
      exact h1
  refine Keeps.andThen ?_ State.memSettings_keeps (by rfl)
  exact h5

theorem State.judgeSurfs_keeps {s} : Keeps 262144 s (State.judgeSurfs s) := by
  unfold State.judgeSurfs
  refine Keeps.foldl ?_ (fun t1 x1 h1 => ?_)
  · exact Keeps.refl
  · refine Keeps.andThen ?_ State.modSurf_keeps (by rfl)
    exact h1

theorem State.loadSlate_keeps {s} : Keeps 16512 s (State.loadSlate s) := by
  unfold State.loadSlate
  refine Keeps.ite (fun _ => ?_) (fun _ => ?_)
  · exact Keeps.refl
  · extract_lets +onlyGivenNames -merge -useContext -underBinder v1
    extract_lets +onlyGivenNames -merge -useContext -underBinder v2
    have h2 : Keeps 16512 s v2 := by
      unfold v2
      refine Keeps.andThen ?_ (Keeps.warm) (by rfl)
      exact Keeps.refl
    split
    · exact h2
    · refine Keeps.andThen ?_ State.nvmJob_keeps (by rfl)
      refine Keeps.andThen ?_ (Keeps.warm) (by rfl)
      exact h2

theorem State.queuePulses_keeps {s a1 a2} : Keeps 4096 s (State.queuePulses s a1 a2) := by
  unfold State.queuePulses
  extract_lets +onlyGivenNames -merge -useContext -underBinder v1
  extract_lets +onlyGivenNames -merge -useContext -underBinder v2
  refine Keeps.andThen ?_ (Keeps.tl) (by rfl)
  exact Keeps.refl

theorem State.takeRegs_keeps {s} : Keeps 121634817 s (State.takeRegs s) :=
  (Keeps.refl.andThen (Keeps.rws fun h => State.putRegs_wf h.1) (by rfl)).andThen State.showPins_keeps (by rfl)

theorem State.takeConfig_keeps {s a1 a2 a3} : Keeps 125185741 s (State.takeConfig s a1 a2 a3) := by
  unfold State.takeConfig
  extract_lets +onlyGivenNames -merge -useContext -underBinder v1
  extract_lets +onlyGivenNames -merge -useContext -underBinder v2
  extract_lets +onlyGivenNames -merge -useContext -underBinder v3
  have h3 : Keeps 125185741 s v3 := by
    unfold v3
    refine Keeps.andThen ?_ (Keeps.boot_nvm_cfg (by rfl) (by exact fun w => w)) (by rfl)
    exact Keeps.refl
  extract_lets +onlyGivenNames -merge -useContext -underBinder v4
  have h4 : Keeps 125185741 s v4 := by
    unfold v4
    refine Keeps.andThen ?_ State.takeRegs_keeps (by rfl)
    exact h3
  extract_lets +onlyGivenNames -merge -useContext -underBinder v5
  have h5 : Keeps 125185741 s v5 := by
    unfold v5
    refine Keeps.foldl ?_ (fun t6 x6 h6 => ?_)
    · exact h4
    · refine Keeps.andThen ?_ State.ev_keeps (by rfl)
      exact h6
  extract_lets +onlyGivenNames -merge -useContext -underBinder v7
  have h7 : Keeps 125185741 s v7 := by
    unfold v7
    refine Keeps.andThen ?_ State.settingEvents_keeps (by rfl)
    exact h5
  extract_lets +onlyGivenNames -merge -useContext -underBinder v8
  extract_lets +onlyGivenNames -merge -useContext -underBinder v9
  extract_lets +onlyGivenNames -merge -useContext -underBinder v10
  extract_lets +onlyGivenNames -merge -useContext -underBinder v11
  have h11 : Keeps 125185741 s v11 := by
    unfold v11
    refine Keeps.andThen ?_ (Keeps.tb_sc_rl) (by rfl)
    exact h7
  extract_lets +onlyGivenNames -merge -useContext -underBinder v12
  have h12 : Keeps 125185741 s v12 := by
    unfold v12
    split
    · refine Keeps.ite (fun _ => ?_) (fun _ => ?_)
      · refine Keeps.andThen ?_ State.setRole_keeps (by rfl)
        refine Keeps.andThen ?_ (Keeps.rl) (by rfl)
        exact h11
      · exact h11
    · exact h11
  extract_lets +onlyGivenNames -merge -useContext -underBinder v13
  have h13 : Keeps 125185741 s v13 := by
    unfold v13
    refine Keeps.andThen ?_ State.judgeSurfs_keeps (by rfl)
    refine Keeps.andThen ?_ State.judgeFlows_keeps (by rfl)
    refine Keeps.andThen ?_ State.judgeEth_keeps (by rfl)
    refine Keeps.andThen ?_ State.loadKeys_keeps (by rfl)
    exact h12
  refine Keeps.andThen ?_ (Keeps.fab) (by rfl)
  exact h13

theorem State.shutRecord_keeps {s} : Keeps 4194476 s (State.shutRecord s) := by
  unfold State.shutRecord
  split
  · exact Keeps.refl
  · extract_lets +onlyGivenNames -merge -useContext -underBinder v1
    extract_lets +onlyGivenNames -merge -useContext -underBinder v2
    have h2 : Keeps 4194476 s v2 := by
      unfold v2
      refine Keeps.andThen ?_ State.journal_keeps (by rfl)
      exact Keeps.refl
    refine Keeps.andThen ?_ (Keeps.hk_pwr) (by rfl)
    exact h2

theorem State.startRecord_keeps {s a1} : Keeps 140 s (State.startRecord s a1) := by
  unfold State.startRecord
  refine Keeps.andThen ?_ State.journal_keeps (by rfl)
  exact Keeps.refl

theorem State.warmStart_keeps {s} : Keeps 2101312 s (State.warmStart s) := by
  unfold State.warmStart
  extract_lets +onlyGivenNames -merge -useContext -underBinder v1
  extract_lets +onlyGivenNames -merge -useContext -underBinder v2
  refine Keeps.andThen ?_ (Keeps.boot_tl_rl (by rfl)) (by rfl)
  exact Keeps.refl

theorem State.firstPulses_keeps {s} : Keeps 4096 s (State.firstPulses s) := by
  unfold State.firstPulses
  refine Keeps.ite (fun _ => ?_) (fun _ => ?_)
  · exact Keeps.refl
  · refine Keeps.andThen ?_ State.queuePulses_keeps (by rfl)
    exact Keeps.refl

theorem State.enterSb3_keeps {s} : Keeps 2101452 s (State.enterSb3 s) := by
  unfold State.enterSb3
  refine Keeps.andThen ?_ State.startRecord_keeps (by rfl)
  refine Keeps.andThen ?_ State.firstPulses_keeps (by rfl)
  refine Keeps.andThen ?_ State.warmStart_keeps (by rfl)
  refine Keeps.andThen ?_ State.enterStage_keeps (by rfl)
  exact Keeps.refl

theorem State.runSb2_keeps {s a1} : Keeps 125304573 s (State.runSb2 s a1) := by
  unfold State.runSb2
  split
  · refine Keeps.andThen ?_ State.falseStart_keeps (by rfl)
    exact Keeps.refl
  · split
    · refine Keeps.andThen ?_ State.falseStart_keeps (by rfl)
      exact Keeps.refl
    · extract_lets +onlyGivenNames -merge -useContext -underBinder v1
      have h1 : Keeps 125304573 s v1 := by
        unfold v1
        refine Keeps.andThen ?_ State.fellBack_keeps (by rfl)
        refine Keeps.andThen ?_ State.takeConfig_keeps (by rfl)
        exact Keeps.refl
      extract_lets +onlyGivenNames -merge -useContext -underBinder v2
      extract_lets +onlyGivenNames -merge -useContext -underBinder v3
      have h3 : Keeps 125304573 s v3 := by
        unfold v3
        refine Keeps.andThen ?_ (Keeps.boot (by rfl)) (by rfl)
        exact h1
      extract_lets +onlyGivenNames -merge -useContext -underBinder v4
      have h4 : Keeps 125304573 s v4 := by
        unfold v4
        refine Keeps.andThen ?_ State.shutRecord_keeps (by rfl)
        exact h3
      extract_lets +onlyGivenNames -merge -useContext -underBinder v5
      have h5 : Keeps 125304573 s v5 := by
        unfold v5
        refine Keeps.foldl ?_ (fun t6 x6 h6 => ?_)
        · exact h4
        · refine Keeps.andThen ?_ State.nvmJob_keeps (by rfl)
          exact h6
      extract_lets +onlyGivenNames -merge -useContext -underBinder v7
      extract_lets +onlyGivenNames -merge -useContext -underBinder v8
      extract_lets +onlyGivenNames -merge -useContext -underBinder v9
      have h9 : Keeps 125304573 s v9 := by
        unfold v9
        refine Keeps.andThen ?_ (Keeps.boot (by rfl)) (by rfl)
        exact h5
      refine Keeps.ite (fun _ => ?_) (fun _ => ?_)
      · refine Keeps.andThen ?_ State.falseStart_keeps (by rfl)
        exact h9
      · refine Keeps.andThen ?_ State.enterSb3_keeps (by rfl)
        refine Keeps.andThen ?_ State.loadSlate_keeps (by rfl)
        refine Keeps.andThen ?_ State.pnReserveAll_keeps (by rfl)
        refine Keeps.andThen ?_ State.joins_keeps (by rfl)
        exact h9

theorem State.advance_keeps {s kind ok} : Keeps 24624125 s (State.advance s kind ok) := by
  unfold State.advance
  refine Keeps.ite (fun _ => Keeps.refl) (fun _ => ?_)
  split
  · exact Keeps.refl
  · dsimp only
    refine Keeps.ite (fun _ => Keeps.refl) (fun _ => Keeps.ite (fun _ => ?_) (fun _ => Keeps.ite (fun _ => ?_) (fun _ => ?_)))
    · exact Keeps.refl.andThen State.evFault_keeps (by rfl)
    · exact (Keeps.fuses (by rfl) (by rfl) (by rfl) (by rfl) (by exact fun h => h)).mono (by rfl)
    · exact (Keeps.fuses (by rfl) (by rfl) (by rfl) (by rfl) (by exact fun h => h)).mono (by rfl)

theorem State.clearTrial_keeps {s a1} : Keeps 24624125 s (State.clearTrial s a1) := by
  unfold State.clearTrial
  extract_lets +onlyGivenNames -merge -useContext -underBinder v1
  refine Keeps.ite (fun _ => ?_) (fun _ => ?_)
  · exact Keeps.refl
  · refine Keeps.andThen ?_ State.putHeader_keeps (by rfl)
    refine Keeps.andThen ?_ State.advance_keeps (by rfl)
    refine Keeps.andThen ?_ State.advance_keeps (by rfl)
    exact Keeps.refl

theorem State.sb3Loop_keeps {s a1} : Keeps 24624125 s (State.sb3Loop s a1) := by
  unfold State.sb3Loop
  refine Keeps.ite (fun _ => ?_) (fun _ => ?_)
  · exact Keeps.refl
  · refine Keeps.ite (fun _ => ?_) (fun _ => ?_)
    · refine Keeps.andThen ?_ State.falseStart_keeps (by rfl)
      exact Keeps.refl
    · refine Keeps.andThen ?_ State.clearTrial_keeps (by rfl)
      refine Keeps.andThen ?_ (Keeps.boot (by rfl)) (by rfl)
      exact Keeps.refl

theorem State.runSb3_keeps {s a1} : Keeps 25148413 s (State.runSb3 s a1) := by
  unfold State.runSb3
  extract_lets +onlyGivenNames -merge -useContext -underBinder v1
  have h1 : Keeps 25148413 s v1 := by
    unfold v1
    refine Keeps.andThen ?_ State.sb3Loop_keeps (by rfl)
    exact Keeps.refl
  refine Keeps.ite (fun _ => ?_) (fun _ => ?_)
  · exact h1
  · extract_lets +onlyGivenNames -merge -useContext -underBinder v2
    have h2 : Keeps 25148413 s v2 := by
      unfold v2
      refine Keeps.foldl ?_ (fun t3 x3 h3 => ?_)
      · exact h1
      · refine Keeps.andThen ?_ State.nvmJob_keeps (by rfl)
        refine Keeps.andThen ?_ (Keeps.nvm (by exact fun w => w)) (by rfl)
        exact h3
    extract_lets +onlyGivenNames -merge -useContext -underBinder v4
    extract_lets +onlyGivenNames -merge -useContext -underBinder v5
    have h5 : Keeps 25148413 s v5 := by
      unfold v5
      refine Keeps.andThen ?_ (Keeps.mem (by rfl) (by rfl)) (by rfl)
      exact h2
    refine Keeps.andThen ?_ State.startPass2_keeps (by rfl)
    refine Keeps.andThen ?_ State.enterStage_keeps (by rfl)
    exact h5

theorem State.endSb4_keeps {s} : Keeps 24623869 s (State.endSb4 s) := by
  unfold State.endSb4
  extract_lets +onlyGivenNames -merge -useContext -underBinder v1
  have h1 : Keeps 24623869 s v1 := by
    unfold v1
    refine Keeps.andThen ?_ State.seal_keeps (by rfl)
    exact Keeps.refl
  extract_lets +onlyGivenNames -merge -useContext -underBinder v2
  extract_lets +onlyGivenNames -merge -useContext -underBinder v3
  refine Keeps.ite (fun _ => ?_) (fun _ => ?_)
  · extract_lets +onlyGivenNames -merge -useContext -underBinder v4
    refine Keeps.andThen ?_ State.evFault_keeps (by rfl)
    refine Keeps.andThen ?_ (Keeps.boot (by rfl)) (by rfl)
    exact h1
  · refine Keeps.ite (fun _ => ?_) (fun _ => ?_)
    · refine Keeps.andThen ?_ (Keeps.tl) (by rfl)
      exact h1
    · refine Keeps.andThen ?_ (Keeps.tl) (by rfl)
      exact h1

theorem execSbStageComplete_keeps {a0 s} : Answers 125829117 s (execSbStageComplete a0 s) := by
  unfold execSbStageComplete
  refine Answers.ite (fun _ => ?_) (fun _ => ?_)
  · refine Answers.next ?_
    exact Keeps.refl
  · split
    · refine Answers.ite (fun _ => ?_) (fun _ => ?_)
      · refine Answers.next ?_
        exact Keeps.refl
      · split
        · refine Answers.next ?_
          refine Keeps.ite (fun _ => ?_) (fun _ => ?_)
          · refine Keeps.andThen ?_ State.thermalStart_keeps (by rfl)
            exact Keeps.refl
          · refine Keeps.andThen ?_ State.falseStart_keeps (by rfl)
            exact Keeps.refl
        · refine Answers.next ?_
          refine Keeps.andThen ?_ State.doneSb0_keeps (by rfl)
          exact Keeps.refl
    · refine Answers.next ?_
      refine Keeps.andThen ?_ State.runSb1_keeps (by rfl)
      exact Keeps.refl
    · refine Answers.next ?_
      refine Keeps.andThen ?_ State.runSb2_keeps (by rfl)
      exact Keeps.refl
    · refine Answers.ite (fun _ => ?_) (fun _ => ?_)
      · refine Answers.next ?_
        refine Keeps.andThen ?_ State.runSb3_keeps (by rfl)
        exact Keeps.refl
      · refine Answers.next ?_
        refine Keeps.andThen ?_ State.sb3Loop_keeps (by rfl)
        exact Keeps.refl
    · refine Answers.ite (fun _ => ?_) (fun _ => ?_)
      · refine Answers.next ?_
        refine Keeps.andThen ?_ State.endSb4_keeps (by rfl)
        exact Keeps.refl
      · refine Answers.next ?_
        exact Keeps.refl
    · refine Answers.next ?_
      exact Keeps.refl

theorem State.sb4Timeout_keeps {s} : Keeps 25148157 s (State.sb4Timeout s) := by
  unfold State.sb4Timeout
  refine Keeps.ite (fun _ => ?_) (fun _ => ?_)
  · exact Keeps.refl
  · extract_lets +onlyGivenNames -merge -useContext -underBinder v1
    have h1 : Keeps 25148157 s v1 := by
      unfold v1
      refine Keeps.andThen ?_ State.seal_keeps (by rfl)
      exact Keeps.refl
    refine Keeps.ite (fun _ => ?_) (fun _ => ?_)
    · extract_lets +onlyGivenNames -merge -useContext -underBinder v2
      refine Keeps.andThen ?_ State.fault_keeps (by rfl)
      refine Keeps.andThen ?_ (Keeps.mem (by rfl) (by rfl)) (by rfl)
      exact h1
    · split
      · refine Keeps.andThen ?_ State.fabricStall_keeps (by rfl)
        exact h1
      · refine Keeps.andThen ?_ State.endSb4_keeps (by rfl)
        exact h1

theorem execSbStageTimeout_keeps {a0 s} : Answers 125829117 s (execSbStageTimeout a0 s) := by
  unfold execSbStageTimeout
  refine Answers.ite (fun _ => ?_) (fun _ => ?_)
  · refine Answers.next ?_
    exact Keeps.refl
  · split
    · split
      · refine Answers.next ?_
        refine Keeps.ite (fun _ => ?_) (fun _ => ?_)
        · refine Keeps.andThen ?_ State.thermalStart_keeps (by rfl)
          exact Keeps.refl
        · refine Keeps.andThen ?_ State.falseStart_keeps (by rfl)
          exact Keeps.refl
      · refine Answers.next ?_
        refine Keeps.andThen ?_ State.falseStart_keeps (by rfl)
        exact Keeps.refl
    · extract_lets +onlyGivenNames -merge -useContext -underBinder v1
      have h1 : Keeps 125829117 s v1 := by
        unfold v1
        refine Keeps.andThen ?_ State.runSb1_keeps (by rfl)
        exact Keeps.refl
      refine Answers.next ?_
      refine Keeps.ite (fun _ => ?_) (fun _ => ?_)
      · exact h1
      · refine Keeps.andThen ?_ State.falseStart_keeps (by rfl)
        exact Keeps.refl
    · extract_lets +onlyGivenNames -merge -useContext -underBinder v2
      have h2 : Keeps 125829117 s v2 := by
        unfold v2
        refine Keeps.andThen ?_ State.runSb2_keeps (by rfl)
        exact Keeps.refl
      refine Answers.next ?_
      refine Keeps.ite (fun _ => ?_) (fun _ => ?_)
      · exact h2
      · refine Keeps.andThen ?_ State.falseStart_keeps (by rfl)
        exact Keeps.refl
    · refine Answers.next ?_
      refine Keeps.andThen ?_ State.runSb3_keeps (by rfl)
      exact Keeps.refl
    · refine Answers.next ?_
      refine Keeps.andThen ?_ State.sb4Timeout_keeps (by rfl)
      exact Keeps.refl
    · refine Answers.next ?_
      exact Keeps.refl

theorem State.writeSbCtrl_keeps {s a1} : Keeps 192 s (State.writeSbCtrl s a1) := by
  unfold State.writeSbCtrl
  refine Keeps.ite (fun _ => ?_) (fun _ => ?_)
  · exact Keeps.refl
  · refine Keeps.andThen ?_ State.nvmFreeze_keeps (by rfl)
    refine Keeps.andThen ?_ (Keeps.boot (by rfl)) (by rfl)
    exact Keeps.refl

theorem execRestart_keeps {a0 s} : Answers 192 s (execRestart a0 s) := by
  unfold execRestart
  refine Answers.next ?_
  refine Keeps.andThen ?_ State.writeSbCtrl_keeps (by rfl)
  exact Keeps.refl

theorem execRestartTakesEffect_keeps {s} : Answers 134217471 s (execRestartTakesEffect s) := by
  unfold execRestartTakesEffect
  refine Answers.ite (fun _ => ?_) (fun _ => ?_)
  · refine Answers.next ?_
    exact Keeps.refl
  · refine Answers.next ?_
    refine Keeps.andThen ?_ State.beginStart_keeps (by rfl)
    refine Keeps.andThen ?_ State.stopClocks_keeps (by rfl)
    refine Keeps.andThen ?_ State.zeroise_keeps (by rfl)
    refine Keeps.andThen ?_ State.cutOp_keeps (by rfl)
    exact Keeps.refl

theorem execSlateLoadDone_keeps {s} : Answers 16384 s (execSlateLoadDone s) := by
  unfold execSlateLoadDone
  extract_lets +onlyGivenNames -merge -useContext -underBinder v1
  refine Answers.ite (fun _ => ?_) (fun _ => ?_)
  · refine Answers.next ?_
    exact Keeps.refl
  · split
    · refine Answers.next ?_
      refine Keeps.andThen ?_ (Keeps.warm) (by rfl)
      exact Keeps.refl
    · extract_lets +onlyGivenNames -merge -useContext -underBinder v2
      extract_lets +onlyGivenNames -merge -useContext -underBinder v3
      refine Answers.next ?_
      refine Keeps.andThen ?_ (Keeps.warm) (by rfl)
      exact Keeps.refl

theorem execWarmSourceTimeout_keeps {s} : Answers 16512 s (execWarmSourceTimeout s) := by
  unfold execWarmSourceTimeout
  extract_lets +onlyGivenNames -merge -useContext -underBinder v1
  refine Answers.ite (fun _ => ?_) (fun _ => ?_)
  · refine Answers.next ?_
    refine Keeps.andThen ?_ State.loadSlate_keeps (by rfl)
    refine Keeps.andThen ?_ (Keeps.warm) (by rfl)
    exact Keeps.refl
  · refine Answers.next ?_
    exact Keeps.refl

end Sys2Proof.Machine
end

