-- ==== Sys2Proof/Laws/KeepPower.lean ====
section
/-! SUPPORT. One lemma for each operation of Machine/Power.lean: the parts it may change, and that what must last lasts. -/

namespace Sys2Proof.Machine

theorem State.dark_keeps {s} : Keeps 109051647 s (State.dark s) := by
  unfold State.dark
  extract_lets +onlyGivenNames -merge -useContext -underBinder v1
  extract_lets +onlyGivenNames -merge -useContext -underBinder v2
  have h2 : Keeps 109051647 s v2 := by
    unfold v2
    refine Keeps.andThen ?_ State.fresh_keeps (by rfl)
    exact Keeps.refl
  refine Keeps.andThen ?_ (Keeps.pwr) (by rfl)
  exact h2

theorem State.unstart_keeps {s} : Keeps 109051647 s (State.unstart s) := by
  unfold State.unstart
  refine Keeps.ite (fun _ => ?_) (fun _ => ?_)
  · extract_lets +onlyGivenNames -merge -useContext -underBinder v1
    have h1 : Keeps 109051647 s v1 := by
      unfold v1
      refine Keeps.andThen ?_ State.dark_keeps (by rfl)
      exact Keeps.refl
    refine Keeps.andThen ?_ (Keeps.pwr) (by rfl)
    exact h1
  · exact Keeps.refl

theorem State.setPwrgd_keeps {s} : Keeps 125828863 s (State.setPwrgd s) := by
  unfold State.setPwrgd
  extract_lets +onlyGivenNames -merge -useContext -underBinder v1
  refine Keeps.ite (fun _ => ?_) (fun _ => ?_)
  · exact Keeps.refl
  · extract_lets +onlyGivenNames -merge -useContext -underBinder v2
    extract_lets +onlyGivenNames -merge -useContext -underBinder v3
    have h3 : Keeps 125828863 s v3 := by
      unfold v3
      refine Keeps.andThen ?_ State.send_keeps (by rfl)
      refine Keeps.andThen ?_ (Keeps.pwr) (by rfl)
      exact Keeps.refl
    refine Keeps.ite (fun _ => ?_) (fun _ => ?_)
    · refine Keeps.ite (fun _ => ?_) (fun _ => ?_)
      · refine Keeps.andThen ?_ State.beginStart_keeps (by rfl)
        exact h3
      · exact h3
    · refine Keeps.andThen ?_ State.unstart_keeps (by rfl)
      exact h3

theorem State.setFeed_keeps {s a1 a2} : Keeps 4194304 s (State.setFeed s a1 a2) := by
  unfold State.setFeed
  refine Keeps.andThen ?_ (Keeps.pwr) (by rfl)
  exact Keeps.refl

theorem execFeedPresent_keeps {a0 s} : Answers 125828863 s (execFeedPresent a0 s) := by
  unfold execFeedPresent
  refine Answers.next ?_
  refine Keeps.andThen ?_ State.setPwrgd_keeps (by rfl)
  refine Keeps.andThen ?_ State.setFeed_keeps (by rfl)
  exact Keeps.refl

theorem execFeedAbsent_keeps {a0 s} : Answers 125828863 s (execFeedAbsent a0 s) := by
  unfold execFeedAbsent
  extract_lets +onlyGivenNames -merge -useContext -underBinder v1
  have h1 : Keeps 125828863 s v1 := by
    unfold v1
    refine Keeps.andThen ?_ State.setPwrgd_keeps (by rfl)
    refine Keeps.andThen ?_ State.setFeed_keeps (by rfl)
    exact Keeps.refl
  refine Answers.ite (fun _ => ?_) (fun _ => ?_)
  · refine Answers.next ?_
    exact h1
  · refine Answers.next ?_
    refine Keeps.andThen ?_ (Keeps.hk_pwr) (by rfl)
    exact h1

theorem execPowerLoss_keeps {s} : Answers 134217471 s (execPowerLoss s) := by
  unfold execPowerLoss
  refine Answers.ite (fun _ => ?_) (fun _ => ?_)
  · refine Answers.next ?_
    exact Keeps.refl
  · extract_lets +onlyGivenNames -merge -useContext -underBinder v1
    have h1 : Keeps 134217471 s v1 := by
      unfold v1
      refine Keeps.andThen ?_ State.dark_keeps (by rfl)
      refine Keeps.andThen ?_ State.pinsLow_keeps (by rfl)
      refine Keeps.andThen ?_ State.linkDown_keeps (by rfl)
      refine Keeps.andThen ?_ State.stopClocks_keeps (by rfl)
      refine Keeps.andThen ?_ State.cutOp_keeps (by rfl)
      exact Keeps.refl
    refine Answers.next ?_
    refine Keeps.andThen ?_ (Keeps.hk_pwr) (by rfl)
    exact h1

theorem execResetRelease_keeps {s} : Answers 134217471 s (execResetRelease s) := by
  unfold execResetRelease
  refine Answers.ite (fun _ => ?_) (fun _ => ?_)
  · refine Answers.next ?_
    exact Keeps.refl
  · extract_lets +onlyGivenNames -merge -useContext -underBinder v1
    extract_lets +onlyGivenNames -merge -useContext -underBinder v2
    have h2 : Keeps 134217471 s v2 := by
      unfold v2
      refine Keeps.andThen ?_ (Keeps.pwr) (by rfl)
      exact Keeps.refl
    refine Answers.ite (fun _ => ?_) (fun _ => ?_)
    · refine Answers.next ?_
      refine Keeps.andThen ?_ State.beginStart_keeps (by rfl)
      refine Keeps.andThen ?_ State.cutOp_keeps (by rfl)
      exact h2
    · refine Answers.next ?_
      refine Keeps.andThen ?_ (Keeps.pwr) (by rfl)
      exact h2

theorem State.dark_flash {s : State} : s.dark.nvm.flash = s.nvm.flash := rfl

theorem State.heldNvm_keeps {s n} (h : Sparse.wf erased s.nvm.flash = true → Sparse.wf erased n.flash = true) :
    Keeps 4194432 s (State.heldNvm s n) := by
  unfold State.heldNvm
  exact Keeps.refl.andThen (Keeps.nvm_pwr h) (by rfl)

theorem execResetAssert_keeps {s} : Answers 125828863 s (execResetAssert s) := by
  unfold execResetAssert
  refine Answers.ite (fun _ => ?_) (fun _ => ?_)
  · refine Answers.next ?_
    exact Keeps.refl
  · extract_lets +onlyGivenNames -merge -useContext -underBinder v1
    extract_lets +onlyGivenNames -merge -useContext -underBinder v2
    have h2 : Keeps 125828863 s v2 := by
      unfold v2
      refine Keeps.andThen ?_ (Keeps.pwr) (by rfl)
      exact Keeps.refl
    refine Answers.ite (fun _ => ?_) (fun _ => ?_)
    · refine Answers.next ?_
      exact h2
    · extract_lets +onlyGivenNames -merge -useContext -underBinder v3
      have h3 : Keeps 125828863 s v3 := by
        unfold v3
        refine Keeps.andThen ?_ State.zeroise_keeps (by rfl)
        refine Keeps.andThen ?_ State.nvmFreeze_keeps (by rfl)
        refine Keeps.andThen ?_ State.pinsLow_keeps (by rfl)
        refine Keeps.andThen ?_ State.linkDown_keeps (by rfl)
        refine Keeps.andThen ?_ State.stopClocks_keeps (by rfl)
        exact h2
      refine Answers.next ?_
      refine Keeps.andThen ?_ (State.heldNvm_keeps (by intro h; rwa [State.dark_flash] at h)) (by rfl)
      refine Keeps.andThen ?_ State.dark_keeps (by rfl)
      exact h3

theorem execRefClkStart_keeps {s} : Answers 125828863 s (execRefClkStart s) := by
  unfold execRefClkStart
  refine Answers.next ?_
  refine Keeps.andThen ?_ State.setPwrgd_keeps (by rfl)
  refine Keeps.andThen ?_ (Keeps.tb) (by rfl)
  exact Keeps.refl

theorem execRefClkStop_keeps {s} : Answers 125828863 s (execRefClkStop s) := by
  unfold execRefClkStop
  refine Answers.ite (fun _ => ?_) (fun _ => ?_)
  · refine Answers.next ?_
    exact Keeps.refl
  · extract_lets +onlyGivenNames -merge -useContext -underBinder v1
    extract_lets +onlyGivenNames -merge -useContext -underBinder v2
    have h2 : Keeps 125828863 s v2 := by
      unfold v2
      refine Keeps.andThen ?_ State.setPwrgd_keeps (by rfl)
      refine Keeps.andThen ?_ (Keeps.tb) (by rfl)
      exact Keeps.refl
    refine Answers.ite (fun _ => ?_) (fun _ => ?_)
    · refine Answers.next ?_
      refine Keeps.andThen ?_ State.falseStart_keeps (by rfl)
      exact h2
    · refine Answers.next ?_
      refine Keeps.andThen ?_ (Keeps.tb) (by rfl)
      exact h2

theorem execDebugTapAccess_keeps {a0 s} : Answers 20971520 s (execDebugTapAccess a0 s) := by
  unfold execDebugTapAccess
  split
  · refine Answers.next ?_
    refine Keeps.andThen ?_ (Keeps.pwr) (by rfl)
    exact Keeps.refl
  · refine Answers.ite (fun _ => ?_) (fun _ => ?_)
    · refine Answers.next ?_
      refine Keeps.andThen ?_ (Keeps.pwr) (by rfl)
      exact Keeps.refl
    · refine Answers.next ?_
      exact Keeps.refl
  · refine Answers.ite (fun _ => ?_) (fun _ => ?_)
    · refine Answers.next ?_
      refine Keeps.andThen ?_ State.send_keeps (by rfl)
      refine Keeps.andThen ?_ (Keeps.pwr) (by rfl)
      exact Keeps.refl
    · refine Answers.next ?_
      exact Keeps.refl
  · refine Answers.ite (fun _ => ?_) (fun _ => ?_)
    · exact Answers.refused
    · refine Answers.next ?_
      exact Keeps.refl

end Sys2Proof.Machine
end

