-- ==== Sys2Proof/Laws/KeepHurdle.lean ====
section
/-! SUPPORT. One lemma for each operation of Machine/Hurdle.lean: the parts it may change, and that what must last lasts. -/

namespace Sys2Proof.Machine

theorem State.hurdleEvents_keeps {s a1 a2 a3} : Keeps 12 s (State.hurdleEvents s a1 a2 a3) := by
  unfold State.hurdleEvents
  refine Keeps.foldl ?_ (fun t1 x1 h1 => ?_)
  · exact Keeps.refl
  · refine Keeps.andThen ?_ State.ev_keeps (by rfl)
    exact h1

theorem State.inForceEvents_keeps {s} : Keeps 12 s (State.inForceEvents s) := by
  unfold State.inForceEvents
  refine Keeps.ite (fun _ => ?_) (fun _ => ?_)
  · exact Keeps.refl
  · extract_lets +onlyGivenNames -merge -useContext -underBinder v1
    have h1 : Keeps 12 s v1 := by
      unfold v1
      refine Keeps.ite (fun _ => ?_) (fun _ => ?_)
      · refine Keeps.andThen ?_ State.ev_keeps (by rfl)
        exact Keeps.refl
      · exact Keeps.refl
    refine Keeps.foldl ?_ (fun t2 x2 h2 => ?_)
    · exact h1
    · refine Keeps.ite (fun _ => ?_) (fun _ => ?_)
      · refine Keeps.andThen ?_ State.ev_keeps (by rfl)
        exact h2
      · exact h2

theorem State.hurdleRun_keeps {s} : Keeps 1060876 s (State.hurdleRun s) := by
  unfold State.hurdleRun
  extract_lets +onlyGivenNames -merge -useContext -underBinder v1
  extract_lets +onlyGivenNames -merge -useContext -underBinder v2
  extract_lets +onlyGivenNames -merge -useContext -underBinder v3
  extract_lets +onlyGivenNames -merge -useContext -underBinder v4
  extract_lets +onlyGivenNames -merge -useContext -underBinder v5
  extract_lets +onlyGivenNames -merge -useContext -underBinder v6
  extract_lets +onlyGivenNames -merge -useContext -underBinder v7
  extract_lets +onlyGivenNames -merge -useContext -underBinder v8
  have h8 : Keeps 1060876 s v8 := by
    unfold v8
    refine Keeps.andThen ?_ (Keeps.fab) (by rfl)
    exact Keeps.refl
  extract_lets +onlyGivenNames -merge -useContext -underBinder v9
  extract_lets +onlyGivenNames -merge -useContext -underBinder v10
  extract_lets +onlyGivenNames -merge -useContext -underBinder v11
  extract_lets +onlyGivenNames -merge -useContext -underBinder v12
  extract_lets +onlyGivenNames -merge -useContext -underBinder v13
  extract_lets +onlyGivenNames -merge -useContext -underBinder v14
  have h14 : Keeps 1060876 s v14 := by
    unfold v14
    refine Keeps.andThen ?_ (Keeps.tl_sc_fab) (by rfl)
    exact h8
  extract_lets +onlyGivenNames -merge -useContext -underBinder v15
  have h15 : Keeps 1060876 s v15 := by
    unfold v15
    refine Keeps.ite (fun _ => ?_) (fun _ => ?_)
    · exact h14
    · refine Keeps.andThen ?_ State.hurdleEvents_keeps (by rfl)
      refine Keeps.andThen ?_ State.hurdleEvents_keeps (by rfl)
      exact h14
  extract_lets +onlyGivenNames -merge -useContext -underBinder v16
  have h16 : Keeps 1060876 s v16 := by
    unfold v16
    refine Keeps.andThen ?_ State.inForceEvents_keeps (by rfl)
    exact h15
  refine Keeps.ite (fun _ => ?_) (fun _ => ?_)
  · refine Keeps.andThen ?_ (Keeps.tl_sc) (by rfl)
    exact h16
  · exact h16

theorem State.startHurdle_keeps {s} : Keeps 1048576 s (State.startHurdle s) := by
  unfold State.startHurdle
  refine Keeps.andThen ?_ (Keeps.fab) (by rfl)
  exact Keeps.refl

theorem execHurdleCheckDone_keeps {s} : Answers 1060876 s (execHurdleCheckDone s) := by
  unfold execHurdleCheckDone
  refine Answers.ite (fun _ => ?_) (fun _ => ?_)
  · refine Answers.next ?_
    refine Keeps.andThen ?_ State.hurdleRun_keeps (by rfl)
    exact Keeps.refl
  · refine Answers.next ?_
    exact Keeps.refl

theorem State.writeHurdleQuery_keeps {s a1} : Keeps 1048578 s (State.writeHurdleQuery s a1) := by
  unfold State.writeHurdleQuery
  extract_lets +onlyGivenNames -merge -useContext -underBinder v1
  have h1 : Keeps 1048578 s v1 := by
    unfold v1
    refine Keeps.andThen ?_ State.setRw_keeps (by rfl)
    exact Keeps.refl
  refine Keeps.andThen ?_ (Keeps.fab) (by rfl)
  exact h1

theorem execHurdleQueryWrite_keeps {a0 s} : Answers 1048578 s (execHurdleQueryWrite a0 s) := by
  unfold execHurdleQueryWrite
  refine Answers.next ?_
  refine Keeps.andThen ?_ State.writeHurdleQuery_keeps (by rfl)
  exact Keeps.refl

theorem execHurdleQueryDone_keeps {s} : Answers 1048576 s (execHurdleQueryDone s) := by
  unfold execHurdleQueryDone
  refine Answers.ite (fun _ => ?_) (fun _ => ?_)
  · refine Answers.next ?_
    exact Keeps.refl
  · extract_lets +onlyGivenNames -merge -useContext -underBinder v1
    refine Answers.next ?_
    refine Keeps.andThen ?_ (Keeps.fab) (by rfl)
    exact Keeps.refl

end Sys2Proof.Machine
end

