-- ==== Sys2Proof/Laws/KeepPacer.lean ====
section
/-! SUPPORT. One lemma for each operation of Machine/Pacer.lean: the parts it may change, and that what must last lasts. -/

namespace Sys2Proof.Machine

theorem State.setV_keeps {s a1} : Keeps 1048576 s (State.setV s a1) := by
  unfold State.setV
  refine Keeps.ite (fun _ => ?_) (fun _ => ?_)
  · exact Keeps.refl
  · refine Keeps.andThen ?_ (Keeps.fab) (by rfl)
    exact Keeps.refl

theorem State.surge_keeps {s a1} : Keeps 1048588 s (State.surge s a1) := by
  unfold State.surge
  refine Keeps.ite (fun _ => ?_) (fun _ => ?_)
  · exact Keeps.refl
  · extract_lets +onlyGivenNames -merge -useContext -underBinder v1
    extract_lets +onlyGivenNames -merge -useContext -underBinder v2
    extract_lets +onlyGivenNames -merge -useContext -underBinder v3
    have h3 : Keeps 1048588 s v3 := by
      unfold v3
      refine Keeps.andThen ?_ State.bump_keeps (by rfl)
      refine Keeps.andThen ?_ State.setV_keeps (by rfl)
      exact Keeps.refl
    extract_lets +onlyGivenNames -merge -useContext -underBinder v4
    extract_lets +onlyGivenNames -merge -useContext -underBinder v5
    have h5 : Keeps 1048588 s v5 := by
      unfold v5
      refine Keeps.andThen ?_ (Keeps.fab) (by rfl)
      exact h3
    refine Keeps.ite (fun _ => ?_) (fun _ => ?_)
    · refine Keeps.andThen ?_ State.evtW_keeps (by rfl)
      exact h5
    · exact h5

theorem State.pacerLap_keeps {s a1} : Keeps 1048576 s (State.pacerLap s a1) := by
  unfold State.pacerLap
  split
  · extract_lets +onlyGivenNames -merge -useContext -underBinder v1
    extract_lets +onlyGivenNames -merge -useContext -underBinder v2
    have h2 : Keeps 1048576 s v2 := by
      unfold v2
      refine Keeps.andThen ?_ State.setV_keeps (by rfl)
      exact Keeps.refl
    refine Keeps.andThen ?_ (Keeps.fab) (by rfl)
    exact h2

theorem State.settleSlow_keeps {s} : Keeps 24623869 s (State.settleSlow s) := by
  unfold State.settleSlow
  refine Keeps.ite (fun _ => ?_) (fun _ => ?_)
  · exact Keeps.refl
  · refine Keeps.andThen ?_ State.evFault_keeps (by rfl)
    refine Keeps.andThen ?_ (Keeps.fab) (by rfl)
    exact Keeps.refl

theorem State.pairMargin_keeps {s a1} : Keeps 1048576 s (State.pairMargin s a1) := by
  unfold State.pairMargin
  refine Keeps.andThen ?_ (Keeps.fab) (by rfl)
  exact Keeps.refl

theorem State.elasticLoss_keeps {s a1} : Keeps 1048588 s (State.elasticLoss s a1) := by
  unfold State.elasticLoss
  extract_lets +onlyGivenNames -merge -useContext -underBinder v1
  have h1 : Keeps 1048588 s v1 := by
    unfold v1
    refine Keeps.andThen ?_ State.bump_keeps (by rfl)
    exact Keeps.refl
  extract_lets +onlyGivenNames -merge -useContext -underBinder v2
  refine Keeps.ite (fun _ => ?_) (fun _ => ?_)
  · refine Keeps.andThen ?_ State.ev_keeps (by rfl)
    refine Keeps.andThen ?_ (Keeps.fab) (by rfl)
    exact h1
  · exact h1

theorem execFabricStallTimeout_keeps {a0 s} : Answers 24623869 s (execFabricStallTimeout a0 s) := by
  unfold execFabricStallTimeout
  refine Answers.ite (fun _ => ?_) (fun _ => ?_)
  · refine Answers.next ?_
    exact Keeps.refl
  · refine Answers.next ?_
    refine Keeps.andThen ?_ State.fabricStall_keeps (by rfl)
    refine Keeps.andThen ?_ (Keeps.fab) (by rfl)
    exact Keeps.refl

end Sys2Proof.Machine
end

