-- ==== Sys2Proof/Laws/KeepMemory.lean ====
section
/-! SUPPORT. One lemma for each operation of Machine/Memory.lean: the parts it may change, and that what must last lasts. -/

namespace Sys2Proof.Machine

theorem State.pcTurn_keeps {s a1} : Keeps 524292 s (State.pcTurn s a1) := by
  unfold State.pcTurn
  extract_lets +onlyGivenNames -merge -useContext -underBinder v1
  refine Keeps.ite (fun _ => ?_) (fun _ => ?_)
  · exact Keeps.refl
  · refine Keeps.ite (fun _ => ?_) (fun _ => ?_)
    · refine Keeps.andThen ?_ State.modPc_keeps (by rfl)
      exact Keeps.refl
    · extract_lets +onlyGivenNames -merge -useContext -underBinder v2
      split
      · exact Keeps.refl
      · extract_lets +onlyGivenNames -merge -useContext -underBinder v3
        extract_lets +onlyGivenNames -merge -useContext -underBinder v4
        refine Keeps.ite (fun _ => ?_) (fun _ => ?_)
        · refine Keeps.andThen ?_ State.bump_keeps (by rfl)
          refine Keeps.andThen ?_ State.modPc_keeps (by rfl)
          exact Keeps.refl
        · extract_lets +onlyGivenNames -merge -useContext -underBinder v5
          have h5 : Keeps 524292 s v5 := by
            unfold v5
            refine Keeps.andThen ?_ State.modStk_keeps (by rfl)
            exact Keeps.refl
          refine Keeps.andThen ?_ State.modPc_keeps (by rfl)
          exact h5

theorem State.enterRest_keeps {s a1} : Keeps 524292 s (State.enterRest s a1) := by
  unfold State.enterRest
  split
  · refine Keeps.ite (fun _ => ?_) (fun _ => ?_)
    · exact Keeps.refl
    · extract_lets +onlyGivenNames -merge -useContext -underBinder v1
      have h1 : Keeps 524292 s v1 := by
        unfold v1
        refine Keeps.foldl ?_ (fun t2 x2 h2 => ?_)
        · exact Keeps.refl
        · refine Keeps.andThen ?_ State.modPc_keeps (by rfl)
          exact h2
      extract_lets +onlyGivenNames -merge -useContext -underBinder v3
      have h3 : Keeps 524292 s v3 := by
        unfold v3
        refine Keeps.andThen ?_ State.bump_keeps (by rfl)
        exact h1
      refine Keeps.andThen ?_ State.modStk_keeps (by rfl)
      exact h3
  · exact Keeps.refl

theorem State.memTick_keeps {s} : Keeps 524292 s (State.memTick s) := by
  unfold State.memTick
  refine Keeps.ite (fun _ => ?_) (fun _ => ?_)
  · exact Keeps.refl
  · extract_lets +onlyGivenNames -merge -useContext -underBinder v1
    have h1 : Keeps 524292 s v1 := by
      unfold v1
      refine Keeps.foldl ?_ (fun t2 x2 h2 => ?_)
      · exact Keeps.refl
      · refine Keeps.andThen ?_ State.pcTurn_keeps (by rfl)
        exact h2
    refine Keeps.foldl ?_ (fun t3 x3 h3 => ?_)
    · exact h1
    · refine Keeps.andThen ?_ State.enterRest_keeps (by rfl)
      exact h3

theorem State.beginStep_keeps {s a1} : Keeps 524288 s (State.beginStep s a1) := by
  unfold State.beginStep
  refine Keeps.andThen ?_ State.modStk_keeps (by rfl)
  exact Keeps.refl

theorem State.dropEntry_keeps {s a1} : Keeps 524292 s (State.dropEntry s a1) := by
  unfold State.dropEntry
  refine Keeps.andThen ?_ State.bump_keeps (by rfl)
  refine Keeps.andThen ?_ State.modStk_keeps (by rfl)
  exact Keeps.refl

theorem State.stepUps_keeps {s} : Keeps 524292 s (State.stepUps s) := by
  unfold State.stepUps
  refine Keeps.foldl ?_ (fun t1 x1 h1 => ?_)
  · exact Keeps.refl
  · extract_lets +onlyGivenNames -merge -useContext -underBinder v2
    split
    · refine Keeps.ite (fun _ => ?_) (fun _ => ?_)
      · refine Keeps.andThen ?_ State.beginStep_keeps (by rfl)
        exact h1
      · exact h1
    · refine Keeps.ite (fun _ => ?_) (fun _ => ?_)
      · refine Keeps.ite (fun _ => ?_) (fun _ => ?_)
        · exact h1
        · refine Keeps.andThen ?_ State.beginStep_keeps (by rfl)
          refine Keeps.andThen ?_ State.dropEntry_keeps (by rfl)
          exact h1
      · refine Keeps.ite (fun _ => ?_) (fun _ => ?_)
        · refine Keeps.andThen ?_ State.dropEntry_keeps (by rfl)
          exact h1
        · exact h1
    · exact h1

theorem State.demandStep_keeps {s} : Keeps 524292 s (State.demandStep s) := by
  unfold State.demandStep
  refine Keeps.ite (fun _ => ?_) (fun _ => ?_)
  · refine Keeps.andThen ?_ State.stepUps_keeps (by rfl)
    exact Keeps.refl
  · exact Keeps.refl

theorem State.abortRest_keeps {s a1} : Keeps 524292 s (State.abortRest s a1) := by
  unfold State.abortRest
  extract_lets +onlyGivenNames -merge -useContext -underBinder v1
  split
  · refine Keeps.ite (fun _ => ?_) (fun _ => ?_)
    · exact Keeps.refl
    · refine Keeps.andThen ?_ State.dropEntry_keeps (by rfl)
      exact Keeps.refl
  · exact Keeps.refl

theorem State.rtLevel_keeps {s a1 a2 a3} : Keeps 1572876 s (State.rtLevel s a1 a2 a3) := by
  unfold State.rtLevel
  extract_lets +onlyGivenNames -merge -useContext -underBinder v1
  extract_lets +onlyGivenNames -merge -useContext -underBinder v2
  extract_lets +onlyGivenNames -merge -useContext -underBinder v3
  extract_lets +onlyGivenNames -merge -useContext -underBinder v4
  have h4 : Keeps 1572876 s v4 := by
    unfold v4
    refine Keeps.andThen ?_ (Keeps.mem (by rfl) (by rfl)) (by rfl)
    exact Keeps.refl
  refine Keeps.ite (fun _ => ?_) (fun _ => ?_)
  · refine Keeps.andThen ?_ State.stepUps_keeps (by rfl)
    refine Keeps.andThen ?_ State.surge_keeps (by rfl)
    refine Keeps.andThen ?_ State.bump_keeps (by rfl)
    exact h4
  · exact h4

theorem execMemRequest_keeps {a0 a1 a2 a3 a4 s} : Answers 1572876 s (execMemRequest a0 a1 a2 a3 a4 s) := by
  unfold execMemRequest
  refine Answers.ite (fun _ => ?_) (fun _ => ?_)
  · refine Answers.next ?_
    exact Keeps.refl
  · extract_lets +onlyGivenNames -merge -useContext -underBinder v1
    have h1 : Keeps 1572876 s v1 := by
      unfold v1
      refine Keeps.ite (fun _ => ?_) (fun _ => ?_)
      · refine Keeps.andThen ?_ State.rtLevel_keeps (by rfl)
        exact Keeps.refl
      · exact Keeps.refl
    refine Answers.ite (fun _ => ?_) (fun _ => ?_)
    · refine Answers.next ?_
      exact h1
    · extract_lets +onlyGivenNames -merge -useContext -underBinder v2
      refine Answers.ite (fun _ => ?_) (fun _ => ?_)
      · refine Answers.next ?_
        exact h1
      · extract_lets +onlyGivenNames -merge -useContext -underBinder v3
        have h3 : Keeps 1572876 s v3 := by
          unfold v3
          refine Keeps.andThen ?_ State.abortRest_keeps (by rfl)
          exact h1
        extract_lets +onlyGivenNames -merge -useContext -underBinder v4
        have h4 : Keeps 1572876 s v4 := by
          unfold v4
          refine Keeps.andThen ?_ State.modPc_keeps (by rfl)
          exact h3
        refine Answers.next ?_
        refine Keeps.andThen ?_ State.modStk_keeps (by rfl)
        exact h4

theorem State.modLampTile_keeps {s a1 a2} : Keeps 65536 s (State.modLampTile s a1 a2) := by
  unfold State.modLampTile
  split
  · refine Keeps.andThen ?_ State.modTile_keeps (by rfl)
    exact Keeps.refl
  · exact Keeps.refl

theorem State.bar2Put_keeps {s a1 a2} : Keeps 589824 s (State.bar2Put s a1 a2) := by
  unfold State.bar2Put
  extract_lets +onlyGivenNames -merge -useContext -underBinder v1
  extract_lets +onlyGivenNames -merge -useContext -underBinder v2
  have h2 : Keeps 589824 s v2 := by
    unfold v2
    refine Keeps.andThen ?_ (Keeps.memBytes (by intro w; dsimp only; exact hbmWriteList_wf _ _ w) (by rfl)) (by rfl)
    exact Keeps.refl
  extract_lets +onlyGivenNames -merge -useContext -underBinder v3
  refine Keeps.ite (fun _ => ?_) (fun _ => ?_)
  · exact h2
  · extract_lets +onlyGivenNames -merge -useContext -underBinder v4
    refine Keeps.foldl ?_ (fun t5 x5 h5 => ?_)
    · exact h2
    · refine Keeps.andThen ?_ State.modLampTile_keeps (by rfl)
      exact h5

theorem State.readDone_keeps {s a1 a2} : Keeps 17301504 s (State.readDone s a1 a2) := by
  unfold State.readDone
  extract_lets +onlyGivenNames -merge -useContext -underBinder v1
  extract_lets +onlyGivenNames -merge -useContext -underBinder v2
  have h2 : Keeps 17301504 s v2 := by
    unfold v2
    refine Keeps.andThen ?_ State.send_keeps (by rfl)
    exact Keeps.refl
  refine Keeps.andThen ?_ (Keeps.mem (by rfl) (by rfl)) (by rfl)
  exact h2

theorem State.bar2Do_keeps {s a1} : Keeps 17367040 s (State.bar2Do s a1) := by
  unfold State.bar2Do
  split
  · refine Keeps.andThen ?_ State.readDone_keeps (by rfl)
    exact Keeps.refl
  · refine Keeps.ite (fun _ => ?_) (fun _ => ?_)
    · exact Keeps.refl
    · refine Keeps.andThen ?_ State.bar2Put_keeps (by rfl)
      exact Keeps.refl

theorem State.bar2Drain_keeps {s kept l} : Keeps 17629184 s (State.bar2Drain s kept l) := by
  induction l generalizing s kept with
  | nil => exact Keeps.host.mono (by rfl)
  | cons x xs ih =>
    unfold State.bar2Drain
    exact Keeps.ite (fun _ => ih) (fun _ => (Keeps.refl.andThen State.bar2Do_keeps (by rfl)).andThen ih (by rfl))

theorem State.bar2Go_keeps {s} : Keeps 17629184 s (State.bar2Go s) := by
  unfold State.bar2Go
  refine Keeps.andThen ?_ State.bar2Drain_keeps (by rfl)
  exact Keeps.refl

theorem State.bar2Reach_keeps {s a1} : Keeps 17629188 s (State.bar2Reach s a1) := by
  unfold State.bar2Reach
  extract_lets +onlyGivenNames -merge -useContext -underBinder v1
  have h1 : Keeps 17629188 s v1 := by
    unfold v1
    refine Keeps.ite (fun _ => ?_) (fun _ => ?_)
    · refine Keeps.foldl ?_ (fun t2 x2 h2 => ?_)
      · exact Keeps.refl
      · refine Keeps.andThen ?_ State.modStk_keeps (by rfl)
        refine Keeps.andThen ?_ State.abortRest_keeps (by rfl)
        exact h2
    · exact Keeps.refl
  refine Keeps.ite (fun _ => ?_) (fun _ => ?_)
  · refine Keeps.andThen ?_ (Keeps.host) (by rfl)
    exact h1
  · refine Keeps.andThen ?_ State.bar2Do_keeps (by rfl)
    exact h1

theorem execBar2Read_keeps {a0 a1 s} : Answers 17629188 s (execBar2Read a0 a1 s) := by
  unfold execBar2Read
  refine Answers.ite (fun _ => ?_) (fun _ => ?_)
  · refine Answers.next ?_
    exact Keeps.refl
  · refine Answers.next ?_
    refine Keeps.andThen ?_ State.bar2Reach_keeps (by rfl)
    exact Keeps.refl

theorem execBar2Write_keeps {a0 a1 s} : Answers 17629188 s (execBar2Write a0 a1 s) := by
  unfold execBar2Write
  extract_lets +onlyGivenNames -merge -useContext -underBinder v1
  refine Answers.ite (fun _ => ?_) (fun _ => ?_)
  · refine Answers.next ?_
    exact Keeps.refl
  · extract_lets +onlyGivenNames -merge -useContext -underBinder v2
    refine Answers.ite (fun _ => ?_) (fun _ => ?_)
    · refine Answers.next ?_
      refine Keeps.andThen ?_ State.bar2Reach_keeps (by rfl)
      exact Keeps.refl
    · refine Answers.ite (fun _ => ?_) (fun _ => ?_)
      · refine Answers.next ?_
        refine Keeps.andThen ?_ State.bump_keeps (by rfl)
        exact Keeps.refl
      · refine Answers.next ?_
        refine Keeps.andThen ?_ State.bump_keeps (by rfl)
        exact Keeps.refl

theorem State.losePc_keeps {s a1 a2} : Keeps 25148157 s (State.losePc s a1 a2) := by
  unfold State.losePc
  extract_lets +onlyGivenNames -merge -useContext -underBinder v1
  extract_lets +onlyGivenNames -merge -useContext -underBinder v2
  have h2 : Keeps 25148157 s v2 := by
    unfold v2
    refine Keeps.andThen ?_ State.modPc_keeps (by rfl)
    exact Keeps.refl
  extract_lets +onlyGivenNames -merge -useContext -underBinder v3
  have h3 : Keeps 25148157 s v3 := by
    unfold v3
    refine Keeps.andThen ?_ State.modStk_keeps (by rfl)
    exact h2
  refine Keeps.andThen ?_ State.bar2Go_keeps (by rfl)
  refine Keeps.andThen ?_ State.fault_keeps (by rfl)
  refine Keeps.andThen ?_ (Keeps.mem (by rfl) (by rfl)) (by rfl)
  exact h3

theorem State.ueHandle_keeps {s a1 a2} : Keeps 25148157 s (State.ueHandle s a1 a2) := by
  unfold State.ueHandle
  split
  · extract_lets +onlyGivenNames -merge -useContext -underBinder v1
    extract_lets +onlyGivenNames -merge -useContext -underBinder v2
    have h2 : Keeps 25148157 s v2 := by
      unfold v2
      refine Keeps.andThen ?_ State.modLampTile_keeps (by rfl)
      exact Keeps.refl
    refine Keeps.andThen ?_ (Keeps.mem (by rfl) (by rfl)) (by rfl)
    exact h2
  · split
    · exact Keeps.refl
    · extract_lets +onlyGivenNames -merge -useContext -underBinder v3
      extract_lets +onlyGivenNames -merge -useContext -underBinder v4
      refine Keeps.andThen ?_ State.modView_keeps (by rfl)
      exact Keeps.refl
  · split
    · refine Keeps.foldl ?_ (fun t5 x5 h5 => ?_)
      · exact Keeps.refl
      · refine Keeps.andThen ?_ State.modLampTile_keeps (by rfl)
        exact h5
    · exact Keeps.refl
  · split
    · refine Keeps.andThen ?_ State.modView_keeps (by rfl)
      exact Keeps.refl
    · exact Keeps.refl
  · refine Keeps.andThen ?_ (Keeps.mem (by rfl) (by rfl)) (by rfl)
    exact Keeps.refl
  · split
    · refine Keeps.andThen ?_ State.fault_keeps (by rfl)
      exact Keeps.refl
    · exact Keeps.refl
  · exact Keeps.refl

theorem execMemReadBurst_keeps {a0 a1 a2 s} : Answers 25148157 s (execMemReadBurst a0 a1 a2 s) := by
  unfold execMemReadBurst
  split
  · refine Answers.next ?_
    exact Keeps.refl
  · extract_lets +onlyGivenNames -merge -useContext -underBinder v1
    have h1 : Keeps 25148157 s v1 := by
      unfold v1
      refine Keeps.andThen ?_ State.modPc_keeps (by rfl)
      exact Keeps.refl
    split
    · refine Answers.next ?_
      exact h1
    · refine Answers.next ?_
      refine Keeps.andThen ?_ State.bump_keeps (by rfl)
      exact h1
    · extract_lets +onlyGivenNames -merge -useContext -underBinder v2
      have h2 : Keeps 25148157 s v2 := by
        unfold v2
        refine Keeps.andThen ?_ State.bump_keeps (by rfl)
        exact h1
      extract_lets +onlyGivenNames -merge -useContext -underBinder v3
      extract_lets +onlyGivenNames -merge -useContext -underBinder v4
      have h4 : Keeps 25148157 s v4 := by
        unfold v4
        refine Keeps.andThen ?_ (Keeps.mem (by rfl) (by rfl)) (by rfl)
        exact h2
      extract_lets +onlyGivenNames -merge -useContext -underBinder v5
      have h5 : Keeps 25148157 s v5 := by
        unfold v5
        refine Keeps.andThen ?_ State.ueHandle_keeps (by rfl)
        refine Keeps.andThen ?_ State.fault_keeps (by rfl)
        exact h4
      extract_lets +onlyGivenNames -merge -useContext -underBinder v6
      extract_lets +onlyGivenNames -merge -useContext -underBinder v7
      have h7 : Keeps 25148157 s v7 := by
        unfold v7
        refine Keeps.andThen ?_ State.modPc_keeps (by rfl)
        exact h5
      refine Answers.next ?_
      refine Keeps.ite (fun _ => ?_) (fun _ => ?_)
      · refine Keeps.andThen ?_ State.losePc_keeps (by rfl)
        exact h7
      · exact h7

theorem execRefreshDue_keeps {a0 s} : Answers 524292 s (execRefreshDue a0 s) := by
  unfold execRefreshDue
  extract_lets +onlyGivenNames -merge -useContext -underBinder v1
  refine Answers.ite (fun _ => ?_) (fun _ => ?_)
  · refine Answers.next ?_
    exact Keeps.refl
  · extract_lets +onlyGivenNames -merge -useContext -underBinder v2
    have h2 : Keeps 524292 s v2 := by
      unfold v2
      refine Keeps.andThen ?_ State.modPc_keeps (by rfl)
      exact Keeps.refl
    refine Answers.ite (fun _ => ?_) (fun _ => ?_)
    · refine Answers.next ?_
      refine Keeps.andThen ?_ State.modPc_keeps (by rfl)
      exact h2
    · refine Answers.ite (fun _ => ?_) (fun _ => ?_)
      · refine Answers.next ?_
        refine Keeps.andThen ?_ State.modPc_keeps (by rfl)
        exact h2
      · refine Answers.next ?_
        refine Keeps.andThen ?_ State.bump_keeps (by rfl)
        refine Keeps.andThen ?_ State.modPc_keeps (by rfl)
        exact h2

theorem execPageIdleTimeout_keeps {a0 a1 s} : Answers 524288 s (execPageIdleTimeout a0 a1 s) := by
  unfold execPageIdleTimeout
  extract_lets +onlyGivenNames -merge -useContext -underBinder v1
  refine Answers.ite (fun _ => ?_) (fun _ => ?_)
  · refine Answers.next ?_
    refine Keeps.andThen ?_ State.modPc_keeps (by rfl)
    exact Keeps.refl
  · refine Answers.next ?_
    exact Keeps.refl

theorem State.setHot_keeps {s a1 a2 a3} : Keeps 524300 s (State.setHot s a1 a2 a3) := by
  unfold State.setHot
  extract_lets +onlyGivenNames -merge -useContext -underBinder v1
  refine Keeps.ite (fun _ => ?_) (fun _ => ?_)
  · exact Keeps.refl
  · extract_lets +onlyGivenNames -merge -useContext -underBinder v2
    have h2 : Keeps 524300 s v2 := by
      unfold v2
      refine Keeps.andThen ?_ State.modStk_keeps (by rfl)
      exact Keeps.refl
    extract_lets +onlyGivenNames -merge -useContext -underBinder v3
    have h3 : Keeps 524300 s v3 := by
      unfold v3
      refine Keeps.ite (fun _ => ?_) (fun _ => ?_)
      · refine Keeps.foldl ?_ (fun t4 x4 h4 => ?_)
        · exact h2
        · refine Keeps.andThen ?_ State.modPc_keeps (by rfl)
          exact h4
      · exact h2
    refine Keeps.andThen ?_ State.ev_keeps (by rfl)
    exact h3

theorem State.judgeStack_keeps {s a1 a2 a3} : KeepsL 44 s (State.judgeStack s a1 a2 a3) := by
  unfold State.judgeStack
  extract_lets +onlyGivenNames -merge -useContext -underBinder v1
  extract_lets +onlyGivenNames -merge -useContext -underBinder v2
  extract_lets +onlyGivenNames -merge -useContext -underBinder v3
  extract_lets +onlyGivenNames -merge -useContext -underBinder v4
  extract_lets +onlyGivenNames -merge -useContext -underBinder v5
  have h5 : Keeps 44 s v5 := by
    unfold v5
    refine Keeps.andThen ?_ (Keeps.hk) (by rfl)
    exact Keeps.refl
  extract_lets +onlyGivenNames -merge -useContext -underBinder v6
  have h6 : Keeps 44 s v6 := by
    unfold v6
    refine Keeps.andThen ?_ State.levelEvent_keeps (by rfl)
    exact h5
  refine KeepsL.mk ?_
  exact h6

theorem execStackTempReading_keeps {a0 a1 s} : Answers 25148157 s (execStackTempReading a0 a1 s) := by
  unfold execStackTempReading
  extract_lets +onlyGivenNames -merge -useContext -underBinder v1
  refine Answers.ite (fun _ => ?_) (fun _ => ?_)
  · refine Answers.next ?_
    exact Keeps.refl
  · extract_lets +onlyGivenNames -merge -useContext -underBinder v2
    extract_lets +onlyGivenNames -merge -useContext -underBinder v3
    have h3 : Keeps 25148157 s v3 := by
      unfold v3
      refine Keeps.andThen ?_ State.modStk_keeps (by rfl)
      exact Keeps.refl
    extract_lets +onlyGivenNames -merge -useContext -underBinder v4
    have h4 : Keeps 25148157 s v4 := by
      unfold v4
      refine Keeps.ite (fun _ => ?_) (fun _ => ?_)
      · refine Keeps.andThen ?_ State.setHot_keeps (by rfl)
        exact h3
      · refine Keeps.ite (fun _ => ?_) (fun _ => ?_)
        · refine Keeps.andThen ?_ State.setHot_keeps (by rfl)
          exact h3
        · exact h3
    split
    · rename_i t5 y5_1 e5
      have h5 : Keeps 25148157 s t5 := by
        refine Keeps.fst (e := _) ?_ e5
        refine KeepsL.andThen ?_ State.judgeStack_keeps (by rfl)
        exact h4
      refine Answers.next ?_
      refine Keeps.andThen ?_ State.hkRaise_keeps (by rfl)
      exact h5

theorem execStackReadTimeout_keeps {a0 s} : Answers 25148157 s (execStackReadTimeout a0 s) := by
  unfold execStackReadTimeout
  extract_lets +onlyGivenNames -merge -useContext -underBinder v1
  refine Answers.ite (fun _ => ?_) (fun _ => ?_)
  · refine Answers.next ?_
    exact Keeps.refl
  · extract_lets +onlyGivenNames -merge -useContext -underBinder v2
    extract_lets +onlyGivenNames -merge -useContext -underBinder v3
    have h3 : Keeps 25148157 s v3 := by
      unfold v3
      refine Keeps.andThen ?_ (Keeps.hk) (by rfl)
      exact Keeps.refl
    refine Answers.next ?_
    refine Keeps.andThen ?_ State.hkRaise_keeps (by rfl)
    refine Keeps.andThen ?_ State.setHot_keeps (by rfl)
    exact h3

theorem execStackQuiet_keeps {a0 a1 s} : Answers 524288 s (execStackQuiet a0 a1 s) := by
  unfold execStackQuiet
  refine Answers.ite (fun _ => ?_) (fun _ => ?_)
  · refine Answers.next ?_
    refine Keeps.andThen ?_ State.modStk_keeps (by rfl)
    exact Keeps.refl
  · refine Answers.next ?_
    exact Keeps.refl

theorem execStackWake_keeps {a0 a1 s} : Answers 524288 s (execStackWake a0 a1 s) := by
  unfold execStackWake
  extract_lets +onlyGivenNames -merge -useContext -underBinder v1
  extract_lets +onlyGivenNames -merge -useContext -underBinder v2
  refine Answers.ite (fun _ => ?_) (fun _ => ?_)
  · refine Answers.next ?_
    refine Keeps.andThen ?_ State.modStk_keeps (by rfl)
    exact Keeps.refl
  · refine Answers.next ?_
    exact Keeps.refl

theorem execStackExitDone_keeps {a0 s} : Answers 17629184 s (execStackExitDone a0 s) := by
  unfold execStackExitDone
  extract_lets +onlyGivenNames -merge -useContext -underBinder v1
  refine Answers.ite (fun _ => ?_) (fun _ => ?_)
  · refine Answers.next ?_
    exact Keeps.refl
  · extract_lets +onlyGivenNames -merge -useContext -underBinder v2
    extract_lets +onlyGivenNames -merge -useContext -underBinder v3
    have h3 : Keeps 17629184 s v3 := by
      unfold v3
      refine Keeps.andThen ?_ State.modStk_keeps (by rfl)
      exact Keeps.refl
    extract_lets +onlyGivenNames -merge -useContext -underBinder v4
    have h4 : Keeps 17629184 s v4 := by
      unfold v4
      refine Keeps.foldl ?_ (fun t5 x5 h5 => ?_)
      · exact h3
      · refine Keeps.andThen ?_ State.modPc_keeps (by rfl)
        exact h5
    extract_lets +onlyGivenNames -merge -useContext -underBinder v6
    have h6 : Keeps 17629184 s v6 := by
      unfold v6
      refine Keeps.andThen ?_ State.bar2Go_keeps (by rfl)
      exact h4
    refine Answers.next ?_
    refine Keeps.ite (fun _ => ?_) (fun _ => ?_)
    · refine Keeps.andThen ?_ State.beginStep_keeps (by rfl)
      exact h6
    · exact h6

theorem execParityAlert_keeps {a0 a1 s} : Answers 524288 s (execParityAlert a0 a1 s) := by
  unfold execParityAlert
  extract_lets +onlyGivenNames -merge -useContext -underBinder v1
  refine Answers.ite (fun _ => ?_) (fun _ => ?_)
  · refine Answers.next ?_
    exact Keeps.refl
  · refine Answers.next ?_
    refine Keeps.andThen ?_ State.modPc_keeps (by rfl)
    exact Keeps.refl

theorem execParityAlertClear_keeps {a0 a1 s} : Answers 25148157 s (execParityAlertClear a0 a1 s) := by
  unfold execParityAlertClear
  split
  · refine Answers.next ?_
    exact Keeps.refl
  · extract_lets +onlyGivenNames -merge -useContext -underBinder v1
    have h1 : Keeps 25148157 s v1 := by
      unfold v1
      refine Keeps.andThen ?_ State.modPc_keeps (by rfl)
      refine Keeps.andThen ?_ State.bump_keeps (by rfl)
      exact Keeps.refl
    refine Answers.ite (fun _ => ?_) (fun _ => ?_)
    · refine Answers.next ?_
      refine Keeps.andThen ?_ State.modPc_keeps (by rfl)
      exact h1
    · extract_lets +onlyGivenNames -merge -useContext -underBinder v2
      extract_lets +onlyGivenNames -merge -useContext -underBinder v3
      have h3 : Keeps 25148157 s v3 := by
        unfold v3
        refine Keeps.andThen ?_ State.modPc_keeps (by rfl)
        exact h1
      refine Answers.ite (fun _ => ?_) (fun _ => ?_)
      · refine Answers.next ?_
        exact h3
      · extract_lets +onlyGivenNames -merge -useContext -underBinder v4
        have h4 : Keeps 25148157 s v4 := by
          unfold v4
          refine Keeps.andThen ?_ State.ev_keeps (by rfl)
          refine Keeps.andThen ?_ State.modPc_keeps (by rfl)
          exact h3
        refine Answers.next ?_
        refine Keeps.ite (fun _ => ?_) (fun _ => ?_)
        · refine Keeps.andThen ?_ State.losePc_keeps (by rfl)
          exact h4
        · exact h4

theorem execTrimSlotDue_keeps {a0 s} : Answers 524300 s (execTrimSlotDue a0 s) := by
  unfold execTrimSlotDue
  extract_lets +onlyGivenNames -merge -useContext -underBinder v1
  refine Answers.ite (fun _ => ?_) (fun _ => ?_)
  · refine Answers.next ?_
    exact Keeps.refl
  · refine Answers.ite (fun _ => ?_) (fun _ => ?_)
    · refine Answers.next ?_
      refine Keeps.andThen ?_ State.modPc_keeps (by rfl)
      exact Keeps.refl
    · refine Answers.ite (fun _ => ?_) (fun _ => ?_)
      · refine Answers.next ?_
        refine Keeps.andThen ?_ State.ev_keeps (by rfl)
        refine Keeps.andThen ?_ State.bump_keeps (by rfl)
        refine Keeps.andThen ?_ State.modPc_keeps (by rfl)
        exact Keeps.refl
      · refine Answers.next ?_
        exact Keeps.refl

theorem openAfterSeal_phy {p l : Nat} (hp : p < 128) (hl : l < 34) : openAfterSeal (Reg.phyDelay p l) = true := by
  unfold openAfterSeal Reg.phyDelay
  simp only [Bool.or_eq_true, Bool.and_eq_true, decide_eq_true_eq]
  omega

theorem State.trimDelays_keeps {s p c} (hp : p < 128 := by omega) : Keeps 33554433 s (State.trimDelays s p c) := by
  unfold State.trimDelays
  refine Keeps.foldlMem Keeps.refl (fun t l hl h => ?_)
  extract_lets +onlyGivenNames -merge -useContext -underBinder v2 v3 v4 v5 v6
  exact h.andThen (State.setRws_open_keeps (openAfterSeal_phy hp (List.mem_range.1 hl))) (by rfl)

theorem execTrimSlotEnd_keeps {a0 a1 a2 a3 s} : Answers 34078733 s (execTrimSlotEnd a0 a1 a2 a3 s) := by
  unfold execTrimSlotEnd
  split
  · refine Answers.next ?_
    exact Keeps.refl
  · refine Answers.ite (fun _ => ?_) (fun _ => ?_)
    · refine Answers.next ?_
      exact Keeps.refl
    · extract_lets +onlyGivenNames -merge -useContext -underBinder v1
      have h1 : Keeps 34078733 s v1 := by
        unfold v1
        refine Keeps.andThen ?_ State.modPc_keeps (by rfl)
        exact Keeps.refl
      refine Answers.ite (fun _ => ?_) (fun _ => ?_)
      · refine Answers.next ?_
        refine Keeps.andThen ?_ State.ev_keeps (by rfl)
        refine Keeps.andThen ?_ State.bump_keeps (by rfl)
        refine Keeps.andThen ?_ State.modPc_keeps (by rfl)
        exact h1
      · extract_lets +onlyGivenNames -merge -useContext -underBinder v2
        extract_lets +onlyGivenNames -merge -useContext -underBinder v3
        extract_lets +onlyGivenNames -merge -useContext -underBinder v4
        have h4 : Keeps 34078733 s v4 := by
          unfold v4
          refine Keeps.andThen ?_ State.trimDelays_keeps (by rfl)
          refine Keeps.andThen ?_ State.modPc_keeps (by rfl)
          exact h1
        refine Answers.next ?_
        refine Keeps.ite (fun _ => ?_) (fun _ => ?_)
        · exact h4
        · refine Keeps.andThen ?_ State.ev_keeps (by rfl)
          exact h4

theorem State.trainPc_keeps {s a1 a2 a3} : Keeps 524300 s (State.trainPc s a1 a2 a3) := by
  unfold State.trainPc
  extract_lets +onlyGivenNames -merge -useContext -underBinder v1
  extract_lets +onlyGivenNames -merge -useContext -underBinder v2
  have h2 : Keeps 524300 s v2 := by
    unfold v2
    refine Keeps.foldl ?_ (fun t3 x3 h3 => ?_)
    · exact Keeps.refl
    · refine Keeps.andThen ?_ State.evtAt_keeps (by rfl)
      exact h3
  extract_lets +onlyGivenNames -merge -useContext -underBinder v4
  have h4 : Keeps 524300 s v4 := by
    unfold v4
    refine Keeps.andThen ?_ State.modPc_keeps (by rfl)
    exact h2
  extract_lets +onlyGivenNames -merge -useContext -underBinder v5
  clear_value v5
  split
  · exact h4
  · refine Keeps.andThen ?_ State.evtW_keeps (by rfl)
    exact h4

theorem execHbmTrainingDone_keeps {a0 a1 a2 a3 s} : Answers 25148157 s (execHbmTrainingDone a0 a1 a2 a3 s) := by
  unfold execHbmTrainingDone
  refine Answers.ite (fun _ => ?_) (fun _ => ?_)
  · refine Answers.next ?_
    exact Keeps.refl
  · extract_lets +onlyGivenNames -merge -useContext -underBinder v1
    extract_lets +onlyGivenNames -merge -useContext -underBinder v2
    extract_lets +onlyGivenNames -merge -useContext -underBinder v3
    have h3 : Keeps 25148157 s v3 := by
      unfold v3
      refine Keeps.foldl ?_ (fun t4 x4 h4 => ?_)
      · exact Keeps.refl
      · refine Keeps.andThen ?_ State.trainPc_keeps (by rfl)
        exact h4
    extract_lets +onlyGivenNames -merge -useContext -underBinder v5
    extract_lets +onlyGivenNames -merge -useContext -underBinder v6
    extract_lets +onlyGivenNames -merge -useContext -underBinder v7
    extract_lets +onlyGivenNames -merge -useContext -underBinder v8
    have h8 : Keeps 25148157 s v8 := by
      unfold v8
      refine Keeps.andThen ?_ (Keeps.memBytes (by exact fun _ => rfl) (by rfl)) (by rfl)
      exact h3
    refine Answers.next ?_
    refine Keeps.foldl ?_ (fun t9 x9 h9 => ?_)
    · exact h8
    · refine Keeps.andThen ?_ State.losePc_keeps (by rfl)
      exact h9

end Sys2Proof.Machine
end

