-- ==== Sys2Proof/Laws/KeepCues.lean ====
section
/-! SUPPORT. One lemma for each operation of Machine/Cues.lean: the parts it may change, and that what must last lasts. -/

namespace Sys2Proof.Machine

theorem State.updGuard_keeps {s} : Keeps 1048576 s (State.updGuard s) := by
  unfold State.updGuard
  extract_lets +onlyGivenNames -merge -useContext -underBinder v1
  extract_lets +onlyGivenNames -merge -useContext -underBinder v2
  have h2 : Keeps 1048576 s v2 := by
    unfold v2
    refine Keeps.ite (fun _ => ?_) (fun _ => ?_)
    · refine Keeps.andThen ?_ State.setV_keeps (by rfl)
      exact Keeps.refl
    · exact Keeps.refl
  refine Keeps.andThen ?_ (Keeps.fab) (by rfl)
  exact h2

theorem State.relayCue_keeps {s a1 a2 a3 a4 a5 a6} : Keeps 18874368 s (State.relayCue s a1 a2 a3 a4 a5 a6) := by
  unfold State.relayCue
  refine Keeps.ite (fun _ => ?_) (fun _ => ?_)
  · exact Keeps.refl
  · refine Keeps.andThen ?_ State.relaySend_keeps (by rfl)
    exact Keeps.refl

theorem State.cuesChanged_keeps {s} : Keeps 25148157 s (State.cuesChanged s) := by
  unfold State.cuesChanged
  refine Keeps.andThen ?_ State.updGuard_keeps (by rfl)
  refine Keeps.andThen ?_ State.demandStep_keeps (by rfl)
  refine Keeps.andThen ?_ State.joins_keeps (by rfl)
  exact Keeps.refl

theorem State.cueOut_keeps {s a1 a2 a3} : Keeps 8204 s (State.cueOut s a1 a2 a3) := by
  unfold State.cueOut
  extract_lets +onlyGivenNames -merge -useContext -underBinder v1
  extract_lets +onlyGivenNames -merge -useContext -underBinder v2
  have h2 : Keeps 8204 s v2 := by
    unfold v2
    refine Keeps.andThen ?_ (Keeps.sc) (by rfl)
    exact Keeps.refl
  refine Keeps.andThen ?_ State.ev_keeps (by rfl)
  refine Keeps.andThen ?_ State.bump_keeps (by rfl)
  exact h2

theorem State.refuseCue_keeps {s a1 a2} : Keeps 8204 s (State.refuseCue s a1 a2) := by
  unfold State.refuseCue
  refine Keeps.andThen ?_ State.cueOut_keeps (by rfl)
  exact Keeps.refl

theorem State.enterCue_keeps {s a1} : Keeps 25148157 s (State.enterCue s a1) := by
  unfold State.enterCue
  extract_lets +onlyGivenNames -merge -useContext -underBinder v1
  extract_lets +onlyGivenNames -merge -useContext -underBinder v2
  extract_lets +onlyGivenNames -merge -useContext -underBinder v3
  extract_lets +onlyGivenNames -merge -useContext -underBinder v4
  have h4 : Keeps 25148157 s v4 := by
    unfold v4
    refine Keeps.andThen ?_ (Keeps.sc) (by rfl)
    exact Keeps.refl
  refine Keeps.andThen ?_ State.cuesChanged_keeps (by rfl)
  refine Keeps.andThen ?_ State.relayCue_keeps (by rfl)
  exact h4

theorem State.sceneCue_keeps {s a1} : Keeps 25148157 s (State.sceneCue s a1) := by
  unfold State.sceneCue
  split
  · refine Keeps.andThen ?_ State.enterCue_keeps (by rfl)
    exact Keeps.refl
  · refine Keeps.andThen ?_ State.enterCue_keeps (by rfl)
    refine Keeps.andThen ?_ State.cueOut_keeps (by rfl)
    refine Keeps.andThen ?_ (Keeps.sc) (by rfl)
    exact Keeps.refl
  · refine Keeps.andThen ?_ State.refuseCue_keeps (by rfl)
    exact Keeps.refl

theorem State.refusePlan_keeps {s a1 a2} : Keeps 4108 s (State.refusePlan s a1 a2) := by
  unfold State.refusePlan
  refine Keeps.andThen ?_ State.ev_keeps (by rfl)
  refine Keeps.andThen ?_ (Keeps.tl) (by rfl)
  exact Keeps.refl

theorem State.planRank_keeps {s a1 a2} : KeepsR 12 s (State.planRank s a1 a2) := by
  unfold State.planRank
  split
  · refine KeepsR.mk ?_
    exact Keeps.refl
  · refine KeepsR.ite (fun _ => ?_) (fun _ => ?_)
    · refine KeepsR.mk ?_
      refine Keeps.andThen ?_ State.planGone_keeps (by rfl)
      exact Keeps.refl
    · refine KeepsR.mk ?_
      refine Keeps.andThen ?_ State.planGone_keeps (by rfl)
      exact Keeps.refl

theorem State.placePlan_keeps {s a1 a2} : Keeps 4096 s (State.placePlan s a1 a2) := by
  unfold State.placePlan
  refine Keeps.andThen ?_ (Keeps.tl) (by rfl)
  exact Keeps.refl

theorem State.planCue_keeps {s a1} : Keeps 25148157 s (State.planCue s a1) := by
  unfold State.planCue
  split
  · refine Keeps.ite (fun _ => ?_) (fun _ => ?_)
    · exact Keeps.refl
    · extract_lets +onlyGivenNames -merge -useContext -underBinder v1
      refine Keeps.ite (fun _ => ?_) (fun _ => ?_)
      · split
        · rename_i y2_0 t2 e2
          have h2 : Keeps 25148157 s t2 := by
            refine Keeps.snd (e := _) ?_ e2
            refine KeepsR.andThen ?_ State.planRank_keeps (by rfl)
            exact Keeps.refl
          refine Keeps.andThen ?_ State.cuesChanged_keeps (by rfl)
          refine Keeps.andThen ?_ (Keeps.tl) (by rfl)
          exact h2
      · split
        · rename_i y3_0 t3 e3
          have h3 : Keeps 25148157 s t3 := by
            refine Keeps.snd (e := _) ?_ e3
            refine KeepsR.andThen ?_ State.planRank_keeps (by rfl)
            exact Keeps.refl
          refine Keeps.ite (fun _ => ?_) (fun _ => ?_)
          · refine Keeps.andThen ?_ State.cuesChanged_keeps (by rfl)
            refine Keeps.andThen ?_ State.placePlan_keeps (by rfl)
            exact h3
          · exact h3
  · refine Keeps.andThen ?_ State.refusePlan_keeps (by rfl)
    exact Keeps.refl

theorem State.takeCue_keeps {s a1} : Keeps 25148157 s (State.takeCue s a1) := by
  unfold State.takeCue
  refine Keeps.ite (fun _ => ?_) (fun _ => ?_)
  · refine Keeps.andThen ?_ State.planCue_keeps (by rfl)
    exact Keeps.refl
  · refine Keeps.andThen ?_ State.sceneCue_keeps (by rfl)
    exact Keeps.refl

/-- Time taken back and restored: the tick and the time base are as before. -/
theorem Keeps.restored {m w r t tb} (k : Keeps m { w with ticks := t, tb := tb } r) : Keeps m w { r with ticks := w.ticks, tb := w.tb } :=
  ⟨⟨k.lasting.variant, rfl, k.lasting.pending, k.lasting.factory, k.lasting.retired, k.lasting.sent, k.lasting.drawn,
      k.lasting.queues, k.lasting.wf⟩,
    fun p hp => by
      have h := k.same p hp
      cases p <;> first | exact h | rfl, k.lock, k.lockX⟩

theorem State.asOf_keeps {m s w t f} (hw : Keeps m s w) (hf : ∀ u, Keeps m u (f u)) : Keeps m s (State.asOf w t f) :=
  hw.andThen (Keeps.restored (hf _)) (Nat.and_self m)

theorem State.submitCue_keeps {s a1} : Keeps 25148157 s (State.submitCue s a1) := by
  unfold State.submitCue
  refine Keeps.ite (fun _ => ?_) (fun _ => ?_)
  · refine Keeps.andThen ?_ State.bump_keeps (by rfl)
    exact Keeps.refl
  · refine Keeps.ite (fun _ => ?_) (fun _ => ?_)
    · refine Keeps.andThen ?_ (Keeps.net) (by rfl)
      exact Keeps.refl
    · refine Keeps.andThen ?_ State.takeCue_keeps (by rfl)
      exact Keeps.refl

theorem State.placeHeld_keeps {s a1} : Keeps 4096 s (State.placeHeld s a1) := by
  unfold State.placeHeld
  split
  · exact Keeps.refl
  · extract_lets +onlyGivenNames -merge -useContext -underBinder v1
    extract_lets +onlyGivenNames -merge -useContext -underBinder v2
    have h2 : Keeps 4096 s v2 := by
      unfold v2
      refine Keeps.andThen ?_ (Keeps.tl) (by rfl)
      exact Keeps.refl
    refine Keeps.ite (fun _ => ?_) (fun _ => ?_)
    · exact h2
    · refine Keeps.andThen ?_ State.placePlan_keeps (by rfl)
      exact h2

theorem State.writeCueGo_keeps {s a1} : Keeps 25148157 s (State.writeCueGo s a1) := by
  unfold State.writeCueGo
  extract_lets +onlyGivenNames -merge -useContext -underBinder v1
  have h1 : Keeps 25148157 s v1 := by
    unfold v1
    refine Keeps.ite (fun _ => ?_) (fun _ => ?_)
    · refine Keeps.andThen ?_ State.cuesChanged_keeps (by rfl)
      refine Keeps.andThen ?_ State.flushCues_keeps (by rfl)
      exact Keeps.refl
    · exact Keeps.refl
  refine Keeps.ite (fun _ => ?_) (fun _ => ?_)
  · refine Keeps.andThen ?_ State.submitCue_keeps (by rfl)
    exact h1
  · exact h1

theorem execCueGo_keeps {a0 s} : Answers 25148157 s (execCueGo a0 s) := by
  unfold execCueGo
  refine Answers.next ?_
  refine Keeps.andThen ?_ State.writeCueGo_keeps (by rfl)
  exact Keeps.refl

theorem execCueFlush_keeps {a0 s} : Answers 25148157 s (execCueFlush a0 s) := by
  unfold execCueFlush
  refine Answers.next ?_
  refine Keeps.andThen ?_ State.writeCueGo_keeps (by rfl)
  exact Keeps.refl

theorem State.writeFenceHi_keeps {s a1 a2} : Keeps 8192 s (State.writeFenceHi s a1 a2) := by
  unfold State.writeFenceHi
  refine Keeps.andThen ?_ State.modFence_keeps (by rfl)
  exact Keeps.refl

theorem execHsFenceHiWrite_keeps {a0 a1 s} : Answers 8192 s (execHsFenceHiWrite a0 a1 s) := by
  unfold execHsFenceHiWrite
  refine Answers.next ?_
  refine Keeps.andThen ?_ State.writeFenceHi_keeps (by rfl)
  exact Keeps.refl

theorem State.writeFenceLo_keeps {s a1 a2} : Keeps 8204 s (State.writeFenceLo s a1 a2) := by
  unfold State.writeFenceLo
  extract_lets +onlyGivenNames -merge -useContext -underBinder v1
  extract_lets +onlyGivenNames -merge -useContext -underBinder v2
  extract_lets +onlyGivenNames -merge -useContext -underBinder v3
  have h3 : Keeps 8204 s v3 := by
    unfold v3
    refine Keeps.andThen ?_ State.modFence_keeps (by rfl)
    exact Keeps.refl
  refine Keeps.ite (fun _ => ?_) (fun _ => ?_)
  · refine Keeps.andThen ?_ State.bump_keeps (by rfl)
    exact h3
  · extract_lets +onlyGivenNames -merge -useContext -underBinder v4
    extract_lets +onlyGivenNames -merge -useContext -underBinder v5
    extract_lets +onlyGivenNames -merge -useContext -underBinder v6
    have h6 : Keeps 8204 s v6 := by
      unfold v6
      refine Keeps.ite (fun _ => ?_) (fun _ => ?_)
      · refine Keeps.andThen ?_ State.retire_keeps (by rfl)
        exact h3
      · exact h3
    refine Keeps.andThen ?_ State.modFence_keeps (by rfl)
    exact h6

theorem State.settleFences_keeps {s} : Keeps 8204 s (State.settleFences s) := by
  unfold State.settleFences
  refine Keeps.foldl ?_ (fun t1 x1 h1 => ?_)
  · exact Keeps.refl
  · extract_lets +onlyGivenNames -merge -useContext -underBinder v2
    refine Keeps.ite (fun _ => ?_) (fun _ => ?_)
    · refine Keeps.andThen ?_ State.modFence_keeps (by rfl)
      refine Keeps.andThen ?_ State.retire_keeps (by rfl)
      exact h1
    · exact h1

theorem execHsFenceLoWrite_keeps {a0 a1 s} : Answers 8204 s (execHsFenceLoWrite a0 a1 s) := by
  unfold execHsFenceLoWrite
  refine Answers.next ?_
  refine Keeps.andThen ?_ State.writeFenceLo_keeps (by rfl)
  exact Keeps.refl

theorem State.writeSceneQuery_keeps {s a1} : Keeps 2 s (State.writeSceneQuery s a1) := by
  unfold State.writeSceneQuery
  refine Keeps.andThen ?_ State.setRw_keeps (by rfl)
  exact Keeps.refl

theorem execSceneQueryWrite_keeps {a0 s} : Answers 2 s (execSceneQueryWrite a0 s) := by
  unfold execSceneQueryWrite
  refine Answers.next ?_
  refine Keeps.andThen ?_ State.writeSceneQuery_keeps (by rfl)
  exact Keeps.refl

theorem State.writePlanCue_keeps {s a1} : Keeps 25148159 s (State.writePlanCue s a1) := by
  unfold State.writePlanCue
  extract_lets +onlyGivenNames -merge -useContext -underBinder v1
  have h1 : Keeps 25148159 s v1 := by
    unfold v1
    refine Keeps.andThen ?_ State.setRw_keeps (by rfl)
    exact Keeps.refl
  refine Keeps.ite (fun _ => ?_) (fun _ => ?_)
  · refine Keeps.andThen ?_ State.submitCue_keeps (by rfl)
    exact h1
  · exact h1

theorem execPlanCue_keeps {a0 s} : Answers 25148159 s (execPlanCue a0 s) := by
  unfold execPlanCue
  refine Answers.next ?_
  refine Keeps.andThen ?_ State.writePlanCue_keeps (by rfl)
  exact Keeps.refl

theorem execPlanCueFixPoint_keeps {s} : Answers 18878464 s (execPlanCueFixPoint s) := by
  unfold execPlanCueFixPoint
  split
  · refine Answers.next ?_
    exact Keeps.refl
  · refine Answers.ite (fun _ => ?_) (fun _ => ?_)
    · refine Answers.next ?_
      exact Keeps.refl
    · extract_lets +onlyGivenNames -merge -useContext -underBinder v1
      refine Answers.next ?_
      refine Keeps.andThen ?_ State.relayCue_keeps (by rfl)
      refine Keeps.andThen ?_ (Keeps.tl) (by rfl)
      exact Keeps.refl

theorem State.considerAt_keeps {s a1 a2 a3 a4} : Keeps 25148157 s (State.considerAt s a1 a2 a3 a4) := by
  unfold State.considerAt
  split
  · exact Keeps.refl
  · refine Keeps.ite (fun _ => ?_) (fun _ => ?_)
    · exact Keeps.refl
    · extract_lets +onlyGivenNames -merge -useContext -underBinder v1
      extract_lets +onlyGivenNames -merge -useContext -underBinder v2
      have h2 : Keeps 25148157 s v2 := by
        unfold v2
        refine Keeps.andThen ?_ (Keeps.sc) (by rfl)
        exact Keeps.refl
      refine Keeps.ite (fun _ => ?_) (fun _ => ?_)
      · refine Keeps.andThen ?_ State.submitCue_keeps (by rfl)
        exact h2
      · refine Keeps.andThen ?_ State.ev_keeps (by rfl)
        exact h2

theorem State.consider_keeps {s a1} : Keeps 25148157 s (State.consider s a1) := by
  unfold State.consider
  split
  · refine Keeps.andThen ?_ State.considerAt_keeps (by rfl)
    exact Keeps.refl
  · exact Keeps.refl

theorem execScheduleOccurrence_keeps {a0 s} : Answers 25148157 s (execScheduleOccurrence a0 s) := by
  unfold execScheduleOccurrence
  refine Answers.next ?_
  refine Keeps.andThen ?_ State.consider_keeps (by rfl)
  exact Keeps.refl

theorem State.dgCount_keeps {s a1 a2} : Keeps 131084 s (State.dgCount s a1 a2) := by
  unfold State.dgCount
  extract_lets +onlyGivenNames -merge -useContext -underBinder v1
  extract_lets +onlyGivenNames -merge -useContext -underBinder v2
  extract_lets +onlyGivenNames -merge -useContext -underBinder v3
  extract_lets +onlyGivenNames -merge -useContext -underBinder v4
  refine Keeps.ite (fun _ => ?_) (fun _ => ?_)
  · extract_lets +onlyGivenNames -merge -useContext -underBinder v5
    have h5 : Keeps 131084 s v5 := by
      unfold v5
      refine Keeps.andThen ?_ State.bump_keeps (by rfl)
      exact Keeps.refl
    refine Keeps.andThen ?_ (Keeps.net) (by rfl)
    exact h5
  · refine Keeps.ite (fun _ => ?_) (fun _ => ?_)
    · refine Keeps.andThen ?_ State.bump_keeps (by rfl)
      exact Keeps.refl
    · extract_lets +onlyGivenNames -merge -useContext -underBinder v6
      extract_lets +onlyGivenNames -merge -useContext -underBinder v7
      have h7 : Keeps 131084 s v7 := by
        unfold v7
        refine Keeps.ite (fun _ => ?_) (fun _ => ?_)
        · refine Keeps.andThen ?_ (Keeps.net) (by rfl)
          exact Keeps.refl
        · exact Keeps.refl
      refine Keeps.andThen ?_ State.dgReject_keeps (by rfl)
      refine Keeps.andThen ?_ State.bump_keeps (by rfl)
      exact h7

theorem State.dgChecks_keeps {s a1 a2} : Keeps 131084 s (State.dgChecks s a1 a2) := by
  unfold State.dgChecks
  refine Keeps.ite (fun _ => ?_) (fun _ => ?_)
  · refine Keeps.andThen ?_ State.bump_keeps (by rfl)
    exact Keeps.refl
  · refine Keeps.ite (fun _ => ?_) (fun _ => ?_)
    · refine Keeps.andThen ?_ State.bump_keeps (by rfl)
      exact Keeps.refl
    · refine Keeps.ite (fun _ => ?_) (fun _ => ?_)
      · refine Keeps.andThen ?_ State.bump_keeps (by rfl)
        exact Keeps.refl
      · refine Keeps.andThen ?_ State.dgCount_keeps (by rfl)
        exact Keeps.refl

theorem State.cueDatagram_keeps {s a1 a2} : Keeps 131084 s (State.cueDatagram s a1 a2) := by
  unfold State.cueDatagram
  refine Keeps.ite (fun _ => ?_) (fun _ => ?_)
  · exact Keeps.refl
  · refine Keeps.ite (fun _ => ?_) (fun _ => ?_)
    · refine Keeps.andThen ?_ State.bump_keeps (by rfl)
      exact Keeps.refl
    · refine Keeps.ite (fun _ => ?_) (fun _ => ?_)
      · refine Keeps.andThen ?_ State.dgBadTag_keeps (by rfl)
        exact Keeps.refl
      · refine Keeps.andThen ?_ State.dgChecks_keeps (by rfl)
        refine Keeps.andThen ?_ State.dgNote_keeps (by rfl)
        exact Keeps.refl

theorem execCueDatagramRx_keeps {a0 a1 s} : Answers 131084 s (execCueDatagramRx a0 a1 s) := by
  unfold execCueDatagramRx
  refine Answers.ite (fun _ => ?_) (fun _ => ?_)
  · refine Answers.next ?_
    refine Keeps.andThen ?_ State.cueDatagram_keeps (by rfl)
    exact Keeps.refl
  · refine Answers.next ?_
    exact Keeps.refl

theorem execCueDatagramAccept_keeps {s} : Answers 25148157 s (execCueDatagramAccept s) := by
  unfold execCueDatagramAccept
  split
  · refine Answers.next ?_
    exact Keeps.refl
  · refine Answers.ite (fun _ => ?_) (fun _ => ?_)
    · refine Answers.next ?_
      exact Keeps.refl
    · refine Answers.next ?_
      refine State.asOf_keeps ?_ (fun s => ?_)
      · refine Keeps.andThen ?_ (Keeps.net) (by rfl)
        exact Keeps.refl
      · refine Keeps.andThen ?_ State.submitCue_keeps (by rfl)
        exact Keeps.refl

end Sys2Proof.Machine
end

