-- ==== Sys2Proof/Laws/KeepTiles.lean ====
section
/-! SUPPORT. One lemma for each operation of Machine/Tiles.lean: the parts it may change, and that what must last lasts. -/

namespace Sys2Proof.Machine

theorem State.relayTile_keeps {s a1 a2} : Keeps 18874368 s (State.relayTile s a1 a2) := by
  unfold State.relayTile
  split
  · exact Keeps.refl
  · refine Keeps.ite (fun _ => ?_) (fun _ => ?_)
    · exact Keeps.refl
    · split
      · extract_lets +onlyGivenNames -merge -useContext -underBinder v1
        refine Keeps.andThen ?_ State.relaySend_keeps (by rfl)
        exact Keeps.refl

theorem State.relayLamp_keeps {s a1 a2 a3 a4} : Keeps 18874368 s (State.relayLamp s a1 a2 a3 a4) := by
  unfold State.relayLamp
  split
  · exact Keeps.refl
  · refine Keeps.ite (fun _ => ?_) (fun _ => ?_)
    · exact Keeps.refl
    · split
      · refine Keeps.andThen ?_ State.relaySend_keeps (by rfl)
        exact Keeps.refl

theorem State.relayFlush_keeps {s a1} : Keeps 18874368 s (State.relayFlush s a1) := by
  unfold State.relayFlush
  refine Keeps.ite (fun _ => ?_) (fun _ => ?_)
  · refine Keeps.andThen ?_ State.relaySend_keeps (by rfl)
    exact Keeps.refl
  · exact Keeps.refl

theorem State.setLamp_keeps {s a1 a2 a3 a4} : Keeps 18939904 s (State.setLamp s a1 a2 a3 a4) := by
  unfold State.setLamp
  refine Keeps.andThen ?_ State.relayLamp_keeps (by rfl)
  refine Keeps.andThen ?_ State.modTile_keeps (by rfl)
  exact Keeps.refl

theorem State.lampFault_keeps {s a1 a2 a3 a4} : Keeps 24623869 s (State.lampFault s a1 a2 a3 a4) := by
  unfold State.lampFault
  split
  · exact Keeps.refl
  · split
    · refine Keeps.ite (fun _ => ?_) (fun _ => ?_)
      · exact Keeps.refl
      · extract_lets +onlyGivenNames -merge -useContext -underBinder v1
        have h1 : Keeps 24623869 s v1 := by
          unfold v1
          refine Keeps.andThen ?_ State.setLamp_keeps (by rfl)
          exact Keeps.refl
        extract_lets +onlyGivenNames -merge -useContext -underBinder v2
        refine Keeps.andThen ?_ State.evFault_keeps (by rfl)
        exact h1
    · exact Keeps.refl

theorem State.lampReport_keeps {s a1 a2 a3 a4} : Keeps 24623869 s (State.lampReport s a1 a2 a3 a4) := by
  unfold State.lampReport
  refine Keeps.ite (fun _ => ?_) (fun _ => ?_)
  · refine Keeps.andThen ?_ (Keeps.net) (by rfl)
    exact Keeps.refl
  · refine Keeps.andThen ?_ State.lampFault_keeps (by rfl)
    exact Keeps.refl

theorem execRelayDelayedAccept_keeps {s} : Answers 25148157 s (execRelayDelayedAccept s) := by
  unfold execRelayDelayedAccept
  split
  · refine Answers.next ?_
    exact Keeps.refl
  · refine Answers.ite (fun _ => ?_) (fun _ => ?_)
    · refine Answers.next ?_
      exact Keeps.refl
    · refine Answers.next ?_
      refine State.asOf_keeps ?_ (fun s => ?_)
      · refine Keeps.andThen ?_ (Keeps.net) (by rfl)
        exact Keeps.refl
      · split
        · refine Keeps.andThen ?_ State.takeCue_keeps (by rfl)
          exact Keeps.refl
        · refine Keeps.andThen ?_ State.lampFault_keeps (by rfl)
          exact Keeps.refl

theorem State.applyTemp_keeps {s a1} : Keeps 18939904 s (State.applyTemp s a1) := by
  unfold State.applyTemp
  refine Keeps.ite (fun _ => ?_) (fun _ => ?_)
  · refine Keeps.andThen ?_ State.relayTile_keeps (by rfl)
    refine Keeps.andThen ?_ State.modTile_keeps (by rfl)
    exact Keeps.refl
  · exact Keeps.refl

theorem State.derate_keeps {s a1} : Keeps 18939916 s (State.derate s a1) := by
  unfold State.derate
  split
  · exact Keeps.refl
  · extract_lets +onlyGivenNames -merge -useContext -underBinder v1
    refine Keeps.ite (fun _ => ?_) (fun _ => ?_)
    · exact Keeps.refl
    · extract_lets +onlyGivenNames -merge -useContext -underBinder v2
      have h2 : Keeps 18939916 s v2 := by
        unfold v2
        refine Keeps.andThen ?_ State.relayTile_keeps (by rfl)
        refine Keeps.andThen ?_ State.modTile_keeps (by rfl)
        exact Keeps.refl
      refine Keeps.ite (fun _ => ?_) (fun _ => ?_)
      · refine Keeps.andThen ?_ State.ev_keeps (by rfl)
        exact h2
      · refine Keeps.ite (fun _ => ?_) (fun _ => ?_)
        · refine Keeps.andThen ?_ State.ev_keeps (by rfl)
          exact h2
        · exact h2

theorem State.trimColour_keeps {a0 a1 a2 s a4} : Keeps 18939916 s (State.trimColour a0 a1 a2 s a4) := by
  unfold State.trimColour
  split
  · exact Keeps.refl
  · extract_lets +onlyGivenNames -merge -useContext -underBinder v1
    extract_lets +onlyGivenNames -merge -useContext -underBinder v2
    split
    · exact Keeps.refl
    · refine Keeps.ite (fun _ => ?_) (fun _ => ?_)
      · refine Keeps.andThen ?_ State.ev_keeps (by rfl)
        refine Keeps.andThen ?_ State.modTile_keeps (by rfl)
        exact Keeps.refl
      · exact Keeps.refl
    · extract_lets +onlyGivenNames -merge -useContext -underBinder v3
      have h3 : Keeps 18939916 s v3 := by
        unfold v3
        refine Keeps.andThen ?_ State.modTile_keeps (by rfl)
        exact Keeps.refl
      refine Keeps.ite (fun _ => ?_) (fun _ => ?_)
      · exact h3
      · extract_lets +onlyGivenNames -merge -useContext -underBinder v4
        extract_lets +onlyGivenNames -merge -useContext -underBinder v5
        extract_lets +onlyGivenNames -merge -useContext -underBinder v6
        extract_lets +onlyGivenNames -merge -useContext -underBinder v7
        have h7 : Keeps 18939916 s v7 := by
          unfold v7
          refine Keeps.ite (fun _ => ?_) (fun _ => ?_)
          · exact h3
          · refine Keeps.andThen ?_ State.relayTile_keeps (by rfl)
            refine Keeps.andThen ?_ State.modTile_keeps (by rfl)
            exact h3
        extract_lets +onlyGivenNames -merge -useContext -underBinder v8
        have h8 : Keeps 18939916 s v8 := by
          unfold v8
          refine Keeps.ite (fun _ => ?_) (fun _ => ?_)
          · refine Keeps.andThen ?_ State.ev_keeps (by rfl)
            exact h7
          · exact h7
        refine Keeps.andThen ?_ State.modTile_keeps (by rfl)
        exact h8

theorem State.trimTile_keeps {s a1} : Keeps 18939916 s (State.trimTile s a1) := by
  unfold State.trimTile
  split
  · exact Keeps.refl
  · refine Keeps.foldl ?_ (fun t1 x1 h1 => ?_)
    · exact Keeps.refl
    · refine Keeps.andThen ?_ State.trimColour_keeps (by rfl)
      exact h1

theorem State.ageFill_keeps {k s p q} : Keeps 98304 s (State.ageFill k s p q) := by
  induction k generalizing s with
  | zero => exact Keeps.refl
  | succ k ih =>
    unfold State.ageFill
    split
    · exact Keeps.refl
    · split
      · exact Keeps.refl
      · refine Keeps.ite (fun _ => Keeps.refl) (fun _ => ?_)
        refine Keeps.andThen ?_ ih (by rfl)
        exact (Keeps.refl.andThen State.modTile_keeps (by rfl)).andThen State.queueFrame_keeps (by rfl)

theorem State.flushTile_keeps {s a1 a2} : Keeps 18972672 s (State.flushTile s a1 a2) := by
  unfold State.flushTile
  extract_lets +onlyGivenNames -merge -useContext -underBinder v1
  extract_lets +onlyGivenNames -merge -useContext -underBinder v2
  extract_lets +onlyGivenNames -merge -useContext -underBinder v3
  extract_lets +onlyGivenNames -merge -useContext -underBinder v4
  extract_lets +onlyGivenNames -merge -useContext -underBinder v5
  have h5 : Keeps 18972672 s v5 := by
    unfold v5
    refine Keeps.andThen ?_ State.modTile_keeps (by rfl)
    exact Keeps.refl
  refine Keeps.ite (fun _ => ?_) (fun _ => ?_)
  · exact h5
  · extract_lets +onlyGivenNames -merge -useContext -underBinder v6
    have h6 : Keeps 18972672 s v6 := by
      unfold v6
      refine Keeps.andThen ?_ State.relayFlush_keeps (by rfl)
      refine Keeps.andThen ?_ State.modTile_keeps (by rfl)
      exact h5
    refine Keeps.andThen ?_ State.ageFill_keeps (by rfl)
    exact h6

theorem State.issueProbe_keeps {s a1 a2 a3 a4 a5} : Keeps 102404 s (State.issueProbe s a1 a2 a3 a4 a5) := by
  unfold State.issueProbe
  extract_lets +onlyGivenNames -merge -useContext -underBinder v1
  extract_lets +onlyGivenNames -merge -useContext -underBinder v2
  extract_lets +onlyGivenNames -merge -useContext -underBinder v3
  extract_lets +onlyGivenNames -merge -useContext -underBinder v4
  extract_lets +onlyGivenNames -merge -useContext -underBinder v5
  extract_lets +onlyGivenNames -merge -useContext -underBinder v6
  extract_lets +onlyGivenNames -merge -useContext -underBinder v7
  have h7 : Keeps 102404 s v7 := by
    unfold v7
    refine Keeps.andThen ?_ State.bump_keeps (by rfl)
    refine Keeps.andThen ?_ State.queueFrame_keeps (by rfl)
    exact Keeps.refl
  extract_lets +onlyGivenNames -merge -useContext -underBinder v8
  extract_lets +onlyGivenNames -merge -useContext -underBinder v9
  have h9 : Keeps 102404 s v9 := by
    unfold v9
    refine Keeps.andThen ?_ (Keeps.tl) (by rfl)
    exact h7
  refine Keeps.andThen ?_ State.modTile_keeps (by rfl)
  exact h9

theorem State.recheckEnd_keeps {s a1} : Keeps 4108 s (State.recheckEnd s a1) := by
  unfold State.recheckEnd
  extract_lets +onlyGivenNames -merge -useContext -underBinder v1
  extract_lets +onlyGivenNames -merge -useContext -underBinder v2
  extract_lets +onlyGivenNames -merge -useContext -underBinder v3
  have h3 : Keeps 4108 s v3 := by
    unfold v3
    refine Keeps.andThen ?_ (Keeps.tl) (by rfl)
    exact Keeps.refl
  refine Keeps.ite (fun _ => ?_) (fun _ => ?_)
  · refine Keeps.andThen ?_ State.ev_keeps (by rfl)
    exact h3
  · refine Keeps.andThen ?_ State.ev_keeps (by rfl)
    refine Keeps.andThen ?_ State.bump_keeps (by rfl)
    exact h3

theorem State.probeLost_keeps {s a1} : Keeps 4108 s (State.probeLost s a1) := by
  unfold State.probeLost
  extract_lets +onlyGivenNames -merge -useContext -underBinder v1
  have h1 : Keeps 4108 s v1 := by
    unfold v1
    refine Keeps.andThen ?_ State.bump_keeps (by rfl)
    exact Keeps.refl
  refine Keeps.ite (fun _ => ?_) (fun _ => ?_)
  · refine Keeps.andThen ?_ State.recheckEnd_keeps (by rfl)
    exact h1
  · exact h1

theorem State.probeAge_keeps {s a1} : Keeps 69644 s (State.probeAge s a1) := by
  unfold State.probeAge
  extract_lets +onlyGivenNames -merge -useContext -underBinder v1
  extract_lets +onlyGivenNames -merge -useContext -underBinder v2
  have h2 : Keeps 69644 s v2 := by
    unfold v2
    refine Keeps.ite (fun _ => ?_) (fun _ => ?_)
    · exact Keeps.refl
    · refine Keeps.andThen ?_ State.modTile_keeps (by rfl)
      exact Keeps.refl
  refine Keeps.foldl ?_ (fun t3 x3 h3 => ?_)
  · exact h2
  · refine Keeps.andThen ?_ State.probeLost_keeps (by rfl)
    exact h3

theorem State.probeTile_keeps {s a1} : Keeps 102404 s (State.probeTile s a1) := by
  unfold State.probeTile
  refine Keeps.ite (fun _ => ?_) (fun _ => ?_)
  · exact Keeps.refl
  · split
    · exact Keeps.refl
    · extract_lets +onlyGivenNames -merge -useContext -underBinder v1
      clear_value v1
      split
      · refine Keeps.andThen ?_ State.issueProbe_keeps (by rfl)
        refine Keeps.andThen ?_ (Keeps.tl) (by rfl)
        exact Keeps.refl
      · refine Keeps.ite (fun _ => ?_) (fun _ => ?_)
        · exact Keeps.refl
        · split
          · refine Keeps.andThen ?_ State.issueProbe_keeps (by rfl)
            exact Keeps.refl
          · exact Keeps.refl

theorem State.recheckAge_keeps {s} : Keeps 4108 s (State.recheckAge s) := by
  unfold State.recheckAge
  split
  · exact Keeps.refl
  · refine Keeps.ite (fun _ => ?_) (fun _ => ?_)
    · refine Keeps.andThen ?_ (Keeps.tl) (by rfl)
      exact Keeps.refl
    · refine Keeps.andThen ?_ State.recheckEnd_keeps (by rfl)
      exact Keeps.refl

theorem State.probesAge_keeps {s} : Keeps 69644 s (State.probesAge s) := by
  unfold State.probesAge
  refine Keeps.foldl ?_ (fun t1 x1 h1 => ?_)
  · exact Keeps.refl
  · refine Keeps.andThen ?_ State.probeAge_keeps (by rfl)
    exact h1

theorem State.probeLap_keeps {s} : Keeps 102412 s (State.probeLap s) := by
  unfold State.probeLap
  extract_lets +onlyGivenNames -merge -useContext -underBinder v1
  have h1 : Keeps 102412 s v1 := by
    unfold v1
    refine Keeps.andThen ?_ State.probesAge_keeps (by rfl)
    exact Keeps.refl
  refine Keeps.andThen ?_ State.recheckAge_keeps (by rfl)
  refine Keeps.foldl ?_ (fun t2 x2 h2 => ?_)
  · exact h1
  · split
    · refine Keeps.andThen ?_ State.probeTile_keeps (by rfl)
      exact h2
    · exact h2

theorem State.probeResult_keeps {s a1 a2 a3 a4 a5} : Keeps 24623869 s (State.probeResult s a1 a2 a3 a4 a5) := by
  unfold State.probeResult
  split
  · exact Keeps.refl
  · split
    · exact Keeps.refl
    · extract_lets +onlyGivenNames -merge -useContext -underBinder v1
      have h1 : Keeps 24623869 s v1 := by
        unfold v1
        refine Keeps.andThen ?_ State.modTile_keeps (by rfl)
        exact Keeps.refl
      refine Keeps.ite (fun _ => ?_) (fun _ => ?_)
      · refine Keeps.ite (fun _ => ?_) (fun _ => ?_)
        · refine Keeps.andThen ?_ State.recheckEnd_keeps (by rfl)
          refine Keeps.andThen ?_ State.setLamp_keeps (by rfl)
          exact h1
        · refine Keeps.andThen ?_ State.recheckEnd_keeps (by rfl)
          exact h1
      · refine Keeps.ite (fun _ => ?_) (fun _ => ?_)
        · exact h1
        · refine Keeps.ite (fun _ => ?_) (fun _ => ?_)
          · refine Keeps.andThen ?_ State.lampReport_keeps (by rfl)
            exact h1
          · exact h1

end Sys2Proof.Machine
end

