-- ==== Sys2Proof/Laws/KeepDrive.lean ====
section
/-! SUPPORT. One lemma for each operation of Machine/Drive.lean: the parts it may change, and that what must last lasts. -/

namespace Sys2Proof.Machine

theorem State.watch_keeps {s a1 a2 a3 a4} : Keeps 4096 s (State.watch s a1 a2 a3 a4) := by
  unfold State.watch
  extract_lets +onlyGivenNames -merge -useContext -underBinder v1
  extract_lets +onlyGivenNames -merge -useContext -underBinder v2
  extract_lets +onlyGivenNames -merge -useContext -underBinder v3
  refine Keeps.ite (fun _ => ?_) (fun _ => ?_)
  · refine Keeps.andThen ?_ (Keeps.tl) (by rfl)
    exact Keeps.refl
  · exact Keeps.refl

theorem State.recomputePair_keeps {a0 a1 s a3} : Keeps 69636 s (State.recomputePair a0 a1 s a3) := by
  unfold State.recomputePair
  split
  · exact Keeps.refl
  · split
    · exact Keeps.refl
    · extract_lets +onlyGivenNames -merge -useContext -underBinder v1
      extract_lets +onlyGivenNames -merge -useContext -underBinder v2
      have h2 : Keeps 69636 s v2 := by
        unfold v2
        refine Keeps.andThen ?_ State.bumpN_keeps (by rfl)
        refine Keeps.andThen ?_ State.bumpN_keeps (by rfl)
        refine Keeps.andThen ?_ State.bumpN_keeps (by rfl)
        exact Keeps.refl
      refine Keeps.andThen ?_ State.modTile_keeps (by rfl)
      refine Keeps.andThen ?_ State.watch_keeps (by rfl)
      exact h2

theorem State.sendSigs_keeps {k s lap leg p l} : Keeps 18874368 s (State.sendSigs k s lap leg p l) := by
  induction k generalizing s l with
  | zero => exact Keeps.refl
  | succ k ih =>
    unfold State.sendSigs
    refine Keeps.ite (fun _ => Keeps.refl) (fun _ => ?_)
    exact Keeps.andThen (Keeps.refl.andThen State.relaySend_keeps (by rfl)) ih (by rfl)

theorem State.signLatch_keeps {s a1 a2} : Keeps 18874368 s (State.signLatch s a1 a2) := by
  unfold State.signLatch
  refine Keeps.ite (fun _ => ?_) (fun _ => ?_)
  · exact Keeps.refl
  · extract_lets +onlyGivenNames -merge -useContext -underBinder v1
    extract_lets +onlyGivenNames -merge -useContext -underBinder v2
    extract_lets +onlyGivenNames -merge -useContext -underBinder v3
    extract_lets +onlyGivenNames -merge -useContext -underBinder v4
    extract_lets +onlyGivenNames -merge -useContext -underBinder v5
    have h5 : Keeps 18874368 s v5 := by
      unfold v5
      refine Keeps.andThen ?_ (Keeps.rl) (by rfl)
      exact Keeps.refl
    refine Keeps.ite (fun _ => ?_) (fun _ => ?_)
    · exact h5
    · refine Keeps.foldl ?_ (fun t6 x6 h6 => ?_)
      · exact h5
      · extract_lets +onlyGivenNames -merge -useContext -underBinder v7
        refine Keeps.andThen ?_ State.sendSigs_keeps (by rfl)
        exact h6

theorem State.recompute_keeps {s a1} : Keeps 18952196 s (State.recompute s a1) := by
  unfold State.recompute
  split
  · exact Keeps.refl
  · extract_lets +onlyGivenNames -merge -useContext -underBinder v1
    have h1 : Keeps 18952196 s v1 := by
      unfold v1
      refine Keeps.foldl ?_ (fun t2 x2 h2 => ?_)
      · exact Keeps.refl
      · refine Keeps.andThen ?_ State.recomputePair_keeps (by rfl)
        exact h2
    extract_lets +onlyGivenNames -merge -useContext -underBinder v3
    have h3 : Keeps 18952196 s v3 := by
      unfold v3
      refine Keeps.andThen ?_ State.modView_keeps (by rfl)
      exact h1
    refine Keeps.andThen ?_ State.signLatch_keeps (by rfl)
    exact h3

theorem State.warmTile_keeps {a0 s a2} : Keeps 65536 s (State.warmTile a0 s a2) := by
  unfold State.warmTile
  split
  · refine Keeps.ite (fun _ => ?_) (fun _ => ?_)
    · exact Keeps.refl
    · extract_lets +onlyGivenNames -merge -useContext -underBinder v1
      extract_lets +onlyGivenNames -merge -useContext -underBinder v2
      refine Keeps.andThen ?_ State.modTile_keeps (by rfl)
      exact Keeps.refl
  · exact Keeps.refl

end Sys2Proof.Machine
end

