-- ==== Sys2Proof/Laws/KeepLatch.lean ====
section
/-! SUPPORT. One lemma for each operation of Machine/Latch.lean: the parts it may change, and that what must last lasts. -/

namespace Sys2Proof.Machine

theorem State.startPull_keeps {s a1 a2 a3 a4 a5} : Keeps 17047552 s (State.startPull s a1 a2 a3 a4 a5) := by
  unfold State.startPull
  split
  · exact Keeps.refl
  · extract_lets +onlyGivenNames -merge -useContext -underBinder v1
    extract_lets +onlyGivenNames -merge -useContext -underBinder v2
    extract_lets +onlyGivenNames -merge -useContext -underBinder v3
    have h3 : Keeps 17047552 s v3 := by
      unfold v3
      refine Keeps.andThen ?_ State.modFence_keeps (by rfl)
      exact Keeps.refl
    extract_lets +onlyGivenNames -merge -useContext -underBinder v4
    have h4 : Keeps 17047552 s v4 := by
      unfold v4
      refine Keeps.andThen ?_ State.modSurf_keeps (by rfl)
      exact h3
    refine Keeps.andThen ?_ State.readHostMem_keeps (by rfl)
    exact h4

theorem State.slotWait_keeps {s a1} : Keeps 262148 s (State.slotWait s a1) := by
  unfold State.slotWait
  refine Keeps.ite (fun _ => ?_) (fun _ => ?_)
  · exact Keeps.refl
  · refine Keeps.andThen ?_ State.modSurf_keeps (by rfl)
    refine Keeps.andThen ?_ State.bump_keeps (by rfl)
    exact Keeps.refl

theorem State.latchLayers_keeps {s a1 a2 a3 a4} : KeepsL 17047564 s (State.latchLayers s a1 a2 a3 a4) := by
  unfold State.latchLayers
  extract_lets +onlyGivenNames -merge -useContext -underBinder v1
  extract_lets +onlyGivenNames -merge -useContext -underBinder v2
  extract_lets +onlyGivenNames -merge -useContext -underBinder v3
  extract_lets +onlyGivenNames -merge -useContext -underBinder v4
  extract_lets +onlyGivenNames -merge -useContext -underBinder v5
  extract_lets +onlyGivenNames -merge -useContext -underBinder v6
  have h6 : Keeps 17047564 s v6 := by
    unfold v6
    refine Keeps.foldl ?_ (fun t7 x7 h7 => ?_)
    · exact Keeps.refl
    · refine Keeps.andThen ?_ State.slotWait_keeps (by rfl)
      exact h7
  extract_lets +onlyGivenNames -merge -useContext -underBinder v8
  have h8 : Keeps 17047564 s v8 := by
    unfold v8
    refine Keeps.foldl ?_ (fun t9 x9 h9 => ?_)
    · exact h6
    · refine Keeps.andThen ?_ State.evtAt_keeps (by rfl)
      exact h9
  extract_lets +onlyGivenNames -merge -useContext -underBinder v10
  extract_lets +onlyGivenNames -merge -useContext -underBinder v11
  extract_lets +onlyGivenNames -merge -useContext -underBinder v12
  extract_lets +onlyGivenNames -merge -useContext -underBinder v13
  extract_lets +onlyGivenNames -merge -useContext -underBinder v14
  have h14 : Keeps 17047564 s v14 := by
    unfold v14
    refine Keeps.foldl ?_ (fun t15 x15 h15 => ?_)
    · exact h8
    · refine Keeps.andThen ?_ State.healthEvents_keeps (by rfl)
      exact h15
  extract_lets +onlyGivenNames -merge -useContext -underBinder v16
  have h16 : Keeps 17047564 s v16 := by
    unfold v16
    refine Keeps.foldl ?_ (fun t17 x17 h17 => ?_)
    · exact h14
    · refine Keeps.ite (fun _ => ?_) (fun _ => ?_)
      · exact h17
      · split
        · refine Keeps.ite (fun _ => ?_) (fun _ => ?_)
          · exact h17
          · refine Keeps.andThen ?_ State.startPull_keeps (by rfl)
            exact h17
        · exact h17
  refine KeepsL.mk ?_
  exact h16

theorem State.clean_keeps {s a1 a2} : Keeps 65536 s (State.clean s a1 a2) := by
  unfold State.clean
  refine Keeps.andThen ?_ (Keeps.tiles) (by rfl)
  exact Keeps.refl

theorem State.monDrop_keeps {s} : Keeps 131072 s (State.monDrop s) := by
  unfold State.monDrop
  refine Keeps.andThen ?_ (Keeps.net) (by rfl)
  exact Keeps.refl

theorem State.monLatch_keeps {s a1 a2} : Keeps 131076 s (State.monLatch s a1 a2) := by
  unfold State.monLatch
  refine Keeps.ite (fun _ => ?_) (fun _ => ?_)
  · exact Keeps.refl
  · extract_lets +onlyGivenNames -merge -useContext -underBinder v1
    split
    · extract_lets +onlyGivenNames -merge -useContext -underBinder v2
      extract_lets +onlyGivenNames -merge -useContext -underBinder v3
      extract_lets +onlyGivenNames -merge -useContext -underBinder v4
      extract_lets +onlyGivenNames -merge -useContext -underBinder v5
      have h5 : Keeps 131076 s v5 := by
        unfold v5
        refine Keeps.andThen ?_ (Keeps.net) (by rfl)
        exact Keeps.refl
      refine Keeps.ite (fun _ => ?_) (fun _ => ?_)
      · exact h5
      · refine Keeps.ite (fun _ => ?_) (fun _ => ?_)
        · refine Keeps.andThen ?_ State.bump_keeps (by rfl)
          exact h5
        · refine Keeps.andThen ?_ (Keeps.net) (by rfl)
          exact h5

theorem State.monFrame_keeps {s a1} : Keeps 131072 s (State.monFrame s a1) := by
  unfold State.monFrame
  refine Keeps.ite (fun _ => ?_) (fun _ => ?_)
  · exact Keeps.refl
  · extract_lets +onlyGivenNames -merge -useContext -underBinder v1
    refine Keeps.andThen ?_ (Keeps.net) (by rfl)
    exact Keeps.refl

theorem State.latePulls_keeps {s a1 a2} : Keeps 811020 s (State.latePulls s a1 a2) := by
  unfold State.latePulls
  refine Keeps.foldl ?_ (fun t1 x1 h1 => ?_)
  · exact Keeps.refl
  · split
    · refine Keeps.ite (fun _ => ?_) (fun _ => ?_)
      · refine Keeps.andThen ?_ State.failPull_keeps (by rfl)
        exact h1
      · exact h1
    · exact h1

theorem State.releaseBufs_keeps {s a1} : Keeps 131072 s (State.releaseBufs s a1) := by
  unfold State.releaseBufs
  refine Keeps.foldl ?_ (fun t1 x1 h1 => ?_)
  · exact Keeps.refl
  · split
    · refine Keeps.andThen ?_ State.freeBufs_keeps (by rfl)
      exact h1
    · exact h1

theorem State.latchView_keeps {s a1 a2 a3} : Keeps 19886092 s (State.latchView s a1 a2 a3) := by
  unfold State.latchView
  extract_lets +onlyGivenNames -merge -useContext -underBinder v1
  have h1 : Keeps 19886092 s v1 := by
    unfold v1
    refine Keeps.andThen ?_ State.latePulls_keeps (by rfl)
    exact Keeps.refl
  extract_lets +onlyGivenNames -merge -useContext -underBinder v2
  extract_lets +onlyGivenNames -merge -useContext -underBinder v3
  split
  · rename_i t4 y4_1 y4_2 e4
    have h4 : Keeps 19886092 s t4 := by
      refine Keeps.fst (e := _) ?_ e4
      clear_value v2
      split
      · refine KeepsL.andThen ?_ State.latchLayers_keeps (by rfl)
        exact h1
      · refine KeepsL.mk ?_
        exact h1
    extract_lets +onlyGivenNames -merge -useContext -underBinder v5
    split
    · rename_i t6 y6_1 y6_2 e6
      have h6 : Keeps 19886092 s t6 := by
        refine Keeps.fst (e := _) ?_ e6
        refine KeepsL.andThen ?_ State.latchLayers_keeps (by rfl)
        exact h4
      extract_lets +onlyGivenNames -merge -useContext -underBinder v7
      extract_lets +onlyGivenNames -merge -useContext -underBinder v8
      extract_lets +onlyGivenNames -merge -useContext -underBinder v9
      extract_lets +onlyGivenNames -merge -useContext -underBinder v10
      extract_lets +onlyGivenNames -merge -useContext -underBinder v11
      extract_lets +onlyGivenNames -merge -useContext -underBinder v12
      have h12 : Keeps 19886092 s v12 := by
        unfold v12
        refine Keeps.andThen ?_ State.modView_keeps (by rfl)
        refine Keeps.andThen ?_ State.clean_keeps (by rfl)
        exact h6
      extract_lets +onlyGivenNames -merge -useContext -underBinder v13
      have h13 : Keeps 19886092 s v13 := by
        unfold v13
        split
        · refine Keeps.andThen ?_ State.releaseBufs_keeps (by rfl)
          exact h12
        · exact h12
      extract_lets +onlyGivenNames -merge -useContext -underBinder v14
      have h14 : Keeps 19886092 s v14 := by
        unfold v14
        refine Keeps.andThen ?_ State.releaseBufs_keeps (by rfl)
        exact h13
      extract_lets +onlyGivenNames -merge -useContext -underBinder v15
      have h15 : Keeps 19886092 s v15 := by
        unfold v15
        refine Keeps.andThen ?_ State.monLatch_keeps (by rfl)
        exact h14
      refine Keeps.ite (fun _ => ?_) (fun _ => ?_)
      · refine Keeps.andThen ?_ State.monFrame_keeps (by rfl)
        refine Keeps.andThen ?_ State.recompute_keeps (by rfl)
        exact h15
      · exact h15

theorem State.storeCanvas_keeps {s a1 a2 a3 a4 a5} : Keeps 524288 s (State.storeCanvas s a1 a2 a3 a4 a5) := by
  unfold State.storeCanvas
  extract_lets +onlyGivenNames -merge -useContext -underBinder v1
  extract_lets +onlyGivenNames -merge -useContext -underBinder v2
  refine Keeps.andThen ?_ (Keeps.memBytes (by intro w; dsimp only; refine Sparse.foldl_wf _ _ (fun _ _ h => hbmWriteList_wf _ _ h) w) (by rfl)) (by rfl)
  exact Keeps.refl

theorem State.composed_keeps {s a1 a2 a3 a4} : Keeps 19607556 s (State.composed s a1 a2 a3 a4) := by
  unfold State.composed
  extract_lets +onlyGivenNames -merge -useContext -underBinder v1
  extract_lets +onlyGivenNames -merge -useContext -underBinder v2
  extract_lets +onlyGivenNames -merge -useContext -underBinder v3
  extract_lets +onlyGivenNames -merge -useContext -underBinder v4
  extract_lets +onlyGivenNames -merge -useContext -underBinder v5
  extract_lets +onlyGivenNames -merge -useContext -underBinder v6
  have h6 : Keeps 19607556 s v6 := by
    unfold v6
    refine Keeps.andThen ?_ State.storeCanvas_keeps (by rfl)
    exact Keeps.refl
  extract_lets +onlyGivenNames -merge -useContext -underBinder v7
  have h7 : Keeps 19607556 s v7 := by
    unfold v7
    refine Keeps.andThen ?_ State.modView_keeps (by rfl)
    exact h6
  refine Keeps.andThen ?_ State.monFrame_keeps (by rfl)
  refine Keeps.andThen ?_ State.releaseBufs_keeps (by rfl)
  refine Keeps.andThen ?_ State.recompute_keeps (by rfl)
  exact h7

theorem execViewComposeDone_keeps {a0 s} : Answers 19607556 s (execViewComposeDone a0 s) := by
  unfold execViewComposeDone
  split
  · refine Answers.ite (fun _ => ?_) (fun _ => ?_)
    · refine Answers.next ?_
      exact Keeps.refl
    · refine Answers.next ?_
      refine Keeps.andThen ?_ State.composed_keeps (by rfl)
      exact Keeps.refl
  · refine Answers.next ?_
    exact Keeps.refl

theorem State.formLate_keeps {s a1 a2 a3 a4 a5} : Keeps 77828 s (State.formLate s a1 a2 a3 a4 a5) := by
  unfold State.formLate
  extract_lets +onlyGivenNames -merge -useContext -underBinder v1
  extract_lets +onlyGivenNames -merge -useContext -underBinder v2
  extract_lets +onlyGivenNames -merge -useContext -underBinder v3
  extract_lets +onlyGivenNames -merge -useContext -underBinder v4
  have h4 : Keeps 77828 s v4 := by
    unfold v4
    refine Keeps.andThen ?_ State.modView_keeps (by rfl)
    exact Keeps.refl
  extract_lets +onlyGivenNames -merge -useContext -underBinder v5
  have h5 : Keeps 77828 s v5 := by
    unfold v5
    refine Keeps.foldl ?_ (fun t6 x6 h6 => ?_)
    · exact h4
    · refine Keeps.andThen ?_ State.recomputePair_keeps (by rfl)
      exact h6
  refine Keeps.andThen ?_ State.modView_keeps (by rfl)
  exact h5

theorem execBlockCorrectionDue_keeps {a0 a1 s} : Answers 1126412 s (execBlockCorrectionDue a0 a1 s) := by
  unfold execBlockCorrectionDue
  split
  · refine Answers.ite (fun _ => ?_) (fun _ => ?_)
    · refine Answers.next ?_
      exact Keeps.refl
    · extract_lets +onlyGivenNames -merge -useContext -underBinder v1
      extract_lets +onlyGivenNames -merge -useContext -underBinder v2
      have h2 : Keeps 1126412 s v2 := by
        unfold v2
        refine Keeps.andThen ?_ State.modView_keeps (by rfl)
        exact Keeps.refl
      extract_lets +onlyGivenNames -merge -useContext -underBinder v3
      have h3 : Keeps 1126412 s v3 := by
        unfold v3
        refine Keeps.andThen ?_ State.bump_keeps (by rfl)
        exact h2
      extract_lets +onlyGivenNames -merge -useContext -underBinder v4
      have h4 : Keeps 1126412 s v4 := by
        unfold v4
        refine Keeps.ite (fun _ => ?_) (fun _ => ?_)
        · exact h3
        · refine Keeps.andThen ?_ State.surge_keeps (by rfl)
          refine Keeps.andThen ?_ State.evtAt_keeps (by rfl)
          exact h3
      refine Answers.next ?_
      refine Keeps.andThen ?_ State.formLate_keeps (by rfl)
      exact h4
  · refine Answers.next ?_
    exact Keeps.refl

theorem State.monDry_keeps {s a1} : Keeps 1179660 s (State.monDry s a1) := by
  unfold State.monDry
  extract_lets +onlyGivenNames -merge -useContext -underBinder v1
  extract_lets +onlyGivenNames -merge -useContext -underBinder v2
  have h2 : Keeps 1179660 s v2 := by
    unfold v2
    refine Keeps.ite (fun _ => ?_) (fun _ => ?_)
    · exact Keeps.refl
    · refine Keeps.andThen ?_ State.bump_keeps (by rfl)
      exact Keeps.refl
  refine Keeps.andThen ?_ State.elasticLoss_keeps (by rfl)
  refine Keeps.andThen ?_ (Keeps.net) (by rfl)
  exact h2

theorem execMonitorPacketSend_keeps {s} : Answers 33012477 s (execMonitorPacketSend s) := by
  unfold execMonitorPacketSend
  extract_lets +onlyGivenNames -merge -useContext -underBinder v1
  split
  · refine Answers.next ?_
    exact Keeps.refl
  · refine Answers.ite (fun _ => ?_) (fun _ => ?_)
    · refine Answers.next ?_
      refine Keeps.andThen ?_ State.monDrop_keeps (by rfl)
      exact Keeps.refl
    · refine Answers.ite (fun _ => ?_) (fun _ => ?_)
      · refine Answers.next ?_
        exact Keeps.refl
      · refine Answers.ite (fun _ => ?_) (fun _ => ?_)
        · refine Answers.next ?_
          refine Keeps.andThen ?_ State.monDry_keeps (by rfl)
          show KeepsR 33012477 s _
          refine KeepsR.andThen ?_ State.draw_keeps (by rfl)
          exact Keeps.refl
        · extract_lets +onlyGivenNames -merge -useContext -underBinder v2
          have h2 : Keeps 33012477 s v2 := by
            unfold v2
            show KeepsR 33012477 s _
            refine KeepsR.andThen ?_ State.draw_keeps (by rfl)
            exact Keeps.refl
          extract_lets +onlyGivenNames -merge -useContext -underBinder v3
          extract_lets +onlyGivenNames -merge -useContext -underBinder v4
          extract_lets +onlyGivenNames -merge -useContext -underBinder v5
          extract_lets +onlyGivenNames -merge -useContext -underBinder v6
          refine Answers.next ?_
          refine Keeps.andThen ?_ State.udpSend_keeps (by rfl)
          refine Keeps.andThen ?_ (Keeps.net) (by rfl)
          exact h2

end Sys2Proof.Machine
end

