-- ==== Sys2Proof/Laws/KeepBoundary.lean ====
section
/-! SUPPORT. One lemma for each operation of Machine/Boundary.lean: the parts it may change, and that what must last lasts. -/

namespace Sys2Proof.Machine

theorem State.dropLatches_keeps {s} : Keeps 139264 s (State.dropLatches s) := by
  unfold State.dropLatches
  extract_lets +onlyGivenNames -merge -useContext -underBinder v1
  refine Keeps.andThen ?_ State.monDrop_keeps (by rfl)
  refine Keeps.andThen ?_ (Keeps.sc) (by rfl)
  exact Keeps.refl

theorem State.darkPlan_keeps {s a1 a2} : Keeps 208896 s (State.darkPlan s a1 a2) := by
  unfold State.darkPlan
  extract_lets +onlyGivenNames -merge -useContext -underBinder v1
  extract_lets +onlyGivenNames -merge -useContext -underBinder v2
  extract_lets +onlyGivenNames -merge -useContext -underBinder v3
  have h3 : Keeps 208896 s v3 := by
    unfold v3
    refine Keeps.andThen ?_ State.dropLatches_keeps (by rfl)
    refine Keeps.andThen ?_ (Keeps.tl) (by rfl)
    exact Keeps.refl
  refine Keeps.andThen ?_ (Keeps.tiles) (by rfl)
  exact h3

theorem State.litPlan_keeps {s a1} : Keeps 69632 s (State.litPlan s a1) := by
  unfold State.litPlan
  extract_lets +onlyGivenNames -merge -useContext -underBinder v1
  extract_lets +onlyGivenNames -merge -useContext -underBinder v2
  extract_lets +onlyGivenNames -merge -useContext -underBinder v3
  extract_lets +onlyGivenNames -merge -useContext -underBinder v4
  have h4 : Keeps 69632 s v4 := by
    unfold v4
    refine Keeps.andThen ?_ (Keeps.tl) (by rfl)
    exact Keeps.refl
  refine Keeps.andThen ?_ (Keeps.tiles) (by rfl)
  exact h4

theorem State.fadeViews_keeps {s} : Keeps 8192 s (State.fadeViews s) := by
  unfold State.fadeViews
  refine Keeps.ite (fun _ => ?_) (fun _ => ?_)
  · exact Keeps.refl
  · extract_lets +onlyGivenNames -merge -useContext -underBinder v1
    refine Keeps.andThen ?_ (Keeps.sc) (by rfl)
    exact Keeps.refl

theorem State.judgeRoom_keeps {s} : Keeps 4108 s (State.judgeRoom s) := by
  unfold State.judgeRoom
  extract_lets +onlyGivenNames -merge -useContext -underBinder v1
  extract_lets +onlyGivenNames -merge -useContext -underBinder v2
  extract_lets +onlyGivenNames -merge -useContext -underBinder v3
  have h3 : Keeps 4108 s v3 := by
    unfold v3
    refine Keeps.andThen ?_ (Keeps.tl) (by rfl)
    exact Keeps.refl
  refine Keeps.ite (fun _ => ?_) (fun _ => ?_)
  · refine Keeps.andThen ?_ State.ev_keeps (by rfl)
    exact h3
  · exact h3

theorem State.guardUntil_keeps {s a1} : Keeps 1048576 s (State.guardUntil s a1) := by
  unfold State.guardUntil
  refine Keeps.andThen ?_ (Keeps.fab) (by rfl)
  exact Keeps.refl

theorem State.takePlan_keeps {s a1 a2} : Keeps 25148157 s (State.takePlan s a1 a2) := by
  unfold State.takePlan
  extract_lets +onlyGivenNames -merge -useContext -underBinder v1
  extract_lets +onlyGivenNames -merge -useContext -underBinder v2
  have h2 : Keeps 25148157 s v2 := by
    unfold v2
    refine Keeps.andThen ?_ (Keeps.tl) (by rfl)
    exact Keeps.refl
  extract_lets +onlyGivenNames -merge -useContext -underBinder v3
  extract_lets +onlyGivenNames -merge -useContext -underBinder v4
  extract_lets +onlyGivenNames -merge -useContext -underBinder v5
  extract_lets +onlyGivenNames -merge -useContext -underBinder v6
  have h6 : Keeps 25148157 s v6 := by
    unfold v6
    refine Keeps.andThen ?_ State.ev_keeps (by rfl)
    exact h2
  extract_lets +onlyGivenNames -merge -useContext -underBinder v7
  have h7 : Keeps 25148157 s v7 := by
    unfold v7
    refine Keeps.ite (fun _ => ?_) (fun _ => ?_)
    · refine Keeps.andThen ?_ State.darkPlan_keeps (by rfl)
      exact h6
    · refine Keeps.andThen ?_ State.litPlan_keeps (by rfl)
      exact h6
  refine Keeps.andThen ?_ State.cuesChanged_keeps (by rfl)
  refine Keeps.andThen ?_ State.guardUntil_keeps (by rfl)
  refine Keeps.andThen ?_ State.judgeRoom_keeps (by rfl)
  refine Keeps.andThen ?_ State.fadeViews_keeps (by rfl)
  exact h7

theorem State.freshSources_keeps {s} : Keeps 401408 s (State.freshSources s) := by
  unfold State.freshSources
  extract_lets +onlyGivenNames -merge -useContext -underBinder v1
  extract_lets +onlyGivenNames -merge -useContext -underBinder v2
  extract_lets +onlyGivenNames -merge -useContext -underBinder v3
  refine Keeps.andThen ?_ (Keeps.sc_net_host) (by rfl)
  exact Keeps.refl

theorem State.stage5_keeps {s} : Keeps 64 s (State.stage5 s) := by
  unfold State.stage5
  refine Keeps.andThen ?_ (Keeps.boot (by rfl)) (by rfl)
  exact Keeps.refl

theorem State.takeFull_keeps {s a1} : Keeps 25164541 s (State.takeFull s a1) := by
  unfold State.takeFull
  extract_lets +onlyGivenNames -merge -useContext -underBinder v1
  extract_lets +onlyGivenNames -merge -useContext -underBinder v2
  have h2 : Keeps 25164541 s v2 := by
    unfold v2
    refine Keeps.andThen ?_ State.darkPlan_keeps (by rfl)
    refine Keeps.andThen ?_ State.latePulls_keeps (by rfl)
    exact Keeps.refl
  clear_value v2
  extract_lets +onlyGivenNames -merge -useContext -underBinder v3
  extract_lets +onlyGivenNames -merge -useContext -underBinder v4
  extract_lets +onlyGivenNames -merge -useContext -underBinder v5
  extract_lets +onlyGivenNames -merge -useContext -underBinder v6
  extract_lets +onlyGivenNames -merge -useContext -underBinder v7
  have h7 : Keeps 25164541 s v7 := by
    unfold v7
    refine Keeps.andThen ?_ (Keeps.boot_tl_sc (by rfl)) (by rfl)
    exact h2
  refine Keeps.andThen ?_ State.updGuard_keeps (by rfl)
  refine Keeps.andThen ?_ State.joins_keeps (by rfl)
  refine Keeps.andThen ?_ State.judgeRoom_keeps (by rfl)
  refine Keeps.andThen ?_ State.stage5_keeps (by rfl)
  refine Keeps.andThen ?_ State.freshSources_keeps (by rfl)
  exact h7

theorem State.takeLimp_keeps {s} : Keeps 208976 s (State.takeLimp s) := by
  unfold State.takeLimp
  extract_lets +onlyGivenNames -merge -useContext -underBinder old v1
  have h1 : Keeps 208976 s v1 := by
    unfold v1
    refine Keeps.andThen ?_ State.darkPlan_keeps (by rfl)
    exact Keeps.refl
  clear_value v1
  extract_lets +onlyGivenNames -merge -useContext -underBinder v2
  have h2 : Keeps 208976 s v2 := h1.andThen Keeps.tiles (by rfl)
  clear_value v2
  refine Keeps.andThen ?_ (Keeps.flt_boot_tl (by rfl)) (by rfl)
  exact h2


theorem State.stepAsks_keeps {s a1} : Keeps 4096 s (State.stepAsks s a1) := by
  unfold State.stepAsks
  extract_lets +onlyGivenNames -merge -useContext -underBinder v1
  extract_lets +onlyGivenNames -merge -useContext -underBinder v2
  have h2 : Keeps 4096 s v2 := by
    unfold v2
    refine Keeps.ite (fun _ => ?_) (fun _ => ?_)
    · refine Keeps.andThen ?_ (Keeps.tl) (by rfl)
      exact Keeps.refl
    · exact Keeps.refl
  refine Keeps.ite (fun _ => ?_) (fun _ => ?_)
  · refine Keeps.andThen ?_ (Keeps.tl) (by rfl)
    exact h2
  · exact h2

theorem State.takeStep_keeps {s a1 a2} : Keeps 25148157 s (State.takeStep s a1 a2) := by
  unfold State.takeStep
  extract_lets +onlyGivenNames -merge -useContext -underBinder v1
  have h1 : Keeps 25148157 s v1 := by
    unfold v1
    refine Keeps.andThen ?_ State.applyStep_keeps (by rfl)
    exact Keeps.refl
  extract_lets +onlyGivenNames -merge -useContext -underBinder v2
  extract_lets +onlyGivenNames -merge -useContext -underBinder v3
  extract_lets +onlyGivenNames -merge -useContext -underBinder v4
  have h4 : Keeps 25148157 s v4 := by
    unfold v4
    refine Keeps.andThen ?_ State.dropProbes_keeps (by rfl)
    refine Keeps.andThen ?_ State.dropLatches_keeps (by rfl)
    refine Keeps.andThen ?_ (Keeps.tl) (by rfl)
    exact h1
  extract_lets +onlyGivenNames -merge -useContext -underBinder v5
  have h5 : Keeps 25148157 s v5 := by
    unfold v5
    refine Keeps.andThen ?_ (Keeps.tiles) (by rfl)
    exact h4
  extract_lets +onlyGivenNames -merge -useContext -underBinder v6
  have h6 : Keeps 25148157 s v6 := by
    unfold v6
    refine Keeps.foldl ?_ (fun t7 x7 h7 => ?_)
    · exact h5
    · refine Keeps.andThen ?_ State.consider_keeps (by rfl)
      exact h7
  refine Keeps.andThen ?_ State.placeHeld_keeps (by rfl)
  refine Keeps.andThen ?_ State.stepAsks_keeps (by rfl)
  refine Keeps.andThen ?_ State.guardUntil_keeps (by rfl)
  exact h6

theorem State.lapChange_keeps {s a1} : KeepsL 25164541 s (State.lapChange s a1) := by
  unfold State.lapChange
  split
  · refine KeepsL.mk ?_
    exact Keeps.refl
  · extract_lets +onlyGivenNames -merge -useContext -underBinder v1
    extract_lets +onlyGivenNames -merge -useContext -underBinder v2
    extract_lets +onlyGivenNames -merge -useContext -underBinder v3
    extract_lets +onlyGivenNames -merge -useContext -underBinder v4
    extract_lets +onlyGivenNames -merge -useContext -underBinder v5
    have h5 : Keeps 25164541 s v5 := by
      unfold v5
      refine Keeps.andThen ?_ (Keeps.tl) (by rfl)
      exact Keeps.refl
    refine KeepsL.ite (fun _ => ?_) (fun _ => ?_)
    · refine KeepsL.mk ?_
      refine Keeps.andThen ?_ State.takeStep_keeps (by rfl)
      exact h5
    · extract_lets +onlyGivenNames -merge -useContext -underBinder v6
      extract_lets +onlyGivenNames -merge -useContext -underBinder v7
      have h7 : Keeps 25164541 s v7 := by
        unfold v7
        refine Keeps.ite (fun _ => ?_) (fun _ => ?_)
        · refine Keeps.andThen ?_ State.ev_keeps (by rfl)
          refine Keeps.andThen ?_ (Keeps.tb) (by rfl)
          exact h5
        · exact h5
      refine KeepsL.mk ?_
      refine Keeps.andThen ?_ State.placeHeld_keeps (by rfl)
      refine Keeps.andThen ?_ State.stepAsks_keeps (by rfl)
      exact h7
  · refine KeepsL.mk ?_
    refine Keeps.andThen ?_ State.acceptHeld_keeps (by rfl)
    refine Keeps.andThen ?_ State.placeHeld_keeps (by rfl)
    refine Keeps.andThen ?_ State.takeFull_keeps (by rfl)
    exact Keeps.refl
  · refine KeepsL.mk ?_
    refine Keeps.andThen ?_ State.acceptHeld_keeps (by rfl)
    refine Keeps.andThen ?_ State.placeHeld_keeps (by rfl)
    refine Keeps.andThen ?_ State.takeLimp_keeps (by rfl)
    exact Keeps.refl
  · split
    · refine KeepsL.mk ?_
      refine Keeps.andThen ?_ State.acceptHeld_keeps (by rfl)
      refine Keeps.andThen ?_ State.placeHeld_keeps (by rfl)
      refine Keeps.andThen ?_ State.takePlan_keeps (by rfl)
      exact Keeps.refl
    · refine KeepsL.mk ?_
      exact Keeps.refl

theorem State.newLayers_keeps {s a1} : Keeps 8192 s (State.newLayers s a1) := by
  unfold State.newLayers
  extract_lets +onlyGivenNames -merge -useContext -underBinder v1
  refine Keeps.andThen ?_ (Keeps.sc) (by rfl)
  exact Keeps.refl

theorem State.takeScene_keeps {s a1 a2} : Keeps 1056780 s (State.takeScene s a1 a2) := by
  unfold State.takeScene
  extract_lets +onlyGivenNames -merge -useContext -underBinder v1
  have h1 : Keeps 1056780 s v1 := by
    unfold v1
    split
    · refine Keeps.andThen ?_ State.endFade_keeps (by rfl)
      refine Keeps.andThen ?_ State.ev_keeps (by rfl)
      exact Keeps.refl
    · exact Keeps.refl
  extract_lets +onlyGivenNames -merge -useContext -underBinder v2
  extract_lets +onlyGivenNames -merge -useContext -underBinder v3
  extract_lets +onlyGivenNames -merge -useContext -underBinder v4
  extract_lets +onlyGivenNames -merge -useContext -underBinder v5
  have h5 : Keeps 1056780 s v5 := by
    unfold v5
    refine Keeps.andThen ?_ State.ev_keeps (by rfl)
    exact h1
  refine Keeps.ite (fun _ => ?_) (fun _ => ?_)
  · exact h5
  · extract_lets +onlyGivenNames -merge -useContext -underBinder v6
    extract_lets +onlyGivenNames -merge -useContext -underBinder v7
    extract_lets +onlyGivenNames -merge -useContext -underBinder v8
    have h8 : Keeps 1056780 s v8 := by
      unfold v8
      refine Keeps.ite (fun _ => ?_) (fun _ => ?_)
      · refine Keeps.andThen ?_ State.fadeViews_keeps (by rfl)
        refine Keeps.andThen ?_ State.newLayers_keeps (by rfl)
        refine Keeps.andThen ?_ (Keeps.sc) (by rfl)
        exact h5
      · refine Keeps.andThen ?_ State.newLayers_keeps (by rfl)
        refine Keeps.andThen ?_ (Keeps.sc) (by rfl)
        exact h5
    refine Keeps.andThen ?_ State.guardUntil_keeps (by rfl)
    exact h8

theorem State.takeMirrored_keeps {s a1} : Keeps 2109440 s (State.takeMirrored s a1) := by
  unfold State.takeMirrored
  extract_lets +onlyGivenNames -merge -useContext -underBinder v1
  extract_lets +onlyGivenNames -merge -useContext -underBinder v2
  refine Keeps.ite (fun _ => ?_) (fun _ => ?_)
  · exact Keeps.refl
  · extract_lets +onlyGivenNames -merge -useContext -underBinder v3
    extract_lets +onlyGivenNames -merge -useContext -underBinder v4
    extract_lets +onlyGivenNames -merge -useContext -underBinder v5
    extract_lets +onlyGivenNames -merge -useContext -underBinder v6
    have h6 : Keeps 2109440 s v6 := by
      unfold v6
      refine Keeps.andThen ?_ (Keeps.sc_rl) (by rfl)
      exact Keeps.refl
    split
    · refine Keeps.ite (fun _ => ?_) (fun _ => ?_)
      · exact h6
      · refine Keeps.andThen ?_ State.placePlan_keeps (by rfl)
        exact h6
    · exact h6

theorem State.cuesAt_keeps {s a1 a2} : Keeps 25148157 s (State.cuesAt s a1 a2) := by
  unfold State.cuesAt
  refine Keeps.ite (fun _ => ?_) (fun _ => ?_)
  · exact Keeps.refl
  · extract_lets +onlyGivenNames -merge -useContext -underBinder v1
    have h1 : Keeps 25148157 s v1 := by
      unfold v1
      split
      · refine Keeps.ite (fun _ => ?_) (fun _ => ?_)
        · refine Keeps.andThen ?_ State.joins_keeps (by rfl)
          refine Keeps.andThen ?_ State.endFade_keeps (by rfl)
          exact Keeps.refl
        · exact Keeps.refl
      · exact Keeps.refl
    extract_lets +onlyGivenNames -merge -useContext -underBinder v2
    have h2 : Keeps 25148157 s v2 := by
      unfold v2
      refine Keeps.andThen ?_ State.takeMirrored_keeps (by rfl)
      exact h1
    extract_lets +onlyGivenNames -merge -useContext -underBinder v3
    split
    · exact h2
    · extract_lets +onlyGivenNames -merge -useContext -underBinder v4
      extract_lets +onlyGivenNames -merge -useContext -underBinder v5
      have h5 : Keeps 25148157 s v5 := by
        unfold v5
        refine Keeps.andThen ?_ (Keeps.sc) (by rfl)
        exact h2
      extract_lets +onlyGivenNames -merge -useContext -underBinder v6
      have h6 : Keeps 25148157 s v6 := by
        unfold v6
        refine Keeps.foldl ?_ (fun t7 x7 h7 => ?_)
        · exact h5
        · refine Keeps.andThen ?_ State.ev_keeps (by rfl)
          exact h7
      refine Keeps.andThen ?_ State.cuesChanged_keeps (by rfl)
      refine Keeps.andThen ?_ State.takeScene_keeps (by rfl)
      exact h6

theorem State.applyMirror_keeps {s a1} : Keeps 18972672 s (State.applyMirror s a1) := by
  unfold State.applyMirror
  split
  · exact Keeps.refl
  · split
    · refine Keeps.andThen ?_ State.modTile_keeps (by rfl)
      exact Keeps.refl
    · refine Keeps.andThen ?_ State.modTile_keeps (by rfl)
      exact Keeps.refl
    · split
      · refine Keeps.andThen ?_ State.flushTile_keeps (by rfl)
        exact Keeps.refl
      · exact Keeps.refl

theorem State.applyMirrors_keeps {s a1 a2 a3} : Keeps 18972672 s (State.applyMirrors s a1 a2 a3) := by
  unfold State.applyMirrors
  extract_lets +onlyGivenNames -merge -useContext -underBinder v1
  extract_lets +onlyGivenNames -merge -useContext -underBinder v2
  extract_lets +onlyGivenNames -merge -useContext -underBinder v3
  extract_lets +onlyGivenNames -merge -useContext -underBinder v4
  have h4 : Keeps 18972672 s v4 := by
    unfold v4
    refine Keeps.andThen ?_ (Keeps.rl) (by rfl)
    exact Keeps.refl
  refine Keeps.foldl ?_ (fun t5 x5 h5 => ?_)
  · exact h4
  · refine Keeps.andThen ?_ State.applyMirror_keeps (by rfl)
    exact h5

theorem State.forceDriven_keeps {s} : Keeps 65536 s (State.forceDriven s) := by
  unfold State.forceDriven
  refine Keeps.andThen ?_ (Keeps.tiles) (by rfl)
  exact Keeps.refl

theorem State.holdEntry_keeps {s} : Keeps 28 s (State.holdEntry s) := by
  unfold State.holdEntry
  refine Keeps.ite (fun _ => ?_) (fun _ => ?_)
  · exact Keeps.refl
  · refine Keeps.andThen ?_ State.ev_keeps (by rfl)
    refine Keeps.andThen ?_ (Keeps.flt) (by rfl)
    exact Keeps.refl

theorem State.holdLap_keeps {s} : Keeps 98332 s (State.holdLap s) := by
  unfold State.holdLap
  split
  · exact Keeps.refl
  · refine Keeps.andThen ?_ State.ev_keeps (by rfl)
    refine Keeps.andThen ?_ (Keeps.flt) (by rfl)
    exact Keeps.refl
  · refine Keeps.andThen ?_ State.holdEnterAll_keeps (by rfl)
    exact Keeps.refl
  · refine Keeps.ite (fun _ => ?_) (fun _ => ?_)
    · extract_lets +onlyGivenNames -merge -useContext -underBinder v1
      have h1 : Keeps 98332 s v1 := by
        unfold v1
        refine Keeps.andThen ?_ State.holdDark_keeps (by rfl)
        exact Keeps.refl
      refine Keeps.andThen ?_ State.forceDriven_keeps (by rfl)
      refine Keeps.andThen ?_ State.holdLeaveAll_keeps (by rfl)
      refine Keeps.andThen ?_ (Keeps.flt) (by rfl)
      exact h1
    · refine Keeps.andThen ?_ State.holdEnterAll_keeps (by rfl)
      exact Keeps.refl

theorem State.flushLap_keeps {s a1} : Keeps 18976768 s (State.flushLap s a1) := by
  unfold State.flushLap
  extract_lets +onlyGivenNames -merge -useContext -underBinder v1
  extract_lets +onlyGivenNames -merge -useContext -underBinder v2
  extract_lets +onlyGivenNames -merge -useContext -underBinder v3
  have h3 : Keeps 18976768 s v3 := by
    unfold v3
    refine Keeps.andThen ?_ (Keeps.tl) (by rfl)
    exact Keeps.refl
  split
  · exact h3
  · refine Keeps.foldl ?_ (fun t4 x4 h4 => ?_)
    · exact h3
    · refine Keeps.andThen ?_ State.flushTile_keeps (by rfl)
      exact h4

theorem State.trimLap_keeps {s a1} : Keeps 18944012 s (State.trimLap s a1) := by
  unfold State.trimLap
  extract_lets +onlyGivenNames -merge -useContext -underBinder v1
  refine Keeps.ite (fun _ => ?_) (fun _ => ?_)
  · exact Keeps.refl
  · extract_lets +onlyGivenNames -merge -useContext -underBinder v2
    extract_lets +onlyGivenNames -merge -useContext -underBinder v3
    have h3 : Keeps 18944012 s v3 := by
      unfold v3
      refine Keeps.andThen ?_ (Keeps.tl) (by rfl)
      exact Keeps.refl
    refine Keeps.foldl ?_ (fun t4 x4 h4 => ?_)
    · exact h3
    · split
      · refine Keeps.andThen ?_ State.trimTile_keeps (by rfl)
        exact h4
      · exact h4

theorem State.countLap_keeps {s} : Keeps 4096 s (State.countLap s) := by
  unfold State.countLap
  extract_lets +onlyGivenNames -merge -useContext -underBinder v1
  refine Keeps.andThen ?_ (Keeps.tl) (by rfl)
  exact Keeps.refl

theorem State.tempLap_keeps {s} : Keeps 18939916 s (State.tempLap s) := by
  unfold State.tempLap
  refine Keeps.foldl ?_ (fun t1 x1 h1 => ?_)
  · exact Keeps.refl
  · extract_lets +onlyGivenNames -merge -useContext -underBinder v2
    have h2 : Keeps 18939916 s v2 := by
      unfold v2
      split
      · refine Keeps.andThen ?_ State.applyTemp_keeps (by rfl)
        exact h1
      · exact h1
    split
    · refine Keeps.andThen ?_ State.derate_keeps (by rfl)
      exact h2
    · exact h2

theorem State.stopLap_keeps {s} : Keeps 16809984 s (State.stopLap s) := by
  unfold State.stopLap
  refine Keeps.foldl ?_ (fun t1 x1 h1 => ?_)
  · exact Keeps.refl
  · refine Keeps.andThen ?_ State.modPort_keeps (by rfl)
    refine Keeps.andThen ?_ State.stopClock_keeps (by rfl)
    exact h1

theorem State.uncondLap_keeps {s} : Keeps 32768 s (State.uncondLap s) := by
  unfold State.uncondLap
  extract_lets +onlyGivenNames -merge -useContext -underBinder v1
  refine Keeps.foldl ?_ (fun t2 x2 h2 => ?_)
  · exact Keeps.refl
  · refine Keeps.andThen ?_ State.modPort_keeps (by rfl)
    exact h2

theorem State.warmShow_keeps {s a1} : Keeps 16396 s (State.warmShow s a1) := by
  unfold State.warmShow
  refine Keeps.ite (fun _ => ?_) (fun _ => ?_)
  · exact Keeps.refl
  · refine Keeps.andThen ?_ State.ev_keeps (by rfl)
    refine Keeps.andThen ?_ (Keeps.warm) (by rfl)
    exact Keeps.refl

theorem State.warmChoose_keeps {s} : Keeps 16396 s (State.warmChoose s) := by
  unfold State.warmChoose
  extract_lets +onlyGivenNames -merge -useContext -underBinder v1
  refine Keeps.ite (fun _ => ?_) (fun _ => ?_)
  · refine Keeps.ite (fun _ => ?_) (fun _ => ?_)
    · refine Keeps.andThen ?_ State.warmShow_keeps (by rfl)
      refine Keeps.andThen ?_ (Keeps.warm) (by rfl)
      exact Keeps.refl
    · refine Keeps.ite (fun _ => ?_) (fun _ => ?_)
      · refine Keeps.andThen ?_ State.warmShow_keeps (by rfl)
        refine Keeps.andThen ?_ (Keeps.warm) (by rfl)
        exact Keeps.refl
      · exact Keeps.refl
  · split
    · refine Keeps.andThen ?_ State.warmShow_keeps (by rfl)
      refine Keeps.andThen ?_ (Keeps.warm) (by rfl)
      exact Keeps.refl
    · refine Keeps.ite (fun _ => ?_) (fun _ => ?_)
      · exact Keeps.refl
      · refine Keeps.andThen ?_ State.warmShow_keeps (by rfl)
        refine Keeps.andThen ?_ (Keeps.warm) (by rfl)
        exact Keeps.refl

theorem State.warmPull_keeps {s} : Keeps 17047552 s (State.warmPull s) := by
  unfold State.warmPull
  extract_lets +onlyGivenNames -merge -useContext -underBinder v1
  extract_lets +onlyGivenNames -merge -useContext -underBinder v2
  split
  · refine Keeps.ite (fun _ => ?_) (fun _ => ?_)
    · refine Keeps.andThen ?_ State.startPull_keeps (by rfl)
      exact Keeps.refl
    · exact Keeps.refl
  · exact Keeps.refl

theorem State.warmLatch_keeps {s} : Keeps 17653836 s (State.warmLatch s) := by
  unfold State.warmLatch
  extract_lets +onlyGivenNames -merge -useContext -underBinder v1
  extract_lets +onlyGivenNames -merge -useContext -underBinder v2
  have h2 : Keeps 17653836 s v2 := by
    unfold v2
    refine Keeps.andThen ?_ (Keeps.boot (by rfl)) (by rfl)
    exact Keeps.refl
  extract_lets +onlyGivenNames -merge -useContext -underBinder v3
  have h3 : Keeps 17653836 s v3 := by
    unfold v3
    refine Keeps.andThen ?_ State.warmChoose_keeps (by rfl)
    refine Keeps.andThen ?_ State.warmPull_keeps (by rfl)
    refine Keeps.andThen ?_ State.latePulls_keeps (by rfl)
    exact h2
  extract_lets +onlyGivenNames -merge -useContext -underBinder v4
  refine Keeps.foldl ?_ (fun t5 x5 h5 => ?_)
  · exact h3
  · refine Keeps.andThen ?_ State.warmTile_keeps (by rfl)
    exact h5

theorem State.lapActions_keeps {s a1 a2} : Keeps 20025356 s (State.lapActions s a1 a2) := by
  unfold State.lapActions
  extract_lets +onlyGivenNames -merge -useContext -underBinder v1
  have h1 : Keeps 20025356 s v1 := by
    unfold v1
    refine Keeps.andThen ?_ State.countLap_keeps (by rfl)
    refine Keeps.andThen ?_ State.tempLap_keeps (by rfl)
    exact Keeps.refl
  extract_lets +onlyGivenNames -merge -useContext -underBinder v2
  have h2 : Keeps 20025356 s v2 := by
    unfold v2
    refine Keeps.andThen ?_ State.trimLap_keeps (by rfl)
    refine Keeps.andThen ?_ State.flushLap_keeps (by rfl)
    refine Keeps.andThen ?_ State.applyMirrors_keeps (by rfl)
    exact h1
  extract_lets +onlyGivenNames -merge -useContext -underBinder v3
  extract_lets +onlyGivenNames -merge -useContext -underBinder v4
  have h4 : Keeps 20025356 s v4 := by
    unfold v4
    refine Keeps.andThen ?_ (Keeps.tl) (by rfl)
    exact h2
  extract_lets +onlyGivenNames -merge -useContext -underBinder v5
  have h5 : Keeps 20025356 s v5 := by
    unfold v5
    refine Keeps.ite (fun _ => ?_) (fun _ => ?_)
    · refine Keeps.andThen ?_ State.probeLap_keeps (by rfl)
      exact h4
    · refine Keeps.andThen ?_ State.recheckAge_keeps (by rfl)
      refine Keeps.andThen ?_ State.probesAge_keeps (by rfl)
      exact h1
  refine Keeps.andThen ?_ State.uncondLap_keeps (by rfl)
  refine Keeps.andThen ?_ State.stopLap_keeps (by rfl)
  refine Keeps.andThen ?_ State.updGuard_keeps (by rfl)
  refine Keeps.andThen ?_ State.pacerLap_keeps (by rfl)
  exact h5

theorem State.goOn_keeps {s a1 a2} : Keeps 4096 s (State.goOn s a1 a2) := by
  unfold State.goOn
  extract_lets +onlyGivenNames -merge -useContext -underBinder v1
  extract_lets +onlyGivenNames -merge -useContext -underBinder v2
  extract_lets +onlyGivenNames -merge -useContext -underBinder v3
  extract_lets +onlyGivenNames -merge -useContext -underBinder v4
  have h4 : Keeps 4096 s v4 := by
    unfold v4
    refine Keeps.andThen ?_ (Keeps.tl) (by rfl)
    exact Keeps.refl
  extract_lets +onlyGivenNames -merge -useContext -underBinder v5
  extract_lets +onlyGivenNames -merge -useContext -underBinder v6
  refine Keeps.ite (fun _ => ?_) (fun _ => ?_)
  · exact h4
  · refine Keeps.andThen ?_ State.queuePulses_keeps (by rfl)
    exact h4

theorem State.legLatch_keeps {s a1 a2 a3} : Keeps 19918924 s (State.legLatch s a1 a2 a3) := by
  unfold State.legLatch
  refine Keeps.ite (fun _ => ?_) (fun _ => ?_)
  · refine Keeps.andThen ?_ State.latchView_keeps (by rfl)
    refine Keeps.andThen ?_ State.applyMirrors_keeps (by rfl)
    exact Keeps.refl
  · refine Keeps.ite (fun _ => ?_) (fun _ => ?_)
    · refine Keeps.andThen ?_ State.warmLatch_keeps (by rfl)
      exact Keeps.refl
    · exact Keeps.refl

theorem State.lapLeg_keeps {s a1 a2 a3} : Keeps 25164541 s (State.lapLeg s a1 a2 a3) := by
  unfold State.lapLeg
  extract_lets +onlyGivenNames -merge -useContext -underBinder v1
  extract_lets +onlyGivenNames -merge -useContext -underBinder v2
  have h2 : Keeps 25164541 s v2 := by
    unfold v2
    refine Keeps.andThen ?_ (Keeps.tl) (by rfl)
    exact Keeps.refl
  extract_lets +onlyGivenNames -merge -useContext -underBinder v3
  have h3 : Keeps 25164541 s v3 := by
    unfold v3
    refine Keeps.andThen ?_ State.legLatch_keeps (by rfl)
    refine Keeps.andThen ?_ State.cuesAt_keeps (by rfl)
    refine Keeps.andThen ?_ State.holdLap_keeps (by rfl)
    exact h2
  refine Keeps.andThen ?_ State.goOn_keeps (by rfl)
  refine Keeps.andThen ?_ State.lapActions_keeps (by rfl)
  exact h3

theorem State.raiseSeq_keeps {s} : Keeps 4096 s (State.raiseSeq s) := by
  unfold State.raiseSeq
  refine Keeps.ite (fun _ => ?_) (fun _ => ?_)
  · refine Keeps.andThen ?_ (Keeps.tl) (by rfl)
    exact Keeps.refl
  · exact Keeps.refl

theorem State.legsAfter_keeps {s a1} : Keeps 19918924 s (State.legsAfter s a1) := by
  unfold State.legsAfter
  extract_lets +onlyGivenNames -merge -useContext -underBinder v1
  extract_lets +onlyGivenNames -merge -useContext -underBinder v2
  refine Keeps.ite (fun _ => ?_) (fun _ => ?_)
  · extract_lets +onlyGivenNames -merge -useContext -underBinder v3
    extract_lets +onlyGivenNames -merge -useContext -underBinder v4
    extract_lets +onlyGivenNames -merge -useContext -underBinder v5
    have h5 : Keeps 19918924 s v5 := by
      unfold v5
      refine Keeps.andThen ?_ (Keeps.tl) (by rfl)
      exact Keeps.refl
    refine Keeps.andThen ?_ State.goOn_keeps (by rfl)
    refine Keeps.andThen ?_ State.legLatch_keeps (by rfl)
    exact h5
  · refine Keeps.andThen ?_ State.goOn_keeps (by rfl)
    exact Keeps.refl

theorem State.lapBoundary_keeps {s a1 a2} : Keeps 25164541 s (State.lapBoundary s a1 a2) := by
  unfold State.lapBoundary
  extract_lets +onlyGivenNames -merge -useContext -underBinder v1
  extract_lets +onlyGivenNames -merge -useContext -underBinder v2
  have h2 : Keeps 25164541 s v2 := by
    unfold v2
    refine Keeps.ite (fun _ => ?_) (fun _ => ?_)
    · refine Keeps.andThen ?_ (Keeps.tl) (by rfl)
      exact Keeps.refl
    · exact Keeps.refl
  extract_lets +onlyGivenNames -merge -useContext -underBinder v3
  extract_lets +onlyGivenNames -merge -useContext -underBinder v4
  have h4 : Keeps 25164541 s v4 := by
    unfold v4
    refine Keeps.andThen ?_ (Keeps.tl) (by rfl)
    exact h2
  extract_lets +onlyGivenNames -merge -useContext -underBinder v5
  have h5 : Keeps 25164541 s v5 := by
    unfold v5
    refine Keeps.andThen ?_ State.cuesAt_keeps (by rfl)
    exact h4
  split
  · rename_i t6 e6
    have h6 : Keeps 25164541 s t6 := by
      refine Keeps.fst (e := _) ?_ e6
      refine KeepsL.andThen ?_ State.lapChange_keeps (by rfl)
      exact h5
    refine Keeps.andThen ?_ State.lapLeg_keeps (by rfl)
    exact h6
  · rename_i t7 y7_1 y7_2 e7
    have h7 : Keeps 25164541 s t7 := by
      refine Keeps.fst (e := _) ?_ e7
      refine KeepsL.andThen ?_ State.lapChange_keeps (by rfl)
      exact h5
    extract_lets +onlyGivenNames -merge -useContext -underBinder v8
    extract_lets +onlyGivenNames -merge -useContext -underBinder v9
    refine Keeps.ite (fun _ => ?_) (fun _ => ?_)
    · refine Keeps.andThen ?_ State.lapLeg_keeps (by rfl)
      refine Keeps.andThen ?_ (Keeps.tl) (by rfl)
      exact h7
    · extract_lets +onlyGivenNames -merge -useContext -underBinder v10
      extract_lets +onlyGivenNames -merge -useContext -underBinder v11
      have h11 : Keeps 25164541 s v11 := by
        unfold v11
        refine Keeps.andThen ?_ State.monDrop_keeps (by rfl)
        refine Keeps.andThen ?_ (Keeps.tl) (by rfl)
        exact h7
      extract_lets +onlyGivenNames -merge -useContext -underBinder v12
      have h12 : Keeps 25164541 s v12 := by
        unfold v12
        refine Keeps.andThen ?_ State.lapActions_keeps (by rfl)
        refine Keeps.andThen ?_ State.holdLap_keeps (by rfl)
        exact h11
      refine Keeps.ite (fun _ => ?_) (fun _ => ?_)
      · refine Keeps.andThen ?_ State.legsAfter_keeps (by rfl)
        exact h12
      · refine Keeps.andThen ?_ State.goOn_keeps (by rfl)
        exact h12

theorem State.boundary_keeps {s} : Keeps 25164541 s (State.boundary s) := by
  unfold State.boundary
  extract_lets +onlyGivenNames -merge -useContext -underBinder v1
  extract_lets +onlyGivenNames -merge -useContext -underBinder v2
  extract_lets +onlyGivenNames -merge -useContext -underBinder v3
  extract_lets +onlyGivenNames -merge -useContext -underBinder v4
  extract_lets +onlyGivenNames -merge -useContext -underBinder v5
  extract_lets +onlyGivenNames -merge -useContext -underBinder v6
  have h6 : Keeps 25164541 s v6 := by
    unfold v6
    refine Keeps.andThen ?_ State.holdEntry_keeps (by rfl)
    refine Keeps.andThen ?_ State.raiseSeq_keeps (by rfl)
    refine Keeps.andThen ?_ (Keeps.tl) (by rfl)
    exact Keeps.refl
  refine Keeps.ite (fun _ => ?_) (fun _ => ?_)
  · refine Keeps.andThen ?_ State.lapBoundary_keeps (by rfl)
    exact h6
  · extract_lets +onlyGivenNames -merge -useContext -underBinder v7
    extract_lets +onlyGivenNames -merge -useContext -underBinder v8
    have h8 : Keeps 25164541 s v8 := by
      unfold v8
      refine Keeps.andThen ?_ (Keeps.tl) (by rfl)
      exact h6
    refine Keeps.andThen ?_ State.goOn_keeps (by rfl)
    refine Keeps.andThen ?_ State.legLatch_keeps (by rfl)
    exact h8

theorem execLegBoundary_keeps {s} : Answers 25164541 s (execLegBoundary s) := by
  unfold execLegBoundary
  refine Answers.ite (fun _ => ?_) (fun _ => ?_)
  · refine Answers.next ?_
    exact Keeps.refl
  · refine Answers.next ?_
    refine Keeps.andThen ?_ State.boundary_keeps (by rfl)
    exact Keeps.refl

theorem State.beginPulse_keeps {s a1} : Keeps 20975616 s (State.beginPulse s a1) := by
  unfold State.beginPulse
  extract_lets +onlyGivenNames -merge -useContext -underBinder v1
  extract_lets +onlyGivenNames -merge -useContext -underBinder v2
  extract_lets +onlyGivenNames -merge -useContext -underBinder v3
  extract_lets +onlyGivenNames -merge -useContext -underBinder v4
  refine Keeps.ite (fun _ => ?_) (fun _ => ?_)
  · refine Keeps.andThen ?_ (Keeps.tl) (by rfl)
    exact Keeps.refl
  · refine Keeps.andThen ?_ State.drivePin_keeps (by rfl)
    refine Keeps.andThen ?_ (Keeps.tl) (by rfl)
    exact Keeps.refl

theorem execPinPulseStart_keeps {a0 s} : Answers 20975616 s (execPinPulseStart a0 s) := by
  unfold execPinPulseStart
  split
  · refine Answers.next ?_
    refine Keeps.andThen ?_ State.beginPulse_keeps (by rfl)
    exact Keeps.refl
  · refine Answers.next ?_
    exact Keeps.refl

theorem execPinPulseEnd_keeps {a0 s} : Answers 20975616 s (execPinPulseEnd a0 s) := by
  unfold execPinPulseEnd
  split
  · refine Answers.ite (fun _ => ?_) (fun _ => ?_)
    · refine Answers.next ?_
      exact Keeps.refl
    · refine Answers.next ?_
      refine Keeps.andThen ?_ State.drivePin_keeps (by rfl)
      refine Keeps.andThen ?_ (Keeps.tl) (by rfl)
      exact Keeps.refl
  · refine Answers.next ?_
    exact Keeps.refl

theorem execLapFrameSend_keeps {a0 s} : Answers 32768 s (execLapFrameSend a0 s) := by
  unfold execLapFrameSend
  extract_lets +onlyGivenNames -merge -useContext -underBinder v1
  refine Answers.ite (fun _ => ?_) (fun _ => ?_)
  · refine Answers.next ?_
    exact Keeps.refl
  · split
    · refine Answers.next ?_
      exact Keeps.refl
    · refine Answers.ite (fun _ => ?_) (fun _ => ?_)
      · refine Answers.next ?_
        refine Keeps.andThen ?_ State.modPort_keeps (by rfl)
        refine Keeps.andThen ?_ State.queueFrame_keeps (by rfl)
        exact Keeps.refl
      · refine Answers.next ?_
        exact Keeps.refl

theorem State.missPair_keeps {s a1 a2 a3} : Keeps 1122316 s (State.missPair s a1 a2 a3) := by
  unfold State.missPair
  extract_lets +onlyGivenNames -merge -useContext -underBinder v1
  extract_lets +onlyGivenNames -merge -useContext -underBinder v2
  have h2 : Keeps 1122316 s v2 := by
    unfold v2
    refine Keeps.andThen ?_ State.modTile_keeps (by rfl)
    exact Keeps.refl
  extract_lets +onlyGivenNames -merge -useContext -underBinder v3
  extract_lets +onlyGivenNames -merge -useContext -underBinder v4
  extract_lets +onlyGivenNames -merge -useContext -underBinder v5
  have h5 : Keeps 1122316 s v5 := by
    unfold v5
    refine Keeps.andThen ?_ (Keeps.sc) (by rfl)
    exact h2
  refine Keeps.ite (fun _ => ?_) (fun _ => ?_)
  · refine Keeps.andThen ?_ State.surge_keeps (by rfl)
    refine Keeps.andThen ?_ State.ev_keeps (by rfl)
    exact h5
  · exact h5

theorem execSendDeadline_keeps {a0 a1 a2 a3 s} : Answers 1122316 s (execSendDeadline a0 a1 a2 a3 s) := by
  unfold execSendDeadline
  split
  · refine Answers.next ?_
    exact Keeps.refl
  · refine Answers.ite (fun _ => ?_) (fun _ => ?_)
    · refine Answers.next ?_
      exact Keeps.refl
    · refine Answers.next ?_
      refine Keeps.andThen ?_ State.missPair_keeps (by rfl)
      exact Keeps.refl

end Sys2Proof.Machine
end

