-- ==== Sys2Proof/Laws/KeepLamps.lean ====
section
/-! SUPPORT. One lemma for each operation of Machine/Lamps.lean: the parts it may change, and that what must last lasts. -/

namespace Sys2Proof.Machine

theorem State.writeRecheck_keeps {s a1} : Keeps 4100 s (State.writeRecheck s a1) := by
  unfold State.writeRecheck
  extract_lets +onlyGivenNames -merge -useContext -underBinder v1
  refine Keeps.ite (fun _ => ?_) (fun _ => ?_)
  · exact Keeps.refl
  · refine Keeps.ite (fun _ => ?_) (fun _ => ?_)
    · refine Keeps.andThen ?_ (Keeps.tl) (by rfl)
      exact Keeps.refl
    · refine Keeps.andThen ?_ State.bump_keeps (by rfl)
      exact Keeps.refl

theorem execLampRecheck_keeps {a0 s} : Answers 4100 s (execLampRecheck a0 s) := by
  unfold execLampRecheck
  refine Answers.next ?_
  refine Keeps.andThen ?_ State.writeRecheck_keeps (by rfl)
  exact Keeps.refl

theorem State.writeWatch_keeps {s a1} : Keeps 4098 s (State.writeWatch s a1) := by
  unfold State.writeWatch
  extract_lets +onlyGivenNames -merge -useContext -underBinder v1
  have h1 : Keeps 4098 s v1 := by
    unfold v1
    refine Keeps.andThen ?_ State.setRw_keeps (by rfl)
    exact Keeps.refl
  refine Keeps.andThen ?_ (Keeps.tl) (by rfl)
  exact h1

theorem execLampWatchWrite_keeps {a0 s} : Answers 4098 s (execLampWatchWrite a0 s) := by
  unfold execLampWatchWrite
  refine Answers.next ?_
  refine Keeps.andThen ?_ State.writeWatch_keeps (by rfl)
  exact Keeps.refl

theorem execProbeCountSecond_keeps {s} : Answers 69632 s (execProbeCountSecond s) := by
  unfold execProbeCountSecond
  refine Answers.ite (fun _ => ?_) (fun _ => ?_)
  · refine Answers.next ?_
    exact Keeps.refl
  · extract_lets +onlyGivenNames -merge -useContext -underBinder v1
    extract_lets +onlyGivenNames -merge -useContext -underBinder v2
    have h2 : Keeps 69632 s v2 := by
      unfold v2
      refine Keeps.andThen ?_ (Keeps.tiles) (by rfl)
      exact Keeps.refl
    refine Answers.next ?_
    refine Keeps.andThen ?_ (Keeps.tl) (by rfl)
    exact h2

theorem execTileTempStale_keeps {a0 a1 s} : Answers 65548 s (execTileTempStale a0 a1 s) := by
  unfold execTileTempStale
  split
  · refine Answers.next ?_
    exact Keeps.refl
  · refine Answers.ite (fun _ => ?_) (fun _ => ?_)
    · refine Answers.next ?_
      exact Keeps.refl
    · refine Answers.next ?_
      refine Keeps.andThen ?_ State.ev_keeps (by rfl)
      refine Keeps.andThen ?_ State.modTile_keeps (by rfl)
      exact Keeps.refl

theorem State.relayDelays_keeps {s a1} : Keeps 18874368 s (State.relayDelays s a1) := by
  unfold State.relayDelays
  extract_lets +onlyGivenNames -merge -useContext -underBinder v1
  refine Keeps.ite (fun _ => ?_) (fun _ => ?_)
  · exact Keeps.refl
  · extract_lets +onlyGivenNames -merge -useContext -underBinder v2
    extract_lets +onlyGivenNames -merge -useContext -underBinder v3
    refine Keeps.andThen ?_ State.relaySend_keeps (by rfl)
    exact Keeps.refl

theorem execDelayRecompute_keeps {s} : Answers 18939904 s (execDelayRecompute s) := by
  unfold execDelayRecompute
  extract_lets +onlyGivenNames -merge -useContext -underBinder v1
  have h1 : Keeps 18939904 s v1 := by
    unfold v1
    refine Keeps.foldl ?_ (fun t2 x2 h2 => ?_)
    · exact Keeps.refl
    · refine Keeps.ite (fun _ => ?_) (fun _ => ?_)
      · refine Keeps.andThen ?_ State.setDelays_keeps (by rfl)
        exact h2
      · exact h2
  refine Answers.next ?_
  refine Keeps.foldl ?_ (fun t3 x3 h3 => ?_)
  · exact h1
  · refine Keeps.andThen ?_ State.relayDelays_keeps (by rfl)
    exact h3

end Sys2Proof.Machine
end

