-- ==== Sys2Proof/Laws/KeepChain.lean ====
section
/-! SUPPORT. One lemma for each operation of Machine/Chain.lean: the parts it may change, and that what must last lasts. -/

namespace Sys2Proof.Machine

theorem execPortEnable_keeps {a0 s} : Answers 16809984 s (execPortEnable a0 s) := by
  unfold execPortEnable
  refine Answers.ite (fun _ => ?_) (fun _ => ?_)
  · refine Answers.next ?_
    refine Keeps.andThen ?_ State.startPort_keeps (by rfl)
    exact Keeps.refl
  · refine Answers.next ?_
    exact Keeps.refl

theorem execPortBlocksStart_keeps {a0 s} : Answers 32768 s (execPortBlocksStart a0 s) := by
  unfold execPortBlocksStart
  extract_lets +onlyGivenNames -merge -useContext -underBinder v1
  refine Answers.ite (fun _ => ?_) (fun _ => ?_)
  · refine Answers.next ?_
    refine Keeps.andThen ?_ State.modPort_keeps (by rfl)
    exact Keeps.refl
  · refine Answers.next ?_
    exact Keeps.refl

theorem execPortStartTimeout_keeps {a0 s} : Answers 32780 s (execPortStartTimeout a0 s) := by
  unfold execPortStartTimeout
  extract_lets +onlyGivenNames -merge -useContext -underBinder v1
  refine Answers.ite (fun _ => ?_) (fun _ => ?_)
  · extract_lets +onlyGivenNames -merge -useContext -underBinder v2
    have h2 : Keeps 32780 s v2 := by
      unfold v2
      refine Keeps.andThen ?_ State.modPort_keeps (by rfl)
      exact Keeps.refl
    refine Answers.next ?_
    refine Keeps.ite (fun _ => ?_) (fun _ => ?_)
    · exact h2
    · refine Keeps.andThen ?_ State.ev_keeps (by rfl)
      exact h2
  · refine Answers.next ?_
    exact Keeps.refl

theorem execPortRestartTimer_keeps {a0 s} : Answers 16809984 s (execPortRestartTimer a0 s) := by
  unfold execPortRestartTimer
  extract_lets +onlyGivenNames -merge -useContext -underBinder v1
  refine Answers.ite (fun _ => ?_) (fun _ => ?_)
  · refine Answers.next ?_
    refine Keeps.andThen ?_ State.startPort_keeps (by rfl)
    exact Keeps.refl
  · refine Answers.next ?_
    exact Keeps.refl

theorem State.loseUp_keeps {s a1} : Keeps 16809984 s (State.loseUp s a1) := by
  unfold State.loseUp
  extract_lets +onlyGivenNames -merge -useContext -underBinder v1
  extract_lets +onlyGivenNames -merge -useContext -underBinder v2
  have h2 : Keeps 16809984 s v2 := by
    unfold v2
    refine Keeps.andThen ?_ State.modPort_keeps (by rfl)
    exact Keeps.refl
  extract_lets +onlyGivenNames -merge -useContext -underBinder v3
  have h3 : Keeps 16809984 s v3 := by
    unfold v3
    refine Keeps.andThen ?_ State.abortCal_keeps (by rfl)
    exact h2
  refine Keeps.ite (fun _ => ?_) (fun _ => ?_)
  · refine Keeps.andThen ?_ State.startPort_keeps (by rfl)
    exact h3
  · exact h3

theorem State.feedLock_keeps {s a1 a2 a3} : Keeps 32768 s (State.feedLock s a1 a2 a3) := by
  unfold State.feedLock
  refine Keeps.andThen ?_ State.modPort_keeps (by rfl)
  exact Keeps.refl

theorem execUpstreamBlockLock_keeps {a0 s} : Answers 32768 s (execUpstreamBlockLock a0 s) := by
  unfold execUpstreamBlockLock
  refine Answers.ite (fun _ => ?_) (fun _ => ?_)
  · refine Answers.next ?_
    refine Keeps.andThen ?_ State.feedLock_keeps (by rfl)
    exact Keeps.refl
  · refine Answers.next ?_
    exact Keeps.refl

theorem execUpstreamLockLoss_keeps {a0 s} : Answers 16809996 s (execUpstreamLockLoss a0 s) := by
  unfold execUpstreamLockLoss
  refine Answers.ite (fun _ => ?_) (fun _ => ?_)
  · refine Answers.next ?_
    exact Keeps.refl
  · refine Answers.next ?_
    refine Keeps.andThen ?_ State.loseUp_keeps (by rfl)
    refine Keeps.andThen ?_ State.ev_keeps (by rfl)
    refine Keeps.andThen ?_ State.bump_keeps (by rfl)
    refine Keeps.andThen ?_ State.feedLock_keeps (by rfl)
    exact Keeps.refl

theorem execAlignMissed_keeps {a0 s} : Answers 16809984 s (execAlignMissed a0 s) := by
  unfold execAlignMissed
  extract_lets +onlyGivenNames -merge -useContext -underBinder v1
  refine Answers.ite (fun _ => ?_) (fun _ => ?_)
  · refine Answers.next ?_
    exact Keeps.refl
  · refine Answers.ite (fun _ => ?_) (fun _ => ?_)
    · refine Answers.next ?_
      refine Keeps.andThen ?_ State.modPort_keeps (by rfl)
      exact Keeps.refl
    · refine Answers.next ?_
      refine Keeps.andThen ?_ State.loseUp_keeps (by rfl)
      exact Keeps.refl

theorem State.alignPort_keeps {s a1} : Keeps 16809984 s (State.alignPort s a1) := by
  unfold State.alignPort
  extract_lets +onlyGivenNames -merge -useContext -underBinder v1
  refine Keeps.ite (fun _ => ?_) (fun _ => ?_)
  · exact Keeps.refl
  · extract_lets +onlyGivenNames -merge -useContext -underBinder v2
    extract_lets +onlyGivenNames -merge -useContext -underBinder v3
    have h3 : Keeps 16809984 s v3 := by
      unfold v3
      refine Keeps.andThen ?_ State.modPort_keeps (by rfl)
      exact Keeps.refl
    refine Keeps.ite (fun _ => ?_) (fun _ => ?_)
    · exact h3
    · refine Keeps.andThen ?_ State.modPort_keeps (by rfl)
      refine Keeps.andThen ?_ State.sendMark_keeps (by rfl)
      exact h3

theorem execAlignSend_keeps {s} : Answers 16809984 s (execAlignSend s) := by
  unfold execAlignSend
  refine Answers.next ?_
  refine Keeps.foldl ?_ (fun t1 x1 h1 => ?_)
  · exact Keeps.refl
  · refine Keeps.andThen ?_ State.alignPort_keeps (by rfl)
    exact h1

theorem State.takeRt0_keeps {s a1 a2} : Keeps 98304 s (State.takeRt0 s a1 a2) := by
  unfold State.takeRt0
  extract_lets +onlyGivenNames -merge -useContext -underBinder v1
  split
  · extract_lets +onlyGivenNames -merge -useContext -underBinder v2
    have h2 : Keeps 98304 s v2 := by
      unfold v2
      refine Keeps.andThen ?_ State.modPort_keeps (by rfl)
      exact Keeps.refl
    split
    · refine Keeps.andThen ?_ State.modTile_keeps (by rfl)
      exact h2
    · exact h2

theorem State.portUp_keeps {s a1} : Keeps 98332 s (State.portUp s a1) := by
  unfold State.portUp
  extract_lets +onlyGivenNames -merge -useContext -underBinder v1
  have h1 : Keeps 98332 s v1 := by
    unfold v1
    refine Keeps.andThen ?_ State.modPort_keeps (by rfl)
    exact Keeps.refl
  extract_lets +onlyGivenNames -merge -useContext -underBinder v2
  have h2 : Keeps 98332 s v2 := by
    unfold v2
    refine Keeps.andThen ?_ State.unitRuns_keeps (by rfl)
    exact h1
  extract_lets +onlyGivenNames -merge -useContext -underBinder v3
  extract_lets +onlyGivenNames -merge -useContext -underBinder v4
  have h4 : Keeps 98332 s v4 := by
    unfold v4
    refine Keeps.andThen ?_ (Keeps.tiles) (by rfl)
    exact h2
  extract_lets +onlyGivenNames -merge -useContext -underBinder v5
  have h5 : Keeps 98332 s v5 := by
    unfold v5
    refine Keeps.ite (fun _ => ?_) (fun _ => ?_)
    · refine Keeps.andThen ?_ State.modPort_keeps (by rfl)
      exact h4
    · exact h4
  refine Keeps.andThen ?_ State.startWaiting_keeps (by rfl)
  exact h5

theorem execUpAlignRx_keeps {a0 a1 a2 a3 a4 s} : Answers 16875548 s (execUpAlignRx a0 a1 a2 a3 a4 s) := by
  unfold execUpAlignRx
  extract_lets +onlyGivenNames -merge -useContext -underBinder v1
  refine Answers.ite (fun _ => ?_) (fun _ => ?_)
  · refine Answers.next ?_
    exact Keeps.refl
  · extract_lets +onlyGivenNames -merge -useContext -underBinder v2
    have h2 : Keeps 16875548 s v2 := by
      unfold v2
      refine Keeps.ite (fun _ => ?_) (fun _ => ?_)
      · refine Keeps.andThen ?_ State.bump_keeps (by rfl)
        exact Keeps.refl
      · exact Keeps.refl
    extract_lets +onlyGivenNames -merge -useContext -underBinder v3
    extract_lets +onlyGivenNames -merge -useContext -underBinder v4
    have h4 : Keeps 16875548 s v4 := by
      unfold v4
      refine Keeps.andThen ?_ State.modPort_keeps (by rfl)
      exact h2
    extract_lets +onlyGivenNames -merge -useContext -underBinder v5
    extract_lets +onlyGivenNames -merge -useContext -underBinder v6
    have h6 : Keeps 16875548 s v6 := by
      unfold v6
      refine Keeps.ite (fun _ => ?_) (fun _ => ?_)
      · refine Keeps.andThen ?_ State.modPort_keeps (by rfl)
        refine Keeps.andThen ?_ State.sendMark_keeps (by rfl)
        exact h4
      · exact h4
    extract_lets +onlyGivenNames -merge -useContext -underBinder v7
    extract_lets +onlyGivenNames -merge -useContext -underBinder v8
    have h8 : Keeps 16875548 s v8 := by
      unfold v8
      refine Keeps.ite (fun _ => ?_) (fun _ => ?_)
      · refine Keeps.andThen ?_ State.takeRt0_keeps (by rfl)
        exact h6
      · exact h6
    refine Answers.ite (fun _ => ?_) (fun _ => ?_)
    · refine Answers.next ?_
      refine Keeps.ite (fun _ => ?_) (fun _ => ?_)
      · exact h8
      · refine Keeps.andThen ?_ State.loseUp_keeps (by rfl)
        exact h8
    · refine Answers.ite (fun _ => ?_) (fun _ => ?_)
      · refine Answers.next ?_
        refine Keeps.andThen ?_ State.portUp_keeps (by rfl)
        exact h8
      · refine Answers.next ?_
        exact h8

theorem execIdleEntry_keeps {a0 s} : Answers 16809984 s (execIdleEntry a0 s) := by
  unfold execIdleEntry
  extract_lets +onlyGivenNames -merge -useContext -underBinder v1
  extract_lets +onlyGivenNames -merge -useContext -underBinder v2
  refine Answers.ite (fun _ => ?_) (fun _ => ?_)
  · refine Answers.next ?_
    refine Keeps.andThen ?_ State.modPort_keeps (by rfl)
    refine Keeps.andThen ?_ State.send_keeps (by rfl)
    exact Keeps.refl
  · refine Answers.next ?_
    exact Keeps.refl

theorem execIdleExit_keeps {a0 s} : Answers 16809988 s (execIdleExit a0 s) := by
  unfold execIdleExit
  extract_lets +onlyGivenNames -merge -useContext -underBinder v1
  refine Answers.ite (fun _ => ?_) (fun _ => ?_)
  · extract_lets +onlyGivenNames -merge -useContext -underBinder v2
    have h2 : Keeps 16809988 s v2 := by
      unfold v2
      refine Keeps.andThen ?_ State.sendTrain_keeps (by rfl)
      refine Keeps.andThen ?_ State.bump_keeps (by rfl)
      refine Keeps.andThen ?_ State.send_keeps (by rfl)
      exact Keeps.refl
    refine Answers.next ?_
    refine Keeps.andThen ?_ State.modPort_keeps (by rfl)
    exact h2
  · refine Answers.next ?_
    exact Keeps.refl

theorem State.beaconPort_keeps {s a1} : Keeps 32768 s (State.beaconPort s a1) := by
  unfold State.beaconPort
  extract_lets +onlyGivenNames -merge -useContext -underBinder v1
  refine Keeps.ite (fun _ => ?_) (fun _ => ?_)
  · refine Keeps.andThen ?_ State.beacon_keeps (by rfl)
    exact Keeps.refl
  · exact Keeps.refl

theorem execBeaconSend_keeps {s} : Answers 32768 s (execBeaconSend s) := by
  unfold execBeaconSend
  refine Answers.next ?_
  refine Keeps.foldl ?_ (fun t1 x1 h1 => ?_)
  · exact Keeps.refl
  · refine Keeps.andThen ?_ State.beaconPort_keeps (by rfl)
    exact h1

theorem State.claimPort_keeps {s a1} : Keeps 32768 s (State.claimPort s a1) := by
  unfold State.claimPort
  split
  · exact Keeps.refl
  · refine Keeps.ite (fun _ => ?_) (fun _ => ?_)
    · exact Keeps.refl
    · refine Keeps.ite (fun _ => ?_) (fun _ => ?_)
      · refine Keeps.andThen ?_ State.modPort_keeps (by rfl)
        exact Keeps.refl
      · refine Keeps.andThen ?_ State.modPort_keeps (by rfl)
        refine Keeps.andThen ?_ State.queueFrame_keeps (by rfl)
        exact Keeps.refl

theorem execBatonClaimRepeat_keeps {s} : Answers 32768 s (execBatonClaimRepeat s) := by
  unfold execBatonClaimRepeat
  refine Answers.next ?_
  refine Keeps.foldl ?_ (fun t1 x1 h1 => ?_)
  · exact Keeps.refl
  · refine Keeps.andThen ?_ State.claimPort_keeps (by rfl)
    exact h1

theorem State.dropLate_keeps {s a1} : Keeps 1122316 s (State.dropLate s a1) := by
  unfold State.dropLate
  refine Keeps.foldl ?_ (fun t1 x1 h1 => ?_)
  · exact Keeps.refl
  · refine Keeps.andThen ?_ State.missPair_keeps (by rfl)
    exact h1

theorem State.claimDone_keeps {s a1 a2} : Keeps 2097164 s (State.claimDone s a1 a2) := by
  unfold State.claimDone
  split
  · split
    · refine Keeps.ite (fun _ => ?_) (fun _ => ?_)
      · extract_lets +onlyGivenNames -merge -useContext -underBinder v1
        refine Keeps.andThen ?_ State.ev_keeps (by rfl)
        refine Keeps.andThen ?_ (Keeps.rl) (by rfl)
        exact Keeps.refl
      · exact Keeps.refl
    · exact Keeps.refl
  · exact Keeps.refl

theorem State.launch_keeps {s a1 a2} : Keeps 18972684 s (State.launch s a1 a2) := by
  unfold State.launch
  extract_lets +onlyGivenNames -merge -useContext -underBinder v1
  extract_lets +onlyGivenNames -merge -useContext -underBinder v2
  extract_lets +onlyGivenNames -merge -useContext -underBinder v3
  extract_lets +onlyGivenNames -merge -useContext -underBinder v4
  have h4 : Keeps 18972684 s v4 := by
    unfold v4
    refine Keeps.andThen ?_ State.sendRows_keeps (by rfl)
    refine Keeps.andThen ?_ State.send_keeps (by rfl)
    exact Keeps.refl
  extract_lets +onlyGivenNames -merge -useContext -underBinder v5
  have h5 : Keeps 18972684 s v5 := by
    unfold v5
    refine Keeps.andThen ?_ State.modPort_keeps (by rfl)
    exact h4
  extract_lets +onlyGivenNames -merge -useContext -underBinder v6
  have h6 : Keeps 18972684 s v6 := by
    unfold v6
    refine Keeps.andThen ?_ State.claimDone_keeps (by rfl)
    exact h5
  split
  · refine Keeps.andThen ?_ State.modTile_keeps (by rfl)
    exact h6
  · refine Keeps.andThen ?_ State.modCensus_keeps (by rfl)
    exact h6
  · exact h6

theorem State.pairSent_keeps {a0 a1 s a3} : Keeps 1150976 s (State.pairSent a0 a1 s a3) := by
  unfold State.pairSent
  extract_lets +onlyGivenNames -merge -useContext -underBinder v1
  extract_lets +onlyGivenNames -merge -useContext -underBinder v2
  extract_lets +onlyGivenNames -merge -useContext -underBinder v3
  extract_lets +onlyGivenNames -merge -useContext -underBinder v4
  have h4 : Keeps 1150976 s v4 := by
    unfold v4
    refine Keeps.ite (fun _ => ?_) (fun _ => ?_)
    · refine Keeps.andThen ?_ State.modPort_keeps (by rfl)
      exact Keeps.refl
    · exact Keeps.refl
  extract_lets +onlyGivenNames -merge -useContext -underBinder v5
  extract_lets +onlyGivenNames -merge -useContext -underBinder v6
  have h6 : Keeps 1150976 s v6 := by
    unfold v6
    refine Keeps.andThen ?_ State.pairMargin_keeps (by rfl)
    exact h4
  extract_lets +onlyGivenNames -merge -useContext -underBinder v7
  have h7 : Keeps 1150976 s v7 := by
    unfold v7
    refine Keeps.andThen ?_ State.modTile_keeps (by rfl)
    exact h6
  refine Keeps.andThen ?_ (Keeps.tl) (by rfl)
  exact h7

theorem State.launchDrive_keeps {s a1 a2} : Keeps 20025356 s (State.launchDrive s a1 a2) := by
  unfold State.launchDrive
  extract_lets +onlyGivenNames -merge -useContext -underBinder v1
  extract_lets +onlyGivenNames -merge -useContext -underBinder v2
  have h2 : Keeps 20025356 s v2 := by
    unfold v2
    refine Keeps.foldl ?_ (fun t3 x3 h3 => ?_)
    · exact Keeps.refl
    · refine Keeps.andThen ?_ State.pairSent_keeps (by rfl)
      exact h3
  refine Keeps.andThen ?_ State.launch_keeps (by rfl)
  exact h2

theorem State.launchScan_keeps {s a1 a2 a3} : Keeps 18972684 s (State.launchScan s a1 a2 a3) := by
  unfold State.launchScan
  split
  · refine Keeps.andThen ?_ State.modTile_keeps (by rfl)
    exact Keeps.refl
  · extract_lets +onlyGivenNames -merge -useContext -underBinder v1
    extract_lets +onlyGivenNames -merge -useContext -underBinder v2
    have h2 : Keeps 18972684 s v2 := by
      unfold v2
      refine Keeps.andThen ?_ State.modTile_keeps (by rfl)
      exact Keeps.refl
    refine Keeps.andThen ?_ State.launch_keeps (by rfl)
    exact h2

theorem State.nextFrame_keeps {s a1} : Keeps 20033548 s (State.nextFrame s a1) := by
  unfold State.nextFrame
  extract_lets +onlyGivenNames -merge -useContext -underBinder v1
  have h1 : Keeps 20033548 s v1 := by
    unfold v1
    refine Keeps.andThen ?_ State.modPort_keeps (by rfl)
    exact Keeps.refl
  extract_lets +onlyGivenNames -merge -useContext -underBinder v2
  have h2 : Keeps 20033548 s v2 := by
    unfold v2
    refine Keeps.andThen ?_ State.dropLate_keeps (by rfl)
    exact h1
  extract_lets +onlyGivenNames -merge -useContext -underBinder v3
  extract_lets +onlyGivenNames -merge -useContext -underBinder v4
  extract_lets +onlyGivenNames -merge -useContext -underBinder v5
  extract_lets +onlyGivenNames -merge -useContext -underBinder v6
  clear_value v5
  split
  · refine Keeps.ite (fun _ => ?_) (fun _ => ?_)
    · unfold v4
      refine Keeps.andThen ?_ State.launch_keeps (by rfl)
      refine Keeps.andThen ?_ State.modPort_keeps (by rfl)
      exact h2
    · split
      · rename_i t7 e7
        have h7 : Keeps 20033548 s t7 := by
          refine (?_ : KeepsO 20033548 s _) _ e7
          unfold v6
          split
          · refine KeepsO.some ?_
            refine Keeps.andThen ?_ State.launchScan_keeps (by rfl)
            exact h2
          · split
            · refine KeepsO.some ?_
              refine Keeps.andThen ?_ State.launchDrive_keeps (by rfl)
              exact h2
            · exact KeepsO.none
        exact h7
      · unfold v4
        refine Keeps.andThen ?_ State.launch_keeps (by rfl)
        refine Keeps.andThen ?_ State.modPort_keeps (by rfl)
        exact h2
  · split
    · rename_i t8 e8
      have h8 : Keeps 20033548 s t8 := by
        refine (?_ : KeepsO 20033548 s _) _ e8
        unfold v6
        split
        · refine KeepsO.some ?_
          refine Keeps.andThen ?_ State.launchScan_keeps (by rfl)
          exact h2
        · split
          · refine KeepsO.some ?_
            refine Keeps.andThen ?_ State.launchDrive_keeps (by rfl)
            exact h2
          · exact KeepsO.none
      exact h8
    · exact h2

theorem execChainFrameStart_keeps {a0 s} : Answers 20033548 s (execChainFrameStart a0 s) := by
  unfold execChainFrameStart
  refine Answers.ite (fun _ => ?_) (fun _ => ?_)
  · refine Answers.next ?_
    refine Keeps.andThen ?_ State.nextFrame_keeps (by rfl)
    exact Keeps.refl
  · refine Answers.next ?_
    exact Keeps.refl

theorem State.unsend_keeps {s a1 a2} : Keeps 65536 s (State.unsend s a1 a2) := by
  unfold State.unsend
  split
  · extract_lets +onlyGivenNames -merge -useContext -underBinder v1
    extract_lets +onlyGivenNames -merge -useContext -underBinder v2
    refine Keeps.andThen ?_ State.modTile_keeps (by rfl)
    exact Keeps.refl
  · refine Keeps.andThen ?_ State.modTile_keeps (by rfl)
    exact Keeps.refl
  · exact Keeps.refl

theorem execChainTxDry_keeps {a0 s} : Answers 24623869 s (execChainTxDry a0 s) := by
  unfold execChainTxDry
  extract_lets +onlyGivenNames -merge -useContext -underBinder v1
  split
  · refine Answers.next ?_
    exact Keeps.refl
  · refine Answers.ite (fun _ => ?_) (fun _ => ?_)
    · refine Answers.next ?_
      exact Keeps.refl
    · extract_lets +onlyGivenNames -merge -useContext -underBinder v2
      have h2 : Keeps 24623869 s v2 := by
        unfold v2
        refine Keeps.andThen ?_ State.unsend_keeps (by rfl)
        refine Keeps.andThen ?_ State.send_keeps (by rfl)
        exact Keeps.refl
      extract_lets +onlyGivenNames -merge -useContext -underBinder v3
      extract_lets +onlyGivenNames -merge -useContext -underBinder v4
      have h4 : Keeps 24623869 s v4 := by
        unfold v4
        refine Keeps.andThen ?_ State.elasticLoss_keeps (by rfl)
        refine Keeps.andThen ?_ State.modPort_keeps (by rfl)
        exact h2
      refine Answers.ite (fun _ => ?_) (fun _ => ?_)
      · refine Answers.next ?_
        refine Keeps.andThen ?_ State.fault_keeps (by rfl)
        refine Keeps.andThen ?_ State.modPort_keeps (by rfl)
        exact h4
      · refine Answers.next ?_
        exact h4

theorem State.endRound_keeps {s a1} : Keeps 98304 s (State.endRound s a1) := by
  unfold State.endRound
  extract_lets +onlyGivenNames -merge -useContext -underBinder v1
  refine Keeps.ite (fun _ => ?_) (fun _ => ?_)
  · extract_lets +onlyGivenNames -merge -useContext -underBinder v2
    have h2 : Keeps 98304 s v2 := by
      unfold v2
      refine Keeps.andThen ?_ State.modPort_keeps (by rfl)
      exact Keeps.refl
    extract_lets +onlyGivenNames -merge -useContext -underBinder v3
    refine Keeps.ite (fun _ => ?_) (fun _ => ?_)
    · refine Keeps.foldl ?_ (fun t4 x4 h4 => ?_)
      · exact h2
      · refine Keeps.andThen ?_ State.warmTile_keeps (by rfl)
        exact h4
    · exact h2
  · refine Keeps.andThen ?_ State.modPort_keeps (by rfl)
    exact Keeps.refl

theorem State.nextTurn_keeps {s a1} : Keeps 98304 s (State.nextTurn s a1) := by
  unfold State.nextTurn
  extract_lets +onlyGivenNames -merge -useContext -underBinder v1
  have h1 : Keeps 98304 s v1 := by
    unfold v1
    refine Keeps.andThen ?_ State.modPort_keeps (by rfl)
    exact Keeps.refl
  refine Keeps.ite (fun _ => ?_) (fun _ => ?_)
  · refine Keeps.andThen ?_ State.endRound_keeps (by rfl)
    exact h1
  · exact h1

theorem State.calWaits_keeps {s a1 a2 a3} : Keeps 32780 s (State.calWaits s a1 a2 a3) := by
  unfold State.calWaits
  extract_lets +onlyGivenNames -merge -useContext -underBinder v1
  extract_lets +onlyGivenNames -merge -useContext -underBinder v2
  extract_lets +onlyGivenNames -merge -useContext -underBinder v3
  have h3 : Keeps 32780 s v3 := by
    unfold v3
    refine Keeps.andThen ?_ State.modPort_keeps (by rfl)
    exact Keeps.refl
  refine Keeps.ite (fun _ => ?_) (fun _ => ?_)
  · refine Keeps.andThen ?_ State.ev_keeps (by rfl)
    refine Keeps.andThen ?_ State.bump_keeps (by rfl)
    refine Keeps.andThen ?_ State.modPort_keeps (by rfl)
    exact h3
  · exact h3

theorem State.calAnnounce_keeps {s a1 a2 a3} : Keeps 16809984 s (State.calAnnounce s a1 a2 a3) := by
  unfold State.calAnnounce
  refine Keeps.andThen ?_ State.modPort_keeps (by rfl)
  refine Keeps.andThen ?_ State.sendLocal_keeps (by rfl)
  exact Keeps.refl

theorem execCalStart_keeps {a0 s} : Answers 16875532 s (execCalStart a0 s) := by
  unfold execCalStart
  extract_lets +onlyGivenNames -merge -useContext -underBinder v1
  extract_lets +onlyGivenNames -merge -useContext -underBinder v2
  split
  · refine Answers.ite (fun _ => ?_) (fun _ => ?_)
    · refine Answers.next ?_
      exact Keeps.refl
    · refine Answers.ite (fun _ => ?_) (fun _ => ?_)
      · refine Answers.next ?_
        refine Keeps.andThen ?_ State.endRound_keeps (by rfl)
        exact Keeps.refl
      · refine Answers.ite (fun _ => ?_) (fun _ => ?_)
        · refine Answers.next ?_
          refine Keeps.andThen ?_ State.nextTurn_keeps (by rfl)
          exact Keeps.refl
        · refine Answers.ite (fun _ => ?_) (fun _ => ?_)
          · refine Answers.next ?_
            exact Keeps.refl
          · refine Answers.ite (fun _ => ?_) (fun _ => ?_)
            · refine Answers.next ?_
              refine Keeps.andThen ?_ State.calWaits_keeps (by rfl)
              exact Keeps.refl
            · refine Answers.next ?_
              refine Keeps.andThen ?_ State.calAnnounce_keeps (by rfl)
              exact Keeps.refl

theorem execCalDropChange_keeps {a0 s} : Answers 16809984 s (execCalDropChange a0 s) := by
  unfold execCalDropChange
  split
  · refine Answers.next ?_
    exact Keeps.refl
  · refine Answers.ite (fun _ => ?_) (fun _ => ?_)
    · refine Answers.next ?_
      exact Keeps.refl
    · extract_lets +onlyGivenNames -merge -useContext -underBinder v1
      have h1 : Keeps 16809984 s v1 := by
        unfold v1
        refine Keeps.ite (fun _ => ?_) (fun _ => ?_)
        · refine Keeps.andThen ?_ State.send_keeps (by rfl)
          exact Keeps.refl
        · exact Keeps.refl
      extract_lets +onlyGivenNames -merge -useContext -underBinder v2
      extract_lets +onlyGivenNames -merge -useContext -underBinder v3
      have h3 : Keeps 16809984 s v3 := by
        unfold v3
        refine Keeps.andThen ?_ State.modPort_keeps (by rfl)
        exact h1
      refine Answers.next ?_
      refine Keeps.ite (fun _ => ?_) (fun _ => ?_)
      · refine Keeps.andThen ?_ State.restoreLane_keeps (by rfl)
        exact h3
      · exact h3

theorem State.calResult_keeps {s a1 a2 a3 a4} : Keeps 32780 s (State.calResult s a1 a2 a3 a4) := by
  unfold State.calResult
  extract_lets +onlyGivenNames -merge -useContext -underBinder v1
  split
  · refine Keeps.andThen ?_ State.ev_keeps (by rfl)
    refine Keeps.andThen ?_ State.bump_keeps (by rfl)
    refine Keeps.andThen ?_ State.modPort_keeps (by rfl)
    exact Keeps.refl
  · extract_lets +onlyGivenNames -merge -useContext -underBinder v2
    refine Keeps.ite (fun _ => ?_) (fun _ => ?_)
    · refine Keeps.andThen ?_ State.modPort_keeps (by rfl)
      exact Keeps.refl
    · refine Keeps.andThen ?_ State.ev_keeps (by rfl)
      refine Keeps.andThen ?_ State.modPort_keeps (by rfl)
      exact Keeps.refl

theorem execCalPatternEnd_keeps {a0 a1 a2 a3 s} : Answers 16809996 s (execCalPatternEnd a0 a1 a2 a3 s) := by
  unfold execCalPatternEnd
  split
  · refine Answers.next ?_
    exact Keeps.refl
  · refine Answers.ite (fun _ => ?_) (fun _ => ?_)
    · refine Answers.next ?_
      exact Keeps.refl
    · refine Answers.ite (fun _ => ?_) (fun _ => ?_)
      · extract_lets +onlyGivenNames -merge -useContext -underBinder v1
        have h1 : Keeps 16809996 s v1 := by
          unfold v1
          refine Keeps.andThen ?_ State.calResult_keeps (by rfl)
          exact Keeps.refl
        extract_lets +onlyGivenNames -merge -useContext -underBinder v2
        have h2 : Keeps 16809996 s v2 := by
          unfold v2
          refine Keeps.ite (fun _ => ?_) (fun _ => ?_)
          · refine Keeps.andThen ?_ State.modPort_keeps (by rfl)
            exact h1
          · exact h1
        refine Answers.next ?_
        refine Keeps.andThen ?_ State.restoreLane_keeps (by rfl)
        exact h2
      · refine Answers.next ?_
        refine Keeps.andThen ?_ State.restoreLane_keeps (by rfl)
        exact Keeps.refl

theorem execCalRestoreChange_keeps {a0 s} : Answers 98304 s (execCalRestoreChange a0 s) := by
  unfold execCalRestoreChange
  split
  · refine Answers.next ?_
    exact Keeps.refl
  · refine Answers.ite (fun _ => ?_) (fun _ => ?_)
    · refine Answers.next ?_
      exact Keeps.refl
    · extract_lets +onlyGivenNames -merge -useContext -underBinder v1
      have h1 : Keeps 98304 s v1 := by
        unfold v1
        refine Keeps.ite (fun _ => ?_) (fun _ => ?_)
        · exact Keeps.refl
        · refine Keeps.andThen ?_ State.modPort_keeps (by rfl)
          exact Keeps.refl
      refine Answers.ite (fun _ => ?_) (fun _ => ?_)
      · refine Answers.next ?_
        refine Keeps.andThen ?_ State.nextTurn_keeps (by rfl)
        exact h1
      · refine Answers.next ?_
        refine Keeps.andThen ?_ State.modPort_keeps (by rfl)
        exact h1

theorem execCalReportTimeout_keeps {a0 s} : Answers 98304 s (execCalReportTimeout a0 s) := by
  unfold execCalReportTimeout
  split
  · refine Answers.next ?_
    exact Keeps.refl
  · refine Answers.ite (fun _ => ?_) (fun _ => ?_)
    · refine Answers.next ?_
      exact Keeps.refl
    · refine Answers.next ?_
      refine Keeps.andThen ?_ State.nextTurn_keeps (by rfl)
      refine Keeps.andThen ?_ State.modPort_keeps (by rfl)
      exact Keeps.refl

theorem State.calRecord_keeps {s a1 a2 a3 a4 a5 a6} : Keeps 98316 s (State.calRecord s a1 a2 a3 a4 a5 a6) := by
  unfold State.calRecord
  split
  · exact Keeps.refl
  · refine Keeps.ite (fun _ => ?_) (fun _ => ?_)
    · exact Keeps.refl
    · extract_lets +onlyGivenNames -merge -useContext -underBinder v1
      have h1 : Keeps 98316 s v1 := by
        unfold v1
        refine Keeps.ite (fun _ => ?_) (fun _ => ?_)
        · refine Keeps.andThen ?_ State.modPort_keeps (by rfl)
          exact Keeps.refl
        · refine Keeps.andThen ?_ State.calResult_keeps (by rfl)
          exact Keeps.refl
      refine Keeps.ite (fun _ => ?_) (fun _ => ?_)
      · refine Keeps.andThen ?_ State.nextTurn_keeps (by rfl)
        exact h1
      · refine Keeps.andThen ?_ State.modPort_keeps (by rfl)
        exact h1

theorem State.degrade_keeps {s a1 a2} : Keeps 24623869 s (State.degrade s a1 a2) := by
  unfold State.degrade
  refine Keeps.ite (fun _ => ?_) (fun _ => ?_)
  · exact Keeps.refl
  · extract_lets +onlyGivenNames -merge -useContext -underBinder v1
    have h1 : Keeps 24623869 s v1 := by
      unfold v1
      refine Keeps.andThen ?_ State.modPort_keeps (by rfl)
      refine Keeps.andThen ?_ State.sendLocal_keeps (by rfl)
      exact Keeps.refl
    refine Keeps.andThen ?_ State.evFault_keeps (by rfl)
    exact h1

end Sys2Proof.Machine
end

