-- ==== Sys2Proof/Laws/KeepProtocol.lean ====
section
/-! SUPPORT. One lemma for each operation of Machine/Protocol.lean: the parts it may change, and that what must last lasts. -/

namespace Sys2Proof.Machine

theorem State.upLoss_keeps {s a1 a2} : Keeps 1048588 s (State.upLoss s a1 a2) := by
  unfold State.upLoss
  extract_lets +onlyGivenNames -merge -useContext -underBinder v1
  have h1 : Keeps 1048588 s v1 := by
    unfold v1
    refine Keeps.andThen ?_ State.bumpN_keeps (by rfl)
    refine Keeps.andThen ?_ State.bumpN_keeps (by rfl)
    exact Keeps.refl
  refine Keeps.foldl ?_ (fun t2 x2 h2 => ?_)
  · exact h1
  · refine Keeps.andThen ?_ State.elasticLoss_keeps (by rfl)
    exact h2

theorem State.takeSeq_keeps {s a1 a2 a3} : KeepsR 32772 s (State.takeSeq s a1 a2 a3) := by
  unfold State.takeSeq
  extract_lets +onlyGivenNames -merge -useContext -underBinder v1
  split
  · extract_lets +onlyGivenNames -merge -useContext -underBinder v2
    have h2 : Keeps 32772 s v2 := by
      unfold v2
      refine Keeps.andThen ?_ State.modPort_keeps (by rfl)
      exact Keeps.refl
    split
    · refine KeepsR.mk ?_
      refine Keeps.andThen ?_ State.bumpN_keeps (by rfl)
      exact h2
    · refine KeepsR.mk ?_
      refine Keeps.andThen ?_ State.bump_keeps (by rfl)
      exact h2

theorem State.judgeSplit_keeps {s a1} : Keeps 24623869 s (State.judgeSplit s a1) := by
  unfold State.judgeSplit
  extract_lets +onlyGivenNames -merge -useContext -underBinder v1
  extract_lets +onlyGivenNames -merge -useContext -underBinder v2
  refine Keeps.ite (fun _ => ?_) (fun _ => ?_)
  · refine Keeps.andThen ?_ State.evFault_keeps (by rfl)
    refine Keeps.andThen ?_ State.modRport_keeps (by rfl)
    exact Keeps.refl
  · refine Keeps.ite (fun _ => ?_) (fun _ => ?_)
    · refine Keeps.andThen ?_ State.ev_keeps (by rfl)
      refine Keeps.andThen ?_ State.modRport_keeps (by rfl)
      exact Keeps.refl
    · exact Keeps.refl

theorem State.granted_keeps {s a1 a2} : Keeps 24623869 s (State.granted s a1 a2) := by
  unfold State.granted
  extract_lets +onlyGivenNames -merge -useContext -underBinder v1
  extract_lets +onlyGivenNames -merge -useContext -underBinder v2
  extract_lets +onlyGivenNames -merge -useContext -underBinder v3
  have h3 : Keeps 24623869 s v3 := by
    unfold v3
    refine Keeps.andThen ?_ State.modTile_keeps (by rfl)
    exact Keeps.refl
  extract_lets +onlyGivenNames -merge -useContext -underBinder v4
  have h4 : Keeps 24623869 s v4 := by
    unfold v4
    refine Keeps.ite (fun _ => ?_) (fun _ => ?_)
    · refine Keeps.andThen ?_ State.modPort_keeps (by rfl)
      exact h3
    · exact h3
  extract_lets +onlyGivenNames -merge -useContext -underBinder v5
  have h5 : Keeps 24623869 s v5 := by
    unfold v5
    refine Keeps.andThen ?_ State.ev_keeps (by rfl)
    exact h4
  extract_lets +onlyGivenNames -merge -useContext -underBinder v6
  have h6 : Keeps 24623869 s v6 := by
    unfold v6
    split
    · extract_lets +onlyGivenNames -merge -useContext -underBinder v7
      refine Keeps.andThen ?_ (Keeps.rl) (by rfl)
      exact h5
    · exact h5
  refine Keeps.andThen ?_ State.judgeSplit_keeps (by rfl)
  exact h6

theorem State.setHolder_keeps {s a1 a2} : Keeps 24623869 s (State.setHolder s a1 a2) := by
  unfold State.setHolder
  refine Keeps.ite (fun _ => ?_) (fun _ => ?_)
  · refine Keeps.ite (fun _ => ?_) (fun _ => ?_)
    · exact Keeps.refl
    · refine Keeps.andThen ?_ State.granted_keeps (by rfl)
      exact Keeps.refl
  · refine Keeps.andThen ?_ State.judgeSplit_keeps (by rfl)
    refine Keeps.andThen ?_ State.modTile_keeps (by rfl)
    exact Keeps.refl

theorem State.takeTemp_keeps {s a1 a2} : Keeps 18939904 s (State.takeTemp s a1 a2) := by
  unfold State.takeTemp
  extract_lets +onlyGivenNames -merge -useContext -underBinder v1
  extract_lets +onlyGivenNames -merge -useContext -underBinder v2
  have h2 : Keeps 18939904 s v2 := by
    unfold v2
    refine Keeps.andThen ?_ State.modTile_keeps (by rfl)
    exact Keeps.refl
  refine Keeps.ite (fun _ => ?_) (fun _ => ?_)
  · refine Keeps.andThen ?_ State.relayTile_keeps (by rfl)
    exact h2
  · exact h2

theorem State.tileRecord_keeps {s a1 a2 a3} : Keeps 24623869 s (State.tileRecord s a1 a2 a3) := by
  unfold State.tileRecord
  split
  · exact Keeps.refl
  · extract_lets +onlyGivenNames -merge -useContext -underBinder v1
    extract_lets +onlyGivenNames -merge -useContext -underBinder v2
    have h2 : Keeps 24623869 s v2 := by
      unfold v2
      refine Keeps.ite (fun _ => ?_) (fun _ => ?_)
      · exact Keeps.refl
      · refine Keeps.andThen ?_ State.ev_keeps (by rfl)
        refine Keeps.andThen ?_ State.modTile_keeps (by rfl)
        exact Keeps.refl
    extract_lets +onlyGivenNames -merge -useContext -underBinder v3
    refine Keeps.ite (fun _ => ?_) (fun _ => ?_)
    · refine Keeps.andThen ?_ State.modTile_keeps (by rfl)
      exact h2
    · extract_lets +onlyGivenNames -merge -useContext -underBinder v4
      have h4 : Keeps 24623869 s v4 := by
        unfold v4
        refine Keeps.andThen ?_ State.setHolder_keeps (by rfl)
        exact h2
      refine Keeps.ite (fun _ => ?_) (fun _ => ?_)
      · refine Keeps.andThen ?_ State.takeTemp_keeps (by rfl)
        exact h4
      · exact h4

theorem State.senseRecord_keeps {s a1 a2 a3} : Keeps 65536 s (State.senseRecord s a1 a2 a3) := by
  unfold State.senseRecord
  extract_lets +onlyGivenNames -merge -useContext -underBinder v1
  extract_lets +onlyGivenNames -merge -useContext -underBinder v2
  refine Keeps.andThen ?_ State.modTile_keeps (by rfl)
  exact Keeps.refl

theorem State.ageLost_keeps {s a1 a2 a3} : Keeps 98316 s (State.ageLost s a1 a2 a3) := by
  unfold State.ageLost
  extract_lets +onlyGivenNames -merge -useContext -underBinder v1
  have h1 : Keeps 98316 s v1 := by
    unfold v1
    refine Keeps.andThen ?_ State.modTile_keeps (by rfl)
    exact Keeps.refl
  extract_lets +onlyGivenNames -merge -useContext -underBinder v2
  have h2 : Keeps 98316 s v2 := by
    unfold v2
    refine Keeps.andThen ?_ State.ev_keeps (by rfl)
    refine Keeps.andThen ?_ State.bump_keeps (by rfl)
    exact h1
  refine Keeps.andThen ?_ State.ageFill_keeps (by rfl)
  exact h2

theorem State.ageAgain_keeps {s a1 a2 a3} : Keeps 98316 s (State.ageAgain s a1 a2 a3) := by
  unfold State.ageAgain
  refine Keeps.ite (fun _ => ?_) (fun _ => ?_)
  · refine Keeps.andThen ?_ State.ageLost_keeps (by rfl)
    exact Keeps.refl
  · extract_lets +onlyGivenNames -merge -useContext -underBinder v1
    have h1 : Keeps 98316 s v1 := by
      unfold v1
      refine Keeps.andThen ?_ State.modTile_keeps (by rfl)
      exact Keeps.refl
    refine Keeps.andThen ?_ State.queueFrame_keeps (by rfl)
    exact h1

theorem State.ackRecord_keeps {s a1 a2 a3 a4} : Keeps 98316 s (State.ackRecord s a1 a2 a3 a4) := by
  unfold State.ackRecord
  split
  · exact Keeps.refl
  · split
    · exact Keeps.refl
    · refine Keeps.ite (fun _ => ?_) (fun _ => ?_)
      · refine Keeps.andThen ?_ State.ageAgain_keeps (by rfl)
        exact Keeps.refl
      · refine Keeps.ite (fun _ => ?_) (fun _ => ?_)
        · refine Keeps.andThen ?_ State.ageLost_keeps (by rfl)
          exact Keeps.refl
        · refine Keeps.andThen ?_ State.ageFill_keeps (by rfl)
          refine Keeps.andThen ?_ State.modTile_keeps (by rfl)
          exact Keeps.refl

theorem execAgeAckTimeout_keeps {a0 a1 s} : Answers 98316 s (execAgeAckTimeout a0 a1 s) := by
  unfold execAgeAckTimeout
  split
  · refine Answers.next ?_
    exact Keeps.refl
  · split
    · refine Answers.next ?_
      exact Keeps.refl
    · refine Answers.next ?_
      refine Keeps.andThen ?_ State.ageAgain_keeps (by rfl)
      exact Keeps.refl

theorem State.laneLost_keeps {a0 a1 s a3} : Keeps 24623869 s (State.laneLost a0 a1 s a3) := by
  unfold State.laneLost
  extract_lets +onlyGivenNames -merge -useContext -underBinder v1
  extract_lets +onlyGivenNames -merge -useContext -underBinder v2
  have h2 : Keeps 24623869 s v2 := by
    unfold v2
    refine Keeps.andThen ?_ State.modPort_keeps (by rfl)
    exact Keeps.refl
  refine Keeps.ite (fun _ => ?_) (fun _ => ?_)
  · refine Keeps.andThen ?_ State.degrade_keeps (by rfl)
    exact h2
  · exact h2

theorem State.lanesRecord_keeps {s a1 a2 a3} : Keeps 24623869 s (State.lanesRecord s a1 a2 a3) := by
  unfold State.lanesRecord
  split
  · exact Keeps.refl
  · extract_lets +onlyGivenNames -merge -useContext -underBinder v1
    extract_lets +onlyGivenNames -merge -useContext -underBinder v2
    extract_lets +onlyGivenNames -merge -useContext -underBinder v3
    extract_lets +onlyGivenNames -merge -useContext -underBinder v4
    extract_lets +onlyGivenNames -merge -useContext -underBinder v5
    extract_lets +onlyGivenNames -merge -useContext -underBinder v6
    have h6 : Keeps 24623869 s v6 := by
      unfold v6
      refine Keeps.ite (fun _ => ?_) (fun _ => ?_)
      · refine Keeps.andThen ?_ State.abortCal_keeps (by rfl)
        exact Keeps.refl
      · exact Keeps.refl
    extract_lets +onlyGivenNames -merge -useContext -underBinder v7
    have h7 : Keeps 24623869 s v7 := by
      unfold v7
      refine Keeps.foldl ?_ (fun t8 x8 h8 => ?_)
      · exact h6
      · refine Keeps.andThen ?_ State.laneLost_keeps (by rfl)
        exact h8
    extract_lets +onlyGivenNames -merge -useContext -underBinder v9
    have h9 : Keeps 24623869 s v9 := by
      unfold v9
      split
      · refine Keeps.ite (fun _ => ?_) (fun _ => ?_)
        · extract_lets +onlyGivenNames -merge -useContext -underBinder v10
          have h10 : Keeps 24623869 s v10 := by
            unfold v10
            refine Keeps.andThen ?_ State.modPort_keeps (by rfl)
            exact h7
          refine Keeps.ite (fun _ => ?_) (fun _ => ?_)
          · exact h10
          · refine Keeps.andThen ?_ State.degrade_keeps (by rfl)
            exact h10
        · exact h7
      · exact h7
    extract_lets +onlyGivenNames -merge -useContext -underBinder v11
    extract_lets +onlyGivenNames -merge -useContext -underBinder v12
    refine Keeps.andThen ?_ State.modTile_keeps (by rfl)
    exact h9

theorem State.hopRecord_keeps {s a1 a2 a3} : Keeps 2162688 s (State.hopRecord s a1 a2 a3) := by
  unfold State.hopRecord
  split
  · split
    · split
      · refine Keeps.andThen ?_ State.modTile_keeps (by rfl)
        exact Keeps.refl
      · exact Keeps.refl
  · refine Keeps.ite (fun _ => ?_) (fun _ => ?_)
    · refine Keeps.andThen ?_ State.modRport_keeps (by rfl)
      exact Keeps.refl
    · exact Keeps.refl

theorem State.countsRecord_keeps {s a1 a2 a3} : Keeps 1048588 s (State.countsRecord s a1 a2 a3) := by
  unfold State.countsRecord
  extract_lets +onlyGivenNames -merge -useContext -underBinder v1
  refine Keeps.ite (fun _ => ?_) (fun _ => ?_)
  · exact Keeps.refl
  · refine Keeps.andThen ?_ State.surge_keeps (by rfl)
    refine Keeps.andThen ?_ State.ev_keeps (by rfl)
    refine Keeps.andThen ?_ State.bumpN_keeps (by rfl)
    exact Keeps.refl

theorem State.statusRecord_keeps {a0 a1 s a3} : Keeps 24623869 s (State.statusRecord a0 a1 s a3) := by
  unfold State.statusRecord
  extract_lets +onlyGivenNames -merge -useContext -underBinder v1
  extract_lets +onlyGivenNames -merge -useContext -underBinder v2
  split
  · refine Keeps.andThen ?_ State.tileRecord_keeps (by rfl)
    exact Keeps.refl
  · refine Keeps.andThen ?_ State.lanesRecord_keeps (by rfl)
    exact Keeps.refl
  · refine Keeps.ite (fun _ => ?_) (fun _ => ?_)
    · refine Keeps.andThen ?_ State.senseRecord_keeps (by rfl)
      exact Keeps.refl
    · exact Keeps.refl
  · refine Keeps.ite (fun _ => ?_) (fun _ => ?_)
    · refine Keeps.andThen ?_ State.lampReport_keeps (by rfl)
      exact Keeps.refl
    · exact Keeps.refl
  · refine Keeps.ite (fun _ => ?_) (fun _ => ?_)
    · refine Keeps.andThen ?_ State.probeResult_keeps (by rfl)
      exact Keeps.refl
    · exact Keeps.refl
  · refine Keeps.ite (fun _ => ?_) (fun _ => ?_)
    · refine Keeps.andThen ?_ State.ackRecord_keeps (by rfl)
      exact Keeps.refl
    · exact Keeps.refl
  · refine Keeps.ite (fun _ => ?_) (fun _ => ?_)
    · refine Keeps.andThen ?_ State.calRecord_keeps (by rfl)
      exact Keeps.refl
    · exact Keeps.refl
  · refine Keeps.ite (fun _ => ?_) (fun _ => ?_)
    · refine Keeps.andThen ?_ State.hopRecord_keeps (by rfl)
      exact Keeps.refl
    · exact Keeps.refl
  · refine Keeps.ite (fun _ => ?_) (fun _ => ?_)
    · refine Keeps.andThen ?_ State.countsRecord_keeps (by rfl)
      exact Keeps.refl
    · exact Keeps.refl
  · exact Keeps.refl

theorem execStatusFrameRx_keeps {a0 a1 a2 s} : Answers 24623869 s (execStatusFrameRx a0 a1 a2 s) := by
  unfold execStatusFrameRx
  refine Answers.ite (fun _ => ?_) (fun _ => ?_)
  · refine Answers.next ?_
    exact Keeps.refl
  · extract_lets +onlyGivenNames -merge -useContext -underBinder v1
    have h1 : Keeps 24623869 s v1 := by
      unfold v1
      refine Keeps.andThen ?_ State.upLoss_keeps (by rfl)
      exact Keeps.refl
    split
    · refine Answers.next ?_
      refine Keeps.andThen ?_ State.bump_keeps (by rfl)
      exact h1
    · refine Answers.ite (fun _ => ?_) (fun _ => ?_)
      · refine Answers.next ?_
        exact Keeps.refl
      · split
        · rename_i y2_0 t2 e2
          have h2 : Keeps 24623869 s t2 := by
            refine Keeps.snd (e := _) ?_ e2
            refine KeepsR.andThen ?_ State.takeSeq_keeps (by rfl)
            exact h1
          refine Answers.ite (fun _ => ?_) (fun _ => ?_)
          · refine Answers.next ?_
            refine Keeps.foldl ?_ (fun t3 x3 h3 => ?_)
            · exact h2
            · refine Keeps.andThen ?_ State.statusRecord_keeps (by rfl)
              exact h3
          · refine Answers.next ?_
            exact h2

theorem State.enumAnswer_keeps {s a1 a2 a3} : Keeps 25148157 s (State.enumAnswer s a1 a2 a3) := by
  unfold State.enumAnswer
  extract_lets +onlyGivenNames -merge -useContext -underBinder v1
  refine Keeps.ite (fun _ => ?_) (fun _ => ?_)
  · exact Keeps.refl
  · extract_lets +onlyGivenNames -merge -useContext -underBinder v2
    have h2 : Keeps 25148157 s v2 := by
      unfold v2
      refine Keeps.andThen ?_ State.modCensus_keeps (by rfl)
      exact Keeps.refl
    refine Keeps.ite (fun _ => ?_) (fun _ => ?_)
    · refine Keeps.andThen ?_ State.endEnum_keeps (by rfl)
      exact h2
    · refine Keeps.andThen ?_ State.sendEnum_keeps (by rfl)
      exact h2

theorem State.readAnswer_keeps {s a1 a2 a3} : Keeps 25148157 s (State.readAnswer s a1 a2 a3) := by
  unfold State.readAnswer
  extract_lets +onlyGivenNames -merge -useContext -underBinder v1
  split
  · exact Keeps.refl
  · refine Keeps.ite (fun _ => ?_) (fun _ => ?_)
    · exact Keeps.refl
    · extract_lets +onlyGivenNames -merge -useContext -underBinder v2
      extract_lets +onlyGivenNames -merge -useContext -underBinder v3
      have h3 : Keeps 25148157 s v3 := by
        unfold v3
        refine Keeps.andThen ?_ State.modTile_keeps (by rfl)
        exact Keeps.refl
      refine Keeps.andThen ?_ State.nextReads_keeps (by rfl)
      refine Keeps.andThen ?_ State.modCensus_keeps (by rfl)
      exact h3

theorem execCensusDataRx_keeps {a0 a1 a2 s} : Answers 25148157 s (execCensusDataRx a0 a1 a2 s) := by
  unfold execCensusDataRx
  refine Answers.ite (fun _ => ?_) (fun _ => ?_)
  · refine Answers.next ?_
    exact Keeps.refl
  · extract_lets +onlyGivenNames -merge -useContext -underBinder v1
    have h1 : Keeps 25148157 s v1 := by
      unfold v1
      refine Keeps.andThen ?_ State.upLoss_keeps (by rfl)
      exact Keeps.refl
    split
    · refine Answers.next ?_
      refine Keeps.andThen ?_ State.bump_keeps (by rfl)
      exact h1
    · refine Answers.ite (fun _ => ?_) (fun _ => ?_)
      · refine Answers.next ?_
        exact Keeps.refl
      · split
        · rename_i y2_0 t2 e2
          have h2 : Keeps 25148157 s t2 := by
            refine Keeps.snd (e := _) ?_ e2
            refine KeepsR.andThen ?_ State.takeSeq_keeps (by rfl)
            exact h1
          refine Answers.ite (fun _ => ?_) (fun _ => ?_)
          · refine Answers.next ?_
            exact h2
          · refine Answers.ite (fun _ => ?_) (fun _ => ?_)
            · refine Answers.next ?_
              refine Keeps.andThen ?_ State.enumAnswer_keeps (by rfl)
              exact h2
            · refine Answers.ite (fun _ => ?_) (fun _ => ?_)
              · refine Answers.next ?_
                refine Keeps.andThen ?_ State.readAnswer_keeps (by rfl)
                exact h2
              · refine Answers.next ?_
                exact h2

theorem execCensusEnumTimeout_keeps {a0 s} : Answers 25148157 s (execCensusEnumTimeout a0 s) := by
  unfold execCensusEnumTimeout
  extract_lets +onlyGivenNames -merge -useContext -underBinder v1
  refine Answers.ite (fun _ => ?_) (fun _ => ?_)
  · refine Answers.next ?_
    refine Keeps.andThen ?_ State.endEnum_keeps (by rfl)
    exact Keeps.refl
  · refine Answers.next ?_
    exact Keeps.refl

theorem State.dropTile_keeps {s a1 a2} : Keeps 25148157 s (State.dropTile s a1 a2) := by
  unfold State.dropTile
  split
  · exact Keeps.refl
  · extract_lets +onlyGivenNames -merge -useContext -underBinder v1
    have h1 : Keeps 25148157 s v1 := by
      unfold v1
      refine Keeps.andThen ?_ State.modTile_keeps (by rfl)
      exact Keeps.refl
    extract_lets +onlyGivenNames -merge -useContext -underBinder v2
    have h2 : Keeps 25148157 s v2 := by
      unfold v2
      refine Keeps.andThen ?_ State.modCensus_keeps (by rfl)
      exact h1
    refine Keeps.andThen ?_ State.nextReads_keeps (by rfl)
    refine Keeps.ite (fun _ => ?_) (fun _ => ?_)
    · refine Keeps.andThen ?_ State.refused_keeps (by rfl)
      exact h2
    · exact h2

theorem execCensusReadTimeout_keeps {a0 s} : Answers 25148157 s (execCensusReadTimeout a0 s) := by
  unfold execCensusReadTimeout
  extract_lets +onlyGivenNames -merge -useContext -underBinder v1
  extract_lets +onlyGivenNames -merge -useContext -underBinder v2
  clear_value v2
  split
  · refine Answers.next ?_
    exact Keeps.refl
  · refine Answers.ite (fun _ => ?_) (fun _ => ?_)
    · refine Answers.next ?_
      exact Keeps.refl
    · refine Answers.ite (fun _ => ?_) (fun _ => ?_)
      · refine Answers.next ?_
        refine Keeps.andThen ?_ State.dropTile_keeps (by rfl)
        exact Keeps.refl
      · extract_lets +onlyGivenNames -merge -useContext -underBinder v3
        have h3 : Keeps 25148157 s v3 := by
          unfold v3
          refine Keeps.andThen ?_ State.modCensus_keeps (by rfl)
          exact Keeps.refl
        refine Answers.next ?_
        refine Keeps.andThen ?_ State.sendRead_keeps (by rfl)
        refine Keeps.andThen ?_ State.bump_keeps (by rfl)
        exact h3

end Sys2Proof.Machine
end

