-- ==== Sys2Proof/Laws/KeepNet.lean ====
section
/-! SUPPORT. One lemma for each operation of Machine/Net.lean: the parts it may change, and that what must last lasts. -/

namespace Sys2Proof.Machine

theorem State.rxDiscard_keeps {s a1} : Keeps 4 s (State.rxDiscard s a1) := by
  unfold State.rxDiscard
  refine Keeps.andThen ?_ State.bump_keeps (by rfl)
  exact Keeps.refl

theorem State.macsecOpen_keeps {s a1 a2} : KeepsOR 512 s (State.macsecOpen s a1 a2) := by
  unfold State.macsecOpen
  split
  · exact KeepsOR.none
  · extract_lets +onlyGivenNames -merge -useContext -underBinder v1
    extract_lets +onlyGivenNames -merge -useContext -underBinder v2
    extract_lets +onlyGivenNames -merge -useContext -underBinder v3
    extract_lets +onlyGivenNames -merge -useContext -underBinder v4
    extract_lets +onlyGivenNames -merge -useContext -underBinder v5
    extract_lets +onlyGivenNames -merge -useContext -underBinder v6
    extract_lets +onlyGivenNames -merge -useContext -underBinder v7
    refine KeepsOR.ite (fun _ => ?_) (fun _ => ?_)
    · exact KeepsOR.none
    · split
      · exact KeepsOR.none
      · refine KeepsOR.some ?_
        refine Keeps.andThen ?_ State.modMac_keeps (by rfl)
        exact Keeps.refl

theorem State.udpTake_keeps {s a1 a2 a3 a4 a5 a6} : Keeps 25164541 s (State.udpTake s a1 a2 a3 a4 a5 a6) := by
  unfold State.udpTake
  refine Keeps.ite (fun _ => ?_) (fun _ => ?_)
  · refine Keeps.andThen ?_ State.rxPtp_keeps (by rfl)
    exact Keeps.refl
  · refine Keeps.ite (fun _ => ?_) (fun _ => ?_)
    · refine Keeps.andThen ?_ State.cueDatagram_keeps (by rfl)
      exact Keeps.refl
    · refine Keeps.foldl ?_ (fun t1 x1 h1 => ?_)
      · exact Keeps.refl
      · split
        · refine Keeps.foldl ?_ (fun t2 x2 h2 => ?_)
          · exact h1
          · refine Keeps.ite (fun _ => ?_) (fun _ => ?_)
            · refine Keeps.andThen ?_ State.flowPacket_keeps (by rfl)
              exact h2
            · exact h2
        · exact h1

theorem State.ipTake_keeps {s a1 a2 a3} : Keeps 25164541 s (State.ipTake s a1 a2 a3) := by
  unfold State.ipTake
  extract_lets +onlyGivenNames -merge -useContext -underBinder v1
  extract_lets +onlyGivenNames -merge -useContext -underBinder v2
  extract_lets +onlyGivenNames -merge -useContext -underBinder v3
  extract_lets +onlyGivenNames -merge -useContext -underBinder v4
  extract_lets +onlyGivenNames -merge -useContext -underBinder v5
  extract_lets +onlyGivenNames -merge -useContext -underBinder v6
  extract_lets +onlyGivenNames -merge -useContext -underBinder v7
  extract_lets +onlyGivenNames -merge -useContext -underBinder v8
  refine Keeps.ite (fun _ => ?_) (fun _ => ?_)
  · refine Keeps.andThen ?_ State.rxDiscard_keeps (by rfl)
    exact Keeps.refl
  · refine Keeps.ite (fun _ => ?_) (fun _ => ?_)
    · refine Keeps.andThen ?_ State.rxDiscard_keeps (by rfl)
      exact Keeps.refl
    · extract_lets +onlyGivenNames -merge -useContext -underBinder v9
      refine Keeps.ite (fun _ => ?_) (fun _ => ?_)
      · refine Keeps.andThen ?_ State.igmp_keeps (by rfl)
        exact Keeps.refl
      · refine Keeps.ite (fun _ => ?_) (fun _ => ?_)
        · refine Keeps.andThen ?_ State.rxDiscard_keeps (by rfl)
          exact Keeps.refl
        · extract_lets +onlyGivenNames -merge -useContext -underBinder v10
          extract_lets +onlyGivenNames -merge -useContext -underBinder v11
          refine Keeps.ite (fun _ => ?_) (fun _ => ?_)
          · refine Keeps.andThen ?_ State.rxDiscard_keeps (by rfl)
            exact Keeps.refl
          · refine Keeps.andThen ?_ State.udpTake_keeps (by rfl)
            exact Keeps.refl

theorem State.ethTake_keeps {s a1 a2 a3 a4} : Keeps 25164541 s (State.ethTake s a1 a2 a3 a4) := by
  unfold State.ethTake
  split
  · refine Keeps.andThen ?_ State.rxDiscard_keeps (by rfl)
    exact Keeps.refl
  · refine Keeps.ite (fun _ => ?_) (fun _ => ?_)
    · refine Keeps.andThen ?_ State.rxDiscard_keeps (by rfl)
      exact Keeps.refl
    · refine Keeps.ite (fun _ => ?_) (fun _ => ?_)
      · refine Keeps.andThen ?_ State.arp_keeps (by rfl)
        exact Keeps.refl
      · refine Keeps.ite (fun _ => ?_) (fun _ => ?_)
        · refine Keeps.andThen ?_ State.ipTake_keeps (by rfl)
          exact Keeps.refl
        · refine Keeps.andThen ?_ State.rxDiscard_keeps (by rfl)
          exact Keeps.refl

theorem execEthFrameRx_keeps {a0 a1 a2 s} : Answers 25164541 s (execEthFrameRx a0 a1 a2 s) := by
  unfold execEthFrameRx
  extract_lets +onlyGivenNames -merge -useContext -underBinder v1
  refine Answers.ite (fun _ => ?_) (fun _ => ?_)
  · refine Answers.next ?_
    exact Keeps.refl
  · extract_lets +onlyGivenNames -merge -useContext -underBinder v2
    have h2 : Keeps 25164541 s v2 := by
      unfold v2
      refine Keeps.andThen ?_ State.bumpN_keeps (by rfl)
      refine Keeps.andThen ?_ State.bumpN_keeps (by rfl)
      exact Keeps.refl
    extract_lets +onlyGivenNames -merge -useContext -underBinder v3
    refine Answers.ite (fun _ => ?_) (fun _ => ?_)
    · refine Answers.next ?_
      refine Keeps.andThen ?_ State.elasticLoss_keeps (by rfl)
      exact h2
    · refine Answers.ite (fun _ => ?_) (fun _ => ?_)
      · refine Answers.next ?_
        refine Keeps.andThen ?_ State.rxDiscard_keeps (by rfl)
        exact h2
      · extract_lets +onlyGivenNames -merge -useContext -underBinder v4
        refine Answers.ite (fun _ => ?_) (fun _ => ?_)
        · split
          · refine Answers.next ?_
            refine Keeps.andThen ?_ State.bump_keeps (by rfl)
            exact h2
          · rename_i y5_0 t5 e5
            have h5 : Keeps 25164541 s t5 := by
              refine (?_ : KeepsOR 25164541 s _) _ _ e5
              refine KeepsOR.andThen ?_ State.macsecOpen_keeps (by rfl)
              exact h2
            refine Answers.next ?_
            refine Keeps.andThen ?_ State.ethTake_keeps (by rfl)
            exact h5
        · refine Answers.next ?_
          refine Keeps.andThen ?_ State.ethTake_keeps (by rfl)
          exact h2

end Sys2Proof.Machine
end

