-- ==== Sys2Proof/Laws/KeepHost.lean ====
section
/-! SUPPORT. One lemma for each operation of Machine/Host.lean: the parts it may change, and that what must last lasts. -/

namespace Sys2Proof.Machine

theorem execPcieLinkTrained_keeps {a0 a1 a2 a3 s} : Answers 811148 s (execPcieLinkTrained a0 a1 a2 a3 s) := by
  unfold execPcieLinkTrained
  refine Answers.ite (fun _ => ?_) (fun _ => ?_)
  · refine Answers.next ?_
    exact Keeps.refl
  · extract_lets +onlyGivenNames -merge -useContext -underBinder v1
    have h1 : Keeps 811148 s v1 := by
      unfold v1
      refine Keeps.ite (fun _ => ?_) (fun _ => ?_)
      · exact Keeps.refl
      · refine Keeps.andThen ?_ State.detach_keeps (by rfl)
        exact Keeps.refl
    extract_lets +onlyGivenNames -merge -useContext -underBinder v2
    extract_lets +onlyGivenNames -merge -useContext -underBinder v3
    have h3 : Keeps 811148 s v3 := by
      unfold v3
      refine Keeps.andThen ?_ (Keeps.host) (by rfl)
      exact h1
    refine Answers.next ?_
    refine Keeps.ite (fun _ => ?_) (fun _ => ?_)
    · refine Keeps.andThen ?_ State.ev_keeps (by rfl)
      exact h3
    · exact h3

theorem execPcieLinkDown_keeps {s} : Answers 811148 s (execPcieLinkDown s) := by
  unfold execPcieLinkDown
  refine Answers.next ?_
  refine Keeps.andThen ?_ State.linkDown_keeps (by rfl)
  exact Keeps.refl

theorem execFunctionLevelReset_keeps {s} : Answers 811148 s (execFunctionLevelReset s) := by
  unfold execFunctionLevelReset
  extract_lets +onlyGivenNames -merge -useContext -underBinder v1
  have h1 : Keeps 811148 s v1 := by
    unfold v1
    refine Keeps.andThen ?_ State.detach_keeps (by rfl)
    exact Keeps.refl
  refine Answers.next ?_
  refine Keeps.andThen ?_ (Keeps.host) (by rfl)
  exact h1

theorem execHotReset_keeps {s} : Answers 811148 s (execHotReset s) := by
  unfold execHotReset
  refine Answers.next ?_
  refine Keeps.andThen ?_ State.linkDown_keeps (by rfl)
  exact Keeps.refl

theorem execD3hotEntry_keeps {s} : Answers 811148 s (execD3hotEntry s) := by
  unfold execD3hotEntry
  extract_lets +onlyGivenNames -merge -useContext -underBinder v1
  have h1 : Keeps 811148 s v1 := by
    unfold v1
    refine Keeps.andThen ?_ State.detach_keeps (by rfl)
    exact Keeps.refl
  refine Answers.next ?_
  refine Keeps.andThen ?_ (Keeps.host) (by rfl)
  exact h1

theorem execBusMasterEnableClear_keeps {s} : Answers 811148 s (execBusMasterEnableClear s) := by
  unfold execBusMasterEnableClear
  extract_lets +onlyGivenNames -merge -useContext -underBinder v1
  have h1 : Keeps 811148 s v1 := by
    unfold v1
    refine Keeps.andThen ?_ State.detach_keeps (by rfl)
    exact Keeps.refl
  refine Answers.next ?_
  refine Keeps.andThen ?_ (Keeps.host) (by rfl)
  exact h1

theorem execPePerstAssert_keeps {s} : Answers 811148 s (execPePerstAssert s) := by
  unfold execPePerstAssert
  extract_lets +onlyGivenNames -merge -useContext -underBinder v1
  have h1 : Keeps 811148 s v1 := by
    unfold v1
    refine Keeps.andThen ?_ State.linkDown_keeps (by rfl)
    exact Keeps.refl
  refine Answers.next ?_
  refine Keeps.andThen ?_ (Keeps.host) (by rfl)
  exact h1

theorem execPePerstRelease_keeps {s} : Answers 262144 s (execPePerstRelease s) := by
  unfold execPePerstRelease
  refine Answers.ite (fun _ => ?_) (fun _ => ?_)
  · refine Answers.next ?_
    refine Keeps.andThen ?_ (Keeps.host) (by rfl)
    exact Keeps.refl
  · refine Answers.next ?_
    exact Keeps.refl

theorem State.ringDrain_keeps {s n} : Keeps 16777228 s (State.ringDrain s n) := by
  induction n generalizing s with
  | zero => exact Keeps.refl
  | succ n ih =>
    unfold State.ringDrain
    refine Keeps.ite (fun _ => Keeps.refl) (fun _ => ?_)
    exact Keeps.andThen (Keeps.refl.andThen State.ringStep_keeps (by rfl)) ih (by rfl)

theorem State.attach_keeps {s} : Keeps 17039374 s (State.attach s) := by
  unfold State.attach
  refine Keeps.ite (fun _ => ?_) (fun _ => ?_)
  · exact Keeps.refl
  · refine Keeps.ite (fun _ => ?_) (fun _ => ?_)
    · refine Keeps.andThen ?_ (Keeps.host) (by rfl)
      exact Keeps.refl
    · extract_lets +onlyGivenNames -merge -useContext -underBinder v1
      extract_lets +onlyGivenNames -merge -useContext -underBinder v2
      extract_lets +onlyGivenNames -merge -useContext -underBinder v3
      have h3 : Keeps 17039374 s v3 := by
        unfold v3
        refine Keeps.andThen ?_ (Keeps.evt_host (by exact fun h => h)) (by rfl)
        exact Keeps.refl
      extract_lets +onlyGivenNames -merge -useContext -underBinder v4
      have h4 : Keeps 17039374 s v4 := by
        unfold v4
        refine Keeps.andThen ?_ State.ringDrain_keeps (by rfl)
        refine Keeps.andThen ?_ State.setRw_keeps (by rfl)
        exact h3
      refine Keeps.ite (fun _ => ?_) (fun _ => ?_)
      · refine Keeps.andThen ?_ State.writeIndex_keeps (by rfl)
        exact h4
      · exact h4

theorem State.writeAttach_keeps {s a1} : Keeps 17588366 s (State.writeAttach s a1) := by
  unfold State.writeAttach
  extract_lets +onlyGivenNames -merge -useContext -underBinder v1
  have h1 : Keeps 17588366 s v1 := by
    unfold v1
    refine Keeps.ite (fun _ => ?_) (fun _ => ?_)
    · refine Keeps.andThen ?_ State.detach_keeps (by rfl)
      exact Keeps.refl
    · exact Keeps.refl
  refine Keeps.ite (fun _ => ?_) (fun _ => ?_)
  · refine Keeps.andThen ?_ State.attach_keeps (by rfl)
    exact h1
  · exact h1

theorem execAttach_keeps {a0 s} : Answers 17588366 s (execAttach a0 s) := by
  unfold execAttach
  refine Answers.next ?_
  refine Keeps.andThen ?_ State.writeAttach_keeps (by rfl)
  exact Keeps.refl

theorem execDetach_keeps {a0 s} : Answers 17588366 s (execDetach a0 s) := by
  unfold execDetach
  refine Answers.next ?_
  refine Keeps.andThen ?_ State.writeAttach_keeps (by rfl)
  exact Keeps.refl

theorem State.modPull_keeps {s a1 a2} : Keeps 262144 s (State.modPull s a1 a2) := by
  unfold State.modPull
  refine Keeps.andThen ?_ State.modSurf_keeps (by rfl)
  exact Keeps.refl

theorem State.pullEntry_keeps {s a1 a2 a3} : Keeps 811020 s (State.pullEntry s a1 a2 a3) := by
  unfold State.pullEntry
  extract_lets +onlyGivenNames -merge -useContext -underBinder v1
  refine Keeps.ite (fun _ => ?_) (fun _ => ?_)
  · refine Keeps.andThen ?_ State.failPull_keeps (by rfl)
    exact Keeps.refl
  · refine Keeps.andThen ?_ State.modPull_keeps (by rfl)
    exact Keeps.refl

theorem State.pullLine_keeps {s a1 a2 a3 a4} : Keeps 786432 s (State.pullLine s a1 a2 a3 a4) := by
  unfold State.pullLine
  extract_lets +onlyGivenNames -merge -useContext -underBinder v1
  extract_lets +onlyGivenNames -merge -useContext -underBinder v2
  have h2 : Keeps 786432 s v2 := by
    unfold v2
    refine Keeps.andThen ?_ State.storeLine_keeps (by rfl)
    refine Keeps.andThen ?_ State.modSurf_keeps (by rfl)
    exact Keeps.refl
  refine Keeps.andThen ?_ State.modPull_keeps (by rfl)
  exact h2

theorem execPullCompletionRx_keeps {a0 a1 a2 s} : Answers 811020 s (execPullCompletionRx a0 a1 a2 s) := by
  unfold execPullCompletionRx
  split
  · refine Answers.ite (fun _ => ?_) (fun _ => ?_)
    · refine Answers.next ?_
      exact Keeps.refl
    · refine Answers.ite (fun _ => ?_) (fun _ => ?_)
      · refine Answers.next ?_
        refine Keeps.andThen ?_ State.failPull_keeps (by rfl)
        refine Keeps.andThen ?_ (Keeps.host) (by rfl)
        exact Keeps.refl
      · refine Answers.ite (fun _ => ?_) (fun _ => ?_)
        · refine Answers.ite (fun _ => ?_) (fun _ => ?_)
          · refine Answers.next ?_
            refine Keeps.andThen ?_ State.pullEntry_keeps (by rfl)
            exact Keeps.refl
          · refine Answers.next ?_
            exact Keeps.refl
        · refine Answers.ite (fun _ => ?_) (fun _ => ?_)
          · refine Answers.next ?_
            exact Keeps.refl
          · refine Answers.next ?_
            refine Keeps.andThen ?_ State.pullLine_keeps (by rfl)
            exact Keeps.refl
  · refine Answers.next ?_
    exact Keeps.refl

theorem execPullCompletionTimeout_keeps {a0 s} : Answers 811020 s (execPullCompletionTimeout a0 s) := by
  unfold execPullCompletionTimeout
  refine Answers.ite (fun _ => ?_) (fun _ => ?_)
  · refine Answers.next ?_
    refine Keeps.andThen ?_ State.failPull_keeps (by rfl)
    refine Keeps.andThen ?_ (Keeps.host) (by rfl)
    exact Keeps.refl
  · refine Answers.next ?_
    exact Keeps.refl

theorem execHsPullComplete_keeps {a0 s} : Answers 286732 s (execHsPullComplete a0 s) := by
  unfold execHsPullComplete
  split
  · refine Answers.ite (fun _ => ?_) (fun _ => ?_)
    · refine Answers.next ?_
      exact Keeps.refl
    · refine Answers.next ?_
      refine Keeps.andThen ?_ State.endPull_keeps (by rfl)
      exact Keeps.refl
  · refine Answers.next ?_
    exact Keeps.refl

end Sys2Proof.Machine
end

