-- ==== Sys2Proof/Laws/Fields.lean ====
section
/-! SUPPORT. What the shared operations leave, one lemma for each operation and field, from the operation's spec lemma. -/

namespace Sys2Proof.Machine

@[simp] theorem State.ev_regs_rws {s : State} {a1 a2} : (State.ev s a1 a2).regs.rws = s.regs.rws := State.ev_keeps.same .rws (by rfl)
@[simp] theorem State.ev_regs_rw {s : State} {a1 a2} : (State.ev s a1 a2).regs.rw = s.regs.rw := State.ev_keeps.same .rw (by rfl)
@[simp] theorem State.ev_p_flt {s : State} {a1 a2} : (State.ev s a1 a2).flt = s.flt := State.ev_keeps.same .flt (by rfl)
@[simp] theorem State.ev_p_hk {s : State} {a1 a2} : (State.ev s a1 a2).hk = s.hk := State.ev_keeps.same .hk (by rfl)
@[simp] theorem State.ev_p_boot {s : State} {a1 a2} : (State.ev s a1 a2).boot = s.boot := State.ev_keeps.same .boot (by rfl)
@[simp] theorem State.ev_p_nvm {s : State} {a1 a2} : (State.ev s a1 a2).nvm = s.nvm := State.ev_keeps.same .nvm (by rfl)
@[simp] theorem State.ev_p_fuses {s : State} {a1 a2} : (State.ev s a1 a2).fuses = s.fuses := State.ev_keeps.same .fuses (by rfl)
@[simp] theorem State.ev_p_sec {s : State} {a1 a2} : (State.ev s a1 a2).sec = s.sec := State.ev_keeps.same .sec (by rfl)
@[simp] theorem State.ev_p_cfg {s : State} {a1 a2} : (State.ev s a1 a2).cfg = s.cfg := State.ev_keeps.same .cfg (by rfl)
@[simp] theorem State.ev_p_tb {s : State} {a1 a2} : (State.ev s a1 a2).tb = s.tb := State.ev_keeps.same .tb (by rfl)
@[simp] theorem State.ev_p_tl {s : State} {a1 a2} : (State.ev s a1 a2).tl = s.tl := State.ev_keeps.same .tl (by rfl)
@[simp] theorem State.ev_p_sc {s : State} {a1 a2} : (State.ev s a1 a2).sc = s.sc := State.ev_keeps.same .sc (by rfl)
@[simp] theorem State.ev_p_warm {s : State} {a1 a2} : (State.ev s a1 a2).warm = s.warm := State.ev_keeps.same .warm (by rfl)
@[simp] theorem State.ev_p_ports {s : State} {a1 a2} : (State.ev s a1 a2).ports = s.ports := State.ev_keeps.same .ports (by rfl)
@[simp] theorem State.ev_p_tiles {s : State} {a1 a2} : (State.ev s a1 a2).tiles = s.tiles := State.ev_keeps.same .tiles (by rfl)
@[simp] theorem State.ev_p_net {s : State} {a1 a2} : (State.ev s a1 a2).net = s.net := State.ev_keeps.same .net (by rfl)
@[simp] theorem State.ev_p_host {s : State} {a1 a2} : (State.ev s a1 a2).host = s.host := State.ev_keeps.same .host (by rfl)
@[simp] theorem State.ev_p_mem {s : State} {a1 a2} : (State.ev s a1 a2).mem = s.mem := State.ev_keeps.same .mem (by rfl)
@[simp] theorem State.ev_p_fab {s : State} {a1 a2} : (State.ev s a1 a2).fab = s.fab := State.ev_keeps.same .fab (by rfl)
@[simp] theorem State.ev_p_rl {s : State} {a1 a2} : (State.ev s a1 a2).rl = s.rl := State.ev_keeps.same .rl (by rfl)
@[simp] theorem State.ev_p_pwr {s : State} {a1 a2} : (State.ev s a1 a2).pwr = s.pwr := State.ev_keeps.same .pwr (by rfl)
@[simp] theorem State.ev_p_free {s : State} {a1 a2} : (State.ev s a1 a2).free = s.free := State.ev_keeps.same .free (by rfl)
@[simp] theorem State.ev_p_out {s : State} {a1 a2} : (State.ev s a1 a2).out = s.out := State.ev_keeps.same .out (by rfl)
@[simp] theorem State.ev_f_rws {s : State} {a1 a2} (o : Nat) : (State.ev s a1 a2).rws o = s.rws o := by unfold State.rws; rw [State.ev_regs_rws]
@[simp] theorem State.ev_f_rw {s : State} {a1 a2} (o : Nat) : (State.ev s a1 a2).rw o = s.rw o := by unfold State.rw; rw [State.ev_regs_rw]
@[simp] theorem State.ev_p_variant {s : State} {a1 a2} : (State.ev s a1 a2).variant = s.variant := State.ev_keeps.lasting.variant
@[simp] theorem State.ev_p_ticks {s : State} {a1 a2} : (State.ev s a1 a2).ticks = s.ticks := State.ev_keeps.lasting.ticks
@[simp] theorem State.ev_p_pending {s : State} {a1 a2} : (State.ev s a1 a2).pending = s.pending := State.ev_keeps.lasting.pending
@[simp] theorem State.evtAt_regs_rws {s : State} {a1 a2 a3} : (State.evtAt s a1 a2 a3).regs.rws = s.regs.rws := State.evtAt_keeps.same .rws (by rfl)
@[simp] theorem State.evtAt_regs_rw {s : State} {a1 a2 a3} : (State.evtAt s a1 a2 a3).regs.rw = s.regs.rw := State.evtAt_keeps.same .rw (by rfl)
@[simp] theorem State.evtAt_p_flt {s : State} {a1 a2 a3} : (State.evtAt s a1 a2 a3).flt = s.flt := State.evtAt_keeps.same .flt (by rfl)
@[simp] theorem State.evtAt_p_hk {s : State} {a1 a2 a3} : (State.evtAt s a1 a2 a3).hk = s.hk := State.evtAt_keeps.same .hk (by rfl)
@[simp] theorem State.evtAt_p_boot {s : State} {a1 a2 a3} : (State.evtAt s a1 a2 a3).boot = s.boot := State.evtAt_keeps.same .boot (by rfl)
@[simp] theorem State.evtAt_p_nvm {s : State} {a1 a2 a3} : (State.evtAt s a1 a2 a3).nvm = s.nvm := State.evtAt_keeps.same .nvm (by rfl)
@[simp] theorem State.evtAt_p_fuses {s : State} {a1 a2 a3} : (State.evtAt s a1 a2 a3).fuses = s.fuses := State.evtAt_keeps.same .fuses (by rfl)
@[simp] theorem State.evtAt_p_sec {s : State} {a1 a2 a3} : (State.evtAt s a1 a2 a3).sec = s.sec := State.evtAt_keeps.same .sec (by rfl)
@[simp] theorem State.evtAt_p_cfg {s : State} {a1 a2 a3} : (State.evtAt s a1 a2 a3).cfg = s.cfg := State.evtAt_keeps.same .cfg (by rfl)
@[simp] theorem State.evtAt_p_tb {s : State} {a1 a2 a3} : (State.evtAt s a1 a2 a3).tb = s.tb := State.evtAt_keeps.same .tb (by rfl)
@[simp] theorem State.evtAt_p_tl {s : State} {a1 a2 a3} : (State.evtAt s a1 a2 a3).tl = s.tl := State.evtAt_keeps.same .tl (by rfl)
@[simp] theorem State.evtAt_p_sc {s : State} {a1 a2 a3} : (State.evtAt s a1 a2 a3).sc = s.sc := State.evtAt_keeps.same .sc (by rfl)
@[simp] theorem State.evtAt_p_warm {s : State} {a1 a2 a3} : (State.evtAt s a1 a2 a3).warm = s.warm := State.evtAt_keeps.same .warm (by rfl)
@[simp] theorem State.evtAt_p_ports {s : State} {a1 a2 a3} : (State.evtAt s a1 a2 a3).ports = s.ports := State.evtAt_keeps.same .ports (by rfl)
@[simp] theorem State.evtAt_p_tiles {s : State} {a1 a2 a3} : (State.evtAt s a1 a2 a3).tiles = s.tiles := State.evtAt_keeps.same .tiles (by rfl)
@[simp] theorem State.evtAt_p_net {s : State} {a1 a2 a3} : (State.evtAt s a1 a2 a3).net = s.net := State.evtAt_keeps.same .net (by rfl)
@[simp] theorem State.evtAt_p_host {s : State} {a1 a2 a3} : (State.evtAt s a1 a2 a3).host = s.host := State.evtAt_keeps.same .host (by rfl)
@[simp] theorem State.evtAt_p_mem {s : State} {a1 a2 a3} : (State.evtAt s a1 a2 a3).mem = s.mem := State.evtAt_keeps.same .mem (by rfl)
@[simp] theorem State.evtAt_p_fab {s : State} {a1 a2 a3} : (State.evtAt s a1 a2 a3).fab = s.fab := State.evtAt_keeps.same .fab (by rfl)
@[simp] theorem State.evtAt_p_rl {s : State} {a1 a2 a3} : (State.evtAt s a1 a2 a3).rl = s.rl := State.evtAt_keeps.same .rl (by rfl)
@[simp] theorem State.evtAt_p_pwr {s : State} {a1 a2 a3} : (State.evtAt s a1 a2 a3).pwr = s.pwr := State.evtAt_keeps.same .pwr (by rfl)
@[simp] theorem State.evtAt_p_free {s : State} {a1 a2 a3} : (State.evtAt s a1 a2 a3).free = s.free := State.evtAt_keeps.same .free (by rfl)
@[simp] theorem State.evtAt_p_out {s : State} {a1 a2 a3} : (State.evtAt s a1 a2 a3).out = s.out := State.evtAt_keeps.same .out (by rfl)
@[simp] theorem State.evtAt_f_rws {s : State} {a1 a2 a3} (o : Nat) : (State.evtAt s a1 a2 a3).rws o = s.rws o := by unfold State.rws; rw [State.evtAt_regs_rws]
@[simp] theorem State.evtAt_f_rw {s : State} {a1 a2 a3} (o : Nat) : (State.evtAt s a1 a2 a3).rw o = s.rw o := by unfold State.rw; rw [State.evtAt_regs_rw]
@[simp] theorem State.evtAt_p_variant {s : State} {a1 a2 a3} : (State.evtAt s a1 a2 a3).variant = s.variant := State.evtAt_keeps.lasting.variant
@[simp] theorem State.evtAt_p_ticks {s : State} {a1 a2 a3} : (State.evtAt s a1 a2 a3).ticks = s.ticks := State.evtAt_keeps.lasting.ticks
@[simp] theorem State.evtAt_p_pending {s : State} {a1 a2 a3} : (State.evtAt s a1 a2 a3).pending = s.pending := State.evtAt_keeps.lasting.pending
@[simp] theorem State.evtW_regs_rws {s : State} {src code args} : (State.evtW s src code args).regs.rws = s.regs.rws := State.evtW_keeps.same .rws (by rfl)
@[simp] theorem State.evtW_regs_rw {s : State} {src code args} : (State.evtW s src code args).regs.rw = s.regs.rw := State.evtW_keeps.same .rw (by rfl)
@[simp] theorem State.evtW_p_flt {s : State} {src code args} : (State.evtW s src code args).flt = s.flt := State.evtW_keeps.same .flt (by rfl)
@[simp] theorem State.evtW_p_hk {s : State} {src code args} : (State.evtW s src code args).hk = s.hk := State.evtW_keeps.same .hk (by rfl)
@[simp] theorem State.evtW_p_boot {s : State} {src code args} : (State.evtW s src code args).boot = s.boot := State.evtW_keeps.same .boot (by rfl)
@[simp] theorem State.evtW_p_nvm {s : State} {src code args} : (State.evtW s src code args).nvm = s.nvm := State.evtW_keeps.same .nvm (by rfl)
@[simp] theorem State.evtW_p_fuses {s : State} {src code args} : (State.evtW s src code args).fuses = s.fuses := State.evtW_keeps.same .fuses (by rfl)
@[simp] theorem State.evtW_p_sec {s : State} {src code args} : (State.evtW s src code args).sec = s.sec := State.evtW_keeps.same .sec (by rfl)
@[simp] theorem State.evtW_p_cfg {s : State} {src code args} : (State.evtW s src code args).cfg = s.cfg := State.evtW_keeps.same .cfg (by rfl)
@[simp] theorem State.evtW_p_tb {s : State} {src code args} : (State.evtW s src code args).tb = s.tb := State.evtW_keeps.same .tb (by rfl)
@[simp] theorem State.evtW_p_tl {s : State} {src code args} : (State.evtW s src code args).tl = s.tl := State.evtW_keeps.same .tl (by rfl)
@[simp] theorem State.evtW_p_sc {s : State} {src code args} : (State.evtW s src code args).sc = s.sc := State.evtW_keeps.same .sc (by rfl)
@[simp] theorem State.evtW_p_warm {s : State} {src code args} : (State.evtW s src code args).warm = s.warm := State.evtW_keeps.same .warm (by rfl)
@[simp] theorem State.evtW_p_ports {s : State} {src code args} : (State.evtW s src code args).ports = s.ports := State.evtW_keeps.same .ports (by rfl)
@[simp] theorem State.evtW_p_tiles {s : State} {src code args} : (State.evtW s src code args).tiles = s.tiles := State.evtW_keeps.same .tiles (by rfl)
@[simp] theorem State.evtW_p_net {s : State} {src code args} : (State.evtW s src code args).net = s.net := State.evtW_keeps.same .net (by rfl)
@[simp] theorem State.evtW_p_host {s : State} {src code args} : (State.evtW s src code args).host = s.host := State.evtW_keeps.same .host (by rfl)
@[simp] theorem State.evtW_p_mem {s : State} {src code args} : (State.evtW s src code args).mem = s.mem := State.evtW_keeps.same .mem (by rfl)
@[simp] theorem State.evtW_p_fab {s : State} {src code args} : (State.evtW s src code args).fab = s.fab := State.evtW_keeps.same .fab (by rfl)
@[simp] theorem State.evtW_p_rl {s : State} {src code args} : (State.evtW s src code args).rl = s.rl := State.evtW_keeps.same .rl (by rfl)
@[simp] theorem State.evtW_p_pwr {s : State} {src code args} : (State.evtW s src code args).pwr = s.pwr := State.evtW_keeps.same .pwr (by rfl)
@[simp] theorem State.evtW_p_free {s : State} {src code args} : (State.evtW s src code args).free = s.free := State.evtW_keeps.same .free (by rfl)
@[simp] theorem State.evtW_p_out {s : State} {src code args} : (State.evtW s src code args).out = s.out := State.evtW_keeps.same .out (by rfl)
@[simp] theorem State.evtW_f_rws {s : State} {src code args} (o : Nat) : (State.evtW s src code args).rws o = s.rws o := by unfold State.rws; rw [State.evtW_regs_rws]
@[simp] theorem State.evtW_f_rw {s : State} {src code args} (o : Nat) : (State.evtW s src code args).rw o = s.rw o := by unfold State.rw; rw [State.evtW_regs_rw]
@[simp] theorem State.evtW_p_variant {s : State} {src code args} : (State.evtW s src code args).variant = s.variant := State.evtW_keeps.lasting.variant
@[simp] theorem State.evtW_p_ticks {s : State} {src code args} : (State.evtW s src code args).ticks = s.ticks := State.evtW_keeps.lasting.ticks
@[simp] theorem State.evtW_p_pending {s : State} {src code args} : (State.evtW s src code args).pending = s.pending := State.evtW_keeps.lasting.pending
@[simp] theorem State.fault_regs_rw {s : State} {a1 a2 a3} : (State.fault s a1 a2 a3).regs.rw = s.regs.rw := State.fault_keeps.same .rw (by rfl)
@[simp] theorem State.fault_p_fuses {s : State} {a1 a2 a3} : (State.fault s a1 a2 a3).fuses = s.fuses := State.fault_keeps.same .fuses (by rfl)
@[simp] theorem State.fault_p_cfg {s : State} {a1 a2 a3} : (State.fault s a1 a2 a3).cfg = s.cfg := State.fault_keeps.same .cfg (by rfl)
@[simp] theorem State.fault_p_warm {s : State} {a1 a2 a3} : (State.fault s a1 a2 a3).warm = s.warm := State.fault_keeps.same .warm (by rfl)
@[simp] theorem State.fault_p_mem {s : State} {a1 a2 a3} : (State.fault s a1 a2 a3).mem = s.mem := State.fault_keeps.same .mem (by rfl)
@[simp] theorem State.fault_p_free {s : State} {a1 a2 a3} : (State.fault s a1 a2 a3).free = s.free := State.fault_keeps.same .free (by rfl)
@[simp] theorem State.fault_f_rw {s : State} {a1 a2 a3} (o : Nat) : (State.fault s a1 a2 a3).rw o = s.rw o := by unfold State.rw; rw [State.fault_regs_rw]
@[simp] theorem State.fault_p_variant {s : State} {a1 a2 a3} : (State.fault s a1 a2 a3).variant = s.variant := State.fault_keeps.lasting.variant
@[simp] theorem State.fault_p_ticks {s : State} {a1 a2 a3} : (State.fault s a1 a2 a3).ticks = s.ticks := State.fault_keeps.lasting.ticks
@[simp] theorem State.fault_p_pending {s : State} {a1 a2 a3} : (State.fault s a1 a2 a3).pending = s.pending := State.fault_keeps.lasting.pending
@[simp] theorem State.raise_regs_rw {s : State} {a1} : (State.raise s a1).regs.rw = s.regs.rw := State.raise_keeps.same .rw (by rfl)
@[simp] theorem State.raise_p_fuses {s : State} {a1} : (State.raise s a1).fuses = s.fuses := State.raise_keeps.same .fuses (by rfl)
@[simp] theorem State.raise_p_cfg {s : State} {a1} : (State.raise s a1).cfg = s.cfg := State.raise_keeps.same .cfg (by rfl)
@[simp] theorem State.raise_p_warm {s : State} {a1} : (State.raise s a1).warm = s.warm := State.raise_keeps.same .warm (by rfl)
@[simp] theorem State.raise_p_mem {s : State} {a1} : (State.raise s a1).mem = s.mem := State.raise_keeps.same .mem (by rfl)
@[simp] theorem State.raise_p_free {s : State} {a1} : (State.raise s a1).free = s.free := State.raise_keeps.same .free (by rfl)
@[simp] theorem State.raise_f_rw {s : State} {a1} (o : Nat) : (State.raise s a1).rw o = s.rw o := by unfold State.rw; rw [State.raise_regs_rw]
@[simp] theorem State.raise_p_variant {s : State} {a1} : (State.raise s a1).variant = s.variant := State.raise_keeps.lasting.variant
@[simp] theorem State.raise_p_ticks {s : State} {a1} : (State.raise s a1).ticks = s.ticks := State.raise_keeps.lasting.ticks
@[simp] theorem State.raise_p_pending {s : State} {a1} : (State.raise s a1).pending = s.pending := State.raise_keeps.lasting.pending
@[simp] theorem State.journal_regs_rws {s : State} {a1 a2 a3} : (State.journal s a1 a2 a3).regs.rws = s.regs.rws := State.journal_keeps.same .rws (by rfl)
@[simp] theorem State.journal_regs_rw {s : State} {a1 a2 a3} : (State.journal s a1 a2 a3).regs.rw = s.regs.rw := State.journal_keeps.same .rw (by rfl)
@[simp] theorem State.journal_p_flt {s : State} {a1 a2 a3} : (State.journal s a1 a2 a3).flt = s.flt := State.journal_keeps.same .flt (by rfl)
@[simp] theorem State.journal_p_hk {s : State} {a1 a2 a3} : (State.journal s a1 a2 a3).hk = s.hk := State.journal_keeps.same .hk (by rfl)
@[simp] theorem State.journal_p_boot {s : State} {a1 a2 a3} : (State.journal s a1 a2 a3).boot = s.boot := State.journal_keeps.same .boot (by rfl)
@[simp] theorem State.journal_p_fuses {s : State} {a1 a2 a3} : (State.journal s a1 a2 a3).fuses = s.fuses := State.journal_keeps.same .fuses (by rfl)
@[simp] theorem State.journal_p_sec {s : State} {a1 a2 a3} : (State.journal s a1 a2 a3).sec = s.sec := State.journal_keeps.same .sec (by rfl)
@[simp] theorem State.journal_p_cfg {s : State} {a1 a2 a3} : (State.journal s a1 a2 a3).cfg = s.cfg := State.journal_keeps.same .cfg (by rfl)
@[simp] theorem State.journal_p_tb {s : State} {a1 a2 a3} : (State.journal s a1 a2 a3).tb = s.tb := State.journal_keeps.same .tb (by rfl)
@[simp] theorem State.journal_p_tl {s : State} {a1 a2 a3} : (State.journal s a1 a2 a3).tl = s.tl := State.journal_keeps.same .tl (by rfl)
@[simp] theorem State.journal_p_sc {s : State} {a1 a2 a3} : (State.journal s a1 a2 a3).sc = s.sc := State.journal_keeps.same .sc (by rfl)
@[simp] theorem State.journal_p_warm {s : State} {a1 a2 a3} : (State.journal s a1 a2 a3).warm = s.warm := State.journal_keeps.same .warm (by rfl)
@[simp] theorem State.journal_p_ports {s : State} {a1 a2 a3} : (State.journal s a1 a2 a3).ports = s.ports := State.journal_keeps.same .ports (by rfl)
@[simp] theorem State.journal_p_tiles {s : State} {a1 a2 a3} : (State.journal s a1 a2 a3).tiles = s.tiles := State.journal_keeps.same .tiles (by rfl)
@[simp] theorem State.journal_p_net {s : State} {a1 a2 a3} : (State.journal s a1 a2 a3).net = s.net := State.journal_keeps.same .net (by rfl)
@[simp] theorem State.journal_p_host {s : State} {a1 a2 a3} : (State.journal s a1 a2 a3).host = s.host := State.journal_keeps.same .host (by rfl)
@[simp] theorem State.journal_p_mem {s : State} {a1 a2 a3} : (State.journal s a1 a2 a3).mem = s.mem := State.journal_keeps.same .mem (by rfl)
@[simp] theorem State.journal_p_fab {s : State} {a1 a2 a3} : (State.journal s a1 a2 a3).fab = s.fab := State.journal_keeps.same .fab (by rfl)
@[simp] theorem State.journal_p_rl {s : State} {a1 a2 a3} : (State.journal s a1 a2 a3).rl = s.rl := State.journal_keeps.same .rl (by rfl)
@[simp] theorem State.journal_p_pwr {s : State} {a1 a2 a3} : (State.journal s a1 a2 a3).pwr = s.pwr := State.journal_keeps.same .pwr (by rfl)
@[simp] theorem State.journal_p_free {s : State} {a1 a2 a3} : (State.journal s a1 a2 a3).free = s.free := State.journal_keeps.same .free (by rfl)
@[simp] theorem State.journal_p_out {s : State} {a1 a2 a3} : (State.journal s a1 a2 a3).out = s.out := State.journal_keeps.same .out (by rfl)
@[simp] theorem State.journal_f_rws {s : State} {a1 a2 a3} (o : Nat) : (State.journal s a1 a2 a3).rws o = s.rws o := by unfold State.rws; rw [State.journal_regs_rws]
@[simp] theorem State.journal_f_rw {s : State} {a1 a2 a3} (o : Nat) : (State.journal s a1 a2 a3).rw o = s.rw o := by unfold State.rw; rw [State.journal_regs_rw]
@[simp] theorem State.journal_p_variant {s : State} {a1 a2 a3} : (State.journal s a1 a2 a3).variant = s.variant := State.journal_keeps.lasting.variant
@[simp] theorem State.journal_p_ticks {s : State} {a1 a2 a3} : (State.journal s a1 a2 a3).ticks = s.ticks := State.journal_keeps.lasting.ticks
@[simp] theorem State.journal_p_pending {s : State} {a1 a2 a3} : (State.journal s a1 a2 a3).pending = s.pending := State.journal_keeps.lasting.pending
@[simp] theorem State.stageEnd_regs_rws {s : State} {a1} : (State.stageEnd s a1).regs.rws = s.regs.rws := State.stageEnd_keeps.same .rws (by rfl)
@[simp] theorem State.stageEnd_regs_rw {s : State} {a1} : (State.stageEnd s a1).regs.rw = s.regs.rw := State.stageEnd_keeps.same .rw (by rfl)
@[simp] theorem State.stageEnd_p_flt {s : State} {a1} : (State.stageEnd s a1).flt = s.flt := State.stageEnd_keeps.same .flt (by rfl)
@[simp] theorem State.stageEnd_p_hk {s : State} {a1} : (State.stageEnd s a1).hk = s.hk := State.stageEnd_keeps.same .hk (by rfl)
@[simp] theorem State.stageEnd_p_boot {s : State} {a1} : (State.stageEnd s a1).boot = s.boot := State.stageEnd_keeps.same .boot (by rfl)
@[simp] theorem State.stageEnd_p_fuses {s : State} {a1} : (State.stageEnd s a1).fuses = s.fuses := State.stageEnd_keeps.same .fuses (by rfl)
@[simp] theorem State.stageEnd_p_sec {s : State} {a1} : (State.stageEnd s a1).sec = s.sec := State.stageEnd_keeps.same .sec (by rfl)
@[simp] theorem State.stageEnd_p_cfg {s : State} {a1} : (State.stageEnd s a1).cfg = s.cfg := State.stageEnd_keeps.same .cfg (by rfl)
@[simp] theorem State.stageEnd_p_tb {s : State} {a1} : (State.stageEnd s a1).tb = s.tb := State.stageEnd_keeps.same .tb (by rfl)
@[simp] theorem State.stageEnd_p_tl {s : State} {a1} : (State.stageEnd s a1).tl = s.tl := State.stageEnd_keeps.same .tl (by rfl)
@[simp] theorem State.stageEnd_p_sc {s : State} {a1} : (State.stageEnd s a1).sc = s.sc := State.stageEnd_keeps.same .sc (by rfl)
@[simp] theorem State.stageEnd_p_warm {s : State} {a1} : (State.stageEnd s a1).warm = s.warm := State.stageEnd_keeps.same .warm (by rfl)
@[simp] theorem State.stageEnd_p_ports {s : State} {a1} : (State.stageEnd s a1).ports = s.ports := State.stageEnd_keeps.same .ports (by rfl)
@[simp] theorem State.stageEnd_p_tiles {s : State} {a1} : (State.stageEnd s a1).tiles = s.tiles := State.stageEnd_keeps.same .tiles (by rfl)
@[simp] theorem State.stageEnd_p_net {s : State} {a1} : (State.stageEnd s a1).net = s.net := State.stageEnd_keeps.same .net (by rfl)
@[simp] theorem State.stageEnd_p_mem {s : State} {a1} : (State.stageEnd s a1).mem = s.mem := State.stageEnd_keeps.same .mem (by rfl)
@[simp] theorem State.stageEnd_p_fab {s : State} {a1} : (State.stageEnd s a1).fab = s.fab := State.stageEnd_keeps.same .fab (by rfl)
@[simp] theorem State.stageEnd_p_rl {s : State} {a1} : (State.stageEnd s a1).rl = s.rl := State.stageEnd_keeps.same .rl (by rfl)
@[simp] theorem State.stageEnd_p_pwr {s : State} {a1} : (State.stageEnd s a1).pwr = s.pwr := State.stageEnd_keeps.same .pwr (by rfl)
@[simp] theorem State.stageEnd_p_free {s : State} {a1} : (State.stageEnd s a1).free = s.free := State.stageEnd_keeps.same .free (by rfl)
@[simp] theorem State.stageEnd_p_out {s : State} {a1} : (State.stageEnd s a1).out = s.out := State.stageEnd_keeps.same .out (by rfl)
@[simp] theorem State.stageEnd_f_rws {s : State} {a1} (o : Nat) : (State.stageEnd s a1).rws o = s.rws o := by unfold State.rws; rw [State.stageEnd_regs_rws]
@[simp] theorem State.stageEnd_f_rw {s : State} {a1} (o : Nat) : (State.stageEnd s a1).rw o = s.rw o := by unfold State.rw; rw [State.stageEnd_regs_rw]
@[simp] theorem State.stageEnd_p_variant {s : State} {a1} : (State.stageEnd s a1).variant = s.variant := State.stageEnd_keeps.lasting.variant
@[simp] theorem State.stageEnd_p_ticks {s : State} {a1} : (State.stageEnd s a1).ticks = s.ticks := State.stageEnd_keeps.lasting.ticks
@[simp] theorem State.stageEnd_p_pending {s : State} {a1} : (State.stageEnd s a1).pending = s.pending := State.stageEnd_keeps.lasting.pending
@[simp] theorem State.putHeader_regs_rws {s : State} {a1 a2} : (State.putHeader s a1 a2).regs.rws = s.regs.rws := State.putHeader_keeps.same .rws (by rfl)
@[simp] theorem State.putHeader_regs_rw {s : State} {a1 a2} : (State.putHeader s a1 a2).regs.rw = s.regs.rw := State.putHeader_keeps.same .rw (by rfl)
@[simp] theorem State.putHeader_p_flt {s : State} {a1 a2} : (State.putHeader s a1 a2).flt = s.flt := State.putHeader_keeps.same .flt (by rfl)
@[simp] theorem State.putHeader_p_hk {s : State} {a1 a2} : (State.putHeader s a1 a2).hk = s.hk := State.putHeader_keeps.same .hk (by rfl)
@[simp] theorem State.putHeader_p_boot {s : State} {a1 a2} : (State.putHeader s a1 a2).boot = s.boot := State.putHeader_keeps.same .boot (by rfl)
@[simp] theorem State.putHeader_p_fuses {s : State} {a1 a2} : (State.putHeader s a1 a2).fuses = s.fuses := State.putHeader_keeps.same .fuses (by rfl)
@[simp] theorem State.putHeader_p_sec {s : State} {a1 a2} : (State.putHeader s a1 a2).sec = s.sec := State.putHeader_keeps.same .sec (by rfl)
@[simp] theorem State.putHeader_p_cfg {s : State} {a1 a2} : (State.putHeader s a1 a2).cfg = s.cfg := State.putHeader_keeps.same .cfg (by rfl)
@[simp] theorem State.putHeader_p_tb {s : State} {a1 a2} : (State.putHeader s a1 a2).tb = s.tb := State.putHeader_keeps.same .tb (by rfl)
@[simp] theorem State.putHeader_p_tl {s : State} {a1 a2} : (State.putHeader s a1 a2).tl = s.tl := State.putHeader_keeps.same .tl (by rfl)
@[simp] theorem State.putHeader_p_sc {s : State} {a1 a2} : (State.putHeader s a1 a2).sc = s.sc := State.putHeader_keeps.same .sc (by rfl)
@[simp] theorem State.putHeader_p_warm {s : State} {a1 a2} : (State.putHeader s a1 a2).warm = s.warm := State.putHeader_keeps.same .warm (by rfl)
@[simp] theorem State.putHeader_p_ports {s : State} {a1 a2} : (State.putHeader s a1 a2).ports = s.ports := State.putHeader_keeps.same .ports (by rfl)
@[simp] theorem State.putHeader_p_tiles {s : State} {a1 a2} : (State.putHeader s a1 a2).tiles = s.tiles := State.putHeader_keeps.same .tiles (by rfl)
@[simp] theorem State.putHeader_p_net {s : State} {a1 a2} : (State.putHeader s a1 a2).net = s.net := State.putHeader_keeps.same .net (by rfl)
@[simp] theorem State.putHeader_p_host {s : State} {a1 a2} : (State.putHeader s a1 a2).host = s.host := State.putHeader_keeps.same .host (by rfl)
@[simp] theorem State.putHeader_p_mem {s : State} {a1 a2} : (State.putHeader s a1 a2).mem = s.mem := State.putHeader_keeps.same .mem (by rfl)
@[simp] theorem State.putHeader_p_fab {s : State} {a1 a2} : (State.putHeader s a1 a2).fab = s.fab := State.putHeader_keeps.same .fab (by rfl)
@[simp] theorem State.putHeader_p_rl {s : State} {a1 a2} : (State.putHeader s a1 a2).rl = s.rl := State.putHeader_keeps.same .rl (by rfl)
@[simp] theorem State.putHeader_p_pwr {s : State} {a1 a2} : (State.putHeader s a1 a2).pwr = s.pwr := State.putHeader_keeps.same .pwr (by rfl)
@[simp] theorem State.putHeader_p_free {s : State} {a1 a2} : (State.putHeader s a1 a2).free = s.free := State.putHeader_keeps.same .free (by rfl)
@[simp] theorem State.putHeader_p_out {s : State} {a1 a2} : (State.putHeader s a1 a2).out = s.out := State.putHeader_keeps.same .out (by rfl)
@[simp] theorem State.putHeader_f_rws {s : State} {a1 a2} (o : Nat) : (State.putHeader s a1 a2).rws o = s.rws o := by unfold State.rws; rw [State.putHeader_regs_rws]
@[simp] theorem State.putHeader_f_rw {s : State} {a1 a2} (o : Nat) : (State.putHeader s a1 a2).rw o = s.rw o := by unfold State.rw; rw [State.putHeader_regs_rw]
@[simp] theorem State.putHeader_p_variant {s : State} {a1 a2} : (State.putHeader s a1 a2).variant = s.variant := State.putHeader_keeps.lasting.variant
@[simp] theorem State.putHeader_p_ticks {s : State} {a1 a2} : (State.putHeader s a1 a2).ticks = s.ticks := State.putHeader_keeps.lasting.ticks
@[simp] theorem State.putHeader_p_pending {s : State} {a1 a2} : (State.putHeader s a1 a2).pending = s.pending := State.putHeader_keeps.lasting.pending
@[simp] theorem State.nvmKick_regs_rws {s : State}  : (State.nvmKick s).regs.rws = s.regs.rws := State.nvmKick_keeps.same .rws (by rfl)
@[simp] theorem State.nvmKick_regs_rw {s : State}  : (State.nvmKick s).regs.rw = s.regs.rw := State.nvmKick_keeps.same .rw (by rfl)
@[simp] theorem State.nvmKick_regs_cnt {s : State}  : (State.nvmKick s).regs.cnt = s.regs.cnt := (State.nvmKick_keeps.same .cnt (by rfl)).1
@[simp] theorem State.nvmKick_p_evt {s : State}  : (State.nvmKick s).evt = s.evt := State.nvmKick_keeps.same .evt (by rfl)
@[simp] theorem State.nvmKick_p_flt {s : State}  : (State.nvmKick s).flt = s.flt := State.nvmKick_keeps.same .flt (by rfl)
@[simp] theorem State.nvmKick_p_hk {s : State}  : (State.nvmKick s).hk = s.hk := State.nvmKick_keeps.same .hk (by rfl)
@[simp] theorem State.nvmKick_p_boot {s : State}  : (State.nvmKick s).boot = s.boot := State.nvmKick_keeps.same .boot (by rfl)
@[simp] theorem State.nvmKick_p_fuses {s : State}  : (State.nvmKick s).fuses = s.fuses := State.nvmKick_keeps.same .fuses (by rfl)
@[simp] theorem State.nvmKick_p_sec {s : State}  : (State.nvmKick s).sec = s.sec := State.nvmKick_keeps.same .sec (by rfl)
@[simp] theorem State.nvmKick_p_cfg {s : State}  : (State.nvmKick s).cfg = s.cfg := State.nvmKick_keeps.same .cfg (by rfl)
@[simp] theorem State.nvmKick_p_tb {s : State}  : (State.nvmKick s).tb = s.tb := State.nvmKick_keeps.same .tb (by rfl)
@[simp] theorem State.nvmKick_p_tl {s : State}  : (State.nvmKick s).tl = s.tl := State.nvmKick_keeps.same .tl (by rfl)
@[simp] theorem State.nvmKick_p_sc {s : State}  : (State.nvmKick s).sc = s.sc := State.nvmKick_keeps.same .sc (by rfl)
@[simp] theorem State.nvmKick_p_warm {s : State}  : (State.nvmKick s).warm = s.warm := State.nvmKick_keeps.same .warm (by rfl)
@[simp] theorem State.nvmKick_p_ports {s : State}  : (State.nvmKick s).ports = s.ports := State.nvmKick_keeps.same .ports (by rfl)
@[simp] theorem State.nvmKick_p_tiles {s : State}  : (State.nvmKick s).tiles = s.tiles := State.nvmKick_keeps.same .tiles (by rfl)
@[simp] theorem State.nvmKick_p_net {s : State}  : (State.nvmKick s).net = s.net := State.nvmKick_keeps.same .net (by rfl)
@[simp] theorem State.nvmKick_p_host {s : State}  : (State.nvmKick s).host = s.host := State.nvmKick_keeps.same .host (by rfl)
@[simp] theorem State.nvmKick_p_mem {s : State}  : (State.nvmKick s).mem = s.mem := State.nvmKick_keeps.same .mem (by rfl)
@[simp] theorem State.nvmKick_p_fab {s : State}  : (State.nvmKick s).fab = s.fab := State.nvmKick_keeps.same .fab (by rfl)
@[simp] theorem State.nvmKick_p_rl {s : State}  : (State.nvmKick s).rl = s.rl := State.nvmKick_keeps.same .rl (by rfl)
@[simp] theorem State.nvmKick_p_pwr {s : State}  : (State.nvmKick s).pwr = s.pwr := State.nvmKick_keeps.same .pwr (by rfl)
@[simp] theorem State.nvmKick_p_free {s : State}  : (State.nvmKick s).free = s.free := State.nvmKick_keeps.same .free (by rfl)
@[simp] theorem State.nvmKick_p_out {s : State}  : (State.nvmKick s).out = s.out := State.nvmKick_keeps.same .out (by rfl)
@[simp] theorem State.nvmKick_f_rws {s : State}  (o : Nat) : (State.nvmKick s).rws o = s.rws o := by unfold State.rws; rw [State.nvmKick_regs_rws]
@[simp] theorem State.nvmKick_f_rw {s : State}  (o : Nat) : (State.nvmKick s).rw o = s.rw o := by unfold State.rw; rw [State.nvmKick_regs_rw]
@[simp] theorem State.nvmKick_f_cnt {s : State}  (o : Nat) : (State.nvmKick s).cnt o = s.cnt o := by unfold State.cnt; rw [State.nvmKick_regs_cnt]
@[simp] theorem State.nvmKick_p_variant {s : State}  : (State.nvmKick s).variant = s.variant := State.nvmKick_keeps.lasting.variant
@[simp] theorem State.nvmKick_p_ticks {s : State}  : (State.nvmKick s).ticks = s.ticks := State.nvmKick_keeps.lasting.ticks
@[simp] theorem State.nvmKick_p_pending {s : State}  : (State.nvmKick s).pending = s.pending := State.nvmKick_keeps.lasting.pending
@[simp] theorem State.nvmJob_regs_rws {s : State} {a1} : (State.nvmJob s a1).regs.rws = s.regs.rws := State.nvmJob_keeps.same .rws (by rfl)
@[simp] theorem State.nvmJob_regs_rw {s : State} {a1} : (State.nvmJob s a1).regs.rw = s.regs.rw := State.nvmJob_keeps.same .rw (by rfl)
@[simp] theorem State.nvmJob_regs_cnt {s : State} {a1} : (State.nvmJob s a1).regs.cnt = s.regs.cnt := (State.nvmJob_keeps.same .cnt (by rfl)).1
@[simp] theorem State.nvmJob_p_evt {s : State} {a1} : (State.nvmJob s a1).evt = s.evt := State.nvmJob_keeps.same .evt (by rfl)
@[simp] theorem State.nvmJob_p_flt {s : State} {a1} : (State.nvmJob s a1).flt = s.flt := State.nvmJob_keeps.same .flt (by rfl)
@[simp] theorem State.nvmJob_p_hk {s : State} {a1} : (State.nvmJob s a1).hk = s.hk := State.nvmJob_keeps.same .hk (by rfl)
@[simp] theorem State.nvmJob_p_boot {s : State} {a1} : (State.nvmJob s a1).boot = s.boot := State.nvmJob_keeps.same .boot (by rfl)
@[simp] theorem State.nvmJob_p_fuses {s : State} {a1} : (State.nvmJob s a1).fuses = s.fuses := State.nvmJob_keeps.same .fuses (by rfl)
@[simp] theorem State.nvmJob_p_sec {s : State} {a1} : (State.nvmJob s a1).sec = s.sec := State.nvmJob_keeps.same .sec (by rfl)
@[simp] theorem State.nvmJob_p_cfg {s : State} {a1} : (State.nvmJob s a1).cfg = s.cfg := State.nvmJob_keeps.same .cfg (by rfl)
@[simp] theorem State.nvmJob_p_tb {s : State} {a1} : (State.nvmJob s a1).tb = s.tb := State.nvmJob_keeps.same .tb (by rfl)
@[simp] theorem State.nvmJob_p_tl {s : State} {a1} : (State.nvmJob s a1).tl = s.tl := State.nvmJob_keeps.same .tl (by rfl)
@[simp] theorem State.nvmJob_p_sc {s : State} {a1} : (State.nvmJob s a1).sc = s.sc := State.nvmJob_keeps.same .sc (by rfl)
@[simp] theorem State.nvmJob_p_warm {s : State} {a1} : (State.nvmJob s a1).warm = s.warm := State.nvmJob_keeps.same .warm (by rfl)
@[simp] theorem State.nvmJob_p_ports {s : State} {a1} : (State.nvmJob s a1).ports = s.ports := State.nvmJob_keeps.same .ports (by rfl)
@[simp] theorem State.nvmJob_p_tiles {s : State} {a1} : (State.nvmJob s a1).tiles = s.tiles := State.nvmJob_keeps.same .tiles (by rfl)
@[simp] theorem State.nvmJob_p_net {s : State} {a1} : (State.nvmJob s a1).net = s.net := State.nvmJob_keeps.same .net (by rfl)
@[simp] theorem State.nvmJob_p_host {s : State} {a1} : (State.nvmJob s a1).host = s.host := State.nvmJob_keeps.same .host (by rfl)
@[simp] theorem State.nvmJob_p_mem {s : State} {a1} : (State.nvmJob s a1).mem = s.mem := State.nvmJob_keeps.same .mem (by rfl)
@[simp] theorem State.nvmJob_p_fab {s : State} {a1} : (State.nvmJob s a1).fab = s.fab := State.nvmJob_keeps.same .fab (by rfl)
@[simp] theorem State.nvmJob_p_rl {s : State} {a1} : (State.nvmJob s a1).rl = s.rl := State.nvmJob_keeps.same .rl (by rfl)
@[simp] theorem State.nvmJob_p_pwr {s : State} {a1} : (State.nvmJob s a1).pwr = s.pwr := State.nvmJob_keeps.same .pwr (by rfl)
@[simp] theorem State.nvmJob_p_free {s : State} {a1} : (State.nvmJob s a1).free = s.free := State.nvmJob_keeps.same .free (by rfl)
@[simp] theorem State.nvmJob_p_out {s : State} {a1} : (State.nvmJob s a1).out = s.out := State.nvmJob_keeps.same .out (by rfl)
@[simp] theorem State.nvmJob_f_rws {s : State} {a1} (o : Nat) : (State.nvmJob s a1).rws o = s.rws o := by unfold State.rws; rw [State.nvmJob_regs_rws]
@[simp] theorem State.nvmJob_f_rw {s : State} {a1} (o : Nat) : (State.nvmJob s a1).rw o = s.rw o := by unfold State.rw; rw [State.nvmJob_regs_rw]
@[simp] theorem State.nvmJob_f_cnt {s : State} {a1} (o : Nat) : (State.nvmJob s a1).cnt o = s.cnt o := by unfold State.cnt; rw [State.nvmJob_regs_cnt]
@[simp] theorem State.nvmJob_p_variant {s : State} {a1} : (State.nvmJob s a1).variant = s.variant := State.nvmJob_keeps.lasting.variant
@[simp] theorem State.nvmJob_p_ticks {s : State} {a1} : (State.nvmJob s a1).ticks = s.ticks := State.nvmJob_keeps.lasting.ticks
@[simp] theorem State.nvmJob_p_pending {s : State} {a1} : (State.nvmJob s a1).pending = s.pending := State.nvmJob_keeps.lasting.pending
@[simp] theorem State.queueFrame_regs_rws {s : State} {a1 a2} : (State.queueFrame s a1 a2).regs.rws = s.regs.rws := State.queueFrame_keeps.same .rws (by rfl)
@[simp] theorem State.queueFrame_regs_rw {s : State} {a1 a2} : (State.queueFrame s a1 a2).regs.rw = s.regs.rw := State.queueFrame_keeps.same .rw (by rfl)
@[simp] theorem State.queueFrame_regs_cnt {s : State} {a1 a2} : (State.queueFrame s a1 a2).regs.cnt = s.regs.cnt := (State.queueFrame_keeps.same .cnt (by rfl)).1
@[simp] theorem State.queueFrame_p_evt {s : State} {a1 a2} : (State.queueFrame s a1 a2).evt = s.evt := State.queueFrame_keeps.same .evt (by rfl)
@[simp] theorem State.queueFrame_p_flt {s : State} {a1 a2} : (State.queueFrame s a1 a2).flt = s.flt := State.queueFrame_keeps.same .flt (by rfl)
@[simp] theorem State.queueFrame_p_hk {s : State} {a1 a2} : (State.queueFrame s a1 a2).hk = s.hk := State.queueFrame_keeps.same .hk (by rfl)
@[simp] theorem State.queueFrame_p_boot {s : State} {a1 a2} : (State.queueFrame s a1 a2).boot = s.boot := State.queueFrame_keeps.same .boot (by rfl)
@[simp] theorem State.queueFrame_p_nvm {s : State} {a1 a2} : (State.queueFrame s a1 a2).nvm = s.nvm := State.queueFrame_keeps.same .nvm (by rfl)
@[simp] theorem State.queueFrame_p_fuses {s : State} {a1 a2} : (State.queueFrame s a1 a2).fuses = s.fuses := State.queueFrame_keeps.same .fuses (by rfl)
@[simp] theorem State.queueFrame_p_sec {s : State} {a1 a2} : (State.queueFrame s a1 a2).sec = s.sec := State.queueFrame_keeps.same .sec (by rfl)
@[simp] theorem State.queueFrame_p_cfg {s : State} {a1 a2} : (State.queueFrame s a1 a2).cfg = s.cfg := State.queueFrame_keeps.same .cfg (by rfl)
@[simp] theorem State.queueFrame_p_tb {s : State} {a1 a2} : (State.queueFrame s a1 a2).tb = s.tb := State.queueFrame_keeps.same .tb (by rfl)
@[simp] theorem State.queueFrame_p_tl {s : State} {a1 a2} : (State.queueFrame s a1 a2).tl = s.tl := State.queueFrame_keeps.same .tl (by rfl)
@[simp] theorem State.queueFrame_p_sc {s : State} {a1 a2} : (State.queueFrame s a1 a2).sc = s.sc := State.queueFrame_keeps.same .sc (by rfl)
@[simp] theorem State.queueFrame_p_warm {s : State} {a1 a2} : (State.queueFrame s a1 a2).warm = s.warm := State.queueFrame_keeps.same .warm (by rfl)
@[simp] theorem State.queueFrame_p_tiles {s : State} {a1 a2} : (State.queueFrame s a1 a2).tiles = s.tiles := State.queueFrame_keeps.same .tiles (by rfl)
@[simp] theorem State.queueFrame_p_net {s : State} {a1 a2} : (State.queueFrame s a1 a2).net = s.net := State.queueFrame_keeps.same .net (by rfl)
@[simp] theorem State.queueFrame_p_host {s : State} {a1 a2} : (State.queueFrame s a1 a2).host = s.host := State.queueFrame_keeps.same .host (by rfl)
@[simp] theorem State.queueFrame_p_mem {s : State} {a1 a2} : (State.queueFrame s a1 a2).mem = s.mem := State.queueFrame_keeps.same .mem (by rfl)
@[simp] theorem State.queueFrame_p_fab {s : State} {a1 a2} : (State.queueFrame s a1 a2).fab = s.fab := State.queueFrame_keeps.same .fab (by rfl)
@[simp] theorem State.queueFrame_p_rl {s : State} {a1 a2} : (State.queueFrame s a1 a2).rl = s.rl := State.queueFrame_keeps.same .rl (by rfl)
@[simp] theorem State.queueFrame_p_pwr {s : State} {a1 a2} : (State.queueFrame s a1 a2).pwr = s.pwr := State.queueFrame_keeps.same .pwr (by rfl)
@[simp] theorem State.queueFrame_p_free {s : State} {a1 a2} : (State.queueFrame s a1 a2).free = s.free := State.queueFrame_keeps.same .free (by rfl)
@[simp] theorem State.queueFrame_p_out {s : State} {a1 a2} : (State.queueFrame s a1 a2).out = s.out := State.queueFrame_keeps.same .out (by rfl)
@[simp] theorem State.queueFrame_f_rws {s : State} {a1 a2} (o : Nat) : (State.queueFrame s a1 a2).rws o = s.rws o := by unfold State.rws; rw [State.queueFrame_regs_rws]
@[simp] theorem State.queueFrame_f_rw {s : State} {a1 a2} (o : Nat) : (State.queueFrame s a1 a2).rw o = s.rw o := by unfold State.rw; rw [State.queueFrame_regs_rw]
@[simp] theorem State.queueFrame_f_cnt {s : State} {a1 a2} (o : Nat) : (State.queueFrame s a1 a2).cnt o = s.cnt o := by unfold State.cnt; rw [State.queueFrame_regs_cnt]
@[simp] theorem State.queueFrame_p_variant {s : State} {a1 a2} : (State.queueFrame s a1 a2).variant = s.variant := State.queueFrame_keeps.lasting.variant
@[simp] theorem State.queueFrame_p_ticks {s : State} {a1 a2} : (State.queueFrame s a1 a2).ticks = s.ticks := State.queueFrame_keeps.lasting.ticks
@[simp] theorem State.queueFrame_p_pending {s : State} {a1 a2} : (State.queueFrame s a1 a2).pending = s.pending := State.queueFrame_keeps.lasting.pending
@[simp] theorem State.surge_regs_rws {s : State} {a1} : (State.surge s a1).regs.rws = s.regs.rws := State.surge_keeps.same .rws (by rfl)
@[simp] theorem State.surge_regs_rw {s : State} {a1} : (State.surge s a1).regs.rw = s.regs.rw := State.surge_keeps.same .rw (by rfl)
@[simp] theorem State.surge_p_flt {s : State} {a1} : (State.surge s a1).flt = s.flt := State.surge_keeps.same .flt (by rfl)
@[simp] theorem State.surge_p_hk {s : State} {a1} : (State.surge s a1).hk = s.hk := State.surge_keeps.same .hk (by rfl)
@[simp] theorem State.surge_p_boot {s : State} {a1} : (State.surge s a1).boot = s.boot := State.surge_keeps.same .boot (by rfl)
@[simp] theorem State.surge_p_nvm {s : State} {a1} : (State.surge s a1).nvm = s.nvm := State.surge_keeps.same .nvm (by rfl)
@[simp] theorem State.surge_p_fuses {s : State} {a1} : (State.surge s a1).fuses = s.fuses := State.surge_keeps.same .fuses (by rfl)
@[simp] theorem State.surge_p_sec {s : State} {a1} : (State.surge s a1).sec = s.sec := State.surge_keeps.same .sec (by rfl)
@[simp] theorem State.surge_p_cfg {s : State} {a1} : (State.surge s a1).cfg = s.cfg := State.surge_keeps.same .cfg (by rfl)
@[simp] theorem State.surge_p_tb {s : State} {a1} : (State.surge s a1).tb = s.tb := State.surge_keeps.same .tb (by rfl)
@[simp] theorem State.surge_p_tl {s : State} {a1} : (State.surge s a1).tl = s.tl := State.surge_keeps.same .tl (by rfl)
@[simp] theorem State.surge_p_sc {s : State} {a1} : (State.surge s a1).sc = s.sc := State.surge_keeps.same .sc (by rfl)
@[simp] theorem State.surge_p_warm {s : State} {a1} : (State.surge s a1).warm = s.warm := State.surge_keeps.same .warm (by rfl)
@[simp] theorem State.surge_p_ports {s : State} {a1} : (State.surge s a1).ports = s.ports := State.surge_keeps.same .ports (by rfl)
@[simp] theorem State.surge_p_tiles {s : State} {a1} : (State.surge s a1).tiles = s.tiles := State.surge_keeps.same .tiles (by rfl)
@[simp] theorem State.surge_p_net {s : State} {a1} : (State.surge s a1).net = s.net := State.surge_keeps.same .net (by rfl)
@[simp] theorem State.surge_p_host {s : State} {a1} : (State.surge s a1).host = s.host := State.surge_keeps.same .host (by rfl)
@[simp] theorem State.surge_p_mem {s : State} {a1} : (State.surge s a1).mem = s.mem := State.surge_keeps.same .mem (by rfl)
@[simp] theorem State.surge_p_rl {s : State} {a1} : (State.surge s a1).rl = s.rl := State.surge_keeps.same .rl (by rfl)
@[simp] theorem State.surge_p_pwr {s : State} {a1} : (State.surge s a1).pwr = s.pwr := State.surge_keeps.same .pwr (by rfl)
@[simp] theorem State.surge_p_free {s : State} {a1} : (State.surge s a1).free = s.free := State.surge_keeps.same .free (by rfl)
@[simp] theorem State.surge_p_out {s : State} {a1} : (State.surge s a1).out = s.out := State.surge_keeps.same .out (by rfl)
@[simp] theorem State.surge_f_rws {s : State} {a1} (o : Nat) : (State.surge s a1).rws o = s.rws o := by unfold State.rws; rw [State.surge_regs_rws]
@[simp] theorem State.surge_f_rw {s : State} {a1} (o : Nat) : (State.surge s a1).rw o = s.rw o := by unfold State.rw; rw [State.surge_regs_rw]
@[simp] theorem State.surge_p_variant {s : State} {a1} : (State.surge s a1).variant = s.variant := State.surge_keeps.lasting.variant
@[simp] theorem State.surge_p_ticks {s : State} {a1} : (State.surge s a1).ticks = s.ticks := State.surge_keeps.lasting.ticks
@[simp] theorem State.surge_p_pending {s : State} {a1} : (State.surge s a1).pending = s.pending := State.surge_keeps.lasting.pending
@[simp] theorem State.setQual_regs_rws {s : State} {a1 a2} : (State.setQual s a1 a2).regs.rws = s.regs.rws := State.setQual_keeps.same .rws (by rfl)
@[simp] theorem State.setQual_regs_rw {s : State} {a1 a2} : (State.setQual s a1 a2).regs.rw = s.regs.rw := State.setQual_keeps.same .rw (by rfl)
@[simp] theorem State.setQual_regs_cnt {s : State} {a1 a2} : (State.setQual s a1 a2).regs.cnt = s.regs.cnt := (State.setQual_keeps.same .cnt (by rfl)).1
@[simp] theorem State.setQual_p_evt {s : State} {a1 a2} : (State.setQual s a1 a2).evt = s.evt := State.setQual_keeps.same .evt (by rfl)
@[simp] theorem State.setQual_p_flt {s : State} {a1 a2} : (State.setQual s a1 a2).flt = s.flt := State.setQual_keeps.same .flt (by rfl)
@[simp] theorem State.setQual_p_hk {s : State} {a1 a2} : (State.setQual s a1 a2).hk = s.hk := State.setQual_keeps.same .hk (by rfl)
@[simp] theorem State.setQual_p_boot {s : State} {a1 a2} : (State.setQual s a1 a2).boot = s.boot := State.setQual_keeps.same .boot (by rfl)
@[simp] theorem State.setQual_p_nvm {s : State} {a1 a2} : (State.setQual s a1 a2).nvm = s.nvm := State.setQual_keeps.same .nvm (by rfl)
@[simp] theorem State.setQual_p_fuses {s : State} {a1 a2} : (State.setQual s a1 a2).fuses = s.fuses := State.setQual_keeps.same .fuses (by rfl)
@[simp] theorem State.setQual_p_sec {s : State} {a1 a2} : (State.setQual s a1 a2).sec = s.sec := State.setQual_keeps.same .sec (by rfl)
@[simp] theorem State.setQual_p_cfg {s : State} {a1 a2} : (State.setQual s a1 a2).cfg = s.cfg := State.setQual_keeps.same .cfg (by rfl)
@[simp] theorem State.setQual_p_tl {s : State} {a1 a2} : (State.setQual s a1 a2).tl = s.tl := State.setQual_keeps.same .tl (by rfl)
@[simp] theorem State.setQual_p_sc {s : State} {a1 a2} : (State.setQual s a1 a2).sc = s.sc := State.setQual_keeps.same .sc (by rfl)
@[simp] theorem State.setQual_p_warm {s : State} {a1 a2} : (State.setQual s a1 a2).warm = s.warm := State.setQual_keeps.same .warm (by rfl)
@[simp] theorem State.setQual_p_ports {s : State} {a1 a2} : (State.setQual s a1 a2).ports = s.ports := State.setQual_keeps.same .ports (by rfl)
@[simp] theorem State.setQual_p_tiles {s : State} {a1 a2} : (State.setQual s a1 a2).tiles = s.tiles := State.setQual_keeps.same .tiles (by rfl)
@[simp] theorem State.setQual_p_net {s : State} {a1 a2} : (State.setQual s a1 a2).net = s.net := State.setQual_keeps.same .net (by rfl)
@[simp] theorem State.setQual_p_host {s : State} {a1 a2} : (State.setQual s a1 a2).host = s.host := State.setQual_keeps.same .host (by rfl)
@[simp] theorem State.setQual_p_mem {s : State} {a1 a2} : (State.setQual s a1 a2).mem = s.mem := State.setQual_keeps.same .mem (by rfl)
@[simp] theorem State.setQual_p_fab {s : State} {a1 a2} : (State.setQual s a1 a2).fab = s.fab := State.setQual_keeps.same .fab (by rfl)
@[simp] theorem State.setQual_p_rl {s : State} {a1 a2} : (State.setQual s a1 a2).rl = s.rl := State.setQual_keeps.same .rl (by rfl)
@[simp] theorem State.setQual_p_pwr {s : State} {a1 a2} : (State.setQual s a1 a2).pwr = s.pwr := State.setQual_keeps.same .pwr (by rfl)
@[simp] theorem State.setQual_p_free {s : State} {a1 a2} : (State.setQual s a1 a2).free = s.free := State.setQual_keeps.same .free (by rfl)
@[simp] theorem State.setQual_p_out {s : State} {a1 a2} : (State.setQual s a1 a2).out = s.out := State.setQual_keeps.same .out (by rfl)
@[simp] theorem State.setQual_f_rws {s : State} {a1 a2} (o : Nat) : (State.setQual s a1 a2).rws o = s.rws o := by unfold State.rws; rw [State.setQual_regs_rws]
@[simp] theorem State.setQual_f_rw {s : State} {a1 a2} (o : Nat) : (State.setQual s a1 a2).rw o = s.rw o := by unfold State.rw; rw [State.setQual_regs_rw]
@[simp] theorem State.setQual_f_cnt {s : State} {a1 a2} (o : Nat) : (State.setQual s a1 a2).cnt o = s.cnt o := by unfold State.cnt; rw [State.setQual_regs_cnt]
@[simp] theorem State.setQual_p_variant {s : State} {a1 a2} : (State.setQual s a1 a2).variant = s.variant := State.setQual_keeps.lasting.variant
@[simp] theorem State.setQual_p_ticks {s : State} {a1 a2} : (State.setQual s a1 a2).ticks = s.ticks := State.setQual_keeps.lasting.ticks
@[simp] theorem State.setQual_p_pending {s : State} {a1 a2} : (State.setQual s a1 a2).pending = s.pending := State.setQual_keeps.lasting.pending
@[simp] theorem State.udpSend_regs_rw {s : State} {a1 a2 a3 a4 a5 a6 a7} : (State.udpSend s a1 a2 a3 a4 a5 a6 a7).regs.rw = s.regs.rw := State.udpSend_keeps.same .rw (by rfl)
@[simp] theorem State.udpSend_p_fuses {s : State} {a1 a2 a3 a4 a5 a6 a7} : (State.udpSend s a1 a2 a3 a4 a5 a6 a7).fuses = s.fuses := State.udpSend_keeps.same .fuses (by rfl)
@[simp] theorem State.udpSend_p_cfg {s : State} {a1 a2 a3 a4 a5 a6 a7} : (State.udpSend s a1 a2 a3 a4 a5 a6 a7).cfg = s.cfg := State.udpSend_keeps.same .cfg (by rfl)
@[simp] theorem State.udpSend_p_warm {s : State} {a1 a2 a3 a4 a5 a6 a7} : (State.udpSend s a1 a2 a3 a4 a5 a6 a7).warm = s.warm := State.udpSend_keeps.same .warm (by rfl)
@[simp] theorem State.udpSend_p_mem {s : State} {a1 a2 a3 a4 a5 a6 a7} : (State.udpSend s a1 a2 a3 a4 a5 a6 a7).mem = s.mem := State.udpSend_keeps.same .mem (by rfl)
@[simp] theorem State.udpSend_p_free {s : State} {a1 a2 a3 a4 a5 a6 a7} : (State.udpSend s a1 a2 a3 a4 a5 a6 a7).free = s.free := State.udpSend_keeps.same .free (by rfl)
@[simp] theorem State.udpSend_f_rw {s : State} {a1 a2 a3 a4 a5 a6 a7} (o : Nat) : (State.udpSend s a1 a2 a3 a4 a5 a6 a7).rw o = s.rw o := by unfold State.rw; rw [State.udpSend_regs_rw]
@[simp] theorem State.udpSend_p_variant {s : State} {a1 a2 a3 a4 a5 a6 a7} : (State.udpSend s a1 a2 a3 a4 a5 a6 a7).variant = s.variant := State.udpSend_keeps.lasting.variant
@[simp] theorem State.udpSend_p_ticks {s : State} {a1 a2 a3 a4 a5 a6 a7} : (State.udpSend s a1 a2 a3 a4 a5 a6 a7).ticks = s.ticks := State.udpSend_keeps.lasting.ticks
@[simp] theorem State.udpSend_p_pending {s : State} {a1 a2 a3 a4 a5 a6 a7} : (State.udpSend s a1 a2 a3 a4 a5 a6 a7).pending = s.pending := State.udpSend_keeps.lasting.pending
@[simp] theorem State.jobDone_regs_rws {s : State} {a1} : (State.jobDone s a1).regs.rws = s.regs.rws := State.jobDone_keeps.same .rws (by rfl)
@[simp] theorem State.jobDone_regs_rw {s : State} {a1} : (State.jobDone s a1).regs.rw = s.regs.rw := State.jobDone_keeps.same .rw (by rfl)
@[simp] theorem State.jobDone_p_flt {s : State} {a1} : (State.jobDone s a1).flt = s.flt := State.jobDone_keeps.same .flt (by rfl)
@[simp] theorem State.jobDone_p_hk {s : State} {a1} : (State.jobDone s a1).hk = s.hk := State.jobDone_keeps.same .hk (by rfl)
@[simp] theorem State.jobDone_p_boot {s : State} {a1} : (State.jobDone s a1).boot = s.boot := State.jobDone_keeps.same .boot (by rfl)
@[simp] theorem State.jobDone_p_fuses {s : State} {a1} : (State.jobDone s a1).fuses = s.fuses := State.jobDone_keeps.same .fuses (by rfl)
@[simp] theorem State.jobDone_p_cfg {s : State} {a1} : (State.jobDone s a1).cfg = s.cfg := State.jobDone_keeps.same .cfg (by rfl)
@[simp] theorem State.jobDone_p_tb {s : State} {a1} : (State.jobDone s a1).tb = s.tb := State.jobDone_keeps.same .tb (by rfl)
@[simp] theorem State.jobDone_p_tl {s : State} {a1} : (State.jobDone s a1).tl = s.tl := State.jobDone_keeps.same .tl (by rfl)
@[simp] theorem State.jobDone_p_sc {s : State} {a1} : (State.jobDone s a1).sc = s.sc := State.jobDone_keeps.same .sc (by rfl)
@[simp] theorem State.jobDone_p_warm {s : State} {a1} : (State.jobDone s a1).warm = s.warm := State.jobDone_keeps.same .warm (by rfl)
@[simp] theorem State.jobDone_p_ports {s : State} {a1} : (State.jobDone s a1).ports = s.ports := State.jobDone_keeps.same .ports (by rfl)
@[simp] theorem State.jobDone_p_tiles {s : State} {a1} : (State.jobDone s a1).tiles = s.tiles := State.jobDone_keeps.same .tiles (by rfl)
@[simp] theorem State.jobDone_p_net {s : State} {a1} : (State.jobDone s a1).net = s.net := State.jobDone_keeps.same .net (by rfl)
@[simp] theorem State.jobDone_p_mem {s : State} {a1} : (State.jobDone s a1).mem = s.mem := State.jobDone_keeps.same .mem (by rfl)
@[simp] theorem State.jobDone_p_fab {s : State} {a1} : (State.jobDone s a1).fab = s.fab := State.jobDone_keeps.same .fab (by rfl)
@[simp] theorem State.jobDone_p_rl {s : State} {a1} : (State.jobDone s a1).rl = s.rl := State.jobDone_keeps.same .rl (by rfl)
@[simp] theorem State.jobDone_p_pwr {s : State} {a1} : (State.jobDone s a1).pwr = s.pwr := State.jobDone_keeps.same .pwr (by rfl)
@[simp] theorem State.jobDone_p_free {s : State} {a1} : (State.jobDone s a1).free = s.free := State.jobDone_keeps.same .free (by rfl)
@[simp] theorem State.jobDone_p_out {s : State} {a1} : (State.jobDone s a1).out = s.out := State.jobDone_keeps.same .out (by rfl)
@[simp] theorem State.jobDone_f_rws {s : State} {a1} (o : Nat) : (State.jobDone s a1).rws o = s.rws o := by unfold State.rws; rw [State.jobDone_regs_rws]
@[simp] theorem State.jobDone_f_rw {s : State} {a1} (o : Nat) : (State.jobDone s a1).rw o = s.rw o := by unfold State.rw; rw [State.jobDone_regs_rw]
@[simp] theorem State.jobDone_p_variant {s : State} {a1} : (State.jobDone s a1).variant = s.variant := State.jobDone_keeps.lasting.variant
@[simp] theorem State.jobDone_p_ticks {s : State} {a1} : (State.jobDone s a1).ticks = s.ticks := State.jobDone_keeps.lasting.ticks
@[simp] theorem State.jobDone_p_pending {s : State} {a1} : (State.jobDone s a1).pending = s.pending := State.jobDone_keeps.lasting.pending
@[simp] theorem State.pnReserveAll_regs_rw {s : State}  : (State.pnReserveAll s).regs.rw = s.regs.rw := State.pnReserveAll_keeps.same .rw (by rfl)
@[simp] theorem State.pnReserveAll_p_fuses {s : State}  : (State.pnReserveAll s).fuses = s.fuses := State.pnReserveAll_keeps.same .fuses (by rfl)
@[simp] theorem State.pnReserveAll_p_cfg {s : State}  : (State.pnReserveAll s).cfg = s.cfg := State.pnReserveAll_keeps.same .cfg (by rfl)
@[simp] theorem State.pnReserveAll_p_warm {s : State}  : (State.pnReserveAll s).warm = s.warm := State.pnReserveAll_keeps.same .warm (by rfl)
@[simp] theorem State.pnReserveAll_p_mem {s : State}  : (State.pnReserveAll s).mem = s.mem := State.pnReserveAll_keeps.same .mem (by rfl)
@[simp] theorem State.pnReserveAll_p_free {s : State}  : (State.pnReserveAll s).free = s.free := State.pnReserveAll_keeps.same .free (by rfl)
@[simp] theorem State.pnReserveAll_f_rw {s : State}  (o : Nat) : (State.pnReserveAll s).rw o = s.rw o := by unfold State.rw; rw [State.pnReserveAll_regs_rw]
@[simp] theorem State.pnReserveAll_p_variant {s : State}  : (State.pnReserveAll s).variant = s.variant := State.pnReserveAll_keeps.lasting.variant
@[simp] theorem State.pnReserveAll_p_ticks {s : State}  : (State.pnReserveAll s).ticks = s.ticks := State.pnReserveAll_keeps.lasting.ticks
@[simp] theorem State.pnReserveAll_p_pending {s : State}  : (State.pnReserveAll s).pending = s.pending := State.pnReserveAll_keeps.lasting.pending
@[simp] theorem State.vioRelease_regs_rws {s : State}  : (State.vioRelease s).regs.rws = s.regs.rws := State.vioRelease_keeps.same .rws (by rfl)
@[simp] theorem State.vioRelease_regs_rw {s : State}  : (State.vioRelease s).regs.rw = s.regs.rw := State.vioRelease_keeps.same .rw (by rfl)
@[simp] theorem State.vioRelease_regs_cnt {s : State}  : (State.vioRelease s).regs.cnt = s.regs.cnt := (State.vioRelease_keeps.same .cnt (by rfl)).1
@[simp] theorem State.vioRelease_p_evt {s : State}  : (State.vioRelease s).evt = s.evt := State.vioRelease_keeps.same .evt (by rfl)
@[simp] theorem State.vioRelease_p_flt {s : State}  : (State.vioRelease s).flt = s.flt := State.vioRelease_keeps.same .flt (by rfl)
@[simp] theorem State.vioRelease_p_hk {s : State}  : (State.vioRelease s).hk = s.hk := State.vioRelease_keeps.same .hk (by rfl)
@[simp] theorem State.vioRelease_p_boot {s : State}  : (State.vioRelease s).boot = s.boot := State.vioRelease_keeps.same .boot (by rfl)
@[simp] theorem State.vioRelease_p_nvm {s : State}  : (State.vioRelease s).nvm = s.nvm := State.vioRelease_keeps.same .nvm (by rfl)
@[simp] theorem State.vioRelease_p_fuses {s : State}  : (State.vioRelease s).fuses = s.fuses := State.vioRelease_keeps.same .fuses (by rfl)
@[simp] theorem State.vioRelease_p_sec {s : State}  : (State.vioRelease s).sec = s.sec := State.vioRelease_keeps.same .sec (by rfl)
@[simp] theorem State.vioRelease_p_cfg {s : State}  : (State.vioRelease s).cfg = s.cfg := State.vioRelease_keeps.same .cfg (by rfl)
@[simp] theorem State.vioRelease_p_tb {s : State}  : (State.vioRelease s).tb = s.tb := State.vioRelease_keeps.same .tb (by rfl)
@[simp] theorem State.vioRelease_p_tl {s : State}  : (State.vioRelease s).tl = s.tl := State.vioRelease_keeps.same .tl (by rfl)
@[simp] theorem State.vioRelease_p_sc {s : State}  : (State.vioRelease s).sc = s.sc := State.vioRelease_keeps.same .sc (by rfl)
@[simp] theorem State.vioRelease_p_warm {s : State}  : (State.vioRelease s).warm = s.warm := State.vioRelease_keeps.same .warm (by rfl)
@[simp] theorem State.vioRelease_p_ports {s : State}  : (State.vioRelease s).ports = s.ports := State.vioRelease_keeps.same .ports (by rfl)
@[simp] theorem State.vioRelease_p_tiles {s : State}  : (State.vioRelease s).tiles = s.tiles := State.vioRelease_keeps.same .tiles (by rfl)
@[simp] theorem State.vioRelease_p_net {s : State}  : (State.vioRelease s).net = s.net := State.vioRelease_keeps.same .net (by rfl)
@[simp] theorem State.vioRelease_p_host {s : State}  : (State.vioRelease s).host = s.host := State.vioRelease_keeps.same .host (by rfl)
@[simp] theorem State.vioRelease_p_mem {s : State}  : (State.vioRelease s).mem = s.mem := State.vioRelease_keeps.same .mem (by rfl)
@[simp] theorem State.vioRelease_p_fab {s : State}  : (State.vioRelease s).fab = s.fab := State.vioRelease_keeps.same .fab (by rfl)
@[simp] theorem State.vioRelease_p_rl {s : State}  : (State.vioRelease s).rl = s.rl := State.vioRelease_keeps.same .rl (by rfl)
@[simp] theorem State.vioRelease_p_free {s : State}  : (State.vioRelease s).free = s.free := State.vioRelease_keeps.same .free (by rfl)
@[simp] theorem State.vioRelease_p_out {s : State}  : (State.vioRelease s).out = s.out := State.vioRelease_keeps.same .out (by rfl)
@[simp] theorem State.vioRelease_f_rws {s : State}  (o : Nat) : (State.vioRelease s).rws o = s.rws o := by unfold State.rws; rw [State.vioRelease_regs_rws]
@[simp] theorem State.vioRelease_f_rw {s : State}  (o : Nat) : (State.vioRelease s).rw o = s.rw o := by unfold State.rw; rw [State.vioRelease_regs_rw]
@[simp] theorem State.vioRelease_f_cnt {s : State}  (o : Nat) : (State.vioRelease s).cnt o = s.cnt o := by unfold State.cnt; rw [State.vioRelease_regs_cnt]
@[simp] theorem State.vioRelease_p_variant {s : State}  : (State.vioRelease s).variant = s.variant := State.vioRelease_keeps.lasting.variant
@[simp] theorem State.vioRelease_p_ticks {s : State}  : (State.vioRelease s).ticks = s.ticks := State.vioRelease_keeps.lasting.ticks
@[simp] theorem State.vioRelease_p_pending {s : State}  : (State.vioRelease s).pending = s.pending := State.vioRelease_keeps.lasting.pending
@[simp] theorem State.cutOp_regs_rws {s : State}  : (State.cutOp s).regs.rws = s.regs.rws := State.cutOp_keeps.same .rws (by rfl)
@[simp] theorem State.cutOp_regs_rw {s : State}  : (State.cutOp s).regs.rw = s.regs.rw := State.cutOp_keeps.same .rw (by rfl)
@[simp] theorem State.cutOp_regs_cnt {s : State}  : (State.cutOp s).regs.cnt = s.regs.cnt := (State.cutOp_keeps.same .cnt (by rfl)).1
@[simp] theorem State.cutOp_p_evt {s : State}  : (State.cutOp s).evt = s.evt := State.cutOp_keeps.same .evt (by rfl)
@[simp] theorem State.cutOp_p_flt {s : State}  : (State.cutOp s).flt = s.flt := State.cutOp_keeps.same .flt (by rfl)
@[simp] theorem State.cutOp_p_hk {s : State}  : (State.cutOp s).hk = s.hk := State.cutOp_keeps.same .hk (by rfl)
@[simp] theorem State.cutOp_p_boot {s : State}  : (State.cutOp s).boot = s.boot := State.cutOp_keeps.same .boot (by rfl)
@[simp] theorem State.cutOp_p_fuses {s : State}  : (State.cutOp s).fuses = s.fuses := State.cutOp_keeps.same .fuses (by rfl)
@[simp] theorem State.cutOp_p_sec {s : State}  : (State.cutOp s).sec = s.sec := State.cutOp_keeps.same .sec (by rfl)
@[simp] theorem State.cutOp_p_cfg {s : State}  : (State.cutOp s).cfg = s.cfg := State.cutOp_keeps.same .cfg (by rfl)
@[simp] theorem State.cutOp_p_tb {s : State}  : (State.cutOp s).tb = s.tb := State.cutOp_keeps.same .tb (by rfl)
@[simp] theorem State.cutOp_p_tl {s : State}  : (State.cutOp s).tl = s.tl := State.cutOp_keeps.same .tl (by rfl)
@[simp] theorem State.cutOp_p_sc {s : State}  : (State.cutOp s).sc = s.sc := State.cutOp_keeps.same .sc (by rfl)
@[simp] theorem State.cutOp_p_warm {s : State}  : (State.cutOp s).warm = s.warm := State.cutOp_keeps.same .warm (by rfl)
@[simp] theorem State.cutOp_p_ports {s : State}  : (State.cutOp s).ports = s.ports := State.cutOp_keeps.same .ports (by rfl)
@[simp] theorem State.cutOp_p_tiles {s : State}  : (State.cutOp s).tiles = s.tiles := State.cutOp_keeps.same .tiles (by rfl)
@[simp] theorem State.cutOp_p_net {s : State}  : (State.cutOp s).net = s.net := State.cutOp_keeps.same .net (by rfl)
@[simp] theorem State.cutOp_p_host {s : State}  : (State.cutOp s).host = s.host := State.cutOp_keeps.same .host (by rfl)
@[simp] theorem State.cutOp_p_mem {s : State}  : (State.cutOp s).mem = s.mem := State.cutOp_keeps.same .mem (by rfl)
@[simp] theorem State.cutOp_p_fab {s : State}  : (State.cutOp s).fab = s.fab := State.cutOp_keeps.same .fab (by rfl)
@[simp] theorem State.cutOp_p_rl {s : State}  : (State.cutOp s).rl = s.rl := State.cutOp_keeps.same .rl (by rfl)
@[simp] theorem State.cutOp_p_pwr {s : State}  : (State.cutOp s).pwr = s.pwr := State.cutOp_keeps.same .pwr (by rfl)
@[simp] theorem State.cutOp_p_out {s : State}  : (State.cutOp s).out = s.out := State.cutOp_keeps.same .out (by rfl)
@[simp] theorem State.cutOp_f_rws {s : State}  (o : Nat) : (State.cutOp s).rws o = s.rws o := by unfold State.rws; rw [State.cutOp_regs_rws]
@[simp] theorem State.cutOp_f_rw {s : State}  (o : Nat) : (State.cutOp s).rw o = s.rw o := by unfold State.rw; rw [State.cutOp_regs_rw]
@[simp] theorem State.cutOp_f_cnt {s : State}  (o : Nat) : (State.cutOp s).cnt o = s.cnt o := by unfold State.cnt; rw [State.cutOp_regs_cnt]
@[simp] theorem State.cutOp_p_variant {s : State}  : (State.cutOp s).variant = s.variant := State.cutOp_keeps.lasting.variant
@[simp] theorem State.cutOp_p_ticks {s : State}  : (State.cutOp s).ticks = s.ticks := State.cutOp_keeps.lasting.ticks
@[simp] theorem State.cutOp_p_pending {s : State}  : (State.cutOp s).pending = s.pending := State.cutOp_keeps.lasting.pending
@[simp] theorem State.pnBlock_regs_rws {s : State} {a1 a2} : (State.pnBlock s a1 a2).regs.rws = s.regs.rws := State.pnBlock_keeps.same .rws (by rfl)
@[simp] theorem State.pnBlock_regs_rw {s : State} {a1 a2} : (State.pnBlock s a1 a2).regs.rw = s.regs.rw := State.pnBlock_keeps.same .rw (by rfl)
@[simp] theorem State.pnBlock_regs_cnt {s : State} {a1 a2} : (State.pnBlock s a1 a2).regs.cnt = s.regs.cnt := (State.pnBlock_keeps.same .cnt (by rfl)).1
@[simp] theorem State.pnBlock_p_evt {s : State} {a1 a2} : (State.pnBlock s a1 a2).evt = s.evt := State.pnBlock_keeps.same .evt (by rfl)
@[simp] theorem State.pnBlock_p_flt {s : State} {a1 a2} : (State.pnBlock s a1 a2).flt = s.flt := State.pnBlock_keeps.same .flt (by rfl)
@[simp] theorem State.pnBlock_p_hk {s : State} {a1 a2} : (State.pnBlock s a1 a2).hk = s.hk := State.pnBlock_keeps.same .hk (by rfl)
@[simp] theorem State.pnBlock_p_boot {s : State} {a1 a2} : (State.pnBlock s a1 a2).boot = s.boot := State.pnBlock_keeps.same .boot (by rfl)
@[simp] theorem State.pnBlock_p_nvm {s : State} {a1 a2} : (State.pnBlock s a1 a2).nvm = s.nvm := State.pnBlock_keeps.same .nvm (by rfl)
@[simp] theorem State.pnBlock_p_fuses {s : State} {a1 a2} : (State.pnBlock s a1 a2).fuses = s.fuses := State.pnBlock_keeps.same .fuses (by rfl)
@[simp] theorem State.pnBlock_p_cfg {s : State} {a1 a2} : (State.pnBlock s a1 a2).cfg = s.cfg := State.pnBlock_keeps.same .cfg (by rfl)
@[simp] theorem State.pnBlock_p_tb {s : State} {a1 a2} : (State.pnBlock s a1 a2).tb = s.tb := State.pnBlock_keeps.same .tb (by rfl)
@[simp] theorem State.pnBlock_p_tl {s : State} {a1 a2} : (State.pnBlock s a1 a2).tl = s.tl := State.pnBlock_keeps.same .tl (by rfl)
@[simp] theorem State.pnBlock_p_sc {s : State} {a1 a2} : (State.pnBlock s a1 a2).sc = s.sc := State.pnBlock_keeps.same .sc (by rfl)
@[simp] theorem State.pnBlock_p_warm {s : State} {a1 a2} : (State.pnBlock s a1 a2).warm = s.warm := State.pnBlock_keeps.same .warm (by rfl)
@[simp] theorem State.pnBlock_p_ports {s : State} {a1 a2} : (State.pnBlock s a1 a2).ports = s.ports := State.pnBlock_keeps.same .ports (by rfl)
@[simp] theorem State.pnBlock_p_tiles {s : State} {a1 a2} : (State.pnBlock s a1 a2).tiles = s.tiles := State.pnBlock_keeps.same .tiles (by rfl)
@[simp] theorem State.pnBlock_p_net {s : State} {a1 a2} : (State.pnBlock s a1 a2).net = s.net := State.pnBlock_keeps.same .net (by rfl)
@[simp] theorem State.pnBlock_p_host {s : State} {a1 a2} : (State.pnBlock s a1 a2).host = s.host := State.pnBlock_keeps.same .host (by rfl)
@[simp] theorem State.pnBlock_p_mem {s : State} {a1 a2} : (State.pnBlock s a1 a2).mem = s.mem := State.pnBlock_keeps.same .mem (by rfl)
@[simp] theorem State.pnBlock_p_fab {s : State} {a1 a2} : (State.pnBlock s a1 a2).fab = s.fab := State.pnBlock_keeps.same .fab (by rfl)
@[simp] theorem State.pnBlock_p_rl {s : State} {a1 a2} : (State.pnBlock s a1 a2).rl = s.rl := State.pnBlock_keeps.same .rl (by rfl)
@[simp] theorem State.pnBlock_p_pwr {s : State} {a1 a2} : (State.pnBlock s a1 a2).pwr = s.pwr := State.pnBlock_keeps.same .pwr (by rfl)
@[simp] theorem State.pnBlock_p_free {s : State} {a1 a2} : (State.pnBlock s a1 a2).free = s.free := State.pnBlock_keeps.same .free (by rfl)
@[simp] theorem State.pnBlock_p_out {s : State} {a1 a2} : (State.pnBlock s a1 a2).out = s.out := State.pnBlock_keeps.same .out (by rfl)
@[simp] theorem State.pnBlock_f_rws {s : State} {a1 a2} (o : Nat) : (State.pnBlock s a1 a2).rws o = s.rws o := by unfold State.rws; rw [State.pnBlock_regs_rws]
@[simp] theorem State.pnBlock_f_rw {s : State} {a1 a2} (o : Nat) : (State.pnBlock s a1 a2).rw o = s.rw o := by unfold State.rw; rw [State.pnBlock_regs_rw]
@[simp] theorem State.pnBlock_f_cnt {s : State} {a1 a2} (o : Nat) : (State.pnBlock s a1 a2).cnt o = s.cnt o := by unfold State.cnt; rw [State.pnBlock_regs_cnt]
@[simp] theorem State.pnBlock_p_variant {s : State} {a1 a2} : (State.pnBlock s a1 a2).variant = s.variant := State.pnBlock_keeps.lasting.variant
@[simp] theorem State.pnBlock_p_ticks {s : State} {a1 a2} : (State.pnBlock s a1 a2).ticks = s.ticks := State.pnBlock_keeps.lasting.ticks
@[simp] theorem State.pnBlock_p_pending {s : State} {a1 a2} : (State.pnBlock s a1 a2).pending = s.pending := State.pnBlock_keeps.lasting.pending
@[simp] theorem State.jTidy_regs_rws {s : State}  : (State.jTidy s).regs.rws = s.regs.rws := State.jTidy_keeps.same .rws (by rfl)
@[simp] theorem State.jTidy_regs_rw {s : State}  : (State.jTidy s).regs.rw = s.regs.rw := State.jTidy_keeps.same .rw (by rfl)
@[simp] theorem State.jTidy_regs_cnt {s : State}  : (State.jTidy s).regs.cnt = s.regs.cnt := (State.jTidy_keeps.same .cnt (by rfl)).1
@[simp] theorem State.jTidy_p_evt {s : State}  : (State.jTidy s).evt = s.evt := State.jTidy_keeps.same .evt (by rfl)
@[simp] theorem State.jTidy_p_flt {s : State}  : (State.jTidy s).flt = s.flt := State.jTidy_keeps.same .flt (by rfl)
@[simp] theorem State.jTidy_p_hk {s : State}  : (State.jTidy s).hk = s.hk := State.jTidy_keeps.same .hk (by rfl)
@[simp] theorem State.jTidy_p_boot {s : State}  : (State.jTidy s).boot = s.boot := State.jTidy_keeps.same .boot (by rfl)
@[simp] theorem State.jTidy_p_fuses {s : State}  : (State.jTidy s).fuses = s.fuses := State.jTidy_keeps.same .fuses (by rfl)
@[simp] theorem State.jTidy_p_sec {s : State}  : (State.jTidy s).sec = s.sec := State.jTidy_keeps.same .sec (by rfl)
@[simp] theorem State.jTidy_p_cfg {s : State}  : (State.jTidy s).cfg = s.cfg := State.jTidy_keeps.same .cfg (by rfl)
@[simp] theorem State.jTidy_p_tb {s : State}  : (State.jTidy s).tb = s.tb := State.jTidy_keeps.same .tb (by rfl)
@[simp] theorem State.jTidy_p_tl {s : State}  : (State.jTidy s).tl = s.tl := State.jTidy_keeps.same .tl (by rfl)
@[simp] theorem State.jTidy_p_sc {s : State}  : (State.jTidy s).sc = s.sc := State.jTidy_keeps.same .sc (by rfl)
@[simp] theorem State.jTidy_p_warm {s : State}  : (State.jTidy s).warm = s.warm := State.jTidy_keeps.same .warm (by rfl)
@[simp] theorem State.jTidy_p_ports {s : State}  : (State.jTidy s).ports = s.ports := State.jTidy_keeps.same .ports (by rfl)
@[simp] theorem State.jTidy_p_tiles {s : State}  : (State.jTidy s).tiles = s.tiles := State.jTidy_keeps.same .tiles (by rfl)
@[simp] theorem State.jTidy_p_net {s : State}  : (State.jTidy s).net = s.net := State.jTidy_keeps.same .net (by rfl)
@[simp] theorem State.jTidy_p_host {s : State}  : (State.jTidy s).host = s.host := State.jTidy_keeps.same .host (by rfl)
@[simp] theorem State.jTidy_p_mem {s : State}  : (State.jTidy s).mem = s.mem := State.jTidy_keeps.same .mem (by rfl)
@[simp] theorem State.jTidy_p_fab {s : State}  : (State.jTidy s).fab = s.fab := State.jTidy_keeps.same .fab (by rfl)
@[simp] theorem State.jTidy_p_rl {s : State}  : (State.jTidy s).rl = s.rl := State.jTidy_keeps.same .rl (by rfl)
@[simp] theorem State.jTidy_p_pwr {s : State}  : (State.jTidy s).pwr = s.pwr := State.jTidy_keeps.same .pwr (by rfl)
@[simp] theorem State.jTidy_p_free {s : State}  : (State.jTidy s).free = s.free := State.jTidy_keeps.same .free (by rfl)
@[simp] theorem State.jTidy_p_out {s : State}  : (State.jTidy s).out = s.out := State.jTidy_keeps.same .out (by rfl)
@[simp] theorem State.jTidy_f_rws {s : State}  (o : Nat) : (State.jTidy s).rws o = s.rws o := by unfold State.rws; rw [State.jTidy_regs_rws]
@[simp] theorem State.jTidy_f_rw {s : State}  (o : Nat) : (State.jTidy s).rw o = s.rw o := by unfold State.rw; rw [State.jTidy_regs_rw]
@[simp] theorem State.jTidy_f_cnt {s : State}  (o : Nat) : (State.jTidy s).cnt o = s.cnt o := by unfold State.cnt; rw [State.jTidy_regs_cnt]
@[simp] theorem State.jTidy_p_variant {s : State}  : (State.jTidy s).variant = s.variant := State.jTidy_keeps.lasting.variant
@[simp] theorem State.jTidy_p_ticks {s : State}  : (State.jTidy s).ticks = s.ticks := State.jTidy_keeps.lasting.ticks
@[simp] theorem State.jTidy_p_pending {s : State}  : (State.jTidy s).pending = s.pending := State.jTidy_keeps.lasting.pending
@[simp] theorem State.recordDone_regs_rws {s : State} {a1} : (State.recordDone s a1).regs.rws = s.regs.rws := State.recordDone_keeps.same .rws (by rfl)
@[simp] theorem State.recordDone_regs_rw {s : State} {a1} : (State.recordDone s a1).regs.rw = s.regs.rw := State.recordDone_keeps.same .rw (by rfl)
@[simp] theorem State.recordDone_regs_cnt {s : State} {a1} : (State.recordDone s a1).regs.cnt = s.regs.cnt := (State.recordDone_keeps.same .cnt (by rfl)).1
@[simp] theorem State.recordDone_p_evt {s : State} {a1} : (State.recordDone s a1).evt = s.evt := State.recordDone_keeps.same .evt (by rfl)
@[simp] theorem State.recordDone_p_flt {s : State} {a1} : (State.recordDone s a1).flt = s.flt := State.recordDone_keeps.same .flt (by rfl)
@[simp] theorem State.recordDone_p_hk {s : State} {a1} : (State.recordDone s a1).hk = s.hk := State.recordDone_keeps.same .hk (by rfl)
@[simp] theorem State.recordDone_p_boot {s : State} {a1} : (State.recordDone s a1).boot = s.boot := State.recordDone_keeps.same .boot (by rfl)
@[simp] theorem State.recordDone_p_fuses {s : State} {a1} : (State.recordDone s a1).fuses = s.fuses := State.recordDone_keeps.same .fuses (by rfl)
@[simp] theorem State.recordDone_p_cfg {s : State} {a1} : (State.recordDone s a1).cfg = s.cfg := State.recordDone_keeps.same .cfg (by rfl)
@[simp] theorem State.recordDone_p_tb {s : State} {a1} : (State.recordDone s a1).tb = s.tb := State.recordDone_keeps.same .tb (by rfl)
@[simp] theorem State.recordDone_p_tl {s : State} {a1} : (State.recordDone s a1).tl = s.tl := State.recordDone_keeps.same .tl (by rfl)
@[simp] theorem State.recordDone_p_sc {s : State} {a1} : (State.recordDone s a1).sc = s.sc := State.recordDone_keeps.same .sc (by rfl)
@[simp] theorem State.recordDone_p_warm {s : State} {a1} : (State.recordDone s a1).warm = s.warm := State.recordDone_keeps.same .warm (by rfl)
@[simp] theorem State.recordDone_p_ports {s : State} {a1} : (State.recordDone s a1).ports = s.ports := State.recordDone_keeps.same .ports (by rfl)
@[simp] theorem State.recordDone_p_tiles {s : State} {a1} : (State.recordDone s a1).tiles = s.tiles := State.recordDone_keeps.same .tiles (by rfl)
@[simp] theorem State.recordDone_p_net {s : State} {a1} : (State.recordDone s a1).net = s.net := State.recordDone_keeps.same .net (by rfl)
@[simp] theorem State.recordDone_p_host {s : State} {a1} : (State.recordDone s a1).host = s.host := State.recordDone_keeps.same .host (by rfl)
@[simp] theorem State.recordDone_p_mem {s : State} {a1} : (State.recordDone s a1).mem = s.mem := State.recordDone_keeps.same .mem (by rfl)
@[simp] theorem State.recordDone_p_fab {s : State} {a1} : (State.recordDone s a1).fab = s.fab := State.recordDone_keeps.same .fab (by rfl)
@[simp] theorem State.recordDone_p_rl {s : State} {a1} : (State.recordDone s a1).rl = s.rl := State.recordDone_keeps.same .rl (by rfl)
@[simp] theorem State.recordDone_p_pwr {s : State} {a1} : (State.recordDone s a1).pwr = s.pwr := State.recordDone_keeps.same .pwr (by rfl)
@[simp] theorem State.recordDone_p_free {s : State} {a1} : (State.recordDone s a1).free = s.free := State.recordDone_keeps.same .free (by rfl)
@[simp] theorem State.recordDone_p_out {s : State} {a1} : (State.recordDone s a1).out = s.out := State.recordDone_keeps.same .out (by rfl)
@[simp] theorem State.recordDone_f_rws {s : State} {a1} (o : Nat) : (State.recordDone s a1).rws o = s.rws o := by unfold State.rws; rw [State.recordDone_regs_rws]
@[simp] theorem State.recordDone_f_rw {s : State} {a1} (o : Nat) : (State.recordDone s a1).rw o = s.rw o := by unfold State.rw; rw [State.recordDone_regs_rw]
@[simp] theorem State.recordDone_f_cnt {s : State} {a1} (o : Nat) : (State.recordDone s a1).cnt o = s.cnt o := by unfold State.cnt; rw [State.recordDone_regs_cnt]
@[simp] theorem State.recordDone_p_variant {s : State} {a1} : (State.recordDone s a1).variant = s.variant := State.recordDone_keeps.lasting.variant
@[simp] theorem State.recordDone_p_ticks {s : State} {a1} : (State.recordDone s a1).ticks = s.ticks := State.recordDone_keeps.lasting.ticks
@[simp] theorem State.recordDone_p_pending {s : State} {a1} : (State.recordDone s a1).pending = s.pending := State.recordDone_keeps.lasting.pending
@[simp] theorem State.hurdleEvents_regs_rws {s : State} {a1 a2 a3} : (State.hurdleEvents s a1 a2 a3).regs.rws = s.regs.rws := State.hurdleEvents_keeps.same .rws (by rfl)
@[simp] theorem State.hurdleEvents_regs_rw {s : State} {a1 a2 a3} : (State.hurdleEvents s a1 a2 a3).regs.rw = s.regs.rw := State.hurdleEvents_keeps.same .rw (by rfl)
@[simp] theorem State.hurdleEvents_p_flt {s : State} {a1 a2 a3} : (State.hurdleEvents s a1 a2 a3).flt = s.flt := State.hurdleEvents_keeps.same .flt (by rfl)
@[simp] theorem State.hurdleEvents_p_hk {s : State} {a1 a2 a3} : (State.hurdleEvents s a1 a2 a3).hk = s.hk := State.hurdleEvents_keeps.same .hk (by rfl)
@[simp] theorem State.hurdleEvents_p_boot {s : State} {a1 a2 a3} : (State.hurdleEvents s a1 a2 a3).boot = s.boot := State.hurdleEvents_keeps.same .boot (by rfl)
@[simp] theorem State.hurdleEvents_p_nvm {s : State} {a1 a2 a3} : (State.hurdleEvents s a1 a2 a3).nvm = s.nvm := State.hurdleEvents_keeps.same .nvm (by rfl)
@[simp] theorem State.hurdleEvents_p_fuses {s : State} {a1 a2 a3} : (State.hurdleEvents s a1 a2 a3).fuses = s.fuses := State.hurdleEvents_keeps.same .fuses (by rfl)
@[simp] theorem State.hurdleEvents_p_sec {s : State} {a1 a2 a3} : (State.hurdleEvents s a1 a2 a3).sec = s.sec := State.hurdleEvents_keeps.same .sec (by rfl)
@[simp] theorem State.hurdleEvents_p_cfg {s : State} {a1 a2 a3} : (State.hurdleEvents s a1 a2 a3).cfg = s.cfg := State.hurdleEvents_keeps.same .cfg (by rfl)
@[simp] theorem State.hurdleEvents_p_tb {s : State} {a1 a2 a3} : (State.hurdleEvents s a1 a2 a3).tb = s.tb := State.hurdleEvents_keeps.same .tb (by rfl)
@[simp] theorem State.hurdleEvents_p_tl {s : State} {a1 a2 a3} : (State.hurdleEvents s a1 a2 a3).tl = s.tl := State.hurdleEvents_keeps.same .tl (by rfl)
@[simp] theorem State.hurdleEvents_p_sc {s : State} {a1 a2 a3} : (State.hurdleEvents s a1 a2 a3).sc = s.sc := State.hurdleEvents_keeps.same .sc (by rfl)
@[simp] theorem State.hurdleEvents_p_warm {s : State} {a1 a2 a3} : (State.hurdleEvents s a1 a2 a3).warm = s.warm := State.hurdleEvents_keeps.same .warm (by rfl)
@[simp] theorem State.hurdleEvents_p_ports {s : State} {a1 a2 a3} : (State.hurdleEvents s a1 a2 a3).ports = s.ports := State.hurdleEvents_keeps.same .ports (by rfl)
@[simp] theorem State.hurdleEvents_p_tiles {s : State} {a1 a2 a3} : (State.hurdleEvents s a1 a2 a3).tiles = s.tiles := State.hurdleEvents_keeps.same .tiles (by rfl)
@[simp] theorem State.hurdleEvents_p_net {s : State} {a1 a2 a3} : (State.hurdleEvents s a1 a2 a3).net = s.net := State.hurdleEvents_keeps.same .net (by rfl)
@[simp] theorem State.hurdleEvents_p_host {s : State} {a1 a2 a3} : (State.hurdleEvents s a1 a2 a3).host = s.host := State.hurdleEvents_keeps.same .host (by rfl)
@[simp] theorem State.hurdleEvents_p_mem {s : State} {a1 a2 a3} : (State.hurdleEvents s a1 a2 a3).mem = s.mem := State.hurdleEvents_keeps.same .mem (by rfl)
@[simp] theorem State.hurdleEvents_p_fab {s : State} {a1 a2 a3} : (State.hurdleEvents s a1 a2 a3).fab = s.fab := State.hurdleEvents_keeps.same .fab (by rfl)
@[simp] theorem State.hurdleEvents_p_rl {s : State} {a1 a2 a3} : (State.hurdleEvents s a1 a2 a3).rl = s.rl := State.hurdleEvents_keeps.same .rl (by rfl)
@[simp] theorem State.hurdleEvents_p_pwr {s : State} {a1 a2 a3} : (State.hurdleEvents s a1 a2 a3).pwr = s.pwr := State.hurdleEvents_keeps.same .pwr (by rfl)
@[simp] theorem State.hurdleEvents_p_free {s : State} {a1 a2 a3} : (State.hurdleEvents s a1 a2 a3).free = s.free := State.hurdleEvents_keeps.same .free (by rfl)
@[simp] theorem State.hurdleEvents_p_out {s : State} {a1 a2 a3} : (State.hurdleEvents s a1 a2 a3).out = s.out := State.hurdleEvents_keeps.same .out (by rfl)
@[simp] theorem State.hurdleEvents_f_rws {s : State} {a1 a2 a3} (o : Nat) : (State.hurdleEvents s a1 a2 a3).rws o = s.rws o := by unfold State.rws; rw [State.hurdleEvents_regs_rws]
@[simp] theorem State.hurdleEvents_f_rw {s : State} {a1 a2 a3} (o : Nat) : (State.hurdleEvents s a1 a2 a3).rw o = s.rw o := by unfold State.rw; rw [State.hurdleEvents_regs_rw]
@[simp] theorem State.hurdleEvents_p_variant {s : State} {a1 a2 a3} : (State.hurdleEvents s a1 a2 a3).variant = s.variant := State.hurdleEvents_keeps.lasting.variant
@[simp] theorem State.hurdleEvents_p_ticks {s : State} {a1 a2 a3} : (State.hurdleEvents s a1 a2 a3).ticks = s.ticks := State.hurdleEvents_keeps.lasting.ticks
@[simp] theorem State.hurdleEvents_p_pending {s : State} {a1 a2 a3} : (State.hurdleEvents s a1 a2 a3).pending = s.pending := State.hurdleEvents_keeps.lasting.pending
@[simp] theorem State.inForceEvents_regs_rws {s : State}  : (State.inForceEvents s).regs.rws = s.regs.rws := State.inForceEvents_keeps.same .rws (by rfl)
@[simp] theorem State.inForceEvents_regs_rw {s : State}  : (State.inForceEvents s).regs.rw = s.regs.rw := State.inForceEvents_keeps.same .rw (by rfl)
@[simp] theorem State.inForceEvents_p_flt {s : State}  : (State.inForceEvents s).flt = s.flt := State.inForceEvents_keeps.same .flt (by rfl)
@[simp] theorem State.inForceEvents_p_hk {s : State}  : (State.inForceEvents s).hk = s.hk := State.inForceEvents_keeps.same .hk (by rfl)
@[simp] theorem State.inForceEvents_p_boot {s : State}  : (State.inForceEvents s).boot = s.boot := State.inForceEvents_keeps.same .boot (by rfl)
@[simp] theorem State.inForceEvents_p_nvm {s : State}  : (State.inForceEvents s).nvm = s.nvm := State.inForceEvents_keeps.same .nvm (by rfl)
@[simp] theorem State.inForceEvents_p_fuses {s : State}  : (State.inForceEvents s).fuses = s.fuses := State.inForceEvents_keeps.same .fuses (by rfl)
@[simp] theorem State.inForceEvents_p_sec {s : State}  : (State.inForceEvents s).sec = s.sec := State.inForceEvents_keeps.same .sec (by rfl)
@[simp] theorem State.inForceEvents_p_cfg {s : State}  : (State.inForceEvents s).cfg = s.cfg := State.inForceEvents_keeps.same .cfg (by rfl)
@[simp] theorem State.inForceEvents_p_tb {s : State}  : (State.inForceEvents s).tb = s.tb := State.inForceEvents_keeps.same .tb (by rfl)
@[simp] theorem State.inForceEvents_p_tl {s : State}  : (State.inForceEvents s).tl = s.tl := State.inForceEvents_keeps.same .tl (by rfl)
@[simp] theorem State.inForceEvents_p_sc {s : State}  : (State.inForceEvents s).sc = s.sc := State.inForceEvents_keeps.same .sc (by rfl)
@[simp] theorem State.inForceEvents_p_warm {s : State}  : (State.inForceEvents s).warm = s.warm := State.inForceEvents_keeps.same .warm (by rfl)
@[simp] theorem State.inForceEvents_p_ports {s : State}  : (State.inForceEvents s).ports = s.ports := State.inForceEvents_keeps.same .ports (by rfl)
@[simp] theorem State.inForceEvents_p_tiles {s : State}  : (State.inForceEvents s).tiles = s.tiles := State.inForceEvents_keeps.same .tiles (by rfl)
@[simp] theorem State.inForceEvents_p_net {s : State}  : (State.inForceEvents s).net = s.net := State.inForceEvents_keeps.same .net (by rfl)
@[simp] theorem State.inForceEvents_p_host {s : State}  : (State.inForceEvents s).host = s.host := State.inForceEvents_keeps.same .host (by rfl)
@[simp] theorem State.inForceEvents_p_mem {s : State}  : (State.inForceEvents s).mem = s.mem := State.inForceEvents_keeps.same .mem (by rfl)
@[simp] theorem State.inForceEvents_p_fab {s : State}  : (State.inForceEvents s).fab = s.fab := State.inForceEvents_keeps.same .fab (by rfl)
@[simp] theorem State.inForceEvents_p_rl {s : State}  : (State.inForceEvents s).rl = s.rl := State.inForceEvents_keeps.same .rl (by rfl)
@[simp] theorem State.inForceEvents_p_pwr {s : State}  : (State.inForceEvents s).pwr = s.pwr := State.inForceEvents_keeps.same .pwr (by rfl)
@[simp] theorem State.inForceEvents_p_free {s : State}  : (State.inForceEvents s).free = s.free := State.inForceEvents_keeps.same .free (by rfl)
@[simp] theorem State.inForceEvents_p_out {s : State}  : (State.inForceEvents s).out = s.out := State.inForceEvents_keeps.same .out (by rfl)
@[simp] theorem State.inForceEvents_f_rws {s : State}  (o : Nat) : (State.inForceEvents s).rws o = s.rws o := by unfold State.rws; rw [State.inForceEvents_regs_rws]
@[simp] theorem State.inForceEvents_f_rw {s : State}  (o : Nat) : (State.inForceEvents s).rw o = s.rw o := by unfold State.rw; rw [State.inForceEvents_regs_rw]
@[simp] theorem State.inForceEvents_p_variant {s : State}  : (State.inForceEvents s).variant = s.variant := State.inForceEvents_keeps.lasting.variant
@[simp] theorem State.inForceEvents_p_ticks {s : State}  : (State.inForceEvents s).ticks = s.ticks := State.inForceEvents_keeps.lasting.ticks
@[simp] theorem State.inForceEvents_p_pending {s : State}  : (State.inForceEvents s).pending = s.pending := State.inForceEvents_keeps.lasting.pending
@[simp] theorem State.evFault_regs_rw {s : State} {a1 a2 a3 a4} : (State.evFault s a1 a2 a3 a4).regs.rw = s.regs.rw := State.evFault_keeps.same .rw (by rfl)
@[simp] theorem State.evFault_p_fuses {s : State} {a1 a2 a3 a4} : (State.evFault s a1 a2 a3 a4).fuses = s.fuses := State.evFault_keeps.same .fuses (by rfl)
@[simp] theorem State.evFault_p_cfg {s : State} {a1 a2 a3 a4} : (State.evFault s a1 a2 a3 a4).cfg = s.cfg := State.evFault_keeps.same .cfg (by rfl)
@[simp] theorem State.evFault_p_warm {s : State} {a1 a2 a3 a4} : (State.evFault s a1 a2 a3 a4).warm = s.warm := State.evFault_keeps.same .warm (by rfl)
@[simp] theorem State.evFault_p_mem {s : State} {a1 a2 a3 a4} : (State.evFault s a1 a2 a3 a4).mem = s.mem := State.evFault_keeps.same .mem (by rfl)
@[simp] theorem State.evFault_p_free {s : State} {a1 a2 a3 a4} : (State.evFault s a1 a2 a3 a4).free = s.free := State.evFault_keeps.same .free (by rfl)
@[simp] theorem State.evFault_f_rw {s : State} {a1 a2 a3 a4} (o : Nat) : (State.evFault s a1 a2 a3 a4).rw o = s.rw o := by unfold State.rw; rw [State.evFault_regs_rw]
@[simp] theorem State.evFault_p_variant {s : State} {a1 a2 a3 a4} : (State.evFault s a1 a2 a3 a4).variant = s.variant := State.evFault_keeps.lasting.variant
@[simp] theorem State.evFault_p_ticks {s : State} {a1 a2 a3 a4} : (State.evFault s a1 a2 a3 a4).ticks = s.ticks := State.evFault_keeps.lasting.ticks
@[simp] theorem State.evFault_p_pending {s : State} {a1 a2 a3 a4} : (State.evFault s a1 a2 a3 a4).pending = s.pending := State.evFault_keeps.lasting.pending
@[simp] theorem State.levelEvent_regs_rws {s : State} {a1 a2 a3 a4 a5} : (State.levelEvent s a1 a2 a3 a4 a5).regs.rws = s.regs.rws := State.levelEvent_keeps.same .rws (by rfl)
@[simp] theorem State.levelEvent_regs_rw {s : State} {a1 a2 a3 a4 a5} : (State.levelEvent s a1 a2 a3 a4 a5).regs.rw = s.regs.rw := State.levelEvent_keeps.same .rw (by rfl)
@[simp] theorem State.levelEvent_p_flt {s : State} {a1 a2 a3 a4 a5} : (State.levelEvent s a1 a2 a3 a4 a5).flt = s.flt := State.levelEvent_keeps.same .flt (by rfl)
@[simp] theorem State.levelEvent_p_hk {s : State} {a1 a2 a3 a4 a5} : (State.levelEvent s a1 a2 a3 a4 a5).hk = s.hk := State.levelEvent_keeps.same .hk (by rfl)
@[simp] theorem State.levelEvent_p_boot {s : State} {a1 a2 a3 a4 a5} : (State.levelEvent s a1 a2 a3 a4 a5).boot = s.boot := State.levelEvent_keeps.same .boot (by rfl)
@[simp] theorem State.levelEvent_p_nvm {s : State} {a1 a2 a3 a4 a5} : (State.levelEvent s a1 a2 a3 a4 a5).nvm = s.nvm := State.levelEvent_keeps.same .nvm (by rfl)
@[simp] theorem State.levelEvent_p_fuses {s : State} {a1 a2 a3 a4 a5} : (State.levelEvent s a1 a2 a3 a4 a5).fuses = s.fuses := State.levelEvent_keeps.same .fuses (by rfl)
@[simp] theorem State.levelEvent_p_sec {s : State} {a1 a2 a3 a4 a5} : (State.levelEvent s a1 a2 a3 a4 a5).sec = s.sec := State.levelEvent_keeps.same .sec (by rfl)
@[simp] theorem State.levelEvent_p_cfg {s : State} {a1 a2 a3 a4 a5} : (State.levelEvent s a1 a2 a3 a4 a5).cfg = s.cfg := State.levelEvent_keeps.same .cfg (by rfl)
@[simp] theorem State.levelEvent_p_tb {s : State} {a1 a2 a3 a4 a5} : (State.levelEvent s a1 a2 a3 a4 a5).tb = s.tb := State.levelEvent_keeps.same .tb (by rfl)
@[simp] theorem State.levelEvent_p_tl {s : State} {a1 a2 a3 a4 a5} : (State.levelEvent s a1 a2 a3 a4 a5).tl = s.tl := State.levelEvent_keeps.same .tl (by rfl)
@[simp] theorem State.levelEvent_p_sc {s : State} {a1 a2 a3 a4 a5} : (State.levelEvent s a1 a2 a3 a4 a5).sc = s.sc := State.levelEvent_keeps.same .sc (by rfl)
@[simp] theorem State.levelEvent_p_warm {s : State} {a1 a2 a3 a4 a5} : (State.levelEvent s a1 a2 a3 a4 a5).warm = s.warm := State.levelEvent_keeps.same .warm (by rfl)
@[simp] theorem State.levelEvent_p_ports {s : State} {a1 a2 a3 a4 a5} : (State.levelEvent s a1 a2 a3 a4 a5).ports = s.ports := State.levelEvent_keeps.same .ports (by rfl)
@[simp] theorem State.levelEvent_p_tiles {s : State} {a1 a2 a3 a4 a5} : (State.levelEvent s a1 a2 a3 a4 a5).tiles = s.tiles := State.levelEvent_keeps.same .tiles (by rfl)
@[simp] theorem State.levelEvent_p_net {s : State} {a1 a2 a3 a4 a5} : (State.levelEvent s a1 a2 a3 a4 a5).net = s.net := State.levelEvent_keeps.same .net (by rfl)
@[simp] theorem State.levelEvent_p_host {s : State} {a1 a2 a3 a4 a5} : (State.levelEvent s a1 a2 a3 a4 a5).host = s.host := State.levelEvent_keeps.same .host (by rfl)
@[simp] theorem State.levelEvent_p_mem {s : State} {a1 a2 a3 a4 a5} : (State.levelEvent s a1 a2 a3 a4 a5).mem = s.mem := State.levelEvent_keeps.same .mem (by rfl)
@[simp] theorem State.levelEvent_p_fab {s : State} {a1 a2 a3 a4 a5} : (State.levelEvent s a1 a2 a3 a4 a5).fab = s.fab := State.levelEvent_keeps.same .fab (by rfl)
@[simp] theorem State.levelEvent_p_rl {s : State} {a1 a2 a3 a4 a5} : (State.levelEvent s a1 a2 a3 a4 a5).rl = s.rl := State.levelEvent_keeps.same .rl (by rfl)
@[simp] theorem State.levelEvent_p_pwr {s : State} {a1 a2 a3 a4 a5} : (State.levelEvent s a1 a2 a3 a4 a5).pwr = s.pwr := State.levelEvent_keeps.same .pwr (by rfl)
@[simp] theorem State.levelEvent_p_free {s : State} {a1 a2 a3 a4 a5} : (State.levelEvent s a1 a2 a3 a4 a5).free = s.free := State.levelEvent_keeps.same .free (by rfl)
@[simp] theorem State.levelEvent_p_out {s : State} {a1 a2 a3 a4 a5} : (State.levelEvent s a1 a2 a3 a4 a5).out = s.out := State.levelEvent_keeps.same .out (by rfl)
@[simp] theorem State.levelEvent_f_rws {s : State} {a1 a2 a3 a4 a5} (o : Nat) : (State.levelEvent s a1 a2 a3 a4 a5).rws o = s.rws o := by unfold State.rws; rw [State.levelEvent_regs_rws]
@[simp] theorem State.levelEvent_f_rw {s : State} {a1 a2 a3 a4 a5} (o : Nat) : (State.levelEvent s a1 a2 a3 a4 a5).rw o = s.rw o := by unfold State.rw; rw [State.levelEvent_regs_rw]
@[simp] theorem State.levelEvent_p_variant {s : State} {a1 a2 a3 a4 a5} : (State.levelEvent s a1 a2 a3 a4 a5).variant = s.variant := State.levelEvent_keeps.lasting.variant
@[simp] theorem State.levelEvent_p_ticks {s : State} {a1 a2 a3 a4 a5} : (State.levelEvent s a1 a2 a3 a4 a5).ticks = s.ticks := State.levelEvent_keeps.lasting.ticks
@[simp] theorem State.levelEvent_p_pending {s : State} {a1 a2 a3 a4 a5} : (State.levelEvent s a1 a2 a3 a4 a5).pending = s.pending := State.levelEvent_keeps.lasting.pending
@[simp] theorem State.enterStage_regs_rws {s : State} {a1} : (State.enterStage s a1).regs.rws = s.regs.rws := State.enterStage_keeps.same .rws (by rfl)
@[simp] theorem State.enterStage_regs_rw {s : State} {a1} : (State.enterStage s a1).regs.rw = s.regs.rw := State.enterStage_keeps.same .rw (by rfl)
@[simp] theorem State.enterStage_p_flt {s : State} {a1} : (State.enterStage s a1).flt = s.flt := State.enterStage_keeps.same .flt (by rfl)
@[simp] theorem State.enterStage_p_hk {s : State} {a1} : (State.enterStage s a1).hk = s.hk := State.enterStage_keeps.same .hk (by rfl)
@[simp] theorem State.enterStage_p_nvm {s : State} {a1} : (State.enterStage s a1).nvm = s.nvm := State.enterStage_keeps.same .nvm (by rfl)
@[simp] theorem State.enterStage_p_fuses {s : State} {a1} : (State.enterStage s a1).fuses = s.fuses := State.enterStage_keeps.same .fuses (by rfl)
@[simp] theorem State.enterStage_p_sec {s : State} {a1} : (State.enterStage s a1).sec = s.sec := State.enterStage_keeps.same .sec (by rfl)
@[simp] theorem State.enterStage_p_cfg {s : State} {a1} : (State.enterStage s a1).cfg = s.cfg := State.enterStage_keeps.same .cfg (by rfl)
@[simp] theorem State.enterStage_p_tb {s : State} {a1} : (State.enterStage s a1).tb = s.tb := State.enterStage_keeps.same .tb (by rfl)
@[simp] theorem State.enterStage_p_tl {s : State} {a1} : (State.enterStage s a1).tl = s.tl := State.enterStage_keeps.same .tl (by rfl)
@[simp] theorem State.enterStage_p_sc {s : State} {a1} : (State.enterStage s a1).sc = s.sc := State.enterStage_keeps.same .sc (by rfl)
@[simp] theorem State.enterStage_p_warm {s : State} {a1} : (State.enterStage s a1).warm = s.warm := State.enterStage_keeps.same .warm (by rfl)
@[simp] theorem State.enterStage_p_ports {s : State} {a1} : (State.enterStage s a1).ports = s.ports := State.enterStage_keeps.same .ports (by rfl)
@[simp] theorem State.enterStage_p_tiles {s : State} {a1} : (State.enterStage s a1).tiles = s.tiles := State.enterStage_keeps.same .tiles (by rfl)
@[simp] theorem State.enterStage_p_net {s : State} {a1} : (State.enterStage s a1).net = s.net := State.enterStage_keeps.same .net (by rfl)
@[simp] theorem State.enterStage_p_host {s : State} {a1} : (State.enterStage s a1).host = s.host := State.enterStage_keeps.same .host (by rfl)
@[simp] theorem State.enterStage_p_mem {s : State} {a1} : (State.enterStage s a1).mem = s.mem := State.enterStage_keeps.same .mem (by rfl)
@[simp] theorem State.enterStage_p_fab {s : State} {a1} : (State.enterStage s a1).fab = s.fab := State.enterStage_keeps.same .fab (by rfl)
@[simp] theorem State.enterStage_p_rl {s : State} {a1} : (State.enterStage s a1).rl = s.rl := State.enterStage_keeps.same .rl (by rfl)
@[simp] theorem State.enterStage_p_pwr {s : State} {a1} : (State.enterStage s a1).pwr = s.pwr := State.enterStage_keeps.same .pwr (by rfl)
@[simp] theorem State.enterStage_p_free {s : State} {a1} : (State.enterStage s a1).free = s.free := State.enterStage_keeps.same .free (by rfl)
@[simp] theorem State.enterStage_p_out {s : State} {a1} : (State.enterStage s a1).out = s.out := State.enterStage_keeps.same .out (by rfl)
@[simp] theorem State.enterStage_f_rws {s : State} {a1} (o : Nat) : (State.enterStage s a1).rws o = s.rws o := by unfold State.rws; rw [State.enterStage_regs_rws]
@[simp] theorem State.enterStage_f_rw {s : State} {a1} (o : Nat) : (State.enterStage s a1).rw o = s.rw o := by unfold State.rw; rw [State.enterStage_regs_rw]
@[simp] theorem State.enterStage_p_variant {s : State} {a1} : (State.enterStage s a1).variant = s.variant := State.enterStage_keeps.lasting.variant
@[simp] theorem State.enterStage_p_ticks {s : State} {a1} : (State.enterStage s a1).ticks = s.ticks := State.enterStage_keeps.lasting.ticks
@[simp] theorem State.enterStage_p_pending {s : State} {a1} : (State.enterStage s a1).pending = s.pending := State.enterStage_keeps.lasting.pending
@[simp] theorem State.stopClocks_regs_rws {s : State}  : (State.stopClocks s).regs.rws = s.regs.rws := State.stopClocks_keeps.same .rws (by rfl)
@[simp] theorem State.stopClocks_regs_rw {s : State}  : (State.stopClocks s).regs.rw = s.regs.rw := State.stopClocks_keeps.same .rw (by rfl)
@[simp] theorem State.stopClocks_regs_cnt {s : State}  : (State.stopClocks s).regs.cnt = s.regs.cnt := (State.stopClocks_keeps.same .cnt (by rfl)).1
@[simp] theorem State.stopClocks_p_evt {s : State}  : (State.stopClocks s).evt = s.evt := State.stopClocks_keeps.same .evt (by rfl)
@[simp] theorem State.stopClocks_p_flt {s : State}  : (State.stopClocks s).flt = s.flt := State.stopClocks_keeps.same .flt (by rfl)
@[simp] theorem State.stopClocks_p_hk {s : State}  : (State.stopClocks s).hk = s.hk := State.stopClocks_keeps.same .hk (by rfl)
@[simp] theorem State.stopClocks_p_boot {s : State}  : (State.stopClocks s).boot = s.boot := State.stopClocks_keeps.same .boot (by rfl)
@[simp] theorem State.stopClocks_p_nvm {s : State}  : (State.stopClocks s).nvm = s.nvm := State.stopClocks_keeps.same .nvm (by rfl)
@[simp] theorem State.stopClocks_p_fuses {s : State}  : (State.stopClocks s).fuses = s.fuses := State.stopClocks_keeps.same .fuses (by rfl)
@[simp] theorem State.stopClocks_p_sec {s : State}  : (State.stopClocks s).sec = s.sec := State.stopClocks_keeps.same .sec (by rfl)
@[simp] theorem State.stopClocks_p_cfg {s : State}  : (State.stopClocks s).cfg = s.cfg := State.stopClocks_keeps.same .cfg (by rfl)
@[simp] theorem State.stopClocks_p_tb {s : State}  : (State.stopClocks s).tb = s.tb := State.stopClocks_keeps.same .tb (by rfl)
@[simp] theorem State.stopClocks_p_tl {s : State}  : (State.stopClocks s).tl = s.tl := State.stopClocks_keeps.same .tl (by rfl)
@[simp] theorem State.stopClocks_p_sc {s : State}  : (State.stopClocks s).sc = s.sc := State.stopClocks_keeps.same .sc (by rfl)
@[simp] theorem State.stopClocks_p_warm {s : State}  : (State.stopClocks s).warm = s.warm := State.stopClocks_keeps.same .warm (by rfl)
@[simp] theorem State.stopClocks_p_tiles {s : State}  : (State.stopClocks s).tiles = s.tiles := State.stopClocks_keeps.same .tiles (by rfl)
@[simp] theorem State.stopClocks_p_net {s : State}  : (State.stopClocks s).net = s.net := State.stopClocks_keeps.same .net (by rfl)
@[simp] theorem State.stopClocks_p_host {s : State}  : (State.stopClocks s).host = s.host := State.stopClocks_keeps.same .host (by rfl)
@[simp] theorem State.stopClocks_p_mem {s : State}  : (State.stopClocks s).mem = s.mem := State.stopClocks_keeps.same .mem (by rfl)
@[simp] theorem State.stopClocks_p_fab {s : State}  : (State.stopClocks s).fab = s.fab := State.stopClocks_keeps.same .fab (by rfl)
@[simp] theorem State.stopClocks_p_rl {s : State}  : (State.stopClocks s).rl = s.rl := State.stopClocks_keeps.same .rl (by rfl)
@[simp] theorem State.stopClocks_p_pwr {s : State}  : (State.stopClocks s).pwr = s.pwr := State.stopClocks_keeps.same .pwr (by rfl)
@[simp] theorem State.stopClocks_p_free {s : State}  : (State.stopClocks s).free = s.free := State.stopClocks_keeps.same .free (by rfl)
@[simp] theorem State.stopClocks_f_rws {s : State}  (o : Nat) : (State.stopClocks s).rws o = s.rws o := by unfold State.rws; rw [State.stopClocks_regs_rws]
@[simp] theorem State.stopClocks_f_rw {s : State}  (o : Nat) : (State.stopClocks s).rw o = s.rw o := by unfold State.rw; rw [State.stopClocks_regs_rw]
@[simp] theorem State.stopClocks_f_cnt {s : State}  (o : Nat) : (State.stopClocks s).cnt o = s.cnt o := by unfold State.cnt; rw [State.stopClocks_regs_cnt]
@[simp] theorem State.stopClocks_p_variant {s : State}  : (State.stopClocks s).variant = s.variant := State.stopClocks_keeps.lasting.variant
@[simp] theorem State.stopClocks_p_ticks {s : State}  : (State.stopClocks s).ticks = s.ticks := State.stopClocks_keeps.lasting.ticks
@[simp] theorem State.stopClocks_p_pending {s : State}  : (State.stopClocks s).pending = s.pending := State.stopClocks_keeps.lasting.pending
@[simp] theorem State.linkDown_regs_rws {s : State}  : (State.linkDown s).regs.rws = s.regs.rws := State.linkDown_keeps.same .rws (by rfl)
@[simp] theorem State.linkDown_regs_rw {s : State}  : (State.linkDown s).regs.rw = s.regs.rw := State.linkDown_keeps.same .rw (by rfl)
@[simp] theorem State.linkDown_p_flt {s : State}  : (State.linkDown s).flt = s.flt := State.linkDown_keeps.same .flt (by rfl)
@[simp] theorem State.linkDown_p_hk {s : State}  : (State.linkDown s).hk = s.hk := State.linkDown_keeps.same .hk (by rfl)
@[simp] theorem State.linkDown_p_boot {s : State}  : (State.linkDown s).boot = s.boot := State.linkDown_keeps.same .boot (by rfl)
@[simp] theorem State.linkDown_p_fuses {s : State}  : (State.linkDown s).fuses = s.fuses := State.linkDown_keeps.same .fuses (by rfl)
@[simp] theorem State.linkDown_p_sec {s : State}  : (State.linkDown s).sec = s.sec := State.linkDown_keeps.same .sec (by rfl)
@[simp] theorem State.linkDown_p_cfg {s : State}  : (State.linkDown s).cfg = s.cfg := State.linkDown_keeps.same .cfg (by rfl)
@[simp] theorem State.linkDown_p_tb {s : State}  : (State.linkDown s).tb = s.tb := State.linkDown_keeps.same .tb (by rfl)
@[simp] theorem State.linkDown_p_tl {s : State}  : (State.linkDown s).tl = s.tl := State.linkDown_keeps.same .tl (by rfl)
@[simp] theorem State.linkDown_p_ports {s : State}  : (State.linkDown s).ports = s.ports := State.linkDown_keeps.same .ports (by rfl)
@[simp] theorem State.linkDown_p_tiles {s : State}  : (State.linkDown s).tiles = s.tiles := State.linkDown_keeps.same .tiles (by rfl)
@[simp] theorem State.linkDown_p_net {s : State}  : (State.linkDown s).net = s.net := State.linkDown_keeps.same .net (by rfl)
@[simp] theorem State.linkDown_p_fab {s : State}  : (State.linkDown s).fab = s.fab := State.linkDown_keeps.same .fab (by rfl)
@[simp] theorem State.linkDown_p_rl {s : State}  : (State.linkDown s).rl = s.rl := State.linkDown_keeps.same .rl (by rfl)
@[simp] theorem State.linkDown_p_pwr {s : State}  : (State.linkDown s).pwr = s.pwr := State.linkDown_keeps.same .pwr (by rfl)
@[simp] theorem State.linkDown_p_free {s : State}  : (State.linkDown s).free = s.free := State.linkDown_keeps.same .free (by rfl)
@[simp] theorem State.linkDown_p_out {s : State}  : (State.linkDown s).out = s.out := State.linkDown_keeps.same .out (by rfl)
@[simp] theorem State.linkDown_f_rws {s : State}  (o : Nat) : (State.linkDown s).rws o = s.rws o := by unfold State.rws; rw [State.linkDown_regs_rws]
@[simp] theorem State.linkDown_f_rw {s : State}  (o : Nat) : (State.linkDown s).rw o = s.rw o := by unfold State.rw; rw [State.linkDown_regs_rw]
@[simp] theorem State.linkDown_p_variant {s : State}  : (State.linkDown s).variant = s.variant := State.linkDown_keeps.lasting.variant
@[simp] theorem State.linkDown_p_ticks {s : State}  : (State.linkDown s).ticks = s.ticks := State.linkDown_keeps.lasting.ticks
@[simp] theorem State.linkDown_p_pending {s : State}  : (State.linkDown s).pending = s.pending := State.linkDown_keeps.lasting.pending
@[simp] theorem State.nvmFreeze_regs_rws {s : State}  : (State.nvmFreeze s).regs.rws = s.regs.rws := State.nvmFreeze_keeps.same .rws (by rfl)
@[simp] theorem State.nvmFreeze_regs_rw {s : State}  : (State.nvmFreeze s).regs.rw = s.regs.rw := State.nvmFreeze_keeps.same .rw (by rfl)
@[simp] theorem State.nvmFreeze_regs_cnt {s : State}  : (State.nvmFreeze s).regs.cnt = s.regs.cnt := (State.nvmFreeze_keeps.same .cnt (by rfl)).1
@[simp] theorem State.nvmFreeze_p_evt {s : State}  : (State.nvmFreeze s).evt = s.evt := State.nvmFreeze_keeps.same .evt (by rfl)
@[simp] theorem State.nvmFreeze_p_flt {s : State}  : (State.nvmFreeze s).flt = s.flt := State.nvmFreeze_keeps.same .flt (by rfl)
@[simp] theorem State.nvmFreeze_p_hk {s : State}  : (State.nvmFreeze s).hk = s.hk := State.nvmFreeze_keeps.same .hk (by rfl)
@[simp] theorem State.nvmFreeze_p_boot {s : State}  : (State.nvmFreeze s).boot = s.boot := State.nvmFreeze_keeps.same .boot (by rfl)
@[simp] theorem State.nvmFreeze_p_fuses {s : State}  : (State.nvmFreeze s).fuses = s.fuses := State.nvmFreeze_keeps.same .fuses (by rfl)
@[simp] theorem State.nvmFreeze_p_sec {s : State}  : (State.nvmFreeze s).sec = s.sec := State.nvmFreeze_keeps.same .sec (by rfl)
@[simp] theorem State.nvmFreeze_p_cfg {s : State}  : (State.nvmFreeze s).cfg = s.cfg := State.nvmFreeze_keeps.same .cfg (by rfl)
@[simp] theorem State.nvmFreeze_p_tb {s : State}  : (State.nvmFreeze s).tb = s.tb := State.nvmFreeze_keeps.same .tb (by rfl)
@[simp] theorem State.nvmFreeze_p_tl {s : State}  : (State.nvmFreeze s).tl = s.tl := State.nvmFreeze_keeps.same .tl (by rfl)
@[simp] theorem State.nvmFreeze_p_sc {s : State}  : (State.nvmFreeze s).sc = s.sc := State.nvmFreeze_keeps.same .sc (by rfl)
@[simp] theorem State.nvmFreeze_p_warm {s : State}  : (State.nvmFreeze s).warm = s.warm := State.nvmFreeze_keeps.same .warm (by rfl)
@[simp] theorem State.nvmFreeze_p_ports {s : State}  : (State.nvmFreeze s).ports = s.ports := State.nvmFreeze_keeps.same .ports (by rfl)
@[simp] theorem State.nvmFreeze_p_tiles {s : State}  : (State.nvmFreeze s).tiles = s.tiles := State.nvmFreeze_keeps.same .tiles (by rfl)
@[simp] theorem State.nvmFreeze_p_net {s : State}  : (State.nvmFreeze s).net = s.net := State.nvmFreeze_keeps.same .net (by rfl)
@[simp] theorem State.nvmFreeze_p_host {s : State}  : (State.nvmFreeze s).host = s.host := State.nvmFreeze_keeps.same .host (by rfl)
@[simp] theorem State.nvmFreeze_p_mem {s : State}  : (State.nvmFreeze s).mem = s.mem := State.nvmFreeze_keeps.same .mem (by rfl)
@[simp] theorem State.nvmFreeze_p_fab {s : State}  : (State.nvmFreeze s).fab = s.fab := State.nvmFreeze_keeps.same .fab (by rfl)
@[simp] theorem State.nvmFreeze_p_rl {s : State}  : (State.nvmFreeze s).rl = s.rl := State.nvmFreeze_keeps.same .rl (by rfl)
@[simp] theorem State.nvmFreeze_p_pwr {s : State}  : (State.nvmFreeze s).pwr = s.pwr := State.nvmFreeze_keeps.same .pwr (by rfl)
@[simp] theorem State.nvmFreeze_p_free {s : State}  : (State.nvmFreeze s).free = s.free := State.nvmFreeze_keeps.same .free (by rfl)
@[simp] theorem State.nvmFreeze_p_out {s : State}  : (State.nvmFreeze s).out = s.out := State.nvmFreeze_keeps.same .out (by rfl)
@[simp] theorem State.nvmFreeze_f_rws {s : State}  (o : Nat) : (State.nvmFreeze s).rws o = s.rws o := by unfold State.rws; rw [State.nvmFreeze_regs_rws]
@[simp] theorem State.nvmFreeze_f_rw {s : State}  (o : Nat) : (State.nvmFreeze s).rw o = s.rw o := by unfold State.rw; rw [State.nvmFreeze_regs_rw]
@[simp] theorem State.nvmFreeze_f_cnt {s : State}  (o : Nat) : (State.nvmFreeze s).cnt o = s.cnt o := by unfold State.cnt; rw [State.nvmFreeze_regs_cnt]
@[simp] theorem State.nvmFreeze_p_variant {s : State}  : (State.nvmFreeze s).variant = s.variant := State.nvmFreeze_keeps.lasting.variant
@[simp] theorem State.nvmFreeze_p_ticks {s : State}  : (State.nvmFreeze s).ticks = s.ticks := State.nvmFreeze_keeps.lasting.ticks
@[simp] theorem State.nvmFreeze_p_pending {s : State}  : (State.nvmFreeze s).pending = s.pending := State.nvmFreeze_keeps.lasting.pending
@[simp] theorem State.zeroise_regs_rws {s : State} {a1} : (State.zeroise s a1).regs.rws = s.regs.rws := State.zeroise_keeps.same .rws (by rfl)
@[simp] theorem State.zeroise_regs_rw {s : State} {a1} : (State.zeroise s a1).regs.rw = s.regs.rw := State.zeroise_keeps.same .rw (by rfl)
@[simp] theorem State.zeroise_p_flt {s : State} {a1} : (State.zeroise s a1).flt = s.flt := State.zeroise_keeps.same .flt (by rfl)
@[simp] theorem State.zeroise_p_hk {s : State} {a1} : (State.zeroise s a1).hk = s.hk := State.zeroise_keeps.same .hk (by rfl)
@[simp] theorem State.zeroise_p_boot {s : State} {a1} : (State.zeroise s a1).boot = s.boot := State.zeroise_keeps.same .boot (by rfl)
@[simp] theorem State.zeroise_p_fuses {s : State} {a1} : (State.zeroise s a1).fuses = s.fuses := State.zeroise_keeps.same .fuses (by rfl)
@[simp] theorem State.zeroise_p_cfg {s : State} {a1} : (State.zeroise s a1).cfg = s.cfg := State.zeroise_keeps.same .cfg (by rfl)
@[simp] theorem State.zeroise_p_tb {s : State} {a1} : (State.zeroise s a1).tb = s.tb := State.zeroise_keeps.same .tb (by rfl)
@[simp] theorem State.zeroise_p_tl {s : State} {a1} : (State.zeroise s a1).tl = s.tl := State.zeroise_keeps.same .tl (by rfl)
@[simp] theorem State.zeroise_p_sc {s : State} {a1} : (State.zeroise s a1).sc = s.sc := State.zeroise_keeps.same .sc (by rfl)
@[simp] theorem State.zeroise_p_warm {s : State} {a1} : (State.zeroise s a1).warm = s.warm := State.zeroise_keeps.same .warm (by rfl)
@[simp] theorem State.zeroise_p_ports {s : State} {a1} : (State.zeroise s a1).ports = s.ports := State.zeroise_keeps.same .ports (by rfl)
@[simp] theorem State.zeroise_p_tiles {s : State} {a1} : (State.zeroise s a1).tiles = s.tiles := State.zeroise_keeps.same .tiles (by rfl)
@[simp] theorem State.zeroise_p_mem {s : State} {a1} : (State.zeroise s a1).mem = s.mem := State.zeroise_keeps.same .mem (by rfl)
@[simp] theorem State.zeroise_p_fab {s : State} {a1} : (State.zeroise s a1).fab = s.fab := State.zeroise_keeps.same .fab (by rfl)
@[simp] theorem State.zeroise_p_rl {s : State} {a1} : (State.zeroise s a1).rl = s.rl := State.zeroise_keeps.same .rl (by rfl)
@[simp] theorem State.zeroise_p_pwr {s : State} {a1} : (State.zeroise s a1).pwr = s.pwr := State.zeroise_keeps.same .pwr (by rfl)
@[simp] theorem State.zeroise_p_free {s : State} {a1} : (State.zeroise s a1).free = s.free := State.zeroise_keeps.same .free (by rfl)
@[simp] theorem State.zeroise_p_out {s : State} {a1} : (State.zeroise s a1).out = s.out := State.zeroise_keeps.same .out (by rfl)
@[simp] theorem State.zeroise_f_rws {s : State} {a1} (o : Nat) : (State.zeroise s a1).rws o = s.rws o := by unfold State.rws; rw [State.zeroise_regs_rws]
@[simp] theorem State.zeroise_f_rw {s : State} {a1} (o : Nat) : (State.zeroise s a1).rw o = s.rw o := by unfold State.rw; rw [State.zeroise_regs_rw]
@[simp] theorem State.zeroise_p_variant {s : State} {a1} : (State.zeroise s a1).variant = s.variant := State.zeroise_keeps.lasting.variant
@[simp] theorem State.zeroise_p_ticks {s : State} {a1} : (State.zeroise s a1).ticks = s.ticks := State.zeroise_keeps.lasting.ticks
@[simp] theorem State.zeroise_p_pending {s : State} {a1} : (State.zeroise s a1).pending = s.pending := State.zeroise_keeps.lasting.pending
@[simp] theorem State.revertTrial_regs_rws {s : State}  : (State.revertTrial s).regs.rws = s.regs.rws := State.revertTrial_keeps.same .rws (by rfl)
@[simp] theorem State.revertTrial_regs_rw {s : State}  : (State.revertTrial s).regs.rw = s.regs.rw := State.revertTrial_keeps.same .rw (by rfl)
@[simp] theorem State.revertTrial_p_flt {s : State}  : (State.revertTrial s).flt = s.flt := State.revertTrial_keeps.same .flt (by rfl)
@[simp] theorem State.revertTrial_p_hk {s : State}  : (State.revertTrial s).hk = s.hk := State.revertTrial_keeps.same .hk (by rfl)
@[simp] theorem State.revertTrial_p_boot {s : State}  : (State.revertTrial s).boot = s.boot := State.revertTrial_keeps.same .boot (by rfl)
@[simp] theorem State.revertTrial_p_fuses {s : State}  : (State.revertTrial s).fuses = s.fuses := State.revertTrial_keeps.same .fuses (by rfl)
@[simp] theorem State.revertTrial_p_sec {s : State}  : (State.revertTrial s).sec = s.sec := State.revertTrial_keeps.same .sec (by rfl)
@[simp] theorem State.revertTrial_p_cfg {s : State}  : (State.revertTrial s).cfg = s.cfg := State.revertTrial_keeps.same .cfg (by rfl)
@[simp] theorem State.revertTrial_p_tb {s : State}  : (State.revertTrial s).tb = s.tb := State.revertTrial_keeps.same .tb (by rfl)
@[simp] theorem State.revertTrial_p_tl {s : State}  : (State.revertTrial s).tl = s.tl := State.revertTrial_keeps.same .tl (by rfl)
@[simp] theorem State.revertTrial_p_sc {s : State}  : (State.revertTrial s).sc = s.sc := State.revertTrial_keeps.same .sc (by rfl)
@[simp] theorem State.revertTrial_p_warm {s : State}  : (State.revertTrial s).warm = s.warm := State.revertTrial_keeps.same .warm (by rfl)
@[simp] theorem State.revertTrial_p_ports {s : State}  : (State.revertTrial s).ports = s.ports := State.revertTrial_keeps.same .ports (by rfl)
@[simp] theorem State.revertTrial_p_tiles {s : State}  : (State.revertTrial s).tiles = s.tiles := State.revertTrial_keeps.same .tiles (by rfl)
@[simp] theorem State.revertTrial_p_net {s : State}  : (State.revertTrial s).net = s.net := State.revertTrial_keeps.same .net (by rfl)
@[simp] theorem State.revertTrial_p_host {s : State}  : (State.revertTrial s).host = s.host := State.revertTrial_keeps.same .host (by rfl)
@[simp] theorem State.revertTrial_p_mem {s : State}  : (State.revertTrial s).mem = s.mem := State.revertTrial_keeps.same .mem (by rfl)
@[simp] theorem State.revertTrial_p_fab {s : State}  : (State.revertTrial s).fab = s.fab := State.revertTrial_keeps.same .fab (by rfl)
@[simp] theorem State.revertTrial_p_rl {s : State}  : (State.revertTrial s).rl = s.rl := State.revertTrial_keeps.same .rl (by rfl)
@[simp] theorem State.revertTrial_p_pwr {s : State}  : (State.revertTrial s).pwr = s.pwr := State.revertTrial_keeps.same .pwr (by rfl)
@[simp] theorem State.revertTrial_p_free {s : State}  : (State.revertTrial s).free = s.free := State.revertTrial_keeps.same .free (by rfl)
@[simp] theorem State.revertTrial_p_out {s : State}  : (State.revertTrial s).out = s.out := State.revertTrial_keeps.same .out (by rfl)
@[simp] theorem State.revertTrial_f_rws {s : State}  (o : Nat) : (State.revertTrial s).rws o = s.rws o := by unfold State.rws; rw [State.revertTrial_regs_rws]
@[simp] theorem State.revertTrial_f_rw {s : State}  (o : Nat) : (State.revertTrial s).rw o = s.rw o := by unfold State.rw; rw [State.revertTrial_regs_rw]
@[simp] theorem State.revertTrial_p_variant {s : State}  : (State.revertTrial s).variant = s.variant := State.revertTrial_keeps.lasting.variant
@[simp] theorem State.revertTrial_p_ticks {s : State}  : (State.revertTrial s).ticks = s.ticks := State.revertTrial_keeps.lasting.ticks
@[simp] theorem State.revertTrial_p_pending {s : State}  : (State.revertTrial s).pending = s.pending := State.revertTrial_keeps.lasting.pending
@[simp] theorem State.falseStart_regs_rws {s : State} {a1 a2} : (State.falseStart s a1 a2).regs.rws = s.regs.rws := State.falseStart_keeps.same .rws (by rfl)
@[simp] theorem State.falseStart_regs_rw {s : State} {a1 a2} : (State.falseStart s a1 a2).regs.rw = s.regs.rw := State.falseStart_keeps.same .rw (by rfl)
@[simp] theorem State.falseStart_p_flt {s : State} {a1 a2} : (State.falseStart s a1 a2).flt = s.flt := State.falseStart_keeps.same .flt (by rfl)
@[simp] theorem State.falseStart_p_hk {s : State} {a1 a2} : (State.falseStart s a1 a2).hk = s.hk := State.falseStart_keeps.same .hk (by rfl)
@[simp] theorem State.falseStart_p_fuses {s : State} {a1 a2} : (State.falseStart s a1 a2).fuses = s.fuses := State.falseStart_keeps.same .fuses (by rfl)
@[simp] theorem State.falseStart_p_sec {s : State} {a1 a2} : (State.falseStart s a1 a2).sec = s.sec := State.falseStart_keeps.same .sec (by rfl)
@[simp] theorem State.falseStart_p_cfg {s : State} {a1 a2} : (State.falseStart s a1 a2).cfg = s.cfg := State.falseStart_keeps.same .cfg (by rfl)
@[simp] theorem State.falseStart_p_tb {s : State} {a1 a2} : (State.falseStart s a1 a2).tb = s.tb := State.falseStart_keeps.same .tb (by rfl)
@[simp] theorem State.falseStart_p_sc {s : State} {a1 a2} : (State.falseStart s a1 a2).sc = s.sc := State.falseStart_keeps.same .sc (by rfl)
@[simp] theorem State.falseStart_p_warm {s : State} {a1 a2} : (State.falseStart s a1 a2).warm = s.warm := State.falseStart_keeps.same .warm (by rfl)
@[simp] theorem State.falseStart_p_tiles {s : State} {a1 a2} : (State.falseStart s a1 a2).tiles = s.tiles := State.falseStart_keeps.same .tiles (by rfl)
@[simp] theorem State.falseStart_p_net {s : State} {a1 a2} : (State.falseStart s a1 a2).net = s.net := State.falseStart_keeps.same .net (by rfl)
@[simp] theorem State.falseStart_p_host {s : State} {a1 a2} : (State.falseStart s a1 a2).host = s.host := State.falseStart_keeps.same .host (by rfl)
@[simp] theorem State.falseStart_p_mem {s : State} {a1 a2} : (State.falseStart s a1 a2).mem = s.mem := State.falseStart_keeps.same .mem (by rfl)
@[simp] theorem State.falseStart_p_rl {s : State} {a1 a2} : (State.falseStart s a1 a2).rl = s.rl := State.falseStart_keeps.same .rl (by rfl)
@[simp] theorem State.falseStart_p_pwr {s : State} {a1 a2} : (State.falseStart s a1 a2).pwr = s.pwr := State.falseStart_keeps.same .pwr (by rfl)
@[simp] theorem State.falseStart_p_free {s : State} {a1 a2} : (State.falseStart s a1 a2).free = s.free := State.falseStart_keeps.same .free (by rfl)
@[simp] theorem State.falseStart_f_rws {s : State} {a1 a2} (o : Nat) : (State.falseStart s a1 a2).rws o = s.rws o := by unfold State.rws; rw [State.falseStart_regs_rws]
@[simp] theorem State.falseStart_f_rw {s : State} {a1 a2} (o : Nat) : (State.falseStart s a1 a2).rw o = s.rw o := by unfold State.rw; rw [State.falseStart_regs_rw]
@[simp] theorem State.falseStart_p_variant {s : State} {a1 a2} : (State.falseStart s a1 a2).variant = s.variant := State.falseStart_keeps.lasting.variant
@[simp] theorem State.falseStart_p_ticks {s : State} {a1 a2} : (State.falseStart s a1 a2).ticks = s.ticks := State.falseStart_keeps.lasting.ticks
@[simp] theorem State.falseStart_p_pending {s : State} {a1 a2} : (State.falseStart s a1 a2).pending = s.pending := State.falseStart_keeps.lasting.pending
@[simp] theorem State.doneSb0_regs_rws {s : State}  : (State.doneSb0 s).regs.rws = s.regs.rws := State.doneSb0_keeps.same .rws (by rfl)
@[simp] theorem State.doneSb0_regs_rw {s : State}  : (State.doneSb0 s).regs.rw = s.regs.rw := State.doneSb0_keeps.same .rw (by rfl)
@[simp] theorem State.doneSb0_p_flt {s : State}  : (State.doneSb0 s).flt = s.flt := State.doneSb0_keeps.same .flt (by rfl)
@[simp] theorem State.doneSb0_p_hk {s : State}  : (State.doneSb0 s).hk = s.hk := State.doneSb0_keeps.same .hk (by rfl)
@[simp] theorem State.doneSb0_p_nvm {s : State}  : (State.doneSb0 s).nvm = s.nvm := State.doneSb0_keeps.same .nvm (by rfl)
@[simp] theorem State.doneSb0_p_fuses {s : State}  : (State.doneSb0 s).fuses = s.fuses := State.doneSb0_keeps.same .fuses (by rfl)
@[simp] theorem State.doneSb0_p_cfg {s : State}  : (State.doneSb0 s).cfg = s.cfg := State.doneSb0_keeps.same .cfg (by rfl)
@[simp] theorem State.doneSb0_p_tb {s : State}  : (State.doneSb0 s).tb = s.tb := State.doneSb0_keeps.same .tb (by rfl)
@[simp] theorem State.doneSb0_p_tl {s : State}  : (State.doneSb0 s).tl = s.tl := State.doneSb0_keeps.same .tl (by rfl)
@[simp] theorem State.doneSb0_p_sc {s : State}  : (State.doneSb0 s).sc = s.sc := State.doneSb0_keeps.same .sc (by rfl)
@[simp] theorem State.doneSb0_p_warm {s : State}  : (State.doneSb0 s).warm = s.warm := State.doneSb0_keeps.same .warm (by rfl)
@[simp] theorem State.doneSb0_p_ports {s : State}  : (State.doneSb0 s).ports = s.ports := State.doneSb0_keeps.same .ports (by rfl)
@[simp] theorem State.doneSb0_p_tiles {s : State}  : (State.doneSb0 s).tiles = s.tiles := State.doneSb0_keeps.same .tiles (by rfl)
@[simp] theorem State.doneSb0_p_net {s : State}  : (State.doneSb0 s).net = s.net := State.doneSb0_keeps.same .net (by rfl)
@[simp] theorem State.doneSb0_p_host {s : State}  : (State.doneSb0 s).host = s.host := State.doneSb0_keeps.same .host (by rfl)
@[simp] theorem State.doneSb0_p_mem {s : State}  : (State.doneSb0 s).mem = s.mem := State.doneSb0_keeps.same .mem (by rfl)
@[simp] theorem State.doneSb0_p_fab {s : State}  : (State.doneSb0 s).fab = s.fab := State.doneSb0_keeps.same .fab (by rfl)
@[simp] theorem State.doneSb0_p_rl {s : State}  : (State.doneSb0 s).rl = s.rl := State.doneSb0_keeps.same .rl (by rfl)
@[simp] theorem State.doneSb0_p_pwr {s : State}  : (State.doneSb0 s).pwr = s.pwr := State.doneSb0_keeps.same .pwr (by rfl)
@[simp] theorem State.doneSb0_p_free {s : State}  : (State.doneSb0 s).free = s.free := State.doneSb0_keeps.same .free (by rfl)
@[simp] theorem State.doneSb0_f_rws {s : State}  (o : Nat) : (State.doneSb0 s).rws o = s.rws o := by unfold State.rws; rw [State.doneSb0_regs_rws]
@[simp] theorem State.doneSb0_f_rw {s : State}  (o : Nat) : (State.doneSb0 s).rw o = s.rw o := by unfold State.rw; rw [State.doneSb0_regs_rw]
@[simp] theorem State.doneSb0_p_variant {s : State}  : (State.doneSb0 s).variant = s.variant := State.doneSb0_keeps.lasting.variant
@[simp] theorem State.doneSb0_p_ticks {s : State}  : (State.doneSb0 s).ticks = s.ticks := State.doneSb0_keeps.lasting.ticks
@[simp] theorem State.doneSb0_p_pending {s : State}  : (State.doneSb0 s).pending = s.pending := State.doneSb0_keeps.lasting.pending
@[simp] theorem State.loadSlate_regs_rws {s : State}  : (State.loadSlate s).regs.rws = s.regs.rws := State.loadSlate_keeps.same .rws (by rfl)
@[simp] theorem State.loadSlate_regs_rw {s : State}  : (State.loadSlate s).regs.rw = s.regs.rw := State.loadSlate_keeps.same .rw (by rfl)
@[simp] theorem State.loadSlate_regs_cnt {s : State}  : (State.loadSlate s).regs.cnt = s.regs.cnt := (State.loadSlate_keeps.same .cnt (by rfl)).1
@[simp] theorem State.loadSlate_p_evt {s : State}  : (State.loadSlate s).evt = s.evt := State.loadSlate_keeps.same .evt (by rfl)
@[simp] theorem State.loadSlate_p_flt {s : State}  : (State.loadSlate s).flt = s.flt := State.loadSlate_keeps.same .flt (by rfl)
@[simp] theorem State.loadSlate_p_hk {s : State}  : (State.loadSlate s).hk = s.hk := State.loadSlate_keeps.same .hk (by rfl)
@[simp] theorem State.loadSlate_p_boot {s : State}  : (State.loadSlate s).boot = s.boot := State.loadSlate_keeps.same .boot (by rfl)
@[simp] theorem State.loadSlate_p_fuses {s : State}  : (State.loadSlate s).fuses = s.fuses := State.loadSlate_keeps.same .fuses (by rfl)
@[simp] theorem State.loadSlate_p_sec {s : State}  : (State.loadSlate s).sec = s.sec := State.loadSlate_keeps.same .sec (by rfl)
@[simp] theorem State.loadSlate_p_cfg {s : State}  : (State.loadSlate s).cfg = s.cfg := State.loadSlate_keeps.same .cfg (by rfl)
@[simp] theorem State.loadSlate_p_tb {s : State}  : (State.loadSlate s).tb = s.tb := State.loadSlate_keeps.same .tb (by rfl)
@[simp] theorem State.loadSlate_p_tl {s : State}  : (State.loadSlate s).tl = s.tl := State.loadSlate_keeps.same .tl (by rfl)
@[simp] theorem State.loadSlate_p_sc {s : State}  : (State.loadSlate s).sc = s.sc := State.loadSlate_keeps.same .sc (by rfl)
@[simp] theorem State.loadSlate_p_ports {s : State}  : (State.loadSlate s).ports = s.ports := State.loadSlate_keeps.same .ports (by rfl)
@[simp] theorem State.loadSlate_p_tiles {s : State}  : (State.loadSlate s).tiles = s.tiles := State.loadSlate_keeps.same .tiles (by rfl)
@[simp] theorem State.loadSlate_p_net {s : State}  : (State.loadSlate s).net = s.net := State.loadSlate_keeps.same .net (by rfl)
@[simp] theorem State.loadSlate_p_host {s : State}  : (State.loadSlate s).host = s.host := State.loadSlate_keeps.same .host (by rfl)
@[simp] theorem State.loadSlate_p_mem {s : State}  : (State.loadSlate s).mem = s.mem := State.loadSlate_keeps.same .mem (by rfl)
@[simp] theorem State.loadSlate_p_fab {s : State}  : (State.loadSlate s).fab = s.fab := State.loadSlate_keeps.same .fab (by rfl)
@[simp] theorem State.loadSlate_p_rl {s : State}  : (State.loadSlate s).rl = s.rl := State.loadSlate_keeps.same .rl (by rfl)
@[simp] theorem State.loadSlate_p_pwr {s : State}  : (State.loadSlate s).pwr = s.pwr := State.loadSlate_keeps.same .pwr (by rfl)
@[simp] theorem State.loadSlate_p_free {s : State}  : (State.loadSlate s).free = s.free := State.loadSlate_keeps.same .free (by rfl)
@[simp] theorem State.loadSlate_p_out {s : State}  : (State.loadSlate s).out = s.out := State.loadSlate_keeps.same .out (by rfl)
@[simp] theorem State.loadSlate_f_rws {s : State}  (o : Nat) : (State.loadSlate s).rws o = s.rws o := by unfold State.rws; rw [State.loadSlate_regs_rws]
@[simp] theorem State.loadSlate_f_rw {s : State}  (o : Nat) : (State.loadSlate s).rw o = s.rw o := by unfold State.rw; rw [State.loadSlate_regs_rw]
@[simp] theorem State.loadSlate_f_cnt {s : State}  (o : Nat) : (State.loadSlate s).cnt o = s.cnt o := by unfold State.cnt; rw [State.loadSlate_regs_cnt]
@[simp] theorem State.loadSlate_p_variant {s : State}  : (State.loadSlate s).variant = s.variant := State.loadSlate_keeps.lasting.variant
@[simp] theorem State.loadSlate_p_ticks {s : State}  : (State.loadSlate s).ticks = s.ticks := State.loadSlate_keeps.lasting.ticks
@[simp] theorem State.loadSlate_p_pending {s : State}  : (State.loadSlate s).pending = s.pending := State.loadSlate_keeps.lasting.pending
@[simp] theorem State.failPull_regs_rws {s : State} {a1} : (State.failPull s a1).regs.rws = s.regs.rws := State.failPull_keeps.same .rws (by rfl)
@[simp] theorem State.failPull_regs_rw {s : State} {a1} : (State.failPull s a1).regs.rw = s.regs.rw := State.failPull_keeps.same .rw (by rfl)
@[simp] theorem State.failPull_p_flt {s : State} {a1} : (State.failPull s a1).flt = s.flt := State.failPull_keeps.same .flt (by rfl)
@[simp] theorem State.failPull_p_hk {s : State} {a1} : (State.failPull s a1).hk = s.hk := State.failPull_keeps.same .hk (by rfl)
@[simp] theorem State.failPull_p_boot {s : State} {a1} : (State.failPull s a1).boot = s.boot := State.failPull_keeps.same .boot (by rfl)
@[simp] theorem State.failPull_p_nvm {s : State} {a1} : (State.failPull s a1).nvm = s.nvm := State.failPull_keeps.same .nvm (by rfl)
@[simp] theorem State.failPull_p_fuses {s : State} {a1} : (State.failPull s a1).fuses = s.fuses := State.failPull_keeps.same .fuses (by rfl)
@[simp] theorem State.failPull_p_sec {s : State} {a1} : (State.failPull s a1).sec = s.sec := State.failPull_keeps.same .sec (by rfl)
@[simp] theorem State.failPull_p_cfg {s : State} {a1} : (State.failPull s a1).cfg = s.cfg := State.failPull_keeps.same .cfg (by rfl)
@[simp] theorem State.failPull_p_tb {s : State} {a1} : (State.failPull s a1).tb = s.tb := State.failPull_keeps.same .tb (by rfl)
@[simp] theorem State.failPull_p_tl {s : State} {a1} : (State.failPull s a1).tl = s.tl := State.failPull_keeps.same .tl (by rfl)
@[simp] theorem State.failPull_p_ports {s : State} {a1} : (State.failPull s a1).ports = s.ports := State.failPull_keeps.same .ports (by rfl)
@[simp] theorem State.failPull_p_tiles {s : State} {a1} : (State.failPull s a1).tiles = s.tiles := State.failPull_keeps.same .tiles (by rfl)
@[simp] theorem State.failPull_p_net {s : State} {a1} : (State.failPull s a1).net = s.net := State.failPull_keeps.same .net (by rfl)
@[simp] theorem State.failPull_p_fab {s : State} {a1} : (State.failPull s a1).fab = s.fab := State.failPull_keeps.same .fab (by rfl)
@[simp] theorem State.failPull_p_rl {s : State} {a1} : (State.failPull s a1).rl = s.rl := State.failPull_keeps.same .rl (by rfl)
@[simp] theorem State.failPull_p_pwr {s : State} {a1} : (State.failPull s a1).pwr = s.pwr := State.failPull_keeps.same .pwr (by rfl)
@[simp] theorem State.failPull_p_free {s : State} {a1} : (State.failPull s a1).free = s.free := State.failPull_keeps.same .free (by rfl)
@[simp] theorem State.failPull_p_out {s : State} {a1} : (State.failPull s a1).out = s.out := State.failPull_keeps.same .out (by rfl)
@[simp] theorem State.failPull_f_rws {s : State} {a1} (o : Nat) : (State.failPull s a1).rws o = s.rws o := by unfold State.rws; rw [State.failPull_regs_rws]
@[simp] theorem State.failPull_f_rw {s : State} {a1} (o : Nat) : (State.failPull s a1).rw o = s.rw o := by unfold State.rw; rw [State.failPull_regs_rw]
@[simp] theorem State.failPull_p_variant {s : State} {a1} : (State.failPull s a1).variant = s.variant := State.failPull_keeps.lasting.variant
@[simp] theorem State.failPull_p_ticks {s : State} {a1} : (State.failPull s a1).ticks = s.ticks := State.failPull_keeps.lasting.ticks
@[simp] theorem State.failPull_p_pending {s : State} {a1} : (State.failPull s a1).pending = s.pending := State.failPull_keeps.lasting.pending
@[simp] theorem State.retire_regs_rws {s : State} {a1 a2 a3 a4 a5} : (State.retire s a1 a2 a3 a4 a5).regs.rws = s.regs.rws := State.retire_keeps.same .rws (by rfl)
@[simp] theorem State.retire_regs_rw {s : State} {a1 a2 a3 a4 a5} : (State.retire s a1 a2 a3 a4 a5).regs.rw = s.regs.rw := State.retire_keeps.same .rw (by rfl)
@[simp] theorem State.retire_p_flt {s : State} {a1 a2 a3 a4 a5} : (State.retire s a1 a2 a3 a4 a5).flt = s.flt := State.retire_keeps.same .flt (by rfl)
@[simp] theorem State.retire_p_hk {s : State} {a1 a2 a3 a4 a5} : (State.retire s a1 a2 a3 a4 a5).hk = s.hk := State.retire_keeps.same .hk (by rfl)
@[simp] theorem State.retire_p_boot {s : State} {a1 a2 a3 a4 a5} : (State.retire s a1 a2 a3 a4 a5).boot = s.boot := State.retire_keeps.same .boot (by rfl)
@[simp] theorem State.retire_p_nvm {s : State} {a1 a2 a3 a4 a5} : (State.retire s a1 a2 a3 a4 a5).nvm = s.nvm := State.retire_keeps.same .nvm (by rfl)
@[simp] theorem State.retire_p_fuses {s : State} {a1 a2 a3 a4 a5} : (State.retire s a1 a2 a3 a4 a5).fuses = s.fuses := State.retire_keeps.same .fuses (by rfl)
@[simp] theorem State.retire_p_sec {s : State} {a1 a2 a3 a4 a5} : (State.retire s a1 a2 a3 a4 a5).sec = s.sec := State.retire_keeps.same .sec (by rfl)
@[simp] theorem State.retire_p_cfg {s : State} {a1 a2 a3 a4 a5} : (State.retire s a1 a2 a3 a4 a5).cfg = s.cfg := State.retire_keeps.same .cfg (by rfl)
@[simp] theorem State.retire_p_tb {s : State} {a1 a2 a3 a4 a5} : (State.retire s a1 a2 a3 a4 a5).tb = s.tb := State.retire_keeps.same .tb (by rfl)
@[simp] theorem State.retire_p_tl {s : State} {a1 a2 a3 a4 a5} : (State.retire s a1 a2 a3 a4 a5).tl = s.tl := State.retire_keeps.same .tl (by rfl)
@[simp] theorem State.retire_p_sc {s : State} {a1 a2 a3 a4 a5} : (State.retire s a1 a2 a3 a4 a5).sc = s.sc := State.retire_keeps.same .sc (by rfl)
@[simp] theorem State.retire_p_warm {s : State} {a1 a2 a3 a4 a5} : (State.retire s a1 a2 a3 a4 a5).warm = s.warm := State.retire_keeps.same .warm (by rfl)
@[simp] theorem State.retire_p_ports {s : State} {a1 a2 a3 a4 a5} : (State.retire s a1 a2 a3 a4 a5).ports = s.ports := State.retire_keeps.same .ports (by rfl)
@[simp] theorem State.retire_p_tiles {s : State} {a1 a2 a3 a4 a5} : (State.retire s a1 a2 a3 a4 a5).tiles = s.tiles := State.retire_keeps.same .tiles (by rfl)
@[simp] theorem State.retire_p_net {s : State} {a1 a2 a3 a4 a5} : (State.retire s a1 a2 a3 a4 a5).net = s.net := State.retire_keeps.same .net (by rfl)
@[simp] theorem State.retire_p_host {s : State} {a1 a2 a3 a4 a5} : (State.retire s a1 a2 a3 a4 a5).host = s.host := State.retire_keeps.same .host (by rfl)
@[simp] theorem State.retire_p_mem {s : State} {a1 a2 a3 a4 a5} : (State.retire s a1 a2 a3 a4 a5).mem = s.mem := State.retire_keeps.same .mem (by rfl)
@[simp] theorem State.retire_p_fab {s : State} {a1 a2 a3 a4 a5} : (State.retire s a1 a2 a3 a4 a5).fab = s.fab := State.retire_keeps.same .fab (by rfl)
@[simp] theorem State.retire_p_rl {s : State} {a1 a2 a3 a4 a5} : (State.retire s a1 a2 a3 a4 a5).rl = s.rl := State.retire_keeps.same .rl (by rfl)
@[simp] theorem State.retire_p_pwr {s : State} {a1 a2 a3 a4 a5} : (State.retire s a1 a2 a3 a4 a5).pwr = s.pwr := State.retire_keeps.same .pwr (by rfl)
@[simp] theorem State.retire_p_free {s : State} {a1 a2 a3 a4 a5} : (State.retire s a1 a2 a3 a4 a5).free = s.free := State.retire_keeps.same .free (by rfl)
@[simp] theorem State.retire_p_out {s : State} {a1 a2 a3 a4 a5} : (State.retire s a1 a2 a3 a4 a5).out = s.out := State.retire_keeps.same .out (by rfl)
@[simp] theorem State.retire_f_rws {s : State} {a1 a2 a3 a4 a5} (o : Nat) : (State.retire s a1 a2 a3 a4 a5).rws o = s.rws o := by unfold State.rws; rw [State.retire_regs_rws]
@[simp] theorem State.retire_f_rw {s : State} {a1 a2 a3 a4 a5} (o : Nat) : (State.retire s a1 a2 a3 a4 a5).rw o = s.rw o := by unfold State.rw; rw [State.retire_regs_rw]
@[simp] theorem State.retire_p_variant {s : State} {a1 a2 a3 a4 a5} : (State.retire s a1 a2 a3 a4 a5).variant = s.variant := State.retire_keeps.lasting.variant
@[simp] theorem State.retire_p_ticks {s : State} {a1 a2 a3 a4 a5} : (State.retire s a1 a2 a3 a4 a5).ticks = s.ticks := State.retire_keeps.lasting.ticks
@[simp] theorem State.retire_p_pending {s : State} {a1 a2 a3 a4 a5} : (State.retire s a1 a2 a3 a4 a5).pending = s.pending := State.retire_keeps.lasting.pending
@[simp] theorem State.signSlot_regs_rws {s : State} {a1 a2} : (State.signSlot s a1 a2).regs.rws = s.regs.rws := State.signSlot_keeps.same .rws (by rfl)
@[simp] theorem State.signSlot_regs_rw {s : State} {a1 a2} : (State.signSlot s a1 a2).regs.rw = s.regs.rw := State.signSlot_keeps.same .rw (by rfl)
@[simp] theorem State.signSlot_p_flt {s : State} {a1 a2} : (State.signSlot s a1 a2).flt = s.flt := State.signSlot_keeps.same .flt (by rfl)
@[simp] theorem State.signSlot_p_hk {s : State} {a1 a2} : (State.signSlot s a1 a2).hk = s.hk := State.signSlot_keeps.same .hk (by rfl)
@[simp] theorem State.signSlot_p_boot {s : State} {a1 a2} : (State.signSlot s a1 a2).boot = s.boot := State.signSlot_keeps.same .boot (by rfl)
@[simp] theorem State.signSlot_p_nvm {s : State} {a1 a2} : (State.signSlot s a1 a2).nvm = s.nvm := State.signSlot_keeps.same .nvm (by rfl)
@[simp] theorem State.signSlot_p_fuses {s : State} {a1 a2} : (State.signSlot s a1 a2).fuses = s.fuses := State.signSlot_keeps.same .fuses (by rfl)
@[simp] theorem State.signSlot_p_sec {s : State} {a1 a2} : (State.signSlot s a1 a2).sec = s.sec := State.signSlot_keeps.same .sec (by rfl)
@[simp] theorem State.signSlot_p_cfg {s : State} {a1 a2} : (State.signSlot s a1 a2).cfg = s.cfg := State.signSlot_keeps.same .cfg (by rfl)
@[simp] theorem State.signSlot_p_tb {s : State} {a1 a2} : (State.signSlot s a1 a2).tb = s.tb := State.signSlot_keeps.same .tb (by rfl)
@[simp] theorem State.signSlot_p_tl {s : State} {a1 a2} : (State.signSlot s a1 a2).tl = s.tl := State.signSlot_keeps.same .tl (by rfl)
@[simp] theorem State.signSlot_p_warm {s : State} {a1 a2} : (State.signSlot s a1 a2).warm = s.warm := State.signSlot_keeps.same .warm (by rfl)
@[simp] theorem State.signSlot_p_ports {s : State} {a1 a2} : (State.signSlot s a1 a2).ports = s.ports := State.signSlot_keeps.same .ports (by rfl)
@[simp] theorem State.signSlot_p_tiles {s : State} {a1 a2} : (State.signSlot s a1 a2).tiles = s.tiles := State.signSlot_keeps.same .tiles (by rfl)
@[simp] theorem State.signSlot_p_net {s : State} {a1 a2} : (State.signSlot s a1 a2).net = s.net := State.signSlot_keeps.same .net (by rfl)
@[simp] theorem State.signSlot_p_host {s : State} {a1 a2} : (State.signSlot s a1 a2).host = s.host := State.signSlot_keeps.same .host (by rfl)
@[simp] theorem State.signSlot_p_mem {s : State} {a1 a2} : (State.signSlot s a1 a2).mem = s.mem := State.signSlot_keeps.same .mem (by rfl)
@[simp] theorem State.signSlot_p_fab {s : State} {a1 a2} : (State.signSlot s a1 a2).fab = s.fab := State.signSlot_keeps.same .fab (by rfl)
@[simp] theorem State.signSlot_p_rl {s : State} {a1 a2} : (State.signSlot s a1 a2).rl = s.rl := State.signSlot_keeps.same .rl (by rfl)
@[simp] theorem State.signSlot_p_pwr {s : State} {a1 a2} : (State.signSlot s a1 a2).pwr = s.pwr := State.signSlot_keeps.same .pwr (by rfl)
@[simp] theorem State.signSlot_p_free {s : State} {a1 a2} : (State.signSlot s a1 a2).free = s.free := State.signSlot_keeps.same .free (by rfl)
@[simp] theorem State.signSlot_p_out {s : State} {a1 a2} : (State.signSlot s a1 a2).out = s.out := State.signSlot_keeps.same .out (by rfl)
@[simp] theorem State.signSlot_f_rws {s : State} {a1 a2} (o : Nat) : (State.signSlot s a1 a2).rws o = s.rws o := by unfold State.rws; rw [State.signSlot_regs_rws]
@[simp] theorem State.signSlot_f_rw {s : State} {a1 a2} (o : Nat) : (State.signSlot s a1 a2).rw o = s.rw o := by unfold State.rw; rw [State.signSlot_regs_rw]
@[simp] theorem State.signSlot_p_variant {s : State} {a1 a2} : (State.signSlot s a1 a2).variant = s.variant := State.signSlot_keeps.lasting.variant
@[simp] theorem State.signSlot_p_ticks {s : State} {a1 a2} : (State.signSlot s a1 a2).ticks = s.ticks := State.signSlot_keeps.lasting.ticks
@[simp] theorem State.signSlot_p_pending {s : State} {a1 a2} : (State.signSlot s a1 a2).pending = s.pending := State.signSlot_keeps.lasting.pending
@[simp] theorem State.ringDrain_regs_rws {s : State} {n} : (State.ringDrain s n).regs.rws = s.regs.rws := State.ringDrain_keeps.same .rws (by rfl)
@[simp] theorem State.ringDrain_regs_rw {s : State} {n} : (State.ringDrain s n).regs.rw = s.regs.rw := State.ringDrain_keeps.same .rw (by rfl)
@[simp] theorem State.ringDrain_p_flt {s : State} {n} : (State.ringDrain s n).flt = s.flt := State.ringDrain_keeps.same .flt (by rfl)
@[simp] theorem State.ringDrain_p_hk {s : State} {n} : (State.ringDrain s n).hk = s.hk := State.ringDrain_keeps.same .hk (by rfl)
@[simp] theorem State.ringDrain_p_boot {s : State} {n} : (State.ringDrain s n).boot = s.boot := State.ringDrain_keeps.same .boot (by rfl)
@[simp] theorem State.ringDrain_p_nvm {s : State} {n} : (State.ringDrain s n).nvm = s.nvm := State.ringDrain_keeps.same .nvm (by rfl)
@[simp] theorem State.ringDrain_p_fuses {s : State} {n} : (State.ringDrain s n).fuses = s.fuses := State.ringDrain_keeps.same .fuses (by rfl)
@[simp] theorem State.ringDrain_p_sec {s : State} {n} : (State.ringDrain s n).sec = s.sec := State.ringDrain_keeps.same .sec (by rfl)
@[simp] theorem State.ringDrain_p_cfg {s : State} {n} : (State.ringDrain s n).cfg = s.cfg := State.ringDrain_keeps.same .cfg (by rfl)
@[simp] theorem State.ringDrain_p_tb {s : State} {n} : (State.ringDrain s n).tb = s.tb := State.ringDrain_keeps.same .tb (by rfl)
@[simp] theorem State.ringDrain_p_tl {s : State} {n} : (State.ringDrain s n).tl = s.tl := State.ringDrain_keeps.same .tl (by rfl)
@[simp] theorem State.ringDrain_p_sc {s : State} {n} : (State.ringDrain s n).sc = s.sc := State.ringDrain_keeps.same .sc (by rfl)
@[simp] theorem State.ringDrain_p_warm {s : State} {n} : (State.ringDrain s n).warm = s.warm := State.ringDrain_keeps.same .warm (by rfl)
@[simp] theorem State.ringDrain_p_ports {s : State} {n} : (State.ringDrain s n).ports = s.ports := State.ringDrain_keeps.same .ports (by rfl)
@[simp] theorem State.ringDrain_p_tiles {s : State} {n} : (State.ringDrain s n).tiles = s.tiles := State.ringDrain_keeps.same .tiles (by rfl)
@[simp] theorem State.ringDrain_p_net {s : State} {n} : (State.ringDrain s n).net = s.net := State.ringDrain_keeps.same .net (by rfl)
@[simp] theorem State.ringDrain_p_host {s : State} {n} : (State.ringDrain s n).host = s.host := State.ringDrain_keeps.same .host (by rfl)
@[simp] theorem State.ringDrain_p_mem {s : State} {n} : (State.ringDrain s n).mem = s.mem := State.ringDrain_keeps.same .mem (by rfl)
@[simp] theorem State.ringDrain_p_fab {s : State} {n} : (State.ringDrain s n).fab = s.fab := State.ringDrain_keeps.same .fab (by rfl)
@[simp] theorem State.ringDrain_p_rl {s : State} {n} : (State.ringDrain s n).rl = s.rl := State.ringDrain_keeps.same .rl (by rfl)
@[simp] theorem State.ringDrain_p_pwr {s : State} {n} : (State.ringDrain s n).pwr = s.pwr := State.ringDrain_keeps.same .pwr (by rfl)
@[simp] theorem State.ringDrain_p_free {s : State} {n} : (State.ringDrain s n).free = s.free := State.ringDrain_keeps.same .free (by rfl)
@[simp] theorem State.ringDrain_f_rws {s : State} {n} (o : Nat) : (State.ringDrain s n).rws o = s.rws o := by unfold State.rws; rw [State.ringDrain_regs_rws]
@[simp] theorem State.ringDrain_f_rw {s : State} {n} (o : Nat) : (State.ringDrain s n).rw o = s.rw o := by unfold State.rw; rw [State.ringDrain_regs_rw]
@[simp] theorem State.ringDrain_p_variant {s : State} {n} : (State.ringDrain s n).variant = s.variant := State.ringDrain_keeps.lasting.variant
@[simp] theorem State.ringDrain_p_ticks {s : State} {n} : (State.ringDrain s n).ticks = s.ticks := State.ringDrain_keeps.lasting.ticks
@[simp] theorem State.ringDrain_p_pending {s : State} {n} : (State.ringDrain s n).pending = s.pending := State.ringDrain_keeps.lasting.pending
@[simp] theorem State.writeIndex_regs_rws {s : State}  : (State.writeIndex s).regs.rws = s.regs.rws := State.writeIndex_keeps.same .rws (by rfl)
@[simp] theorem State.writeIndex_regs_rw {s : State}  : (State.writeIndex s).regs.rw = s.regs.rw := State.writeIndex_keeps.same .rw (by rfl)
@[simp] theorem State.writeIndex_regs_cnt {s : State}  : (State.writeIndex s).regs.cnt = s.regs.cnt := (State.writeIndex_keeps.same .cnt (by rfl)).1
@[simp] theorem State.writeIndex_p_flt {s : State}  : (State.writeIndex s).flt = s.flt := State.writeIndex_keeps.same .flt (by rfl)
@[simp] theorem State.writeIndex_p_hk {s : State}  : (State.writeIndex s).hk = s.hk := State.writeIndex_keeps.same .hk (by rfl)
@[simp] theorem State.writeIndex_p_boot {s : State}  : (State.writeIndex s).boot = s.boot := State.writeIndex_keeps.same .boot (by rfl)
@[simp] theorem State.writeIndex_p_nvm {s : State}  : (State.writeIndex s).nvm = s.nvm := State.writeIndex_keeps.same .nvm (by rfl)
@[simp] theorem State.writeIndex_p_fuses {s : State}  : (State.writeIndex s).fuses = s.fuses := State.writeIndex_keeps.same .fuses (by rfl)
@[simp] theorem State.writeIndex_p_sec {s : State}  : (State.writeIndex s).sec = s.sec := State.writeIndex_keeps.same .sec (by rfl)
@[simp] theorem State.writeIndex_p_cfg {s : State}  : (State.writeIndex s).cfg = s.cfg := State.writeIndex_keeps.same .cfg (by rfl)
@[simp] theorem State.writeIndex_p_tb {s : State}  : (State.writeIndex s).tb = s.tb := State.writeIndex_keeps.same .tb (by rfl)
@[simp] theorem State.writeIndex_p_tl {s : State}  : (State.writeIndex s).tl = s.tl := State.writeIndex_keeps.same .tl (by rfl)
@[simp] theorem State.writeIndex_p_sc {s : State}  : (State.writeIndex s).sc = s.sc := State.writeIndex_keeps.same .sc (by rfl)
@[simp] theorem State.writeIndex_p_warm {s : State}  : (State.writeIndex s).warm = s.warm := State.writeIndex_keeps.same .warm (by rfl)
@[simp] theorem State.writeIndex_p_ports {s : State}  : (State.writeIndex s).ports = s.ports := State.writeIndex_keeps.same .ports (by rfl)
@[simp] theorem State.writeIndex_p_tiles {s : State}  : (State.writeIndex s).tiles = s.tiles := State.writeIndex_keeps.same .tiles (by rfl)
@[simp] theorem State.writeIndex_p_net {s : State}  : (State.writeIndex s).net = s.net := State.writeIndex_keeps.same .net (by rfl)
@[simp] theorem State.writeIndex_p_host {s : State}  : (State.writeIndex s).host = s.host := State.writeIndex_keeps.same .host (by rfl)
@[simp] theorem State.writeIndex_p_mem {s : State}  : (State.writeIndex s).mem = s.mem := State.writeIndex_keeps.same .mem (by rfl)
@[simp] theorem State.writeIndex_p_fab {s : State}  : (State.writeIndex s).fab = s.fab := State.writeIndex_keeps.same .fab (by rfl)
@[simp] theorem State.writeIndex_p_rl {s : State}  : (State.writeIndex s).rl = s.rl := State.writeIndex_keeps.same .rl (by rfl)
@[simp] theorem State.writeIndex_p_pwr {s : State}  : (State.writeIndex s).pwr = s.pwr := State.writeIndex_keeps.same .pwr (by rfl)
@[simp] theorem State.writeIndex_p_free {s : State}  : (State.writeIndex s).free = s.free := State.writeIndex_keeps.same .free (by rfl)
@[simp] theorem State.writeIndex_f_rws {s : State}  (o : Nat) : (State.writeIndex s).rws o = s.rws o := by unfold State.rws; rw [State.writeIndex_regs_rws]
@[simp] theorem State.writeIndex_f_rw {s : State}  (o : Nat) : (State.writeIndex s).rw o = s.rw o := by unfold State.rw; rw [State.writeIndex_regs_rw]
@[simp] theorem State.writeIndex_f_cnt {s : State}  (o : Nat) : (State.writeIndex s).cnt o = s.cnt o := by unfold State.cnt; rw [State.writeIndex_regs_cnt]
@[simp] theorem State.writeIndex_p_variant {s : State}  : (State.writeIndex s).variant = s.variant := State.writeIndex_keeps.lasting.variant
@[simp] theorem State.writeIndex_p_ticks {s : State}  : (State.writeIndex s).ticks = s.ticks := State.writeIndex_keeps.lasting.ticks
@[simp] theorem State.writeIndex_p_pending {s : State}  : (State.writeIndex s).pending = s.pending := State.writeIndex_keeps.lasting.pending
@[simp] theorem State.ringStep_regs_rws {s : State}  : (State.ringStep s).regs.rws = s.regs.rws := State.ringStep_keeps.same .rws (by rfl)
@[simp] theorem State.ringStep_regs_rw {s : State}  : (State.ringStep s).regs.rw = s.regs.rw := State.ringStep_keeps.same .rw (by rfl)
@[simp] theorem State.ringStep_p_flt {s : State}  : (State.ringStep s).flt = s.flt := State.ringStep_keeps.same .flt (by rfl)
@[simp] theorem State.ringStep_p_hk {s : State}  : (State.ringStep s).hk = s.hk := State.ringStep_keeps.same .hk (by rfl)
@[simp] theorem State.ringStep_p_boot {s : State}  : (State.ringStep s).boot = s.boot := State.ringStep_keeps.same .boot (by rfl)
@[simp] theorem State.ringStep_p_nvm {s : State}  : (State.ringStep s).nvm = s.nvm := State.ringStep_keeps.same .nvm (by rfl)
@[simp] theorem State.ringStep_p_fuses {s : State}  : (State.ringStep s).fuses = s.fuses := State.ringStep_keeps.same .fuses (by rfl)
@[simp] theorem State.ringStep_p_sec {s : State}  : (State.ringStep s).sec = s.sec := State.ringStep_keeps.same .sec (by rfl)
@[simp] theorem State.ringStep_p_cfg {s : State}  : (State.ringStep s).cfg = s.cfg := State.ringStep_keeps.same .cfg (by rfl)
@[simp] theorem State.ringStep_p_tb {s : State}  : (State.ringStep s).tb = s.tb := State.ringStep_keeps.same .tb (by rfl)
@[simp] theorem State.ringStep_p_tl {s : State}  : (State.ringStep s).tl = s.tl := State.ringStep_keeps.same .tl (by rfl)
@[simp] theorem State.ringStep_p_sc {s : State}  : (State.ringStep s).sc = s.sc := State.ringStep_keeps.same .sc (by rfl)
@[simp] theorem State.ringStep_p_warm {s : State}  : (State.ringStep s).warm = s.warm := State.ringStep_keeps.same .warm (by rfl)
@[simp] theorem State.ringStep_p_ports {s : State}  : (State.ringStep s).ports = s.ports := State.ringStep_keeps.same .ports (by rfl)
@[simp] theorem State.ringStep_p_tiles {s : State}  : (State.ringStep s).tiles = s.tiles := State.ringStep_keeps.same .tiles (by rfl)
@[simp] theorem State.ringStep_p_net {s : State}  : (State.ringStep s).net = s.net := State.ringStep_keeps.same .net (by rfl)
@[simp] theorem State.ringStep_p_host {s : State}  : (State.ringStep s).host = s.host := State.ringStep_keeps.same .host (by rfl)
@[simp] theorem State.ringStep_p_mem {s : State}  : (State.ringStep s).mem = s.mem := State.ringStep_keeps.same .mem (by rfl)
@[simp] theorem State.ringStep_p_fab {s : State}  : (State.ringStep s).fab = s.fab := State.ringStep_keeps.same .fab (by rfl)
@[simp] theorem State.ringStep_p_rl {s : State}  : (State.ringStep s).rl = s.rl := State.ringStep_keeps.same .rl (by rfl)
@[simp] theorem State.ringStep_p_pwr {s : State}  : (State.ringStep s).pwr = s.pwr := State.ringStep_keeps.same .pwr (by rfl)
@[simp] theorem State.ringStep_p_free {s : State}  : (State.ringStep s).free = s.free := State.ringStep_keeps.same .free (by rfl)
@[simp] theorem State.ringStep_f_rws {s : State}  (o : Nat) : (State.ringStep s).rws o = s.rws o := by unfold State.rws; rw [State.ringStep_regs_rws]
@[simp] theorem State.ringStep_f_rw {s : State}  (o : Nat) : (State.ringStep s).rw o = s.rw o := by unfold State.rw; rw [State.ringStep_regs_rw]
@[simp] theorem State.ringStep_p_variant {s : State}  : (State.ringStep s).variant = s.variant := State.ringStep_keeps.lasting.variant
@[simp] theorem State.ringStep_p_ticks {s : State}  : (State.ringStep s).ticks = s.ticks := State.ringStep_keeps.lasting.ticks
@[simp] theorem State.ringStep_p_pending {s : State}  : (State.ringStep s).pending = s.pending := State.ringStep_keeps.lasting.pending
@[simp] theorem State.warmTake_regs_rws {s : State} {a1 a2 a3} : (State.warmTake s a1 a2 a3).regs.rws = s.regs.rws := State.warmTake_keeps.same .rws (by rfl)
@[simp] theorem State.warmTake_regs_rw {s : State} {a1 a2 a3} : (State.warmTake s a1 a2 a3).regs.rw = s.regs.rw := State.warmTake_keeps.same .rw (by rfl)
@[simp] theorem State.warmTake_regs_cnt {s : State} {a1 a2 a3} : (State.warmTake s a1 a2 a3).regs.cnt = s.regs.cnt := (State.warmTake_keeps.same .cnt (by rfl)).1
@[simp] theorem State.warmTake_p_evt {s : State} {a1 a2 a3} : (State.warmTake s a1 a2 a3).evt = s.evt := State.warmTake_keeps.same .evt (by rfl)
@[simp] theorem State.warmTake_p_flt {s : State} {a1 a2 a3} : (State.warmTake s a1 a2 a3).flt = s.flt := State.warmTake_keeps.same .flt (by rfl)
@[simp] theorem State.warmTake_p_hk {s : State} {a1 a2 a3} : (State.warmTake s a1 a2 a3).hk = s.hk := State.warmTake_keeps.same .hk (by rfl)
@[simp] theorem State.warmTake_p_boot {s : State} {a1 a2 a3} : (State.warmTake s a1 a2 a3).boot = s.boot := State.warmTake_keeps.same .boot (by rfl)
@[simp] theorem State.warmTake_p_nvm {s : State} {a1 a2 a3} : (State.warmTake s a1 a2 a3).nvm = s.nvm := State.warmTake_keeps.same .nvm (by rfl)
@[simp] theorem State.warmTake_p_fuses {s : State} {a1 a2 a3} : (State.warmTake s a1 a2 a3).fuses = s.fuses := State.warmTake_keeps.same .fuses (by rfl)
@[simp] theorem State.warmTake_p_sec {s : State} {a1 a2 a3} : (State.warmTake s a1 a2 a3).sec = s.sec := State.warmTake_keeps.same .sec (by rfl)
@[simp] theorem State.warmTake_p_cfg {s : State} {a1 a2 a3} : (State.warmTake s a1 a2 a3).cfg = s.cfg := State.warmTake_keeps.same .cfg (by rfl)
@[simp] theorem State.warmTake_p_tb {s : State} {a1 a2 a3} : (State.warmTake s a1 a2 a3).tb = s.tb := State.warmTake_keeps.same .tb (by rfl)
@[simp] theorem State.warmTake_p_tl {s : State} {a1 a2 a3} : (State.warmTake s a1 a2 a3).tl = s.tl := State.warmTake_keeps.same .tl (by rfl)
@[simp] theorem State.warmTake_p_sc {s : State} {a1 a2 a3} : (State.warmTake s a1 a2 a3).sc = s.sc := State.warmTake_keeps.same .sc (by rfl)
@[simp] theorem State.warmTake_p_ports {s : State} {a1 a2 a3} : (State.warmTake s a1 a2 a3).ports = s.ports := State.warmTake_keeps.same .ports (by rfl)
@[simp] theorem State.warmTake_p_tiles {s : State} {a1 a2 a3} : (State.warmTake s a1 a2 a3).tiles = s.tiles := State.warmTake_keeps.same .tiles (by rfl)
@[simp] theorem State.warmTake_p_net {s : State} {a1 a2 a3} : (State.warmTake s a1 a2 a3).net = s.net := State.warmTake_keeps.same .net (by rfl)
@[simp] theorem State.warmTake_p_host {s : State} {a1 a2 a3} : (State.warmTake s a1 a2 a3).host = s.host := State.warmTake_keeps.same .host (by rfl)
@[simp] theorem State.warmTake_p_mem {s : State} {a1 a2 a3} : (State.warmTake s a1 a2 a3).mem = s.mem := State.warmTake_keeps.same .mem (by rfl)
@[simp] theorem State.warmTake_p_fab {s : State} {a1 a2 a3} : (State.warmTake s a1 a2 a3).fab = s.fab := State.warmTake_keeps.same .fab (by rfl)
@[simp] theorem State.warmTake_p_rl {s : State} {a1 a2 a3} : (State.warmTake s a1 a2 a3).rl = s.rl := State.warmTake_keeps.same .rl (by rfl)
@[simp] theorem State.warmTake_p_pwr {s : State} {a1 a2 a3} : (State.warmTake s a1 a2 a3).pwr = s.pwr := State.warmTake_keeps.same .pwr (by rfl)
@[simp] theorem State.warmTake_p_free {s : State} {a1 a2 a3} : (State.warmTake s a1 a2 a3).free = s.free := State.warmTake_keeps.same .free (by rfl)
@[simp] theorem State.warmTake_p_out {s : State} {a1 a2 a3} : (State.warmTake s a1 a2 a3).out = s.out := State.warmTake_keeps.same .out (by rfl)
@[simp] theorem State.warmTake_f_rws {s : State} {a1 a2 a3} (o : Nat) : (State.warmTake s a1 a2 a3).rws o = s.rws o := by unfold State.rws; rw [State.warmTake_regs_rws]
@[simp] theorem State.warmTake_f_rw {s : State} {a1 a2 a3} (o : Nat) : (State.warmTake s a1 a2 a3).rw o = s.rw o := by unfold State.rw; rw [State.warmTake_regs_rw]
@[simp] theorem State.warmTake_f_cnt {s : State} {a1 a2 a3} (o : Nat) : (State.warmTake s a1 a2 a3).cnt o = s.cnt o := by unfold State.cnt; rw [State.warmTake_regs_cnt]
@[simp] theorem State.warmTake_p_variant {s : State} {a1 a2 a3} : (State.warmTake s a1 a2 a3).variant = s.variant := State.warmTake_keeps.lasting.variant
@[simp] theorem State.warmTake_p_ticks {s : State} {a1 a2 a3} : (State.warmTake s a1 a2 a3).ticks = s.ticks := State.warmTake_keeps.lasting.ticks
@[simp] theorem State.warmTake_p_pending {s : State} {a1 a2 a3} : (State.warmTake s a1 a2 a3).pending = s.pending := State.warmTake_keeps.lasting.pending
@[simp] theorem State.detach_regs_rws {s : State}  : (State.detach s).regs.rws = s.regs.rws := State.detach_keeps.same .rws (by rfl)
@[simp] theorem State.detach_regs_rw {s : State}  : (State.detach s).regs.rw = s.regs.rw := State.detach_keeps.same .rw (by rfl)
@[simp] theorem State.detach_p_flt {s : State}  : (State.detach s).flt = s.flt := State.detach_keeps.same .flt (by rfl)
@[simp] theorem State.detach_p_hk {s : State}  : (State.detach s).hk = s.hk := State.detach_keeps.same .hk (by rfl)
@[simp] theorem State.detach_p_boot {s : State}  : (State.detach s).boot = s.boot := State.detach_keeps.same .boot (by rfl)
@[simp] theorem State.detach_p_fuses {s : State}  : (State.detach s).fuses = s.fuses := State.detach_keeps.same .fuses (by rfl)
@[simp] theorem State.detach_p_sec {s : State}  : (State.detach s).sec = s.sec := State.detach_keeps.same .sec (by rfl)
@[simp] theorem State.detach_p_cfg {s : State}  : (State.detach s).cfg = s.cfg := State.detach_keeps.same .cfg (by rfl)
@[simp] theorem State.detach_p_tb {s : State}  : (State.detach s).tb = s.tb := State.detach_keeps.same .tb (by rfl)
@[simp] theorem State.detach_p_tl {s : State}  : (State.detach s).tl = s.tl := State.detach_keeps.same .tl (by rfl)
@[simp] theorem State.detach_p_ports {s : State}  : (State.detach s).ports = s.ports := State.detach_keeps.same .ports (by rfl)
@[simp] theorem State.detach_p_tiles {s : State}  : (State.detach s).tiles = s.tiles := State.detach_keeps.same .tiles (by rfl)
@[simp] theorem State.detach_p_net {s : State}  : (State.detach s).net = s.net := State.detach_keeps.same .net (by rfl)
@[simp] theorem State.detach_p_fab {s : State}  : (State.detach s).fab = s.fab := State.detach_keeps.same .fab (by rfl)
@[simp] theorem State.detach_p_rl {s : State}  : (State.detach s).rl = s.rl := State.detach_keeps.same .rl (by rfl)
@[simp] theorem State.detach_p_pwr {s : State}  : (State.detach s).pwr = s.pwr := State.detach_keeps.same .pwr (by rfl)
@[simp] theorem State.detach_p_free {s : State}  : (State.detach s).free = s.free := State.detach_keeps.same .free (by rfl)
@[simp] theorem State.detach_p_out {s : State}  : (State.detach s).out = s.out := State.detach_keeps.same .out (by rfl)
@[simp] theorem State.detach_f_rws {s : State}  (o : Nat) : (State.detach s).rws o = s.rws o := by unfold State.rws; rw [State.detach_regs_rws]
@[simp] theorem State.detach_f_rw {s : State}  (o : Nat) : (State.detach s).rw o = s.rw o := by unfold State.rw; rw [State.detach_regs_rw]
@[simp] theorem State.detach_p_variant {s : State}  : (State.detach s).variant = s.variant := State.detach_keeps.lasting.variant
@[simp] theorem State.detach_p_ticks {s : State}  : (State.detach s).ticks = s.ticks := State.detach_keeps.lasting.ticks
@[simp] theorem State.detach_p_pending {s : State}  : (State.detach s).pending = s.pending := State.detach_keeps.lasting.pending
@[simp] theorem State.attach_regs_rws {s : State}  : (State.attach s).regs.rws = s.regs.rws := State.attach_keeps.same .rws (by rfl)
@[simp] theorem State.attach_p_flt {s : State}  : (State.attach s).flt = s.flt := State.attach_keeps.same .flt (by rfl)
@[simp] theorem State.attach_p_hk {s : State}  : (State.attach s).hk = s.hk := State.attach_keeps.same .hk (by rfl)
@[simp] theorem State.attach_p_boot {s : State}  : (State.attach s).boot = s.boot := State.attach_keeps.same .boot (by rfl)
@[simp] theorem State.attach_p_nvm {s : State}  : (State.attach s).nvm = s.nvm := State.attach_keeps.same .nvm (by rfl)
@[simp] theorem State.attach_p_fuses {s : State}  : (State.attach s).fuses = s.fuses := State.attach_keeps.same .fuses (by rfl)
@[simp] theorem State.attach_p_sec {s : State}  : (State.attach s).sec = s.sec := State.attach_keeps.same .sec (by rfl)
@[simp] theorem State.attach_p_cfg {s : State}  : (State.attach s).cfg = s.cfg := State.attach_keeps.same .cfg (by rfl)
@[simp] theorem State.attach_p_tb {s : State}  : (State.attach s).tb = s.tb := State.attach_keeps.same .tb (by rfl)
@[simp] theorem State.attach_p_tl {s : State}  : (State.attach s).tl = s.tl := State.attach_keeps.same .tl (by rfl)
@[simp] theorem State.attach_p_sc {s : State}  : (State.attach s).sc = s.sc := State.attach_keeps.same .sc (by rfl)
@[simp] theorem State.attach_p_warm {s : State}  : (State.attach s).warm = s.warm := State.attach_keeps.same .warm (by rfl)
@[simp] theorem State.attach_p_ports {s : State}  : (State.attach s).ports = s.ports := State.attach_keeps.same .ports (by rfl)
@[simp] theorem State.attach_p_tiles {s : State}  : (State.attach s).tiles = s.tiles := State.attach_keeps.same .tiles (by rfl)
@[simp] theorem State.attach_p_net {s : State}  : (State.attach s).net = s.net := State.attach_keeps.same .net (by rfl)
@[simp] theorem State.attach_p_mem {s : State}  : (State.attach s).mem = s.mem := State.attach_keeps.same .mem (by rfl)
@[simp] theorem State.attach_p_fab {s : State}  : (State.attach s).fab = s.fab := State.attach_keeps.same .fab (by rfl)
@[simp] theorem State.attach_p_rl {s : State}  : (State.attach s).rl = s.rl := State.attach_keeps.same .rl (by rfl)
@[simp] theorem State.attach_p_pwr {s : State}  : (State.attach s).pwr = s.pwr := State.attach_keeps.same .pwr (by rfl)
@[simp] theorem State.attach_p_free {s : State}  : (State.attach s).free = s.free := State.attach_keeps.same .free (by rfl)
@[simp] theorem State.attach_f_rws {s : State}  (o : Nat) : (State.attach s).rws o = s.rws o := by unfold State.rws; rw [State.attach_regs_rws]
@[simp] theorem State.attach_p_variant {s : State}  : (State.attach s).variant = s.variant := State.attach_keeps.lasting.variant
@[simp] theorem State.attach_p_ticks {s : State}  : (State.attach s).ticks = s.ticks := State.attach_keeps.lasting.ticks
@[simp] theorem State.attach_p_pending {s : State}  : (State.attach s).pending = s.pending := State.attach_keeps.lasting.pending
@[simp] theorem State.flushCues_regs_rws {s : State}  : (State.flushCues s).regs.rws = s.regs.rws := State.flushCues_keeps.same .rws (by rfl)
@[simp] theorem State.flushCues_regs_rw {s : State}  : (State.flushCues s).regs.rw = s.regs.rw := State.flushCues_keeps.same .rw (by rfl)
@[simp] theorem State.flushCues_p_flt {s : State}  : (State.flushCues s).flt = s.flt := State.flushCues_keeps.same .flt (by rfl)
@[simp] theorem State.flushCues_p_hk {s : State}  : (State.flushCues s).hk = s.hk := State.flushCues_keeps.same .hk (by rfl)
@[simp] theorem State.flushCues_p_boot {s : State}  : (State.flushCues s).boot = s.boot := State.flushCues_keeps.same .boot (by rfl)
@[simp] theorem State.flushCues_p_nvm {s : State}  : (State.flushCues s).nvm = s.nvm := State.flushCues_keeps.same .nvm (by rfl)
@[simp] theorem State.flushCues_p_fuses {s : State}  : (State.flushCues s).fuses = s.fuses := State.flushCues_keeps.same .fuses (by rfl)
@[simp] theorem State.flushCues_p_sec {s : State}  : (State.flushCues s).sec = s.sec := State.flushCues_keeps.same .sec (by rfl)
@[simp] theorem State.flushCues_p_cfg {s : State}  : (State.flushCues s).cfg = s.cfg := State.flushCues_keeps.same .cfg (by rfl)
@[simp] theorem State.flushCues_p_tb {s : State}  : (State.flushCues s).tb = s.tb := State.flushCues_keeps.same .tb (by rfl)
@[simp] theorem State.flushCues_p_tl {s : State}  : (State.flushCues s).tl = s.tl := State.flushCues_keeps.same .tl (by rfl)
@[simp] theorem State.flushCues_p_warm {s : State}  : (State.flushCues s).warm = s.warm := State.flushCues_keeps.same .warm (by rfl)
@[simp] theorem State.flushCues_p_ports {s : State}  : (State.flushCues s).ports = s.ports := State.flushCues_keeps.same .ports (by rfl)
@[simp] theorem State.flushCues_p_tiles {s : State}  : (State.flushCues s).tiles = s.tiles := State.flushCues_keeps.same .tiles (by rfl)
@[simp] theorem State.flushCues_p_net {s : State}  : (State.flushCues s).net = s.net := State.flushCues_keeps.same .net (by rfl)
@[simp] theorem State.flushCues_p_host {s : State}  : (State.flushCues s).host = s.host := State.flushCues_keeps.same .host (by rfl)
@[simp] theorem State.flushCues_p_mem {s : State}  : (State.flushCues s).mem = s.mem := State.flushCues_keeps.same .mem (by rfl)
@[simp] theorem State.flushCues_p_fab {s : State}  : (State.flushCues s).fab = s.fab := State.flushCues_keeps.same .fab (by rfl)
@[simp] theorem State.flushCues_p_rl {s : State}  : (State.flushCues s).rl = s.rl := State.flushCues_keeps.same .rl (by rfl)
@[simp] theorem State.flushCues_p_pwr {s : State}  : (State.flushCues s).pwr = s.pwr := State.flushCues_keeps.same .pwr (by rfl)
@[simp] theorem State.flushCues_p_free {s : State}  : (State.flushCues s).free = s.free := State.flushCues_keeps.same .free (by rfl)
@[simp] theorem State.flushCues_p_out {s : State}  : (State.flushCues s).out = s.out := State.flushCues_keeps.same .out (by rfl)
@[simp] theorem State.flushCues_f_rws {s : State}  (o : Nat) : (State.flushCues s).rws o = s.rws o := by unfold State.rws; rw [State.flushCues_regs_rws]
@[simp] theorem State.flushCues_f_rw {s : State}  (o : Nat) : (State.flushCues s).rw o = s.rw o := by unfold State.rw; rw [State.flushCues_regs_rw]
@[simp] theorem State.flushCues_p_variant {s : State}  : (State.flushCues s).variant = s.variant := State.flushCues_keeps.lasting.variant
@[simp] theorem State.flushCues_p_ticks {s : State}  : (State.flushCues s).ticks = s.ticks := State.flushCues_keeps.lasting.ticks
@[simp] theorem State.flushCues_p_pending {s : State}  : (State.flushCues s).pending = s.pending := State.flushCues_keeps.lasting.pending
@[simp] theorem State.planGone_regs_rws {s : State} {a1} : (State.planGone s a1).regs.rws = s.regs.rws := State.planGone_keeps.same .rws (by rfl)
@[simp] theorem State.planGone_regs_rw {s : State} {a1} : (State.planGone s a1).regs.rw = s.regs.rw := State.planGone_keeps.same .rw (by rfl)
@[simp] theorem State.planGone_p_flt {s : State} {a1} : (State.planGone s a1).flt = s.flt := State.planGone_keeps.same .flt (by rfl)
@[simp] theorem State.planGone_p_hk {s : State} {a1} : (State.planGone s a1).hk = s.hk := State.planGone_keeps.same .hk (by rfl)
@[simp] theorem State.planGone_p_boot {s : State} {a1} : (State.planGone s a1).boot = s.boot := State.planGone_keeps.same .boot (by rfl)
@[simp] theorem State.planGone_p_nvm {s : State} {a1} : (State.planGone s a1).nvm = s.nvm := State.planGone_keeps.same .nvm (by rfl)
@[simp] theorem State.planGone_p_fuses {s : State} {a1} : (State.planGone s a1).fuses = s.fuses := State.planGone_keeps.same .fuses (by rfl)
@[simp] theorem State.planGone_p_sec {s : State} {a1} : (State.planGone s a1).sec = s.sec := State.planGone_keeps.same .sec (by rfl)
@[simp] theorem State.planGone_p_cfg {s : State} {a1} : (State.planGone s a1).cfg = s.cfg := State.planGone_keeps.same .cfg (by rfl)
@[simp] theorem State.planGone_p_tb {s : State} {a1} : (State.planGone s a1).tb = s.tb := State.planGone_keeps.same .tb (by rfl)
@[simp] theorem State.planGone_p_tl {s : State} {a1} : (State.planGone s a1).tl = s.tl := State.planGone_keeps.same .tl (by rfl)
@[simp] theorem State.planGone_p_sc {s : State} {a1} : (State.planGone s a1).sc = s.sc := State.planGone_keeps.same .sc (by rfl)
@[simp] theorem State.planGone_p_warm {s : State} {a1} : (State.planGone s a1).warm = s.warm := State.planGone_keeps.same .warm (by rfl)
@[simp] theorem State.planGone_p_ports {s : State} {a1} : (State.planGone s a1).ports = s.ports := State.planGone_keeps.same .ports (by rfl)
@[simp] theorem State.planGone_p_tiles {s : State} {a1} : (State.planGone s a1).tiles = s.tiles := State.planGone_keeps.same .tiles (by rfl)
@[simp] theorem State.planGone_p_net {s : State} {a1} : (State.planGone s a1).net = s.net := State.planGone_keeps.same .net (by rfl)
@[simp] theorem State.planGone_p_host {s : State} {a1} : (State.planGone s a1).host = s.host := State.planGone_keeps.same .host (by rfl)
@[simp] theorem State.planGone_p_mem {s : State} {a1} : (State.planGone s a1).mem = s.mem := State.planGone_keeps.same .mem (by rfl)
@[simp] theorem State.planGone_p_fab {s : State} {a1} : (State.planGone s a1).fab = s.fab := State.planGone_keeps.same .fab (by rfl)
@[simp] theorem State.planGone_p_rl {s : State} {a1} : (State.planGone s a1).rl = s.rl := State.planGone_keeps.same .rl (by rfl)
@[simp] theorem State.planGone_p_pwr {s : State} {a1} : (State.planGone s a1).pwr = s.pwr := State.planGone_keeps.same .pwr (by rfl)
@[simp] theorem State.planGone_p_free {s : State} {a1} : (State.planGone s a1).free = s.free := State.planGone_keeps.same .free (by rfl)
@[simp] theorem State.planGone_p_out {s : State} {a1} : (State.planGone s a1).out = s.out := State.planGone_keeps.same .out (by rfl)
@[simp] theorem State.planGone_f_rws {s : State} {a1} (o : Nat) : (State.planGone s a1).rws o = s.rws o := by unfold State.rws; rw [State.planGone_regs_rws]
@[simp] theorem State.planGone_f_rw {s : State} {a1} (o : Nat) : (State.planGone s a1).rw o = s.rw o := by unfold State.rw; rw [State.planGone_regs_rw]
@[simp] theorem State.planGone_p_variant {s : State} {a1} : (State.planGone s a1).variant = s.variant := State.planGone_keeps.lasting.variant
@[simp] theorem State.planGone_p_ticks {s : State} {a1} : (State.planGone s a1).ticks = s.ticks := State.planGone_keeps.lasting.ticks
@[simp] theorem State.planGone_p_pending {s : State} {a1} : (State.planGone s a1).pending = s.pending := State.planGone_keeps.lasting.pending
@[simp] theorem State.judgeLarge_regs_rws {s : State}  : (State.judgeLarge s).regs.rws = s.regs.rws := State.judgeLarge_keeps.same .rws (by rfl)
@[simp] theorem State.judgeLarge_regs_rw {s : State}  : (State.judgeLarge s).regs.rw = s.regs.rw := State.judgeLarge_keeps.same .rw (by rfl)
@[simp] theorem State.judgeLarge_p_flt {s : State}  : (State.judgeLarge s).flt = s.flt := State.judgeLarge_keeps.same .flt (by rfl)
@[simp] theorem State.judgeLarge_p_hk {s : State}  : (State.judgeLarge s).hk = s.hk := State.judgeLarge_keeps.same .hk (by rfl)
@[simp] theorem State.judgeLarge_p_boot {s : State}  : (State.judgeLarge s).boot = s.boot := State.judgeLarge_keeps.same .boot (by rfl)
@[simp] theorem State.judgeLarge_p_nvm {s : State}  : (State.judgeLarge s).nvm = s.nvm := State.judgeLarge_keeps.same .nvm (by rfl)
@[simp] theorem State.judgeLarge_p_fuses {s : State}  : (State.judgeLarge s).fuses = s.fuses := State.judgeLarge_keeps.same .fuses (by rfl)
@[simp] theorem State.judgeLarge_p_sec {s : State}  : (State.judgeLarge s).sec = s.sec := State.judgeLarge_keeps.same .sec (by rfl)
@[simp] theorem State.judgeLarge_p_cfg {s : State}  : (State.judgeLarge s).cfg = s.cfg := State.judgeLarge_keeps.same .cfg (by rfl)
@[simp] theorem State.judgeLarge_p_tl {s : State}  : (State.judgeLarge s).tl = s.tl := State.judgeLarge_keeps.same .tl (by rfl)
@[simp] theorem State.judgeLarge_p_sc {s : State}  : (State.judgeLarge s).sc = s.sc := State.judgeLarge_keeps.same .sc (by rfl)
@[simp] theorem State.judgeLarge_p_warm {s : State}  : (State.judgeLarge s).warm = s.warm := State.judgeLarge_keeps.same .warm (by rfl)
@[simp] theorem State.judgeLarge_p_ports {s : State}  : (State.judgeLarge s).ports = s.ports := State.judgeLarge_keeps.same .ports (by rfl)
@[simp] theorem State.judgeLarge_p_tiles {s : State}  : (State.judgeLarge s).tiles = s.tiles := State.judgeLarge_keeps.same .tiles (by rfl)
@[simp] theorem State.judgeLarge_p_net {s : State}  : (State.judgeLarge s).net = s.net := State.judgeLarge_keeps.same .net (by rfl)
@[simp] theorem State.judgeLarge_p_host {s : State}  : (State.judgeLarge s).host = s.host := State.judgeLarge_keeps.same .host (by rfl)
@[simp] theorem State.judgeLarge_p_mem {s : State}  : (State.judgeLarge s).mem = s.mem := State.judgeLarge_keeps.same .mem (by rfl)
@[simp] theorem State.judgeLarge_p_fab {s : State}  : (State.judgeLarge s).fab = s.fab := State.judgeLarge_keeps.same .fab (by rfl)
@[simp] theorem State.judgeLarge_p_rl {s : State}  : (State.judgeLarge s).rl = s.rl := State.judgeLarge_keeps.same .rl (by rfl)
@[simp] theorem State.judgeLarge_p_pwr {s : State}  : (State.judgeLarge s).pwr = s.pwr := State.judgeLarge_keeps.same .pwr (by rfl)
@[simp] theorem State.judgeLarge_p_free {s : State}  : (State.judgeLarge s).free = s.free := State.judgeLarge_keeps.same .free (by rfl)
@[simp] theorem State.judgeLarge_p_out {s : State}  : (State.judgeLarge s).out = s.out := State.judgeLarge_keeps.same .out (by rfl)
@[simp] theorem State.judgeLarge_f_rws {s : State}  (o : Nat) : (State.judgeLarge s).rws o = s.rws o := by unfold State.rws; rw [State.judgeLarge_regs_rws]
@[simp] theorem State.judgeLarge_f_rw {s : State}  (o : Nat) : (State.judgeLarge s).rw o = s.rw o := by unfold State.rw; rw [State.judgeLarge_regs_rw]
@[simp] theorem State.judgeLarge_p_variant {s : State}  : (State.judgeLarge s).variant = s.variant := State.judgeLarge_keeps.lasting.variant
@[simp] theorem State.judgeLarge_p_ticks {s : State}  : (State.judgeLarge s).ticks = s.ticks := State.judgeLarge_keeps.lasting.ticks
@[simp] theorem State.judgeLarge_p_pending {s : State}  : (State.judgeLarge s).pending = s.pending := State.judgeLarge_keeps.lasting.pending
@[simp] theorem State.askStep_regs_rws {s : State}  : (State.askStep s).regs.rws = s.regs.rws := State.askStep_keeps.same .rws (by rfl)
@[simp] theorem State.askStep_regs_rw {s : State}  : (State.askStep s).regs.rw = s.regs.rw := State.askStep_keeps.same .rw (by rfl)
@[simp] theorem State.askStep_regs_cnt {s : State}  : (State.askStep s).regs.cnt = s.regs.cnt := (State.askStep_keeps.same .cnt (by rfl)).1
@[simp] theorem State.askStep_p_evt {s : State}  : (State.askStep s).evt = s.evt := State.askStep_keeps.same .evt (by rfl)
@[simp] theorem State.askStep_p_flt {s : State}  : (State.askStep s).flt = s.flt := State.askStep_keeps.same .flt (by rfl)
@[simp] theorem State.askStep_p_hk {s : State}  : (State.askStep s).hk = s.hk := State.askStep_keeps.same .hk (by rfl)
@[simp] theorem State.askStep_p_boot {s : State}  : (State.askStep s).boot = s.boot := State.askStep_keeps.same .boot (by rfl)
@[simp] theorem State.askStep_p_nvm {s : State}  : (State.askStep s).nvm = s.nvm := State.askStep_keeps.same .nvm (by rfl)
@[simp] theorem State.askStep_p_fuses {s : State}  : (State.askStep s).fuses = s.fuses := State.askStep_keeps.same .fuses (by rfl)
@[simp] theorem State.askStep_p_sec {s : State}  : (State.askStep s).sec = s.sec := State.askStep_keeps.same .sec (by rfl)
@[simp] theorem State.askStep_p_cfg {s : State}  : (State.askStep s).cfg = s.cfg := State.askStep_keeps.same .cfg (by rfl)
@[simp] theorem State.askStep_p_tb {s : State}  : (State.askStep s).tb = s.tb := State.askStep_keeps.same .tb (by rfl)
@[simp] theorem State.askStep_p_sc {s : State}  : (State.askStep s).sc = s.sc := State.askStep_keeps.same .sc (by rfl)
@[simp] theorem State.askStep_p_warm {s : State}  : (State.askStep s).warm = s.warm := State.askStep_keeps.same .warm (by rfl)
@[simp] theorem State.askStep_p_ports {s : State}  : (State.askStep s).ports = s.ports := State.askStep_keeps.same .ports (by rfl)
@[simp] theorem State.askStep_p_tiles {s : State}  : (State.askStep s).tiles = s.tiles := State.askStep_keeps.same .tiles (by rfl)
@[simp] theorem State.askStep_p_net {s : State}  : (State.askStep s).net = s.net := State.askStep_keeps.same .net (by rfl)
@[simp] theorem State.askStep_p_host {s : State}  : (State.askStep s).host = s.host := State.askStep_keeps.same .host (by rfl)
@[simp] theorem State.askStep_p_mem {s : State}  : (State.askStep s).mem = s.mem := State.askStep_keeps.same .mem (by rfl)
@[simp] theorem State.askStep_p_fab {s : State}  : (State.askStep s).fab = s.fab := State.askStep_keeps.same .fab (by rfl)
@[simp] theorem State.askStep_p_rl {s : State}  : (State.askStep s).rl = s.rl := State.askStep_keeps.same .rl (by rfl)
@[simp] theorem State.askStep_p_pwr {s : State}  : (State.askStep s).pwr = s.pwr := State.askStep_keeps.same .pwr (by rfl)
@[simp] theorem State.askStep_p_free {s : State}  : (State.askStep s).free = s.free := State.askStep_keeps.same .free (by rfl)
@[simp] theorem State.askStep_p_out {s : State}  : (State.askStep s).out = s.out := State.askStep_keeps.same .out (by rfl)
@[simp] theorem State.askStep_f_rws {s : State}  (o : Nat) : (State.askStep s).rws o = s.rws o := by unfold State.rws; rw [State.askStep_regs_rws]
@[simp] theorem State.askStep_f_rw {s : State}  (o : Nat) : (State.askStep s).rw o = s.rw o := by unfold State.rw; rw [State.askStep_regs_rw]
@[simp] theorem State.askStep_f_cnt {s : State}  (o : Nat) : (State.askStep s).cnt o = s.cnt o := by unfold State.cnt; rw [State.askStep_regs_cnt]
@[simp] theorem State.askStep_p_variant {s : State}  : (State.askStep s).variant = s.variant := State.askStep_keeps.lasting.variant
@[simp] theorem State.askStep_p_ticks {s : State}  : (State.askStep s).ticks = s.ticks := State.askStep_keeps.lasting.ticks
@[simp] theorem State.askStep_p_pending {s : State}  : (State.askStep s).pending = s.pending := State.askStep_keeps.lasting.pending
@[simp] theorem State.firstStep_regs_rws {s : State}  : (State.firstStep s).regs.rws = s.regs.rws := State.firstStep_keeps.same .rws (by rfl)
@[simp] theorem State.firstStep_regs_rw {s : State}  : (State.firstStep s).regs.rw = s.regs.rw := State.firstStep_keeps.same .rw (by rfl)
@[simp] theorem State.firstStep_p_flt {s : State}  : (State.firstStep s).flt = s.flt := State.firstStep_keeps.same .flt (by rfl)
@[simp] theorem State.firstStep_p_hk {s : State}  : (State.firstStep s).hk = s.hk := State.firstStep_keeps.same .hk (by rfl)
@[simp] theorem State.firstStep_p_boot {s : State}  : (State.firstStep s).boot = s.boot := State.firstStep_keeps.same .boot (by rfl)
@[simp] theorem State.firstStep_p_nvm {s : State}  : (State.firstStep s).nvm = s.nvm := State.firstStep_keeps.same .nvm (by rfl)
@[simp] theorem State.firstStep_p_fuses {s : State}  : (State.firstStep s).fuses = s.fuses := State.firstStep_keeps.same .fuses (by rfl)
@[simp] theorem State.firstStep_p_sec {s : State}  : (State.firstStep s).sec = s.sec := State.firstStep_keeps.same .sec (by rfl)
@[simp] theorem State.firstStep_p_cfg {s : State}  : (State.firstStep s).cfg = s.cfg := State.firstStep_keeps.same .cfg (by rfl)
@[simp] theorem State.firstStep_p_warm {s : State}  : (State.firstStep s).warm = s.warm := State.firstStep_keeps.same .warm (by rfl)
@[simp] theorem State.firstStep_p_tiles {s : State}  : (State.firstStep s).tiles = s.tiles := State.firstStep_keeps.same .tiles (by rfl)
@[simp] theorem State.firstStep_p_net {s : State}  : (State.firstStep s).net = s.net := State.firstStep_keeps.same .net (by rfl)
@[simp] theorem State.firstStep_p_host {s : State}  : (State.firstStep s).host = s.host := State.firstStep_keeps.same .host (by rfl)
@[simp] theorem State.firstStep_p_mem {s : State}  : (State.firstStep s).mem = s.mem := State.firstStep_keeps.same .mem (by rfl)
@[simp] theorem State.firstStep_p_fab {s : State}  : (State.firstStep s).fab = s.fab := State.firstStep_keeps.same .fab (by rfl)
@[simp] theorem State.firstStep_p_rl {s : State}  : (State.firstStep s).rl = s.rl := State.firstStep_keeps.same .rl (by rfl)
@[simp] theorem State.firstStep_p_pwr {s : State}  : (State.firstStep s).pwr = s.pwr := State.firstStep_keeps.same .pwr (by rfl)
@[simp] theorem State.firstStep_p_free {s : State}  : (State.firstStep s).free = s.free := State.firstStep_keeps.same .free (by rfl)
@[simp] theorem State.firstStep_p_out {s : State}  : (State.firstStep s).out = s.out := State.firstStep_keeps.same .out (by rfl)
@[simp] theorem State.firstStep_f_rws {s : State}  (o : Nat) : (State.firstStep s).rws o = s.rws o := by unfold State.rws; rw [State.firstStep_regs_rws]
@[simp] theorem State.firstStep_f_rw {s : State}  (o : Nat) : (State.firstStep s).rw o = s.rw o := by unfold State.rw; rw [State.firstStep_regs_rw]
@[simp] theorem State.firstStep_p_variant {s : State}  : (State.firstStep s).variant = s.variant := State.firstStep_keeps.lasting.variant
@[simp] theorem State.firstStep_p_ticks {s : State}  : (State.firstStep s).ticks = s.ticks := State.firstStep_keeps.lasting.ticks
@[simp] theorem State.firstStep_p_pending {s : State}  : (State.firstStep s).pending = s.pending := State.firstStep_keeps.lasting.pending
@[simp] theorem State.select_regs_rws {s : State}  : (State.select s).regs.rws = s.regs.rws := State.select_keeps.same .rws (by rfl)
@[simp] theorem State.select_regs_rw {s : State}  : (State.select s).regs.rw = s.regs.rw := State.select_keeps.same .rw (by rfl)
@[simp] theorem State.select_p_flt {s : State}  : (State.select s).flt = s.flt := State.select_keeps.same .flt (by rfl)
@[simp] theorem State.select_p_hk {s : State}  : (State.select s).hk = s.hk := State.select_keeps.same .hk (by rfl)
@[simp] theorem State.select_p_boot {s : State}  : (State.select s).boot = s.boot := State.select_keeps.same .boot (by rfl)
@[simp] theorem State.select_p_nvm {s : State}  : (State.select s).nvm = s.nvm := State.select_keeps.same .nvm (by rfl)
@[simp] theorem State.select_p_fuses {s : State}  : (State.select s).fuses = s.fuses := State.select_keeps.same .fuses (by rfl)
@[simp] theorem State.select_p_sec {s : State}  : (State.select s).sec = s.sec := State.select_keeps.same .sec (by rfl)
@[simp] theorem State.select_p_cfg {s : State}  : (State.select s).cfg = s.cfg := State.select_keeps.same .cfg (by rfl)
@[simp] theorem State.select_p_warm {s : State}  : (State.select s).warm = s.warm := State.select_keeps.same .warm (by rfl)
@[simp] theorem State.select_p_tiles {s : State}  : (State.select s).tiles = s.tiles := State.select_keeps.same .tiles (by rfl)
@[simp] theorem State.select_p_net {s : State}  : (State.select s).net = s.net := State.select_keeps.same .net (by rfl)
@[simp] theorem State.select_p_host {s : State}  : (State.select s).host = s.host := State.select_keeps.same .host (by rfl)
@[simp] theorem State.select_p_mem {s : State}  : (State.select s).mem = s.mem := State.select_keeps.same .mem (by rfl)
@[simp] theorem State.select_p_fab {s : State}  : (State.select s).fab = s.fab := State.select_keeps.same .fab (by rfl)
@[simp] theorem State.select_p_rl {s : State}  : (State.select s).rl = s.rl := State.select_keeps.same .rl (by rfl)
@[simp] theorem State.select_p_pwr {s : State}  : (State.select s).pwr = s.pwr := State.select_keeps.same .pwr (by rfl)
@[simp] theorem State.select_p_free {s : State}  : (State.select s).free = s.free := State.select_keeps.same .free (by rfl)
@[simp] theorem State.select_p_out {s : State}  : (State.select s).out = s.out := State.select_keeps.same .out (by rfl)
@[simp] theorem State.select_f_rws {s : State}  (o : Nat) : (State.select s).rws o = s.rws o := by unfold State.rws; rw [State.select_regs_rws]
@[simp] theorem State.select_f_rw {s : State}  (o : Nat) : (State.select s).rw o = s.rw o := by unfold State.rw; rw [State.select_regs_rw]
@[simp] theorem State.select_p_variant {s : State}  : (State.select s).variant = s.variant := State.select_keeps.lasting.variant
@[simp] theorem State.select_p_ticks {s : State}  : (State.select s).ticks = s.ticks := State.select_keeps.lasting.ticks
@[simp] theorem State.select_p_pending {s : State}  : (State.select s).pending = s.pending := State.select_keeps.lasting.pending
@[simp] theorem State.discipline_regs_rws {s : State}  : (State.discipline s).regs.rws = s.regs.rws := State.discipline_keeps.same .rws (by rfl)
@[simp] theorem State.discipline_regs_rw {s : State}  : (State.discipline s).regs.rw = s.regs.rw := State.discipline_keeps.same .rw (by rfl)
@[simp] theorem State.discipline_regs_cnt {s : State}  : (State.discipline s).regs.cnt = s.regs.cnt := (State.discipline_keeps.same .cnt (by rfl)).1
@[simp] theorem State.discipline_p_evt {s : State}  : (State.discipline s).evt = s.evt := State.discipline_keeps.same .evt (by rfl)
@[simp] theorem State.discipline_p_flt {s : State}  : (State.discipline s).flt = s.flt := State.discipline_keeps.same .flt (by rfl)
@[simp] theorem State.discipline_p_hk {s : State}  : (State.discipline s).hk = s.hk := State.discipline_keeps.same .hk (by rfl)
@[simp] theorem State.discipline_p_boot {s : State}  : (State.discipline s).boot = s.boot := State.discipline_keeps.same .boot (by rfl)
@[simp] theorem State.discipline_p_nvm {s : State}  : (State.discipline s).nvm = s.nvm := State.discipline_keeps.same .nvm (by rfl)
@[simp] theorem State.discipline_p_fuses {s : State}  : (State.discipline s).fuses = s.fuses := State.discipline_keeps.same .fuses (by rfl)
@[simp] theorem State.discipline_p_sec {s : State}  : (State.discipline s).sec = s.sec := State.discipline_keeps.same .sec (by rfl)
@[simp] theorem State.discipline_p_cfg {s : State}  : (State.discipline s).cfg = s.cfg := State.discipline_keeps.same .cfg (by rfl)
@[simp] theorem State.discipline_p_tl {s : State}  : (State.discipline s).tl = s.tl := State.discipline_keeps.same .tl (by rfl)
@[simp] theorem State.discipline_p_sc {s : State}  : (State.discipline s).sc = s.sc := State.discipline_keeps.same .sc (by rfl)
@[simp] theorem State.discipline_p_warm {s : State}  : (State.discipline s).warm = s.warm := State.discipline_keeps.same .warm (by rfl)
@[simp] theorem State.discipline_p_ports {s : State}  : (State.discipline s).ports = s.ports := State.discipline_keeps.same .ports (by rfl)
@[simp] theorem State.discipline_p_tiles {s : State}  : (State.discipline s).tiles = s.tiles := State.discipline_keeps.same .tiles (by rfl)
@[simp] theorem State.discipline_p_net {s : State}  : (State.discipline s).net = s.net := State.discipline_keeps.same .net (by rfl)
@[simp] theorem State.discipline_p_host {s : State}  : (State.discipline s).host = s.host := State.discipline_keeps.same .host (by rfl)
@[simp] theorem State.discipline_p_mem {s : State}  : (State.discipline s).mem = s.mem := State.discipline_keeps.same .mem (by rfl)
@[simp] theorem State.discipline_p_fab {s : State}  : (State.discipline s).fab = s.fab := State.discipline_keeps.same .fab (by rfl)
@[simp] theorem State.discipline_p_rl {s : State}  : (State.discipline s).rl = s.rl := State.discipline_keeps.same .rl (by rfl)
@[simp] theorem State.discipline_p_pwr {s : State}  : (State.discipline s).pwr = s.pwr := State.discipline_keeps.same .pwr (by rfl)
@[simp] theorem State.discipline_p_free {s : State}  : (State.discipline s).free = s.free := State.discipline_keeps.same .free (by rfl)
@[simp] theorem State.discipline_p_out {s : State}  : (State.discipline s).out = s.out := State.discipline_keeps.same .out (by rfl)
@[simp] theorem State.discipline_f_rws {s : State}  (o : Nat) : (State.discipline s).rws o = s.rws o := by unfold State.rws; rw [State.discipline_regs_rws]
@[simp] theorem State.discipline_f_rw {s : State}  (o : Nat) : (State.discipline s).rw o = s.rw o := by unfold State.rw; rw [State.discipline_regs_rw]
@[simp] theorem State.discipline_f_cnt {s : State}  (o : Nat) : (State.discipline s).cnt o = s.cnt o := by unfold State.cnt; rw [State.discipline_regs_cnt]
@[simp] theorem State.discipline_p_variant {s : State}  : (State.discipline s).variant = s.variant := State.discipline_keeps.lasting.variant
@[simp] theorem State.discipline_p_ticks {s : State}  : (State.discipline s).ticks = s.ticks := State.discipline_keeps.lasting.ticks
@[simp] theorem State.discipline_p_pending {s : State}  : (State.discipline s).pending = s.pending := State.discipline_keeps.lasting.pending
@[simp] theorem State.newOffset_regs_rws {s : State} {a1 a2} : (State.newOffset s a1 a2).regs.rws = s.regs.rws := State.newOffset_keeps.same .rws (by rfl)
@[simp] theorem State.newOffset_regs_rw {s : State} {a1 a2} : (State.newOffset s a1 a2).regs.rw = s.regs.rw := State.newOffset_keeps.same .rw (by rfl)
@[simp] theorem State.newOffset_p_flt {s : State} {a1 a2} : (State.newOffset s a1 a2).flt = s.flt := State.newOffset_keeps.same .flt (by rfl)
@[simp] theorem State.newOffset_p_hk {s : State} {a1 a2} : (State.newOffset s a1 a2).hk = s.hk := State.newOffset_keeps.same .hk (by rfl)
@[simp] theorem State.newOffset_p_boot {s : State} {a1 a2} : (State.newOffset s a1 a2).boot = s.boot := State.newOffset_keeps.same .boot (by rfl)
@[simp] theorem State.newOffset_p_nvm {s : State} {a1 a2} : (State.newOffset s a1 a2).nvm = s.nvm := State.newOffset_keeps.same .nvm (by rfl)
@[simp] theorem State.newOffset_p_fuses {s : State} {a1 a2} : (State.newOffset s a1 a2).fuses = s.fuses := State.newOffset_keeps.same .fuses (by rfl)
@[simp] theorem State.newOffset_p_sec {s : State} {a1 a2} : (State.newOffset s a1 a2).sec = s.sec := State.newOffset_keeps.same .sec (by rfl)
@[simp] theorem State.newOffset_p_cfg {s : State} {a1 a2} : (State.newOffset s a1 a2).cfg = s.cfg := State.newOffset_keeps.same .cfg (by rfl)
@[simp] theorem State.newOffset_p_warm {s : State} {a1 a2} : (State.newOffset s a1 a2).warm = s.warm := State.newOffset_keeps.same .warm (by rfl)
@[simp] theorem State.newOffset_p_tiles {s : State} {a1 a2} : (State.newOffset s a1 a2).tiles = s.tiles := State.newOffset_keeps.same .tiles (by rfl)
@[simp] theorem State.newOffset_p_net {s : State} {a1 a2} : (State.newOffset s a1 a2).net = s.net := State.newOffset_keeps.same .net (by rfl)
@[simp] theorem State.newOffset_p_host {s : State} {a1 a2} : (State.newOffset s a1 a2).host = s.host := State.newOffset_keeps.same .host (by rfl)
@[simp] theorem State.newOffset_p_mem {s : State} {a1 a2} : (State.newOffset s a1 a2).mem = s.mem := State.newOffset_keeps.same .mem (by rfl)
@[simp] theorem State.newOffset_p_fab {s : State} {a1 a2} : (State.newOffset s a1 a2).fab = s.fab := State.newOffset_keeps.same .fab (by rfl)
@[simp] theorem State.newOffset_p_rl {s : State} {a1 a2} : (State.newOffset s a1 a2).rl = s.rl := State.newOffset_keeps.same .rl (by rfl)
@[simp] theorem State.newOffset_p_pwr {s : State} {a1 a2} : (State.newOffset s a1 a2).pwr = s.pwr := State.newOffset_keeps.same .pwr (by rfl)
@[simp] theorem State.newOffset_p_free {s : State} {a1 a2} : (State.newOffset s a1 a2).free = s.free := State.newOffset_keeps.same .free (by rfl)
@[simp] theorem State.newOffset_p_out {s : State} {a1 a2} : (State.newOffset s a1 a2).out = s.out := State.newOffset_keeps.same .out (by rfl)
@[simp] theorem State.newOffset_f_rws {s : State} {a1 a2} (o : Nat) : (State.newOffset s a1 a2).rws o = s.rws o := by unfold State.rws; rw [State.newOffset_regs_rws]
@[simp] theorem State.newOffset_f_rw {s : State} {a1 a2} (o : Nat) : (State.newOffset s a1 a2).rw o = s.rw o := by unfold State.rw; rw [State.newOffset_regs_rw]
@[simp] theorem State.newOffset_p_variant {s : State} {a1 a2} : (State.newOffset s a1 a2).variant = s.variant := State.newOffset_keeps.lasting.variant
@[simp] theorem State.newOffset_p_ticks {s : State} {a1 a2} : (State.newOffset s a1 a2).ticks = s.ticks := State.newOffset_keeps.lasting.ticks
@[simp] theorem State.newOffset_p_pending {s : State} {a1 a2} : (State.newOffset s a1 a2).pending = s.pending := State.newOffset_keeps.lasting.pending
@[simp] theorem State.newRate_regs_rws {s : State} {a1 a2} : (State.newRate s a1 a2).regs.rws = s.regs.rws := State.newRate_keeps.same .rws (by rfl)
@[simp] theorem State.newRate_regs_rw {s : State} {a1 a2} : (State.newRate s a1 a2).regs.rw = s.regs.rw := State.newRate_keeps.same .rw (by rfl)
@[simp] theorem State.newRate_regs_cnt {s : State} {a1 a2} : (State.newRate s a1 a2).regs.cnt = s.regs.cnt := (State.newRate_keeps.same .cnt (by rfl)).1
@[simp] theorem State.newRate_p_evt {s : State} {a1 a2} : (State.newRate s a1 a2).evt = s.evt := State.newRate_keeps.same .evt (by rfl)
@[simp] theorem State.newRate_p_flt {s : State} {a1 a2} : (State.newRate s a1 a2).flt = s.flt := State.newRate_keeps.same .flt (by rfl)
@[simp] theorem State.newRate_p_hk {s : State} {a1 a2} : (State.newRate s a1 a2).hk = s.hk := State.newRate_keeps.same .hk (by rfl)
@[simp] theorem State.newRate_p_boot {s : State} {a1 a2} : (State.newRate s a1 a2).boot = s.boot := State.newRate_keeps.same .boot (by rfl)
@[simp] theorem State.newRate_p_nvm {s : State} {a1 a2} : (State.newRate s a1 a2).nvm = s.nvm := State.newRate_keeps.same .nvm (by rfl)
@[simp] theorem State.newRate_p_fuses {s : State} {a1 a2} : (State.newRate s a1 a2).fuses = s.fuses := State.newRate_keeps.same .fuses (by rfl)
@[simp] theorem State.newRate_p_sec {s : State} {a1 a2} : (State.newRate s a1 a2).sec = s.sec := State.newRate_keeps.same .sec (by rfl)
@[simp] theorem State.newRate_p_cfg {s : State} {a1 a2} : (State.newRate s a1 a2).cfg = s.cfg := State.newRate_keeps.same .cfg (by rfl)
@[simp] theorem State.newRate_p_tl {s : State} {a1 a2} : (State.newRate s a1 a2).tl = s.tl := State.newRate_keeps.same .tl (by rfl)
@[simp] theorem State.newRate_p_sc {s : State} {a1 a2} : (State.newRate s a1 a2).sc = s.sc := State.newRate_keeps.same .sc (by rfl)
@[simp] theorem State.newRate_p_warm {s : State} {a1 a2} : (State.newRate s a1 a2).warm = s.warm := State.newRate_keeps.same .warm (by rfl)
@[simp] theorem State.newRate_p_ports {s : State} {a1 a2} : (State.newRate s a1 a2).ports = s.ports := State.newRate_keeps.same .ports (by rfl)
@[simp] theorem State.newRate_p_tiles {s : State} {a1 a2} : (State.newRate s a1 a2).tiles = s.tiles := State.newRate_keeps.same .tiles (by rfl)
@[simp] theorem State.newRate_p_net {s : State} {a1 a2} : (State.newRate s a1 a2).net = s.net := State.newRate_keeps.same .net (by rfl)
@[simp] theorem State.newRate_p_host {s : State} {a1 a2} : (State.newRate s a1 a2).host = s.host := State.newRate_keeps.same .host (by rfl)
@[simp] theorem State.newRate_p_mem {s : State} {a1 a2} : (State.newRate s a1 a2).mem = s.mem := State.newRate_keeps.same .mem (by rfl)
@[simp] theorem State.newRate_p_fab {s : State} {a1 a2} : (State.newRate s a1 a2).fab = s.fab := State.newRate_keeps.same .fab (by rfl)
@[simp] theorem State.newRate_p_rl {s : State} {a1 a2} : (State.newRate s a1 a2).rl = s.rl := State.newRate_keeps.same .rl (by rfl)
@[simp] theorem State.newRate_p_pwr {s : State} {a1 a2} : (State.newRate s a1 a2).pwr = s.pwr := State.newRate_keeps.same .pwr (by rfl)
@[simp] theorem State.newRate_p_free {s : State} {a1 a2} : (State.newRate s a1 a2).free = s.free := State.newRate_keeps.same .free (by rfl)
@[simp] theorem State.newRate_p_out {s : State} {a1 a2} : (State.newRate s a1 a2).out = s.out := State.newRate_keeps.same .out (by rfl)
@[simp] theorem State.newRate_f_rws {s : State} {a1 a2} (o : Nat) : (State.newRate s a1 a2).rws o = s.rws o := by unfold State.rws; rw [State.newRate_regs_rws]
@[simp] theorem State.newRate_f_rw {s : State} {a1 a2} (o : Nat) : (State.newRate s a1 a2).rw o = s.rw o := by unfold State.rw; rw [State.newRate_regs_rw]
@[simp] theorem State.newRate_f_cnt {s : State} {a1 a2} (o : Nat) : (State.newRate s a1 a2).cnt o = s.cnt o := by unfold State.cnt; rw [State.newRate_regs_cnt]
@[simp] theorem State.newRate_p_variant {s : State} {a1 a2} : (State.newRate s a1 a2).variant = s.variant := State.newRate_keeps.lasting.variant
@[simp] theorem State.newRate_p_ticks {s : State} {a1 a2} : (State.newRate s a1 a2).ticks = s.ticks := State.newRate_keeps.lasting.ticks
@[simp] theorem State.newRate_p_pending {s : State} {a1 a2} : (State.newRate s a1 a2).pending = s.pending := State.newRate_keeps.lasting.pending
@[simp] theorem State.demandStep_regs_rws {s : State}  : (State.demandStep s).regs.rws = s.regs.rws := State.demandStep_keeps.same .rws (by rfl)
@[simp] theorem State.demandStep_regs_rw {s : State}  : (State.demandStep s).regs.rw = s.regs.rw := State.demandStep_keeps.same .rw (by rfl)
@[simp] theorem State.demandStep_p_evt {s : State}  : (State.demandStep s).evt = s.evt := State.demandStep_keeps.same .evt (by rfl)
@[simp] theorem State.demandStep_p_flt {s : State}  : (State.demandStep s).flt = s.flt := State.demandStep_keeps.same .flt (by rfl)
@[simp] theorem State.demandStep_p_hk {s : State}  : (State.demandStep s).hk = s.hk := State.demandStep_keeps.same .hk (by rfl)
@[simp] theorem State.demandStep_p_boot {s : State}  : (State.demandStep s).boot = s.boot := State.demandStep_keeps.same .boot (by rfl)
@[simp] theorem State.demandStep_p_nvm {s : State}  : (State.demandStep s).nvm = s.nvm := State.demandStep_keeps.same .nvm (by rfl)
@[simp] theorem State.demandStep_p_fuses {s : State}  : (State.demandStep s).fuses = s.fuses := State.demandStep_keeps.same .fuses (by rfl)
@[simp] theorem State.demandStep_p_sec {s : State}  : (State.demandStep s).sec = s.sec := State.demandStep_keeps.same .sec (by rfl)
@[simp] theorem State.demandStep_p_cfg {s : State}  : (State.demandStep s).cfg = s.cfg := State.demandStep_keeps.same .cfg (by rfl)
@[simp] theorem State.demandStep_p_tb {s : State}  : (State.demandStep s).tb = s.tb := State.demandStep_keeps.same .tb (by rfl)
@[simp] theorem State.demandStep_p_tl {s : State}  : (State.demandStep s).tl = s.tl := State.demandStep_keeps.same .tl (by rfl)
@[simp] theorem State.demandStep_p_sc {s : State}  : (State.demandStep s).sc = s.sc := State.demandStep_keeps.same .sc (by rfl)
@[simp] theorem State.demandStep_p_warm {s : State}  : (State.demandStep s).warm = s.warm := State.demandStep_keeps.same .warm (by rfl)
@[simp] theorem State.demandStep_p_ports {s : State}  : (State.demandStep s).ports = s.ports := State.demandStep_keeps.same .ports (by rfl)
@[simp] theorem State.demandStep_p_tiles {s : State}  : (State.demandStep s).tiles = s.tiles := State.demandStep_keeps.same .tiles (by rfl)
@[simp] theorem State.demandStep_p_net {s : State}  : (State.demandStep s).net = s.net := State.demandStep_keeps.same .net (by rfl)
@[simp] theorem State.demandStep_p_host {s : State}  : (State.demandStep s).host = s.host := State.demandStep_keeps.same .host (by rfl)
@[simp] theorem State.demandStep_p_fab {s : State}  : (State.demandStep s).fab = s.fab := State.demandStep_keeps.same .fab (by rfl)
@[simp] theorem State.demandStep_p_rl {s : State}  : (State.demandStep s).rl = s.rl := State.demandStep_keeps.same .rl (by rfl)
@[simp] theorem State.demandStep_p_pwr {s : State}  : (State.demandStep s).pwr = s.pwr := State.demandStep_keeps.same .pwr (by rfl)
@[simp] theorem State.demandStep_p_free {s : State}  : (State.demandStep s).free = s.free := State.demandStep_keeps.same .free (by rfl)
@[simp] theorem State.demandStep_p_out {s : State}  : (State.demandStep s).out = s.out := State.demandStep_keeps.same .out (by rfl)
@[simp] theorem State.demandStep_f_rws {s : State}  (o : Nat) : (State.demandStep s).rws o = s.rws o := by unfold State.rws; rw [State.demandStep_regs_rws]
@[simp] theorem State.demandStep_f_rw {s : State}  (o : Nat) : (State.demandStep s).rw o = s.rw o := by unfold State.rw; rw [State.demandStep_regs_rw]
@[simp] theorem State.demandStep_p_variant {s : State}  : (State.demandStep s).variant = s.variant := State.demandStep_keeps.lasting.variant
@[simp] theorem State.demandStep_p_ticks {s : State}  : (State.demandStep s).ticks = s.ticks := State.demandStep_keeps.lasting.ticks
@[simp] theorem State.demandStep_p_pending {s : State}  : (State.demandStep s).pending = s.pending := State.demandStep_keeps.lasting.pending
@[simp] theorem State.updGuard_regs_rws {s : State}  : (State.updGuard s).regs.rws = s.regs.rws := State.updGuard_keeps.same .rws (by rfl)
@[simp] theorem State.updGuard_regs_rw {s : State}  : (State.updGuard s).regs.rw = s.regs.rw := State.updGuard_keeps.same .rw (by rfl)
@[simp] theorem State.updGuard_regs_cnt {s : State}  : (State.updGuard s).regs.cnt = s.regs.cnt := (State.updGuard_keeps.same .cnt (by rfl)).1
@[simp] theorem State.updGuard_p_evt {s : State}  : (State.updGuard s).evt = s.evt := State.updGuard_keeps.same .evt (by rfl)
@[simp] theorem State.updGuard_p_flt {s : State}  : (State.updGuard s).flt = s.flt := State.updGuard_keeps.same .flt (by rfl)
@[simp] theorem State.updGuard_p_hk {s : State}  : (State.updGuard s).hk = s.hk := State.updGuard_keeps.same .hk (by rfl)
@[simp] theorem State.updGuard_p_boot {s : State}  : (State.updGuard s).boot = s.boot := State.updGuard_keeps.same .boot (by rfl)
@[simp] theorem State.updGuard_p_nvm {s : State}  : (State.updGuard s).nvm = s.nvm := State.updGuard_keeps.same .nvm (by rfl)
@[simp] theorem State.updGuard_p_fuses {s : State}  : (State.updGuard s).fuses = s.fuses := State.updGuard_keeps.same .fuses (by rfl)
@[simp] theorem State.updGuard_p_sec {s : State}  : (State.updGuard s).sec = s.sec := State.updGuard_keeps.same .sec (by rfl)
@[simp] theorem State.updGuard_p_cfg {s : State}  : (State.updGuard s).cfg = s.cfg := State.updGuard_keeps.same .cfg (by rfl)
@[simp] theorem State.updGuard_p_tb {s : State}  : (State.updGuard s).tb = s.tb := State.updGuard_keeps.same .tb (by rfl)
@[simp] theorem State.updGuard_p_tl {s : State}  : (State.updGuard s).tl = s.tl := State.updGuard_keeps.same .tl (by rfl)
@[simp] theorem State.updGuard_p_sc {s : State}  : (State.updGuard s).sc = s.sc := State.updGuard_keeps.same .sc (by rfl)
@[simp] theorem State.updGuard_p_warm {s : State}  : (State.updGuard s).warm = s.warm := State.updGuard_keeps.same .warm (by rfl)
@[simp] theorem State.updGuard_p_ports {s : State}  : (State.updGuard s).ports = s.ports := State.updGuard_keeps.same .ports (by rfl)
@[simp] theorem State.updGuard_p_tiles {s : State}  : (State.updGuard s).tiles = s.tiles := State.updGuard_keeps.same .tiles (by rfl)
@[simp] theorem State.updGuard_p_net {s : State}  : (State.updGuard s).net = s.net := State.updGuard_keeps.same .net (by rfl)
@[simp] theorem State.updGuard_p_host {s : State}  : (State.updGuard s).host = s.host := State.updGuard_keeps.same .host (by rfl)
@[simp] theorem State.updGuard_p_mem {s : State}  : (State.updGuard s).mem = s.mem := State.updGuard_keeps.same .mem (by rfl)
@[simp] theorem State.updGuard_p_rl {s : State}  : (State.updGuard s).rl = s.rl := State.updGuard_keeps.same .rl (by rfl)
@[simp] theorem State.updGuard_p_pwr {s : State}  : (State.updGuard s).pwr = s.pwr := State.updGuard_keeps.same .pwr (by rfl)
@[simp] theorem State.updGuard_p_free {s : State}  : (State.updGuard s).free = s.free := State.updGuard_keeps.same .free (by rfl)
@[simp] theorem State.updGuard_p_out {s : State}  : (State.updGuard s).out = s.out := State.updGuard_keeps.same .out (by rfl)
@[simp] theorem State.updGuard_f_rws {s : State}  (o : Nat) : (State.updGuard s).rws o = s.rws o := by unfold State.rws; rw [State.updGuard_regs_rws]
@[simp] theorem State.updGuard_f_rw {s : State}  (o : Nat) : (State.updGuard s).rw o = s.rw o := by unfold State.rw; rw [State.updGuard_regs_rw]
@[simp] theorem State.updGuard_f_cnt {s : State}  (o : Nat) : (State.updGuard s).cnt o = s.cnt o := by unfold State.cnt; rw [State.updGuard_regs_cnt]
@[simp] theorem State.updGuard_p_variant {s : State}  : (State.updGuard s).variant = s.variant := State.updGuard_keeps.lasting.variant
@[simp] theorem State.updGuard_p_ticks {s : State}  : (State.updGuard s).ticks = s.ticks := State.updGuard_keeps.lasting.ticks
@[simp] theorem State.updGuard_p_pending {s : State}  : (State.updGuard s).pending = s.pending := State.updGuard_keeps.lasting.pending
@[simp] theorem State.relayCue_regs_rws {s : State} {a1 a2 a3 a4 a5 a6} : (State.relayCue s a1 a2 a3 a4 a5 a6).regs.rws = s.regs.rws := State.relayCue_keeps.same .rws (by rfl)
@[simp] theorem State.relayCue_regs_rw {s : State} {a1 a2 a3 a4 a5 a6} : (State.relayCue s a1 a2 a3 a4 a5 a6).regs.rw = s.regs.rw := State.relayCue_keeps.same .rw (by rfl)
@[simp] theorem State.relayCue_regs_cnt {s : State} {a1 a2 a3 a4 a5 a6} : (State.relayCue s a1 a2 a3 a4 a5 a6).regs.cnt = s.regs.cnt := (State.relayCue_keeps.same .cnt (by rfl)).1
@[simp] theorem State.relayCue_p_evt {s : State} {a1 a2 a3 a4 a5 a6} : (State.relayCue s a1 a2 a3 a4 a5 a6).evt = s.evt := State.relayCue_keeps.same .evt (by rfl)
@[simp] theorem State.relayCue_p_flt {s : State} {a1 a2 a3 a4 a5 a6} : (State.relayCue s a1 a2 a3 a4 a5 a6).flt = s.flt := State.relayCue_keeps.same .flt (by rfl)
@[simp] theorem State.relayCue_p_hk {s : State} {a1 a2 a3 a4 a5 a6} : (State.relayCue s a1 a2 a3 a4 a5 a6).hk = s.hk := State.relayCue_keeps.same .hk (by rfl)
@[simp] theorem State.relayCue_p_boot {s : State} {a1 a2 a3 a4 a5 a6} : (State.relayCue s a1 a2 a3 a4 a5 a6).boot = s.boot := State.relayCue_keeps.same .boot (by rfl)
@[simp] theorem State.relayCue_p_nvm {s : State} {a1 a2 a3 a4 a5 a6} : (State.relayCue s a1 a2 a3 a4 a5 a6).nvm = s.nvm := State.relayCue_keeps.same .nvm (by rfl)
@[simp] theorem State.relayCue_p_fuses {s : State} {a1 a2 a3 a4 a5 a6} : (State.relayCue s a1 a2 a3 a4 a5 a6).fuses = s.fuses := State.relayCue_keeps.same .fuses (by rfl)
@[simp] theorem State.relayCue_p_sec {s : State} {a1 a2 a3 a4 a5 a6} : (State.relayCue s a1 a2 a3 a4 a5 a6).sec = s.sec := State.relayCue_keeps.same .sec (by rfl)
@[simp] theorem State.relayCue_p_cfg {s : State} {a1 a2 a3 a4 a5 a6} : (State.relayCue s a1 a2 a3 a4 a5 a6).cfg = s.cfg := State.relayCue_keeps.same .cfg (by rfl)
@[simp] theorem State.relayCue_p_tb {s : State} {a1 a2 a3 a4 a5 a6} : (State.relayCue s a1 a2 a3 a4 a5 a6).tb = s.tb := State.relayCue_keeps.same .tb (by rfl)
@[simp] theorem State.relayCue_p_tl {s : State} {a1 a2 a3 a4 a5 a6} : (State.relayCue s a1 a2 a3 a4 a5 a6).tl = s.tl := State.relayCue_keeps.same .tl (by rfl)
@[simp] theorem State.relayCue_p_sc {s : State} {a1 a2 a3 a4 a5 a6} : (State.relayCue s a1 a2 a3 a4 a5 a6).sc = s.sc := State.relayCue_keeps.same .sc (by rfl)
@[simp] theorem State.relayCue_p_warm {s : State} {a1 a2 a3 a4 a5 a6} : (State.relayCue s a1 a2 a3 a4 a5 a6).warm = s.warm := State.relayCue_keeps.same .warm (by rfl)
@[simp] theorem State.relayCue_p_ports {s : State} {a1 a2 a3 a4 a5 a6} : (State.relayCue s a1 a2 a3 a4 a5 a6).ports = s.ports := State.relayCue_keeps.same .ports (by rfl)
@[simp] theorem State.relayCue_p_tiles {s : State} {a1 a2 a3 a4 a5 a6} : (State.relayCue s a1 a2 a3 a4 a5 a6).tiles = s.tiles := State.relayCue_keeps.same .tiles (by rfl)
@[simp] theorem State.relayCue_p_net {s : State} {a1 a2 a3 a4 a5 a6} : (State.relayCue s a1 a2 a3 a4 a5 a6).net = s.net := State.relayCue_keeps.same .net (by rfl)
@[simp] theorem State.relayCue_p_host {s : State} {a1 a2 a3 a4 a5 a6} : (State.relayCue s a1 a2 a3 a4 a5 a6).host = s.host := State.relayCue_keeps.same .host (by rfl)
@[simp] theorem State.relayCue_p_mem {s : State} {a1 a2 a3 a4 a5 a6} : (State.relayCue s a1 a2 a3 a4 a5 a6).mem = s.mem := State.relayCue_keeps.same .mem (by rfl)
@[simp] theorem State.relayCue_p_fab {s : State} {a1 a2 a3 a4 a5 a6} : (State.relayCue s a1 a2 a3 a4 a5 a6).fab = s.fab := State.relayCue_keeps.same .fab (by rfl)
@[simp] theorem State.relayCue_p_pwr {s : State} {a1 a2 a3 a4 a5 a6} : (State.relayCue s a1 a2 a3 a4 a5 a6).pwr = s.pwr := State.relayCue_keeps.same .pwr (by rfl)
@[simp] theorem State.relayCue_p_free {s : State} {a1 a2 a3 a4 a5 a6} : (State.relayCue s a1 a2 a3 a4 a5 a6).free = s.free := State.relayCue_keeps.same .free (by rfl)
@[simp] theorem State.relayCue_f_rws {s : State} {a1 a2 a3 a4 a5 a6} (o : Nat) : (State.relayCue s a1 a2 a3 a4 a5 a6).rws o = s.rws o := by unfold State.rws; rw [State.relayCue_regs_rws]
@[simp] theorem State.relayCue_f_rw {s : State} {a1 a2 a3 a4 a5 a6} (o : Nat) : (State.relayCue s a1 a2 a3 a4 a5 a6).rw o = s.rw o := by unfold State.rw; rw [State.relayCue_regs_rw]
@[simp] theorem State.relayCue_f_cnt {s : State} {a1 a2 a3 a4 a5 a6} (o : Nat) : (State.relayCue s a1 a2 a3 a4 a5 a6).cnt o = s.cnt o := by unfold State.cnt; rw [State.relayCue_regs_cnt]
@[simp] theorem State.relayCue_p_variant {s : State} {a1 a2 a3 a4 a5 a6} : (State.relayCue s a1 a2 a3 a4 a5 a6).variant = s.variant := State.relayCue_keeps.lasting.variant
@[simp] theorem State.relayCue_p_ticks {s : State} {a1 a2 a3 a4 a5 a6} : (State.relayCue s a1 a2 a3 a4 a5 a6).ticks = s.ticks := State.relayCue_keeps.lasting.ticks
@[simp] theorem State.relayCue_p_pending {s : State} {a1 a2 a3 a4 a5 a6} : (State.relayCue s a1 a2 a3 a4 a5 a6).pending = s.pending := State.relayCue_keeps.lasting.pending
@[simp] theorem State.refuseCue_regs_rws {s : State} {a1 a2} : (State.refuseCue s a1 a2).regs.rws = s.regs.rws := State.refuseCue_keeps.same .rws (by rfl)
@[simp] theorem State.refuseCue_regs_rw {s : State} {a1 a2} : (State.refuseCue s a1 a2).regs.rw = s.regs.rw := State.refuseCue_keeps.same .rw (by rfl)
@[simp] theorem State.refuseCue_p_flt {s : State} {a1 a2} : (State.refuseCue s a1 a2).flt = s.flt := State.refuseCue_keeps.same .flt (by rfl)
@[simp] theorem State.refuseCue_p_hk {s : State} {a1 a2} : (State.refuseCue s a1 a2).hk = s.hk := State.refuseCue_keeps.same .hk (by rfl)
@[simp] theorem State.refuseCue_p_boot {s : State} {a1 a2} : (State.refuseCue s a1 a2).boot = s.boot := State.refuseCue_keeps.same .boot (by rfl)
@[simp] theorem State.refuseCue_p_nvm {s : State} {a1 a2} : (State.refuseCue s a1 a2).nvm = s.nvm := State.refuseCue_keeps.same .nvm (by rfl)
@[simp] theorem State.refuseCue_p_fuses {s : State} {a1 a2} : (State.refuseCue s a1 a2).fuses = s.fuses := State.refuseCue_keeps.same .fuses (by rfl)
@[simp] theorem State.refuseCue_p_sec {s : State} {a1 a2} : (State.refuseCue s a1 a2).sec = s.sec := State.refuseCue_keeps.same .sec (by rfl)
@[simp] theorem State.refuseCue_p_cfg {s : State} {a1 a2} : (State.refuseCue s a1 a2).cfg = s.cfg := State.refuseCue_keeps.same .cfg (by rfl)
@[simp] theorem State.refuseCue_p_tb {s : State} {a1 a2} : (State.refuseCue s a1 a2).tb = s.tb := State.refuseCue_keeps.same .tb (by rfl)
@[simp] theorem State.refuseCue_p_tl {s : State} {a1 a2} : (State.refuseCue s a1 a2).tl = s.tl := State.refuseCue_keeps.same .tl (by rfl)
@[simp] theorem State.refuseCue_p_warm {s : State} {a1 a2} : (State.refuseCue s a1 a2).warm = s.warm := State.refuseCue_keeps.same .warm (by rfl)
@[simp] theorem State.refuseCue_p_ports {s : State} {a1 a2} : (State.refuseCue s a1 a2).ports = s.ports := State.refuseCue_keeps.same .ports (by rfl)
@[simp] theorem State.refuseCue_p_tiles {s : State} {a1 a2} : (State.refuseCue s a1 a2).tiles = s.tiles := State.refuseCue_keeps.same .tiles (by rfl)
@[simp] theorem State.refuseCue_p_net {s : State} {a1 a2} : (State.refuseCue s a1 a2).net = s.net := State.refuseCue_keeps.same .net (by rfl)
@[simp] theorem State.refuseCue_p_host {s : State} {a1 a2} : (State.refuseCue s a1 a2).host = s.host := State.refuseCue_keeps.same .host (by rfl)
@[simp] theorem State.refuseCue_p_mem {s : State} {a1 a2} : (State.refuseCue s a1 a2).mem = s.mem := State.refuseCue_keeps.same .mem (by rfl)
@[simp] theorem State.refuseCue_p_fab {s : State} {a1 a2} : (State.refuseCue s a1 a2).fab = s.fab := State.refuseCue_keeps.same .fab (by rfl)
@[simp] theorem State.refuseCue_p_rl {s : State} {a1 a2} : (State.refuseCue s a1 a2).rl = s.rl := State.refuseCue_keeps.same .rl (by rfl)
@[simp] theorem State.refuseCue_p_pwr {s : State} {a1 a2} : (State.refuseCue s a1 a2).pwr = s.pwr := State.refuseCue_keeps.same .pwr (by rfl)
@[simp] theorem State.refuseCue_p_free {s : State} {a1 a2} : (State.refuseCue s a1 a2).free = s.free := State.refuseCue_keeps.same .free (by rfl)
@[simp] theorem State.refuseCue_p_out {s : State} {a1 a2} : (State.refuseCue s a1 a2).out = s.out := State.refuseCue_keeps.same .out (by rfl)
@[simp] theorem State.refuseCue_f_rws {s : State} {a1 a2} (o : Nat) : (State.refuseCue s a1 a2).rws o = s.rws o := by unfold State.rws; rw [State.refuseCue_regs_rws]
@[simp] theorem State.refuseCue_f_rw {s : State} {a1 a2} (o : Nat) : (State.refuseCue s a1 a2).rw o = s.rw o := by unfold State.rw; rw [State.refuseCue_regs_rw]
@[simp] theorem State.refuseCue_p_variant {s : State} {a1 a2} : (State.refuseCue s a1 a2).variant = s.variant := State.refuseCue_keeps.lasting.variant
@[simp] theorem State.refuseCue_p_ticks {s : State} {a1 a2} : (State.refuseCue s a1 a2).ticks = s.ticks := State.refuseCue_keeps.lasting.ticks
@[simp] theorem State.refuseCue_p_pending {s : State} {a1 a2} : (State.refuseCue s a1 a2).pending = s.pending := State.refuseCue_keeps.lasting.pending
@[simp] theorem State.refusePlan_regs_rws {s : State} {a1 a2} : (State.refusePlan s a1 a2).regs.rws = s.regs.rws := State.refusePlan_keeps.same .rws (by rfl)
@[simp] theorem State.refusePlan_regs_rw {s : State} {a1 a2} : (State.refusePlan s a1 a2).regs.rw = s.regs.rw := State.refusePlan_keeps.same .rw (by rfl)
@[simp] theorem State.refusePlan_p_flt {s : State} {a1 a2} : (State.refusePlan s a1 a2).flt = s.flt := State.refusePlan_keeps.same .flt (by rfl)
@[simp] theorem State.refusePlan_p_hk {s : State} {a1 a2} : (State.refusePlan s a1 a2).hk = s.hk := State.refusePlan_keeps.same .hk (by rfl)
@[simp] theorem State.refusePlan_p_boot {s : State} {a1 a2} : (State.refusePlan s a1 a2).boot = s.boot := State.refusePlan_keeps.same .boot (by rfl)
@[simp] theorem State.refusePlan_p_nvm {s : State} {a1 a2} : (State.refusePlan s a1 a2).nvm = s.nvm := State.refusePlan_keeps.same .nvm (by rfl)
@[simp] theorem State.refusePlan_p_fuses {s : State} {a1 a2} : (State.refusePlan s a1 a2).fuses = s.fuses := State.refusePlan_keeps.same .fuses (by rfl)
@[simp] theorem State.refusePlan_p_sec {s : State} {a1 a2} : (State.refusePlan s a1 a2).sec = s.sec := State.refusePlan_keeps.same .sec (by rfl)
@[simp] theorem State.refusePlan_p_cfg {s : State} {a1 a2} : (State.refusePlan s a1 a2).cfg = s.cfg := State.refusePlan_keeps.same .cfg (by rfl)
@[simp] theorem State.refusePlan_p_tb {s : State} {a1 a2} : (State.refusePlan s a1 a2).tb = s.tb := State.refusePlan_keeps.same .tb (by rfl)
@[simp] theorem State.refusePlan_p_sc {s : State} {a1 a2} : (State.refusePlan s a1 a2).sc = s.sc := State.refusePlan_keeps.same .sc (by rfl)
@[simp] theorem State.refusePlan_p_warm {s : State} {a1 a2} : (State.refusePlan s a1 a2).warm = s.warm := State.refusePlan_keeps.same .warm (by rfl)
@[simp] theorem State.refusePlan_p_ports {s : State} {a1 a2} : (State.refusePlan s a1 a2).ports = s.ports := State.refusePlan_keeps.same .ports (by rfl)
@[simp] theorem State.refusePlan_p_tiles {s : State} {a1 a2} : (State.refusePlan s a1 a2).tiles = s.tiles := State.refusePlan_keeps.same .tiles (by rfl)
@[simp] theorem State.refusePlan_p_net {s : State} {a1 a2} : (State.refusePlan s a1 a2).net = s.net := State.refusePlan_keeps.same .net (by rfl)
@[simp] theorem State.refusePlan_p_host {s : State} {a1 a2} : (State.refusePlan s a1 a2).host = s.host := State.refusePlan_keeps.same .host (by rfl)
@[simp] theorem State.refusePlan_p_mem {s : State} {a1 a2} : (State.refusePlan s a1 a2).mem = s.mem := State.refusePlan_keeps.same .mem (by rfl)
@[simp] theorem State.refusePlan_p_fab {s : State} {a1 a2} : (State.refusePlan s a1 a2).fab = s.fab := State.refusePlan_keeps.same .fab (by rfl)
@[simp] theorem State.refusePlan_p_rl {s : State} {a1 a2} : (State.refusePlan s a1 a2).rl = s.rl := State.refusePlan_keeps.same .rl (by rfl)
@[simp] theorem State.refusePlan_p_pwr {s : State} {a1 a2} : (State.refusePlan s a1 a2).pwr = s.pwr := State.refusePlan_keeps.same .pwr (by rfl)
@[simp] theorem State.refusePlan_p_free {s : State} {a1 a2} : (State.refusePlan s a1 a2).free = s.free := State.refusePlan_keeps.same .free (by rfl)
@[simp] theorem State.refusePlan_p_out {s : State} {a1 a2} : (State.refusePlan s a1 a2).out = s.out := State.refusePlan_keeps.same .out (by rfl)
@[simp] theorem State.refusePlan_f_rws {s : State} {a1 a2} (o : Nat) : (State.refusePlan s a1 a2).rws o = s.rws o := by unfold State.rws; rw [State.refusePlan_regs_rws]
@[simp] theorem State.refusePlan_f_rw {s : State} {a1 a2} (o : Nat) : (State.refusePlan s a1 a2).rw o = s.rw o := by unfold State.rw; rw [State.refusePlan_regs_rw]
@[simp] theorem State.refusePlan_p_variant {s : State} {a1 a2} : (State.refusePlan s a1 a2).variant = s.variant := State.refusePlan_keeps.lasting.variant
@[simp] theorem State.refusePlan_p_ticks {s : State} {a1 a2} : (State.refusePlan s a1 a2).ticks = s.ticks := State.refusePlan_keeps.lasting.ticks
@[simp] theorem State.refusePlan_p_pending {s : State} {a1 a2} : (State.refusePlan s a1 a2).pending = s.pending := State.refusePlan_keeps.lasting.pending
@[simp] theorem State.placePlan_regs_rws {s : State} {a1 a2} : (State.placePlan s a1 a2).regs.rws = s.regs.rws := State.placePlan_keeps.same .rws (by rfl)
@[simp] theorem State.placePlan_regs_rw {s : State} {a1 a2} : (State.placePlan s a1 a2).regs.rw = s.regs.rw := State.placePlan_keeps.same .rw (by rfl)
@[simp] theorem State.placePlan_regs_cnt {s : State} {a1 a2} : (State.placePlan s a1 a2).regs.cnt = s.regs.cnt := (State.placePlan_keeps.same .cnt (by rfl)).1
@[simp] theorem State.placePlan_p_evt {s : State} {a1 a2} : (State.placePlan s a1 a2).evt = s.evt := State.placePlan_keeps.same .evt (by rfl)
@[simp] theorem State.placePlan_p_flt {s : State} {a1 a2} : (State.placePlan s a1 a2).flt = s.flt := State.placePlan_keeps.same .flt (by rfl)
@[simp] theorem State.placePlan_p_hk {s : State} {a1 a2} : (State.placePlan s a1 a2).hk = s.hk := State.placePlan_keeps.same .hk (by rfl)
@[simp] theorem State.placePlan_p_boot {s : State} {a1 a2} : (State.placePlan s a1 a2).boot = s.boot := State.placePlan_keeps.same .boot (by rfl)
@[simp] theorem State.placePlan_p_nvm {s : State} {a1 a2} : (State.placePlan s a1 a2).nvm = s.nvm := State.placePlan_keeps.same .nvm (by rfl)
@[simp] theorem State.placePlan_p_fuses {s : State} {a1 a2} : (State.placePlan s a1 a2).fuses = s.fuses := State.placePlan_keeps.same .fuses (by rfl)
@[simp] theorem State.placePlan_p_sec {s : State} {a1 a2} : (State.placePlan s a1 a2).sec = s.sec := State.placePlan_keeps.same .sec (by rfl)
@[simp] theorem State.placePlan_p_cfg {s : State} {a1 a2} : (State.placePlan s a1 a2).cfg = s.cfg := State.placePlan_keeps.same .cfg (by rfl)
@[simp] theorem State.placePlan_p_tb {s : State} {a1 a2} : (State.placePlan s a1 a2).tb = s.tb := State.placePlan_keeps.same .tb (by rfl)
@[simp] theorem State.placePlan_p_sc {s : State} {a1 a2} : (State.placePlan s a1 a2).sc = s.sc := State.placePlan_keeps.same .sc (by rfl)
@[simp] theorem State.placePlan_p_warm {s : State} {a1 a2} : (State.placePlan s a1 a2).warm = s.warm := State.placePlan_keeps.same .warm (by rfl)
@[simp] theorem State.placePlan_p_ports {s : State} {a1 a2} : (State.placePlan s a1 a2).ports = s.ports := State.placePlan_keeps.same .ports (by rfl)
@[simp] theorem State.placePlan_p_tiles {s : State} {a1 a2} : (State.placePlan s a1 a2).tiles = s.tiles := State.placePlan_keeps.same .tiles (by rfl)
@[simp] theorem State.placePlan_p_net {s : State} {a1 a2} : (State.placePlan s a1 a2).net = s.net := State.placePlan_keeps.same .net (by rfl)
@[simp] theorem State.placePlan_p_host {s : State} {a1 a2} : (State.placePlan s a1 a2).host = s.host := State.placePlan_keeps.same .host (by rfl)
@[simp] theorem State.placePlan_p_mem {s : State} {a1 a2} : (State.placePlan s a1 a2).mem = s.mem := State.placePlan_keeps.same .mem (by rfl)
@[simp] theorem State.placePlan_p_fab {s : State} {a1 a2} : (State.placePlan s a1 a2).fab = s.fab := State.placePlan_keeps.same .fab (by rfl)
@[simp] theorem State.placePlan_p_rl {s : State} {a1 a2} : (State.placePlan s a1 a2).rl = s.rl := State.placePlan_keeps.same .rl (by rfl)
@[simp] theorem State.placePlan_p_pwr {s : State} {a1 a2} : (State.placePlan s a1 a2).pwr = s.pwr := State.placePlan_keeps.same .pwr (by rfl)
@[simp] theorem State.placePlan_p_free {s : State} {a1 a2} : (State.placePlan s a1 a2).free = s.free := State.placePlan_keeps.same .free (by rfl)
@[simp] theorem State.placePlan_p_out {s : State} {a1 a2} : (State.placePlan s a1 a2).out = s.out := State.placePlan_keeps.same .out (by rfl)
@[simp] theorem State.placePlan_f_rws {s : State} {a1 a2} (o : Nat) : (State.placePlan s a1 a2).rws o = s.rws o := by unfold State.rws; rw [State.placePlan_regs_rws]
@[simp] theorem State.placePlan_f_rw {s : State} {a1 a2} (o : Nat) : (State.placePlan s a1 a2).rw o = s.rw o := by unfold State.rw; rw [State.placePlan_regs_rw]
@[simp] theorem State.placePlan_f_cnt {s : State} {a1 a2} (o : Nat) : (State.placePlan s a1 a2).cnt o = s.cnt o := by unfold State.cnt; rw [State.placePlan_regs_cnt]
@[simp] theorem State.placePlan_p_variant {s : State} {a1 a2} : (State.placePlan s a1 a2).variant = s.variant := State.placePlan_keeps.lasting.variant
@[simp] theorem State.placePlan_p_ticks {s : State} {a1 a2} : (State.placePlan s a1 a2).ticks = s.ticks := State.placePlan_keeps.lasting.ticks
@[simp] theorem State.placePlan_p_pending {s : State} {a1 a2} : (State.placePlan s a1 a2).pending = s.pending := State.placePlan_keeps.lasting.pending
@[simp] theorem State.relaySend_regs_rws {s : State} {a1 a2} : (State.relaySend s a1 a2).regs.rws = s.regs.rws := State.relaySend_keeps.same .rws (by rfl)
@[simp] theorem State.relaySend_regs_rw {s : State} {a1 a2} : (State.relaySend s a1 a2).regs.rw = s.regs.rw := State.relaySend_keeps.same .rw (by rfl)
@[simp] theorem State.relaySend_regs_cnt {s : State} {a1 a2} : (State.relaySend s a1 a2).regs.cnt = s.regs.cnt := (State.relaySend_keeps.same .cnt (by rfl)).1
@[simp] theorem State.relaySend_p_evt {s : State} {a1 a2} : (State.relaySend s a1 a2).evt = s.evt := State.relaySend_keeps.same .evt (by rfl)
@[simp] theorem State.relaySend_p_flt {s : State} {a1 a2} : (State.relaySend s a1 a2).flt = s.flt := State.relaySend_keeps.same .flt (by rfl)
@[simp] theorem State.relaySend_p_hk {s : State} {a1 a2} : (State.relaySend s a1 a2).hk = s.hk := State.relaySend_keeps.same .hk (by rfl)
@[simp] theorem State.relaySend_p_boot {s : State} {a1 a2} : (State.relaySend s a1 a2).boot = s.boot := State.relaySend_keeps.same .boot (by rfl)
@[simp] theorem State.relaySend_p_nvm {s : State} {a1 a2} : (State.relaySend s a1 a2).nvm = s.nvm := State.relaySend_keeps.same .nvm (by rfl)
@[simp] theorem State.relaySend_p_fuses {s : State} {a1 a2} : (State.relaySend s a1 a2).fuses = s.fuses := State.relaySend_keeps.same .fuses (by rfl)
@[simp] theorem State.relaySend_p_sec {s : State} {a1 a2} : (State.relaySend s a1 a2).sec = s.sec := State.relaySend_keeps.same .sec (by rfl)
@[simp] theorem State.relaySend_p_cfg {s : State} {a1 a2} : (State.relaySend s a1 a2).cfg = s.cfg := State.relaySend_keeps.same .cfg (by rfl)
@[simp] theorem State.relaySend_p_tb {s : State} {a1 a2} : (State.relaySend s a1 a2).tb = s.tb := State.relaySend_keeps.same .tb (by rfl)
@[simp] theorem State.relaySend_p_tl {s : State} {a1 a2} : (State.relaySend s a1 a2).tl = s.tl := State.relaySend_keeps.same .tl (by rfl)
@[simp] theorem State.relaySend_p_sc {s : State} {a1 a2} : (State.relaySend s a1 a2).sc = s.sc := State.relaySend_keeps.same .sc (by rfl)
@[simp] theorem State.relaySend_p_warm {s : State} {a1 a2} : (State.relaySend s a1 a2).warm = s.warm := State.relaySend_keeps.same .warm (by rfl)
@[simp] theorem State.relaySend_p_ports {s : State} {a1 a2} : (State.relaySend s a1 a2).ports = s.ports := State.relaySend_keeps.same .ports (by rfl)
@[simp] theorem State.relaySend_p_tiles {s : State} {a1 a2} : (State.relaySend s a1 a2).tiles = s.tiles := State.relaySend_keeps.same .tiles (by rfl)
@[simp] theorem State.relaySend_p_net {s : State} {a1 a2} : (State.relaySend s a1 a2).net = s.net := State.relaySend_keeps.same .net (by rfl)
@[simp] theorem State.relaySend_p_host {s : State} {a1 a2} : (State.relaySend s a1 a2).host = s.host := State.relaySend_keeps.same .host (by rfl)
@[simp] theorem State.relaySend_p_mem {s : State} {a1 a2} : (State.relaySend s a1 a2).mem = s.mem := State.relaySend_keeps.same .mem (by rfl)
@[simp] theorem State.relaySend_p_fab {s : State} {a1 a2} : (State.relaySend s a1 a2).fab = s.fab := State.relaySend_keeps.same .fab (by rfl)
@[simp] theorem State.relaySend_p_pwr {s : State} {a1 a2} : (State.relaySend s a1 a2).pwr = s.pwr := State.relaySend_keeps.same .pwr (by rfl)
@[simp] theorem State.relaySend_p_free {s : State} {a1 a2} : (State.relaySend s a1 a2).free = s.free := State.relaySend_keeps.same .free (by rfl)
@[simp] theorem State.relaySend_f_rws {s : State} {a1 a2} (o : Nat) : (State.relaySend s a1 a2).rws o = s.rws o := by unfold State.rws; rw [State.relaySend_regs_rws]
@[simp] theorem State.relaySend_f_rw {s : State} {a1 a2} (o : Nat) : (State.relaySend s a1 a2).rw o = s.rw o := by unfold State.rw; rw [State.relaySend_regs_rw]
@[simp] theorem State.relaySend_f_cnt {s : State} {a1 a2} (o : Nat) : (State.relaySend s a1 a2).cnt o = s.cnt o := by unfold State.cnt; rw [State.relaySend_regs_cnt]
@[simp] theorem State.relaySend_p_variant {s : State} {a1 a2} : (State.relaySend s a1 a2).variant = s.variant := State.relaySend_keeps.lasting.variant
@[simp] theorem State.relaySend_p_ticks {s : State} {a1 a2} : (State.relaySend s a1 a2).ticks = s.ticks := State.relaySend_keeps.lasting.ticks
@[simp] theorem State.relaySend_p_pending {s : State} {a1 a2} : (State.relaySend s a1 a2).pending = s.pending := State.relaySend_keeps.lasting.pending

end Sys2Proof.Machine
end

