-- ==== Sys2Proof/Laws/KeepRelay.lean ====
section
/-! SUPPORT. One lemma for each operation of Machine/Relay.lean: the parts it may change, and that what must last lasts. -/

namespace Sys2Proof.Machine

theorem State.modRl_keeps {s a1} : Keeps 2097152 s (State.modRl s a1) := by
  unfold State.modRl
  refine Keeps.andThen ?_ (Keeps.rl) (by rfl)
  exact Keeps.refl

theorem State.relayTake_keeps {s a1 a2} : KeepsR 2097156 s (State.relayTake s a1 a2) := by
  unfold State.relayTake
  refine KeepsR.ite (fun _ => ?_) (fun _ => ?_)
  · refine KeepsR.mk ?_
    exact Keeps.refl
  · extract_lets +onlyGivenNames -merge -useContext -underBinder v1
    have h1 : Keeps 2097156 s v1 := by
      unfold v1
      refine Keeps.andThen ?_ State.modRl_keeps (by rfl)
      exact Keeps.refl
    split
    · refine KeepsR.mk ?_
      refine Keeps.andThen ?_ State.bump_keeps (by rfl)
      exact h1
    · refine KeepsR.ite (fun _ => ?_) (fun _ => ?_)
      · refine KeepsR.mk ?_
        exact h1
      · split
        · extract_lets +onlyGivenNames -merge -useContext -underBinder v2
          have h2 : Keeps 2097156 s v2 := by
            unfold v2
            refine Keeps.andThen ?_ State.modRl_keeps (by rfl)
            exact h1
          split
          · refine KeepsR.mk ?_
            exact h2
          · refine KeepsR.mk ?_
            refine Keeps.andThen ?_ State.bump_keeps (by rfl)
            exact h2

theorem State.fromActive_keeps {m s kind d f} (hf : ∀ b u, Keeps m s u → Keeps m s (f b u)) (hm : ∀ {s k d}, KeepsR m s (State.relayTake s k d)) :
    Keeps m s (State.fromActive s kind d f) := by
  unfold State.fromActive
  split
  · rename_i b t he
    have ht : Keeps m s t := Keeps.snd (e := State.relayTake s kind d) hm he
    exact Keeps.ite (fun _ => hf _ _ ht) (fun _ => ht)
  · rename_i t he
    exact Keeps.snd (e := State.relayTake s kind d) hm he

theorem State.startShared_keeps {s} : Keeps 32768 s (State.startShared s) := by
  unfold State.startShared
  refine Keeps.foldl ?_ (fun t1 x1 h1 => ?_)
  · exact Keeps.refl
  · refine Keeps.ite (fun _ => ?_) (fun _ => ?_)
    · refine Keeps.andThen ?_ State.startWaiting_keeps (by rfl)
      exact h1
    · exact h1

theorem State.beStandby_keeps {s a1} : Keeps 24623869 s (State.beStandby s a1) := by
  unfold State.beStandby
  refine Keeps.ite (fun _ => ?_) (fun _ => ?_)
  · refine Keeps.andThen ?_ State.evFault_keeps (by rfl)
    refine Keeps.andThen ?_ State.setRole_keeps (by rfl)
    exact Keeps.refl
  · refine Keeps.andThen ?_ State.startShared_keeps (by rfl)
    refine Keeps.andThen ?_ State.setRole_keeps (by rfl)
    refine Keeps.andThen ?_ State.modRl_keeps (by rfl)
    exact Keeps.refl

theorem State.beHolder_keeps {s a1} : Keeps 2129932 s (State.beHolder s a1) := by
  unfold State.beHolder
  refine Keeps.andThen ?_ State.startShared_keeps (by rfl)
  refine Keeps.andThen ?_ State.setRole_keeps (by rfl)
  refine Keeps.andThen ?_ State.modRl_keeps (by rfl)
  exact Keeps.refl

theorem State.decideRole_keeps {s a1 a2} : Keeps 24623869 s (State.decideRole s a1 a2) := by
  unfold State.decideRole
  refine Keeps.ite (fun _ => ?_) (fun _ => ?_)
  · exact Keeps.refl
  · split
    · refine Keeps.andThen ?_ State.beStandby_keeps (by rfl)
      exact Keeps.refl
    · refine Keeps.andThen ?_ State.beStandby_keeps (by rfl)
      exact Keeps.refl
    · refine Keeps.ite (fun _ => ?_) (fun _ => ?_)
      · exact Keeps.refl
      · refine Keeps.ite (fun _ => ?_) (fun _ => ?_)
        · refine Keeps.andThen ?_ State.beHolder_keeps (by rfl)
          exact Keeps.refl
        · refine Keeps.andThen ?_ State.beStandby_keeps (by rfl)
          exact Keeps.refl
    · exact Keeps.refl

theorem State.recheckDigest_keeps {s} : Keeps 24623869 s (State.recheckDigest s) := by
  unfold State.recheckDigest
  refine Keeps.ite (fun _ => ?_) (fun _ => ?_)
  · refine Keeps.andThen ?_ State.beStandby_keeps (by rfl)
    exact Keeps.refl
  · exact Keeps.refl

theorem State.seeStandby_keeps {s} : Keeps 2097164 s (State.seeStandby s) := by
  unfold State.seeStandby
  refine Keeps.ite (fun _ => ?_) (fun _ => ?_)
  · refine Keeps.andThen ?_ State.setRole_keeps (by rfl)
    exact Keeps.refl
  · exact Keeps.refl

theorem State.snapLamps_keeps {s a1} : Keeps 18874368 s (State.snapLamps s a1) := by
  unfold State.snapLamps
  refine Keeps.foldl ?_ (fun t1 x1 h1 => ?_)
  · exact Keeps.refl
  · refine Keeps.andThen ?_ State.relayLamp_keeps (by rfl)
    exact h1

theorem State.relaySnapshot_keeps {s} : Keeps 18874368 s (State.relaySnapshot s) := by
  unfold State.relaySnapshot
  extract_lets +onlyGivenNames -merge -useContext -underBinder v1
  have h1 : Keeps 18874368 s v1 := by
    unfold v1
    refine Keeps.foldl ?_ (fun t2 x2 h2 => ?_)
    · exact Keeps.refl
    · refine Keeps.andThen ?_ State.pairOwn_keeps (by rfl)
      exact h2
  extract_lets +onlyGivenNames -merge -useContext -underBinder v3
  have h3 : Keeps 18874368 s v3 := by
    unfold v3
    refine Keeps.ite (fun _ => ?_) (fun _ => ?_)
    · refine Keeps.andThen ?_ State.relayCue_keeps (by rfl)
      refine Keeps.andThen ?_ State.relayCue_keeps (by rfl)
      exact h1
    · exact h1
  extract_lets +onlyGivenNames -merge -useContext -underBinder v4
  extract_lets +onlyGivenNames -merge -useContext -underBinder v5
  have h5 : Keeps 18874368 s v5 := by
    unfold v5
    refine Keeps.foldl ?_ (fun t6 x6 h6 => ?_)
    · exact h3
    · refine Keeps.andThen ?_ State.snapLamps_keeps (by rfl)
      exact h6
  extract_lets +onlyGivenNames -merge -useContext -underBinder v7
  have h7 : Keeps 18874368 s v7 := by
    unfold v7
    refine Keeps.foldl ?_ (fun t8 x8 h8 => ?_)
    · exact h5
    · refine Keeps.andThen ?_ State.relayTile_keeps (by rfl)
      exact h8
  extract_lets +onlyGivenNames -merge -useContext -underBinder v9
  have h9 : Keeps 18874368 s v9 := by
    unfold v9
    refine Keeps.foldl ?_ (fun t10 x10 h10 => ?_)
    · exact h7
    · refine Keeps.andThen ?_ State.relayDelays_keeps (by rfl)
      exact h10
  refine Keeps.foldl ?_ (fun t11 x11 h11 => ?_)
  · exact h9
  · refine Keeps.andThen ?_ State.relayCensus_keeps (by rfl)
    exact h11

theorem State.claimOn_keeps {s a1} : Keeps 16809984 s (State.claimOn s a1) := by
  unfold State.claimOn
  refine Keeps.ite (fun _ => ?_) (fun _ => ?_)
  · exact Keeps.refl
  · refine Keeps.andThen ?_ State.modPort_keeps (by rfl)
    refine Keeps.andThen ?_ State.queueFrame_keeps (by rfl)
    refine Keeps.andThen ?_ State.abortCal_keeps (by rfl)
    exact Keeps.refl

theorem State.claimAll_keeps {s a1} : Keeps 18907136 s (State.claimAll s a1) := by
  unfold State.claimAll
  extract_lets +onlyGivenNames -merge -useContext -underBinder v1
  have h1 : Keeps 18907136 s v1 := by
    unfold v1
    refine Keeps.andThen ?_ State.modRl_keeps (by rfl)
    exact Keeps.refl
  extract_lets +onlyGivenNames -merge -useContext -underBinder v2
  have h2 : Keeps 18907136 s v2 := by
    unfold v2
    refine Keeps.foldl ?_ (fun t3 x3 h3 => ?_)
    · exact h1
    · refine Keeps.andThen ?_ State.claimOn_keeps (by rfl)
      exact h3
  refine Keeps.ite (fun _ => ?_) (fun _ => ?_)
  · exact h2
  · refine Keeps.andThen ?_ State.modRl_keeps (by rfl)
    exact h2

theorem State.losePartner_keeps {s a1} : Keeps 24623869 s (State.losePartner s a1) := by
  unfold State.losePartner
  refine Keeps.ite (fun _ => ?_) (fun _ => ?_)
  · exact Keeps.refl
  · extract_lets +onlyGivenNames -merge -useContext -underBinder v1
    extract_lets +onlyGivenNames -merge -useContext -underBinder v2
    extract_lets +onlyGivenNames -merge -useContext -underBinder v3
    have h3 : Keeps 24623869 s v3 := by
      unfold v3
      refine Keeps.andThen ?_ State.modRl_keeps (by rfl)
      exact Keeps.refl
    extract_lets +onlyGivenNames -merge -useContext -underBinder v4
    have h4 : Keeps 24623869 s v4 := by
      unfold v4
      refine Keeps.andThen ?_ State.evFault_keeps (by rfl)
      exact h3
    clear_value v1
    split
    · refine Keeps.andThen ?_ State.setRole_keeps (by rfl)
      refine Keeps.andThen ?_ State.claimAll_keeps (by rfl)
      exact h4
    · refine Keeps.ite (fun _ => ?_) (fun _ => ?_)
      · refine Keeps.andThen ?_ State.setRole_keeps (by rfl)
        refine Keeps.andThen ?_ State.claimAll_keeps (by rfl)
        exact h4
      · exact h4
    · exact h4

theorem State.updMend_keeps {s} : Keeps 2097152 s (State.updMend s) := by
  unfold State.updMend
  refine Keeps.ite (fun _ => ?_) (fun _ => ?_)
  · refine Keeps.ite (fun _ => ?_) (fun _ => ?_)
    · exact Keeps.refl
    · refine Keeps.andThen ?_ State.modRl_keeps (by rfl)
      exact Keeps.refl
  · refine Keeps.andThen ?_ State.modRl_keeps (by rfl)
    exact Keeps.refl

theorem State.heard_keeps {s a1 a2 a3 a4} : Keeps 24623869 s (State.heard s a1 a2 a3 a4) := by
  unfold State.heard
  refine Keeps.ite (fun _ => ?_) (fun _ => ?_)
  · refine Keeps.andThen ?_ State.losePartner_keeps (by rfl)
    exact Keeps.refl
  · extract_lets +onlyGivenNames -merge -useContext -underBinder v1
    have h1 : Keeps 24623869 s v1 := by
      unfold v1
      refine Keeps.andThen ?_ State.modRl_keeps (by rfl)
      exact Keeps.refl
    extract_lets +onlyGivenNames -merge -useContext -underBinder v2
    have h2 : Keeps 24623869 s v2 := by
      unfold v2
      refine Keeps.andThen ?_ State.seeStandby_keeps (by rfl)
      refine Keeps.andThen ?_ State.recheckDigest_keeps (by rfl)
      refine Keeps.andThen ?_ State.decideRole_keeps (by rfl)
      exact h1
    extract_lets +onlyGivenNames -merge -useContext -underBinder v3
    extract_lets +onlyGivenNames -merge -useContext -underBinder v4
    have h4 : Keeps 24623869 s v4 := by
      unfold v4
      refine Keeps.ite (fun _ => ?_) (fun _ => ?_)
      · refine Keeps.andThen ?_ State.relaySnapshot_keeps (by rfl)
        exact h2
      · exact h2
    refine Keeps.andThen ?_ State.updMend_keeps (by rfl)
    refine Keeps.foldl ?_ (fun t5 x5 h5 => ?_)
    · exact h4
    · refine Keeps.andThen ?_ State.judgeSplit_keeps (by rfl)
      exact h5

theorem State.beatOn_keeps {s a1} : Keeps 2097152 s (State.beatOn s a1) := by
  unfold State.beatOn
  extract_lets +onlyGivenNames -merge -useContext -underBinder v1
  refine Keeps.andThen ?_ State.modRl_keeps (by rfl)
  exact Keeps.refl

theorem State.relayUp_keeps {s} : Keeps 2097164 s (State.relayUp s) := by
  unfold State.relayUp
  refine Keeps.ite (fun _ => ?_) (fun _ => ?_)
  · exact Keeps.refl
  · refine Keeps.andThen ?_ State.ev_keeps (by rfl)
    refine Keeps.andThen ?_ State.modRl_keeps (by rfl)
    exact Keeps.refl

theorem State.relayQual_keeps {s} : Keeps 2048 s (State.relayQual s) := by
  unfold State.relayQual
  refine Keeps.andThen ?_ State.setQual_keeps (by rfl)
  exact Keeps.refl

theorem State.takeBeat_keeps {s a1} : Keeps 2097152 s (State.takeBeat s a1) := by
  unfold State.takeBeat
  refine Keeps.andThen ?_ State.modRl_keeps (by rfl)
  exact Keeps.refl

theorem execRelayHeartbeatRx_keeps {a0 a1 s} : Answers 24623869 s (execRelayHeartbeatRx a0 a1 s) := by
  unfold execRelayHeartbeatRx
  split
  · rename_i t1 e1
    have h1 : Keeps 24623869 s t1 := by
      refine Keeps.snd (e := _) ?_ e1
      refine KeepsR.andThen ?_ State.relayTake_keeps (by rfl)
      exact Keeps.refl
    refine Answers.next ?_
    exact h1
  · rename_i y2_0 t2 e2
    have h2 : Keeps 24623869 s t2 := by
      refine Keeps.snd (e := _) ?_ e2
      refine KeepsR.andThen ?_ State.relayTake_keeps (by rfl)
      exact Keeps.refl
    extract_lets +onlyGivenNames -merge -useContext -underBinder v3
    extract_lets +onlyGivenNames -merge -useContext -underBinder v4
    extract_lets +onlyGivenNames -merge -useContext -underBinder v5
    have h5 : Keeps 24623869 s v5 := by
      unfold v5
      refine Keeps.andThen ?_ State.modRl_keeps (by rfl)
      exact h2
    refine Answers.next ?_
    refine Keeps.andThen ?_ State.relayQual_keeps (by rfl)
    refine Keeps.andThen ?_ State.heard_keeps (by rfl)
    refine Keeps.andThen ?_ State.relayUp_keeps (by rfl)
    refine Keeps.andThen ?_ State.beatOn_keeps (by rfl)
    refine Keeps.andThen ?_ State.takeBeat_keeps (by rfl)
    exact h5

theorem State.takeBeacon_keeps {s a1} : Keeps 2097152 s (State.takeBeacon s a1) := by
  unfold State.takeBeacon
  refine Keeps.andThen ?_ State.modRl_keeps (by rfl)
  exact Keeps.refl

theorem State.beaconUnpaired_keeps {s a1 a2} : Keeps 2097152 s (State.beaconUnpaired s a1 a2) := by
  unfold State.beaconUnpaired
  extract_lets +onlyGivenNames -merge -useContext -underBinder v1
  extract_lets +onlyGivenNames -merge -useContext -underBinder v2
  have h2 : Keeps 2097152 s v2 := by
    unfold v2
    refine Keeps.ite (fun _ => ?_) (fun _ => ?_)
    · refine Keeps.andThen ?_ State.modRl_keeps (by rfl)
      exact Keeps.refl
    · exact Keeps.refl
  refine Keeps.ite (fun _ => ?_) (fun _ => ?_)
  · refine Keeps.andThen ?_ State.modRport_keeps (by rfl)
    exact h2
  · exact h2

theorem execPartnerBeaconRx_keeps {a0 a1 s} : Answers 24623869 s (execPartnerBeaconRx a0 a1 s) := by
  unfold execPartnerBeaconRx
  refine Answers.ite (fun _ => ?_) (fun _ => ?_)
  · refine Answers.next ?_
    exact Keeps.refl
  · split
    · refine Answers.next ?_
      refine Keeps.andThen ?_ State.bump_keeps (by rfl)
      exact Keeps.refl
    · split
      · rename_i y1_0 t1 e1
        have h1 : Keeps 24623869 s t1 := by
          refine Keeps.snd (e := _) ?_ e1
          refine KeepsR.andThen ?_ State.takeSeq_keeps (by rfl)
          exact Keeps.refl
        refine Answers.ite (fun _ => ?_) (fun _ => ?_)
        · refine Answers.next ?_
          exact h1
        · extract_lets +onlyGivenNames -merge -useContext -underBinder v2
          have h2 : Keeps 24623869 s v2 := by
            unfold v2
            refine Keeps.andThen ?_ State.modRport_keeps (by rfl)
            exact h1
          extract_lets +onlyGivenNames -merge -useContext -underBinder v3
          refine Answers.ite (fun _ => ?_) (fun _ => ?_)
          · refine Answers.next ?_
            refine Keeps.andThen ?_ State.startWaiting_keeps (by rfl)
            refine Keeps.andThen ?_ State.beaconUnpaired_keeps (by rfl)
            exact h2
          · extract_lets +onlyGivenNames -merge -useContext -underBinder v4
            extract_lets +onlyGivenNames -merge -useContext -underBinder v5
            extract_lets +onlyGivenNames -merge -useContext -underBinder v6
            extract_lets +onlyGivenNames -merge -useContext -underBinder v7
            have h7 : Keeps 24623869 s v7 := by
              unfold v7
              refine Keeps.andThen ?_ State.heard_keeps (by rfl)
              refine Keeps.andThen ?_ State.beatOn_keeps (by rfl)
              refine Keeps.andThen ?_ State.takeBeacon_keeps (by rfl)
              exact h2
            extract_lets +onlyGivenNames -merge -useContext -underBinder v8
            have h8 : Keeps 24623869 s v8 := by
              unfold v8
              refine Keeps.ite (fun _ => ?_) (fun _ => ?_)
              · refine Keeps.andThen ?_ State.fault_keeps (by rfl)
                exact h7
              · exact h7
            refine Answers.next ?_
            refine Keeps.andThen ?_ State.startWaiting_keeps (by rfl)
            exact h8

theorem execHeartbeatPathMiss_keeps {a0 s} : Answers 24623869 s (execHeartbeatPathMiss a0 s) := by
  unfold execHeartbeatPathMiss
  extract_lets +onlyGivenNames -merge -useContext -underBinder v1
  extract_lets +onlyGivenNames -merge -useContext -underBinder v2
  refine Answers.ite (fun _ => ?_) (fun _ => ?_)
  · refine Answers.next ?_
    exact Keeps.refl
  · extract_lets +onlyGivenNames -merge -useContext -underBinder v3
    have h3 : Keeps 24623869 s v3 := by
      unfold v3
      refine Keeps.andThen ?_ State.modRl_keeps (by rfl)
      exact Keeps.refl
    extract_lets +onlyGivenNames -merge -useContext -underBinder v4
    have h4 : Keeps 24623869 s v4 := by
      unfold v4
      refine Keeps.andThen ?_ State.updMend_keeps (by rfl)
      refine Keeps.andThen ?_ State.bump_keeps (by rfl)
      exact h3
    refine Answers.next ?_
    refine Keeps.ite (fun _ => ?_) (fun _ => ?_)
    · refine Keeps.andThen ?_ State.losePartner_keeps (by rfl)
      exact h4
    · exact h4

theorem execPairingTimeout_keeps {s} : Answers 2129932 s (execPairingTimeout s) := by
  unfold execPairingTimeout
  refine Answers.ite (fun _ => ?_) (fun _ => ?_)
  · refine Answers.next ?_
    refine Keeps.andThen ?_ State.beHolder_keeps (by rfl)
    exact Keeps.refl
  · refine Answers.next ?_
    exact Keeps.refl

theorem execRelayHeartbeatSend_keeps {s} : Answers 18874368 s (execRelayHeartbeatSend s) := by
  unfold execRelayHeartbeatSend
  refine Answers.ite (fun _ => ?_) (fun _ => ?_)
  · refine Answers.next ?_
    refine Keeps.andThen ?_ State.heartbeat_keeps (by rfl)
    exact Keeps.refl
  · refine Answers.next ?_
    exact Keeps.refl

theorem execRelayTrainSend_keeps {s} : Answers 18874368 s (execRelayTrainSend s) := by
  unfold execRelayTrainSend
  refine Answers.ite (fun _ => ?_) (fun _ => ?_)
  · refine Answers.next ?_
    refine Keeps.andThen ?_ State.send_keeps (by rfl)
    refine Keeps.andThen ?_ State.modRl_keeps (by rfl)
    exact Keeps.refl
  · refine Answers.next ?_
    exact Keeps.refl

theorem State.relayDown_keeps {s a1} : Keeps 24623869 s (State.relayDown s a1) := by
  unfold State.relayDown
  extract_lets +onlyGivenNames -merge -useContext -underBinder v1
  have h1 : Keeps 24623869 s v1 := by
    unfold v1
    refine Keeps.andThen ?_ State.modRl_keeps (by rfl)
    exact Keeps.refl
  refine Keeps.ite (fun _ => ?_) (fun _ => ?_)
  · exact h1
  · extract_lets +onlyGivenNames -merge -useContext -underBinder v2
    have h2 : Keeps 24623869 s v2 := by
      unfold v2
      refine Keeps.andThen ?_ State.ev_keeps (by rfl)
      refine Keeps.andThen ?_ State.modRl_keeps (by rfl)
      exact h1
    extract_lets +onlyGivenNames -merge -useContext -underBinder v3
    have h3 : Keeps 24623869 s v3 := by
      unfold v3
      refine Keeps.ite (fun _ => ?_) (fun _ => ?_)
      · refine Keeps.andThen ?_ State.fault_keeps (by rfl)
        exact h2
      · exact h2
    refine Keeps.andThen ?_ State.updMend_keeps (by rfl)
    refine Keeps.andThen ?_ State.relayQual_keeps (by rfl)
    exact h3

theorem execRelayLinkTimeout_keeps {a0 s} : Answers 24623869 s (execRelayLinkTimeout a0 s) := by
  unfold execRelayLinkTimeout
  extract_lets +onlyGivenNames -merge -useContext -underBinder v1
  refine Answers.ite (fun _ => ?_) (fun _ => ?_)
  · refine Answers.next ?_
    exact Keeps.refl
  · refine Answers.ite (fun _ => ?_) (fun _ => ?_)
    · refine Answers.next ?_
      refine Keeps.andThen ?_ State.relayDown_keeps (by rfl)
      exact Keeps.refl
    · refine Answers.ite (fun _ => ?_) (fun _ => ?_)
      · refine Answers.next ?_
        refine Keeps.andThen ?_ State.relayDown_keeps (by rfl)
        exact Keeps.refl
      · refine Answers.next ?_
        exact Keeps.refl

theorem execRelayLinkRetrim_keeps {s} : Answers 2097152 s (execRelayLinkRetrim s) := by
  unfold execRelayLinkRetrim
  refine Answers.ite (fun _ => ?_) (fun _ => ?_)
  · refine Answers.next ?_
    refine Keeps.andThen ?_ State.modRl_keeps (by rfl)
    exact Keeps.refl
  · refine Answers.next ?_
    exact Keeps.refl

theorem execRelayTrimDone_keeps {a0 s} : Answers 2097152 s (execRelayTrimDone a0 s) := by
  unfold execRelayTrimDone
  split
  · refine Answers.next ?_
    exact Keeps.refl
  · refine Answers.ite (fun _ => ?_) (fun _ => ?_)
    · refine Answers.next ?_
      exact Keeps.refl
    · refine Answers.next ?_
      refine Keeps.andThen ?_ State.modRl_keeps (by rfl)
      exact Keeps.refl

theorem execRelayTimeSend_keeps {s} : Answers 18874368 s (execRelayTimeSend s) := by
  unfold execRelayTimeSend
  refine Answers.ite (fun _ => ?_) (fun _ => ?_)
  · extract_lets +onlyGivenNames -merge -useContext -underBinder v1
    have h1 : Keeps 18874368 s v1 := by
      unfold v1
      refine Keeps.andThen ?_ State.modRl_keeps (by rfl)
      exact Keeps.refl
    refine Answers.next ?_
    refine Keeps.andThen ?_ State.relaySend_keeps (by rfl)
    exact h1
  · refine Answers.next ?_
    exact Keeps.refl

theorem execRelayTimeRx_keeps {a0 a1 a2 s} : Answers 2144268 s (execRelayTimeRx a0 a1 a2 s) := by
  unfold execRelayTimeRx
  split
  · rename_i t1 e1
    have h1 : Keeps 2144268 s t1 := by
      refine Keeps.snd (e := _) ?_ e1
      refine KeepsR.andThen ?_ State.relayTake_keeps (by rfl)
      exact Keeps.refl
    refine Answers.next ?_
    exact h1
  · rename_i y2_0 t2 e2
    have h2 : Keeps 2144268 s t2 := by
      refine Keeps.snd (e := _) ?_ e2
      refine KeepsR.andThen ?_ State.relayTake_keeps (by rfl)
      exact Keeps.refl
    extract_lets +onlyGivenNames -merge -useContext -underBinder v3
    have h3 : Keeps 2144268 s v3 := by
      unfold v3
      refine Keeps.andThen ?_ State.modRl_keeps (by rfl)
      exact h2
    refine Answers.ite (fun _ => ?_) (fun _ => ?_)
    · refine Answers.next ?_
      exact h3
    · extract_lets +onlyGivenNames -merge -useContext -underBinder v4
      extract_lets +onlyGivenNames -merge -useContext -underBinder v5
      have h5 : Keeps 2144268 s v5 := by
        unfold v5
        refine Keeps.andThen ?_ State.modRl_keeps (by rfl)
        exact h3
      extract_lets +onlyGivenNames -merge -useContext -underBinder v6
      have h6 : Keeps 2144268 s v6 := by
        unfold v6
        refine Keeps.andThen ?_ State.newRate_keeps (by rfl)
        exact h5
      refine Answers.next ?_
      refine Keeps.andThen ?_ State.relayQual_keeps (by rfl)
      refine Keeps.andThen ?_ State.newOffset_keeps (by rfl)
      exact h6

theorem State.mirrorPlan_keeps {s a1} : Keeps 2101248 s (State.mirrorPlan s a1) := by
  unfold State.mirrorPlan
  extract_lets +onlyGivenNames -merge -useContext -underBinder v1
  refine Keeps.ite (fun _ => ?_) (fun _ => ?_)
  · exact Keeps.refl
  · refine Keeps.ite (fun _ => ?_) (fun _ => ?_)
    · refine Keeps.andThen ?_ State.modRl_keeps (by rfl)
      exact Keeps.refl
    · extract_lets +onlyGivenNames -merge -useContext -underBinder v2
      refine Keeps.ite (fun _ => ?_) (fun _ => ?_)
      · refine Keeps.andThen ?_ (Keeps.tl) (by rfl)
        exact Keeps.refl
      · refine Keeps.andThen ?_ (Keeps.tl) (by rfl)
        exact Keeps.refl

theorem State.mirrorCue_keeps {a0 s} : Keeps 2101248 s (State.mirrorCue a0 s) := by
  unfold State.mirrorCue
  extract_lets +onlyGivenNames -merge -useContext -underBinder v1
  refine Keeps.ite (fun _ => ?_) (fun _ => ?_)
  · refine Keeps.andThen ?_ State.mirrorPlan_keeps (by rfl)
    exact Keeps.refl
  · refine Keeps.andThen ?_ State.modRl_keeps (by rfl)
    exact Keeps.refl

theorem execRelayCueRx_keeps {a0 s} : Answers 2101252 s (execRelayCueRx a0 s) := by
  unfold execRelayCueRx
  refine Answers.next ?_
  refine State.fromActive_keeps (fun x1 t1 h1 => ?_) (fun {_ _ _} => Keeps.refl.andThen State.relayTake_keeps (by rfl))
  refine Keeps.andThen ?_ State.mirrorCue_keeps (by rfl)
  exact h1

theorem State.mirrorIn_keeps {s a1 a2 a3} : Keeps 2097152 s (State.mirrorIn s a1 a2 a3) := by
  unfold State.mirrorIn
  refine Keeps.andThen ?_ State.modRl_keeps (by rfl)
  exact Keeps.refl

theorem execRelayTileRx_keeps {a0 s} : Answers 2097156 s (execRelayTileRx a0 s) := by
  unfold execRelayTileRx
  refine Answers.next ?_
  refine State.fromActive_keeps (fun x1 t1 h1 => ?_) (fun {_ _ _} => Keeps.refl.andThen State.relayTake_keeps (by rfl))
  extract_lets +onlyGivenNames -merge -useContext -underBinder v2
  refine Keeps.andThen ?_ State.mirrorIn_keeps (by rfl)
  exact h1

theorem execRelayLampRx_keeps {a0 s} : Answers 2097156 s (execRelayLampRx a0 s) := by
  unfold execRelayLampRx
  refine Answers.next ?_
  refine State.fromActive_keeps (fun x1 t1 h1 => ?_) (fun {_ _ _} => Keeps.refl.andThen State.relayTake_keeps (by rfl))
  refine Keeps.andThen ?_ State.mirrorIn_keeps (by rfl)
  exact h1

theorem execRelayFlushRx_keeps {a0 s} : Answers 2097156 s (execRelayFlushRx a0 s) := by
  unfold execRelayFlushRx
  refine Answers.next ?_
  refine State.fromActive_keeps (fun x1 t1 h1 => ?_) (fun {_ _ _} => Keeps.refl.andThen State.relayTake_keeps (by rfl))
  refine Keeps.andThen ?_ State.mirrorIn_keeps (by rfl)
  exact h1

theorem State.compareLine_keeps {s a1 a2 a3 a4 a5 a6} : Keeps 24623869 s (State.compareLine s a1 a2 a3 a4 a5 a6) := by
  unfold State.compareLine
  split
  · exact Keeps.refl
  · extract_lets +onlyGivenNames -merge -useContext -underBinder v1
    extract_lets +onlyGivenNames -merge -useContext -underBinder v2
    refine Keeps.ite (fun _ => ?_) (fun _ => ?_)
    · refine Keeps.andThen ?_ State.modRl_keeps (by rfl)
      exact Keeps.refl
    · extract_lets +onlyGivenNames -merge -useContext -underBinder v3
      extract_lets +onlyGivenNames -merge -useContext -underBinder v4
      have h4 : Keeps 24623869 s v4 := by
        unfold v4
        refine Keeps.andThen ?_ State.bump_keeps (by rfl)
        exact Keeps.refl
      extract_lets +onlyGivenNames -merge -useContext -underBinder v5
      have h5 : Keeps 24623869 s v5 := by
        unfold v5
        refine Keeps.andThen ?_ State.modRl_keeps (by rfl)
        exact h4
      refine Keeps.ite (fun _ => ?_) (fun _ => ?_)
      · refine Keeps.andThen ?_ State.evFault_keeps (by rfl)
        refine Keeps.andThen ?_ State.modRl_keeps (by rfl)
        exact h5
      · exact h5

theorem execRelaySigsRx_keeps {a0 s} : Answers 24623869 s (execRelaySigsRx a0 s) := by
  unfold execRelaySigsRx
  refine Answers.next ?_
  refine State.fromActive_keeps (fun x1 t1 h1 => ?_) (fun {_ _ _} => Keeps.refl.andThen State.relayTake_keeps (by rfl))
  refine Keeps.foldl ?_ (fun t2 x2 h2 => ?_)
  · exact h1
  · extract_lets +onlyGivenNames -merge -useContext -underBinder v3
    split
    · refine Keeps.andThen ?_ State.compareLine_keeps (by rfl)
      exact h2
    · exact h2

theorem State.applyDeltas_keeps {s a1} : Keeps 65536 s (State.applyDeltas s a1) := by
  unfold State.applyDeltas
  extract_lets +onlyGivenNames -merge -useContext -underBinder v1
  refine Keeps.ite (fun _ => ?_) (fun _ => ?_)
  · exact Keeps.refl
  · extract_lets +onlyGivenNames -merge -useContext -underBinder v2
    refine Keeps.foldl ?_ (fun t3 x3 h3 => ?_)
    · exact Keeps.refl
    · refine Keeps.andThen ?_ State.modTile_keeps (by rfl)
      exact h3

theorem execRelayDelaysRx_keeps {a0 s} : Answers 2162692 s (execRelayDelaysRx a0 s) := by
  unfold execRelayDelaysRx
  refine Answers.next ?_
  refine State.fromActive_keeps (fun x1 t1 h1 => ?_) (fun {_ _ _} => Keeps.refl.andThen State.relayTake_keeps (by rfl))
  extract_lets +onlyGivenNames -merge -useContext -underBinder v2
  extract_lets +onlyGivenNames -merge -useContext -underBinder v3
  extract_lets +onlyGivenNames -merge -useContext -underBinder v4
  have h4 : Keeps 2162692 s v4 := by
    unfold v4
    refine Keeps.andThen ?_ State.modRport_keeps (by rfl)
    exact h1
  refine Keeps.foldl ?_ (fun t5 x5 h5 => ?_)
  · exact h4
  · refine Keeps.andThen ?_ State.applyDeltas_keeps (by rfl)
    exact h5

theorem State.judgePairs_keeps {s} : Keeps 24623869 s (State.judgePairs s) := by
  unfold State.judgePairs
  refine Keeps.foldl ?_ (fun t1 x1 h1 => ?_)
  · exact Keeps.refl
  · refine Keeps.andThen ?_ State.judgePair_keeps (by rfl)
    exact h1

theorem execRelayCensusReadyRx_keeps {a0 s} : Answers 24623869 s (execRelayCensusReadyRx a0 s) := by
  unfold execRelayCensusReadyRx
  refine Answers.next ?_
  refine State.fromActive_keeps (fun x1 t1 h1 => ?_) (fun {_ _ _} => Keeps.refl.andThen State.relayTake_keeps (by rfl))
  refine Keeps.andThen ?_ State.judgePairs_keeps (by rfl)
  refine Keeps.andThen ?_ State.startShared_keeps (by rfl)
  refine Keeps.andThen ?_ State.modRport_keeps (by rfl)
  exact h1

theorem execRelayPlaceRx_keeps {a0 s} : Answers 24623869 s (execRelayPlaceRx a0 s) := by
  unfold execRelayPlaceRx
  refine Answers.next ?_
  refine State.fromActive_keeps (fun x1 t1 h1 => ?_) (fun {_ _ _} => Keeps.refl.andThen State.relayTake_keeps (by rfl))
  extract_lets +onlyGivenNames -merge -useContext -underBinder v2
  extract_lets +onlyGivenNames -merge -useContext -underBinder v3
  refine Keeps.andThen ?_ State.judgePairs_keeps (by rfl)
  refine Keeps.andThen ?_ State.modRport_keeps (by rfl)
  exact h1

theorem execRelayHandoverRx_keeps {a0 s} : Answers 18907140 s (execRelayHandoverRx a0 s) := by
  unfold execRelayHandoverRx
  split
  · rename_i t1 e1
    have h1 : Keeps 18907140 s t1 := by
      refine Keeps.snd (e := _) ?_ e1
      refine KeepsR.andThen ?_ State.relayTake_keeps (by rfl)
      exact Keeps.refl
    refine Answers.next ?_
    exact h1
  · rename_i y2_0 t2 e2
    have h2 : Keeps 18907140 s t2 := by
      refine Keeps.snd (e := _) ?_ e2
      refine KeepsR.andThen ?_ State.relayTake_keeps (by rfl)
      exact Keeps.refl
    extract_lets +onlyGivenNames -merge -useContext -underBinder v3
    refine Answers.ite (fun _ => ?_) (fun _ => ?_)
    · refine Answers.next ?_
      refine Keeps.andThen ?_ State.claimAll_keeps (by rfl)
      exact h2
    · refine Answers.next ?_
      exact h2

theorem execHandoverSilenceEnd_keeps {s} : Answers 24623869 s (execHandoverSilenceEnd s) := by
  unfold execHandoverSilenceEnd
  split
  · refine Answers.next ?_
    exact Keeps.refl
  · refine Answers.ite (fun _ => ?_) (fun _ => ?_)
    · refine Answers.next ?_
      exact Keeps.refl
    · extract_lets +onlyGivenNames -merge -useContext -underBinder v1
      have h1 : Keeps 24623869 s v1 := by
        unfold v1
        refine Keeps.andThen ?_ State.modRl_keeps (by rfl)
        exact Keeps.refl
      refine Answers.ite (fun _ => ?_) (fun _ => ?_)
      · refine Answers.next ?_
        refine Keeps.andThen ?_ State.evFault_keeps (by rfl)
        exact h1
      · extract_lets +onlyGivenNames -merge -useContext -underBinder v2
        extract_lets +onlyGivenNames -merge -useContext -underBinder v3
        have h3 : Keeps 24623869 s v3 := by
          unfold v3
          refine Keeps.andThen ?_ State.setRole_keeps (by rfl)
          refine Keeps.andThen ?_ State.modRl_keeps (by rfl)
          exact h1
        extract_lets +onlyGivenNames -merge -useContext -underBinder v4
        have h4 : Keeps 24623869 s v4 := by
          unfold v4
          refine Keeps.foldl ?_ (fun t5 x5 h5 => ?_)
          · exact h3
          · refine Keeps.andThen ?_ State.normalPort_keeps (by rfl)
            exact h5
        refine Answers.next ?_
        refine Keeps.foldl ?_ (fun t6 x6 h6 => ?_)
        · exact h4
        · refine Keeps.andThen ?_ State.judgeSplit_keeps (by rfl)
          exact h6

theorem State.mend_keeps {s} : Keeps 18874368 s (State.mend s) := by
  unfold State.mend
  refine Keeps.ite (fun _ => ?_) (fun _ => ?_)
  · refine Keeps.andThen ?_ State.release_keeps (by rfl)
    exact Keeps.refl
  · exact Keeps.refl

theorem execMendTimer_keeps {s} : Answers 18874368 s (execMendTimer s) := by
  unfold execMendTimer
  extract_lets +onlyGivenNames -merge -useContext -underBinder v1
  split
  · refine Answers.ite (fun _ => ?_) (fun _ => ?_)
    · refine Answers.next ?_
      refine Keeps.andThen ?_ State.mend_keeps (by rfl)
      exact Keeps.refl
    · refine Answers.next ?_
      exact Keeps.refl
  · refine Answers.next ?_
    exact Keeps.refl

theorem State.writeRelayCtrl_keeps {s a1} : Keeps 18874368 s (State.writeRelayCtrl s a1) := by
  unfold State.writeRelayCtrl
  refine Keeps.ite (fun _ => ?_) (fun _ => ?_)
  · exact Keeps.refl
  · extract_lets +onlyGivenNames -merge -useContext -underBinder v1
    have h1 : Keeps 18874368 s v1 := by
      unfold v1
      refine Keeps.ite (fun _ => ?_) (fun _ => ?_)
      · refine Keeps.andThen ?_ State.releaseIfActive_keeps (by rfl)
        exact Keeps.refl
      · exact Keeps.refl
    refine Keeps.ite (fun _ => ?_) (fun _ => ?_)
    · refine Keeps.andThen ?_ State.mend_keeps (by rfl)
      exact h1
    · exact h1

theorem execHandover_keeps {a0 s} : Answers 18874368 s (execHandover a0 s) := by
  unfold execHandover
  refine Answers.next ?_
  refine Keeps.andThen ?_ State.writeRelayCtrl_keeps (by rfl)
  exact Keeps.refl

theorem execMend_keeps {a0 s} : Answers 18874368 s (execMend a0 s) := by
  unfold execMend
  refine Answers.next ?_
  refine Keeps.andThen ?_ State.writeRelayCtrl_keeps (by rfl)
  exact Keeps.refl

end Sys2Proof.Machine
end

