-- ==== Sys2Proof/Laws/KeepRegisters.lean ====
section
/-! SUPPORT. One lemma for each operation of Machine/Registers.lean: the parts it may change, and that what must last lasts. -/

namespace Sys2Proof.Machine

theorem State.settingDone_keeps {s a1 a2} : Keeps 121669645 s (State.settingDone s a1 a2) := by
  unfold State.settingDone
  refine Keeps.ite (fun _ => Keeps.tb.mono (by rfl)) (fun _ => Keeps.ite (fun _ => ?_) (fun _ => ?_))
  · extract_lets +onlyGivenNames -merge -useContext -underBinder ok w t u
    have ht : Keeps 121669645 s t := Keeps.refl.andThen (Keeps.rws fun h => fixIncr_wf h.1) (by rfl)
    have hu : Keeps 121669645 s u := Keeps.ite (fun _ => ht) (fun _ => ht.andThen State.ev_keeps (by rfl))
    exact hu.andThen Keeps.tb (by rfl)
  · refine Keeps.ite (fun _ => Keeps.refl.andThen State.memSettings_keeps (by rfl)) (fun _ => ?_)
    refine Keeps.ite (fun _ => Keeps.refl.andThen State.showPins_keeps (by rfl)) (fun _ => ?_)
    exact Keeps.foldl .refl fun _ _ h => h.andThen State.stopClock_keeps (by rfl)

theorem State.putRws_keeps {s who off value} : Keeps 21530701 s (State.putRws s who off value) := by
  unfold State.putRws
  extract_lets +onlyGivenNames -merge -useContext -underBinder v1
  refine Keeps.ite (fun _ => Keeps.refl) (fun _ => ?_)
  extract_lets +onlyGivenNames -merge -useContext -underBinder v2 v3 v4
  refine Keeps.ite (fun _ => Keeps.ite (fun _ => Keeps.refl) (fun _ => Keeps.refl.andThen State.violation_keeps (by rfl))) (fun hs => ?_)
  have hs : s.boot.sealWhen = .notYet := by simpa using hs
  extract_lets +onlyGivenNames -merge -useContext -underBinder v5
  have h5 : Keeps 21530701 s v5 := by
    refine Keeps.unsealed (m := 21530701 ||| 0x6000000) ?_ hs (fun p => by cases p <;> exact id)
    refine Keeps.andThen (Keeps.foldl ?_ fun _ _ h => h.andThen State.ev_keeps (by rfl)) State.settingDone_keeps (by rfl)
    exact (Keeps.refl.andThen State.tried_keeps (by rfl)).andThen State.setRws_keeps (by rfl)
  split
  · exact h5
  · refine Keeps.ite (fun _ => ?_) (fun _ => h5)
    exact h5.andThen (Keeps.memTrained (by rfl) (by intro w; dsimp only; exact Sparse.set_wf _ _ w)) (by rfl)

theorem State.putPlain_keeps {s a1 a2 a3} : Keeps 21530703 s (State.putPlain s a1 a2 a3) := by
  unfold State.putPlain
  split
  · exact Keeps.refl
  · extract_lets +onlyGivenNames -merge -useContext -underBinder v1
    have h1 : Keeps 21530703 s v1 := by
      unfold v1
      refine Keeps.ite (fun _ => ?_) (fun _ => ?_)
      · refine Keeps.andThen ?_ State.clearCnt_keeps (by rfl)
        exact Keeps.refl
      · exact Keeps.refl
    extract_lets +onlyGivenNames -merge -useContext -underBinder v2
    have h2 : Keeps 21530703 s v2 := by
      unfold v2
      refine Keeps.ite (fun _ => ?_) (fun _ => ?_)
      · refine Keeps.andThen ?_ State.setRw_keeps (by rfl)
        exact h1
      · exact h1
    refine Keeps.andThen ?_ State.putRws_keeps (by rfl)
    exact h2

theorem State.writeCore_keeps {s a1 a2 a3} : KeepsO 58178303 s (State.writeCore s a1 a2 a3) := by
  unfold State.writeCore
  extract_lets +onlyGivenNames -merge -useContext -underBinder v1
  refine KeepsO.ite (fun _ => ?_) (fun _ => ?_)
  · refine KeepsO.some ?_
    refine Keeps.andThen ?_ State.writeEvtGlobal_keeps (by rfl)
    exact Keeps.refl
  · refine KeepsO.ite (fun _ => ?_) (fun _ => ?_)
    · refine KeepsO.some ?_
      refine Keeps.andThen ?_ State.writeCi_keeps (by rfl)
      exact Keeps.refl
    · refine KeepsO.ite (fun ho => ?_) (fun _ => ?_)
      · extract_lets +onlyGivenNames -merge -useContext -underBinder v2
        have hc : v2 < 4 := by
          simp only [Bool.and_eq_true, decide_eq_true_eq] at ho
          unfold v2
          omega
        split
        · refine KeepsO.some ?_
          refine Keeps.andThen ?_ (State.writeEvtCore_keeps hc) (by rfl)
          exact Keeps.refl
        · refine KeepsO.some ?_
          refine Keeps.andThen ?_ State.writePop_keeps (by rfl)
          exact Keeps.refl
        · refine KeepsO.some ?_
          refine Keeps.andThen ?_ State.writeDone_keeps (by rfl)
          exact Keeps.refl
        · exact KeepsO.none
      · refine KeepsO.ite (fun _ => ?_) (fun _ => ?_)
        · refine KeepsO.some ?_
          refine Keeps.andThen ?_ State.writeRoute_keeps (by rfl)
          exact Keeps.refl
        · refine KeepsO.ite (fun _ => ?_) (fun _ => ?_)
          · refine KeepsO.some ?_
            refine Keeps.ite (fun _ => ?_) (fun _ => ?_)
            · refine Keeps.andThen ?_ (Keeps.flt) (by rfl)
              exact Keeps.refl
            · exact Keeps.refl
          · refine KeepsO.ite (fun _ => ?_) (fun _ => ?_)
            · refine KeepsO.some ?_
              refine Keeps.ite (fun _ => ?_) (fun _ => ?_)
              · refine Keeps.andThen ?_ State.clearFe_keeps (by rfl)
                exact Keeps.refl
              · exact Keeps.refl
            · refine KeepsO.ite (fun _ => ?_) (fun _ => ?_)
              · refine KeepsO.some ?_
                refine Keeps.andThen ?_ State.writeFaultClear_keeps (by rfl)
                exact Keeps.refl
              · refine KeepsO.ite (fun _ => ?_) (fun _ => ?_)
                · refine KeepsO.some ?_
                  refine Keeps.andThen ?_ State.writeHoldRequest_keeps (by rfl)
                  exact Keeps.refl
                · refine KeepsO.ite (fun _ => ?_) (fun _ => ?_)
                  · refine KeepsO.some ?_
                    refine Keeps.andThen ?_ State.writeLogRead_keeps (by rfl)
                    exact Keeps.refl
                  · refine KeepsO.ite (fun _ => ?_) (fun _ => ?_)
                    · refine KeepsO.some ?_
                      refine Keeps.andThen ?_ State.writeActiveRead_keeps (by rfl)
                      exact Keeps.refl
                    · refine KeepsO.ite (fun _ => ?_) (fun _ => ?_)
                      · refine KeepsO.some ?_
                        refine Keeps.andThen ?_ State.writeKick_keeps (by rfl)
                        exact Keeps.refl
                      · exact KeepsO.none

theorem State.writeSecure_keeps {s a1 a2} : KeepsO 8782798 s (State.writeSecure s a1 a2) := by
  unfold State.writeSecure
  extract_lets +onlyGivenNames -merge -useContext -underBinder v1
  extract_lets +onlyGivenNames -merge -useContext -underBinder v2
  refine KeepsO.ite (fun _ => ?_) (fun _ => ?_)
  · refine KeepsO.some ?_
    refine Keeps.andThen ?_ State.writeSbCtrl_keeps (by rfl)
    exact Keeps.refl
  · refine KeepsO.ite (fun _ => ?_) (fun _ => ?_)
    · refine KeepsO.some ?_
      refine Keeps.andThen ?_ State.writeJournalRead_keeps (by rfl)
      exact Keeps.refl
    · refine KeepsO.ite (fun _ => ?_) (fun _ => ?_)
      · refine KeepsO.some ?_
        refine Keeps.andThen ?_ State.writeOwnerHash_keeps (by rfl)
        exact Keeps.refl
      · refine KeepsO.ite (fun _ => ?_) (fun _ => ?_)
        · split
          · rename_i y3_0 t3 e3
            have h3 : Keeps 8782798 s t3 := by
              refine Keeps.snd (e := _) ?_ e3
              refine KeepsR.andThen ?_ State.draw_keeps (by rfl)
              exact Keeps.refl
            refine KeepsO.some ?_
            refine Keeps.andThen ?_ State.writeEnrol_keeps (by rfl)
            exact h3
        · refine KeepsO.ite (fun _ => ?_) (fun _ => ?_)
          · refine KeepsO.some ?_
            refine Keeps.andThen ?_ State.writeNonce_keeps (by rfl)
            exact Keeps.refl
          · refine KeepsO.ite (fun _ => ?_) (fun _ => ?_)
            · refine KeepsO.some ?_
              refine Keeps.andThen ?_ State.writeAttest_keeps (by rfl)
              exact Keeps.refl
            · refine KeepsO.ite (fun _ => ?_) (fun _ => ?_)
              · refine KeepsO.some ?_
                refine Keeps.andThen ?_ (Keeps.sec) (by rfl)
                exact Keeps.refl
              · refine KeepsO.ite (fun _ => ?_) (fun _ => ?_)
                · refine KeepsO.some ?_
                  refine Keeps.andThen ?_ State.writeDebug_keeps (by rfl)
                  exact Keeps.refl
                · refine KeepsO.ite (fun _ => ?_) (fun _ => ?_)
                  · refine KeepsO.some ?_
                    refine Keeps.andThen ?_ State.writeZeroise_keeps (by rfl)
                    exact Keeps.refl
                  · exact KeepsO.none

theorem State.writeWork_keeps {s a1 a2} : KeepsO 25164543 s (State.writeWork s a1 a2) := by
  unfold State.writeWork
  refine KeepsO.ite (fun _ => ?_) (fun _ => ?_)
  · refine KeepsO.some ?_
    refine Keeps.andThen ?_ State.writeRestep_keeps (by rfl)
    exact Keeps.refl
  · refine KeepsO.ite (fun _ => ?_) (fun _ => ?_)
    · refine KeepsO.some ?_
      refine Keeps.andThen ?_ State.writeAttach_keeps (by rfl)
      exact Keeps.refl
    · refine KeepsO.ite (fun _ => ?_) (fun _ => ?_)
      · refine KeepsO.ite (fun _ => ?_) (fun _ => ?_)
        · refine KeepsO.some ?_
          refine Keeps.andThen ?_ State.bump_keeps (by rfl)
          exact Keeps.refl
        · exact KeepsO.none
      · refine KeepsO.ite (fun _ => ?_) (fun _ => ?_)
        · refine KeepsO.some ?_
          refine Keeps.andThen ?_ State.writeStageCtrl_keeps (by rfl)
          exact Keeps.refl
        · refine KeepsO.ite (fun _ => ?_) (fun _ => ?_)
          · refine KeepsO.some ?_
            refine Keeps.andThen ?_ State.writeCueGo_keeps (by rfl)
            exact Keeps.refl
          · refine KeepsO.ite (fun _ => ?_) (fun _ => ?_)
            · refine KeepsO.some ?_
              refine Keeps.andThen ?_ State.writeSceneQuery_keeps (by rfl)
              exact Keeps.refl
            · refine KeepsO.ite (fun _ => ?_) (fun _ => ?_)
              · extract_lets +onlyGivenNames -merge -useContext -underBinder v1
                split
                · refine KeepsO.some ?_
                  refine Keeps.andThen ?_ State.writeFenceLo_keeps (by rfl)
                  exact Keeps.refl
                · refine KeepsO.some ?_
                  refine Keeps.andThen ?_ State.writeFenceHi_keeps (by rfl)
                  exact Keeps.refl
                · exact KeepsO.none
              · refine KeepsO.ite (fun _ => ?_) (fun _ => ?_)
                · refine KeepsO.some ?_
                  refine Keeps.andThen ?_ State.writeRecheck_keeps (by rfl)
                  exact Keeps.refl
                · refine KeepsO.ite (fun _ => ?_) (fun _ => ?_)
                  · refine KeepsO.some ?_
                    refine Keeps.andThen ?_ State.writeWatch_keeps (by rfl)
                    exact Keeps.refl
                  · refine KeepsO.ite (fun _ => ?_) (fun _ => ?_)
                    · refine KeepsO.some ?_
                      refine Keeps.andThen ?_ State.writePlanCue_keeps (by rfl)
                      exact Keeps.refl
                    · refine KeepsO.ite (fun _ => ?_) (fun _ => ?_)
                      · refine KeepsO.some ?_
                        refine Keeps.andThen ?_ State.writeHurdleQuery_keeps (by rfl)
                        exact Keeps.refl
                      · refine KeepsO.ite (fun _ => ?_) (fun _ => ?_)
                        · refine KeepsO.some ?_
                          refine Keeps.andThen ?_ State.writeRelayCtrl_keeps (by rfl)
                          exact Keeps.refl
                        · exact KeepsO.none

theorem State.writeReg_keeps {s who off v} : Keeps 67107839 s (State.writeReg s who off v) := by
  unfold State.writeReg
  split
  · exact Keeps.refl
  · refine Keeps.ite (fun _ => Keeps.refl) (fun _ => ?_)
    have hp : Keeps 67107839 s (s.putPlain who off v) := Keeps.refl.andThen State.putPlain_keeps (by rfl)
    rcases h1 : s.writeCore who off v with _ | t
    · rcases h2 : s.writeSecure off v with _ | t
      · rcases h3 : s.writeWork off v with _ | t
        · exact hp
        · exact (State.writeWork_keeps _ h3).mono (by rfl)
      · exact (State.writeSecure_keeps _ h2).mono (by rfl)
    · exact (State.writeCore_keeps _ h1).mono (by rfl)

theorem State.writeWords_keeps {s who off l} : Keeps 67107839 s (State.writeWords who off l s) := by
  induction l generalizing s off with
  | nil => exact Keeps.refl
  | cons w l ih => exact Keeps.andThen (Keeps.refl.andThen State.writeReg_keeps (by rfl)) ih (by rfl)

theorem execRegisterWrite_keeps {a0 a1 a2 a3 a4 s} : Answers 67107839 s (execRegisterWrite a0 a1 a2 a3 a4 s) := by
  unfold execRegisterWrite
  refine Answers.ite (fun _ => ?_) (fun _ => ?_)
  · refine Answers.next ?_
    refine Keeps.andThen ?_ State.bump_keeps (by rfl)
    exact Keeps.refl
  · refine Answers.next ?_
    refine Keeps.andThen ?_ State.writeWords_keeps (by rfl)
    exact Keeps.refl

end Sys2Proof.Machine
end

