-- ==== Sys2Proof/Laws/HostWrite.lean ====
section
/-! SUPPORT. What a host write cannot do after the seal (R13): the lemmas of the register write, for the host as requester. -/

namespace Sys2Proof.Machine

/-- An operation that keeps the parts of `m` and of whom the seal's rule is known. -/
theorem Keeps.sealed {m n : Nat} {s t : State} (h : Keeps m s t) (hl : s.wf → SealHolds (fun _ => false) s t)
    (hn : ∀ p : Part, n.testBit p.code = false → m.testBit p.code = false) (hx : n.testBit 26 = false → m.testBit 26 = false) :
    Keeps n s t :=
  ⟨h.lasting, fun p hp => h.same p (hn p hp), fun _ w => hl w, fun k w => h.lockX (hx k) w⟩

/-- A host may write RWS fields of the events block before the seal only (R387). -/
theorem State.mayRoute_host {s : State} (h : s.mayRoute .host = true) : s.boot.sealWhen = .notYet := by
  simpa only [State.mayRoute, beq_iff_eq] using h

theorem State.clearOverflow_boot {s : State} {c v} : (s.clearOverflow c v).boot = s.boot := by
  unfold State.clearOverflow
  split <;> rfl

theorem State.writeEvtCore_host_keeps {s c v} (hc : c < 4) : Keeps 77 s (State.writeEvtCore s .host c v) := by
  have h : Keeps 33554509 s (State.writeEvtCore s .host c v) := State.writeEvtCore_keeps hc
  by_cases hs : s.boot.sealWhen = .notYet
  · exact h.sealed (fun _ k => absurd hs k) (fun p => by cases p <;> exact id) id
  · refine h.sealed (fun w => ?_) (fun p => by cases p <;> exact id) id
    have hr : (s.clearOverflow c v).mayRoute .host = false := by
      refine Bool.eq_false_iff.2 fun k => hs ?_
      rw [← State.clearOverflow_boot (s := s) (c := c) (v := v)]
      exact State.mayRoute_host k
    refine (?_ : Keeps 77 s _).lock (by rfl) w
    unfold State.writeEvtCore
    extract_lets v1 v2 v3 v4 v5
    have h5 : Keeps 77 s v5 := Keeps.refl.andThen State.clearOverflow_keeps (by rfl)
    refine Keeps.ite (fun k => ?_) (fun _ => Keeps.ite (fun _ => h5.andThen State.violation_keeps (by rfl)) (fun _ => h5))
    rw [hr] at k
    cases k

theorem State.writeEvtGlobal_host_keeps {s v} : Keeps 69 s (State.writeEvtGlobal s .host v) := by
  have h : Keeps 33554501 s (State.writeEvtGlobal s .host v) := State.writeEvtGlobal_keeps
  refine h.sealed (fun w hs => ?_) (fun p => by cases p <;> exact id) id
  refine (?_ : Keeps 69 s _).lock (by rfl) w hs
  unfold State.writeEvtGlobal
  extract_lets v1 v2
  refine Keeps.ite (fun k => absurd (State.mayRoute_host k) hs) (fun _ => ?_)
  exact Keeps.ite (fun _ => Keeps.refl.andThen State.violation_keeps (by rfl)) (fun _ => Keeps.refl)

theorem State.writeRoute_host_keeps {s n v} : Keeps 77 s (State.writeRoute s .host n v) := by
  have h : Keeps 33554509 s (State.writeRoute s .host n v) := State.writeRoute_keeps
  refine h.sealed (fun w hs => ?_) (fun p => by cases p <;> exact id) id
  refine (?_ : Keeps 77 s _).lock (by rfl) w hs
  unfold State.writeRoute
  refine Keeps.ite (fun _ => Keeps.refl) (fun _ => ?_)
  extract_lets v1 v2
  refine Keeps.ite (fun k => absurd (State.mayRoute_host k) hs) (fun _ => ?_)
  exact Keeps.ite (fun _ => Keeps.refl.andThen State.violation_keeps (by rfl)) (fun _ => Keeps.refl)

theorem State.writeCore_host_keeps {s a2 a3} : KeepsO 24623871 s (State.writeCore s .host a2 a3) := by
  unfold State.writeCore
  extract_lets +onlyGivenNames -merge -useContext -underBinder v1
  refine KeepsO.ite (fun _ => ?_) (fun _ => ?_)
  · refine KeepsO.some ?_
    refine Keeps.andThen ?_ State.writeEvtGlobal_host_keeps (by rfl)
    exact Keeps.refl
  · refine KeepsO.ite (fun _ => ?_) (fun _ => ?_)
    · refine KeepsO.some ?_
      refine Keeps.andThen ?_ State.writeCi_keeps (by rfl)
      exact Keeps.refl
    · refine KeepsO.ite (fun ho => ?_) (fun _ => ?_)
      · extract_lets +onlyGivenNames -merge -useContext -underBinder v2
        have hc : v2 < 4 := by
          simp only [Bool.and_eq_true, decide_eq_true_eq] at ho
          unfold v2
          omega
        split
        · refine KeepsO.some ?_
          refine Keeps.andThen ?_ (State.writeEvtCore_host_keeps hc) (by rfl)
          exact Keeps.refl
        · refine KeepsO.some ?_
          refine Keeps.andThen ?_ State.writePop_keeps (by rfl)
          exact Keeps.refl
        · refine KeepsO.some ?_
          refine Keeps.andThen ?_ State.writeDone_keeps (by rfl)
          exact Keeps.refl
        · exact KeepsO.none
      · refine KeepsO.ite (fun _ => ?_) (fun _ => ?_)
        · refine KeepsO.some ?_
          refine Keeps.andThen ?_ State.writeRoute_host_keeps (by rfl)
          exact Keeps.refl
        · refine KeepsO.ite (fun _ => ?_) (fun _ => ?_)
          · refine KeepsO.some ?_
            refine Keeps.ite (fun _ => ?_) (fun _ => ?_)
            · refine Keeps.andThen ?_ (Keeps.flt) (by rfl)
              exact Keeps.refl
            · exact Keeps.refl
          · refine KeepsO.ite (fun _ => ?_) (fun _ => ?_)
            · refine KeepsO.some ?_
              refine Keeps.ite (fun _ => ?_) (fun _ => ?_)
              · refine Keeps.andThen ?_ State.clearFe_keeps (by rfl)
                exact Keeps.refl
              · exact Keeps.refl
            · refine KeepsO.ite (fun _ => ?_) (fun _ => ?_)
              · refine KeepsO.some ?_
                refine Keeps.andThen ?_ State.writeFaultClear_keeps (by rfl)
                exact Keeps.refl
              · refine KeepsO.ite (fun _ => ?_) (fun _ => ?_)
                · refine KeepsO.some ?_
                  refine Keeps.andThen ?_ State.writeHoldRequest_keeps (by rfl)
                  exact Keeps.refl
                · refine KeepsO.ite (fun _ => ?_) (fun _ => ?_)
                  · refine KeepsO.some ?_
                    refine Keeps.andThen ?_ State.writeLogRead_keeps (by rfl)
                    exact Keeps.refl
                  · refine KeepsO.ite (fun _ => ?_) (fun _ => ?_)
                    · refine KeepsO.some ?_
                      refine Keeps.andThen ?_ State.writeActiveRead_keeps (by rfl)
                      exact Keeps.refl
                    · refine KeepsO.ite (fun _ => ?_) (fun _ => ?_)
                      · refine KeepsO.some ?_
                        refine Keeps.andThen ?_ State.writeKick_keeps (by rfl)
                        exact Keeps.refl
                      · exact KeepsO.none

theorem State.writeReg_host_keeps {s off v} : Keeps 33553407 s (State.writeReg s .host off v) := by
  unfold State.writeReg
  split
  · exact Keeps.refl
  · refine Keeps.ite (fun _ => Keeps.refl) (fun _ => ?_)
    have hp : Keeps 33553407 s (s.putPlain .host off v) := Keeps.refl.andThen State.putPlain_keeps (by rfl)
    rcases h1 : s.writeCore .host off v with _ | t
    · rcases h2 : s.writeSecure off v with _ | t
      · rcases h3 : s.writeWork off v with _ | t
        · exact hp
        · exact (State.writeWork_keeps _ h3).mono (by rfl)
      · exact (State.writeSecure_keeps _ h2).mono (by rfl)
    · exact (State.writeCore_host_keeps _ h1).mono (by rfl)

theorem State.writeWords_host_keeps {s off l} : Keeps 33553407 s (State.writeWords .host off l s) := by
  induction l generalizing s off with
  | nil => exact Keeps.refl
  | cons w l ih => exact Keeps.andThen (Keeps.refl.andThen State.writeReg_host_keeps (by rfl)) ih (by rfl)

theorem execRegisterWrite_host_keeps {s off f l d} : Answers 33553407 s (execRegisterWrite .host off f l d s) := by
  unfold execRegisterWrite
  refine Answers.ite (fun _ => Answers.next ?_) (fun _ => Answers.next ?_)
  · exact Keeps.refl.andThen State.bump_keeps (by rfl)
  · exact Keeps.refl.andThen State.writeWords_host_keeps (by rfl)

end Sys2Proof.Machine
end

