-- ==== Sys2Proof/Laws/KeepTick.lean ====
section
/-! SUPPORT. One lemma for each operation of Machine/Tick.lean: the parts it may change, and that what must last lasts. -/

namespace Sys2Proof.Machine

theorem State.settle_keeps {s} : Keeps 24623869 s (State.settle s) := by
  unfold State.settle
  refine Keeps.andThen ?_ State.settleSlow_keeps (by rfl)
  refine Keeps.andThen ?_ State.settleStage_keeps (by rfl)
  refine Keeps.andThen ?_ State.settleFences_keeps (by rfl)
  refine Keeps.andThen ?_ State.settleSource_keeps (by rfl)
  exact Keeps.refl

end Sys2Proof.Machine
end

