-- ==== Sys2Proof/Laws/Tick.lean ====
section
/-! SUPPORT. What a tick can do: it settles what the tick before left, then time goes on, then the memory controllers, the reads of host
memory and the NVM header take their turns. -/

namespace Sys2Proof.Machine

/-- A settled state as a tick begins: one tick later, with the counters' values noted and the time counter advanced. -/
def State.later (u : State) : State :=
  { u with ticks := u.ticks + 1, regs := { u.regs with cnt0 := u.regs.cnt }, tb := if u.boot.running then u.tb.advance else u.tb }

@[simp] theorem State.later_ticks (u : State) : u.later.ticks = u.ticks + 1 := rfl
@[simp] theorem State.later_pending (u : State) : u.later.pending = u.pending := rfl
@[simp] theorem State.later_evt (u : State) : u.later.evt = u.evt := rfl

theorem State.later_wf {u : State} (h : u.wf) : u.later.wf := ⟨h.1, h.2.1, h.2.2.1, h.2.2.2.1, h.2.2.2.2.1, h.2.2.2.2.2.1, h.2.2.1⟩

/-- After time has gone on a tick changes the counters, the memory, the host link, the NVM and what is sent, and nothing else. -/
theorem tick_keeps (s : State) : Keeps 17563780 s.settle.later (tick s) := by
  unfold tick
  generalize s.settle = u
  unfold State.later
  dsimp only
  cases u.boot.running with
  | true => exact ((State.memTick_keeps.mono (by rfl)).andThen State.hostPace_keeps (by rfl)).andThen State.hdrTidy_keeps (by rfl)
  | false => exact .refl

theorem tick_wf {s : State} (h : s.wf) : (tick s).wf := by
  have k := (tick_keeps s).lasting.wf
  have hu := State.settle_keeps.lasting.wf h
  generalize s.settle = u at k hu
  exact k (State.later_wf hu)

theorem tick_ordered {s : State} (h : s.evt.Ordered) : (tick s).evt.Ordered := by
  have k := (tick_keeps s).lasting.queues
  have hu := State.settle_keeps.lasting.queues h
  generalize s.settle = u at k hu
  exact k hu

theorem tick_pending (s : State) : (tick s).pending = s.pending := by
  have k := (tick_keeps s).lasting.pending
  have hu := (State.settle_keeps (s := s)).lasting.pending
  generalize s.settle = u at k hu
  exact k.trans hu

theorem tick_ticks (s : State) : (tick s).ticks = s.ticks + 1 := by
  have k := (tick_keeps s).lasting.ticks
  have hu := (State.settle_keeps (s := s)).lasting.ticks
  generalize s.settle = u at k hu
  rw [k, State.later_ticks, hu]

end Sys2Proof.Machine
end

