-- ==== Sys2Proof/Laws/Words.lean ====
section
/-! SUPPORT. Words: what the field operations give, bit by bit. -/

namespace Sys2Proof.Machine

theorem wbit_testBit (w : Word) (i : Nat) : wbit w i = w.toNat.testBit i := by
  unfold wbit Nat.testBit
  rw [Nat.and_comm, Nat.and_one_is_mod]
  rcases Nat.mod_two_eq_zero_or_one (w.toNat >>> i) with h | h <;> simp [h]

theorem wput_toNat (w : Word) (n : Nat) : (wput w 31 30 n).toNat = w.toNat % 2 ^ 30 + (n % 4) * 2 ^ 30 := by
  unfold wput wfld Word.of
  have := w.isLt
  simp only [BitVec.toNat_ofNat, Nat.shiftRight_eq_div_pow]
  omega

theorem coreSt_wput (w : Word) (n : Nat) : coreSt (wput w 31 30 n) = n % 4 := by
  unfold coreSt
  have h := wput_toNat w n
  unfold wfld
  rw [h, Nat.shiftRight_eq_div_pow]
  omega

theorem wbit_wput (w : Word) (n i : Nat) (h : i < 30) : wbit (wput w 31 30 n) i = wbit w i := by
  rw [wbit_testBit, wbit_testBit, wput_toNat]
  have h2 := Nat.testBit_mod_two_pow w.toNat 30 i
  rw [decide_eq_true h, Bool.true_and] at h2
  rw [← h2, Nat.add_comm, Nat.mul_comm, Nat.testBit_two_pow_mul_add _ (Nat.mod_lt _ (by decide)), if_pos h]

theorem wbit_rwsNew (m : Nat) (o v : Word) (i : Nat) (hi : i < 32) : wbit (rwsNew m o v) i =
    (o.toNat.testBit i && (0xFFFFFFFF - m).testBit i || v.toNat.testBit i && m.testBit i) := by
  rw [wbit_testBit]
  unfold rwsNew Word.of
  rw [BitVec.toNat_ofNat, Nat.testBit_mod_two_pow, decide_eq_true hi, Bool.true_and, Nat.testBit_or, Nat.testBit_and, Nat.testBit_and]

end Sys2Proof.Machine
end

