-- ==== Sys2Proof/Tests/Slice0.lean ====
section
/-! SUPPORT. Tests of one step each: the well-formedness checks refuse ill-formed commands, and one named theorem per statement of
Certificates/Slice0/Obligations.lean shows that its hypotheses are met together, at the edges of their ranges where a clause has
one. Expected results are worked out by hand from the spec. -/

namespace Sys2Proof.Tests
open Sys2Proof Sys2Proof.Machine
set_option Elab.async false

/-- The stores of a state are canonical, as a check that evaluates. -/
def wfB (s : State) : Bool :=
  Sparse.wf rwsReset s.regs.rws && Sparse.wf rwReset s.regs.rw && Sparse.wf (fun _ => 0#32) s.regs.cnt &&
  Sparse.wf (fun _ => 0#9) s.mem.bytes && Sparse.wf rwsReset s.mem.trained && Sparse.wf erased s.nvm.flash && Sparse.wf (fun _ => 0#32) s.regs.cnt0

theorem wf_of {s : State} (h : wfB s = true) : s.wf := by
  simp only [wfB, Bool.and_eq_true] at h
  obtain ⟨⟨⟨⟨⟨⟨a, b⟩, c⟩, d⟩, e⟩, f⟩, g⟩ := h
  exact ⟨a, b, c, d, e, f, g⟩

/-! Well-formedness: for each check a term that it refuses, beside one that it takes. -/

def rep9 (n : Nat) : StageReport := ⟨List.replicate n true, true, none, [], true, true, List.replicate 4 true, List.replicate 16 true, true⟩

theorem test_wf_registerWrite : Instr.wf (.registerWrite .host 4 15 0 [1]) = true ∧ Instr.wf (.registerWrite .host 2 15 0 [1]) = false ∧
    Instr.wf (.registerWrite .host 4 15 0 []) = false ∧ Instr.wf (.registerWrite .host 0x3FFFFFC 15 15 [1, 2]) = false := by decide
theorem test_wf_bar2 : Instr.wf (.bar2Read 0 8) = true ∧ Instr.wf (.bar2Read 0 0) = false ∧ Instr.wf (.bar2Read 0xFFFFFFFFF 2) = false ∧
    Instr.wf (.bar2Write 0 [1]) = true ∧ Instr.wf (.bar2Write 0 []) = false ∧ Instr.wf (.bar2Write 0x1000000000 [1]) = false := by decide
theorem test_wf_core_only : Instr.wf (.evtPop .host 0 1) = false ∧ Instr.wf (.evtDone .host 0 1) = false ∧
    Instr.wf (.evtCoreStateWrite .host 0 1) = false ∧ Instr.wf (.coreKick .host 0 1) = false ∧ Instr.wf (.evtPop (.core 1) 0 1) = true := by decide
theorem test_wf_keys : Instr.wf (.holdRequest 0x401D0000) = false ∧ Instr.wf (.holdRequest 1) = false ∧ Instr.wf (.holdRequest 0x401D0001) = true ∧
    Instr.wf (.restart 0x5A3B0001) = false ∧ Instr.wf (.ownerEnrol 0x0E4C0000 true) = false ∧ Instr.wf (.zeroise 0) = false ∧
    Instr.wf (.zeroisePermanent 0) = false ∧ Instr.wf (.handover 0) = false ∧ Instr.wf (.mend 0) = false := by decide
theorem test_wf_schedule_and_pulse : Instr.wf (.scheduleOccurrence 256) = false ∧ Instr.wf (.scheduleOccurrence 255) = true ∧
    Instr.wf (.laprefPulse 0 0) = false ∧ Instr.wf (.laprefPulse 1 0) = true := by decide
theorem test_wf_stagePull : Instr.wf (.stagePullDone (List.replicate 65537 (0, 0)) [] false) = false ∧ Instr.wf (.stagePullDone [] [] false) = true := by
  constructor
  · simp only [Instr.wf, List.length_replicate]; decide
  · decide
theorem test_wf_slots : Instr.wf (.trimSlotEnd 0 true [] []) = false ∧ Instr.wf (.trimSlotEnd 0 true [1] [0]) = false ∧
    Instr.wf (.trimSlotEnd 0 false [] []) = true ∧ Instr.wf (.hkSlot ⟨0, [1]⟩) = false ∧ Instr.wf (.hkSlot ⟨0, []⟩) = true := by decide
def place0 : HbmPlaces := ⟨List.replicate 16 0, List.replicate 640 0, List.replicate 48 0⟩
theorem test_wf_training : Instr.wf (.hbmTrainingDone [[1]] [] 0 place0) = false ∧ Instr.wf (.hbmTrainingDone [] [] 0 { place0 with slotBase := [] }) = false ∧
    Instr.wf (.hbmTrainingDone [] [] 0 { place0 with canvasBase := [] }) = false ∧ Instr.wf (.hbmTrainingDone [] [] 0 { place0 with flowBase := [] }) = false ∧
    Instr.wf (.hbmTrainingDone [] [] 0 place0) = true ∧ Instr.wf (.fabricTrimDone []) = false ∧
    Instr.wf (.fabricTrimDone [[[1]], [], [], []]) = false ∧ Instr.wf (.fabricTrimDone [[[1, 2, 3, 4]], [], [], []]) = true := by decide +kernel
/-- 3 lanes are no width of Table 9.1, and 64 GT/s comes in FLIT mode only. -/
theorem test_wf_link : Instr.wf (.pcieLinkTrained 1 3 false confReset) = false ∧ Instr.wf (.pcieLinkTrained 6 4 false confReset) = false ∧
    Instr.wf (.pcieLinkTrained 6 4 true confReset) = true ∧ Instr.wf (.stageEraseDone ⟨0, true⟩) = false ∧ Instr.wf (.stageEraseDone ⟨1, true⟩) = true ∧
    Instr.wf (.stageProgramDone ⟨0, true⟩) = false ∧ Instr.wf (.stageProgramDone ⟨1, false⟩) = true := by decide
theorem test_wf_stages : Instr.wf (.sbStageComplete (rep9 8)) = false ∧ Instr.wf (.sbStageTimeout (rep9 8)) = false ∧
    Instr.wf (.sbStageComplete (rep9 9)) = true ∧ Instr.wf (.sbStageComplete { rep9 9 with ethLoop := [] }) = false ∧
    Instr.wf (.sbStageTimeout { rep9 9 with chainLoop := [] }) = false := by decide

/-- No word spells a command: the table gives its rows no bits. -/
theorem test_no_word_decodes : decodeTableWord 8 0 = none ∧ (State.reset.withFetchWord 32 5).pending = [] := ⟨rfl, rfl⟩

/-! Small states. -/

def z : State := State.reset
/-- A started, sealed device in full service, at tick 10^10. -/
def live : State :=
  { z with
    boot := { z.boot with running := true, stage := 5, sealWhen := .endSb4 }
    tl := { z.tl with on := true, service := true, warm := false }, sc := { z.sc with shown := true }
    pwr := { z.pwr with serdes := true }, ticks := 10000000000 }
def rec1 : EvtRec := ⟨1, 2, 3, false, false, 0, true, 0, []⟩
def rec2 : EvtRec := ⟨1, 2, 3, true, false, 0, true, 0, []⟩
theorem live_wf : live.wf := wf_of (by decide)

theorem witness_StepRunsTheFrontCommand : ({ z with pending := [.powerLoss] } : State).pending = .powerLoss :: [] ∧ z.pending = [] := ⟨rfl, rfl⟩
theorem witness_CommandsWaitInOrder : (∃ t, step z = .next t) ∧ ∃ t, step { z with pending := [.powerLoss] } = .next t := ⟨⟨_, rfl⟩, ⟨_, rfl⟩⟩
theorem witness_IdleTickAdvancesTheCounter : live.pending = [] ∧ live.boot.running = true ∧ live.tb.ns < 1000000000 ∧ live.tb.frac < 2 ^ 32 ∧ live.tb.sec < 2 ^ 48 ∧
    live.tb.judge = false ∧ (∀ n, n < 16 → (live.fence n).priorLive = false) ∧ live.boot.stageDue = false ∧ live.boot.limpDue = false ∧
    live.fab.slowDue = false := by
  decide
/-- The last nanosecond of a second is counted on into the next. -/
theorem test_tick_carries : (tick { live with tb := { live.tb with ns := 999999999 } }).tb.sec = 1 := by decide +kernel
theorem witness_CommandsLeaveWhatLasts : ∃ t, exec .powerLoss z = .next t := ⟨_, rfl⟩
theorem witness_CommandsTouchOnlyTheirParts : ∃ t, exec (.attestNonceWrite 0 1) z = .next t := ⟨_, rfl⟩
theorem witness_StepKeepsStoresCanonical : z.wf ∧ ∃ t, step z = .next t := ⟨wf_of (by decide), ⟨_, rfl⟩⟩
theorem witness_SealStopsHostWrites : live.wf ∧ live.boot.sealWhen ≠ .notYet ∧
    (∃ t, exec (.registerWrite .host 0 15 0 [1]) live = .next t) := ⟨live_wf, by decide, ⟨_, rfl⟩⟩
theorem witness_SealHoldsUntilTheNextStart : live.wf ∧ live.boot.sealWhen ≠ .notYet ∧ ∃ t, exec (.lampWatchWrite 1) live = .next t :=
  ⟨live_wf, by decide, ⟨_, rfl⟩⟩
theorem witness_SplitComparison : (0 < 2 ^ 40 ∧ 2 ^ 40 - 1 < 2 ^ 40) ∧ (2 ^ 39 - 1 : Int) - 0 < 2 ^ 39 ∧ (0 : Int) - (2 ^ 39 - 1) < 2 ^ 39 := by decide
def plan1 : LapPlan := { LapPlan.none with rateN := 60, rateD := 1, legs := 4 }
theorem witness_BoundariesAreCeilings : 0 < plan1.rateN ∧ 0 < plan1.legs ∧ 0 < plan1.rateD := by decide
theorem witness_QueuesStayInOrder : z.evt.Ordered ∧ ∃ t, step z = .next t := by
  refine ⟨?_, ⟨_, rfl⟩⟩
  unfold Evt.Ordered inOrder
  decide

/-- Core 1 has a normal and a fast record waiting, and source 3 active. -/
def popS : State := { z with evt := { z.evt with cores := setAt z.evt.cores 1 { CoreQ.reset with normal := [rec1], fast := [rec2], active := [3] } } }
theorem witness_PopAndDone : popS.wf ∧ popS.evt.cores.length = 4 ∧
    (wbit 1 0 = true ∧ (popS.evt.core 1).queue (wbit 1 1) = [rec1]) ∧ (wbit 3 0 = true ∧ (popS.evt.core 1).queue (wbit 3 1) = [rec2]) ∧
    (wbit 0x80000003 31 = true ∧ (popS.evt.core 1).active.contains (wfld 0x80000003 8 0) = true) ∧
    (wbit 0x800001FF 31 = true ∧ (popS.evt.core 1).active.contains (wfld 0x800001FF 8 0) = false) := ⟨wf_of (by decide), by decide⟩
/-- The state a command answers; the state before where it answers none. -/
def after (c : Instr) (s : State) : State := match exec c s with | .next t => t | _ => s
theorem test_pop : ((after (.evtPop (.core 1) 1 3) popS).evt.core 1).fast = [] ∧ ((after (.evtPop (.core 1) 1 3) popS).evt.core 1).active = [3, 3] := by decide
theorem witness_EventRegisterWrites : live.wf ∧ z.variant.routeAbsent 0 = false ∧
    (∃ n : Fin 512, ({ z with variant := .hx42p } : State).variant.routeAbsent n = true) ∧ live.boot.sealWhen ≠ .notYet := by
  refine ⟨live_wf, by decide, ⟨101, ?_⟩, by decide⟩
  decide

def ringS : State := { live with
  host := { live.host with attached := true }, evt := { live.evt with hostQ := [rec1, rec2] } }
theorem witness_HostRingTakesRecordsInOrder : (ringS.host.attached = true ∧ ringS.ringSpace = true ∧ ringS.evt.hostQ = rec1 :: [rec2] ∧ rec1.tick < ringS.ticks ∧ ringS.evt.dropped = 0) ∧
    z.host.attached = false ∧ ({ ringS with evt := { ringS.evt with pi := 1048576 } } : State).ringSpace = false ∧
    (∀ r ∈ ({ ringS with ticks := 1 } : State).evt.hostQ.head?, ({ ringS with ticks := 1 } : State).ticks ≤ r.tick) ∧
    ringS.evt.idxTick + 100 * 625000 ≤ ringS.ticks := by decide

/-- A log with one record of source 0, kind 1, severity 1, stamped now. -/
def fltS : State := { live with
  regs := { live.regs with rws := Sparse.set rwsReset live.regs.rws Reg.faultCfg 4 }
  flt := { live.flt with log := [⟨5, 10000000000, 1, 1, 0, [], 0, 0, true, true, true, 1⟩], next := 6 } }
theorem witness_FaultLogTakesAMessage : fltS.wf ∧ (fltSrcOk 300 && fltKindOk 1) = false ∧ (fltSrcOk 0 && fltKindOk 1) = true ∧
    ((fltS.bump (Reg.faultCount (fltS.sevOf 1 0))).coalesced ⟨1, 0, []⟩ (fltS.sevOf 1 0)).isSome = true ∧ (∀ c ∈ fltS.flt.clrd, c.1 ≠ fltS.ticks) ∧ fltS.flt.later fltS.ticks (1, 0, 1) = [] :=
  ⟨wf_of (by decide), by decide⟩
/-- SOURCE 260 and KIND 0x15 are the last of their ranges; 261, 511 and 1055, and 0x16, 0x3F and 0x67 are reserved. -/
theorem test_fault_ranges : fltSrcOk 260 = true ∧ fltSrcOk 261 = false ∧ fltSrcOk 511 = false ∧ fltSrcOk 512 = true ∧ fltSrcOk 1054 = true ∧ fltSrcOk 1055 = false ∧
    fltKindOk 0 = false ∧ fltKindOk 0x15 = true ∧ fltKindOk 0x16 = false ∧ fltKindOk 0x3F = false ∧ fltKindOk 0x66 = true ∧ fltKindOk 0x67 = false := by decide
/-- One active entry of source 0: kind 1, whose cause is taken as present, or kind 0x15, whose cause is not. -/
def actS (kind : Nat) : State := { live with flt := { live.flt with active := [⟨0, kind, 1, 0⟩] } }
theorem witness_FaultClearAndReads : live.wf ∧ wbit 0x80015000 31 = true ∧
    (∀ e ∈ live.flt.active, ¬ (e.src = wfld 0x80015000 11 0 ∧ e.kind = wfld 0x80015000 19 12)) ∧
    ((actS 1).flt.active.find? (fun e => e.src == wfld 0x80001000 11 0 && e.kind == wfld 0x80001000 19 12) = some ⟨0, 1, 1, 0⟩ ∧
      ({ actS 1 with flt := { (actS 1).flt with clrRefused := 0 } } : State).causePresent 1 0 = true) ∧
    ((actS 0x15).flt.active.find? (fun e => e.src == wfld 0x80015000 11 0 && e.kind == wfld 0x80015000 19 12) = some ⟨0, 0x15, 1, 0⟩ ∧
      ({ actS 0x15 with flt := { (actS 0x15).flt with clrRefused := 0 } } : State).causePresent 0x15 0 = false) :=
  ⟨live_wf, by decide⟩
/-- Unit n is stopping; core 0's watchdog has a period of 10 ms and has had no KICK. -/
def stopS (n : Nat) : State := { live with flt := { live.flt with units := setAt live.flt.units n ⟨.stopping, false, 0⟩ } }
def wdtS : State := { live with regs := { live.regs with rws := Sparse.set rwsReset [] (Reg.coreWdt 0) 10 } }
theorem witness_HoldWatchdogAndStops :
    (wfld 0x401D0001 31 16 = 0x401D ∧ wbit 0x401D0001 0 = true) ∧ wfld 0x401E0001 31 16 ≠ 0x401D ∧
    (live.flt.kickTick.length = 4 ∧ wbit 1 0 = true ∧
      (let s : State := { live with flt := { live.flt with units := setAt live.flt.units 0 ⟨.starting, false, 0⟩ } }
       (s.flt.unit 0).st = .starting ∧ 0 < s.flt.units.length)) ∧
    wdtS.wdtDue 0 = true ∧
    ([0, 3, 18].all fun n => ((stopS n).flt.unit n).st == .stopping && !((stopS n).flt.unit n).enPend && (stopS n).flt.units.length == 19 &&
      !((stopS n).port (n - 3)).clock) ∧
    (let s : State := { live with flt := { live.flt with hold := .held, holdTick := 9375000000 }, cfg := { live.cfg with holdTime := 1 } }
     s.flt.hold = .held ∧ s.flt.holdFresh = false ∧ s.cfg.holdTime ≠ 0 ∧ s.flt.holdTick + s.cfg.holdTime * 625000000 ≤ s.ticks) ∧
    (let s : State := { live with flt := { live.flt with shutTick := some 9999875000 } }
     s.flt.shutTick = some 9999875000 ∧ s.flt.shutDone = false ∧ 9999875000 + 125000 ≤ s.ticks) := by
  decide

/-- A key pair whose secret scalar is 1, for containers and tokens made here. -/
def key1 : List Byte := beBytes 32 p256Gx ++ beBytes 32 p256Gy
/-- Its signature with nonce 1. -/
def sig1 (m : List Byte) : List Byte := beBytes 32 (p256Gx % p256N) ++ beBytes 32 ((beNat (sha256 m) + p256Gx % p256N) % p256N)
/-- A container of a kind and body, for every variant. -/
def box (kind : Nat) (body : List Byte) : List Byte :=
  let m : List Byte := [0x48, 0x58, 0x49, 0x4D, 1, byte kind, 7, 0] ++ leBytes 4 body.length ++ leBytes 4 9 ++ List.replicate 48 0 ++ body
  m ++ key1 ++ sig1 m
/-- A device whose fuses hold the hash of that key. -/
def keyed : State := { live with fuses := { live.fuses with ownerHash := sha256 key1, vendorHash := sha256 key1 } }
def stageS (state : Nat) (image : List Byte) : State := { keyed with
  nvm := { keyed.nvm with size := 0, present := true }
  host := { keyed.host with attached := true, stage := { keyed.host.stage with state := state, image := image, kind := 2 } } }
def stageE : State := { stageS 1 [] with regs := { live.regs with rw := Sparse.set rwReset live.regs.rw Reg.stageEntries 1 }, mem := { live.mem with ok := true } }
def opS (state : Nat) (image : List Byte) (j : NvmJob) : State :=
  { stageS state image with nvm := { (stageS state image).nvm with op := some ⟨j, false⟩ } }
def listS (image : List Byte) : State :=
  { stageE with host := { stageE.host with stage := { stageE.host.stage with list := [(4096, 192)], pos := 1, image := image } } }
theorem witness_StagingPasses :
    (let s : State := { stageE with host := { stageE.host with stage := Stage.reset } }
     s.host.stage.runs = false ∧ s.host.attached = true ∧ s.mem.ok = true ∧ 1 ≤ s.stageCount ∧ s.stageCount ≤ 65536 ∧ wbit 1 1 = false) ∧
    ((stageS 1 []).host.stage.runs = true ∧ wbit 2 0 = false ∧ (stageS 1 []).stageWriting = false ∧ (opS 3 [] (.stErase 0 1)).stageWriting = true ∧
      (opS 3 [] (.stErase 0 1)).host.stage.runs = true) ∧
    (stageE.host.stage.state = 1 ∧ stageE.host.attached = true ∧ stageE.host.stage.list = [] ∧ stageListOk [(4096, 192)] = true ∧
      [(4096, 192)].length = stageE.stageCount ∧ listBytes [(4096, 192)] ≠ 0 ∧ listBytes [(4096, 192)] ≤ max (stageE.slotSize 1) (stageE.slotSize 3)) ∧
    ([100, 192].all fun n => let s := listS []; let b := s.host.stage.image ++ List.replicate n (2 : Byte)
      s.host.stage.state == 1 && s.host.attached && s.host.stage.list != [] && decide (b.length ≤ listBytes (s.host.stage.list.take s.host.stage.pos)) &&
      decide (listBytes s.host.stage.list ≤ s.slotSize (leAt b 5 1))) = true ∧
    (100 < listBytes [(4096, 192)] ∧ listBytes [(4096, 192)] ≤ 192) ∧
    (let s := stageS 2 (box 2 [])
     s.host.stage.state = 2 ∧ s.host.stage.wait = false ∧ s.stageCheck = 0 ∧ s.nvm.hdr.trial (leAt s.host.stage.image 5 1) = false) ∧
    (stageS 2 []).stageCheck ≠ 0 ∧
    (let s : State := { stageS 2 (box 2 []) with host := { (stageS 2 (box 2 [])).host with stage := { (stageS 2 (box 2 [])).host.stage with wait := true } } }
     s.host.stage.state = 2 ∧ s.host.stage.wait = true ∧ s.stageHeld = false) ∧
    ((opS 3 [] (.stErase 0 2)).nvm.op = some ⟨.stErase 0 2, false⟩ ∧ (opS 3 [] (.stErase 0 2)).nvm.frozen = false ∧
      (opS 3 [] (.stErase 0 2)).host.stage.abort = false ∧ 2 ≤ max 1 2 ∧ max 1 1 < 2) ∧
    ((opS 4 [] (.stProg 0 (List.replicate 257 0))).nvm.op = some ⟨.stProg 0 (List.replicate 257 0), false⟩ ∧
      (List.replicate 257 (0 : Byte)).length ≤ 256 * max 1 2 ∧ 256 * max 1 1 < (List.replicate 257 (0 : Byte)).length) ∧
    (let s : State := { opS 5 [1] .stRead with host := { (stageS 5 [1]).host with stage := { (stageS 5 [1]).host.stage with sealHash := sha256 [0xFF] } } }
     s.nvm.op = some ⟨.stRead, false⟩ ∧ s.nvm.frozen = false ∧
       sha256 (flashRead s.nvm.flash (areaAddr s.stageArea) s.host.stage.image.length) = s.host.stage.sealHash) ∧
    sha256 (flashRead (stageS 5 [1]).nvm.flash (areaAddr (stageS 5 [1]).stageArea) 1) ≠ (stageS 5 [1]).host.stage.sealHash := by
  decide +kernel
/-- The STAGED header that ends a stage is being programmed, on a variant without MACsec. -/
theorem witness_StagedHeader :
    let h : NvmHeader := ⟨3, 0, 0, false, false, [2, 2, 2, 2, 2]⟩
    let s : State := { opS 5 [1] (.header 0 h) with variant := .hx42p, host := { (stageS 5 [1]).host with stage := { (stageS 5 [1]).host.stage with mark := true } } }
    s.nvm.op = some ⟨.header 0 h, false⟩ ∧ s.nvm.frozen = false ∧ s.host.stage.mark = true ∧ h.area s.stageArea = 2 ∧ ∀ e, s.macsecOn e = false :=
  ⟨rfl, rfl, rfl, by decide, fun _ => rfl⟩

def jrec : JRec := ⟨3, 0, 0, 0, 0, false, 0, []⟩
theorem witness_NvmOperations : live.wf ∧ (live.nvm.present = false ∧ ({ live.nvm with present := true } : Nvm).frozen = false) ∧
    (let s : State := { live with nvm := { live.nvm with op := some ⟨.jread 4, false⟩, rdSeq := 4, rdBusy := true } }
     s.nvm.op = some ⟨.jread 4, false⟩ ∧ s.nvm.rdSeq = 4 ∧ s.nvm.rdBusy = true ∧ s.nvm.findRec 4 = none) ∧
    (let s : State := { live with nvm := { live.nvm with op := some ⟨.record jrec, false⟩ } }
     s.nvm.op = some ⟨.record jrec, false⟩ ∧ jrec.kind ≠ 0 ∧ NvmJob.op (.record jrec) ≠ 1 ∧ NvmJob.staging (.record jrec) = false ∧ s.nvm.frozen = false) ∧
    (∀ e, ({ live with variant := .hx42p } : State).macsecOn e = false) ∧
    (let s : State := { live with nvm := { live.nvm with frozen := true }, flt := { live.flt with shutDone := true } }
     s.nvm.frozen = true ∧ s.nvm.freezeTick + 5 * 625000 ≤ s.ticks ∧ s.flt.shutDone = true) :=
  ⟨live_wf, by decide, by decide, by decide, fun _ => rfl, by decide⟩

/-- Housekeeping runs, in a slot; nothing has been read yet. -/
def hkS (slot : Nat) : State := { live with hk := { live.hk with running := true, slot := slot } }
theorem witness_HousekeepingAndHurdle :
    ([(0, (-640 : Int)), (0, 800), (3, 1000)].all fun (n, v) => (hkS n).slotDue && decide ((hkS n).hk.slot < 12) && (hkS n).hk.chans.length == 16 &&
      !((hkS n).hk.chan (hkS n).hk.slot).broken && decide (-640 ≤ (hkS n).hkValue n v) && decide ((hkS n).hkValue n v < 1888) &&
      !((hkS n).crossFails n v) && decide (v < 16 * (hkS n).hotLevel n) && (hkS n).holdLevel n == 0) ∧
    ([(12, (4500 : Int)), (13, 18000)].all fun (n, v) => (hkS n).slotDue && !(supplyOut n v)) ∧ supplyOut 12 4499 = true ∧ supplyOut 12 18001 = true ∧
    (let s : State := { live with boot := { live.boot with stage := 4, sealWhen := .notYet } }
     s.boot.stage = 4 ∧ s.boot.sealWhen = .notYet ∧ (∀ x ∈ s.hk.fabTrim, x.1 = 0) ∧
     ((List.range 4).all fun g => (trimStage ((List.replicate 4 [[79, 80, 150, 200]]).getD g [])).isSome)) ∧
    (live.fab.lost = false ∧ live.boot.running = true ∧ 4 ≤ live.boot.stage ∧ live.boot.stage ≠ 6) ∧
    (let s : State := { live with fab := { live.fab with runTick := some 0, qTick := some 0 } }
     s.fab.runTick.isSome = true ∧ s.boot.stage ≠ 7 ∧ s.fab.qTick.isSome = true ∧ s.queryFigures (s.rw Reg.hurdleQuery) = none) := by
  decide

theorem witness_PowerAndReset :
    (let s : State := { z with tb := { z.tb with refClk := true }, pwr := { z.pwr with waiting := true } }
     s.pwr.pwrgd = false ∧ s.tb.refClk = true ∧ s.pwr.waiting = true) ∧ live.pwr.waiting = false ∧
    (z.pwr.feedA = false ∧ z.pwr.feedB = false) ∧
    (let s : State := { live with tb := { live.tb with refClk := true }, pwr := { live.pwr with resetN := true, trstN := true } }
     s.tb.refClk = true ∧ s.boot.startTick ≠ s.ticks ∧ s.inSb0 = false ∧ s.pwr.resetN = true ∧ s.boot.running = true ∧ s.flt.shutTick = none ∧ s.pwr.trstN = true) ∧
    (let s : State := { live with tb := { live.tb with refClk := true }, boot := { live.boot with stage := 0 } }
     s.tb.refClk = true ∧ s.inSb0 = true) ∧
    (let s : State := { live with pwr := { live.pwr with pwrgd := true }, boot := { live.boot with stage := 0, startTick := live.ticks } }
     s.pwr.feedA = false ∧ s.pwr.pwrgd = true ∧ s.boot.running = true ∧ s.boot.stage = 0 ∧ s.boot.startTick = s.ticks) ∧
    (z.pwr.resetN = false ∧ z.pwr.pwrgd = false ∧ ({ z.pwr with pwrgd := true } : Power).resetN = false) := by
  decide

/-- SB0 with three rounds of good die readings and the clock; SB4 with all it waits for. -/
def sb0S : State := { z with
  boot := { z.boot with running := true }, hk := { z.hk with running := true, rounds := 3, chans := List.replicate 16 ⟨800, false, 0, 0, 0, true, 0, 0⟩ }
  fuses := { z.fuses with cert := [0x48, 0x58, 0x49, 0x44, 1, 0, 0, 0] ++ List.replicate 8 0 ++ pubOf (identityKey z.fuses.seed) ++ List.replicate 80 0 }
  tb := { z.tb with refClk := true }, ticks := 37500000 }
def sb4S : State := { sb0S with
  boot := { sb0S.boot with stage := 4 }, mem := { sb0S.mem with ok := true }, fab := { sb0S.fab with runs := 1 }
  hk := { sb0S.hk with fabTrim := List.replicate 4 (1, 0, 0, 0) }
  cfg := { sb0S.cfg with plans := [plan1], scenes := [⟨0, []⟩] } }
def slate1 : List Byte := box 3 ([1, 1, 0, 0, 8, 0, 0, 0] ++ [1, 0, 1, 0, 5, 0, 0, 0])
def slateS : State := { keyed with
  nvm := { keyed.nvm with size := 0, present := true, flash := flashWrite [] ownerAddr slate1 }, warm := { keyed.warm with loading := true } }
theorem witness_StartingStages :
    (sb0S.boot.running = true ∧ sb0S.flt.shutTick = none ∧ sb0S.boot.stage = 0 ∧ 3 ≤ sb0S.hk.rounds ∧ sb0S.sb0Fail (rep9 9) = none ∧
      sb0S.sb0Fail { rep9 9 with lineStore := false } = some (3, 0) ∧ (3 : Nat) ≠ 1 ∧ sb0S.boot.stageTick + 60 * 625000 ≤ sb0S.ticks) ∧
    (sb4S.boot.running = true ∧ sb4S.boot.stage = 4 ∧ sb4S.boot.sealWhen = .notYet ∧ sb4S.sb4Ready = true ∧ sb4S.tl.stepB = none ∧
      (sb4S.seal .endSb4).planWhy sb4S.cfg.initPlan = 0 ∧ (sb4S.seal .endSb4).sceneWhy sb4S.cfg.initScene = 0) ∧
    (wfld 0x5A3C0000 31 16 = 0x5A3C ∧ ({ live.boot with stage := 6 } : Boot).stage = 6 ∧ live.flt.shutTick = none) ∧
    (let s : State := { live with boot := { live.boot with restart := true }, nvm := { live.nvm with freezeTick := 0 } }
     s.boot.restart = true ∧ s.nvm.op = none ∧ s.nvm.freezeTick + 5 * 625000 ≤ s.ticks) ∧
    (slateS.warm.loading = true ∧ slateS.nvm.jobs = [] ∧ slateS.nvm.op = none  ∧ slateS.warm.bufs.length = 2 ∧ (slateS.ownerImage.bind slateOf).isSome = true) ∧
    (let s : State := { live with warm := { live.warm with present := true, done := some 9375000000 } }
     s.warm.present = true ∧ s.warm.done = some 9375000000 ∧ 9375000000 + 625000000 ≤ s.ticks) := by
  decide +kernel

/-- A debug token for every scope but the vendor's, signed by the owner's key. -/
def tokenB : List Byte :=
  let m : List Byte := [0x48, 0x58, 0x44, 0x42, 1, 1, 0, 0] ++ leBytes 8 0 ++ List.replicate 48 0
  m ++ key1 ++ sig1 m
theorem witness_SecurityCommands :
    (let s : State := { z with boot := { z.boot with stage := 6 } }
     wfld 0x0E4C0001 31 16 = 0x0E4C ∧ wbit 0x0E4C0001 0 = true ∧ s.mayEnrol = true) ∧
    (live.sec.busy = none ∧ live.sec.opened ≠ some live.ticks ∧ live.sec.idKey = none ∧ live.sec.err = false ∧
      ({ live.sec with opened := some live.ticks } : Sec).opened = some live.ticks) ∧
    (let s : State := { live with sec := { live.sec with idKey := some 1, busy := some 5 } }
     s.sec.idKey.isSome = true ∧ s.sec.err = false ∧ s.sec.busy = some 5) ∧
    (keyed.sec.fails < 8 ∧ keyed.sec.busy = none ∧ keyed.tokenOk = false ∧ ({ keyed with sec := { keyed.sec with token := tokenB, chal := List.replicate 32 0 } } : State).tokenOk = true) ∧
    wfld 0xD1E50000 31 16 = 0xD1E5 := by
  decide +kernel
/-- An attached link, with 256-entry ring, everything aligned. -/
def linkS : State := { live with
  host := { live.host with link := true, conf := { confReset with master := true }, attached := true, perst := false }
  regs := { live.regs with rw := Sparse.set rwReset [] Reg.hostRingSize 8 } }
theorem witness_HostLinkAndAttachment :
    (live.pwr.serdes = true ∧ live.host.perst = false ∧ linkOk 6 16 true = true ∧ linkOk 1 1 false = true ∧
      ({ confReset with master := true } : HostConf).master = true ∧ confReset.master = false) ∧ linkS.host.attached = true ∧ wbit 0 0 = false ∧
    ({ z.host with perst := true } : HostPort).perst = true ∧
    (linkS.wf ∧ wbit 1 1 = false ∧ ({ linkS with host := { linkS.host with attached := false } } : State).attachFail = 0) ∧
    (live.wf ∧ live.host.attached = false ∧ live.attachFail ≠ 0 ∧ live.evt.hostQ = []) :=
  ⟨by decide, by decide, by decide, by decide, ⟨wf_of (by decide), by decide, by decide⟩, live_wf, by decide⟩

/-- Surface 2, 3 × 2 pixels, with a pull in progress. -/
def surfWords : List Word := [0x00200000, 0x00020003, 0x100, 0] ++ List.replicate 12 0
def pull0 : Pull := ⟨7, 1, 0, 0, none, 0, none, 0, 0, 2, false⟩
def pullS (p : Pull) : State := { linkS with
  cfg := { linkS.cfg with surfs := [⟨2, surfWords⟩] }, host := { linkS.host with surfs := setAt linkS.host.surfs 2 { (linkS.surf 2) with pull := some p } } }
def line12 : List Byte := List.replicate (SurfRec.lineBytes (SurfRec.parse surfWords)) 0
theorem witness_HostSurfacePulls :
    (pullS pull0).surfRec? 2 = some (SurfRec.parse surfWords) ∧ (SurfRec.parse surfWords).h = 2 ∧ (SurfRec.parse surfWords).bad = false ∧ (pullS pull0).host.surfs.length = 16 ∧
    ((pullS pull0).surf 2).pull = some pull0 ∧
    (leBytes 8 0x1000).length = 8 ∧ pull0.addr = none ∧ leAt (leBytes 8 0x1000) 0 8 ≠ 0 ∧ leAt (leBytes 8 0x1000) 0 8 % 256 = 0 ∧ pull0.line = 0 ∧
    (let p : Pull := { pull0 with addr := some 4096, line := 1 }
     ((pullS p).surf 2).pull = some p ∧ p.line < 2 ∧ p.line < p.sent ∧ line12.length = (SurfRec.parse surfWords).lineBytes) ∧ (1 : Fin 4).val ≠ 0 ∧
    (let p : Pull := { pull0 with addr := some 4096, line := 2 }
     p.addr = some 4096 ∧ 2 ≤ p.line ∧ p.warm = false) := by
  decide

def memS : State := { live with mem := { live.mem with ok := true, stks := List.replicate 4 { StackSt.reset with phase := .active } } }
def restS : State := { memS with mem := { memS.mem with stks := setAt memS.mem.stks 0 { StackSt.reset with phase := .selfRefresh } } }
theorem witness_HbmWindow :
    (8 ≠ 0 ∧ (0x40 : BitVec 40).toNat < 2 ^ 36 ∧ restS.bar2Waits restS.host.waits (.read 0x40 8) = true ∧ memS.bar2Waits memS.host.waits (.read 0x40 8) = false ∧
      memS.bar2Waits [.write 0x40 [1]] (.read 0x40 8) = true) ∧
    (memS.wf ∧ memS.boot.stage ≠ 7 ∧ (0x40 : BitVec 40).toNat < memS.bar2Top ∧ [(1 : Byte)] ≠ [] ∧ memS.boot.sealWhen ≠ .notYet) ∧
    ({ memS with boot := { memS.boot with sealWhen := .notYet } } : State).boot.sealWhen = .notYet ∧ memS.inTable 0xF00000000 = false ∧
    (restS.bar2Waits [] (.write 0x40 [1]) = true ∧ memS.bar2Waits [] (.write 0x40 [1]) = false) :=
  ⟨by decide +kernel, ⟨wf_of (by decide), by decide, by decide, by decide, by decide⟩, by decide, by decide, by decide +kernel⟩

def pcS (q : PcSt) : State := { memS with mem := { memS.mem with pcs := setAt memS.mem.pcs 0 q } }
theorem witness_ControllersServe : memS.mem.pcs.length = 128 ∧ memS.mem.stks.length = 4 ∧
    (memS.mem.ok = true ∧ (0 : BitVec 40).toNat < memS.variant.hbmBytes ∧ stackOf (memS.place 0).pc < 4 ∧ rtClass 7 = false ∧ rtClass 0 = true ∧
      memS.panicMark 0 ≤ (16384 : Fin 16385)) ∧
    ((pcS { PcSt.reset with flight := [⟨0, 0, false, 0⟩] }).mem.pc 0).flight = [⟨0, 0, false, 0⟩] ∧
    (memS.pcRuns 0 = true ∧ (memS.mem.pc 0).refTick + memS.refiPb 0 ≤ 64 * memS.ticks) ∧
    (let s := pcS { PcSt.reset with rows := [⟨3, 5, 0⟩] }
     s.pcRuns 0 = true ∧ (s.mem.pc 0).rows = [⟨3, 5, 0⟩] ∧ 0 + (s.pageIdle * 5 + 1) / 2 ≤ s.ticks) ∧
    (let s := pcS { PcSt.reset with cmds := [.pre 0] }
     (s.mem.pc 0).alert = none ∧ (0 : Fin 32).val < (s.mem.pc 0).cmds.length) ∧
    (let s := pcS { PcSt.reset with alert := some [.pre 0], tries := 1 }
     (s.mem.pc 0).alert = some [.pre 0] ∧ (s.mem.pc 0).tries < 2) := by
  decide +kernel

def quietS : State := { memS with regs := { memS.regs with rws := Sparse.set rwsReset [] Reg.memCfg 0xC0 }, tl := { memS.tl with service := false } }
theorem witness_StacksAndCalibration :
    (let s : State := { memS with pwr := { memS.pwr with hbmRail := true } }
     s.stackRead 0 = true ∧ (s.mem.stk 0).tempTick + 625000 ≤ s.ticks ∧ (s.mem.stk 0).tempTick + 16 * 625000 ≤ s.ticks ∧ (1359 : BitVec 16).toInt < 1680 ∧
     (1359 : BitVec 16).toInt < 16 * s.stackWarn) ∧
    quietS.restOk 0 false = true ∧
    ((restS.mem.stk 0).phase = .selfRefresh ∧ (restS.mem.stk 0).phaseTick + 625 ≤ restS.ticks) ∧
    (let s : State := { memS with mem := { memS.mem with stks := setAt memS.mem.stks 0 { StackSt.reset with phase := .exiting, step := true } } }
     (s.mem.stk 0).phase = .exiting) ∧
    (quietS.mem.ok = true ∧ 0 < quietS.variant.pcsN ∧ (quietS.mem.pc 0).slotOn = none ∧ (quietS.mem.pc 0).slotTick ≤ quietS.ticks ∧ quietS.slotOk 0 = true) ∧
    (let s := pcS { PcSt.reset with slotOn := some 9999998750 }
     (s.mem.pc 0).slotOn = some 9999998750 ∧ 9999998750 + 1250 ≤ s.ticks ∧ [16] ≠ ([] : List Nat)) ∧
    (let s : State := { live with boot := { live.boot with stage := 4, sealWhen := .notYet } }
     s.boot.stage = 4 ∧ s.boot.sealWhen = .notYet ∧ s.mem.ok = false ∧ s.flt.shutTick = none) ∧
    ((List.range 128).all fun p => (List.range 32).all fun l => decide (12 ≤ ((List.replicate 128 (List.replicate 32 12)).getD p []).getD l 0)) := by
  decide +kernel

/-- Scenes 0 and 1, plans 0 and 1, all usable. -/
def cueS : State := { live with
  cfg := { live.cfg with scenes := [⟨0, []⟩, ⟨1, []⟩], plans := [plan1, { plan1 with num := 1 }], sched := [⟨70, 0, 0, 1, 1, false, 0⟩] }
  tb := { live.tb with sec := 60, stepped := true }, sc := { live.sc with schedMarks := [0] } }
def go1 : State := { cueS with regs := { cueS.regs with rw := Sparse.set rwReset [] Reg.cueScene 1 } }
def bad2 : State := { cueS with regs := { cueS.regs with rw := Sparse.set rwReset [] Reg.cueScene 2 } }
def fullS : State := { go1 with sc := { go1.sc with pend := List.replicate 64 ⟨1, false, 0, 0, true, 0, 0, 0, 0, 0⟩ } }
def planS (v : Word) : State := cueS.setRw Reg.planCue (Word.of ((wput v 31 31 1).toNat &&& 0x207))
def warmPair (r : Role) : State := { go1 with rl := { go1.rl with role := r, pRole := some .standby } }
theorem witness_CuesFromEverySource :
    (wbit 1 1 = false ∧ wbit 2 0 = false) ∧ (warmPair .standby).rl.role = .standby ∧ ((warmPair .active).rl.role ≠ .standby ∧ (warmPair .active).hasWarm = true) ∧
    (go1.rl.role ≠ .standby ∧ go1.hasWarm = false ∧ go1.cueReason go1.hostCue = 0) ∧ (bad2.hasWarm = false ∧ bad2.cueReason bad2.hostCue ≠ 0 ∧ bad2.cueReason bad2.hostCue ≠ 5) ∧
    (fullS.cueReason fullS.hostCue = 5 ∧ fullS.yields fullS.hostCue = none) ∧
    ((planS 1).planReason (planS 1).hostPlan = 0 ∧ (planS 1).hostPlan.num ≠ cueS.tl.num ∧ cueS.tl.stepB = none ∧ cueS.tl.pend = none) ∧
    (planS 5).planReason (planS 5).hostPlan ≠ 0 ∧
    (let s : State := { cueS with tl := { cueS.tl with plan := plan1, pend := some ⟨1, false, 0, 0, 0, 0⟩, pendB := 1000000000 } }
     s.tl.pend.isSome = true ∧ s.tl.fixed = false ∧ s.fixPoint ≤ s.wall) ∧
    (cueS.cfg.sched[0]? = some ⟨70, 0, 0, 1, 1, false, 0⟩ ∧ cueS.sc.schedMarks[0]? = some 0 ∧
      (⟨70, 0, 0, 1, 1, false, 0⟩ : Sched).newest cueS.wall = some 70000000000 ∧ (0 : Int) < 70000000000 - schedLead) ∧
    (let s : State := { cueS with net := { cueS.net with dgQueue := [⟨5, []⟩], relayQ := [⟨5, .cue go1.hostCue⟩] } }
     s.net.dgQueue = ⟨5, []⟩ :: [] ∧ 5 ≤ s.ticks ∧ s.net.relayQ = ⟨5, .cue go1.hostCue⟩ :: []) ∧
    (⟨5, .lamp 0 0 3 2⟩ : Delayed).what = .lamp 0 0 3 2 := by
  decide +kernel

/-- A scene cue datagram of sender 3, sequence 9, for device 0, with a tag under the key of zeros. -/
def dgBody (dev : Nat) (split : Nat) : List Byte :=
  [0x48, 0x58, 0x43, 0x55, 1, 1] ++ leBytes 2 (2 ^ dev) ++ [3, 0, 0, 0] ++ leBytes 8 9 ++ leBytes 5 split ++ leBytes 5 0 ++ [0, 1, 0, 0] ++ List.replicate 14 0
/-- AES-256-CMAC of `dgBody 0 60000000000` and of `dgBody 1 0` under the key of zeros, by another implementation. -/
def tagNow : List Byte := [52, 199, 62, 85, 159, 216, 136, 201, 29, 41, 105, 81, 27, 204, 145, 135]
def tagOther : List Byte := [51, 149, 205, 155, 37, 178, 236, 78, 89, 37, 202, 254, 214, 41, 169, 1]
def dgram (dev split : Nat) : List Byte := dgBody dev split ++ (if dev = 0 then tagNow else tagOther)
def dgS : State := { cueS with
  regs := { cueS.regs with rws := Sparse.set rwsReset (Sparse.set rwsReset [] (Reg.ethCfg 0) 0x40000000) Reg.cueDgCfg 0x12340000 }
  sec := { cueS.sec with cueKey := some (List.replicate 32 0) } }
theorem dgS_split : dgS.split = 60000000000 := by decide +kernel
theorem witness_CueDatagramChecks :
    (dgS.subOn 0 = true ∧ wfld (dgS.rws Reg.cueDgCfg) 31 16 ≠ 0 ∧ dgFormed [] = false ∧ dgFormed (dgram 0 60000000000) = true) ∧
    dgS.dgTag (dgBody 0 0 ++ List.replicate 16 0) = false ∧ dgS.dgTag (dgram 0 60000000000) = true ∧
    (nbit (leAt (dgram 1 0) 6 2) dgS.cfg.devNum = false ∧ dgS.dgTag (dgram 1 0) = true) ∧ nbit (leAt (dgram 0 0) 6 2) dgS.cfg.devNum = true ∧
    (dgS.timeValid = true ∧ ({ dgS with tb := { dgS.tb with stepped := false } } : State).timeValid = false) ∧
    dgS.cueWindow * 1000000 < (splitDiff (leAt (dgram 0 0) 20 5) dgS.split).natAbs ∧
    (splitDiff (leAt (dgram 0 60000000000) 20 5) dgS.split).natAbs ≤ dgS.cueWindow * 1000000 ∧
    (dgS.net.senders.getD 3 ⟨none, [], 0, 0⟩).last = none := by
  decide +kernel
/-- The window's edge: 1,000 ms are inside, one nanosecond more is outside. -/
theorem test_cue_window_edge : (dgS.cueWindow * 1000000 < (splitDiff (dgS.split + 1000000000) dgS.split).natAbs) = False ∧
    (dgS.cueWindow * 1000000 < (splitDiff (dgS.split + 1000000001) dgS.split).natAbs) = True := by
  decide +kernel
theorem witness_CounterReadsAndReferencePulses :
    (laprefSym 9 = 3 ∧ laprefSym 10 = 0 ∧ laprefSym 30 = 0 ∧ laprefSym 31 = 3 ∧ laprefSym 49 = 3 ∧ laprefSym 50 = 1 ∧ laprefSym 70 = 1 ∧ laprefSym 71 = 3 ∧
      laprefSym 89 = 3 ∧ laprefSym 90 = 2 ∧ laprefSym 110 = 2 ∧ laprefSym 111 = 3) ∧
    (let s : State := { live with tb := { live.tb with ns := 1000001, lapref := { live.tb.lapref with decoded := true } } }
     s.tb.lapref.decoded = true ∧ 1000000 < phaseNs (s.stamp10 0)) ∧
    (live.tb.lapref.decoded = false ∧ live.tb.lapref.word = none ∧ live.tb.lapref.edgeTick = none) ∧
    (let s : State := { live with tb := { live.tb with lapref := { live.tb.lapref with edgeTick := some 8750000000, run := 2 } } }
     s.tb.lapref.edgeTick = some 8750000000 ∧ 8750000000 + 1250000000 ≤ s.ticks ∧ s.tb.lapref.run ≠ 0) := by
  decide

def largeS : State := { live with tb := { live.tb with large := true, stepped := true } }
def decS (est : Int) : State := { live with
  tl := { live.tl with stepB := some 1000000 }, tb := { live.tb with sel := 1, stepped := true, offs := [est, 0, 0, 0] } }
theorem witness_RestepsAndSources :
    live.tb.large = false ∧ (largeS.tb.large = true ∧ largeS.tl.on = true ∧ largeS.boot.stage ≠ 6 ∧ largeS.tl.stepB = none ∧ largeS.tl.stepHeld = false ∧
      largeS.changeFixed = false ∧ largeS.tl.fixed = false) ∧
    ({ largeS with tl := { largeS.tl with limpAsk := true } } : State).changeFixed = true ∧
    ((decS 999).tl.stepB = some 1000000 ∧ (decS 999).tl.stepGo = none ∧ (1000000 : Int) - 2000000 ≤ (decS 999).wall ∧ (decS 999).tb.est.natAbs < 1000) ∧
    1000 ≤ (decS 1000).tb.est.natAbs ∧ 1000 ≤ (decS (-1000)).tb.est.natAbs ∧
    live.nextSel = live.tb.sel ∧ ((decS 0).nextSel ≠ (decS 0).tb.sel ∧ (decS 0).nextSel = 0) ∧
    (let s : State := { decS 0 with tb := { (decS 0).tb with qual := [false, true, false, false] } }
     s.nextSel = 1 + 1 ∧ 1 + 1 ≠ s.tb.sel ∧ s.tb.stepped = true) := by
  decide

theorem witness_FencesAndSceneQueries :
    (3 : Fin 16) < live.sc.fences.length ∧
    ((live.fence 3).staged.getD ((live.fence 3).value / 2 ^ 32) * 2 ^ 32 + (0 : Word).toNat ≤ (live.fence 3).value) ∧
    ((live.fence 3).value < (live.fence 3).staged.getD ((live.fence 3).value / 2 ^ 32) * 2 ^ 32 + (1 : Word).toNat) ∧ (∃ t, exec (.hsFenceLoWrite 3 1) live = .next t) ∧
    wfB live = true :=
  ⟨by decide, by decide, by decide, ⟨_, rfl⟩, by decide⟩

/-- A PTP message: its type, flags, sequence number and interval, with as many bytes as its type needs. -/
def ptpMsg (type flags seq log : Nat) (tail : List Byte) : List Byte :=
  [byte type, 2] ++ beBytes 2 64 ++ [0, 0, byte flags, 0] ++ List.replicate 8 0 ++ List.replicate 4 0 ++ beBytes 8 5 ++ beBytes 2 1 ++ beBytes 2 seq ++ [0, byte log] ++ tail
def ptpTail : List Byte := List.replicate 10 0 ++ List.replicate 10 0 ++ List.replicate 10 0
/-- Slot 1 runs on sub-port 0; slot 2 is given sub-port 1, which is off. -/
def ptpS : State := { live with
  cfg := { live.cfg with loaded := true }
  regs := { live.regs with rws := Sparse.set rwsReset (Sparse.set rwsReset (Sparse.set rwsReset [] (Reg.ethCfg 0) 0x40000000) (Reg.ptpCfg 1) 0x400) (Reg.ptpCfg 0) 0 } }
def ptpM : State := ptpS.modPtp 0 fun p => { p with sel := some (5, 1), sync := some ⟨7, 100, 0, none⟩, dreqT3 := some 50, dreqSeq := 7, last := some (10, 20), pdT2 := some 3 }
def forSlot : List Byte := List.replicate 10 0 ++ ptpS.ptpId 0 ++ List.replicate 10 0
def p2pS : State := { ptpM with regs := { ptpM.regs with rws := Sparse.set rwsReset ptpM.regs.rws (Reg.ptpCfg 0) 0x800 } }
def master1 : Master := ⟨9, 1, 0, 0, 0, 0, 0, 0, 0, 0, 0⟩
theorem witness_PtpMessagesTaken :
    (ptpS.slotsOn 0 = [0] ∧ PtpHdr.parse [] = none) ∧
    ([0xB, 0, 8, 9, 3, 0xA, 2, 0xC, 0xD].all fun t => match PtpHdr.parse (ptpMsg t 0 7 0 ptpTail) with | some h => h.type == t && h.domain == ptpS.ptpDomain 0 && h.seq == 7 && !h.twoStep | none => false) ∧
    ({ ptpS with regs := { ptpS.regs with rws := Sparse.set rwsReset ptpS.regs.rws (Reg.ptpCfg 0) 3 } } : State).ptpDomain 0 ≠ 0 ∧
    (let p := (ptpS.modPtp 0 fun p => { p with masters := List.replicate 8 { master1 with tick := 10000000000 } }).ptp 0
     let known := p.masters.filter fun x => !(ptpS.masterLate 0 x)
     known.length = 8 ∧ known.any (fun x => x.clock == 5 && x.port == 1) = false) ∧
    ((ptpS.ptp 0).masters.any fun x => x.clock == 5 && x.port == 1) = false ∧ (ptpS.ptp 0).masters.length < 8 ∧
    (ptpS.ptp 0).sel ≠ some (5, 1) ∧
    (∃ h, PtpHdr.parse (ptpMsg 0 2 7 0 ptpTail) = some h ∧ h.twoStep = true ∧ (ptpM.ptp 0).sel = some (h.clock, h.port) ∧ -7 ≤ h.log ∧ h.log ≤ 1) ∧
    (∃ h, PtpHdr.parse (ptpMsg 0 0 7 2 ptpTail) = some h ∧ 1 < h.log) ∧ (∃ h, PtpHdr.parse (ptpMsg 0 0 7 0xF8 ptpTail) = some h ∧ h.log < -7) ∧
    (∃ h, PtpHdr.parse (ptpMsg 0 0 7 0xF9 ptpTail) = some h ∧ h.log = -7) ∧
    ((ptpM.ptp 0).sync = some ⟨7, 100, 0, none⟩ ∧ (ptpM.ptp 0).dreqT3 = some 50 ∧ (ptpM.ptp 0).last = some (10, 20) ∧ ptpM.ptpP2p 0 = false ∧
      ptpM.forMe 0 (ptpMsg 9 0 7 0 forSlot) = true ∧ (ptpM.ptp 0).dreqSeq = 7) ∧
    (p2pS.ptpP2p 0 = true ∧ p2pS.slotsOn 0 = [0] ∧ (p2pS.ptp 0).dreqT3 = some 50 ∧ (p2pS.ptp 0).pdT2 = some 3 ∧ p2pS.forMe 0 (ptpMsg 3 0 7 0 forSlot) = true) :=
  ⟨by decide +kernel, by decide +kernel, by decide, by decide, by decide, by decide, by decide, ⟨_, rfl, by decide, by decide, by decide, by decide⟩,
    ⟨_, rfl, by decide⟩, ⟨_, rfl, by decide⟩, ⟨_, rfl, by decide⟩, by decide +kernel, by decide +kernel⟩

theorem witness_PtpMeasuringAndTimeouts : (0 : Fin 2) < ptpM.tb.ptp.length ∧
    (let s := ptpM.modPtp 0 fun p => { p with sync := some ⟨7, 100, 0, some 60⟩, delayOk := true }
     (s.ptp 0).sync = some ⟨7, 100, 0, some 60⟩ ∧ (s.ptp 0).delayOk = true) ∧ (ptpM.ptp 0).delayOk = false ∧
    (ptpM.ptpOn 0 = true ∧ ptpM.ptpP2p 0 = false ∧ (ptpM.ptp 0).sel.isSome = true ∧
      (ptpM.ptp 0).dreqTick + max (logTicks (ptpM.ptp 0).dreqLog) (logTicks (ptpM.ptpLog 0)) ≤ ptpM.ticks) ∧
    (p2pS.ptpOn 0 = true ∧ p2pS.ptpP2p 0 = true ∧ (p2pS.ptp 0).dreqTick + 625000000 ≤ p2pS.ticks) ∧
    (let s := ptpM.modPtp 0 fun p => { p with masters := [{ master1 with clock := 5 }] }
     (s.ptp 0).masters.find? (fun m => (s.ptp 0).sel == some (m.clock, m.port)) = some { master1 with clock := 5 } ∧
     s.past 0 (s.ptpTimeout 0 * logTicks 0) = true ∧ s.past 9999999999 (s.ptpTimeout 0 * logTicks 0) = false) ∧
    (ptpM.ptp 0).syncTick + logTicks (ptpM.ptp 0).syncLog ≤ ptpM.ticks := by
  decide

/-- An Ethernet frame to every station, with its FCS. -/
def ethF (p : List Byte) : List Byte :=
  let f := List.replicate 6 0xFF ++ List.replicate 6 0 ++ p
  f ++ leBytes 4 (crc32 f).toNat
def ethOk : EthRx := ⟨0, 0, false, false, 0⟩
def goodB (d : List Byte) : Bool := decide (64 ≤ d.length) && decide (d.length ≤ 9216) && leAt d (d.length - 4) 4 == (crc32 (d.take (d.length - 4))).toNat && beAt d 12 2 != 0x8808
def arpAsk : List Byte := [0, 1, 8, 0, 6, 4, 0, 1] ++ List.replicate 16 0 ++ beBytes 4 0x0A000001
/-- MACsec on Ethernet 0, with a key of zeros, and a frame sealed under it. -/
def macR : List Byte := List.replicate 88 0
def macS : State :=
  let r := { ptpS with
    regs := { ptpS.regs with rws := Sparse.set rwsReset (Sparse.set rwsReset ptpS.regs.rws (Reg.ethCfg 0) 0x60000000) (Reg.ethIp 0 0) 0x0A000001 } }
  r.modMac 0 fun m => { m with recd := some macR, rxSak := List.replicate 32 0, rxPn := 1 }
def sealed : List Byte :=
  let h := List.replicate 6 0xFF ++ List.replicate 6 0 ++ [0x88, 0xE5, 0x0C, 0, 0, 0, 0, 1]
  let x := gcmSeal (List.replicate 32 0) (xpnIv (slice macR 40 4) (slice macR 44 12) 1) h (List.replicate 40 7)
  h ++ x.1 ++ x.2
theorem witness_EthernetFramesIn :
    (ptpS.subOn 1 = false ∧ ptpS.subOn 0 = true) ∧
    (goodB (ethF (List.replicate 48 0)) = true ∧ goodB (ethF (List.replicate 47 0)) = false ∧ goodB [] = false) ∧
    (ptpS.macsecOn 0 = false ∧ macS.macsecOn 0 = true ∧ macS.macsecOpen 0 (List.replicate 60 0) = none ∧ (macS.macsecOpen 0 sealed).isSome = true) ∧
    (vlanTake (ptpS.ethVid 0) [0x81, 0] = none ∧ vlanTake (ptpS.ethVid 0) [8, 6, 1] = some (0x0806, [1])) ∧
    (28 ≤ arpAsk.length ∧ beAt arpAsk 0 2 = 1 ∧ beAt arpAsk 2 2 = 0x0800 ∧ leAt arpAsk 4 1 = 6 ∧ leAt arpAsk 5 1 = 4 ∧ beAt arpAsk 6 2 = 1 ∧
      beAt arpAsk 24 4 = macS.ip 0 ∧ macS.ip 0 ≠ 0) ∧
    ((ptpS.sub 0).up = false ∧ (0 : Fin 8) < ptpS.net.subs.length ∧ ((ptpS.modSub 0 fun p => { p with up := true }).sub 0).up = true) := by
  decide +kernel

/-- An IGMP general query of version 2 (8 bytes) and of version 3 (12 bytes). -/
def igmp2 : List Byte := [0x11, 100, 0xEE, 0x9B, 0, 0, 0, 0]
def igmp3 : List Byte := [0x11, 100, 0xEE, 0x9B, 0, 0, 0, 0, 0, 0, 0, 0]
def query (s : State) (i : Nat) (d : List Byte) : Bool := leAt d 0 1 == 0x11 && decide (8 ≤ d.length) && fold16 (sum16 d) == 65535 && s.subOn i
theorem witness_GroupQueriesAndTimers :
    query ptpS 0 [] = false ∧ query ptpS 0 igmp2 = true ∧ query ptpS 0 igmp3 = true ∧ query ptpS 0 (igmp2 ++ [0, 0]) = true ∧ (igmp2 ++ [(0 : Byte), 0]).length < 12 ∧ (ptpS.sub 0).oldTick = none ∧
    (let s := ptpS.modSub 0 fun p => { p with oldTick := some 9000000000 }
     (s.sub 0).oldTick = some 9000000000 ∧ s.ticks < 9000000000 + 3600 * 625000000) ∧
    (let s := ptpS.modFlow 4 fun f => { f with unused := some 8750000000 }
     (s.flow 4).unused = some 8750000000 ∧ 8750000000 + 1250000000 ≤ s.ticks ∧ s.flowWanted 4 = false ∧ (4 : Fin 64) < s.net.flows.length) ∧
    (let s := ptpS.modFlow 4 fun f => { f with pri := { f.pri with alive := true }, sec := { f.sec with alive := true } }
     (s.flow 4).sec.alive = true ∧ (s.flow 4).sec.tick + 625000000 ≤ s.ticks ∧ (s.flow 4).pri.alive = true) := by
  decide +kernel

/-- Flow 4, payload type 100, single path. -/
def flowWords : List Word := List.replicate 7 0 ++ [0x02640000, 0] ++ List.replicate 11 0
def flowR : FlowRec := FlowRec.parse flowWords
def flowS (f : Flow → Flow) : State := State.modFlow { ptpS with cfg := { ptpS.cfg with flows := [⟨4, flowWords⟩] } } 4 f
def rtp (seq : Nat) : List Byte := [0x80, 100] ++ beBytes 2 seq ++ beBytes 4 9000 ++ beBytes 4 77 ++ [0, 0] ++ List.replicate 12 0
def frx : FrameRx := ⟨9000, some 0, 0, none, none, none, [], []⟩
theorem witness_FlowPacketsAndFrames :
    ((flowS id).flowRec? 4 = some flowR ∧ (4 : Fin 64) < (flowS id).net.flows.length ∧ flowR.pt = 100 ∧ flowR.dual = false ∧ flowR.conceal = false) ∧
    (FlowRec.parse (0x800 :: flowWords.tail)).conceal = true ∧
    (∃ p, RtpPkt.parse (rtp 10) = some p ∧ p.pt = flowR.pt ∧ p.ssrc = 77 ∧ p.seq = 10 ∧ -1048576 ≤ diff32 p.seq 1048586 ∧ ¬(-1048576 ≤ diff32 p.seq 1048587)) ∧
    ((flowS id).flow 4).valid = false ∧
    (let s := flowS fun f => { f with valid := true, pri := { f.pri with joined := true }, ssrc := some 77, newest := some 9 }
     (s.flow 4).valid = true ∧ (s.flow 4).pri.joined = true ∧ (s.flow 4).ssrc = some 77 ∧ (s.flow 4).newest = some 9) ∧
    (let s := flowS fun f => { f with valid := true, pri := { f.pri with joined := true }, ssrc := some 78, other := 6, otherSsrc := 77 }
     (s.flow 4).ssrc = some 78 ∧ 78 ≠ 77 ∧ (if (s.flow 4).otherSsrc = 77 then (s.flow 4).other + 1 else 1) < 8) ∧
    (let s := flowS fun f => { f with rx := [frx], bufs := [⟨false, 0, false, [], 0, true⟩] }
     (s.flow 4).rx.filter (·.due flowR s.ticks) = [frx] ∧ frx.buf.isSome = true ∧ 0 < (s.flow 4).bufs.length) ∧
    ((flowS id).flow 4).rx.filter (·.due flowR 0) = [] :=
  ⟨by decide, by decide, ⟨_, rfl, by decide, by decide, by decide, by decide, by decide⟩, by decide, by decide, by decide, by decide, by decide⟩
/-- A running plan of 4 legs and 60 laps/s; the next boundary is index n, at its instant. -/
def legS (n : Int) : State := { live with
  cfg := { live.cfg with plans := [plan1, { plan1 with num := 1, legs := 8 }, { plan1 with num := 2 }], scenes := [⟨0, []⟩, ⟨1, []⟩] }
  tl := { live.tl with plan := plan1, next := n, nextAt := plan1.legAt 0 n }, tb := { live.tb with sec := 60 } }
def stepS (go : Bool) : State := { legS 4 with
  tl := { (legS 4).tl with stepB := some 0, stepGo := some go }, tb := { (legS 4).tb with sel := 1, offs := [1000, 0, 0, 0] } }
theorem witness_LegBoundaries :
    z.tl.on = false ∧ ((legS 14400).wall < (legS 14401).tl.nextAt) ∧
    ((legS 5).tl.on = true ∧ (legS 5).tl.nextAt ≤ (legS 5).wall ∧ ((5 : Int) % 4).toNat ≠ 0) ∧ ((4 : Int) % 4).toNat = 0 ∧
    ((legS 4).lapChange (legS 4).tl.nextAt).2 = none ∧
    ((stepS true).lapChange 16666667).2 = some (16667667, true) ∧ plan1.lapAt 0 (plan1.lapFrom 0 16667667) ≠ 16667667 ∧ plan1.lapAt 0 (plan1.lapFrom 0 16666667) = 16666667 := by
  decide +kernel

def cue2 (n : Nat) : PlanCue := ⟨n, false, 0, 0, 0, 0⟩
theorem witness_ChangesAtTheirBoundary :
    (legS 4).changeDue 16666667 = none ∧ (stepS true).tl.stepGo = some true ∧ (stepS false).tl.stepGo = some false ∧
    (let s : State := { legS 4 with tl := { (legS 4).tl with fullB := some 5 } }
     s.tl.stepB = none ∧ s.tl.fullB = some 5 ∧ (5 : Int) ≤ 16666667) ∧
    (let s : State := { legS 4 with tl := { (legS 4).tl with limpB := some 5 } }
     s.tl.stepB = none ∧ s.tl.fullB = none ∧ s.tl.limpB = some 5) ∧
    (let s : State := { legS 4 with tl := { (legS 4).tl with pend := some (cue2 1), pendB := 5 } }
     s.tl.pend = some (cue2 1) ∧ s.tl.pendB ≤ 16666667 ∧ s.tl.plan.needsDark (s.planOf 1) = true ∧ s.tl.plan.needsDark (s.planOf 2) = false) ∧
    (legS 4).sc.fade = none ∧ (legS 4).sc.cur = 0 ∧ (⟨1, false, 0, 0, false, 0, 0, 0, 0, 0⟩ : SceneCue).scene ≠ (legS 4).sc.cur ∧
    ({ legS 4 with fab := { (legS 4).fab with fades := [(0, 1)] } } : State).fab.fades.contains (0, 1) = true := by
  decide

/-- A tile of 2 lamps at position 0 of port 0, admitted and lit, held by device 0. -/
def lamp1 (st : Nat) : Lamp := ⟨0, 0, [8192, 8192, 8192], st, false, 0, 0, 0, 0, 0, [0], 0, 0, 0, 0, 0, 0, 0, 0, 0, [true], 5⟩
def tile0 : Tile := { Tile.ofRecord 0 0 [] with
  lampsN := 2, admitted := true, typeId := 1, lamps := [lamp1 0, lamp1 1], holder := some 0, tempOk := true
  pairs := List.replicate 4 [⟨true, false, true, none, none, 0, false⟩] }
def type1 : TileType := ⟨1, 2, 0, 0, 0, 3, 0, 0, 0, 0, 0, 0, 0, [], [], [], 0, 0, [], false⟩
def portUp (f : Port → Port) (s : State) : State :=
  s.modPort 0 fun q => f { q with clock := true, blocks := true, up := true, lock := true, aligned := true, lanes := 15 }
def tileS : State := portUp id { legS 5 with tiles := [tile0], cfg := { (legS 5).cfg with types := [type1] } }
theorem witness_PinsLapFramesAndDeadlines :
    (let s : State := { live with tl := { live.tl with pulses := [⟨true, 0, 0⟩], legPin := some 10000000000, lapPin := some 9 } }
     s.tl.pulses.find? (fun p => p.leg == true && decide (p.at_ ≤ s.wall)) = some ⟨true, 0, 0⟩ ∧ s.tl.legPin = some 10000000000 ∧ 10000000000 ≤ s.ticks ∧
     s.tl.lapPin = some 9) ∧
    ({ live with tl := { live.tl with pulses := [⟨false, 0, 0⟩] } } : State).tl.pulses.find? (fun p => p.leg == false && decide (p.at_ ≤ live.wall)) = some ⟨false, 0, 0⟩ ∧
    (let s : State := { live with regs := { live.regs with rws := Sparse.set rwsReset [] Reg.pinCtrl 0x01010103 } }
     s.pinOn true 0 = true ∧ s.pinOn true 1 = false ∧ s.pinOn false 0 = true) ∧
    ([14666667, 16566667].all fun n =>
      let s : State := portUp id { legS 14402 with tb := { (legS 14402).tb with sec := 60, ns := n } }
      s.tl.on && (s.port 0).up && s.drives 0 && !(s.silent 0) &&
      (match (s.lapsAhead 0).find? (fun l => match (s.port 0).lapNext with | some b => decide (b < l.at_) | none => true) with
        | some l => l.at_ == 60016666667 && decide (l.at_ - 2000000 ≤ s.wall) && decide (s.wall ≤ l.at_ - 100000)
        | none => false)) = true ∧
    (match tileS.lapsAhead 0 with | l :: _ => decide (l.at_ - 100000 < tileS.wall) | [] => false) = true ∧
    (tileS.tile? 0 0 = some tile0 ∧ (0 : Fin 8) < tileS.tl.plan.legs ∧ tileS.unsent tile0 0 0 = true ∧ tileS.deadline tile0 0 0 ≤ 32 * tileS.wall) ∧
    32 * ({ tileS with tb := { tileS.tb with sec := 0 } } : State).wall < tileS.deadline tile0 0 0 := by
  decide +kernel

def latch0 : Latch := ⟨7, 0, 0, plan1, 0, [], none, [], 0, true, [], [], [3], [], [], [], false⟩
def viewS (l : Latch) : State := { live with
  cfg := { live.cfg with views := [⟨1, 32, 32⟩] }, sc := { live.sc with views := setAt live.sc.views 1 { (live.view 1) with latch := some l } } }
/-- Sub-port 0 is on and up, and the plan has leg 0 show view 1, 32 × 32. -/
def monS : State := { live with
  regs := { live.regs with rws := Sparse.set rwsReset (Sparse.set rwsReset [] (Reg.ethCfg 0) 0x40000000) Reg.monCfg 0x90000000 }
  cfg := { live.cfg with loaded := true, views := [⟨1, 32, 32⟩] }, tl := { live.tl with plan := { plan1 with legView := [1, 1, 1, 1] } }
  net := { live.net with subs := setAt live.net.subs 0 { (live.sub 0) with up := true } } }
theorem witness_MonitorGoes :
    (let s : State := { monS with net := { monS.net with mon := { monS.net.mon with packets := [[1]], at_ := 0, lapDen := 1, total := 1 } } }
     s.monStop = 0 ∧ s.net.mon.packets = [1] :: [] ∧ s.net.mon.at_ + (s.net.mon.sent * s.net.mon.lapNum / (s.net.mon.lapDen * max 1 s.net.mon.total) : Nat) ≤ s.wall) ∧
    (let s : State := { monS with net := { monS.net with mon := { monS.net.mon with packets := [[1]], at_ := 1 } } }
     s.monStop = 0 ∧ s.wall < s.net.mon.at_ + (s.net.mon.sent * s.net.mon.lapNum / (s.net.mon.lapDen * max 1 s.net.mon.total) : Nat)) := by decide
theorem witness_CompositionAndMonitor :
    (live.view 1).latch = none ∧ ((viewS latch0).view 1).latch = some latch0 ∧ (viewS latch0).cfg.view? 1 = some ⟨1, 32, 32⟩ ∧
    (({ latch0 with done := true } : Latch).done = true ∧ ({ latch0 with changed := false } : Latch).changed = false) ∧
    (latch0.done = false ∧ latch0.changed = true ∧ (viewS latch0).pullFor latch0 = false ∧ (1 : Fin 8) < (viewS latch0).sc.views.length) ∧
    (let s := viewS { latch0 with layers := [some (.surf 2 1 0)] }
     ({ s with host := { s.host with surfs := setAt s.host.surfs 2 { (s.surf 2) with pull := some pull0 } } } : State).pullFor { latch0 with layers := [some (.surf 2 1 0)] } = true) ∧
    live.unfinished 1 = none ∧ (viewS latch0).unfinished 1 = some latch0 ∧ latch0.underrun.contains 3 = true ∧ latch0.underrun.contains 4 = false ∧
    live.net.mon.packets = [] ∧ live.monStop ≠ 0 ∧
    (let s : State := { live with net := { live.net with mon := { live.net.mon with packets := [[1]], at_ := 0, lapDen := 1, total := 1 } } }
     s.net.mon.packets = [1] :: [] ∧ s.net.mon.at_ + (s.net.mon.sent * s.net.mon.lapNum / (s.net.mon.lapDen * max 1 s.net.mon.total) : Nat) ≤ s.wall) ∧
    (let s : State := { live with net := { live.net with mon := { live.net.mon with packets := [[1]], at_ := 1 } } }
     s.wall < s.net.mon.at_ + (s.net.mon.sent * s.net.mon.lapNum / (s.net.mon.lapDen * max 1 s.net.mon.total) : Nat)) := by
  decide

theorem witness_LampsAndTilesByTimeAndSoftware :
    tileS.mayRecheck (wfld 0 24 0) = false ∧ tileS.mayRecheck (wfld 1 24 0) = true ∧ tileS.mayRecheck (wfld 2 24 0) = false ∧
    (tileS.tl.service = true ∧ tileS.tl.probeTick + 625000000 ≤ tileS.ticks) ∧
    (tileS.tile? 0 0 = some tile0 ∧ tile0.admitted = true ∧ tile0.stale = false ∧ tileS.tends tile0 = true ∧ tile0.tempTick + 625000000 ≤ tileS.ticks) ∧
    (({ tile0 with stale := true } : Tile).stale = true ∧ (Tile.ofRecord 0 0 []).admitted = false) ∧ wfB tileS = true := by
  decide

/-- Port 0 enabled, its clock as given. -/
def portS (f : Port → Port) : State := State.modPort { live with regs := { live.regs with rws := Sparse.set rwsReset [] (Reg.portCfg 0) 0x80000100 } } 0 f
theorem witness_ChainPortStartAndLocks : (0 : Fin 16) < (portS id).ports.length ∧
    ((portS id).portMayRun 0 = true ∧ ((portS id).port 0).clock = false ∧ live.portMayRun 0 = false) ∧
    (let q := (portS fun q => { q with clock := true, clkTick := 9999993750 }).port 0
     q.clock = true ∧ q.blocks = false ∧ q.clkTick + 6250 ≤ 10000000000) ∧
    (let q := (portS fun q => { q with clock := true, clkTick := 9993750000 }).port 0
     q.up = false ∧ q.failed = false ∧ q.clkTick + 6250000 ≤ 10000000000) ∧
    (let q := (portS fun q => { q with clock := true, failed := true, downSeen := true, clkTick := 9937500000 }).port 0
     q.up = false ∧ q.failed = true ∧ q.clkTick + 62500000 ≤ 10000000000 ∧ q.downSeen = true) ∧
    (let q := (portS fun q => { q with lock := true, aligned := true, missed := 2, up := true }).port 0
     q.lock = true ∧ q.aligned = true ∧ 3 ≤ q.missed + 1 ∧ q.up = true) ∧
    ((portS fun q => { q with lock := true, aligned := true, missed := 1 }).port 0).missed + 1 < 3 := by
  decide

/-- Port 0 is enabled and up, its next LAP frame far ahead; port 1 to 15 are still. -/
def chainS (f : Port → Port) : State := portUp f { portS id with
  tl := { (legS 14405).tl with nextAt := (legS 14405).tl.nextAt }, tb := (legS 14405).tb, cfg := (legS 14405).cfg }
def rest0 (s : State) : Bool := (List.range 16).all fun r => r == 0 || (!(s.port r).blocks && (s.port r).claim.isNone)
theorem witness_MarkersIdleBeaconsAndClaims : (0 : Fin 16) < (chainS id).ports.length ∧
    (rest0 (chainS id) = true ∧ ((chainS id).port 0).blocks = true ∧ ((chainS id).port 0).markBlk ≤ (chainS id).blockNow 0 ∧ (chainS id).follows 0 = false ∧
      ((chainS id).port 0).idle = false) ∧
    ((chainS fun q => { q with idle := true }).port 0).idle = true ∧
    ((chainS id).portOn 0 = true ∧ (chainS id).silent 0 = false ∧ ((chainS id).port 0).beatTick + 59375 ≤ (chainS id).ticks) ∧
    (let s := chainS fun q => { q with claim := some 9999937500 }
     rest0 s = true ∧ (s.port 0).claim = some 9999937500 ∧ 9999937500 + 62500 ≤ s.ticks ∧ (s.onPort 0).all (fun t => t.holder == some s.cfg.devNum) = true ∧
     (({ s with tiles := [{ tile0 with holder := none }] } : State).onPort 0).all (fun t => t.holder == some s.cfg.devNum) = false ∧ (s.rport 0).split = false) ∧
    ((live.port 0).lock = false ∧ ((chainS id).port 0).lock = true ∧ ((chainS fun q => { q with marks := [(5, 0)] }).port 0).marks.any (fun m => m.1 == (5 : BitVec 16).toNat) = true ∧
      ((chainS fun q => { q with up := false }).port 0).up = false) ∧
    (let s := chainS fun q => { q with beatTick := 10000000000 }
     let q := s.port 0
     wbit (s.rws (Reg.portCfg 0)) 8 = true ∧ q.up = true ∧ q.idle = false ∧ q.exitBlk = none ∧ q.cal = none ∧ q.busy ≤ s.blockNext 0 ∧
        s.hasFrames 0 = false ∧ s.idleFor 0 (s.idleMin 0) = true) ∧
    (chainS fun q => { q with idle := true, queue := [allFrame .beacon 0 []] }).hasFrames 0 = true := by
  decide +kernel

def pairsS (ready scan : Bool) (q : List TxFrame) : State := { chainS fun p => { p with queue := q, driveOk := true } with
  tiles := [{ tile0 with pairs := [[⟨true, false, ready, none, none, 0, false⟩]], scanDue := [scan] }] }
def cleaned (s : State) : State := State.dropLate (s.modPort 0 fun q => { q with sending := none, queue := q.queue.filter fun f => !(s.lapStale f) }) 0
def bestOf (s : State) : Option FrameKind := ((firstFrame (((cleaned s).port 0).queue.filter fun f => (cleaned s).mayCarry 0 f.kind)).map (·.kind))
theorem witness_ChainFramesInOrder :
    ((firstFrame [allFrame .beacon 0 [], allFrame .hold 0 []]).isSome = true ∧ (firstPair ((pairsS true false []).waiting 0)).isSome = true) ∧
    (live.portFree 0 = false ∧ (pairsS true false []).portFree 0 = true) ∧
    (bestOf (pairsS true false [allFrame .hold 0 []]) = some .hold ∧ FrameKind.rank .hold < 5) ∧
    (bestOf (pairsS true true []) = none ∧ ((cleaned (pairsS true true [])).port 0).laneOut = false ∧ (cleaned (pairsS true true [])).scansDue 0 ≠ []) ∧
    ((cleaned (pairsS true false [])).scansDue 0 = [] ∧ firstPair ((cleaned (pairsS true false [])).waiting 0) ≠ none) ∧
    (bestOf (pairsS false false [allFrame .census 0 []]) = some .census ∧ 5 ≤ FrameKind.rank .census ∧ firstPair ((cleaned (pairsS false false [])).waiting 0) = none ∧
      bestOf (pairsS false false []) = none) ∧
    ((allFrame .beacon 0 []).kind ≠ .lap ∧ (allFrame .beacon 0 []).kind ≠ .census) ∧
    (((chainS id).port 0).sending = none ∧
      (let q := (chainS fun q => { q with sending := some (allFrame .beacon 0 []), busy := 1000000000000, dry := List.replicate 15 10000000000 }).port 0
       q.sending = some (allFrame .beacon 0 []) ∧ (chainS id).blockNow 0 < q.busy ∧ ((q.dry.filter fun t => !((chainS id).past t 625000000)) ++ [10000000000]).length = 16)) := by
  decide +kernel

def calS (f : Port → Port) : State := State.modPort { chainS id with tb := { (chainS id).tb with run := 2 ^ 64 } } 0 fun q => f { q with calStart := true, census := { q.census with phase := .done, found := 1 } }
def cal1 (k : Nat) (ph : CalPhase) : CalRun := ⟨0, k, ph, 0, 0, false, false⟩
theorem witness_CalibrationOfALane : (0 : Fin 16) < (calS id).ports.length ∧
    (let s := calS id; let q := s.port 0
     q.up = true ∧ q.cal = none ∧ q.calTick ≤ s.ticks ∧ 5 * s.calHops 0 = 5 ∧ (q.calStart || q.driveOk || s.standsBy 0) = true ∧
       q.calNext < 5 ∧ nbit q.lanes q.calTurn.2 = true ∧ q.drops.any (·.1 == q.calTurn.2) = false ∧ q.calHeld ≠ some s.tl.next ∧ s.calFree 0 = true) ∧
    5 ≤ ((calS fun q => { q with calNext := 5 }).port 0).calNext ∧
    ((calS fun q => { q with calNext := 4 }).port 0).calTurn.2 = 4 ∧
    ([CalPhase.announced, .pattern, .restoring, .waiting].all fun ph => [0, 4].all fun k =>
      ((calS fun q => { q with cal := some (cal1 k ph) }).port 0).cal == some (cal1 k ph) && decide (0 + 7758 ≤ (calS id).blockNow 0) && decide (0 + 625000 ≤ 10000000000)) = true ∧
    (({ cal1 4 .pattern with hop := 1 } : CalRun).hop ≠ 0 ∧ (cal1 4 .pattern).hop = 0 ∧ ({ cal1 0 .restoring with aborted := true } : CalRun).aborted = true ∧ (cal1 0 .restoring).got = false) := by
  decide +kernel

/-- A frame of the chain or a message of the relay: 8 bytes of head, the body, its CRC. -/
def framed (kind seq b4 arg : Nat) (body : List Byte) : List Byte :=
  let d : List Byte := [byte kind, 0] ++ leBytes 2 seq ++ [byte b4, byte arg] ++ leBytes 2 body.length ++ body
  d ++ leBytes 4 (crc32 d).toNat
def senseRec : List Byte := [2, 16, 5, 0] ++ leBytes 4 70 ++ leBytes 4 80 ++ leBytes 4 90
theorem witness_UpstreamFrames :
    (UpFrame.parse 0 (framed 0x81 1 0x80 0 senseRec) = some ⟨0x81, 0, 0, senseRec⟩ ∧ UpFrame.parse 0 (framed 0x87 1 0x9F 3 []) = some ⟨0x87, 31, 3, []⟩) ∧
    (let d := fun (last n : Nat) => (n + 65536 - last) % 65536
     d 65535 0 = 1 ∧ d 0 1024 = 1024 ∧ d 0 1025 = 1025 ∧ d 5 5 = 0) ∧
    (live.port 0).hears = false ∧ ((tileS).port 0).hears = true ∧ tileS.cfg.devNum = 0 ∧ UpFrame.parse tileS.cfg.devNum [] = none ∧
    (leAt senseRec 0 1 = 2 ∧ ({ tile0 with admitted := false } : Tile).admitted = false ∧ tileS.tile? 0 0 = some tile0 ∧ tile0.admitted = true) ∧
    ((tileS.port 0).census.phase ≠ .enum ∧ (1 : Nat) ≠ (tileS.port 0).census.next ∧ ([] : List Byte).length < 72) := by
  decide +kernel
/-- The sums of the components whose bits are set are given, the others are not. -/
theorem test_sense_record : (match exec (.statusFrameRx 0 ⟨0, 0, 0⟩ (framed 0x81 1 0x80 0 senseRec)) tileS with
    | .next t => (t.tile? 0 0).map (·.sense) | _ => none) = some [some 70, none, some 90] := by decide +kernel

def read1 : CensusRead := ⟨0, 1, 0, 64, 0, 9999375000⟩
def censS (ph : CensusPhase) (tick tries : Nat) : State := portUp (fun q => { q with
  census := { q.census with phase := ph, tick := tick, reads := [{ read1 with tries := tries }] } }) { live with tiles := [tile0] }
def ageS (tries : Nat) : State := portUp id { live with tiles := [{ tile0 with ageOut := [⟨0, 5, [], tries, 9987500000, true⟩] }] }
theorem witness_CensusAndAgeTimeouts : (0 : Fin 16) < live.ports.length ∧
    ([9999375000, 9999375001].all fun t => let q := (censS .enum t 0).port 0; q.up && q.census.phase == .enum && !(q.censusWaits fun f => f.arg == 2)) = true ∧
    (9999375000 + 625000 ≤ live.ticks ∧ live.ticks < 9999375001 + 625000) ∧
    ([7, 8].all fun n => let s := censS .reading 0 n; let q := s.port 0; q.up && q.census.phase == .reading &&
      q.census.reads.find? (fun r => s.past r.tick 625000 &&
        !(q.censusWaits fun f => f.arg == 3 && f.addr == r.pos && leAt f.body 0 1 == r.part && leAt f.body 4 4 == r.off)) == some { read1 with tries := n }) = true ∧
    (censS .reading 0 8).tile? 0 0 = some tile0 ∧
    ([2, 3].all fun n => match (ageS n).tile? 0 0 with
      | some t => (t.ageOut.find? fun a => a.sent && (ageS n).past a.tick 12500000) == some ⟨0, 5, [], n, 9987500000, true⟩ | none => false) = true := by
  decide

/-- Two units on ports 0 and 1; the partner is device 1 and was heard just now. -/
def relayS (role : Role) (f : Relay → Relay) : State := { live with
  cfg := { live.cfg with devNum := 0, relay := some ⟨3, 1, false, true⟩ }
  rl := f { live.rl with role := role, up := true, lanes := true, hbTick := some 9999990000, bcTick := some 9999990000, pDigestBits := 64 } }
def msg (kind seq : Nat) (body : List Byte) : List Byte := framed kind seq 0x3F 0 body
/-- A DELAYS message of zeros, its CRC written out. -/
def delays0 : List Byte := [0xC8, 0, 1, 0, 0x3F, 0, 72, 0] ++ List.replicate 72 0 ++ leBytes 4 1300082592
def bare (kind : Nat) (n : Nat) : List Byte := msg kind 1 (List.replicate n 0)
theorem witness_RelayMessagesMirrored : RelayMsg.parse (bare 0xC3 24) = some ⟨0xC3, List.replicate 24 0⟩ ∧
    (live.relayOn = false ∧ (relayS .standby id).relayOn = true ∧ RelayMsg.parse [] = none) ∧
    ((0xC3 : Nat) ≠ 0xC4 ∧ (relayS .standby id).rl.rx.take (leAt (bare 0xC3 24) 2 2) = (.accept 0, ⟨1, false, 0⟩) ∧
      (relayS .standby fun r => { r with rx := ⟨1, false, 0⟩ }).rl.rx.take (leAt (bare 0xC3 24) 2 2) = (.reject, ⟨1, false, 1⟩)) ∧
    ([(0xC3, 24), (0xC4, 20), (0xC5, 12), (0xC6, 8)].all fun k => let s := relayS .standby id
      (s.relayTake k.1 (bare k.1 k.2)).1 == some (List.replicate k.2 0) && (s.relayTake k.1 []).1 == none &&
      (s.relayTake k.1 (bare k.1 k.2)).2.rl.role == .standby && !(s.relayTake k.1 (bare k.1 k.2)).2.rl.cold) = true ∧
    ((relayS .active id).relayTake 0xC3 (bare 0xC3 24)).2.rl.role ≠ .standby ∧ leAt ([0, 0] : List Byte) 0 1 ≠ 2 := by
  decide +kernel

def sigS (sig lap runs : Nat) : State := relayS .standby fun r => { r with sigs := [⟨0, 0, 0, 0, lap, sig⟩], diffs := [⟨0, 0, 0, 0, 1, runs⟩] }
def doneS (cold : Bool) (k : Nat) : State := State.modPort (relayS .standby fun r => { r with cold := cold, ports := setAt r.ports k { (r.ports.getD k .reset) with ready := some 0 } }) 0 fun q => { q with census := { q.census with phase := .done } }
theorem delays0_crc : crc32 (delays0.take 80) = 1300082592#32 := by
  have h : delays0.take 80 = delays0.take 40 ++ List.replicate 40 0 := by decide
  have a : (delays0.take 40).foldl crcByte 0xFFFFFFFF#32 = 4084424770#32 := by decide +kernel
  have b : (List.replicate 40 0).foldl crcByte 4084424770#32 = 2994884703#32 := by decide +kernel
  unfold crc32; rw [h, List.foldl_append, a, b]; rfl
theorem delays0_parse : RelayMsg.parse delays0 = some ⟨0xC8, List.replicate 72 0⟩ := by
  have h : delays0.take (8 + leAt delays0 6 2) = delays0.take 80 := by decide
  unfold RelayMsg.parse; simp only [h, delays0_crc]; decide
theorem witness_DelaysTaken : ((relayS .standby id).relayTake 0xC8 delays0).1 = some (List.replicate 72 0) := by
  have h : (relayS .standby id).relayOn = true := by decide
  unfold State.relayTake; simp only [h, delays0_parse]; decide
theorem witness_RelaySignaturesDelaysAndPairs :
    ([(0xC7, bare 0xC7 8), (0xC9, bare 0xC9 8), (0xCB, bare 0xCB 36)].all fun k => let s := relayS .standby id
      (s.relayTake k.1 k.2).1 == some ((k.2.drop 8).take (k.2.length - 12)) && (s.relayTake k.1 []).1 == none &&
      (s.relayTake k.1 k.2).2.rl.role == .standby && !(s.relayTake k.1 k.2).2.rl.cold &&
      ((relayS .solo id).relayTake k.1 k.2).2.rl.role != .standby) = true ∧
    ((relayS .standby id).rl.sigs = [] ∧
      ([7, 8].all fun n => (sigS n 2 2).rl.sigs.find? (fun x => x.port == 0 && x.pos == 0 && x.leg == 0 && x.line == 0 && x.lap == 2) == some ⟨0, 0, 0, 0, 2, n⟩) = true) ∧
    ([(1, 2), (2, 3)].all fun k => (match (sigS 8 2 k.1).rl.diffs.find? fun (x : LineDiff) => x.port == 0 && x.pos == 0 && x.leg == 0 && x.line == 0 with
      | some d => if (d.lap + 1) % 2 ^ 32 == 2 then d.runs + 1 else 1 | none => 1) == k.2) = true ∧
    (([tile0, tile0] : List Tile)[0]? = some tile0 ∧ 0 + 1 < [tile0, tile0].length) ∧
    (0 < (doneS false 2).rl.ports.length ∧
      ([true, false].all fun c => let s := doneS c 2
        s.rl.role == .standby && s.shared 0 && !(s.rport 0).paired && !(s.rport 0).unpaired && (s.port 0).census.phase == .done && (s.port 0).census.pass != 1 && s.rl.cold == c) = true ∧
      (doneS false 2).partnerPort 0 = some 2 ∧ (relayS .active id).rl.role ≠ .standby) := by
  decide +kernel

theorem witness_RelayLinkAndTime : (relayS .active id).relayOn = true ∧
    ((relayS .active id).rl.up = true ∧ (relayS .active fun r => { r with up := false }).rl.up = false ∧ (relayS .active id).pathUp 1 = true ∧
      (relayS .active fun r => { r with bcTick := none }).pathUp 1 = false) ∧
    ([9999375000, 9999375001].all fun h => (relayS .active fun r => { r with hbTick := some h }).rl.hbTick == some h) = true ∧
    (9999375000 + 625000 ≤ live.ticks ∧ live.ticks < 9999375001 + 625000) ∧
    (let s := fun n => relayS .active fun r => { r with up := false, downTick := n }
     (s 0).rl.up = false ∧ (s 0).rl.trim = none ∧ (s 9993750000).rl.downTick + 6250000 ≤ live.ticks ∧ live.ticks < (s 9993750001).rl.downTick + 6250000) ∧
    ((relayS .active fun r => { r with trim := some 9993750000 }).rl.trim = some 9993750000 ∧ 9993750000 + 6250000 ≤ live.ticks) ∧
    ((relayS .active fun r => { r with up := false }).rl.trainSend + 625000 ≤ live.ticks ∧ (relayS .active id).rl.timeSend + 625000 ≤ live.ticks) ∧
    ((relayS .active id).relayTake 0xC2 (bare 0xC2 24)).1 = some (List.replicate 24 0) ∧ ((relayS .active id).relayTake 0xC2 []).1 = none ∧
    (leAt (List.replicate 24 (0 : Byte)) 0 2 = (0 : BitVec 16).toNat ∧ leAt (List.replicate 24 (0 : Byte)) 0 2 ≠ (1 : BitVec 16).toNat) := by
  decide +kernel

def beat (flags : Nat) : List Byte := framed 9 1 0x3F 0 (List.replicate 5 0 ++ [byte flags] ++ List.replicate 10 0)
def sharedS (role : Role) : State := portUp id (relayS role id)
def beatFrom1 (flags : Nat) : List Byte :=
  let d : List Byte := [9, 16, 1, 0, 0x3F, 0, 16, 0] ++ (List.replicate 5 0 ++ [byte flags] ++ List.replicate 10 0)
  d ++ leBytes 4 (crc32 d).toNat
theorem witness_RelayHeartbeatsAndRoles :
    ((relayS .active id).relayOn = true ∧ (relayS .active id).rl.hbSend + 59375 ≤ live.ticks) ∧
    (let s := relayS .pairing fun r => { r with hbTick := none, bcTick := none }
     s.rl.role = .pairing ∧ s.tl.on = true ∧ s.rl.sb3Tick + 62500000 ≤ s.ticks ∧ s.rl.hbTick = none ∧ s.rl.bcTick = none ∧ (relayS .active id).rl.role ≠ .pairing) ∧
    ([Role.active, .solo, .pairing].all fun k => let s := relayS .pairing fun r => { r with pRole := some k }
      s.rl.role == .pairing && s.rl.pRole == some k && s.rl.up) = true ∧
    ((relayS .active id).cfg.relay = some ⟨3, 1, false, true⟩ ∧ (false ≠ true) ∧ (relayS .active id).cfg.devNum < 1) ∧
    ((relayS .active id).digestOk = true ∧ live.digestOk = false) ∧
    (((relayS .active id).relayTake 0xC1 (bare 0xC1 32)).1 = some (List.replicate 32 0) ∧ ((relayS .active id).relayTake 0xC1 []).1 = none) ∧
    nbit (relayS .active fun r => { r with pFlags := 8 }).rl.pFlags 3 = true ∧
    (let s := sharedS .pairing
     s.relayOn = true ∧ s.shared 0 = true ∧ (s.port 0).hears = true ∧ beaconBody s.partnerDev [] = none ∧
     beaconBody s.partnerDev (beatFrom1 8) = some (List.replicate 5 0 ++ [8] ++ List.replicate 10 0) ∧
     (s.takeSeq 0 32 (leAt (beatFrom1 8) 2 2)).1 = true ∧ s.rl.role = .pairing ∧ nbit (leAt (List.replicate 5 (0 : Byte) ++ [8] ++ List.replicate 10 0) 5 1) 3 = true ∧
     ((s.modPort 0 fun q => { q with rx := setAt q.rx 32 ⟨1, false, 0⟩ }).takeSeq 0 32 (leAt (beatFrom1 8) 2 2)).1 = false) ∧
    ([9999934375, 9999934374].all fun n => let s := relayS .active fun r => { r with missRef := [n, n] }
      s.relayOn && s.rl.hbTick.isSome && s.rl.missRef.getD 0 0 == n) = true ∧
    (live.ticks ≤ 9999934375 + 65625 ∧ 9999934374 + 65625 < live.ticks) ∧
    ((relayS .active fun r => { r with lostTick := some 1 }).rl.lostTick.isSome = true ∧ (relayS .active id).rl.lostTick = none ∧
      (relayS .standby fun r => { r with fit := true }).qualified = true ∧ (relayS .standby fun r => { r with up := false }).qualified = false) := by
  decide +kernel

/-- Both units solo and fit, paired on port 0, with tiles of either holder. -/
def mendS (own other : Nat) : State := { relayS .solo fun r => { r with pRole := some .solo, pFlags := 0x21, mendTick := some 0, ports := setAt r.ports 0 { (r.ports.getD 0 .reset) with paired := true } } with
  tiles := List.replicate own tile0 ++ List.replicate other { tile0 with holder := some 1 } }
def relS (n tick : Nat) : State := { mendS n 1 with rl := { (mendS n 1).rl with release := some ⟨tick, 1⟩ } }
theorem witness_RelayHandoverAndMending :
    ((mendS 1 1).rl.release = none ∧ (mendS 1 1).partnerFit = true ∧ (relayS .active id).partnerFit = false) ∧
    (wfld 0x6E1B0000 31 16 ≠ 0x6E1A ∧ wfld 0x6E1A0000 31 16 = 0x6E1A ∧ wbit 0x6E1A0000 1 = false ∧ wbit 0x6E1A0000 0 = false ∧
      (relayS .active id).rl.role = .active ∧ (mendS 1 1).rl.role ≠ .active) ∧
    ((mendS 0 1).mendable = true ∧ (mendS 0 1).claimsOpen = false ∧ (mendS 0 1).mendReleases = true ∧ live.mendable = false) ∧
    (let h := fun (a b : Nat) => ((mendS a b).heldBy (mendS a b).cfg.devNum, (mendS a b).heldBy (mendS a b).partnerDev)
     h 0 1 = (0, 1) ∧ h 1 0 = (1, 0) ∧ h 1 1 = (1, 1)) ∧
    ((mendS 1 1).rl.mendTick = some 0 ∧
      (let s := { mendS 1 1 with regs := { live.regs with rws := Sparse.set rwsReset live.regs.rws Reg.relayCfg 16 } }
       wfld (s.rws Reg.relayCfg) 7 0 = 16 ∧ 0 + 16 * 625000000 ≤ s.ticks ∧ s.ticks < 1 + 16 * 625000000)) ∧
    ((mendS 1 1).relayTake 0xCA (msg 0xCA 1 [1, 0, 1, 0, 0, 0, 0, 0])).1 = some [1, 0, 1, 0, 0, 0, 0, 0] ∧
    ((mendS 1 1).relayTake 0xCA []).1 = none ∧ ((mendS 1 1).relayTake 0xCA (bare 0xCA 8)).1 = some (List.replicate 8 0) ∧
    ((live.port 0).up = false ∧ 0 < tileS.ports.length ∧ (tileS.port 0).up = true) ∧
    ((relS 1 9999750001).rl.release = some ⟨9999750001, 1⟩ ∧ live.ticks < 9999750001 + 250000 ∧ 9999750000 + 250000 ≤ live.ticks ∧
      ((idxs 16 (nbit 1)).any fun p => 0 < (relS 1 9999750000).heldOn p) = true ∧ ((idxs 16 (nbit 1)).any fun p => 0 < (relS 0 9999750000).heldOn p) = false) := by
  decide +kernel
theorem test_handover_claims : (match exec (.relayHandoverRx (msg 0xCA 1 [1, 0, 1, 0, 0, 0, 0, 0])) (portUp id (mendS 1 1)) with
    | .next t => (t.port 0).claim | _ => none) = some 10000000000 := by decide +kernel

theorem witness_RegisterWritesByTheirFields :
    badEnables 1 15 0 = false ∧ badEnables 2 15 15 = false ∧ badEnables 2 15 7 = true ∧ regFind 3 = none ∧ live.wf ∧
    (match regFind (Reg.portCfg 0) with | some r => r.rws != 0 && r.w1c == 0 | none => false) = true ∧
    (live.variant.absent (Reg.portCfg 0) ≠ allBits ∧ live.writeCore .host (Reg.portCfg 0) 1 = none ∧ live.writeSecure (Reg.portCfg 0) 1 = none ∧
      live.writeWork (Reg.portCfg 0) 1 = none) ∧
    (z.boot.sealWhen = .notYet ∧ live.boot.sealWhen ≠ .notYet) ∧
    (match regFind (Reg.portCfg 0) with
      | some r => let mask := r.rws &&& (allBits - live.variant.absent (Reg.portCfg 0))
                  mask != 0 && fixReg (Reg.portCfg 0) (rwsNew mask (live.rws (Reg.portCfg 0)) 1) != live.rws (Reg.portCfg 0)
      | none => false) = true ∧ live.readView (Reg.portCfg 0) = none := by
  exact ⟨by decide, by decide, by decide, by decide, live_wf, by decide, by decide, by decide, by decide, by decide⟩
/-- A host write after the seal leaves an RWS register as it was and is kept in SEAL_LAST. -/
theorem test_write_after_seal : (match exec (.registerWrite .host (BitVec.ofNat 26 (Reg.portCfg 0)) 15 0 [1]) live with
    | .next t => t.rws (Reg.portCfg 0) == live.rws (Reg.portCfg 0) && t.boot.sealSeen && t.boot.sealOff == Reg.portCfg 0 | _ => false) = true := by decide
/-- At RNOM the logarithm is 0 and the channel reads 25.0 °C (R433). -/
theorem test_thermistor_nominal : (thermistorT 1000000 1000 3435).sixteenths = some 400 := by decide +kernel
/-- Full PQ signal is 10,000 cd/m², 100 times a canvas 1.0 of 100 cd/m² (Table 7.5), 0x42C80000 in binary32; HLG 75 % is 1.0. -/
theorem test_transfer_ends : (pqT 100 4096).to32 = 0x42C80000 ∧ (hlgT 3072).to32 = 0x3F800000 := by decide +kernel

/-- A frame of 12 bytes, a state of a receiver inside a frame, a stream with an ALIGN inside the frame, and two scrambler states. -/
theorem witness_LineCodingRoundTrips :
    let bs := List.replicate 12 (0xAB : Byte)
    let al := (Ctl.align 0 15 0 true false 1).block
    12 ≤ bs.length ∧ (lineBlocks bs).length = 2 ∧
    (((lineBlocks bs).intersperse al).filter fun b => !(b.control && ctlLaneLocal (leAt b.payload 0 1))) = lineBlocks bs ∧
    (((lineBlocks bs).intersperse al).foldl Deframer.feed ⟨some [1], [], 0⟩) = ⟨none, [bs], 1⟩ ∧
    (descramble 0x3FFFFFFFFFFFFFF#58 (scramble 5#58 (List.replicate 60 true)).1).1 ≠ List.replicate 60 true := by
  decide +kernel
/-- Lock is taken after 64 consecutive valid headers and lost at the 16th invalid one in a window (R145). -/
theorem test_block_lock : ((List.replicate 64 true).foldl (fun l v => (LockState.next l v).1) .hunt = .locked 0 0) ∧
    ((List.replicate 15 false).foldl (fun l v => (LockState.next l v).1) (.locked 0 0) = .locked 15 15) ∧ (LockState.next (.locked 15 15) false).1 = .hunt ∧
    (LockState.next (.locked 63 15) true).1 = .locked 0 0 := by decide
/-- A BEACON of device 2 to every tile: KIND 9, DEV in bits 7:4, SEQ little-endian, ADDR 63 (Table 6.1). -/
theorem test_beacon_bytes : ((TxFrame.bytes 2 0x1234 ⟨.beacon, 63, 0, false, [], 0, 0⟩).take 8) = [9, 0x20, 0x34, 0x12, 63, 0, 0, 0] := by decide

def debugS : State := { live with pwr := { live.pwr with trstN := true } }
/-- Conditions of `EveryCommandCompletes` that no family's statement names together: a partner's BEACON without the
shutting-down flag, the 15th time a port runs dry within 1 s, and the upstream lane's turn. The other arms' conditions
are those of the families' statements, whose witnesses stand above. -/
theorem witness_EveryCommandCompletes :
    (let s := sharedS .pairing
     s.relayOn = true ∧ s.shared 0 = true ∧ (s.port 0).hears = true ∧ beaconBody s.partnerDev (beatFrom1 0) = some (List.replicate 16 0) ∧
     (s.takeSeq 0 32 (leAt (beatFrom1 0) 2 2)).1 = true ∧ s.rl.role = .pairing) ∧
    (let s := chainS fun q => { q with sending := some (allFrame .beacon 0 []), busy := 1000000000000, dry := List.replicate 14 10000000000 }
     (s.port 0).sending = some (allFrame .beacon 0 []) ∧ s.blockNow 0 < (s.port 0).busy ∧
     ((s.port 0).dry.filter fun t => !(s.past t 625000000)).length < 15) ∧
    (let s := calS fun q => { q with calNext := 4 }
     (s.port 0).up = true ∧ (s.port 0).cal = none ∧ (s.port 0).calTick ≤ s.ticks ∧ (s.port 0).calNext < 5 * s.calHops 0 ∧ (s.port 0).calTurn.2 = 4 ∧
     (s.port 0).calHeld ≠ some s.tl.next ∧ s.calFree 0 = true) ∧
    ({ debugS with sec := { debugS.sec with scope := 1 } } : State).sec.scope ≠ 0 ∧ debugS.pwr.trstN = true := by
  decide +kernel

end Sys2Proof.Tests
end

section
/-! SUPPORT. What every command keeps: the lemmas of the 189 meanings gathered into one about `exec`, and the statements that follow from
it. -/

namespace Sys2Proof.Machine

/-- The two bits by which `Keeps` says that an operation may lift the seal or change any RWS field after it. -/
def sealBits : Nat := 2 ^ 25 ||| 2 ^ 26

/-- What a command may do to the seal, as the bits that `Keeps` reads: 25 where it may change an RWS field that stays open after the
seal, both where it may lift the seal or change any other RWS field. -/
def sealReach : Instr → Nat
  | .sbStageComplete .. | .sbStageTimeout .. | .restartTakesEffect | .feedPresent .. | .feedAbsent .. | .powerLoss
  | .resetRelease | .resetAssert | .refClkStart | .refClkStop => sealBits
  | .registerWrite .. | .evtCoreStateWrite .. | .evtLineEnableWrite .. | .evtRouteWrite .. | .trimSlotEnd .. => 2 ^ 25
  | _ => 0

/-- A next state of a command differs only in the parts that `touches` names, keeps what must last, and breaks the seal only as far as
`sealReach` says. -/
theorem exec_keeps (c : Instr) (s : State) : Answers (partMask (touches c) ||| sealReach c) s (exec c s) := by
  cases c with dsimp only [touches, sealReach]
  | registerWrite => exact execRegisterWrite_keeps.mono rfl
  | bar2Read => exact execBar2Read_keeps.mono rfl
  | bar2Write => exact execBar2Write_keeps.mono rfl
  | cueGo => exact execCueGo_keeps.mono rfl
  | cueFlush => exact execCueFlush_keeps.mono rfl
  | hsFenceHiWrite => exact execHsFenceHiWrite_keeps.mono rfl
  | hsFenceLoWrite => exact execHsFenceLoWrite_keeps.mono rfl
  | sceneQueryWrite => exact execSceneQueryWrite_keeps.mono rfl
  | lampRecheck => exact execLampRecheck_keeps.mono rfl
  | lampWatchWrite => exact execLampWatchWrite_keeps.mono rfl
  | planCue => exact execPlanCue_keeps.mono rfl
  | tbRestep => exact execTbRestep_keeps.mono rfl
  | tbNowNsRead => exact execTbNowNsRead_keeps.mono rfl
  | attach => exact execAttach_keeps.mono rfl
  | detach => exact execDetach_keeps.mono rfl
  | stageGo => exact execStageGo_keeps.mono rfl
  | stageAbort => exact execStageAbort_keeps.mono rfl
  | evtHostCiWrite => exact execEvtHostCiWrite_keeps.mono rfl
  | evtPop => exact execEvtPop_keeps.mono rfl
  | evtDone => exact execEvtDone_keeps.mono rfl
  | evtCoreStateWrite => exact execEvtCoreStateWrite_keeps.mono rfl
  | evtLineEnableWrite => exact execEvtLineEnableWrite_keeps.mono rfl
  | evtRouteWrite => exact execEvtRouteWrite_keeps.mono rfl
  | faultClear => exact execFaultClear_keeps.mono rfl
  | faultClearAll => exact execFaultClearAll_keeps.mono rfl
  | holdRequest => exact execHoldRequest_keeps.mono rfl
  | faultLogRead => exact execFaultLogRead_keeps.mono rfl
  | activeRead => exact execActiveRead_keeps.mono rfl
  | journalRead => exact execJournalRead_keeps.mono rfl
  | journalReadDone => exact execJournalReadDone_keeps.mono rfl
  | restart => exact execRestart_keeps.mono rfl
  | restartTakesEffect => exact execRestartTakesEffect_keeps.mono rfl
  | ownerEnrol => exact execOwnerEnrol_keeps.mono rfl
  | attestNonceWrite => exact execAttestNonceWrite_keeps.mono rfl
  | attestGo => exact execAttestGo_keeps.mono rfl
  | attestReportDone => exact execAttestReportDone_keeps.mono rfl
  | debugSubmit => exact execDebugSubmit_keeps.mono rfl
  | zeroise => exact execZeroise_keeps.mono rfl
  | zeroisePermanent => exact execZeroisePermanent_keeps.mono rfl
  | handover => exact execHandover_keeps.mono rfl
  | mend => exact execMend_keeps.mono rfl
  | hurdleQueryWrite => exact execHurdleQueryWrite_keeps.mono rfl
  | hurdleQueryDone => exact execHurdleQueryDone_keeps.mono rfl
  | coreKick => exact execCoreKick_keeps.mono rfl
  | coreWdtExpiry => exact execCoreWdtExpiry_keeps.mono rfl
  | portStopComplete => exact execPortStopComplete_keeps.mono rfl
  | holdTimeExpiry => exact execHoldTimeExpiry_keeps.mono rfl
  | pcieLinkTrained => exact execPcieLinkTrained_keeps.mono rfl
  | pcieLinkDown => exact execPcieLinkDown_keeps.mono rfl
  | functionLevelReset => exact execFunctionLevelReset_keeps.mono rfl
  | hotReset => exact execHotReset_keeps.mono rfl
  | d3hotEntry => exact execD3hotEntry_keeps.mono rfl
  | busMasterEnableClear => exact execBusMasterEnableClear_keeps.mono rfl
  | pePerstAssert => exact execPePerstAssert_keeps.mono rfl
  | pePerstRelease => exact execPePerstRelease_keeps.mono rfl
  | pullCompletionRx => exact execPullCompletionRx_keeps.mono rfl
  | pullCompletionTimeout => exact execPullCompletionTimeout_keeps.mono rfl
  | hsPullComplete => exact execHsPullComplete_keeps.mono rfl
  | stagePullDone => exact execStagePullDone_keeps.mono rfl
  | stageCheckDone => exact execStageCheckDone_keeps.mono rfl
  | stageEraseResume => exact execStageEraseResume_keeps.mono rfl
  | stageEraseDone => exact execStageEraseDone_keeps.mono rfl
  | stageProgramDone => exact execStageProgramDone_keeps.mono rfl
  | stageVerifyDone => exact execStageVerifyDone_keeps.mono rfl
  | hostRingWrite => exact execHostRingWrite_keeps.mono rfl
  | indexBlockTimer => exact execIndexBlockTimer_keeps.mono rfl
  | legBoundary => exact execLegBoundary_keeps.mono rfl
  | pinPulseStart => exact execPinPulseStart_keeps.mono rfl
  | pinPulseEnd => exact execPinPulseEnd_keeps.mono rfl
  | planCueFixPoint => exact execPlanCueFixPoint_keeps.mono rfl
  | restepDecisionPoint => exact execRestepDecisionPoint_keeps.mono rfl
  | lapFrameSend => exact execLapFrameSend_keeps.mono rfl
  | scheduleOccurrence => exact execScheduleOccurrence_keeps.mono rfl
  | blockCorrectionDue => exact execBlockCorrectionDue_keeps.mono rfl
  | sendDeadline => exact execSendDeadline_keeps.mono rfl
  | viewComposeDone => exact execViewComposeDone_keeps.mono rfl
  | probeCountSecond => exact execProbeCountSecond_keeps.mono rfl
  | tileTempStale => exact execTileTempStale_keeps.mono rfl
  | delayRecompute => exact execDelayRecompute_keeps.mono rfl
  | ptpAnnounce => exact execPtpAnnounce_keeps.mono rfl
  | ptpSync => exact execPtpSync_keeps.mono rfl
  | ptpFollowUp => exact execPtpFollowUp_keeps.mono rfl
  | ptpDelayResp => exact execPtpDelayResp_keeps.mono rfl
  | ptpPdelayReq => exact execPtpPdelayReq_keeps.mono rfl
  | ptpPdelayResp => exact execPtpPdelayResp_keeps.mono rfl
  | ptpPdelayRespFollowUp => exact execPtpPdelayRespFollowUp_keeps.mono rfl
  | ptpManagement => exact execPtpManagement_keeps.mono rfl
  | ptpSignaling => exact execPtpSignaling_keeps.mono rfl
  | delayReqSend => exact execDelayReqSend_keeps.mono rfl
  | pdelayReqSend => exact execPdelayReqSend_keeps.mono rfl
  | announceReceiptTimeout => exact execAnnounceReceiptTimeout_keeps.mono rfl
  | syncIntervalMiss => exact execSyncIntervalMiss_keeps.mono rfl
  | sourceRevertTimer => exact execSourceRevertTimer_keeps.mono rfl
  | laprefPulse => exact execLaprefPulse_keeps.mono rfl
  | laprefEdgeTimeout => exact execLaprefEdgeTimeout_keeps.mono rfl
  | refClkStop => exact execRefClkStop_keeps.mono rfl
  | ethFrameRx => exact execEthFrameRx_keeps.mono rfl
  | arpRequest => exact execArpRequest_keeps.mono rfl
  | igmpQuery => exact execIgmpQuery_keeps.mono rfl
  | igmpReportTimer => exact execIgmpReportTimer_keeps.mono rfl
  | flowPacketRx => exact execFlowPacketRx_keeps.mono rfl
  | flowFrameClose => exact execFlowFrameClose_keeps.mono rfl
  | flowPathTimeout => exact execFlowPathTimeout_keeps.mono rfl
  | flowLeaveTimer => exact execFlowLeaveTimer_keeps.mono rfl
  | cueDatagramRx => exact execCueDatagramRx_keeps.mono rfl
  | cueDatagramAccept => exact execCueDatagramAccept_keeps.mono rfl
  | relayDelayedAccept => exact execRelayDelayedAccept_keeps.mono rfl
  | monitorPacketSend => exact execMonitorPacketSend_keeps.mono rfl
  | ethLinkChange => exact execEthLinkChange_keeps.mono rfl
  | memRequest => exact execMemRequest_keeps.mono rfl
  | memReadBurst => exact execMemReadBurst_keeps.mono rfl
  | refreshDue => exact execRefreshDue_keeps.mono rfl
  | pageIdleTimeout => exact execPageIdleTimeout_keeps.mono rfl
  | stackTempReading => exact execStackTempReading_keeps.mono rfl
  | stackReadTimeout => exact execStackReadTimeout_keeps.mono rfl
  | stackQuiet => exact execStackQuiet_keeps.mono rfl
  | stackWake => exact execStackWake_keeps.mono rfl
  | stackExitDone => exact execStackExitDone_keeps.mono rfl
  | parityAlert => exact execParityAlert_keeps.mono rfl
  | parityAlertClear => exact execParityAlertClear_keeps.mono rfl
  | trimSlotDue => exact execTrimSlotDue_keeps.mono rfl
  | trimSlotEnd => exact execTrimSlotEnd_keeps.mono rfl
  | hbmTrainingDone => exact execHbmTrainingDone_keeps.mono rfl
  | fabricTrimDone => exact execFabricTrimDone_keeps.mono rfl
  | fabricStallTimeout => exact execFabricStallTimeout_keeps.mono rfl
  | hurdleCheckDone => exact execHurdleCheckDone_keeps.mono rfl
  | resetRelease => exact execResetRelease_keeps.mono rfl
  | resetAssert => exact execResetAssert_keeps.mono rfl
  | sbStageComplete => exact execSbStageComplete_keeps.mono rfl
  | sbStageTimeout => exact execSbStageTimeout_keeps.mono rfl
  | slateLoadDone => exact execSlateLoadDone_keeps.mono rfl
  | warmSourceTimeout => exact execWarmSourceTimeout_keeps.mono rfl
  | nvmOpDone => exact execNvmOpDone_keeps.mono rfl
  | nvmGraceTimeout => exact execNvmGraceTimeout_keeps.mono rfl
  | entropyHealthFailure => exact execEntropyHealthFailure_keeps.mono rfl
  | portEnable => exact execPortEnable_keeps.mono rfl
  | portBlocksStart => exact execPortBlocksStart_keeps.mono rfl
  | portStartTimeout => exact execPortStartTimeout_keeps.mono rfl
  | portRestartTimer => exact execPortRestartTimer_keeps.mono rfl
  | alignSend => exact execAlignSend_keeps.mono rfl
  | upAlignRx => exact execUpAlignRx_keeps.mono rfl
  | alignMissed => exact execAlignMissed_keeps.mono rfl
  | upstreamLockLoss => exact execUpstreamLockLoss_keeps.mono rfl
  | idleEntry => exact execIdleEntry_keeps.mono rfl
  | idleExit => exact execIdleExit_keeps.mono rfl
  | chainFrameStart => exact execChainFrameStart_keeps.mono rfl
  | chainTxDry => exact execChainTxDry_keeps.mono rfl
  | beaconSend => exact execBeaconSend_keeps.mono rfl
  | calStart => exact execCalStart_keeps.mono rfl
  | calDropChange => exact execCalDropChange_keeps.mono rfl
  | calPatternEnd => exact execCalPatternEnd_keeps.mono rfl
  | calRestoreChange => exact execCalRestoreChange_keeps.mono rfl
  | calReportTimeout => exact execCalReportTimeout_keeps.mono rfl
  | statusFrameRx => exact execStatusFrameRx_keeps.mono rfl
  | censusDataRx => exact execCensusDataRx_keeps.mono rfl
  | censusEnumTimeout => exact execCensusEnumTimeout_keeps.mono rfl
  | censusReadTimeout => exact execCensusReadTimeout_keeps.mono rfl
  | ageAckTimeout => exact execAgeAckTimeout_keeps.mono rfl
  | batonClaimRepeat => exact execBatonClaimRepeat_keeps.mono rfl
  | relayHeartbeatSend => exact execRelayHeartbeatSend_keeps.mono rfl
  | relayHeartbeatRx => exact execRelayHeartbeatRx_keeps.mono rfl
  | relayLinkTimeout => exact execRelayLinkTimeout_keeps.mono rfl
  | relayLinkRetrim => exact execRelayLinkRetrim_keeps.mono rfl
  | relayTrimDone => exact execRelayTrimDone_keeps.mono rfl
  | relayTrainSend => exact execRelayTrainSend_keeps.mono rfl
  | relayTimeSend => exact execRelayTimeSend_keeps.mono rfl
  | relayTimeRx => exact execRelayTimeRx_keeps.mono rfl
  | relayCueRx => exact execRelayCueRx_keeps.mono rfl
  | relayTileRx => exact execRelayTileRx_keeps.mono rfl
  | relayLampRx => exact execRelayLampRx_keeps.mono rfl
  | relayFlushRx => exact execRelayFlushRx_keeps.mono rfl
  | relaySigsRx => exact execRelaySigsRx_keeps.mono rfl
  | relayDelaysRx => exact execRelayDelaysRx_keeps.mono rfl
  | relayCensusReadyRx => exact execRelayCensusReadyRx_keeps.mono rfl
  | relayPlaceRx => exact execRelayPlaceRx_keeps.mono rfl
  | relayHandoverRx => exact execRelayHandoverRx_keeps.mono rfl
  | partnerBeaconRx => exact execPartnerBeaconRx_keeps.mono rfl
  | heartbeatPathMiss => exact execHeartbeatPathMiss_keeps.mono rfl
  | pairingTimeout => exact execPairingTimeout_keeps.mono rfl
  | handoverSilenceEnd => exact execHandoverSilenceEnd_keeps.mono rfl
  | mendTimer => exact execMendTimer_keeps.mono rfl
  | hkSlot => exact execHkSlot_keeps.mono rfl
  | shutdownClockStop => exact execShutdownClockStop_keeps.mono rfl
  | feedPresent => exact execFeedPresent_keeps.mono rfl
  | feedAbsent => exact execFeedAbsent_keeps.mono rfl
  | powerLoss => exact execPowerLoss_keeps.mono rfl
  | upstreamBlockLock => exact execUpstreamBlockLock_keeps.mono rfl
  | refClkStart => exact execRefClkStart_keeps.mono rfl
  | debugTapAccess => exact execDebugTapAccess_keeps.mono rfl

theorem Part.code_lt (p : Part) : p.code < 25 := by cases p <;> decide

theorem Part.code_eq_ctorIdx (p : Part) : p.code = p.ctorIdx := by cases p <;> rfl

theorem Part.code_injective {p q : Part} (h : p.code = q.code) : p = q := by
  rw [Part.code_eq_ctorIdx, Part.code_eq_ctorIdx] at h
  rw [← Part.ofNat_ctorIdx p, h, Part.ofNat_ctorIdx]

/-- A set of parts has no bit that is none of its parts' codes. -/
theorem testBit_partMask_of_ne (l : List Part) {i : Nat} (h : ∀ p ∈ l, p.code ≠ i) : (partMask l).testBit i = false := by
  have fold : ∀ n : Nat, (l.foldl (fun n p => n ||| 2 ^ p.code) n).testBit i = n.testBit i := by
    induction l with
    | nil => exact fun n => rfl
    | cons p l ih =>
      intro n
      rw [List.foldl_cons, ih fun q hq => h q (.tail _ hq), Nat.testBit_or, Nat.testBit_two_pow, decide_eq_false (h p (.head _)),
        Bool.or_false]
  exact (fold 0).trans (Nat.zero_testBit i)

/-- A frame from what an operation keeps, whatever it does to the seal. -/
theorem Keeps.only_parts {m : Nat} {l : List Part} {s t : State} (h : Keeps m s t) (hm : m % 2 ^ 25 &&& partMask l = m % 2 ^ 25) :
    Only l s t := by
  refine ⟨h.lasting.variant, h.lasting.ticks, h.lasting.pending, fun p hp => h.same p ?_⟩
  have hlow : (m % 2 ^ 25).testBit p.code = m.testBit p.code := by
    rw [Nat.testBit_mod_two_pow, decide_eq_true p.code_lt, Bool.true_and]
  have hout : (partMask l).testBit p.code = false :=
    testBit_partMask_of_ne l fun q hq hcode => hp (by rwa [← Part.code_injective hcode])
  rw [← hlow, ← hm, Nat.testBit_and, hout, Bool.and_false]

/-- A command that cannot lift the seal keeps it, with the RWS fields that are not open after it. -/
theorem exec_sealHolds {c : Instr} {s t : State} (hc : (sealReach c).testBit 26 = false) (hw : s.wf) (h : exec c s = .next t) :
    SealHolds openAfterSeal s t := by
  have hparts : (partMask (touches c)).testBit 26 = false :=
    testBit_partMask_of_ne _ fun p _ => (Nat.lt_trans p.code_lt (by decide)).ne
  exact (exec_keeps c s t h).lockX (by rw [Nat.testBit_or, hparts, hc, Bool.or_false]) hw

/-- Settles O5: each command's meaning keeps what must last, whatever parts it touches. -/
theorem commandsLeaveWhatLasts : Obligations.CommandsLeaveWhatLasts := by
  intro c s t h
  exact (exec_keeps c s t h).lasting

/-- Settles O9: after the seal no write that the host makes reaches an RWS field (R13, R387), so bit 25 of what it reaches is clear. -/
theorem sealStopsHostWrites : Obligations.SealStopsHostWrites := by
  intro s t off first last data hw hs h
  have held : SealHolds (fun _ => false) s t := (execRegisterWrite_host_keeps t h).lock (by decide) hw
  obtain ⟨hseal, hrws⟩ := held hs
  exact ⟨hseal, fun o => hrws o rfl⟩

/-- Settles O10: only the starting commands, which the hypothesis leaves out, reach the seal or an RWS field that it closes. -/
theorem sealHoldsUntilTheNextStart : Obligations.SealHoldsUntilTheNextStart := by
  intro c s t hw _ hc h
  refine exec_sealHolds ?_ hw h
  cases c with
  | sbStageComplete | sbStageTimeout | restartTakesEffect | feedPresent | feedAbsent | powerLoss | resetRelease | resetAssert
  | refClkStart | refClkStop => exact hc.elim
  | _ => dsimp only [sealReach]; decide

end Sys2Proof.Machine
end

section
/-! SUPPORT. The register write of a register without an effect of its own (R11 to R13, R456): first its counts and RW bits, then its RWS
bits. What each of the two leaves, and what a read gives after it. -/

namespace Sys2Proof.Machine

/-- What a write does to a register's counts and RW bits (R11, R12): the part of `State.putPlain` before the RWS bits. -/
def State.putOwn (s : State) (off : Nat) (r : RegRow) (v : Word) : State :=
  let s := if r.w1c != 0 && v.toNat &&& r.w1c == r.w1c then s.clearCnt off else s
  if r.rw != 0 then s.setRw off (Word.of (v.toNat &&& r.rw)) else s

/-- A training register's value kept for the seal where a core wrote it: the part of `State.putRws` after the setting. -/
def State.keepTrained (s : State) (who : Requester) (off : Nat) (new : Word) : State :=
  match who with
  | .host => s
  | .core _ => if trainOff off then { s with mem := { s.mem with trained := Sparse.set rwsReset s.mem.trained off new } } else s

/-- The RWS bits of a register after a write of `v`, settings out of range replaced. -/
def State.rwsAfter (s : State) (off : Nat) (v : Word) : Word := fixReg off (rwsNew (s.rwsMask off) (s.rws off) v)

/-- A setting written before the seal, with its events: the part of `State.putRws` before what else the setting brings. -/
def State.setSetting (s : State) (who : Requester) (off : Nat) (v : Word) : State :=
  (fixEvents off (rwsNew (s.rwsMask off) (s.rws off) v)).foldl (fun s x => s.ev x.1 x.2) ((s.tried who off v).setRws off (s.rwsAfter off v))

section
variable {s : State} {who : Requester} {off : Nat} {v : Word} {r : RegRow}

theorem State.putPlain_eq (hr : regFind off = some r) : s.putPlain who off v = (s.putOwn off r v).putRws who off v := by
  unfold State.putPlain
  rw [hr]
  rfl

theorem State.rwsMask_eq (hr : regFind off = some r) : s.rwsMask off = r.rws &&& (allBits - s.variant.absent off) := by
  unfold State.rwsMask
  rw [hr]

/- Counts and RW bits. -/

theorem State.putOwn_keeps : Keeps (partMask [.rw, .cnt]) s (s.putOwn off r v) := by
  unfold State.putOwn
  extract_lets u
  have hu : Keeps (partMask [.rw, .cnt]) s u := Keeps.ite (fun _ => State.clearCnt_keeps.mono rfl) fun _ => .refl
  exact Keeps.ite (fun _ => hu.andThen State.setRw_keeps rfl) fun _ => hu

@[simp] theorem State.putOwn_variant : (s.putOwn off r v).variant = s.variant := State.putOwn_keeps.lasting.variant
@[simp] theorem State.putOwn_boot : (s.putOwn off r v).boot = s.boot := State.putOwn_keeps.same .boot rfl
@[simp] theorem State.putOwn_regs_rws : (s.putOwn off r v).regs.rws = s.regs.rws := State.putOwn_keeps.same .rws rfl
@[simp] theorem State.putOwn_rws (o : Nat) : (s.putOwn off r v).rws o = s.rws o := by unfold State.rws; rw [State.putOwn_regs_rws]

theorem State.putOwn_wf (hw : s.wf) : (s.putOwn off r v).wf := State.putOwn_keeps.lasting.wf hw

theorem State.putOwn_rwsMask : (s.putOwn off r v).rwsMask off = s.rwsMask off := by
  unfold State.rwsMask
  rw [State.putOwn_variant]

theorem State.putOwn_rwsAfter : (s.putOwn off r v).rwsAfter off v = s.rwsAfter off v := by
  unfold State.rwsAfter
  rw [State.putOwn_rwsMask, State.putOwn_rws]

theorem State.putOwn_rw (hw : s.wf) (o : Nat) :
    (s.putOwn off r v).rw o = if o = off ∧ r.rw ≠ 0 then Word.of (v.toNat &&& r.rw) else s.rw o := by
  unfold State.putOwn
  extract_lets u
  have hu : Keeps (partMask [.cnt]) s u := Keeps.ite (fun _ => State.clearCnt_keeps) fun _ => .refl
  have hrw : u.rw o = s.rw o := congrArg (Sparse.get rwReset · o) (hu.same .rw rfl)
  by_cases h : r.rw = 0
  · simp [h, hrw]
  · simp [h, State.rw_setRw _ _ _ _ (hu.lasting.wf hw), hrw]

theorem State.putOwn_cnt (hw : s.wf) (o : Nat) : (s.putOwn off r v).cnt o =
    if o = off ∧ r.w1c ≠ 0 ∧ v.toNat &&& r.w1c = r.w1c then
      (Sparse.get (fun _ => 0#32) s.regs.cnt off - Sparse.get (fun _ => 0#32) s.regs.cnt0 off).toNat
    else s.cnt o := by
  unfold State.putOwn
  extract_lets u
  have hc : (if r.rw != 0 then u.setRw off (Word.of (v.toNat &&& r.rw)) else u).cnt o = u.cnt o := by split <;> rfl
  rw [hc]
  by_cases h : r.w1c ≠ 0 ∧ v.toNat &&& r.w1c = r.w1c
  · simp [u, h, State.cnt_clearCnt s off o hw]
  · simp [u, h]

/-- Where a register holds no count a write leaves all counts, the sums too. -/
theorem State.putOwn_regs_cnt (h : r.w1c = 0) : (s.putOwn off r v).regs.cnt = s.regs.cnt := by
  unfold State.putOwn
  simp only [h, bne_self_eq_false, Bool.false_and, Bool.false_eq_true, if_false]
  split <;> rfl

/- RWS bits. -/

theorem State.putRws_of_mask_zero (hm : s.rwsMask off = 0) : s.putRws who off v = s := by
  unfold State.putRws
  simp [hm]

theorem State.putRws_after_seal (hm : s.rwsMask off ≠ 0) (hs : s.boot.sealWhen ≠ .notYet) :
    s.putRws who off v = if s.rwsAfter off v = s.rws off then s else s.violation who off := by
  unfold State.putRws State.rwsAfter
  simp [hm, hs]

theorem State.putRws_before_seal (hm : s.rwsMask off ≠ 0) (hs : s.boot.sealWhen = .notYet) :
    s.putRws who off v = ((s.setSetting who off v).settingDone off s.nomIncr).keepTrained who off (s.rwsAfter off v) := by
  unfold State.putRws State.setSetting State.rwsAfter State.keepTrained
  cases who <;> simp [hm, hs]

theorem State.setSetting_keeps : Keeps (partMask [.rws, .cnt, .evt, .boot] ||| sealBits) s (s.setSetting who off v) :=
  Keeps.foldl ((State.tried_keeps.mono rfl).andThen State.setRws_keeps rfl) fun _ _ h => h.andThen State.ev_keeps rfl

theorem State.setSetting_rws (hw : s.wf) (o : Nat) :
    (s.setSetting who off v).rws o = if o = off then s.rwsAfter off v else s.rws o := by
  have ht : Keeps (partMask [.boot]) s (s.tried who off v) := State.tried_keeps
  have hset := State.rws_setRws (s.tried who off v) off o (s.rwsAfter off v) (ht.lasting.wf hw)
  rw [show (s.tried who off v).rws o = s.rws o from rfl] at hset
  rw [← hset]
  have events : Keeps (partMask [.cnt, .evt]) ((s.tried who off v).setRws off (s.rwsAfter off v)) (s.setSetting who off v) :=
    Keeps.foldl .refl fun _ _ h => h.andThen State.ev_keeps rfl
  exact congrArg (Sparse.get rwsReset · o) (events.same .rws rfl)

/-- What a setting other than the increment brings leaves every RWS field. -/
theorem State.settingDone_keeps_of_not_incr {n : Nat} (hlo : off ≠ Reg.tbIncrNomLo) (hhi : off ≠ Reg.tbIncrNomHi) :
    Keeps (partMask [.cnt, .evt, .tb, .ports, .pwr, .out]) s (s.settingDone off n) := by
  unfold State.settingDone
  simp only [beq_iff_eq, hlo, hhi, Bool.or_eq_true, or_self, if_false]
  refine Keeps.ite (fun _ => Keeps.tb.mono rfl) fun _ => Keeps.ite (fun _ => State.memSettings_keeps.mono rfl) fun _ => ?_
  refine Keeps.ite (fun _ => State.showPins_keeps.mono rfl) fun _ => ?_
  exact Keeps.foldl .refl fun _ _ h => h.andThen State.stopClock_keeps rfl

/-- A setting that `settingMore` does not name brings nothing else. -/
theorem State.settingDone_of_plain {n : Nat} (h : settingMore off = false) : s.settingDone off n = s := by
  unfold settingMore at h
  simp only [Bool.or_eq_false_iff, List.any_eq_false, beq_iff_eq, beq_eq_false_iff_ne] at h
  obtain ⟨⟨⟨⟨⟨htb, hlo⟩, hhi⟩, hmem⟩, hpin⟩, hport⟩ := h
  have none : (idxs 16 fun p => off == Reg.portCfg p && !(s.portOn p) && (s.port p).clock) = [] :=
    List.filter_eq_nil_iff.2 fun p hp => by simp [hport p hp]
  unfold State.settingDone
  simp only [beq_iff_eq, htb, hlo, hhi, hmem, hpin, Bool.or_eq_true, or_self, if_false, none, List.foldl_nil]

theorem State.keepTrained_keeps {new : Word} : Keeps (partMask [.mem]) s (s.keepTrained who off new) := by
  unfold State.keepTrained
  cases who with
  | host => exact .refl
  | core c => exact Keeps.ite (fun _ => Keeps.memTrained rfl fun h => Sparse.set_wf _ _ h) fun _ => .refl

/-- Before the seal the register takes the value, and every other RWS field stays (R13). -/
theorem State.putRws_rws_before_seal (hw : s.wf) (hm : s.rwsMask off ≠ 0) (hs : s.boot.sealWhen = .notYet)
    (hlo : off ≠ Reg.tbIncrNomLo) (hhi : off ≠ Reg.tbIncrNomHi) (o : Nat) :
    (s.putRws who off v).rws o = if o = off then s.rwsAfter off v else s.rws o := by
  rw [State.putRws_before_seal hm hs, ← State.setSetting_rws hw o]
  have done := State.settingDone_keeps_of_not_incr (s := s.setSetting who off v) (n := s.nomIncr) hlo hhi
  have kept := State.keepTrained_keeps (s := (s.setSetting who off v).settingDone off s.nomIncr) (who := who) (off := off)
    (new := s.rwsAfter off v)
  exact congrArg (Sparse.get rwsReset · o) ((kept.same .rws rfl).trans (done.same .rws rfl))

theorem State.putRws_keeps_of_plain (h : settingMore off = false) :
    Keeps (partMask [.rws, .cnt, .evt, .boot, .mem] ||| sealBits) s (s.putRws who off v) := by
  by_cases hm : s.rwsMask off = 0
  · rw [State.putRws_of_mask_zero hm]
    exact .refl
  by_cases hs : s.boot.sealWhen = .notYet
  · rw [State.putRws_before_seal hm hs, State.settingDone_of_plain h]
    exact (State.setSetting_keeps.mono rfl).andThen State.keepTrained_keeps rfl
  · rw [State.putRws_after_seal hm hs]
    exact Keeps.ite (fun _ => .refl) fun _ => State.violation_keeps.mono rfl

/- The whole write of a register without an effect of its own. -/

theorem State.putPlain_only_of_plain (hr : regFind off = some r) (h : settingMore off = false) :
    Only [.rws, .rw, .cnt, .evt, .boot, .mem] s (s.putPlain who off v) := by
  rw [State.putPlain_eq hr]
  have written : Keeps (partMask [.rws, .rw, .cnt, .evt, .boot, .mem] ||| sealBits) s ((s.putOwn off r v).putRws who off v) :=
    (State.putOwn_keeps.mono rfl).andThen (State.putRws_keeps_of_plain h) rfl
  exact written.only_parts rfl

theorem State.putPlain_rw (hr : regFind off = some r) (hw : s.wf) (o : Nat) :
    (s.putPlain who off v).rw o = if o = off ∧ r.rw ≠ 0 then Word.of (v.toNat &&& r.rw) else s.rw o := by
  rw [State.putPlain_eq hr, ← State.putOwn_rw hw o]
  exact congrArg (Sparse.get rwReset · o) (State.putRws_keeps.same .rw rfl)

/-- A register without RWS bits is written by its counts and RW bits alone. -/
theorem State.putPlain_of_mask_zero (hr : regFind off = some r) (hm : s.rwsMask off = 0) :
    s.putPlain who off v = s.putOwn off r v := by
  rw [State.putPlain_eq hr, State.putRws_of_mask_zero (State.putOwn_rwsMask.trans hm)]

theorem State.putPlain_rws_before_seal (hr : regFind off = some r) (hw : s.wf) (hs : s.boot.sealWhen = .notYet)
    (hlo : off ≠ Reg.tbIncrNomLo) (hhi : off ≠ Reg.tbIncrNomHi) (o : Nat) :
    (s.putPlain who off v).rws o = if o = off ∧ s.rwsMask off ≠ 0 then s.rwsAfter off v else s.rws o := by
  by_cases hm : s.rwsMask off = 0
  · simp [State.putPlain_of_mask_zero hr hm, hm]
  · have h := State.putRws_rws_before_seal (s := s.putOwn off r v) (who := who) (v := v) (State.putOwn_wf hw)
      (State.putOwn_rwsMask.symm ▸ hm) (by rw [State.putOwn_boot, hs]) hlo hhi o
    rw [State.putPlain_eq hr, h, State.putOwn_rwsAfter, State.putOwn_rws]
    simp [hm]

/-- A write after the seal that would change no RWS bit does what it does to the counts and RW bits. -/
theorem State.putPlain_after_seal_same (hr : regFind off = some r) (hs : s.boot.sealWhen ≠ .notYet)
    (h : s.rwsMask off = 0 ∨ s.rwsAfter off v = s.rws off) : s.putPlain who off v = s.putOwn off r v := by
  by_cases hm : s.rwsMask off = 0
  · exact State.putPlain_of_mask_zero hr hm
  · rw [State.putPlain_eq hr, State.putRws_after_seal (State.putOwn_rwsMask.symm ▸ hm) (by rwa [State.putOwn_boot]),
      State.putOwn_rwsAfter, State.putOwn_rws, if_pos (h.resolve_left hm)]

/-- One that would change an RWS bit is a violation besides (R456). -/
theorem State.putPlain_after_seal_violation (hr : regFind off = some r) (hs : s.boot.sealWhen ≠ .notYet)
    (hm : s.rwsMask off ≠ 0) (h : s.rwsAfter off v ≠ s.rws off) : s.putPlain who off v = (s.putOwn off r v).violation who off := by
  rw [State.putPlain_eq hr, State.putRws_after_seal (State.putOwn_rwsMask.symm ▸ hm) (by rwa [State.putOwn_boot]),
    State.putOwn_rwsAfter, State.putOwn_rws, if_neg h]

theorem State.putPlain_rws_after_seal (hr : regFind off = some r) (hs : s.boot.sealWhen ≠ .notYet) (o : Nat) :
    (s.putPlain who off v).rws o = s.rws o := by
  by_cases h : s.rwsMask off = 0 ∨ s.rwsAfter off v = s.rws off
  · rw [State.putPlain_after_seal_same hr hs h, State.putOwn_rws]
  · obtain ⟨hm, hn⟩ := not_or.1 h
    rw [State.putPlain_after_seal_violation hr hs hm hn]
    exact State.putOwn_rws o

theorem State.violation_cnt_of_cnt {u : State} (h : u.regs.cnt = s.regs.cnt) (o : Nat) :
    (u.violation who off).cnt o = (s.bump Reg.sealViolations).cnt o := by
  unfold State.violation State.bump State.bumpN State.cnt
  rw [h]

theorem State.violation_boot : (s.violation who off).boot =
    { s.boot with sealSeen := true, sealCore := who != .host, sealOff := off % 2 ^ 26 } := rfl

end

end Sys2Proof.Machine
end

section
/-! SUPPORT. Which of its effects a register write has: the byte enables (R249), the registers that are absent or have an effect of their
own, and REGISTER_WRITE assembled from them. -/

namespace Sys2Proof.Machine

section
variable {s : State} {who : Requester} {off : Nat} {v : Word} {r : RegRow}

theorem badEnables_eq_false_iff (n : Nat) (first last : BitVec 4) :
    badEnables n first last = false ↔ first = 15 ∧ (n < 2 ∨ last = 15) := by
  unfold badEnables
  simp only [Bool.or_eq_false_iff, bne_eq_false_iff_eq, Bool.and_eq_false_iff, decide_eq_false_iff_not, Nat.not_le]

theorem execRegisterWrite_of_enables {off : BitVec 26} {first last : BitVec 4} {data : List Word}
    (h : who = .host → badEnables data.length first last = false) :
    execRegisterWrite who off first last data s = .next (State.writeWords who (off.toNat / 4 * 4) data s) := by
  unfold execRegisterWrite
  cases who with
  | host => simp [h rfl]
  | core c => rfl

theorem execRegisterWrite_host_of_badEnables {off : BitVec 26} {first last : BitVec 4} {data : List Word}
    (h : badEnables data.length first last = true) :
    execRegisterWrite .host off first last data s = .next (s.bump Reg.hostBadAccess) := by
  unfold execRegisterWrite
  simp [h]

theorem State.writeReg_of_none_or_absent (h : regFind off = none ∨ s.variant.absent off = allBits) : s.writeReg who off v = s := by
  unfold State.writeReg
  rcases hr : regFind off with _ | r
  · rfl
  · have ha : s.variant.absent off = allBits := h.resolve_left (by simp [hr])
    simp [ha]

/-- A register that is present has its own effect, if it has one. -/
theorem State.writeReg_of_present (hr : regFind off = some r) (ha : s.variant.absent off ≠ allBits) : s.writeReg who off v =
    ((s.writeCore who off v).orElse fun _ => (s.writeSecure off v).orElse fun _ => s.writeWork off v).getD (s.putPlain who off v) := by
  unfold State.writeReg
  rw [hr]
  simp [ha]

theorem State.writeReg_eq_putPlain (hr : regFind off = some r) (ha : s.variant.absent off ≠ allBits)
    (hcore : s.writeCore who off v = none) (hsecure : s.writeSecure off v = none) (hwork : s.writeWork off v = none) :
    s.writeReg who off v = s.putPlain who off v := by
  rw [State.writeReg_of_present hr ha, hcore, hsecure, hwork]
  rfl

/-- Registers with a row of their own in the opcode table, by whose operation a write is carried out. -/
def rowRegs : List Nat :=
  [Reg.tbRestep, Reg.hostAttach, Reg.stageCtrl, Reg.cueGo, Reg.planCue, Reg.faultClear, Reg.holdRequest, Reg.sbCtrl, Reg.evtHostCi]

theorem isSome_regFind_rowRegs : ∀ o ∈ rowRegs, (regFind o).isSome = true := by decide

theorem absent_rowRegs (x : Variant) : ∀ o ∈ rowRegs, x.absent o ≠ allBits := by cases x <;> decide

theorem State.writeReg_rowRegs {t : State} (ho : off ∈ rowRegs)
    (h : ((s.writeCore who off v).orElse fun _ => (s.writeSecure off v).orElse fun _ => s.writeWork off v) = some t) :
    s.writeReg who off v = t := by
  obtain ⟨r, hr⟩ := Option.isSome_iff_exists.1 (isSome_regFind_rowRegs off ho)
  rw [State.writeReg_of_present hr (absent_rowRegs _ off ho), h]
  rfl

theorem State.readReg_of_none (hr : regFind off = none) : s.readReg off = 0 := by
  unfold State.readReg
  rw [hr]

theorem State.readReg_of_stored (hr : regFind off = some r) (h : s.readView off = none) : s.readReg off =
    ((s.rws off &&& Word.of r.rws) ||| (s.rw off &&& Word.of r.rw) ||| (Word.of (s.cnt off) &&& Word.of r.w1c)) &&&
      Word.of (allBits - s.variant.absent off) := by
  unfold State.readReg State.stored
  rw [hr, h]
  rfl

end

/-- Settles O58: a plain write is `State.putOwn`, then the RWS bits as the seal allows; the other clauses read off the cases of
`State.writeReg`, `execRegisterWrite` and `State.readReg`. -/
theorem registerWritesByTheirFields : Obligations.RegisterWritesByTheirFields := by
  refine ⟨fun s who off first last data h => execRegisterWrite_of_enables h,
    fun s off first last data h => execRegisterWrite_host_of_badEnables h, badEnables_eq_false_iff,
    fun s who off => ⟨rfl, fun w ws => rfl⟩, fun s who off v h => State.writeReg_of_none_or_absent h, ?_, ?_,
    fun s off => ⟨State.readReg_of_none, fun r => State.readReg_of_stored⟩⟩
  · intro s who off v r hw hr ha hcore hsecure hwork t mask new
    have ht : t = s.putPlain who off v := State.writeReg_eq_putPlain hr ha hcore hsecure hwork
    have hmask : mask = s.rwsMask off := (State.rwsMask_eq hr).symm
    have hnew : new = s.rwsAfter off v := by unfold new State.rwsAfter; rw [hmask]
    clear_value t mask new
    subst ht hmask hnew
    refine ⟨State.putPlain_keeps.only_parts rfl, State.putPlain_only_of_plain hr, State.putPlain_rw hr hw, fun h0 o => ?_,
      State.putPlain_rws_before_seal hr hw, fun hs => ⟨State.putPlain_rws_after_seal hr hs, fun hm hn => ?_, fun h => ?_⟩⟩
    · have hm : s.rwsMask off = 0 := by rw [State.rwsMask_eq hr, h0, Nat.zero_and]
      rw [State.putPlain_of_mask_zero hr hm, State.putOwn_cnt hw]
    · rw [State.putPlain_after_seal_violation hr hs hm hn, State.violation_boot, State.putOwn_boot]
      exact ⟨fun h0 => State.violation_cnt_of_cnt (State.putOwn_regs_cnt h0) _, rfl⟩
    · rw [State.putPlain_after_seal_same hr hs h, State.putOwn_boot]
      exact ⟨rfl, fun h0 => congrArg (fun c => (Sparse.get (fun _ => 0#32) c Reg.sealViolations).toNat) (State.putOwn_regs_cnt h0)⟩
  · intro s who v
    refine ⟨?_, ?_, ?_, ?_, ?_, ?_, ?_, ?_, ?_⟩ <;> exact State.writeReg_rowRegs (by decide) rfl

end Sys2Proof.Machine
end

section
/-! SUPPORT. The arithmetic of the wall model: the distance of two splits (R30, R31) and the ceilings of R33. -/

namespace Sys2Proof.Machine

/- Splits. -/

theorem splitDiff_range (a b : Nat) : -2 ^ 39 ≤ splitDiff a b ∧ splitDiff a b < 2 ^ 39 := by
  unfold splitDiff sint
  split <;> omega

theorem splitDiff_modEq (a b : Nat) : (splitDiff a b - ((a : Int) - b)) % 2 ^ 40 = 0 := by
  unfold splitDiff sint
  split <;> omega

/-- The distance is the one number of 40 signed bits that is congruent to the difference. -/
theorem splitDiff_eq_of_modEq {a b : Nat} {d : Int} (hlo : -2 ^ 39 ≤ d) (hhi : d < 2 ^ 39)
    (hd : (d - ((a : Int) - b)) % 2 ^ 40 = 0) : splitDiff a b = d := by
  obtain ⟨klo, khi⟩ := splitDiff_range a b
  have kd := splitDiff_modEq a b
  omega

theorem splitDiff_eq_zero_iff {a b : Nat} (ha : a < 2 ^ 40) (hb : b < 2 ^ 40) : splitDiff a b = 0 ↔ a = b := by
  have hd := splitDiff_modEq a b
  constructor
  · intro h
    omega
  · rintro rfl
    exact splitDiff_eq_of_modEq (by decide) (by decide) (by simp)

theorem splitAfter_iff (a b : Nat) : splitAfter a b = true ↔ 0 < splitDiff a b := by
  unfold splitAfter
  exact decide_eq_true_iff

/-- The distance −2^39 is its own opposite modulo 2^40, and it is not positive (R31). -/
theorem not_splitAfter_both (a b : Nat) : ¬ (splitAfter a b = true ∧ splitAfter b a = true) := by
  rw [splitAfter_iff, splitAfter_iff]
  obtain ⟨_, hhi⟩ := splitDiff_range a b
  obtain ⟨_, khi⟩ := splitDiff_range b a
  have hd := splitDiff_modEq a b
  have kd := splitDiff_modEq b a
  omega

theorem splitOf_cast (x : Int) : (splitOf x : Int) = x % 2 ^ 40 := by
  unfold splitOf
  exact Int.toNat_of_nonneg (Int.emod_nonneg x (by decide))

/-- Wall times less than 2^39 ns apart have their own distance between their splits. -/
theorem splitDiff_splitOf {x y : Int} (hxy : x - y < 2 ^ 39) (hyx : y - x < 2 ^ 39) : splitDiff (splitOf x) (splitOf y) = x - y := by
  refine splitDiff_eq_of_modEq (by omega) hxy ?_
  rw [splitOf_cast, splitOf_cast]
  omega

/-- Settles O11: the distance is fixed by its range and its residue modulo 2^40 (`splitDiff_eq_of_modEq`). -/
theorem splitComparison : Obligations.SplitComparison := by
  refine ⟨fun a b ha hb => ⟨splitDiff_modEq a b, (splitDiff_range a b).1, (splitDiff_range a b).2, splitDiff_eq_zero_iff ha hb,
    splitAfter_iff a b, not_splitAfter_both a b⟩, fun x y hxy hyx => ⟨splitOf_cast x, ?_⟩⟩
  rw [splitAfter_iff, splitDiff_splitOf hxy hyx]
  exact Int.sub_pos

/- Boundaries. -/

/-- `ceilDivI a b` is the least whole number not below a / b. -/
theorem ceilDivI_le_iff {a t : Int} {b : Nat} (hb : 0 < b) : ceilDivI a b ≤ t ↔ a ≤ t * b := by
  unfold ceilDivI
  rw [neg_le, Int.le_ediv_iff_mul_le (Int.natCast_pos.2 hb), Int.neg_mul, Int.neg_le_neg_iff]

theorem ceilDivI_mul_right (a : Int) (b : Nat) {c : Nat} (hc : 0 < c) : ceilDivI (a * c) (b * c) = ceilDivI a b := by
  unfold ceilDivI
  rw [Nat.cast_mul, ← Int.neg_mul, Int.mul_ediv_mul_of_pos_left _ _ (Int.natCast_pos.2 hc)]

section
variable {p : LapPlan} {e : Nat}

theorem LapPlan.legDen_pos (hn : 0 < p.rateN) (hl : 0 < p.legs) : 0 < p.legDen := Nat.mul_pos hn hl

theorem LapPlan.legAt_le_iff (hn : 0 < p.rateN) (hl : 0 < p.legs) (m t : Int) :
    p.legAt e m ≤ t ↔ m * p.pNum ≤ (t - e) * p.legDen := by
  unfold LapPlan.legAt
  rw [← ceilDivI_le_iff (legDen_pos hn hl), le_sub_iff_add_le']

theorem LapPlan.lapAt_eq_legAt (hl : 0 < p.legs) (k : Int) : p.lapAt e k = p.legAt e (k * p.legs) := by
  unfold LapPlan.lapAt LapPlan.legAt LapPlan.legDen
  rw [show k * p.legs * p.pNum = k * p.pNum * p.legs by ring, ceilDivI_mul_right _ _ hl]

theorem LapPlan.legAt_mono (hn : 0 < p.rateN) (hl : 0 < p.legs) {m n : Int} (h : m ≤ n) : p.legAt e m ≤ p.legAt e n := by
  have hp : m * p.pNum ≤ n * p.pNum := Int.mul_le_mul_of_nonneg_right h (Int.natCast_nonneg _)
  exact (legAt_le_iff hn hl m _).2 (hp.trans ((legAt_le_iff hn hl n _).1 (Int.le_refl _)))

/-- Boundary m is at or after t exactly when it is not at or before t − 1, that is when its exact instant lies above t − 1 (R33). -/
theorem LapPlan.legFrom_le_iff (hn : 0 < p.rateN) (hl : 0 < p.legs) (hd : 0 < p.rateD) (m t : Int) :
    p.legFrom e t ≤ m ↔ t ≤ p.legAt e m := by
  have hp : 0 < p.pNum := Nat.mul_pos hd (by decide)
  calc p.legFrom e t ≤ m
    _ ↔ (t - e - 1) * p.legDen / p.pNum < m := by
        unfold LapPlan.legFrom
        rw [if_neg (by simpa using hp.ne'), Int.add_one_le_iff]
    _ ↔ (t - e - 1) * p.legDen < m * p.pNum := Int.ediv_lt_iff_lt_mul (Int.natCast_pos.2 hp)
    _ ↔ ¬ p.legAt e m ≤ t - 1 := by rw [legAt_le_iff hn hl, Int.not_le, sub_right_comm]
    _ ↔ t ≤ p.legAt e m := by rw [Int.not_le, Int.sub_one_lt_iff]

/-- A lap is a plan of one leg, as far as its boundaries go. -/
theorem LapPlan.lapFrom_le_iff (hn : 0 < p.rateN) (hd : 0 < p.rateD) (k t : Int) : p.lapFrom e t ≤ k ↔ t ≤ p.lapAt e k := by
  have hfrom : p.lapFrom e t = { p with legs := 1 }.legFrom e t := by simp [LapPlan.lapFrom, LapPlan.legFrom, LapPlan.legDen, LapPlan.pNum]
  have hat : p.lapAt e k = { p with legs := 1 }.legAt e k := by simp [LapPlan.lapAt, LapPlan.legAt, LapPlan.legDen, LapPlan.pNum]
  rw [hfrom, hat]
  exact legFrom_le_iff (p := { p with legs := 1 }) hn Nat.one_pos hd k t

end

/-- Settles O12: R33's ceilings as inequalities without division. -/
theorem boundariesAreCeilings : Obligations.BoundariesAreCeilings := by
  intro p e hn hl hd
  exact ⟨LapPlan.legAt_le_iff hn hl, LapPlan.lapAt_eq_legAt hl, fun m n => LapPlan.legAt_mono hn hl, LapPlan.legFrom_le_iff hn hl hd,
    LapPlan.lapFrom_le_iff hn hd⟩

end Sys2Proof.Machine
end

section
/-! SUPPORT. The timeline at a leg boundary (R33, R37, R38): what the counting, the latch and the way on to the next boundary leave of it. -/

namespace Sys2Proof.Machine

/- A latch changes nothing of the timeline but the lamp watch. -/

/-- Timelines that differ at most in the lamp watch (R102). -/
def Timeline.SameButWatch (a b : Timeline) : Prop :=
  b = { a with watchOk := b.watchOk, watchTarget := b.watchTarget, watchSeq := b.watchSeq }

theorem Timeline.SameButWatch.of_eq {a b : Timeline} (h : b = a) : a.SameButWatch b := by
  subst h
  rfl

theorem Timeline.SameButWatch.trans {a b c : Timeline} (h : a.SameButWatch b) (k : b.SameButWatch c) : a.SameButWatch c := by
  unfold SameButWatch at *
  rw [k, h]

section
variable {s : State}

theorem State.watch_tl {l : Latch} {t : Tile} {seg : Nat} {outs : List LampOut} : s.tl.SameButWatch (s.watch l t seg outs).tl := by
  unfold State.watch
  extract_lets
  split <;> rfl

theorem State.recomputePair_tl {v : Nat} {l : Latch} {x : Due} : s.tl.SameButWatch (State.recomputePair v l s x).tl := by
  unfold State.recomputePair
  split
  · exact .of_eq rfl
  · split
    · exact .of_eq rfl
    · exact State.watch_tl

theorem State.recompute_tl {v : Nat} : s.tl.SameButWatch (s.recompute v).tl := by
  unfold State.recompute
  split
  · exact .of_eq rfl
  next l _ =>
    extract_lets pairs done
    have hpairs : s.tl.SameButWatch pairs.tl :=
      List.foldlRecOn l.due (State.recomputePair v l) (motive := fun t => s.tl.SameButWatch t.tl) (.of_eq rfl)
        fun _ ht _ _ => ht.trans State.recomputePair_tl
    exact hpairs.trans (.of_eq (State.signLatch_keeps.same .tl rfl))

/-- The parts that a view's latch may change before an unchanged canvas is used again. -/
def latchParts : Nat := partMask [.cnt, .evt, .sc, .warm, .tiles, .net, .host, .mem, .out]

/-- A latch ends where its sources and pairs are fixed, or goes on to use its canvas again (R42). -/
theorem State.latchView_cases {v j : Nat} {b : Int} : ∃ (y : State) (again : Bool), Keeps latchParts s y ∧
    s.latchView v j b = if again then (y.recompute v).monFrame v else y := by
  unfold State.latchView
  extract_lets +onlyGivenNames -merge -useContext late fade x
  have hlate : Keeps latchParts s late := State.latePulls_keeps.mono rfl
  split
  rename_i shown out outG hshown
  have kshown : Keeps latchParts s shown := by
    refine Keeps.fst (e := _) ?_ hshown
    clear_value fade
    split
    · exact KeepsL.andThen hlate State.latchLayers_keeps rfl
    · exact KeepsL.mk hlate
  extract_lets +onlyGivenNames -merge -useContext into
  split
  rename_i taken ls gs htaken
  have ktaken : Keeps latchParts s taken := Keeps.fst (e := _) (KeepsL.andThen kshown State.latchLayers_keeps rfl) htaken
  extract_lets +onlyGivenNames -merge -useContext con old due l same fixed released released' y
  have kfixed : Keeps latchParts s fixed := (ktaken.andThen State.clean_keeps rfl).andThen State.modView_keeps rfl
  have kreleased : Keeps latchParts s released := by
    unfold released
    split
    · exact kfixed.andThen State.releaseBufs_keeps rfl
    · exact kfixed
  have ky : Keeps latchParts s y := (kreleased.andThen State.releaseBufs_keeps rfl).andThen State.monLatch_keeps rfl
  exact ⟨y, same, ky, rfl⟩

theorem State.latchView_tl {v j : Nat} {b : Int} : s.tl.SameButWatch (s.latchView v j b).tl := by
  obtain ⟨y, again, hy, h⟩ := State.latchView_cases (s := s) (v := v) (j := j) (b := b)
  have htl : s.tl.SameButWatch y.tl := .of_eq (hy.same .tl rfl)
  rw [h]
  split
  · exact (htl.trans State.recompute_tl).trans (.of_eq (State.monFrame_keeps.same .tl rfl))
  · exact htl

theorem State.legLatch_tl {b k : Int} {j : Nat} : s.tl.SameButWatch (s.legLatch b j k).tl := by
  unfold State.legLatch
  split
  · exact (Timeline.SameButWatch.of_eq (State.applyMirrors_keeps.same .tl rfl)).trans State.latchView_tl
  · split
    · exact .of_eq (State.warmLatch_keeps.same .tl rfl)
    · exact .of_eq rfl

@[simp] theorem State.legLatch_cfg {b k : Int} {j : Nat} : (s.legLatch b j k).cfg = s.cfg := State.legLatch_keeps.same .cfg rfl
@[simp] theorem State.legLatch_flt {b k : Int} {j : Nat} : (s.legLatch b j k).flt = s.flt := State.legLatch_keeps.same .flt rfl

/- The way on to the next boundary. -/

/-- The next boundary is the named index at its instant (R33); besides it only pulses are added (R131). -/
theorem State.goOn_tl {m : Int} {since : Option Int} : ∃ ps, (s.goOn m since).tl =
    { s.tl with next := m, nextAt := s.tl.plan.legAt s.cfg.epoch m, pulses := ps } := by
  unfold State.goOn
  extract_lets p t u o skip
  split
  · exact ⟨_, rfl⟩
  · exact ⟨_, rfl⟩

@[simp] theorem State.goOn_flt {m : Int} {since : Option Int} : (s.goOn m since).flt = s.flt := State.goOn_keeps.same .flt rfl

/- The boundary counted. -/

/-- The leg sequence number after a boundary (R37). -/
def State.seqAfter (s : State) : Nat := if s.sc.shown then (s.tl.legSeq + 1) % 2 ^ 32 else s.tl.legSeq

/-- A boundary that has been counted: the part of `State.boundary` before the leg or the lap begins. -/
def State.counted (s : State) : State := { s with tl := { s.tl with began := true } }.raiseSeq.holdEntry

@[simp] theorem State.counted_tl : s.counted.tl = { s.tl with began := true, legSeq := s.seqAfter } := by
  have hraise : (State.raiseSeq { s with tl := { s.tl with began := true } }).tl = { s.tl with began := true, legSeq := s.seqAfter } := by
    unfold State.raiseSeq State.seqAfter
    dsimp only
    split <;> rfl
  exact (State.holdEntry_keeps.same .tl rfl).trans hraise

theorem State.counted_keeps : Keeps (partMask [.cnt, .evt, .flt, .tl]) s s.counted :=
  ((Keeps.tl.mono rfl).andThen State.raiseSeq_keeps rfl).andThen State.holdEntry_keeps rfl

@[simp] theorem State.counted_sc : s.counted.sc = s.sc := State.counted_keeps.same .sc rfl
@[simp] theorem State.counted_ports : s.counted.ports = s.ports := State.counted_keeps.same .ports rfl
@[simp] theorem State.counted_cfg : s.counted.cfg = s.cfg := State.counted_keeps.same .cfg rfl

/-- A hold that waits for its entry is held from a leg boundary on (R397). -/
theorem State.holdEntry_hold : s.holdEntry.flt.hold = if s.flt.holdFresh then .held else s.flt.hold := by
  unfold State.holdEntry
  cases h : s.flt.holdFresh <;> simp

@[simp] theorem State.counted_hold : s.counted.flt.hold = if s.flt.holdFresh then .held else s.flt.hold := by
  have hraise : (State.raiseSeq { s with tl := { s.tl with began := true } }).flt = s.flt := State.raiseSeq_keeps.same .flt rfl
  unfold State.counted
  rw [State.holdEntry_hold, hraise]

/-- A leg that begins at a boundary which is no lap boundary (R33, R38). -/
def State.legBegun (s : State) : State :=
  { s.counted with tl := { s.counted.tl with leg := (s.tl.next % s.tl.plan.legs).toNat, lap := s.tl.next / s.tl.plan.legs } }

theorem State.boundary_of_leg (h : (s.tl.next % s.tl.plan.legs).toNat ≠ 0) : s.boundary =
    (s.legBegun.legLatch s.tl.nextAt (s.tl.next % s.tl.plan.legs).toNat (s.tl.next / s.tl.plan.legs)).goOn (s.tl.next + 1) none := by
  unfold State.boundary
  exact if_neg (by simpa using h)

theorem State.boundary_of_lap (h : (s.tl.next % s.tl.plan.legs).toNat = 0) :
    s.boundary = s.counted.lapBoundary s.tl.nextAt (s.tl.next / s.tl.plan.legs) := by
  unfold State.boundary
  exact if_pos (by simpa using h)

/-- The timeline after a leg boundary that is no lap boundary. -/
theorem State.boundary_tl_of_leg (h : (s.tl.next % s.tl.plan.legs).toNat ≠ 0) : ∃ ps ok target seq, s.boundary.tl =
    { s.tl with
      began := true, legSeq := s.seqAfter, leg := (s.tl.next % s.tl.plan.legs).toNat, lap := s.tl.next / s.tl.plan.legs
      next := s.tl.next + 1, nextAt := s.tl.plan.legAt s.cfg.epoch (s.tl.next + 1), pulses := ps
      watchOk := ok, watchTarget := target, watchSeq := seq } := by
  rw [State.boundary_of_leg h]
  set t := s.legBegun.legLatch s.tl.nextAt (s.tl.next % s.tl.plan.legs).toNat (s.tl.next / s.tl.plan.legs)
  have hcfg : t.cfg = s.cfg := State.legLatch_cfg.trans State.counted_cfg
  have htl : s.legBegun.tl.SameButWatch t.tl := State.legLatch_tl
  obtain ⟨ps, hps⟩ := State.goOn_tl (s := t) (m := s.tl.next + 1) (since := none)
  refine ⟨ps, t.tl.watchOk, t.tl.watchTarget, t.tl.watchSeq, ?_⟩
  rw [hps, hcfg, htl]
  simp [State.legBegun]

theorem State.boundary_hold_of_leg (h : (s.tl.next % s.tl.plan.legs).toNat ≠ 0) :
    s.boundary.flt.hold = if s.flt.holdFresh then .held else s.flt.hold := by
  rw [State.boundary_of_leg h, State.goOn_flt, State.legLatch_flt]
  exact State.counted_hold

/- The lap boundary. -/

/-- A lap boundary before its cues and changes: a dark lap ends, or begins (R36, R127). -/
def State.lapBegun (s : State) : State :=
  let s := if s.tl.darkLap then { s with tl := { s.tl with dark := false, darkLap := false } } else s
  { s with tl := { s.tl with gap := false, darkLap := s.tl.dark } }

theorem State.lapBegun_tl : s.lapBegun.tl =
    { s.tl with gap := false, dark := s.tl.dark && !s.tl.darkLap, darkLap := s.tl.dark && !s.tl.darkLap } := by
  unfold State.lapBegun
  cases h : s.tl.darkLap <;> simp

theorem State.lapBegun_keeps : Keeps (partMask [.tl]) s s.lapBegun :=
  (Keeps.ite (fun _ => Keeps.tl) fun _ => .refl).andThen Keeps.tl rfl

/-- The gap from a change's instant to the first boundary of the changed timeline (R127). -/
def State.gapBegun (s : State) (a k : Int) : State :=
  ((State.monDrop { s with tl := { s.tl with gap := true, darkLap := false, leg := 0, lap := k } }).holdLap).lapActions a k

/-- How a lap boundary goes on once its cues and its change are taken. -/
def State.lapGoesOn (b k : Int) : State × Option (Int × Bool) → State
  | (y, none) => y.lapLeg b k none
  | (y, some (a, step)) =>
    let n := y.tl.plan.lapFrom y.cfg.epoch a
    if y.tl.plan.lapAt y.cfg.epoch n == a then State.lapLeg { y with tl := { y.tl with darkLap := y.tl.dark } } a n (some a)
    else
      let z := y.gapBegun a k
      if step then z.legsAfter a else z.goOn (n * z.tl.plan.legs) (some a)

theorem State.lapBoundary_eq {b k : Int} : s.lapBoundary b k = State.lapGoesOn b k ((s.lapBegun.cuesAt b k).lapChange b) := by
  unfold State.lapBoundary State.lapGoesOn
  rfl

end

/-- Settles O42: within a lap a boundary is counted, its latch leaves the timeline but for the lamp watch (`State.legLatch_tl`), and the
next index follows; at a lap boundary `State.lapGoesOn` says what follows the cues and the change (log entry 45 for the leg sequence number). -/
theorem legBoundaries : Obligations.LegBoundaries := by
  intro s m l b
  refine ⟨fun h => ?_, fun hon hb => ?_⟩
  · have hearly : (!s.tl.on || decide (s.wall < b)) = true := by simpa using h
    exact if_pos hearly
  · have hnext : exec .legBoundary s = .next s.boundary := if_neg (by simpa [hon] using hb)
    refine ⟨fun hleg => ?_, fun hlap => ?_⟩
    · obtain ⟨ps, ok, target, seq, htl⟩ := State.boundary_tl_of_leg hleg
      refine ⟨_, hnext, ?_⟩
      rw [htl]
      exact ⟨rfl, rfl, rfl, rfl, rfl, rfl, rfl, rfl, rfl, State.boundary_hold_of_leg hleg⟩
    · refine ⟨s.counted.lapBegun, by rw [State.lapBegun_tl, State.counted_tl]; rfl, (State.lapBegun_keeps.same .sc rfl).trans State.counted_sc,
        (State.lapBegun_keeps.same .ports rfl).trans State.counted_ports, fun y c hc => ?_⟩
      intro n
      have hgoes : exec .legBoundary s = .next (State.lapGoesOn b (m / l) (y, c)) := by
        rw [hnext, State.boundary_of_lap hlap, State.lapBoundary_eq, hc]
      rw [hgoes]
      refine ⟨?_, ?_, ?_⟩
      · rintro rfl
        rfl
      · rintro a st rfl ha
        exact congrArg _ (if_pos (beq_iff_eq.2 ha))
      · rintro a st rfl ha
        exact congrArg _ (if_neg (mt beq_iff_eq.1 ha))

end Sys2Proof.Machine
end

section
/-! SUPPORT. The changes that fall at a lap boundary (R36, R63, R106, R236, R319, R322): which one is due, and what each puts in force. -/

namespace Sys2Proof.Machine

section
variable {s : State} {b : Int}

/- Which change is due. -/

theorem State.changeDue_of_step {a : Int} (hs : s.tl.stepB = some a) (ha : a ≤ b) : s.changeDue b = some .step := by
  unfold State.changeDue
  simp [hs, ha]

theorem State.changeDue_of_full {a : Int} (hs : s.tl.stepB = none) (hf : s.tl.fullB = some a) (ha : a ≤ b) :
    s.changeDue b = some .full := by
  unfold State.changeDue
  simp [hs, hf, ha]

theorem State.changeDue_of_limp {a : Int} (hs : s.tl.stepB = none) (hf : s.tl.fullB = none) (hl : s.tl.limpB = some a) (ha : a ≤ b) :
    s.changeDue b = some .limp := by
  unfold State.changeDue
  simp [hs, hf, hl, ha]

theorem State.changeDue_of_plan {c : PlanCue} (hs : s.tl.stepB = none) (hf : s.tl.fullB = none) (hl : s.tl.limpB = none)
    (hp : s.tl.pend = some c) (ha : s.tl.pendB ≤ b) : s.changeDue b = some (.plan c.plan) := by
  unfold State.changeDue
  simp [hs, hf, hl, hp, ha]

/- What a lap boundary makes of it. -/

theorem State.lapChange_of_none (h : s.changeDue b = none) : s.lapChange b = (s, none) := by
  unfold State.lapChange
  rw [h]

/-- A re-step that is no longer waited for. -/
def State.stepTaken (s : State) : State := { s with tl := { s.tl with stepB := none, stepGo := none } }

theorem State.lapChange_of_committed (h : s.changeDue b = some .step) (hgo : s.tl.stepGo = some true) :
    s.lapChange b = (s.stepTaken.takeStep b s.tb.est, some (b + s.tb.est, true)) := by
  unfold State.lapChange
  rw [h]
  simp [hgo, State.stepTaken]

theorem State.lapChange_of_cancelled (h : s.changeDue b = some .step) (hgo : s.tl.stepGo = some false) :
    s.lapChange b = ((s.stepTaken.stepAsks b).placeHeld b, none) := by
  unfold State.lapChange
  rw [h]
  simp [hgo, State.stepTaken]

theorem State.lapChange_of_full (h : s.changeDue b = some .full) :
    s.lapChange b = (((s.takeFull b).placeHeld b).acceptHeld, some (b, false)) := by
  unfold State.lapChange
  rw [h]

theorem State.lapChange_of_limp (h : s.changeDue b = some .limp) :
    s.lapChange b = ((s.takeLimp.placeHeld b).acceptHeld, some (b, false)) := by
  unfold State.lapChange
  rw [h]

theorem State.lapChange_of_plan {c : PlanCue} {n : Nat} (h : s.changeDue b = some (.plan n)) (hp : s.tl.pend = some c) :
    s.lapChange b = (((s.takePlan c b).placeHeld b).acceptHeld, some (b, false)) := by
  unfold State.lapChange
  rw [h]
  simp only [hp]

/- A plan change. -/

theorem State.darkPlan_tl {p : LapPlan} {warm : Bool} :
    (s.darkPlan p warm).tl = { s.tl with plan := p, num := p.num, warm := warm, dark := true } := rfl

/-- With the same leg store every pair is sent again, else all legs of every tile begin anew (R36, R127, R174). -/
theorem State.darkPlan_tiles {p : LapPlan} : (s.darkPlan p false).tiles = s.tiles.map fun t =>
    if s.tl.plan.sameStore p && !s.tl.warm then t.forceAll.unready else t.legsNew p.legs := by
  unfold State.darkPlan
  simp only [Bool.not_false, Bool.and_true]
  rfl

theorem State.litPlan_tl {p : LapPlan} : (s.litPlan p).tl = { s.tl with plan := p, num := p.num } := rfl

/-- The plan of a cue put in force, before what follows any change of plan: the first part of `State.takePlan`. -/
def State.planPut (s : State) (c : PlanCue) : State :=
  let p := s.planOf c.plan
  let dark := s.tl.plan.needsDark p
  let u := { s with tl := { s.tl with pend := none, fixed := false } }.ev Ev.planTaken [s.tl.plan.num, p.num, b2n dark, s.tl.legSeq]
  if dark then u.darkPlan p false else u.litPlan p

theorem State.takePlan_eq {c : PlanCue} : s.takePlan c b = (((s.planPut c).fadeViews.judgeRoom).guardUntil b).cuesChanged := rfl

theorem State.planPut_of_dark {c : PlanCue} (h : s.tl.plan.needsDark (s.planOf c.plan) = true) :
    (s.planPut c).tl = { s.tl with
      pend := none, fixed := false, plan := s.planOf c.plan, num := (s.planOf c.plan).num, warm := false, dark := true } ∧
    (s.planPut c).tiles = s.tiles.map fun t =>
      if s.tl.plan.sameStore (s.planOf c.plan) && !s.tl.warm then t.forceAll.unready else t.legsNew (s.planOf c.plan).legs := by
  unfold State.planPut
  simp only [h, if_true, State.darkPlan_tl, State.darkPlan_tiles, State.ev_p_tl, State.ev_p_tiles, and_self]

theorem State.planPut_of_lit {c : PlanCue} (h : s.tl.plan.needsDark (s.planOf c.plan) = false) :
    (s.planPut c).tl = { s.tl with pend := none, fixed := false, plan := s.planOf c.plan, num := (s.planOf c.plan).num } := by
  unfold State.planPut
  simp only [h, Bool.false_eq_true, if_false, State.litPlan_tl, State.ev_p_tl]

/- Full service and limp service. -/

/-- Full service begun with a plan and the initial scene, before what follows any change of plan: `State.takeFull` after its pulls. -/
def State.fullPut (s : State) (p : LapPlan) (b : Int) : State :=
  let u := s.darkPlan p false
  ({ u with
    tl := { u.tl with fullB := none, service := true, legSeq := 0, hourSec := none, trimSec := ((b - 1) / giga).toNat, probeTick := u.ticks }
    sc := { u.sc with cur := u.cfg.initScene, shown := true, fade := none }
    boot := { u.boot with warmActive := false } }).freshSources.stage5

theorem State.takeFull_eq :
    s.takeFull b = (((s.latePulls 0 true).fullPut (s.planOf s.cfg.initPlan) b).judgeRoom.joins).updGuard := by
  unfold State.takeFull State.fullPut
  generalize s.latePulls 0 true = u
  rfl

theorem State.fullPut_tl {p : LapPlan} : (s.fullPut p b).tl = { s.tl with
    plan := p, num := p.num, warm := false, dark := true, fullB := none, service := true, legSeq := 0, hourSec := none
    trimSec := ((b - 1) / giga).toNat, probeTick := s.ticks } := rfl

theorem State.fullPut_sc {p : LapPlan} :
    (s.fullPut p b).sc.cur = s.cfg.initScene ∧ (s.fullPut p b).sc.shown = true ∧ (s.fullPut p b).sc.fade = none := ⟨rfl, rfl, rfl⟩

theorem State.fullPut_boot {p : LapPlan} : (s.fullPut p b).boot.stage = 5 ∧ (s.fullPut p b).boot.warmActive = false := ⟨rfl, rfl⟩

theorem State.takeLimp_tl : s.takeLimp.tl =
    { s.tl with plan := s.cfg.warm, num := s.cfg.warm.num, warm := true, dark := true, limpB := none, limpQuiet := [] } := rfl

/- A scene cue outside a fade. -/

@[simp] theorem State.guardUntil_sc : (s.guardUntil b).sc = s.sc := State.guardUntil_keeps.same .sc rfl

@[simp] theorem State.newLayers_cur {fading : Bool} : (s.newLayers fading).sc.cur = s.sc.cur := rfl
@[simp] theorem State.newLayers_fade {fading : Bool} : (s.newLayers fading).sc.fade = s.sc.fade := rfl

@[simp] theorem State.fadeViews_cur : s.fadeViews.sc.cur = s.sc.cur := by
  unfold State.fadeViews
  split <;> rfl

@[simp] theorem State.fadeViews_fade : s.fadeViews.sc.fade = s.sc.fade := by
  unfold State.fadeViews
  split <;> rfl

theorem State.takeScene_of_current {c : SceneCue} (hf : s.sc.fade = none) (h : c.scene = s.sc.cur) : (s.takeScene c b).sc = s.sc := by
  unfold State.takeScene
  simp [hf, h]

theorem State.takeScene_of_cut {c : SceneCue} (hf : s.sc.fade = none) (h : c.scene ≠ s.sc.cur) (hc : c.fade = false) :
    (s.takeScene c b).sc.cur = c.scene ∧ (s.takeScene c b).sc.fade = none := by
  unfold State.takeScene
  simp [hf, h, hc]

theorem State.takeScene_of_fade {c : SceneCue} (hf : s.sc.fade = none) (h : c.scene ≠ s.sc.cur) (hc : c.fade = true) (ht : c.time ≠ 0)
    (hp : s.fab.fades.contains (s.sc.cur, c.scene) = true) :
    (s.takeScene c b).sc.cur = s.sc.cur ∧ (s.takeScene c b).sc.fade = some ⟨c.scene, c.ramp, c.time, b⟩ := by
  have hmem : (s.sc.cur, c.scene) ∈ s.fab.fades := by simpa using hp
  unfold State.takeScene
  simp [hf, h, hc, ht, hmem]

end

/-- Settles O43: the first change due in the order of `State.changeDue` is the one made, and each is read off the part of it that puts its
plan or scene in force (log entry 49 for the tiles' pairs). -/
theorem changesAtTheirBoundary : Obligations.ChangesAtTheirBoundary := by
  intro s b
  refine ⟨State.lapChange_of_none, fun a hs ha => ⟨State.lapChange_of_committed (State.changeDue_of_step hs ha),
      State.lapChange_of_cancelled (State.changeDue_of_step hs ha)⟩,
    fun hs a hf ha => State.lapChange_of_full (State.changeDue_of_full hs hf ha),
    fun hs hf a hl ha => State.lapChange_of_limp (State.changeDue_of_limp hs hf hl ha),
    fun hs hf hl c hp ha => ⟨State.lapChange_of_plan (State.changeDue_of_plan hs hf hl hp ha) hp, s.planPut c, State.takePlan_eq, ?_⟩,
    ⟨_, State.takeFull_eq, ?_⟩, ?_,
    fun c hf => ⟨State.takeScene_of_current hf, State.takeScene_of_cut hf, State.takeScene_of_fade hf⟩⟩
  · cases hd : s.tl.plan.needsDark (s.planOf c.plan) with
    | true =>
      obtain ⟨htl, htiles⟩ := State.planPut_of_dark hd
      rw [htl]
      exact ⟨rfl, rfl, rfl, rfl, fun _ => ⟨rfl, htiles⟩, nofun⟩
    | false =>
      rw [State.planPut_of_lit hd]
      exact ⟨rfl, rfl, rfl, rfl, nofun, fun _ => rfl⟩
  · obtain ⟨hcur, hshown, hfade⟩ := State.fullPut_sc (s := s.latePulls 0 true) (b := b) (p := s.planOf s.cfg.initPlan)
    obtain ⟨hstage, hwarm⟩ := State.fullPut_boot (s := s.latePulls 0 true) (b := b) (p := s.planOf s.cfg.initPlan)
    have hcfg : (s.latePulls 0 true).cfg = s.cfg := State.latePulls_keeps.same .cfg rfl
    rw [State.fullPut_tl]
    exact ⟨rfl, rfl, rfl, rfl, rfl, rfl, hcur.trans (congrArg _ hcfg), hshown, hfade, hstage, hwarm⟩
  · rw [State.takeLimp_tl]
    exact ⟨rfl, rfl, rfl, rfl, rfl, rfl⟩

end Sys2Proof.Machine
end

section
/-! SUPPORT. The fences of host surfaces (R54) and the scene query (R70, R75): what a write of each leaves in its fence or register. -/

namespace Sys2Proof.Machine

section
variable {s : State} {n : Nat} {v : Word}

/- Fences. -/

theorem State.modFence_fence_other {m : Nat} {g : Fence → Fence} (h : m ≠ n) : (s.modFence n g).fence m = s.fence m := by
  rw [State.fence_modFence, if_neg fun hc => h hc.1.symm]

theorem State.modFence_fence_same {g : Fence → Fence} (h : n < s.sc.fences.length) : (s.modFence n g).fence n = g (s.fence n) := by
  rw [State.fence_modFence, if_pos ⟨rfl, h⟩]

theorem State.fence_of_sc {t : State} (h : t.sc = s.sc) (m : Nat) : t.fence m = s.fence m := by
  unfold State.fence
  rw [h]

/-- A fence whose staged upper half is taken away: the part of `State.writeFenceLo` before the value is judged. -/
def State.unstage (s : State) (n : Nat) : State := s.modFence n fun f => { f with staged := none }

/-- The value that a low write forms, of the staged upper half or the held one (R54). -/
def Fence.formed (f : Fence) (v : Word) : Nat := f.staged.getD (f.value / 2 ^ 32) * 2 ^ 32 + v.toNat

/-- A fence after the commit of a greater value (R54, log entry 57). -/
def State.committed (s : State) (g : Nat) (f : Fence) : Fence :=
  { f with
    staged := none, value := g, fresh := s.tl.service, live := true, tick := s.ticks
    prior := if f.tick = s.ticks then f.prior else f.value
    priorFresh := if f.tick = s.ticks then f.priorFresh else f.fresh
    priorLive := if f.tick = s.ticks then f.priorLive else f.live && s.latchPending }

theorem State.writeFenceLo_of_le (h : (s.fence n).formed v ≤ (s.fence n).value) :
    s.writeFenceLo n v = (s.unstage n).bump (Reg.hsFenceRegress n) := by
  unfold State.writeFenceLo
  exact if_pos h

/-- A greater value is committed after at most the record that the one before it was skipped (R59). -/
theorem State.writeFenceLo_of_lt (h : (s.fence n).value < (s.fence n).formed v) : ∃ (u : State) (c : Fence → Fence),
    Keeps (partMask [.cnt, .evt]) (s.unstage n) u ∧ s.writeFenceLo n v = u.modFence n c ∧
    c { s.fence n with staged := none } = s.committed ((s.fence n).formed v) (s.fence n) := by
  unfold State.writeFenceLo
  extract_lets +onlyGivenNames -merge -useContext f g bare
  have hg : ¬ g ≤ f.value := Nat.not_le.2 h
  rw [if_neg hg]
  extract_lets +onlyGivenNames -merge -useContext again wait u
  have hu : Keeps (partMask [.cnt, .evt]) bare u := Keeps.ite (fun _ => State.retire_keeps) fun _ => .refl
  refine ⟨u, _, hu, rfl, ?_⟩
  have htl : u.tl = s.tl := hu.same .tl rfl
  have hticks : u.ticks = s.ticks := hu.lasting.ticks
  have hwait : wait = (s.latchPending && !again) := rfl
  have hagain : again = decide (f.tick = s.ticks) := rfl
  dsimp only [State.committed]
  rw [htl, hticks, hwait, hagain]
  by_cases hf : f.tick = s.ticks <;> simp [f, g, hf] <;> rfl

theorem State.fence_writeFenceLo_of_le (hn : n < s.sc.fences.length) (h : (s.fence n).formed v ≤ (s.fence n).value) :
    (s.writeFenceLo n v).fence n = { s.fence n with staged := none } := by
  rw [State.writeFenceLo_of_le h]
  exact State.modFence_fence_same hn

theorem State.fence_writeFenceLo_of_lt (hn : n < s.sc.fences.length) (h : (s.fence n).value < (s.fence n).formed v) :
    (s.writeFenceLo n v).fence n = s.committed ((s.fence n).formed v) (s.fence n) := by
  obtain ⟨u, c, hu, hwrite, hc⟩ := State.writeFenceLo_of_lt h
  have hsc : u.sc = (s.unstage n).sc := hu.same .sc rfl
  have hlen : n < u.sc.fences.length := by
    rw [hsc]
    exact hn.trans_eq (length_modAt ..).symm
  rw [hwrite, State.modFence_fence_same hlen, State.fence_of_sc hsc, ← hc]
  exact congrArg c (State.modFence_fence_same hn)

theorem State.fence_writeFenceLo_other {m : Nat} (hm : m ≠ n) : (s.writeFenceLo n v).fence m = s.fence m := by
  rcases Nat.lt_or_ge (s.fence n).value ((s.fence n).formed v) with h | h
  · obtain ⟨u, c, hu, hwrite, -⟩ := State.writeFenceLo_of_lt h
    rw [hwrite, State.modFence_fence_other hm, State.fence_of_sc (hu.same .sc rfl)]
    exact State.modFence_fence_other hm
  · rw [State.writeFenceLo_of_le h]
    exact State.modFence_fence_other hm

/- The scene query. -/

/-- A word of two six-bit fields, at bits 13:8 and 5:0, read back. -/
theorem wfld_of_fields {a b : Nat} (ha : a < 2 ^ 6) (hb : b < 2 ^ 6) : (Word.of (a * 256 + b)).toNat = a * 256 + b ∧
    wfld (Word.of (a * 256 + b)) 13 8 = a ∧ wfld (Word.of (a * 256 + b)) 5 0 = b := by
  have h : (Word.of (a * 256 + b)).toNat = a * 256 + b := (BitVec.toNat_ofNat ..).trans (Nat.mod_eq_of_lt (by omega))
  refine ⟨h, ?_, ?_⟩ <;>
  · unfold wfld
    rw [h, Nat.shiftRight_eq_div_pow]
    omega

theorem State.writeSceneQuery_eq :
    s.writeSceneQuery v = s.setRw Reg.sceneQuery (Word.of (wfld v 13 8 * 256 + wfld v 5 0)) := by
  unfold State.writeSceneQuery at_
  rw [Nat.shiftLeft_eq]

theorem State.readCues_sceneQuery : s.readCues Reg.sceneQuery = some s.sceneQueryView := rfl

theorem State.sceneQueryView_writeSceneQuery (hw : s.wf) : (s.writeSceneQuery v).sceneQueryView =
    Word.of (b2n (s.fab.fades.contains (wfld v 5 0, wfld v 13 8)) * 2 ^ 24 + s.sc.reasons.getD (wfld v 13 8) 0 * 2 ^ 16 +
      (wfld v 13 8 * 256 + wfld v 5 0)) := by
  obtain ⟨hword, hto, hfrom⟩ := wfld_of_fields (a := wfld v 13 8) (b := wfld v 5 0) (Nat.mod_lt _ (by decide)) (Nat.mod_lt _ (by decide))
  unfold State.sceneQueryView at_
  rw [State.writeSceneQuery_eq, State.rw_setRw _ _ _ _ hw, if_pos rfl]
  dsimp only
  rw [hword, hto, hfrom, Nat.shiftLeft_eq, Nat.shiftLeft_eq]
  rfl

end

/-- Settles O36: a low write is `State.writeFenceLo_of_le` or `State.writeFenceLo_of_lt` as the value it forms lies to the fence's (log entry
57 for the fence of the ticks before); the query's register gives back the two fields it was written with. -/
theorem fencesAndSceneQueries : Obligations.FencesAndSceneQueries := by
  intro s v
  refine ⟨fun n => rfl, fun n hn => ⟨fun h => ?_, fun h => ?_, ?_⟩, s.writeSceneQuery v, rfl, State.writeSceneQuery_eq, fun hw => ?_, ?_⟩
  · refine ⟨s.writeFenceLo n v, rfl, State.fence_writeFenceLo_of_le hn h, ?_, ?_⟩
    · rw [State.writeFenceLo_of_le h]
      rfl
    · rw [State.writeFenceLo_of_le h]
      exact ((State.modFence_keeps.mono rfl).andThen State.bump_keeps rfl : Keeps (partMask [.cnt, .sc]) _ _).only_parts rfl
  · exact ⟨s.writeFenceLo n v, rfl, State.fence_writeFenceLo_of_lt hn h, State.writeFenceLo_keeps.only_parts rfl⟩
  · intro t ht m hm
    cases ht
    exact State.fence_writeFenceLo_other hm
  · rw [State.readCues_sceneQuery, State.sceneQueryView_writeSceneQuery hw]
  · exact State.writeSceneQuery_keeps.only_parts rfl

end Sys2Proof.Machine
end

section
/-! SUPPORT. Cues from every source (R61 to R63, R71, R105, R106, R215, R339, R416): what a GO, a flush, the fix point, the schedule, a
datagram and a delayed cue do with a cue, and what the cue unit makes of it. -/

namespace Sys2Proof.Machine

/- A GO or flush bit set in the word written. -/

theorem wbit_wput_same (w : Word) {i : Nat} (hi : i < 32) : wbit (wput w i i 1) i = true := by
  rw [wbit_testBit]
  unfold wput wfld Word.of
  rw [Nat.sub_self, BitVec.toNat_ofNat, Nat.testBit_mod_two_pow, decide_eq_true hi, Bool.true_and, Nat.shiftRight_eq_div_pow]
  have hbit : w.toNat.testBit i = (w.toNat / 2 ^ i % 2 == 1) := by rw [← wbit_testBit]; unfold wbit; rw [Nat.shiftRight_eq_div_pow]
  rcases Nat.mod_two_eq_zero_or_one (w.toNat / 2 ^ i) with h | h
  · have hclear : w.toNat.testBit i = false := by rw [hbit, h]; rfl
    simp [h, Nat.add_comm w.toNat, Nat.testBit_two_pow_add_eq, hclear]
  · have hle : 2 ^ i ≤ w.toNat := Nat.le_of_not_lt fun hlt => by rw [Nat.div_eq_of_lt hlt] at h; omega
    simp [h, hbit, Nat.sub_add_cancel hle]

/-- GO and CUE_FLUSH, the two lowest bits of CUE_GO: the one set leaves the other. -/
theorem wbit_wput_other (w : Word) : wbit (wput w 0 0 1) 1 = wbit w 1 ∧ wbit (wput w 1 1 1) 0 = wbit w 0 := by
  unfold wbit wput wfld Word.of
  simp only [BitVec.toNat_ofNat, Nat.shiftRight_eq_div_pow]
  have := w.isLt
  constructor <;>
  · congr 1
    omega

section
variable {s : State} {c : CueIn}

/- A cue from a source of this unit (R416). -/

theorem State.submitCue_of_standby (h : s.rl.role = .standby) : s.submitCue c = s.bump Reg.relayCuesIgnored := by
  unfold State.submitCue
  simp [h]

theorem State.submitCue_of_warm (h : s.rl.role ≠ .standby) (hw : s.hasWarm = true) :
    s.submitCue c = { s with net := { s.net with relayQ := s.net.relayQ ++ [⟨s.ticks + 31250, .cue c⟩] } } := by
  unfold State.submitCue
  simp [h, hw, usT]

theorem State.submitCue_of_alone (h : s.rl.role ≠ .standby) (hw : s.hasWarm = false) : s.submitCue c = s.takeCue c := by
  unfold State.submitCue
  simp [h, hw]

/- A scene cue at the cue unit (R61 to R63, R71). -/

theorem State.takeCue_of_scene (h : c.plan = false) : s.takeCue c = s.sceneCue c := by
  unfold State.takeCue
  simp [h]

theorem State.takeCue_of_plan (h : c.plan = true) : s.takeCue c = s.planCue c := by
  unfold State.takeCue
  simp [h]

theorem State.sceneCue_of_accepted (h : s.cueReason c = 0) : s.sceneCue c = s.enterCue c := by
  unfold State.sceneCue
  simp only [h]

/-- A refused cue takes no entry, unless the table is full and a cue of the same tick yields its own (log entry 64). -/
theorem State.sceneCue_of_refused (h : s.cueReason c ≠ 0) (hy : s.cueReason c = 5 → s.yields c = none) :
    s.sceneCue c = s.refuseCue c (s.cueReason c) := by
  unfold State.sceneCue
  split
  next _ h0 => exact absurd h0 h
  next h5 hp => rw [hy h5] at hp; cases hp
  · rfl

/-- A scene cue in the pending table and mirrored to the partner: `State.enterCue` before what follows any change of the cues. -/
def State.entered (s : State) (c : CueIn) : State :=
  State.relayCue { s with sc := { s.sc with pend := s.sc.pend ++ [s.pendCue c], order := s.sc.order + 1 } } false c.num c.ramp c.time c.fade
    (s.cueAt (s.pendCue c))

theorem State.enterCue_eq : s.enterCue c = (s.entered c).cuesChanged := rfl

theorem State.entered_sc : (s.entered c).sc = { s.sc with pend := s.sc.pend ++ [s.pendCue c], order := s.sc.order + 1 } :=
  State.relayCue_keeps.same .sc rfl

theorem State.entered_keeps : Keeps (partMask [.sc, .rl, .out]) s (s.entered c) := (Keeps.sc.mono rfl).andThen State.relayCue_keeps rfl

theorem State.refuseCue_sc {why : Nat} : (s.refuseCue c why).sc = { s.sc with refSrc := c.src, refScene := c.num, refWhy := why } :=
  State.ev_p_sc

/- A write to CUE_GO (R61, R62). -/

theorem State.writeCueGo_of_go {v : Word} (h : wbit v 1 = false) : s.writeCueGo (wput v 0 0 1) = s.submitCue s.hostCue := by
  unfold State.writeCueGo
  rw [(wbit_wput_other v).1, h, wbit_wput_same v (by decide)]
  rfl

theorem State.writeCueGo_of_flush {v : Word} (h : wbit v 0 = false) : s.writeCueGo (wput v 1 1 1) = s.flushCues.cuesChanged := by
  unfold State.writeCueGo
  rw [(wbit_wput_other v).2, h, wbit_wput_same v (by decide)]
  rfl

theorem State.flushCues_sc : s.flushCues.sc = { s.sc with pend := [] } :=
  have records : Keeps (partMask [.cnt, .evt]) { s with sc := { s.sc with pend := [] } } s.flushCues :=
    Keeps.foldl .refl fun _ _ h => h.andThen State.ev_keeps rfl
  records.same .sc rfl

/- A plan cue at the cue unit (R105, R106). -/

/-- With no plan cue before it, no re-step and no fixed change, an accepted plan cue for another plan is pending. -/
theorem State.planCue_of_accepted (h : s.planReason c = 0) (hn : c.num ≠ s.tl.num) (hstep : s.tl.stepB = none) (hp : s.tl.pend = none) :
    s.planCue c = (s.placePlan s.wall
      { plan := c.num, timed := c.timed, split := c.split, accept := s.wall, src := c.src, tick := s.ticks }).cuesChanged := by
  unfold State.planCue State.planRank
  simp [h, hn, hstep, hp]

theorem State.planCue_of_refused (h : s.planReason c ≠ 0) : s.planCue c = s.refusePlan c (s.planReason c) := by
  unfold State.planCue
  split
  next h0 => exact absurd h0 h
  · rfl

theorem State.refusePlan_tl {why : Nat} : (s.refusePlan c why).tl = { s.tl with refSrc := c.src, refPlan := c.num, refWhy := why } :=
  State.ev_p_tl

/-- PLAN_CUE with its RW fields written: the part of `State.writePlanCue` before the GO. -/
def State.planSet (s : State) (v : Word) : State := s.setRw Reg.planCue (Word.of ((wput v 31 31 1).toNat &&& 0x207))

theorem State.writePlanCue_of_alone {v : Word} (h : s.rl.role ≠ .standby) (hw : s.hasWarm = false) :
    s.writePlanCue (wput v 31 31 1) = (s.planSet v).planCue (s.planSet v).hostPlan := by
  unfold State.writePlanCue
  rw [if_pos (wbit_wput_same v (by decide))]
  exact (State.submitCue_of_alone (s := s.planSet v) h hw).trans (State.takeCue_of_plan rfl)

/-- The pending plan cue fixed and mirrored to the partner (R106, R415). -/
def State.planFixed (s : State) (p : PlanCue) : State :=
  State.relayCue { s with tl := { s.tl with fixed := true } } true p.plan 0 0 false (s.tl.pendB, s.tl.plan.lapFrom s.cfg.epoch s.tl.pendB)

theorem execPlanCueFixPoint_of_due {p : PlanCue} (hp : s.tl.pend = some p) (hf : s.tl.fixed = false) (hd : s.fixPoint ≤ s.wall) :
    execPlanCueFixPoint s = .next (s.planFixed p) := by
  unfold execPlanCueFixPoint State.planFixed
  simp [hp, hf, hd]

theorem State.planFixed_tl {p : PlanCue} : (s.planFixed p).tl = { s.tl with fixed := true } := State.relayCue_keeps.same .tl rfl

theorem State.planFixed_keeps {p : PlanCue} : Keeps (partMask [.tl, .rl, .out]) s (s.planFixed p) :=
  (Keeps.tl.mono rfl).andThen State.relayCue_keeps rfl

/- The schedule, and the queues of inputs that wait (R215, R339, R416). -/

/-- An occurrence of a schedule entry considered up to its submission instant (R339, log entry 43). -/
def State.marked (s : State) (i : Nat) (a : Int) : State :=
  { s with sc := { s.sc with schedMarks := setAt s.sc.schedMarks i (a - schedLead) } }

theorem State.consider_of_new {i : Nat} {e : Sched} {m a : Int} (he : s.cfg.sched[i]? = some e) (hm : s.sc.schedMarks[i]? = some m)
    (ha : e.newest s.wall = some a) (h : m < a - schedLead) : s.consider i =
      if s.timeValid && s.tl.service then (s.marked i a).submitCue (e.cue a) else (s.marked i a).ev Ev.schedSkipped [i] := by
  unfold State.consider
  rw [he, hm]
  dsimp only
  rw [ha]
  exact if_neg (Int.not_le.2 h)

theorem execCueDatagramAccept_of_due {d : DgCue} {rest : List DgCue} (hq : s.net.dgQueue = d :: rest) (hd : d.due ≤ s.ticks) :
    execCueDatagramAccept s =
      .next (State.asOf { s with net := { s.net with dgQueue := rest } } d.due fun y => y.submitCue (dgCue d.bytes)) := by
  unfold execCueDatagramAccept
  rw [hq]
  exact if_neg (Nat.not_lt.2 hd)

/-- What a delayed input does when it counts as accepted (R416). -/
def Late.take (s : State) : Late → State
  | .cue c => s.takeCue c
  | .lamp p q k z => s.lampFault p q k z

theorem execRelayDelayedAccept_of_due {d : Delayed} {rest : List Delayed} (hq : s.net.relayQ = d :: rest) (hd : d.due ≤ s.ticks) :
    execRelayDelayedAccept s = .next (State.asOf { s with net := { s.net with relayQ := rest } } d.due fun y => d.what.take y) := by
  unfold execRelayDelayedAccept
  rw [hq]
  exact if_neg (Nat.not_lt.2 hd)

end

/-- Settles O32: each source's command hands its cue to `State.submitCue`, and the cue unit's two answers are those of `State.sceneCue` and
`State.planCue` (log entries 38 for the lowest reason, 43 for the schedule's marks, 128 for the instant of a cue accepted earlier). -/
theorem cuesFromEverySource : Obligations.CuesFromEverySource := by
  intro s
  refine ⟨fun v hv => ?_, fun v hv => ?_, fun v hrole hwarm => ?_, fun hp hf hd => ?_, fun i e m a he hm ha h => ?_,
    fun d rest hq hd => execCueDatagramAccept_of_due hq hd, fun d rest hq hd => ?_⟩
  · have hgo : exec (.cueGo v) s = .next (s.submitCue s.hostCue) := congrArg Host.Outcome.next (State.writeCueGo_of_go hv)
    rw [hgo]
    refine ⟨fun h => by rw [State.submitCue_of_standby h], fun h hw => ⟨_, rfl, ?_⟩, fun h hw hr => ?_, fun h hw hr hy => ?_⟩
    · rw [State.submitCue_of_warm h hw]
      exact ⟨rfl, Keeps.net.only_parts rfl⟩
    · refine ⟨s.entered s.hostCue, ?_, State.entered_sc, State.entered_keeps.only_parts rfl⟩
      rw [State.submitCue_of_alone h hw, State.takeCue_of_scene rfl, State.sceneCue_of_accepted hr, State.enterCue_eq]
    · rw [State.submitCue_of_alone h hw, State.takeCue_of_scene rfl, State.sceneCue_of_refused hr hy]
      exact ⟨_, rfl, State.refuseCue_sc, State.refuseCue_keeps.only_parts rfl⟩
  · exact ⟨s.flushCues, congrArg Host.Outcome.next (State.writeCueGo_of_flush hv), State.flushCues_sc, State.flushCues_keeps.only_parts rfl⟩
  · intro w
    have hplan : exec (.planCue v) s = .next (w.planCue w.hostPlan) := congrArg Host.Outcome.next (State.writePlanCue_of_alone hrole hwarm)
    rw [hplan]
    have hset : Keeps (partMask [.rw, .tl]) s w := State.setRw_keeps.mono rfl
    refine ⟨fun hr hn hstep hp => ?_, fun hr => ?_⟩
    · rw [State.planCue_of_accepted hr hn hstep hp]
      exact ⟨_, rfl, rfl, ⟨_, rfl, rfl, rfl, rfl, rfl⟩, (hset.andThen State.placePlan_keeps rfl).only_parts rfl⟩
    · rw [State.planCue_of_refused hr]
      have hall : Keeps (partMask [.rw, .cnt, .evt, .tl]) s (w.refusePlan w.hostPlan (w.planReason w.hostPlan)) :=
        (hset.mono rfl).andThen State.refusePlan_keeps rfl
      exact ⟨_, rfl, State.refusePlan_tl, hall.only_parts rfl⟩
  · obtain ⟨p, hp⟩ := Option.isSome_iff_exists.1 hp
    exact ⟨s.planFixed p, execPlanCueFixPoint_of_due hp hf hd, State.planFixed_tl, State.planFixed_keeps.only_parts rfl⟩
  · exact ⟨s.marked i a, rfl, Keeps.sc.only_parts rfl, congrArg Host.Outcome.next (State.consider_of_new he hm ha h)⟩
  · have haccept := execRelayDelayedAccept_of_due hq hd
    refine ⟨{ s with net := { s.net with relayQ := rest } }, rfl, Keeps.net.only_parts rfl, fun c hc => ?_, fun p q k z hc => ?_⟩ <;>
    · rw [hc] at haccept
      exact haccept

end Sys2Proof.Machine
end

section
/-! SUPPORT. The composition of a view and its late blocks (R42, R96, R97, R129), and the monitor's packets (R216, R218): what each leaves of
the views and of the monitor frame. -/

namespace Sys2Proof.Machine

section
variable {s : State} {v : Nat} {l : Latch} {w h : Nat}

/- Views. -/

theorem State.view_of_sc {t : State} (ht : t.sc = s.sc) (u : Nat) : t.view u = s.view u := by
  unfold State.view
  rw [ht]

theorem State.modView_view_same {g : View → View} (hv : v < s.sc.views.length) : (s.modView v g).view v = g (s.view v) := by
  rw [State.view_modView, if_pos ⟨rfl, hv⟩]

theorem State.modView_view_other {u : Nat} {g : View → View} (hu : u ≠ v) : (s.modView v g).view u = s.view u := by
  rw [State.view_modView, if_neg fun hc => hu hc.1.symm]

theorem State.modView_sc_of_sc {t : State} {g : View → View} (ht : t.sc = s.sc) : (t.modView v g).sc = (s.modView v g).sc := by
  unfold State.modView
  rw [ht]

theorem State.modView_views_length {g : View → View} : (s.modView v g).sc.views.length = s.sc.views.length := length_modAt ..

/- A composition that ends (R42, R96, R97). -/

/-- Pairs recomputed for a latch leave the views. -/
theorem State.recomputePairs_sc {due : List Due} : (due.foldl (State.recomputePair v l) s).sc = s.sc :=
  (Keeps.foldl .refl fun _ _ ht => ht.andThen State.recomputePair_keeps rfl : Keeps (partMask [.cnt, .tl, .tiles]) _ _).same .sc rfl

/-- A latch whose computations have ended. -/
def Latch.ended (l : Latch) : Latch := { l with done := true, due := [], snap := [] }

theorem State.recompute_sc (hl : (s.view v).latch = some l) :
    (s.recompute v).sc = (s.modView v fun x => { x with latch := x.latch.map Latch.ended }).sc := by
  unfold State.recompute
  rw [hl]
  exact (State.signLatch_keeps.same .sc rfl).trans (State.modView_sc_of_sc State.recomputePairs_sc)

/-- A view that shows a finished composition in a buffer, its latch as given. -/
def View.composed (k : Latch) (buf : Nat) (cv : List (List Nat)) (crcs : List Nat) (x : View) : View :=
  { x with canvas := cv, buf := buf, crcs := crcs, latch := some k }

/-- A composition puts its canvas in; then the pairs due are recomputed, and the latch is done. -/
theorem State.composed_sc (hv : v < s.sc.views.length) : ∃ due, (s.composed v l w h).sc =
    ((s.modView v (View.composed { l with due := due } (1 - (s.view v).buf) (s.compose v l w h)
      (blockCrcs w h (s.compose v l w h)))).modView v fun x => { x with latch := x.latch.map Latch.ended }).sc := by
  unfold State.composed
  extract_lets +onlyGivenNames -merge -useContext cv crcs x due buf stored shown
  have hshown : shown.sc = (s.modView v (View.composed { l with due := due } buf cv crcs)).sc :=
    State.modView_sc_of_sc (State.storeCanvas_keeps.same .sc rfl)
  have hlatch : (shown.view v).latch = some { l with due := due } := by
    rw [State.view_of_sc hshown, State.modView_view_same hv]
    rfl
  have hdone : (((shown.recompute v).releaseBufs l).monFrame v).sc = (shown.recompute v).sc :=
    (State.monFrame_keeps.same .sc rfl).trans (State.releaseBufs_keeps.same .sc rfl)
  exact ⟨due, hdone.trans ((State.recompute_sc hlatch).trans (State.modView_sc_of_sc hshown))⟩

theorem State.composed_view_same (hv : v < s.sc.views.length) : (s.composed v l w h).view v =
    View.composed l.ended (1 - (s.view v).buf) (s.compose v l w h) (blockCrcs w h (s.compose v l w h)) (s.view v) := by
  obtain ⟨due, hsc⟩ := State.composed_sc (l := l) (w := w) (h := h) hv
  rw [State.view_of_sc hsc, State.modView_view_same (hv.trans_eq State.modView_views_length.symm), State.modView_view_same hv]
  rfl

theorem State.composed_view_other (hv : v < s.sc.views.length) {u : Nat} (hu : u ≠ v) : (s.composed v l w h).view u = s.view u := by
  obtain ⟨due, hsc⟩ := State.composed_sc (l := l) (w := w) (h := h) hv
  rw [State.view_of_sc hsc, State.modView_view_other hu, State.modView_view_other hu]

theorem execViewComposeDone_of_none {v : Fin 8} (hl : (s.view v).latch = none) : execViewComposeDone v s = .next s := by
  unfold execViewComposeDone
  rw [hl]

theorem execViewComposeDone_of_latch {v : Fin 8} {r : ViewRec} (hl : (s.view v).latch = some l) (hr : s.cfg.view? v = some r) :
    execViewComposeDone v s = if l.done || !l.changed || s.pullFor l then .next s else .next (s.composed v l r.w r.h) := by
  unfold execViewComposeDone
  rw [hl, hr]

/- A block that is not composed in time (R129). -/

/-- A latch with one more block noted as underrun. -/
def Latch.late (l : Latch) (b : Nat) : Latch := { l with underrun := l.underrun ++ [b] }

/-- A view with a late block noted, to be checked again at its next latch. -/
def View.late (x : View) (l : Latch) (b : Nat) : View :=
  { x with latch := some (l.late b), recheckBlocks := if x.recheckBlocks.contains b then x.recheckBlocks else x.recheckBlocks ++ [b] }

/-- A late block noted and counted, and recorded where it is the first of its latch (log entry 55): the part of
`execBlockCorrectionDue` before its pairs are formed. -/
def State.lateNoted (s : State) (v : Nat) (l : Latch) (b : Nat) : State :=
  let t := (s.modView v fun x => x.late l b).bump Reg.underrunCount
  if !l.underrun.isEmpty then t else (t.evtAt (srcView v) Ev.viewUnderrun [v, l.seq]).surge 1

theorem execBlockCorrectionDue_of_none {v : Fin 8} {b : Nat} (hl : s.unfinished v = none) : execBlockCorrectionDue v b s = .next s := by
  unfold execBlockCorrectionDue
  rw [hl]

theorem execBlockCorrectionDue_of_unfinished {v : Fin 8} {b : Nat} {r : ViewRec} (hl : s.unfinished v = some l)
    (hr : s.cfg.view? v = some r) : execBlockCorrectionDue v b s =
      if l.underrun.contains b then .next s else .next ((s.lateNoted v l b).formLate v (l.late b) r.w r.h b) := by
  unfold execBlockCorrectionDue
  rw [hl, hr]
  rfl

theorem State.lateNoted_sc {b : Nat} : (s.lateNoted v l b).sc = (s.modView v fun x => x.late l b).sc := by
  unfold State.lateNoted
  extract_lets t
  split
  · rfl
  · exact (State.surge_keeps.same .sc rfl).trans (State.evtAt_keeps.same .sc rfl)

theorem State.lateNoted_view_same {b : Nat} (hv : v < s.sc.views.length) : (s.lateNoted v l b).view v = (s.view v).late l b := by
  rw [State.view_of_sc State.lateNoted_sc, State.modView_view_same hv]

theorem State.lateNoted_view_other {b u : Nat} (hu : u ≠ v) : (s.lateNoted v l b).view u = s.view u := by
  rw [State.view_of_sc State.lateNoted_sc, State.modView_view_other hu]

theorem State.lateNoted_views_length {b : Nat} : (s.lateNoted v l b).sc.views.length = s.sc.views.length := by
  rw [State.lateNoted_sc, State.modView_views_length]

/-- A block that is not the first of its latch is counted and not recorded. -/
theorem State.lateNoted_of_later {b : Nat} (hu : l.underrun ≠ []) :
    s.lateNoted v l b = (s.modView v fun x => x.late l b).bump Reg.underrunCount :=
  if_pos (by simpa using hu)

theorem State.bump_modView_keeps {g : View → View} {o : Nat} : Keeps (partMask [.cnt, .sc]) s ((s.modView v g).bump o) :=
  (State.modView_keeps.mono rfl).andThen State.bump_keeps rfl

theorem View.late_recheckBlocks (x : View) (b : Nat) : (x.late l b).recheckBlocks.contains b = true := by
  unfold View.late
  dsimp only
  split
  · assumption
  · simp

/-- Pairs formed for a late block leave their view's canvas as it was; its latch remembers them. -/
theorem State.formLate_sc {b : Nat} : ∃ due, (s.formLate v l w h b).sc =
    ((s.modView v fun x => { x with canvas := s.compose v l w h }).modView v fun x =>
      { x with canvas := (s.view v).canvas, latch := x.latch.map fun y => { y with formed := mergeDue y.formed due } }).sc :=
  ⟨s.lateDue v l w h b (blockCrcs w h (s.compose v l w h)), State.modView_sc_of_sc State.recomputePairs_sc⟩

theorem State.formLate_view_same {b : Nat} (hv : v < s.sc.views.length) : ∃ due, (s.formLate v l w h b).view v =
    { s.view v with latch := (s.view v).latch.map fun y => { y with formed := mergeDue y.formed due } } := by
  obtain ⟨due, hsc⟩ := State.formLate_sc (s := s) (v := v) (l := l) (w := w) (h := h) (b := b)
  refine ⟨due, ?_⟩
  rw [State.view_of_sc hsc, State.modView_view_same (hv.trans_eq State.modView_views_length.symm), State.modView_view_same hv]

theorem State.formLate_view_other {b u : Nat} (hu : u ≠ v) : (s.formLate v l w h b).view u = s.view u := by
  obtain ⟨due, hsc⟩ := State.formLate_sc (s := s) (v := v) (l := l) (w := w) (h := h) (b := b)
  rw [State.view_of_sc hsc, State.modView_view_other hu, State.modView_view_other hu]

/- The monitor (R216, R218). -/

/-- When the packet in line is due: spread evenly over the lap from its latch (R218, log entry 82). -/
def Monitor.due (m : Monitor) : Int := m.at_ + (m.sent * m.lapNum / (m.lapDen * max 1 m.total) : Nat)

/-- The packet in line taken off the monitor frame, whose last one completes it if none was lost (R216, R218). -/
def State.monTaken (s : State) (rest : List (List Byte)) : State :=
  let m := s.net.mon
  { s.draw.2 with net := { s.net with mon := { m with
      packets := rest, sent := m.sent + 1, seq := (m.seq + 1) % 2 ^ 32
      frames := if rest.isEmpty && !m.dry then (m.frames + 1) % 2 ^ 32 else m.frames } } }

theorem State.monTaken_keeps {rest : List (List Byte)} : Keeps (partMask [.net, .free]) s (s.monTaken rest) :=
  (Keeps.mono State.draw_keeps rfl).andThen Keeps.net rfl

section
variable {p : List Byte} {rest : List (List Byte)}

/-- The monitor's packet sent to its receiver (R218). -/
def State.monSend (s : State) (p : List Byte) (rest : List (List Byte)) : State :=
  (s.monTaken rest).udpSend s.monSub (wfld (s.rws Reg.monCfg) 13 8 * 4) 16 (s.rws Reg.monDst).toNat
    (wfld (s.rws Reg.monUdp) 15 0) (wfld (s.rws Reg.monUdp) 31 16) p

/-- A packet that is due goes out, or is lost where the transmit buffer runs dry in it (log entry 9). -/
theorem execMonitorPacketSend_of_packet (hp : s.net.mon.packets = p :: rest) : execMonitorPacketSend s =
    if s.monStop != 0 then .next s.monDrop
    else if s.wall < s.net.mon.due then .next s
    else .next (if s.draw.1.getLsbD 0 then s.draw.2.monDry rest else s.monSend p rest) := by
  have hfield : wfld (s.rws Reg.monCfg) 13 8 * 4 = at_ (wfld (s.rws Reg.monCfg) 13 8) 2 := by unfold at_; rw [Nat.shiftLeft_eq]
  unfold execMonitorPacketSend State.monSend
  extract_lets m
  rw [show m.packets = p :: rest from hp, hfield, apply_ite Host.Outcome.next]
  rfl

theorem execMonitorPacketSend_of_none (hp : s.net.mon.packets = []) : execMonitorPacketSend s = .next s := by
  unfold execMonitorPacketSend
  extract_lets m
  rw [show m.packets = [] from hp]

end

end

/-- Settles O45: the views after a composition are those of `State.composed_view_same`, and after a late block `State.lateNoted` and then
`State.formLate_view_same` (log entries 55 for the count and the record, 82 for a frame that goes on without a lost packet). -/
theorem compositionAndMonitor : Obligations.CompositionAndMonitor := by
  intro s
  refine ⟨fun v => ⟨fun hl => execViewComposeDone_of_none hl, fun l r hl hr => ?_⟩,
    fun v b => ⟨fun hl => execBlockCorrectionDue_of_none hl, fun l r hl hr hv => ?_⟩,
    fun hp => execMonitorPacketSend_of_none hp, fun p rest hp => ?_⟩
  · rw [show exec (.viewComposeDone v) s = _ from execViewComposeDone_of_latch hl hr]
    refine ⟨fun h => if_pos (by simpa [or_assoc] using h), fun hd hc hp hv => ?_⟩
    rw [if_neg (by simp [hd, hc, hp])]
    refine ⟨s.composed v l r.w r.h, l.ended, rfl, ?_⟩
    rw [State.composed_view_same hv]
    exact ⟨rfl, rfl, rfl, rfl, rfl, rfl, rfl, fun u => State.composed_view_other hv⟩
  · rw [show exec (.blockCorrectionDue v b) s = _ from execBlockCorrectionDue_of_unfinished hl hr]
    refine ⟨fun h => if_pos h, fun h => ⟨s.lateNoted v l b, _, if_neg (ne_true_of_eq_false h), rfl, ?_⟩⟩
    have hnoted := State.lateNoted_view_same (l := l) (b := b) hv
    have hother (u : Nat) (hu : u ≠ v) : (s.lateNoted v l b).view u = s.view u := State.lateNoted_view_other hu
    obtain ⟨due, hformed⟩ := State.formLate_view_same (l := l.late b) (w := r.w) (h := r.h) (b := b)
      (hv.trans_eq State.lateNoted_views_length.symm)
    rw [hformed, hnoted]
    refine ⟨rfl, View.late_recheckBlocks .., hother, fun hu => ?_, rfl, rfl, fun u hu => (State.formLate_view_other hu).trans (hother u hu)⟩
    rw [State.lateNoted_of_later hu]
    exact ⟨rfl, State.bump_modView_keeps.only_parts rfl⟩
  · rw [show exec .monitorPacketSend s = _ from execMonitorPacketSend_of_packet hp]
    intro m due
    refine ⟨fun hs => if_pos (bne_iff_ne.2 hs), fun hs hd => ?_, fun hs hd => ⟨s.monTaken rest, rfl, State.monTaken_keeps.only_parts rfl, ?_⟩⟩
    · exact (if_neg (by simp [hs])).trans (if_pos hd)
    · exact (if_neg (by simp [hs])).trans (if_neg (Int.not_lt.2 hd))

end Sys2Proof.Machine
end

section
/-! SUPPORT. The BAR2 window (R77, R251, R263, R266, R274): what HBM reads after a run of bytes is written, what an access that reaches its
stacks leaves of the memory, and what a read, a write and one that must wait leave of the window. -/

namespace Sys2Proof.Machine

/- The bytes of HBM after a write (R42). -/

section
variable {m : List (Nat × BitVec 9)}

theorem hbmRead_hbmWrite_same (a : Nat) (b : Byte) (hm : Sparse.wf (fun _ => 0#9) m = true) : hbmRead (hbmWrite m a b) a = b := by
  unfold hbmRead hbmWrite
  rw [Sparse.get_set_same _ _ hm]
  have hmark : (b.setWidth 9 ||| 256#9).getLsbD 8 = true := by simp
  have hbyte : (b.setWidth 9 ||| 256#9).setWidth 8 = b := by
    rw [BitVec.setWidth_or, BitVec.setWidth_setWidth_of_le b (by decide), BitVec.setWidth_eq]
    exact BitVec.or_zero
  exact (if_pos hmark).trans hbyte

theorem hbmRead_hbmWrite_other (a : Nat) (b : Byte) {c : Nat} (hc : c ≠ a) (hm : Sparse.wf (fun _ => 0#9) m = true) :
    hbmRead (hbmWrite m a b) c = hbmRead m c := by
  unfold hbmRead hbmWrite
  rw [Sparse.get_set_other _ _ hc hm]

theorem hbmRead_hbmWriteList (a : Nat) (bs : List Byte) (c : Nat) (hm : Sparse.wf (fun _ => 0#9) m = true) :
    hbmRead (hbmWriteList m a bs) c = if a ≤ c ∧ c < a + bs.length then bs.getD (c - a) 0 else hbmRead m c := by
  induction bs generalizing m a with
  | nil => exact (if_neg (by simp)).symm
  | cons b bs ih =>
    have hrest : hbmRead (hbmWriteList m a (b :: bs)) c = _ := ih (a + 1) (Sparse.set_wf a _ hm)
    rw [hrest]
    rcases Nat.lt_trichotomy c a with hlt | rfl | hgt
    · rw [if_neg (by omega), if_neg (by omega)]
      exact hbmRead_hbmWrite_other a b (by omega) hm
    · rw [if_neg (by omega), if_pos (by simp), Nat.sub_self]
      exact hbmRead_hbmWrite_same c b hm
    · have hnext : c - a = c - (a + 1) + 1 := by omega
      have hlater : hbmRead (hbmWrite m a b) c = hbmRead m c := hbmRead_hbmWrite_other a b (by omega) hm
      rw [hnext, List.getD_cons_succ, List.length_cons]
      exact if_congr (by omega) rfl hlater

end

/- Reaching the stacks (R263, R274): a pending rest is given up; a stack asleep stays asleep. -/

/-- The same memory but for its stacks, each of them asleep in both or in neither. -/
def Mem.SameSleep (a b : Mem) : Prop := b = { a with stks := b.stks } ∧ ∀ i, (b.stk i).asleep = (a.stk i).asleep

theorem Mem.SameSleep.refl {a : Mem} : a.SameSleep a := ⟨rfl, fun _ => rfl⟩

theorem Mem.SameSleep.trans {a b c : Mem} (h : a.SameSleep b) (k : b.SameSleep c) : a.SameSleep c := by
  refine ⟨k.1.trans ?_, fun i => (k.2 i).trans (h.2 i)⟩
  rw [h.1]

section
variable {s t : State} {x : Bar2Op}

theorem State.modStk_sameSleep {i : Nat} {f : StackSt → StackSt} (h : (f (s.mem.stk i)).asleep = (s.mem.stk i).asleep) :
    s.mem.SameSleep (s.modStk i f).mem := by
  refine ⟨rfl, fun j => ?_⟩
  rw [State.stk_modStk]
  split
  case isTrue hij => exact hij.1 ▸ h
  case isFalse => rfl

theorem State.abortRest_sameSleep {i : Nat} : s.mem.SameSleep (s.abortRest i).mem := by
  unfold State.abortRest
  extract_lets k
  split
  case h_1 hphase =>
    split
    · exact .refl
    · refine State.modStk_sameSleep ?_
      show false = k.asleep
      unfold StackSt.asleep
      rw [hphase]
  case h_2 => exact .refl

/-- A stack reached by a request: a pending rest given up, and the time of the request noted. -/
def State.stirStack (s : State) (i : Nat) : State := (s.abortRest i).modStk i fun k => { k with quiet := s.ticks }

theorem State.stirStack_keeps {i : Nat} : Keeps (partMask [.cnt, .mem]) s (s.stirStack i) :=
  (State.abortRest_keeps.mono rfl).andThen State.modStk_keeps rfl

theorem State.stirStack_sameSleep {i : Nat} : s.mem.SameSleep (s.stirStack i).mem :=
  State.abortRest_sameSleep.trans (State.modStk_sameSleep rfl)

/-- The state as a BAR2 access has reached the stacks of its bytes. -/
def State.stirred (s : State) (x : Bar2Op) : State :=
  if s.mem.ok && x.addr < s.bar2Top then (s.rangeStacks x.addr x.len).foldl State.stirStack s else s

theorem State.stirred_keeps : Keeps (partMask [.cnt, .mem]) s (s.stirred x) := by
  unfold State.stirred
  exact Keeps.ite (fun _ => Keeps.refl.foldl fun _ _ h => h.andThen State.stirStack_keeps rfl) fun _ => Keeps.refl

theorem State.stirred_sameSleep : s.mem.SameSleep (s.stirred x).mem := by
  unfold State.stirred
  split
  · exact List.foldlRecOn (motive := fun t : State => s.mem.SameSleep t.mem) _ _ .refl
      fun _ h _ _ => h.trans State.stirStack_sameSleep
  · exact .refl

@[simp] theorem State.stirred_variant : (s.stirred x).variant = s.variant := State.stirred_keeps.lasting.variant
@[simp] theorem State.stirred_boot : (s.stirred x).boot = s.boot := State.stirred_keeps.same .boot rfl
@[simp] theorem State.stirred_tiles : (s.stirred x).tiles = s.tiles := State.stirred_keeps.same .tiles rfl
@[simp] theorem State.stirred_ports : (s.stirred x).ports = s.ports := State.stirred_keeps.same .ports rfl
@[simp] theorem State.stirred_host : (s.stirred x).host = s.host := State.stirred_keeps.same .host rfl
@[simp] theorem State.stirred_out : (s.stirred x).out = s.out := State.stirred_keeps.same .out rfl
@[simp] theorem State.stirred_mem_ok : (s.stirred x).mem.ok = s.mem.ok := by rw [State.stirred_sameSleep.1]
@[simp] theorem State.stirred_mem_bytes : (s.stirred x).mem.bytes = s.mem.bytes := by rw [State.stirred_sameSleep.1]
@[simp] theorem State.stirred_mem_lampBase : (s.stirred x).mem.lampBase = s.mem.lampBase := by rw [State.stirred_sameSleep.1]
@[simp] theorem State.stirred_mem_poison : (s.stirred x).mem.poison = s.mem.poison := by rw [State.stirred_sameSleep.1]

theorem State.bar2Waits_stirred {before : List Bar2Op} : (s.stirred x).bar2Waits before x = s.bar2Waits before x := by
  unfold State.bar2Waits State.bar2Top State.rangeStacks
  simp only [State.stirred_boot, State.stirred_variant, State.stirred_sameSleep.2]

/- What a byte of the window reads from (R76, R251). -/

theorem State.bar2Top_congr (hv : t.variant = s.variant) : t.bar2Top = s.bar2Top := by unfold State.bar2Top; rw [hv]

theorem State.inTable_congr (hv : t.variant = s.variant) (hok : t.mem.ok = s.mem.ok) (hbase : t.mem.lampBase = s.mem.lampBase) (b : Nat) :
    t.inTable b = s.inTable b := by
  unfold State.inTable State.tableAt State.tableSize
  rw [hv, hok, hbase]

theorem State.stirred_bar2Top : (s.stirred x).bar2Top = s.bar2Top := State.bar2Top_congr State.stirred_variant

theorem State.stirred_inTable {b : Nat} : (s.stirred x).inTable b = s.inTable b :=
  State.inTable_congr State.stirred_variant State.stirred_mem_ok State.stirred_mem_lampBase b

theorem State.bar2Byte_stirred : (s.stirred x).bar2Byte = s.bar2Byte := by
  funext b
  unfold State.bar2Byte State.tableByte State.entryOf State.tableAt
  rw [State.stirred_bar2Top, State.stirred_inTable]
  simp only [State.stirred_boot, State.stirred_tiles, State.stirred_ports, State.stirred_mem_lampBase, State.stirred_mem_bytes]

theorem State.bar2Byte_beyond {b : Nat} (h : s.bar2Top ≤ b) : s.bar2Byte b = 0 := if_pos (by simp [h])

theorem State.bar2Byte_outside_table {b : Nat} (hstage : s.boot.stage ≠ 7) (hb : b < s.bar2Top) (h : s.inTable b = false) :
    s.bar2Byte b = hbmRead s.mem.bytes b := by
  unfold State.bar2Byte
  rw [if_neg (by simp [hstage, hb]), if_neg (ne_true_of_eq_false h)]

/- A BAR2 access (R251, R266): it is made, or waits. -/

/-- The state as a BAR2 access waits. -/
def State.parked (s : State) (x : Bar2Op) : State :=
  let t := s.stirred x
  { t with host := { t.host with waits := t.host.waits ++ [x] } }

theorem State.bar2Reach_eq : s.bar2Reach x = if s.bar2Waits s.host.waits x then s.parked x else (s.stirred x).bar2Do x := by
  have hreach : s.bar2Reach x =
      if (s.stirred x).bar2Waits (s.stirred x).host.waits x then s.parked x else (s.stirred x).bar2Do x := rfl
  rw [hreach, State.stirred_host, State.bar2Waits_stirred]

theorem State.parked_keeps : Keeps (partMask [.cnt, .host, .mem]) s (s.parked x) := (State.stirred_keeps.mono rfl).andThen Keeps.host rfl

theorem State.parked_host : (s.parked x).host = { s.host with waits := s.host.waits ++ [x] } := by
  have hparked : (s.parked x).host = { (s.stirred x).host with waits := (s.stirred x).host.waits ++ [x] } := rfl
  rw [hparked, State.stirred_host]

theorem State.bar2Byte_parked : (s.parked x).bar2Byte = s.bar2Byte := State.bar2Byte_stirred

/- A read made (Table 10.6). -/

theorem State.readDone_out (a n : Nat) : ∃ bad,
    (s.readDone a n).out = s.out ++ [Output.readBytes ((List.range n).map fun i => s.bar2Byte (a + i)) bad] ∧
    (bad = true ↔ ∃ u ∈ s.mem.poison, a / 64 ≤ u ∧ u ≤ (a + n - 1) / 64) :=
  ⟨_, rfl, by simp [List.any_eq_true]⟩

theorem State.readDone_stirred_keeps {a n : Nat} : Keeps (partMask [.cnt, .mem, .out]) s ((s.stirred x).readDone a n) :=
  (State.stirred_keeps.mono rfl).andThen State.readDone_keeps rfl

/- A write made (R77, R251). -/

theorem State.bar2Do_write {a : Nat} {bs : List Byte} (h : s.boot.stage ≠ 7) : s.bar2Do (.write a bs) = s.bar2Put a bs :=
  if_neg (by simp [h])

theorem State.bar2Put_mem (a : Nat) (bs : List Byte) : (s.bar2Put a bs).mem = { s.mem with bytes := hbmWriteList s.mem.bytes a bs } := by
  unfold State.bar2Put
  extract_lets _ w base first
  split
  · rfl
  · exact List.foldlRecOn (motive := fun t : State => t.mem = w.mem) _ _ rfl
      fun t h i _ => (State.modLampTile_keeps.same (s := t) .mem rfl).trans h

theorem State.bar2Put_bar2Top {a : Nat} {bs : List Byte} : (s.bar2Put a bs).bar2Top = s.bar2Top :=
  State.bar2Top_congr State.bar2Put_keeps.lasting.variant

/-- A write gives the bytes it covers and leaves the others, outside the lamp table. -/
theorem State.bar2Byte_bar2Put {a b : Nat} (bs : List Byte) (hw : s.wf) (hstage : s.boot.stage ≠ 7) (hb : b < s.bar2Top)
    (ht : s.inTable b = false) :
    (s.bar2Put a bs).bar2Byte b = if a ≤ b ∧ b < a + bs.length then bs.getD (b - a) 0 else s.bar2Byte b := by
  obtain ⟨-, -, -, hbytes, -, -, -⟩ := hw
  have hput : Keeps (partMask [.tiles, .mem]) s (s.bar2Put a bs) := State.bar2Put_keeps.mono rfl
  have hmem := State.bar2Put_mem (s := s) a bs
  have htable : (s.bar2Put a bs).inTable b = false :=
    (State.inTable_congr hput.lasting.variant (by rw [hmem]) (by rw [hmem]) b).trans ht
  rw [State.bar2Byte_outside_table (by rwa [hput.same .boot rfl]) (hb.trans_eq State.bar2Put_bar2Top.symm) htable,
    State.bar2Byte_outside_table hstage hb ht, hmem]
  exact hbmRead_hbmWriteList a bs b hbytes

/-- The same of a write cut at the end of the window. -/
theorem State.bar2Byte_bar2Put_take {a b : Nat} (data : List Byte) (hw : s.wf) (hstage : s.boot.stage ≠ 7) (ht : s.inTable b = false) :
    (s.bar2Put a (data.take (s.bar2Top - a))).bar2Byte b =
      if a ≤ b ∧ b < a + data.length ∧ b < s.bar2Top then data.getD (b - a) 0 else s.bar2Byte b := by
  by_cases hb : b < s.bar2Top
  · rw [State.bar2Byte_bar2Put _ hw hstage hb ht, List.length_take]
    by_cases hin : a ≤ b ∧ b < a + data.length
    · rw [if_pos (by omega), if_pos ⟨hin.1, hin.2, hb⟩, List.getD_eq_getElem?_getD, List.getElem?_take_of_lt (by omega),
        List.getD_eq_getElem?_getD]
    · rw [if_neg (by omega), if_neg (by omega)]
  · have hbeyond : s.bar2Top ≤ b := Nat.not_lt.1 hb
    rw [if_neg fun h => hb h.2.2, State.bar2Byte_beyond hbeyond, State.bar2Byte_beyond (State.bar2Put_bar2Top.trans_le hbeyond)]

theorem State.bar2Put_stirred_keeps {a : Nat} {bs : List Byte} : Keeps (partMask [.cnt, .mem, .tiles]) s ((s.stirred x).bar2Put a bs) :=
  (State.stirred_keeps.mono rfl).andThen State.bar2Put_keeps rfl

theorem State.bar2Byte_bar2Put_stirred {a b : Nat} (data : List Byte) (hw : s.wf) (hstage : s.boot.stage ≠ 7) (ht : s.inTable b = false) :
    ((s.stirred x).bar2Put a (data.take (s.bar2Top - a))).bar2Byte b =
      if a ≤ b ∧ b < a + data.length ∧ b < s.bar2Top then data.getD (b - a) 0 else s.bar2Byte b := by
  rw [← State.stirred_bar2Top (s := s) (x := x), ← State.bar2Byte_stirred (s := s) (x := x)]
  exact State.bar2Byte_bar2Put_take data (State.stirred_keeps.lasting.wf hw) (by rwa [State.stirred_boot]) (State.stirred_inTable.trans ht)

end

/-- BAR2_READ of bytes within BAR2. -/
theorem execBar2Read_of_bytes {addr : BitVec 40} {len : Nat} (hlen : len ≠ 0) (haddr : addr.toNat < 2 ^ 36) (s : State) :
    execBar2Read addr len s = .next (s.bar2Reach (.read addr.toNat len)) :=
  if_neg (by simpa [hlen] using haddr)

section
variable {addr : BitVec 40} {data : List Byte} {s : State}

/-- BAR2_WRITE of bytes that the window has goes on to the seal. -/
theorem execBar2Write_of_bytes (hstage : s.boot.stage ≠ 7) (haddr : addr.toNat < s.bar2Top) (hdata : data ≠ []) :
    execBar2Write addr data s =
      if s.boot.sealWhen == .notYet then .next (s.bar2Reach (.write addr.toNat (data.take (s.bar2Top - addr.toNat))))
      else if (List.range (data.take (s.bar2Top - addr.toNat)).length).any fun i => s.inTable (addr.toNat + i) then
        .next (s.bump Reg.corrBlockedWrites)
      else .next (s.bump Reg.hostBar2Blocked) :=
  if_neg (by simp [hstage, haddr, hdata])

theorem execBar2Write_before_seal (hstage : s.boot.stage ≠ 7) (haddr : addr.toNat < s.bar2Top) (hdata : data ≠ [])
    (hs : s.boot.sealWhen = .notYet) :
    execBar2Write addr data s = .next (s.bar2Reach (.write addr.toNat (data.take (s.bar2Top - addr.toNat)))) :=
  (execBar2Write_of_bytes hstage haddr hdata).trans (if_pos (by simp [hs]))

theorem execBar2Write_after_seal (hstage : s.boot.stage ≠ 7) (haddr : addr.toNat < s.bar2Top) (hdata : data ≠ [])
    (hs : s.boot.sealWhen ≠ .notYet) : ∃ counter, execBar2Write addr data s = .next (s.bump counter) := by
  rw [execBar2Write_of_bytes hstage haddr hdata, if_neg (by simp [hs])]
  split
  · exact ⟨_, rfl⟩
  · exact ⟨_, rfl⟩

end

/-- Settles O29: an access that waits is `State.parked`, one that does not is made on the state it has stirred; what waits, and behind which
access, is log entry 87, the counter of a write after the seal log entry 88. -/
theorem hbmWindow : Obligations.HbmWindow := by
  intro s addr
  refine ⟨fun len hlen haddr => ?_, fun data hw hstage haddr hdata => ?_⟩
  · rw [show exec (.bar2Read addr len) s = _ from execBar2Read_of_bytes hlen haddr s, State.bar2Reach_eq]
    refine ⟨fun h => ⟨_, congrArg _ (if_pos h), State.stirred_out, State.parked_host, State.stirred_mem_bytes,
        State.parked_keeps.only_parts rfl⟩,
      fun h => ⟨_, congrArg _ (if_neg (ne_true_of_eq_false h)), State.stirred_mem_bytes, ?_, ?_⟩⟩
    · obtain ⟨bad, hout, hbad⟩ := (s.stirred (.read addr.toNat len)).readDone_out addr.toNat len
      rw [State.stirred_out, State.bar2Byte_stirred] at hout
      rw [State.stirred_mem_poison] at hbad
      exact ⟨bad, hout, hbad⟩
    · exact State.readDone_stirred_keeps.only_parts rfl
  · refine ⟨fun hs => ?_, fun hs => ?_⟩
    · rw [show exec (.bar2Write addr data) s = _ from execBar2Write_before_seal hstage haddr hdata hs, State.bar2Reach_eq]
      refine ⟨fun h => ⟨_, congrArg _ (if_pos h), State.parked_host, congrFun State.bar2Byte_parked,
          State.parked_keeps.only_parts rfl⟩,
        fun h => ⟨_, congrArg _ ((if_neg (ne_true_of_eq_false h)).trans (State.bar2Do_write (by rwa [State.stirred_boot]))), ?_, ?_⟩⟩
      · exact State.bar2Put_stirred_keeps.only_parts rfl
      · exact fun b => State.bar2Byte_bar2Put_stirred data hw hstage
    · obtain ⟨counter, hexec⟩ := execBar2Write_after_seal hstage haddr hdata hs
      exact ⟨_, hexec, State.bump_keeps.only_parts rfl, fun _ => rfl⟩

end Sys2Proof.Machine
end

section
/-! SUPPORT. Single lamps and tiles (R87, R92, R102, R122, R126, R183, R412): what a recheck, a watch, the probe table's second, a stale
temperature and new delays leave of them. -/

namespace Sys2Proof.Machine

/- Rechecks (R92). -/

/-- GO of LAMP_RECHECK set leaves the lamp index. -/
theorem wfld_wput_go (w : Word) : wfld (wput w 31 31 1) 24 0 = wfld w 24 0 := by
  unfold wfld wput wfld Word.of
  simp only [BitVec.toNat_ofNat, Nat.shiftRight_eq_div_pow]
  have := w.isLt
  omega

section
variable {s : State}

theorem State.mayRecheck_iff (i : Nat) : s.mayRecheck i = true ↔ ∃ t k ty, s.lampAt i = some (t, k) ∧
    ((t.lamps.map (·.state)).getD k 0 = 1 ∨ (t.lamps.map (·.state)).getD k 0 = 2) ∧
    s.typeOf t = some ty ∧ ty.detFloor ≠ 0 ∧ s.tl.recheckRes ≠ 1 ∧ s.tl.noRoom = false := by
  unfold State.mayRecheck
  cases hl : s.lampAt i with
  | none => simp
  | some x =>
    obtain ⟨t, k⟩ := x
    cases hty : s.typeOf t with
    | none => simp [hty]
    | some ty => simp [hty, and_assoc, and_left_comm]

theorem execLampRecheck_eq (v : Word) : execLampRecheck v s = .next (if s.mayRecheck (wfld v 24 0) then
    { s with tl := { s.tl with recheck := some (wfld v 24 0, 0), recheckRes := 1, recheckIdx := wfld v 24 0 } }
    else s.bump Reg.recheckRefused) := by
  unfold execLampRecheck State.writeRecheck
  extract_lets i
  have hi : i = wfld v 24 0 := wfld_wput_go v
  rw [if_neg (by simp [wbit_wput_same v (i := 31) (by decide)]), hi]

/- The watched lamp (R102). -/

theorem State.writeWatch_rw {v : Word} (hw : s.wf) : (s.writeWatch v).rw Reg.lampWatch = Word.of (v.toNat % 2 ^ 28) :=
  (State.rw_setRw s Reg.lampWatch Reg.lampWatch _ hw).trans (if_pos rfl)

/- The seconds of the probe table (R122, R126). -/

/-- The state with every lamp's count brought up to a second, and PROBE_DUE taken. -/
def State.probeSecond (s : State) : State :=
  let t : State := { s with tiles := s.tiles.map fun t => { t with lamps := t.lamps.map Lamp.second } }
  { t with tl := { s.tl with probeTick := s.ticks, probeDue := t.dueCount } }

theorem State.probeSecond_keeps : Keeps (partMask [.tl, .tiles]) s s.probeSecond := (Keeps.tiles.mono rfl).andThen Keeps.tl rfl

theorem execProbeCountSecond_of_due (hs : s.tl.service = true) (hd : s.tl.probeTick + secT ≤ s.ticks) :
    execProbeCountSecond s = .next s.probeSecond :=
  if_neg (by simp [hs, State.past, hd])

/- Stale temperatures (R87). -/

section
variable {p : Fin 16} {q : Fin 32} {t : Tile}

/-- The state as a tile's temperature becomes stale. -/
def State.staled (s : State) (t : Tile) (p q : Nat) : State := (s.modTile p q fun t => { t with stale := true }).ev Ev.tileTempStale [t.num]

theorem State.staled_keeps {p q : Nat} : Keeps (partMask [.cnt, .evt, .tiles]) s (s.staled t p q) :=
  (State.modTile_keeps.mono rfl).andThen State.ev_keeps rfl

theorem execTileTempStale_of_tile (ht : s.tile? p q = some t) : execTileTempStale p q s =
    if !t.admitted || t.stale || !(s.tends t) || !(s.past t.tempTick secT) then .next s else .next (s.staled t p q) := by
  unfold execTileTempStale
  rw [ht]
  rfl

end

/- Chain delays (R183, R412). -/

/-- A change of tiles that a figure of a tile does not see leaves the figures of all. -/
theorem State.modTile_tiles_map {α : Type} {p q : Nat} {f : Tile → Tile} {g : Tile → α} (h : ∀ t, g (f t) = g t) :
    (s.modTile p q f).tiles.map g = s.tiles.map g := by
  have hone : ∀ t : Tile, g (if t.is p q then f t else t) = g t := fun t => by
    split
    · exact h t
    · rfl
  show (s.tiles.map _).map g = _
  rw [List.map_map]
  exact List.map_congr_left fun t _ => hone t

/-- A tile without its chain delay. -/
def Tile.undelayed (t : Tile) : Tile := { t with delay := 0 }

theorem State.setDelays_undelayed {p : Nat} : (s.setDelays p).tiles.map Tile.undelayed = s.tiles.map Tile.undelayed := by
  refine List.foldlRecOn (motive := fun t : State => t.tiles.map Tile.undelayed = s.tiles.map Tile.undelayed) _ _ rfl fun t h x _ => ?_
  exact Eq.trans (State.modTile_tiles_map (g := Tile.undelayed) (f := fun t => { t with delay := x.2.toNat }) fun _ => rfl) h

/-- The state with the delays of every port that the unit drives brought up to date. -/
def State.delaysSet (s : State) : State := (List.range 16).foldl (fun s p => if s.drives p then s.setDelays p else s) s

theorem State.delaysSet_keeps : Keeps (partMask [.tiles]) s s.delaysSet :=
  Keeps.refl.foldl fun _ _ h => Keeps.ite (fun _ => h.andThen State.setDelays_keeps rfl) fun _ => h

theorem State.delaysSet_undelayed : s.delaysSet.tiles.map Tile.undelayed = s.tiles.map Tile.undelayed := by
  refine List.foldlRecOn (motive := fun t : State => t.tiles.map Tile.undelayed = s.tiles.map Tile.undelayed) _ _ rfl fun t h p _ => ?_
  split
  · exact State.setDelays_undelayed.trans h
  · exact h

end

/-- Settles O46: each command is the one change of its lamp, of the watch, of every lamp's count, of one tile's temperature or of the
delays. -/
theorem lampsAndTilesByTimeAndSoftware : Obligations.LampsAndTilesByTimeAndSoftware := by
  intro s
  refine ⟨fun v => ?_, State.mayRecheck_iff, fun v => ?_, fun hs hd => ?_, fun p q t ht => ?_, ?_⟩
  · rw [show exec (.lampRecheck v) s = _ from execLampRecheck_eq v]
    exact ⟨fun h => congrArg _ (if_neg (ne_true_of_eq_false h)), fun h => congrArg _ (if_pos h)⟩
  · exact ⟨s.writeWatch v, rfl, rfl, State.writeWatch_rw, State.writeWatch_keeps.only_parts rfl⟩
  · exact ⟨s.probeSecond, execProbeCountSecond_of_due hs hd, rfl, rfl, rfl, State.probeSecond_keeps.only_parts rfl⟩
  · rw [show exec (.tileTempStale p q) s = _ from execTileTempStale_of_tile ht]
    refine ⟨fun h => if_pos ?_, fun ha hs hte hd =>
      ⟨s.staled t p q, if_neg ?_, State.ev_p_tiles, State.staled_keeps.only_parts rfl⟩⟩
    · rcases h with h | h | h
      · simp [h]
      · simp [h]
      · simp [State.past, secT, Nat.not_le.2 h]
    · simp [ha, hs, hte, State.past, secT, hd]
  · exact ⟨s.delaysSet, rfl, State.delaysSet_keeps.only_parts rfl, State.delaysSet_undelayed⟩

end Sys2Proof.Machine
end

section
/-! SUPPORT. Pins, LAP frames and send deadlines (R130, R131, R173): what a pulse's two ends leave of its pin, when a LAP frame is queued, and
what a pair keeps that misses its deadline. -/

namespace Sys2Proof.Machine

/-- A port changed, at the port itself. -/
theorem State.port_modPort_same {s : State} {p : Nat} {f : Port → Port} (hp : p < s.ports.length) : (s.modPort p f).port p = f (s.port p) :=
  (State.port_modPort s p p f).trans (if_pos ⟨rfl, hp⟩)

section
variable {s : State}

/- Pulses (R131). -/

/-- The end of a pulse that begins now: WIDTH units of 100 ns, 62.5 ticks each, rounded up to a tick (log entry 59). -/
def State.pulseEnd (s : State) (leg : Bool) : Nat :=
  s.ticks + (125 * wfld (s.rws Reg.pinCtrl) (if leg then 23 else 15) (if leg then 16 else 8) + 1) / 2

/-- The state as a pulse has left the queue and its pin has an end to wait for, before the pin is driven. -/
def State.pulseTaken (s : State) (p : Pulse) : State :=
  let t := { s.tl with pulses := s.tl.pulses.erase p }
  { s with tl := if p.leg then { t with legPin := some (s.pulseEnd true) } else { t with lapPin := some (s.pulseEnd false) } }

theorem State.pulseTaken_keeps {p : Pulse} : Keeps (partMask [.tl]) s (s.pulseTaken p) := Keeps.tl

theorem State.pulseTaken_pulses {p : Pulse} : (s.pulseTaken p).tl.pulses = s.tl.pulses.erase p := by
  unfold State.pulseTaken
  cases p.leg <;> rfl

theorem State.pulseTaken_tl_of_leg {p : Pulse} (h : p.leg = true) :
    (s.pulseTaken p).tl = { s.tl with pulses := s.tl.pulses.erase p, legPin := some (s.pulseEnd true) } := if_pos h

theorem State.pulseTaken_tl_of_lap {p : Pulse} (h : p.leg = false) :
    (s.pulseTaken p).tl = { s.tl with pulses := s.tl.pulses.erase p, lapPin := some (s.pulseEnd false) } := if_neg (by simp [h])

theorem State.beginPulse_eq {p : Pulse} : s.beginPulse p =
    if s.pinOn p.leg p.idx then (s.pulseTaken p).drivePin p.leg true else { s with tl := { s.tl with pulses := s.tl.pulses.erase p } } := by
  unfold State.beginPulse State.pulseTaken State.pulseEnd
  cases s.pinOn p.leg p.idx <;> cases p.leg <;> rfl

theorem execPinPulseStart_of_due {leg : Bool} {p : Pulse}
    (h : s.tl.pulses.find? (fun p => p.leg == leg && decide (p.at_ ≤ s.wall)) = some p) :
    p.leg = leg ∧ execPinPulseStart leg s = .next (s.beginPulse p) := by
  have hdue := List.find?_some h
  obtain ⟨hleg, -⟩ := Bool.and_eq_true_iff.1 hdue
  refine ⟨beq_iff_eq.1 hleg, ?_⟩
  unfold execPinPulseStart
  rw [h]

theorem execPinPulseEnd_of_leg {k : Nat} (h : s.tl.legPin = some k) (hk : k ≤ s.ticks) :
    execPinPulseEnd true s = .next (State.drivePin { s with tl := { s.tl with legPin := none } } true false) := by
  unfold execPinPulseEnd
  simp only [if_true, h]
  exact if_neg (Nat.not_lt.2 hk)

theorem execPinPulseEnd_of_lap {k : Nat} (h : s.tl.lapPin = some k) (hk : k ≤ s.ticks) :
    execPinPulseEnd false s = .next (State.drivePin { s with tl := { s.tl with lapPin := none } } false false) := by
  unfold execPinPulseEnd
  simp only [Bool.false_eq_true, if_false, h]
  exact if_neg (Nat.not_lt.2 hk)

/-- A pin driven has its level, whether that is a change or not, and the other pin keeps its own. -/
theorem State.drivePin_pwr {leg on : Bool} : (s.drivePin leg on).pwr =
    if leg then { s.pwr with legOut := s.pinLevel leg on } else { s.pwr with lapOut := s.pinLevel leg on } := by
  unfold State.drivePin
  extract_lets v old
  split
  next h =>
    have hold : v = old := beq_iff_eq.1 h
    rw [show s.pinLevel leg on = old from hold]
    cases leg <;> rfl
  next => rfl

/- LAP frames (R173). -/

section
variable {p : Fin 16} {l : LapAhead}

/-- Whether a port has sent no LAP frame yet for a boundary ahead. -/
def State.lapUnsent (s : State) (p : Nat) (l : LapAhead) : Bool :=
  match (s.port p).lapNext with
  | some b => decide (b < l.at_)
  | none => true

/-- The state with the LAP frame of a boundary queued on a port. -/
def State.lapQueued (s : State) (p : Nat) (l : LapAhead) : State :=
  (s.queueFrame p (s.lapFrame p l)).modPort p fun q => { q with lapNext := some l.at_ }

theorem State.lapQueued_keeps {p : Nat} : Keeps (partMask [.ports]) s (s.lapQueued p l) :=
  (State.queueFrame_keeps.mono rfl).andThen State.modPort_keeps rfl

theorem State.port_queueFrame {p : Nat} {f : TxFrame} (hp : p < s.ports.length) : (s.queueFrame p f).port p =
    { s.port p with queue := (s.port p).queue ++ [{ f with tag := (s.port p).tag }], tag := (s.port p).tag + 1 } :=
  State.port_modPort_same hp

theorem State.port_lapQueued {p : Nat} (hp : p < s.ports.length) : (s.lapQueued p l).port p =
    { s.port p with
      queue := (s.port p).queue ++ [{ s.lapFrame p l with tag := (s.port p).tag }], tag := (s.port p).tag + 1, lapNext := some l.at_ } := by
  have hlen : p < (s.queueFrame p (s.lapFrame p l)).ports.length := (length_modAt ..).symm ▸ hp
  unfold State.lapQueued
  rw [State.port_modPort_same hlen, State.port_queueFrame hp]

theorem execLapFrameSend_of_next (hon : s.tl.on = true) (hup : (s.port p).up = true) (hd : s.drives p = true) (hs : s.silent p = false)
    (hl : (s.lapsAhead p).find? (s.lapUnsent p) = some l) : execLapFrameSend p s =
      if l.at_ - 2000000 ≤ s.wall ∧ s.wall ≤ l.at_ - 100000 then .next (s.lapQueued p l) else .next s := by
  unfold execLapFrameSend
  extract_lets q
  rw [if_neg (by simp [hon, hd, hs, show q.up = true from hup])]
  split
  next hnone => exact absurd (hnone.symm.trans hl) nofun
  next l' hl' =>
    cases hl'.symm.trans hl
    simp only [Bool.and_eq_true, decide_eq_true_eq]
    rfl

end

/- Send deadlines (R130). -/

/-- A pair that waits to be sent no more and whose content is still to be sent. -/
def Pair.missed (x : Pair) : Pair := { x with dirty := true, ready := false }

theorem State.missPair_tiles {t : Tile} {j seg : Nat} : (s.missPair t j seg).tiles =
    (s.modTile t.port t.pos fun t => { t with pairs := modAt t.pairs j fun l => modAt l seg Pair.missed }).tiles := by
  unfold State.missPair
  extract_lets rec_ u vs w
  split
  · rw [State.surge_p_tiles, State.ev_p_tiles]
    rfl
  · rfl

theorem execSendDeadline_of_early {p : Fin 16} {q : Fin 32} {j : Fin 8} {k : Nat} {t : Tile} (ht : s.tile? p q = some t)
    (h : 32 * s.wall < s.deadline t j k) : execSendDeadline p q j k s = .next s := by
  unfold execSendDeadline
  rw [ht]
  exact if_pos (by simp [h])

theorem execSendDeadline_of_due {p : Fin 16} {q : Fin 32} {j : Fin 8} {k : Nat} {t : Tile} (ht : s.tile? p q = some t) (hon : s.tl.on = true)
    (hj : j.val < s.tl.plan.legs) (hu : s.unsent t j k = true) (h : s.deadline t j k ≤ 32 * s.wall) :
    execSendDeadline p q j k s = .next (s.missPair t j k) := by
  unfold execSendDeadline
  rw [ht]
  exact if_neg (by simp [hon, hj, hu, h])

end

/-- Settles O44: a due pulse is `State.pulseTaken` where its pin is on, a LAP frame is `State.lapQueued` inside its window, and a late pair is
`State.missPair` (log entry 59 for the unit of WIDTH, its rounding and the queue of pulses). -/
theorem pinsLapFramesAndDeadlines : Obligations.PinsLapFramesAndDeadlines := by
  intro s
  refine ⟨fun leg p hp => ?_, fun k => ⟨execPinPulseEnd_of_leg, execPinPulseEnd_of_lap⟩, fun leg on => ?_,
    fun p l hp hon hup hd hs hl => ?_, fun p q j k t ht => ⟨execSendDeadline_of_early ht, fun hon hj hu h => ?_⟩⟩
  · obtain ⟨hleg, hexec⟩ := execPinPulseStart_of_due hp
    rw [State.beginPulse_eq, hleg] at hexec
    refine ⟨fun hoff => hexec.trans (congrArg _ (if_neg (by simp [hoff]))), fun hon => ⟨s.pulseTaken p, hexec.trans (congrArg _ (if_pos hon)),
      State.pulseTaken_keeps.only_parts rfl, State.pulseTaken_pulses, fun h => ?_, fun h => ?_⟩⟩
    · rw [State.pulseTaken_tl_of_leg (hleg.trans h)]
      exact ⟨rfl, rfl⟩
    · rw [State.pulseTaken_tl_of_lap (hleg.trans h)]
      exact ⟨rfl, rfl⟩
  · rw [State.drivePin_pwr]
    cases leg <;> exact ⟨rfl, rfl⟩
  · have hexec : exec (.lapFrameSend p) s = _ := execLapFrameSend_of_next hon hup hd hs hl
    exact ⟨fun hin => ⟨_, _, hexec.trans (if_pos hin), State.port_lapQueued hp, rfl, rfl, State.lapQueued_keeps.only_parts rfl⟩,
      fun hout => hexec.trans (if_neg hout)⟩
  · exact ⟨_, execSendDeadline_of_due ht hon hj hu h, State.missPair_tiles, State.missPair_keeps.only_parts rfl⟩

end Sys2Proof.Machine
end

section
/-! SUPPORT. A port's next frame (R130, R170, R172, R301, R398, R448): which one a free port sends, what its start leaves of the port, and
what the transmit boundary running dry leaves. -/

namespace Sys2Proof.Machine

/- The first of some frames and of some pairs. -/

/-- The first element of a list in some order, the earlier one in the list where neither of two goes before the other. -/
def foremost {α : Type} (before : α → α → Bool) : List α → Option α
  | [] => none
  | a :: l => match foremost before l with
    | none => some a
    | some b => if before b a then some b else some a

/-- The foremost element has the least key, where going before never raises the key and not going before never lowers it. -/
theorem foremost_least {α β : Type} [LinearOrder β] {before : α → α → Bool} {key : α → β} (hyes : ∀ a b, before b a = true → key b ≤ key a)
    (hno : ∀ a b, before b a = false → key a ≤ key b) {l : List α} :
    (foremost before l = none → l = []) ∧ ∀ f, foremost before l = some f → f ∈ l ∧ ∀ g ∈ l, key f ≤ key g := by
  induction l with
  | nil => exact ⟨fun _ => rfl, nofun⟩
  | cons a l ih =>
    obtain ⟨ihnone, ihsome⟩ := ih
    unfold foremost
    cases hl : foremost before l with
    | none =>
      cases ihnone hl
      simp
    | some b =>
      obtain ⟨hmem, hleast⟩ := ihsome b hl
      cases hb : before b a with
      | true =>
        simpa [hb, hmem, hyes a b hb] using hleast
      | false =>
        have hab := hno a b hb
        simpa [hb] using fun g hg => hab.trans (hleast g hg)

/-- Whether a frame leaves before another: by rank, and in order of queuing among equals. -/
def TxFrame.before (g f : TxFrame) : Bool := g.kind.rank < f.kind.rank || (g.kind.rank == f.kind.rank && g.tag < f.tag)

theorem firstFrame_eq_foremost (l : List TxFrame) : firstFrame l = foremost TxFrame.before l := by
  induction l with
  | nil => rfl
  | cons f l ih =>
    unfold firstFrame foremost
    rw [ih]
    cases foremost TxFrame.before l <;> rfl

theorem TxFrame.before_iff {g f : TxFrame} :
    g.before f = true ↔ g.kind.rank < f.kind.rank ∨ g.kind.rank = f.kind.rank ∧ g.tag < f.tag := by
  simp [TxFrame.before]

theorem firstFrame_least {l : List TxFrame} {f : TxFrame} (h : firstFrame l = some f) : f ∈ l ∧ ∀ g ∈ l, f.kind.rank ≤ g.kind.rank := by
  refine (foremost_least (before := TxFrame.before) (key := fun f => f.kind.rank) (fun f g hg => ?_) (fun f g hg => ?_)).2 f
    (firstFrame_eq_foremost l ▸ h)
  · obtain hlt | ⟨heq, -⟩ := TxFrame.before_iff.1 hg
    · exact hlt.le
    · exact heq.le
  · exact not_lt.1 fun hlt => Bool.eq_false_iff.1 hg (TxFrame.before_iff.2 (.inl hlt))

/-- Whether a pair has an earlier deadline than another. -/
def Waiting.before (v w : Waiting) : Bool := v.due < w.due

theorem firstPair_eq_foremost (l : List Waiting) : firstPair l = foremost Waiting.before l := by
  induction l with
  | nil => rfl
  | cons w l ih =>
    unfold firstPair foremost
    rw [ih]
    cases foremost Waiting.before l with
    | none => rfl
    | some v => simp [Waiting.before]

theorem firstPair_least {l : List Waiting} {w : Waiting} (h : firstPair l = some w) : w ∈ l ∧ ∀ v ∈ l, w.due ≤ v.due :=
  (foremost_least (before := Waiting.before) (key := Waiting.due) (fun _ _ hv => (of_decide_eq_true hv).le)
    (fun _ _ hv => not_lt.1 (of_decide_eq_false hv))).2 w (firstPair_eq_foremost l ▸ h)

section
variable {s : State} {p : Nat}

/- Which frame a free port sends. -/

/-- A port free for its next frame: none in progress, and no LAP frame or pair queued that is too late (R130, R173). -/
def State.readied (s : State) (p : Nat) : State :=
  State.dropLate (s.modPort p fun q => { q with sending := none, queue := q.queue.filter fun f => !(s.lapStale f) }) p

/-- The first frame queued that the port may carry now. -/
def State.bestQueued (s : State) (p : Nat) : Option TxFrame := firstFrame ((s.port p).queue.filter fun f => s.mayCarry p f.kind)

/-- A queued frame starts to leave. -/
def State.launchQueued (s : State) (p : Nat) (f : TxFrame) : State :=
  State.launch (s.modPort p fun q => { q with queue := q.queue.erase f }) p f

/-- The first SCAN due starts to leave, else the earliest pair; a lane out of the stripe lets neither (R156; SCAN before DRIVE and the ties
are log entry 72). -/
def State.launchFirst (s : State) (p : Nat) : Option State :=
  match (if (s.port p).laneOut then [] else s.scansDue p) with
  | (t, j) :: _ => some (s.launchScan p t j)
  | [] => match (if (s.port p).laneOut then none else firstPair (s.waiting p)) with
    | some w => some (s.launchDrive p w)
    | none => none

theorem State.launchFirst_of_scan {t : Tile} {j : Nat} {r : List (Tile × Nat)} (ho : (s.port p).laneOut = false)
    (h : s.scansDue p = (t, j) :: r) : s.launchFirst p = some (s.launchScan p t j) := by
  unfold State.launchFirst
  simp [ho, h]

theorem State.launchFirst_of_pair {w : Waiting} (ho : (s.port p).laneOut = false) (h : s.scansDue p = [])
    (hw : firstPair (s.waiting p) = some w) : s.launchFirst p = some (s.launchDrive p w) := by
  unfold State.launchFirst
  simp [ho, h, hw]

theorem State.launchFirst_of_none (ho : (s.port p).laneOut = false) (h : s.scansDue p = []) (hw : firstPair (s.waiting p) = none) :
    s.launchFirst p = none := by
  unfold State.launchFirst
  simp [ho, h, hw]

/-- A queued frame of a rank before SCAN leaves first (R448). -/
theorem State.nextFrame_of_early {f : TxFrame} (hb : (s.readied p).bestQueued p = some f) (hr : f.kind.rank < 5) :
    s.nextFrame p = (s.readied p).launchQueued p f := by
  unfold State.nextFrame
  extract_lets +onlyGivenNames -merge -useContext u x out go best pairs
  rw [show best = some f from hb]
  exact if_pos hr

/-- Without one a SCAN or a pair leaves, else what is queued, else nothing. -/
theorem State.nextFrame_of_late (hb : ∀ f, (s.readied p).bestQueued p = some f → 5 ≤ f.kind.rank) : s.nextFrame p =
    ((s.readied p).launchFirst p).getD ((((s.readied p).bestQueued p).map ((s.readied p).launchQueued p)).getD (s.readied p)) := by
  unfold State.nextFrame
  extract_lets +onlyGivenNames -merge -useContext u x out go best pairs
  have hpairs : pairs () = (s.readied p).launchFirst p := rfl
  have hbest : best = (s.readied p).bestQueued p := rfl
  clear_value pairs best
  rw [← hbest] at hb ⊢
  rw [← hpairs]
  cases best with
  | none => cases pairs () <;> rfl
  | some f =>
    refine (if_neg (Nat.not_lt.2 (hb f rfl))).trans ?_
    cases pairs () <;> rfl

/- A frame that starts to leave (R143, R144, R170, R172). -/

theorem State.port_sendRows {bs : List Block} (hp : p < s.ports.length) : (s.sendRows p bs).port p =
    let q := s.port p
    let rows := spread bs.length (lanesOf (s.inUse p)) bs
    let room := q.markBlk - s.blockNext p
    { q with busy := s.blockNext p + rows.length + b2n (room < rows.length), sums := addRows q.sums (rows.take room)
             sumsNext := addRows q.sumsNext (rows.drop room) } :=
  State.port_modPort_same hp

/-- A frame given the next number of its stream and its blocks' time on the port: the part of `State.launch` before what its kind asks for. -/
def State.numbered (s : State) (p : Nat) (f : TxFrame) : State :=
  let n := (s.port p).nextSeq f.addr
  ((s.send (.chainFrame p n f)).sendRows p (lineBlocks (f.bytes s.cfg.devNum n))).modPort p fun q =>
    { q.putSeq f.addr n with sending := some f, exitBlk := none }

theorem State.port_numbered {f : TxFrame} (hp : p < s.ports.length) : (s.numbered p f).port p =
    let n := (s.port p).nextSeq f.addr
    { ((s.sendRows p (lineBlocks (f.bytes s.cfg.devNum n))).port p).putSeq f.addr n with sending := some f, exitBlk := none } :=
  State.port_modPort_same ((length_modAt ..).symm ▸ hp)

/-- A frame other than LAP and CENSUS changes neither the ports nor the output beyond its number and its blocks. -/
theorem State.launch_numbered {f : TxFrame} (hlap : f.kind ≠ .lap) (hcensus : f.kind ≠ .census) :
    (s.launch p f).ports = (s.numbered p f).ports ∧ (s.launch p f).out = (s.numbered p f).out := by
  have hclaim : Keeps _ (s.numbered p f) ((s.numbered p f).claimDone p f) := State.claimDone_keeps
  have hports := hclaim.same .ports rfl
  have hout := hclaim.same .out rfl
  unfold State.launch
  rw [if_neg (by simpa using hlap)]
  extract_lets +onlyGivenNames -merge -useContext q n u v w
  split
  · exact ⟨hports, hout⟩
  next h => exact absurd h hcensus
  · exact ⟨hports, hout⟩

/- The transmit boundary running dry (R301, R398). -/

theorem execChainTxDry_of_idle {p : Fin 16} (h : (s.port p).sending = none) : execChainTxDry p s = .next s := by
  unfold execChainTxDry
  dsimp only
  rw [h]

/-- The ticks within the last second at which a port's boundary ran dry, now included. -/
def State.dryTicks (s : State) (p : Nat) : List Nat := ((s.port p).dry.filter fun t => !(s.past t secT)) ++ [s.ticks]

/-- The state with the frame in progress aborted and its pairs still to be sent. -/
def State.aborted (s : State) (p : Nat) (f : TxFrame) : State :=
  (((s.send (.chainAbort p)).unsend p f).modPort p fun q =>
    { q with sending := none, busy := s.blockNext p, dry := s.dryTicks p }).elasticLoss 0

theorem State.unsend_ticks {f : TxFrame} : (s.unsend p f).ticks = s.ticks := State.unsend_keeps.lasting.ticks
theorem State.unsend_ports {f : TxFrame} : (s.unsend p f).ports = s.ports := State.unsend_keeps.same .ports rfl

theorem State.unsend_dryTicks {f : TxFrame} : (s.unsend p f).dryTicks p = s.dryTicks p := by
  unfold State.dryTicks State.port State.past
  rw [State.unsend_ticks, State.unsend_ports]

theorem State.unsend_blockNext {f : TxFrame} : (s.unsend p f).blockNext p = s.blockNext p := by
  unfold State.blockNext State.port
  rw [State.unsend_ports, State.unsend_keeps.same .tb rfl]

theorem State.send_unsend_tiles {o : Output} {f : TxFrame} : ((s.send o).unsend p f).tiles = (s.unsend p f).tiles := by
  unfold State.unsend
  cases f.kind <;> rfl

theorem execChainTxDry_of_sending {p : Fin 16} {f : TxFrame} (hf : (s.port p).sending = some f) (hb : s.blockNow p < (s.port p).busy) :
    execChainTxDry p s = if 16 ≤ (s.dryTicks p).length then
        .next (State.fault ((s.aborted p f).modPort p fun q => { q with dry := [] }) Fk.portStuck (fsPort p) [p])
      else .next (s.aborted p f) := by
  unfold execChainTxDry
  extract_lets q
  have hnext : ((s.send (.chainAbort p)).unsend p f).blockNext p = s.blockNext p := State.unsend_blockNext
  have hdry : (q.dry.filter fun t => !(((s.send (.chainAbort p)).unsend p f).past t secT)) ++
      [((s.send (.chainAbort p)).unsend p f).ticks] = s.dryTicks p := by
    unfold State.past
    rw [State.unsend_ticks]
    rfl
  rw [show q.sending = some f from hf]
  refine (if_neg (Nat.not_le.2 hb)).trans ?_
  dsimp only
  rw [hdry, hnext]
  rfl

theorem State.aborted_out {f : TxFrame} : (s.aborted p f).out = s.out ++ [.chainAbort p] :=
  (State.elasticLoss_keeps.same .out rfl).trans (State.unsend_keeps.same .out rfl)

theorem State.aborted_tiles {f : TxFrame} : (s.aborted p f).tiles = (s.unsend p f).tiles :=
  (State.elasticLoss_keeps.same .tiles rfl).trans State.send_unsend_tiles

theorem State.aborted_port {f : TxFrame} (hp : p < s.ports.length) :
    ((s.aborted p f).port p) = { s.port p with sending := none, busy := s.blockNext p, dry := s.dryTicks p } := by
  have hports : ((s.send (.chainAbort p)).unsend p f).ports = s.ports := State.unsend_ports
  unfold State.aborted State.port
  rw [State.elasticLoss_keeps.same .ports rfl]
  refine (State.port_modPort_same (by rw [hports]; exact hp)).trans ?_
  unfold State.port
  rw [hports]

theorem State.aborted_keeps {f : TxFrame} : Keeps (partMask [.cnt, .evt, .ports, .tiles, .fab, .out]) s (s.aborted p f) :=
  (((State.send_keeps.mono rfl).andThen State.unsend_keeps rfl).andThen State.modPort_keeps rfl).andThen State.elasticLoss_keeps rfl

end

/-- Settles O49: a free port's frame is `State.nextFrame` in the order of R448, what leaves is `State.numbered`, and a frame cut short is
`State.aborted` (log entry 123 for where a frame begins and how long it keeps the port, 72 for SCAN before DRIVE and its ties). -/
theorem chainFramesInOrder : Obligations.ChainFramesInOrder := by
  refine ⟨fun l f => firstFrame_least, fun l w => firstPair_least, fun s p hp => ⟨fun hbusy => ?_, fun hfree => ⟨s.readied p, rfl, ?_⟩,
    fun f hlap hcensus => ?_, execChainTxDry_of_idle, fun f hf hb => ⟨s.aborted p f, State.aborted_out, ?_⟩⟩⟩
  · exact if_neg (by simp [hbusy])
  · have hnext : exec (.chainFrameStart p) s = .next (s.nextFrame p) := if_pos hfree
    refine ⟨fun f hb hr => hnext.trans (congrArg _ (State.nextFrame_of_early hb hr)), fun hbest ho => ?_⟩
    have hlate : ∀ f, (s.readied p).bestQueued p = some f → 5 ≤ f.kind.rank := fun f hf => by
      obtain hnone | ⟨g, hg, hr⟩ := hbest
      · cases hnone.symm.trans hf
      · cases hg.symm.trans hf
        exact hr
    rw [hnext, State.nextFrame_of_late hlate]
    refine ⟨fun t j r h => ?_, fun h w hw => ?_, fun h hw f hf => ?_, fun h hw hf => ?_⟩
    · rw [State.launchFirst_of_scan ho h]
      rfl
    · rw [State.launchFirst_of_pair ho h hw]
      rfl
    · rw [State.launchFirst_of_none ho h hw, show (s.readied p).bestQueued p = some f from hf]
      rfl
    · rw [State.launchFirst_of_none ho h hw, show (s.readied p).bestQueued p = none from hf]
      rfl
  · obtain ⟨hports, hout⟩ := State.launch_numbered (s := s) (p := p) hlap hcensus
    have hport : (s.launch p f).port p = (s.numbered p f).port p := congrArg (·.getD p .reset) hports
    refine ⟨hout, hport.trans (State.port_numbered hp), ?_, ?_⟩
    · rw [State.port_sendRows hp]
      simp [b2n]
    · rw [State.port_sendRows hp]
  · rw [State.aborted_port hp]
    have hexec : exec (.chainTxDry p) s = _ := execChainTxDry_of_sending hf hb
    exact ⟨rfl, rfl, rfl, State.aborted_tiles, State.aborted_keeps.only_parts rfl, fun h => hexec.trans (if_neg (Nat.not_le.2 h)),
      fun h => hexec.trans (if_pos h)⟩

end Sys2Proof.Machine
end

section
/-! SUPPORT. What the operations on one chain port leave of it, of the other ports and of the block clocks (R135, R144, R147, R150, R155). -/

namespace Sys2Proof.Machine

section
variable {s t : State} {p r : Nat}

/-- A port changed, at another port. -/
theorem State.port_modPort_other {f : Port → Port} (h : r ≠ p) : (s.modPort p f).port r = s.port r :=
  (State.port_modPort s p r f).trans (if_neg fun hpr => h hpr.1.symm)

@[simp] theorem State.length_modPort {f : Port → Port} : (s.modPort p f).ports.length = s.ports.length := length_modAt ..

@[simp] theorem State.length_sendLocal {c : Ctl} : (s.sendLocal p c).ports.length = s.ports.length := length_modAt ..
@[simp] theorem State.length_sendTrain {m : Nat} : (s.sendTrain p m).ports.length = s.ports.length := length_modAt ..

@[simp] theorem State.length_restoreLane {c : CalRun} : (s.restoreLane p c).ports.length = s.ports.length := by
  unfold State.restoreLane
  rw [State.length_modPort]
  split_ifs <;> simp

@[simp] theorem State.length_abortCal : (s.abortCal p).ports.length = s.ports.length := by
  unfold State.abortCal
  extract_lets
  split
  · rfl
  · split
    · rfl
    · dsimp only
      split
      · simp
      · split <;> simp

theorem State.port_of_ports (h : t.ports = s.ports) : t.port r = s.port r := congrArg (·.getD r .reset) h

theorem State.port_sendLocal {c : Ctl} (hp : p < s.ports.length) :
    ∃ sums, (s.sendLocal p c).port p = { s.port p with sums := sums } := ⟨_, State.port_modPort_same hp⟩

theorem State.port_sendTrain {m : Nat} (hp : p < s.ports.length) :
    (s.sendTrain p m).port p = { s.port p with bipBad := (s.port p).bipBad ||| m } := State.port_modPort_same hp

/-- A port's block clock follows the time base and the port's block time 0 alone. -/
theorem State.blockNow_congr (htb : t.tb = s.tb) (h : (t.port p).blk0 = (s.port p).blk0) : t.blockNow p = s.blockNow p := by
  unfold State.blockNow
  rw [htb, h]

theorem State.blockNext_congr (htb : t.tb = s.tb) (h : (t.port p).blk0 = (s.port p).blk0) : t.blockNext p = s.blockNext p := by
  unfold State.blockNext
  rw [htb, h]

/-- A scan that does nothing at each element does nothing. -/
theorem foldl_of_idle {α β : Type} {f : β → α → β} {b : β} {l : List α} (h : ∀ a ∈ l, f b a = b) : l.foldl f b = b := by
  induction l with
  | nil => rfl
  | cons a l ih =>
    rw [List.foldl_cons, h a (.head _)]
    exact ih fun x hx => h x (.tail _ hx)

/-- A scan of the ports that finds something to do at one of them alone does what it does there. -/
theorem foldl_range_of_others_idle {f : State → Nat → State} {p : Fin 16} (hs : ∀ r, r < 16 → r ≠ (p : Nat) → f s r = s)
    (ht : ∀ r, r < 16 → r ≠ (p : Nat) → f (f s p) r = f s p) : (List.range 16).foldl f s = f s p := by
  obtain ⟨l, k, hlk⟩ := List.append_of_mem (List.mem_range.2 p.2)
  have hnotin : (p : Nat) ∉ l ++ k := (List.nodup_cons.1 (List.nodup_middle.1 (hlk ▸ List.nodup_range))).1
  have hother : ∀ r ∈ l ++ k, r < 16 ∧ r ≠ (p : Nat) := fun r hr =>
    ⟨List.mem_range.1 (hlk ▸ List.perm_middle.mem_iff.2 (.tail _ hr)), fun h => hnotin (h ▸ hr)⟩
  have hbefore : l.foldl f s = s := foldl_of_idle fun r hr =>
    have ⟨hlt, hne⟩ := hother r (List.mem_append_left k hr)
    hs r hlt hne
  have hafter : k.foldl f (f s p) = f s p := foldl_of_idle fun r hr =>
    have ⟨hlt, hne⟩ := hother r (List.mem_append_right l hr)
    ht r hlt hne
  rw [hlk, List.foldl_append, List.foldl_cons, hbefore, hafter]

end

end Sys2Proof.Machine
end

section
/-! SUPPORT. The start of a chain port, its upstream lane's block lock and the loss of that lane (R145, R149, R150). -/

namespace Sys2Proof.Machine

/- The block-lock machine under valid headers (R145). -/

/-- A valid header never ends block lock. -/
theorem LockState.isLocked_run_locked (m w b : Nat) :
    ((LockState.locked w b).run (List.replicate m (false, true))).isLocked = true := by
  induction m generalizing w b with
  | zero => rfl
  | succ m ih =>
    change LockState.isLocked (LockState.run (if w + 1 == 64 then .locked 0 0 else .locked (w + 1) b) _) = true
    split
    · exact ih 0 0
    · exact ih (w + 1) b

/-- The 64th valid header in a row gives block lock. -/
theorem LockState.isLocked_run_test {m n : Nat} (hn : n < 64) (hm : 64 ≤ n + m) :
    ((LockState.test n).run (List.replicate m (false, true))).isLocked = true := by
  induction m generalizing n with
  | zero => omega
  | succ m ih =>
    change LockState.isLocked (LockState.run (if n + 1 == 64 then .locked 0 0 else .test (n + 1)) _) = true
    split
    · exact isLocked_run_locked m 0 0
    next h => exact ih (by simp at h; omega) (by omega)

section
variable {s : State} {p : Nat}

/- The start of a port (R150, R172). -/

theorem State.startPort_only : Only [.ports, .out] s (s.startPort p) := State.startPort_keeps.only_parts rfl

/-- A started port is not up, has no lock, nothing queued and its streams at 0. -/
theorem State.port_startPort (hp : p < s.ports.length) : let r := (s.startPort p).port p
    r.clock = true ∧ r.blocks = false ∧ r.up = false ∧ r.lock = false ∧ r.aligned = false ∧ r.clkTick = s.ticks ∧ r.queue = [] ∧ r.seqAll = 0 ∧
    r.driveOk = false := by
  unfold State.startPort
  split
  · dsimp only
    rw [State.port_modPort_same hp]
    simp
  · dsimp only
    rw [State.port_modPort_same (s := s.send _) hp]
    simp

/-- A port that has not come up in time: it has failed, which is recorded unless it has been since the port was last up. -/
def State.portFailed (s : State) (p : Nat) : State := s.modPort p fun q => { q with failed := true, downSeen := true }

theorem State.port_portFailed (hp : p < s.ports.length) : (s.portFailed p).port p = { s.port p with failed := true, downSeen := true } :=
  State.port_modPort_same hp

theorem execPortStartTimeout_of_due {p : Fin 16} (hc : (s.port p).clock = true) (hu : (s.port p).up = false) (hf : (s.port p).failed = false)
    (ht : (s.port p).clkTick + 6250000 ≤ s.ticks) : execPortStartTimeout p s =
      .next (if (s.port p).downSeen then s.portFailed p else (s.portFailed p).ev Ev.portDown [(p : Nat)]) :=
  if_pos (by simp [hc, hu, hf, State.past, msT, ht])

/- The upstream lane (R145, R149, R150). -/

theorem State.port_feedLock {n : Nat} {h : Bool × Bool} (hp : p < s.ports.length) : (s.feedLock p n h).port p =
    let l := (s.port p).lockSt.run (List.replicate n h); { s.port p with lockSt := l, lock := l.isLocked } := State.port_modPort_same hp

/-- 64 valid headers give a lane without block lock its lock (R145). -/
theorem State.port_feedLock_valid (hp : p < s.ports.length) (h : (s.port p).lockSt = .hunt ∨ ∃ n : Fin 64, (s.port p).lockSt = .test n) :
    (s.feedLock p 64 (false, true)).port p =
      { s.port p with lock := true, lockSt := (s.port p).lockSt.run (List.replicate 64 (false, true)) } := by
  have hlock : ((s.port p).lockSt.run (List.replicate 64 (false, true))).isLocked = true := by
    obtain h | ⟨n, h⟩ := h
    · rw [h]
      exact LockState.isLocked_run_test (m := 63) (n := 1) (by decide) (by decide)
    · rw [h]
      exact LockState.isLocked_run_test n.2 (Nat.le_add_left ..)
  rw [State.port_feedLock hp]
  simp only [hlock]

/-- A port whose upstream lane is lost, before its calibration is aborted and before it starts again. -/
def State.upCleared (s : State) (p : Nat) : State :=
  s.modPort p fun q => { q with lock := false, lockSt := .hunt, aligned := false, echo := false, up := false, missed := 0 }

/-- The calibration of a port that is down ends at once and leaves the rest of the port. -/
theorem State.port_abortCal_of_down (hp : p < s.ports.length) (hu : (s.port p).up = false) : ∃ cal cals next wait held,
    (s.abortCal p).port p = { s.port p with cal := cal, cals := cals, calNext := next, calWait := wait, calHeld := held } := by
  unfold State.abortCal
  dsimp only
  split
  · exact ⟨_, _, _, _, _, rfl⟩
  · split
    · exact ⟨_, _, _, _, _, rfl⟩
    · rw [if_pos (show (!(s.port p).up) = true by rw [hu]; rfl), State.port_modPort_same (by simpa using hp), State.port_modPort_same hp]
      exact ⟨_, _, _, _, _, rfl⟩

/-- The state as a port has lost its upstream lane, before it starts again. -/
def State.upLost (s : State) (p : Nat) : State := (s.upCleared p).abortCal p

theorem State.upLost_keeps : Keeps (partMask [.ports, .out]) s (s.upLost p) :=
  (State.modPort_keeps.mono rfl).andThen State.abortCal_keeps rfl

theorem State.upLost_portMayRun : (s.upLost p).portMayRun p = s.portMayRun p := by
  have hkeeps : Keeps _ s (s.upLost p) := State.upLost_keeps
  unfold State.portMayRun State.portOn State.rws
  rw [hkeeps.same .boot rfl, hkeeps.same .flt rfl, hkeeps.same .rws rfl]

theorem State.port_upLost (hp : p < s.ports.length) : let r := (s.upLost p).port p
    r.lock = false ∧ r.aligned = false ∧ r.up = false ∧ r.clkTick = (s.port p).clkTick ∧ r.clock = (s.port p).clock := by
  have hport : (s.upCleared p).port p = _ := State.port_modPort_same hp
  obtain ⟨_, _, _, _, _, habort⟩ := State.port_abortCal_of_down (s := s.upCleared p) (by simpa [State.upCleared] using hp) (congrArg Port.up hport)
  unfold State.upLost
  dsimp only
  rw [habort, hport]
  exact ⟨rfl, rfl, rfl, rfl, rfl⟩

theorem State.length_upLost : (s.upLost p).ports.length = s.ports.length := State.length_abortCal.trans State.length_modPort

theorem State.loseUp_eq : s.loseUp p = if (s.port p).up && s.portMayRun p then (s.upLost p).startPort p else s.upLost p := by
  rw [← State.upLost_portMayRun]
  rfl

theorem State.loseUp_of_up (hu : (s.port p).up = true) (hm : s.portMayRun p = true) : s.loseUp p = (s.upLost p).startPort p := by
  rw [State.loseUp_eq, hu, hm]
  rfl

theorem State.loseUp_of_stays (h : (s.port p).up = false ∨ s.portMayRun p = false) : s.loseUp p = s.upLost p :=
  State.loseUp_eq.trans (if_neg (by obtain h | h := h <;> simp [h]))

theorem State.port_loseUp (hp : p < s.ports.length) : let r := (s.loseUp p).port p
    r.lock = false ∧ r.aligned = false ∧ r.up = false ∧
    ((s.port p).up = true → s.portMayRun p = true → r.clkTick = s.ticks ∧ r.blocks = false) ∧
    (s.portMayRun p = false → r.clkTick = (s.port p).clkTick ∧ r.clock = (s.port p).clock) := by
  obtain ⟨-, hblocks, hup, hlock, haligned, htick, -⟩ := State.port_startPort (s := s.upLost p) (State.length_upLost.symm ▸ hp)
  obtain ⟨hlock', haligned', hup', htick', hclock'⟩ := State.port_upLost hp
  by_cases h : (s.port p).up = true ∧ s.portMayRun p = true
  · dsimp only
    rw [State.loseUp_of_up h.1 h.2]
    refine ⟨hlock, haligned, hup, fun _ _ => ⟨htick.trans State.upLost_keeps.lasting.ticks, hblocks⟩, fun hm => ?_⟩
    cases h.2.symm.trans hm
  · dsimp only
    rw [State.loseUp_of_stays (by simpa using not_and_or.1 h)]
    exact ⟨hlock', haligned', hup', fun hu hm => absurd ⟨hu, hm⟩ h, fun _ => ⟨htick', hclock'⟩⟩

end

/-- Settles O47: a start is `State.startPort`, a failed port `State.portFailed`, and a port without its upstream lane `State.upLost`, from
which one that was up starts again (log entry 68: a third marker missed in a row loses the lane without a count of a lost lock). -/
theorem chainPortStartAndLocks : Obligations.ChainPortStartAndLocks := by
  intro s p hp
  refine ⟨fun hm hc => if_pos (by simp [hm, hc]), fun h => if_neg ?_, ?_, fun hc hb ht => ?_, fun hc hu hf ht => ?_,
    fun hc hu hf hm ht => if_pos (by simp [hc, hu, hf, hm, State.past, msT, ht]), fun hc hl hst => ?_, fun hl => ?_,
    fun hl ha => ⟨fun hm => ?_, fun hm => ?_⟩, ?_⟩
  · obtain h | h := h <;> simp [h]
  · obtain ⟨hclock, hblocks, hup, hlock, -, htick, hqueue, hseq, hdrive⟩ := State.port_startPort hp
    exact ⟨hclock, hblocks, hup, hlock, htick, hqueue, hseq, hdrive, State.startPort_only⟩
  · have hexec : exec (.portBlocksStart p) s = _ := if_pos (by simp [hc, hb, State.past, usT, ht])
    exact ⟨_, hexec, State.port_modPort_same hp, (execPortBlocksStart_keeps _ hexec).only_parts rfl⟩
  · have hexec : exec (.portStartTimeout p) s = _ := execPortStartTimeout_of_due hc hu hf ht
    refine ⟨_, hexec, ?_, (execPortStartTimeout_keeps _ hexec).only_parts rfl, fun hd => ?_⟩
    · refine Eq.trans ?_ (State.port_portFailed hp)
      split
      · rfl
      · exact State.port_of_ports (State.ev_keeps.same .ports rfl)
    · rw [if_pos hd]
      exact State.modPort_keeps.only_parts rfl
  · have hexec : exec (.upstreamBlockLock p) s = _ := if_pos (by simp [hc, hl])
    refine ⟨_, hexec, ?_, ?_, (execUpstreamBlockLock_keeps _ hexec).only_parts rfl⟩ <;> rw [State.port_feedLock_valid hp hst]
  · refine ⟨((s.feedLock p 16 (false, false)).bump (Reg.upLockLoss p)).ev Ev.laneLockLost [(p : Nat), 0, 4], if_neg (by simp [hl]), ?_,
      (((State.feedLock_keeps.mono rfl).andThen State.bump_keeps rfl).andThen State.ev_keeps rfl : Keeps (partMask [.cnt, .evt, .ports]) _ _).only_parts rfl⟩
    rw [State.port_of_ports (State.ev_keeps.same .ports rfl), State.port_of_ports (State.bump_keeps.same .ports rfl), State.port_feedLock hp]
  · have hexec : exec (.alignMissed p) s = _ := (if_neg (by simp [hl, ha])).trans (if_pos hm)
    exact ⟨_, hexec, State.port_modPort_same hp, State.modPort_keeps.only_parts rfl⟩
  · exact (if_neg (by simp [hl, ha])).trans (if_neg (Nat.not_lt.2 hm))
  · exact State.port_loseUp hp

end Sys2Proof.Machine
end

section
/-! SUPPORT. Markers, BEACONs and baton claims on one port, the marker received, and electrical idle (R147 to R152, R178, R182, R194). -/

namespace Sys2Proof.Machine

section
variable {s : State} {p r : Nat}

/- A marker sent (R147, R152). -/

theorem State.sendMark_out {n : Nat} {echo : Bool} {at_ : Int} : (s.sendMark p n echo at_).out =
    s.out ++ [.chainAlign p ((s.blockLanes p).map fun k => (k, (Ctl.align k (s.inUse p) ((s.port p).sums.getD k .reset).value
      (nbit (s.port p).bipBad k) echo n).block.payload))] := rfl

theorem State.port_sendMark (hp : p < s.ports.length) {n : Nat} {echo : Bool} {at_ : Int} : ∃ marks bad sums next,
    (s.sendMark p n echo at_).port p = { s.port p with marks := marks, bipBad := bad, sums := sums, sumsNext := next } :=
  ⟨_, _, _, _, State.port_modPort_same hp⟩

/-- A port whose marker of this block time is dealt with. -/
def State.markPassed (s : State) (p : Nat) : State := s.modPort p fun q => { q with markBlk := q.markBlk + 16384 }

theorem State.port_markPassed (hp : p < s.ports.length) : (s.markPassed p).port p = { s.port p with markBlk := (s.port p).markBlk + 16384 } :=
  State.port_modPort_same hp

/-- A marker passed, sent with the next count. -/
def State.markSent (s : State) (p : Nat) (at_ : Int) : State :=
  ((s.markPassed p).sendMark p (s.port p).mark false at_).modPort p fun q => { q with mark := (q.mark + 1) % 65536 }

theorem State.markSent_out (hp : p < s.ports.length) {at_ : Int} : (s.markSent p at_).out =
    s.out ++ [.chainAlign p ((s.blockLanes p).map fun k => (k, (Ctl.align k (s.inUse p) ((s.port p).sums.getD k .reset).value
      (nbit (s.port p).bipBad k) false (s.port p).mark).block.payload))] := by
  have hport : (s.markPassed p).port p = _ := State.port_markPassed hp
  have hlanes : (s.markPassed p).blockLanes p = s.blockLanes p := by
    unfold State.blockLanes
    rw [hport]
    rfl
  have huse : (s.markPassed p).inUse p = s.inUse p := by
    unfold State.inUse
    rw [State.blockNow_congr (t := s.markPassed p) (s := s) rfl (by rw [hport]), hport]
  refine (State.sendMark_out (at_ := at_)).trans ?_
  rw [hlanes, huse, hport]
  rfl

theorem State.port_markSent (hp : p < s.ports.length) {at_ : Int} :
    ((s.markSent p at_).port p).markBlk = (s.port p).markBlk + 16384 ∧ ((s.markSent p at_).port p).mark = ((s.port p).mark + 1) % 65536 := by
  obtain ⟨_, _, _, _, hsent⟩ := State.port_sendMark (s := s.markPassed p) (p := p) (n := (s.port p).mark) (echo := false) (at_ := at_)
    (by simpa [State.markPassed] using hp)
  unfold State.markSent
  rw [State.port_modPort_same (by simpa [State.sendMark, State.markPassed, State.send] using hp), hsent, State.port_markPassed hp]
  exact ⟨rfl, rfl⟩

theorem State.alignPort_of_early (h : (s.port p).blocks = false ∨ s.blockNow p < (s.port p).markBlk) : s.alignPort p = s :=
  if_pos (by obtain h | h := h <;> simp [h])

theorem State.alignPort_of_idle (hb : (s.port p).blocks = true) (hm : (s.port p).markBlk ≤ s.blockNow p) (hi : (s.port p).idle = true) :
    s.alignPort p = s.markPassed p :=
  (if_neg (by simp [hb, hm])).trans (if_pos (by simp [hi]))

theorem State.alignPort_of_due (hb : (s.port p).blocks = true) (hm : (s.port p).markBlk ≤ s.blockNow p) (hi : (s.port p).idle = false)
    (hf : s.follows p = false) : ∃ at_, s.alignPort p = s.markSent p at_ := by
  have hf' : ((s.port p).idle || (s.markPassed p).follows p) = false := Bool.or_eq_false_iff.2 ⟨hi, hf⟩
  unfold State.alignPort
  extract_lets q at_ u
  exact ⟨at_, (if_neg (by simp [q, hb, hm])).trans (if_neg (Bool.eq_false_iff.1 hf'))⟩

theorem State.alignPort_other (h : r ≠ p) : (s.alignPort p).port r = s.port r := by
  unfold State.alignPort
  extract_lets q at_ u
  split
  · rfl
  · split
    · exact State.port_modPort_other h
    · exact ((State.port_modPort_other h).trans (State.port_modPort_other h)).trans (State.port_modPort_other h)

/-- Where no other port has a marker due, ALIGN_SEND is one port's. -/
theorem execAlignSend_of_one {p : Fin 16}
    (h : ∀ r, r < 16 → r ≠ (p : Nat) → (s.port r).blocks = false ∨ s.blockNow r < (s.port r).markBlk) :
    execAlignSend s = .next (s.alignPort p) := by
  refine congrArg Host.Outcome.next (foldl_range_of_others_idle (fun r hr hne => State.alignPort_of_early (h r hr hne)) fun r hr hne =>
    State.alignPort_of_early ?_)
  have hport : (s.alignPort p).port r = s.port r := State.alignPort_other hne
  rw [State.blockNow_congr (State.alignPort_keeps.same .tb rfl) (congrArg Port.blk0 hport), hport]
  exact h r hr hne

/- A BEACON (R178). -/

theorem State.beaconPort_of_early (h : (s.port p).blocks = false ∨ s.ticks < (s.port p).beatTick + 59375) : s.beaconPort p = s :=
  if_neg (by
    obtain h | h := h
    · simp [h]
    · simp [State.past, usT, Nat.not_le.2 h])

theorem State.beaconPort_of_due (hb : (s.port p).blocks = true) (ho : s.portOn p = true) (hs : s.silent p = false)
    (ht : (s.port p).beatTick + 59375 ≤ s.ticks) : s.beaconPort p = s.beacon p :=
  if_pos (by simp [hb, ho, hs, State.past, usT, ht])

theorem State.beaconPort_other (h : r ≠ p) : (s.beaconPort p).port r = s.port r := by
  unfold State.beaconPort
  extract_lets q
  split
  · exact (State.port_modPort_other h).trans (State.port_modPort_other h)
  · rfl

/-- Where no other port has a BEACON due, BEACON_SEND is one port's. -/
theorem execBeaconSend_of_one {p : Fin 16}
    (h : ∀ r, r < 16 → r ≠ (p : Nat) → (s.port r).blocks = false ∨ s.ticks < (s.port r).beatTick + 59375) :
    execBeaconSend s = .next (s.beaconPort p) := by
  refine congrArg Host.Outcome.next (foldl_range_of_others_idle (fun r hr hne => State.beaconPort_of_early (h r hr hne)) fun r hr hne =>
    State.beaconPort_of_early ?_)
  rw [State.beaconPort_other hne, State.beaconPort_keeps.lasting.ticks]
  exact h r hr hne

/- A baton claim (R194). -/

/-- Whether the unit's claim of a port has ended: every tile names this unit, or the port is split. -/
def State.claimEnded (s : State) (p : Nat) : Bool := ((s.onPort p).all fun t => t.holder == some s.cfg.devNum) || (s.rport p).split

theorem State.claimPort_of_none (h : (s.port p).claim = none) : s.claimPort p = s := by
  unfold State.claimPort
  rw [h]

theorem State.claimPort_of_due {k : Nat} (h : (s.port p).claim = some k) (ht : k + 62500 ≤ s.ticks) : s.claimPort p =
    if s.claimEnded p then s.modPort p fun q => { q with claim := none }
    else (s.queueFrame p (allFrame .baton 0 batonBody)).modPort p fun q => { q with claim := some s.ticks } := by
  unfold State.claimPort
  rw [h]
  exact if_neg (by simp [State.past, usT, ht])

theorem State.claimPort_other (h : r ≠ p) : (s.claimPort p).port r = s.port r := by
  unfold State.claimPort
  split
  · rfl
  · split_ifs
    · rfl
    · exact State.port_modPort_other h
    · exact (State.port_modPort_other h).trans (State.port_modPort_other h)

/-- Where no other port has a claim outstanding, BATON_CLAIM_REPEAT is one port's. -/
theorem execBatonClaimRepeat_of_one {p : Fin 16} (h : ∀ r, r < 16 → r ≠ (p : Nat) → (s.port r).claim = none) :
    execBatonClaimRepeat s = .next (s.claimPort p) :=
  congrArg Host.Outcome.next (foldl_range_of_others_idle (fun r hr hne => State.claimPort_of_none (h r hr hne)) fun r hr hne =>
    State.claimPort_of_none ((congrArg Port.claim (State.claimPort_other hne)).trans (h r hr hne)))

/- A marker received (R148 to R150, R182). -/

/-- A marker taken on a port's upstream lane, before its ECHO is judged. -/
def State.markTaken (s : State) (p : Nat) (bip : Bool) : State :=
  let rx := if (s.port p).aligned then (s.port p).rx else (s.port p).rx.map fun r => { r with fresh := true }
  State.modPort (if bip then s.bump (Reg.upBipErrors p) else s) p fun q => { q with aligned := true, missed := 0, rx := rx }

theorem State.markTaken_keeps {bip : Bool} : Keeps (partMask [.cnt, .ports]) s (s.markTaken p bip) :=
  (Keeps.ite (fun _ => State.bump_keeps.mono rfl) fun _ => Keeps.refl).andThen State.modPort_keeps rfl

theorem State.port_markTaken {bip : Bool} (hp : p < s.ports.length) :
    ((s.markTaken p bip).port p).aligned = true ∧ ((s.markTaken p bip).port p).missed = 0 := by
  unfold State.markTaken
  rw [State.port_modPort_same (by cases bip <;> exact hp)]
  exact ⟨rfl, rfl⟩

/-- Whether a marker's ECHO answers one of the port's own last markers (log entry 67). -/
def State.echoes (s : State) (p n : Nat) (echo : Bool) : Bool := echo && (s.port p).marks.any fun m => m.1 == n

/-- A marker taken, its round trip as well where its ECHO answers one. -/
def State.markJudged (s : State) (p : Nat) (bip ok : Bool) (rt : Nat) : State :=
  if ok then (s.markTaken p bip).takeRt0 p rt else s.markTaken p bip

theorem execUpAlignRx_of_own {p : Fin 16} {n : BitVec 16} {echo bip ok : Bool} {rt : Nat} (hl : (s.port p).lock = true)
    (hf : s.follows p = false) (hok : s.echoes p n.toNat echo = ok) : execUpAlignRx p n echo bip rt s =
      if (s.port p).up then .next (if ok then s.markJudged p bip ok rt else (s.markJudged p bip ok rt).loseUp p)
      else if ok && (s.port p).blocks then .next ((s.markJudged p bip ok rt).portUp p)
      else .next (s.markJudged p bip ok rt) := by
  unfold execUpAlignRx
  refine (if_neg (by simp [hl])).trans ?_
  extract_lets u rx x follow y ok' z
  have hfollow : follow = false := by
    unfold follow x u
    cases bip <;> exact hf
  have hok' : ok' = ok := by
    unfold ok'
    rw [hfollow]
    exact hok
  have hz : z = s.markJudged p bip ok rt := by
    unfold z y
    rw [hok', hfollow, Bool.false_and, Bool.not_false, Bool.and_true]
    rfl
  rw [hok', hz]

/-- A port that comes up is up and has not failed, before a census that waits for it begins. -/
theorem State.portUp_eq (hp : p < s.ports.length) : ∃ x : State, s.portUp p = x.startWaiting p ∧ (x.port p).up = true ∧ (x.port p).failed = false ∧
    Keeps (partMask [.cnt, .evt, .flt, .ports, .tiles]) s x := by
  unfold State.portUp
  extract_lets x u ts v w
  have hx : x.port p = _ := State.port_modPort_same hp
  have hv : v.port p = x.port p := State.port_of_ports (State.unitRuns_keeps.same .ports rfl)
  have hkeeps : Keeps (partMask [.cnt, .evt, .flt, .ports, .tiles]) s v :=
    ((State.modPort_keeps.mono rfl).andThen State.unitRuns_keeps rfl).andThen Keeps.tiles rfl
  refine ⟨w, rfl, ?_⟩
  unfold w
  split
  · have hlen : v.ports = x.ports := State.unitRuns_keeps.same .ports rfl
    rw [State.port_modPort_same (by rw [hlen]; simpa [x] using hp), hv, hx]
    exact ⟨rfl, rfl, hkeeps.andThen State.modPort_keeps rfl⟩
  · rw [hv, hx]
    exact ⟨rfl, rfl, hkeeps⟩

/- Electrical idle (R151, R152). -/

/-- Whether a port may enter electrical idle. -/
def State.mayIdle (s : State) (p : Nat) : Prop :=
  wbit (s.rws (Reg.portCfg p)) 8 = true ∧ (s.port p).up = true ∧ (s.port p).idle = false ∧ (s.port p).exitBlk = none ∧ (s.port p).cal = none ∧
  (s.port p).busy ≤ s.blockNext p ∧ s.hasFrames p = false ∧ s.idleFor p (s.idleMin p) = true

theorem execIdleEntry_of_may {p : Fin 16} (h : s.mayIdle p) :
    execIdleEntry p s = .next ((s.send (.chainIdle p true)).modPort p fun q => { q with idle := true }) := by
  obtain ⟨hcfg, hup, hidle, hexit, hcal, hbusy, hframes, hfor⟩ := h
  exact if_pos (by simp [hcfg, hup, hidle, hexit, hcal, hbusy, hframes, hfor])

theorem execIdleEntry_of_not_may {p : Fin 16} (h : ¬s.mayIdle p) : execIdleEntry p s = .next s :=
  if_neg fun hok => h (by simpa [State.mayIdle, and_assoc] using hok)

/-- The TRAIN burst with which a port leaves electrical idle. -/
def State.idleLeft (s : State) (p : Nat) : State := ((s.send (.chainIdle p false)).bump (Reg.idleExits p)).sendTrain p 15

theorem State.idleLeft_out : (s.idleLeft p).out = s.out ++ [.chainIdle p false, .chainTrain p 15
    ((trainCounts (s.blockNext p) (s.port p).markBlk).map fun n => (Ctl.train n).block.payload)] := List.append_assoc ..

theorem State.port_idleLeft (hp : p < s.ports.length) : (s.idleLeft p).port p = { s.port p with bipBad := (s.port p).bipBad ||| 15 } :=
  State.port_modPort_same hp

theorem execIdleExit_of_due {p : Fin 16} (hp : p < s.ports.length) (hi : (s.port p).idle = true)
    (h : s.hasFrames p = true ∨ s.idleFor p 1 = false) : execIdleExit p s =
      .next ((s.idleLeft p).modPort p fun q => { q with idle := false, exitBlk := some (s.blockNext p + 64) }) := by
  have hnext : (s.idleLeft p).blockNext p = s.blockNext p := State.blockNext_congr rfl (by rw [State.port_idleLeft hp])
  rw [← hnext]
  exact if_pos (by obtain h | h := h <;> simp [hi, h])

end

/-- Settles O48: a due marker is `State.markSent`, a marker received `State.markTaken` and `State.markJudged`, a burst that ends electrical
idle `State.idleLeft`, and a scan of the ports with one thing due is that port's own (log entry 67 for the markers whose ECHO counts, 70
for when a claim ends, 124 for the count kept in electrical idle). -/
theorem markersIdleBeaconsAndClaims : Obligations.MarkersIdleBeaconsAndClaims := by
  intro s p hp
  refine ⟨fun hrest hb hm hf => ?_, fun hrest hb ho hs ht => ?_, fun hrest k hk ht => ?_,
    fun n echo bip rt => ⟨fun hl => if_pos (by simp [hl]), fun hl hf => ?_⟩, ?_, ⟨execIdleEntry_of_not_may, fun hmay => ?_⟩, fun hi h => ?_⟩
  · have hexec : exec .alignSend s = .next (s.alignPort p) := execAlignSend_of_one hrest
    refine ⟨_, hexec, ?_⟩
    cases hi : (s.port p).idle with
    | true =>
      have hport := State.port_markPassed hp
      rw [State.alignPort_of_idle hb hm hi, hport]
      exact ⟨rfl, State.modPort_keeps.only_parts rfl, nofun, fun _ => ⟨rfl, rfl⟩⟩
    | false =>
      obtain ⟨at_, hsent⟩ := State.alignPort_of_due hb hm hi hf
      obtain ⟨hblk, hmark⟩ := State.port_markSent (at_ := at_) hp
      refine ⟨hsent ▸ hblk, State.alignPort_keeps.only_parts rfl, fun _ => ?_, nofun⟩
      rw [hsent]
      exact ⟨State.markSent_out hp, hmark⟩
  · exact (execBeaconSend_of_one hrest).trans (congrArg _ (State.beaconPort_of_due hb ho hs ht))
  · have hexec : exec .batonClaimRepeat s = .next (s.claimPort p) := execBatonClaimRepeat_of_one hrest
    refine ⟨_, hexec, State.claimPort_keeps.only_parts rfl, fun h => ?_, fun hheld hsplit => ?_⟩
    · rw [State.claimPort_of_due hk ht, if_pos (by obtain h | h := h <;> simp [State.claimEnded, h])]
      exact State.port_modPort_same hp
    · rw [State.claimPort_of_due hk ht, if_neg (by simp [State.claimEnded, hheld, hsplit]),
        State.port_modPort_same (by simpa [State.queueFrame] using hp), State.port_queueFrame hp]
      exact ⟨rfl, _, rfl, rfl, rfl⟩
  · obtain ⟨haligned, hmissed⟩ := State.port_markTaken (bip := bip) hp
    have hexec : ∀ {ok}, s.echoes p n.toNat echo = ok → exec (.upAlignRx p n echo bip rt) s = _ := execUpAlignRx_of_own hl hf
    refine ⟨s.markTaken p bip, haligned, hmissed, State.markTaken_keeps.only_parts rfl, fun hok hu => ?_,
      fun hok hu => ?_, fun hok hu hb => ?_, fun hok hu => ?_⟩
    · exact (hexec hok).trans (if_pos hu)
    · exact (hexec hok).trans (if_pos hu)
    · exact (hexec hok).trans ((if_neg (by simp [hu])).trans (if_pos (by simp [hb])))
    · exact (hexec hok).trans ((if_neg (by simp [hu])).trans (if_neg (by simp)))
  · obtain ⟨x, hx, hup, hfailed, hkeeps⟩ := State.portUp_eq hp
    exact ⟨x, hx, hup, hfailed, hkeeps.only_parts rfl⟩
  · have hexec : exec (.idleEntry p) s = _ := execIdleEntry_of_may hmay
    exact ⟨_, hexec, rfl, State.port_modPort_same hp, (execIdleEntry_keeps _ hexec).only_parts rfl⟩
  · have hexec : exec (.idleExit p) s = _ := execIdleExit_of_due hp hi h
    refine ⟨_, hexec, State.idleLeft_out, ?_, rfl, (execIdleExit_keeps _ hexec).only_parts rfl⟩
    rw [State.port_modPort_same (by simpa [State.idleLeft] using hp), State.port_idleLeft hp]

end Sys2Proof.Machine
end

section
/-! SUPPORT. The calibration of a lane (R153 to R157, R168): its announcement, the lane out of the stripe, the end of its pattern, the lane
restored, and the report awaited. -/

namespace Sys2Proof.Machine

section
variable {s : State} {p : Nat} {c : CalRun}

/- The start (R154 to R156). -/

/-- A calibration in a phase that begins at a block time. -/
def CalRun.inPhase (c : CalRun) (ph : CalPhase) (blk tick : Nat) : CalRun := { c with phase := ph, blk := blk, tick := tick }

/-- Once a port's round is due, its calibration is the first of: the round's end, a lane passed over, a wait, and an announcement. -/
theorem execCalStart_of_due {p : Fin 16} (hu : (s.port p).up = true) (hc : (s.port p).cal = none) (ht : (s.port p).calTick ≤ s.ticks)
    (hn : 5 * s.calHops p ≠ 0) (hs : ((s.port p).calStart || (s.port p).driveOk || s.standsBy p) = true) :
    execCalStart p s = let q := s.port p; let h := q.calTurn.1; let k := q.calTurn.2
      if 5 * s.calHops p ≤ q.calNext then .next (s.endRound p)
      else if k != 4 && (!(nbit q.lanes k) || q.drops.any (·.1 == k)) then .next (s.nextTurn p)
      else if s.tl.on && q.calHeld == some s.tl.next then .next s
      else if !(s.calFree p) then .next (s.calWaits p h k)
      else .next (s.calAnnounce p h k) := by
  refine if_neg ?_
  rw [hu, hc, hs, beq_false_of_ne hn]
  simp [ht]

theorem State.port_calAnnounce {h k : Nat} (hp : p < s.ports.length) : (s.calAnnounce p h k).port p =
    { s.port p with cal := some ⟨h, k, .announced, s.blockNext p, s.ticks, false, false⟩, sums := ((s.calAnnounce p h k).port p).sums } := by
  have hport := (State.port_modPort_same (s := s.sendLocal p (if k == 4 then .upCal h 64 else .laneDrop k 64 h 1)) (p := p)
    (f := fun q => { q with cal := some ⟨h, k, .announced, s.blockNext p, s.ticks, false, false⟩ }) (by simpa using hp))
  obtain ⟨sums, hlocal⟩ := State.port_sendLocal (c := if k == 4 then .upCal h 64 else .laneDrop k 64 h 1) hp
  rw [hlocal] at hport
  unfold State.calAnnounce
  rw [hport]

theorem State.calAnnounce_out {h k : Nat} : (s.calAnnounce p h k).out =
    s.out ++ [.chainBlock p (if k = 4 then Ctl.upCal h 64 else Ctl.laneDrop k 64 h 1).block.payload] := by
  rw [← if_congr (beq_iff_eq (a := k) (b := 4)) rfl rfl]
  rfl

/- The lane taken out of the stripe (R155, R168). -/

/-- The state as an announced change takes effect: the pattern begins, on hop 0 on the port's own lane. -/
def State.laneDropped (s : State) (p : Nat) (c : CalRun) : State :=
  State.modPort (if c.hop == 0 && c.lane != 4 && !c.aborted then s.send (.chainPattern p c.lane) else s) p fun q =>
    { q with cal := some (c.inPhase .pattern (s.blockNow p) s.ticks), lanes := if c.lane == 4 then q.lanes else clrBit q.lanes c.lane }

theorem execCalDropChange_of_due {p : Fin 16} (hc : (s.port p).cal = some c) (hph : c.phase = .announced)
    (hb : c.blk + 64 ≤ s.blockNow p) : execCalDropChange p s = .next (if c.aborted then
      (s.laneDropped p c).restoreLane p (c.inPhase .pattern (s.blockNow p) s.ticks) else s.laneDropped p c) := by
  unfold execCalDropChange State.laneDropped
  rw [hc]
  refine (if_neg (by simp [hph, hb])).trans ?_
  cases (c.hop == 0 && c.lane != 4 && !c.aborted) <;> rfl

theorem State.port_laneDropped (hp : p < s.ports.length) : (s.laneDropped p c).port p = { s.port p with
    cal := some (c.inPhase .pattern (s.blockNow p) s.ticks)
    lanes := if c.lane = 4 then (s.port p).lanes else clrBit (s.port p).lanes c.lane } := by
  unfold State.laneDropped
  rw [State.port_modPort_same (by split <;> exact hp)]
  simp only [beq_iff_eq]
  split <;> rfl

theorem State.length_laneDropped : (s.laneDropped p c).ports.length = s.ports.length := by
  unfold State.laneDropped
  rw [State.length_modPort]
  split <;> rfl

theorem State.laneDropped_keeps : Keeps (partMask [.ports, .out]) s (s.laneDropped p c) :=
  (Keeps.ite (fun _ => State.send_keeps.mono rfl) fun _ => Keeps.refl).andThen State.modPort_keeps rfl

theorem State.laneDropped_out (ha : c.aborted = false) : (s.laneDropped p c).out =
    s.out ++ (if c.hop = 0 ∧ c.lane ≠ 4 then [.chainPattern p c.lane] else []) := by
  unfold State.laneDropped
  by_cases h : c.hop = 0 ∧ c.lane ≠ 4
  · rw [if_pos h, if_pos (by simpa [ha] using h)]
    rfl
  · rw [if_neg h, if_neg (by simpa [ha] using h), List.append_nil]
    rfl

/- The pattern's end (R155, R168). -/

/-- A downstream lane announced for restoring, on hop 0 after a TRAIN burst on it. -/
def State.restoreAnnounced (s : State) (p : Nat) (c : CalRun) : State :=
  (if c.hop == 0 then s.sendTrain p (2 ^ c.lane) else s).sendLocal p (.laneRestore c.lane 64)

theorem State.port_restoreAnnounced (hp : p < s.ports.length) : ∃ sums bad,
    (s.restoreAnnounced p c).port p = { s.port p with sums := sums, bipBad := bad } := by
  unfold State.restoreAnnounced
  split
  · obtain ⟨sums, hlocal⟩ := State.port_sendLocal (s := s.sendTrain p (2 ^ c.lane)) (c := .laneRestore c.lane 64) (by simpa using hp)
    exact ⟨_, _, hlocal.trans (by rw [State.port_sendTrain hp])⟩
  · obtain ⟨sums, hlocal⟩ := State.port_sendLocal (c := .laneRestore c.lane 64) hp
    exact ⟨_, _, hlocal⟩

theorem State.restoreAnnounced_keeps : Keeps (partMask [.ports, .out]) s (s.restoreAnnounced p c) :=
  (Keeps.ite (fun _ => State.sendTrain_keeps.mono rfl) fun _ => Keeps.refl).andThen State.sendLocal_keeps rfl

theorem State.length_restoreAnnounced : (s.restoreAnnounced p c).ports.length = s.ports.length := by
  unfold State.restoreAnnounced
  split <;> simp

theorem State.restoreAnnounced_out : ∃ o, (s.restoreAnnounced p c).out =
    s.out ++ (if c.hop = 0 then [.chainTrain p (2 ^ c.lane) o] else []) ++ [.chainBlock p (Ctl.laneRestore c.lane 64).block.payload] := by
  unfold State.restoreAnnounced
  by_cases h : c.hop = 0
  · simp only [h, if_true]
    exact ⟨_, rfl⟩
  · simp only [h, if_false, beq_iff_eq, List.append_nil]
    exact ⟨[], rfl⟩

theorem State.restoreLane_of_upstream (hk : c.lane = 4) : s.restoreLane p c =
    s.modPort p fun q => { q with cal := some (c.inPhase .restoring (s.blockNext p) s.ticks) } := by
  unfold State.restoreLane
  rw [if_pos (by simpa using hk)]
  rfl

theorem State.restoreLane_of_downstream (hp : p < s.ports.length) (hk : c.lane ≠ 4) : s.restoreLane p c =
    (s.restoreAnnounced p c).modPort p fun q => { q with cal := some (c.inPhase .restoring (s.blockNext p) s.ticks) } := by
  have hkeeps : Keeps _ s (s.restoreAnnounced p c) := State.restoreAnnounced_keeps
  obtain ⟨_, _, hport⟩ := State.port_restoreAnnounced (c := c) hp
  rw [← State.blockNext_congr (hkeeps.same .tb rfl) (by rw [hport]), ← hkeeps.lasting.ticks]
  unfold State.restoreLane
  rw [if_neg (by simpa using hk)]
  rfl

/-- A lane being restored leaves of its port the lanes in the stripe and all else but what its blocks and its burst count. -/
theorem State.port_restoreLane (hp : p < s.ports.length) : ∃ sums bad, (s.restoreLane p c).port p =
    { s.port p with cal := some (c.inPhase .restoring (s.blockNext p) s.ticks), sums := sums, bipBad := bad } := by
  by_cases hk : c.lane = 4
  · rw [State.restoreLane_of_upstream hk, State.port_modPort_same hp]
    exact ⟨_, _, rfl⟩
  · obtain ⟨_, _, hport⟩ := State.port_restoreAnnounced (c := c) hp
    rw [State.restoreLane_of_downstream hp hk, State.port_modPort_same (State.length_restoreAnnounced.symm ▸ hp), hport]
    exact ⟨_, _, rfl⟩

/-- A result shown is one entry of its port's. -/
theorem State.calResult_ports {h k : Nat} {eye : Option (Nat × Nat)} : ∃ r,
    (s.calResult p h k eye).ports = (s.modPort p fun q => q.setCal h k r).ports := by
  unfold State.calResult
  extract_lets cfg
  split
  · exact ⟨_, (State.ev_keeps.same .ports rfl).trans (State.bump_keeps.same .ports rfl)⟩
  · extract_lets qual
    split
    · exact ⟨_, rfl⟩
    · exact ⟨_, State.ev_keeps.same .ports rfl⟩

theorem execCalPatternEnd_of_due {p : Fin 16} {eye : Option (Nat × Nat)} {ctle : Fin 16} {ph : Fin 64} (hc : (s.port p).cal = some c)
    (hph : c.phase = .pattern) (hb : c.blk + 7758 ≤ s.blockNow p) (h : c.lane ≠ 4 ∨ c.hop ≠ 0) :
    execCalPatternEnd p eye ctle ph s = .next (s.restoreLane p c) := by
  unfold execCalPatternEnd
  rw [hc]
  exact (if_neg (by simp [hph, hb])).trans (if_neg (by simpa [← not_and_or] using h))

/-- The eye of the port's own upstream lane judged, and its trim taken where there is one. -/
def State.eyeTaken (s : State) (p : Nat) (eye : Option (Nat × Nat)) (ctle : Fin 16) (ph : Fin 64) : State :=
  if eye.isSome then (s.calResult p 0 4 eye).modPort p fun q => { q with upCtle := ctle, upPhase := ph } else s.calResult p 0 4 eye

theorem execCalPatternEnd_of_own {p : Fin 16} {eye : Option (Nat × Nat)} {ctle : Fin 16} {ph : Fin 64} (hc : (s.port p).cal = some c)
    (hph : c.phase = .pattern) (hb : c.blk + 7758 ≤ s.blockNow p) (hk : c.lane = 4) (hh : c.hop = 0) :
    execCalPatternEnd p eye ctle ph s = .next ((s.eyeTaken p eye ctle ph).restoreLane p { c with got := true }) := by
  unfold execCalPatternEnd
  rw [hc]
  exact (if_neg (by simp [hph, hb])).trans (if_pos (by simp [hk, hh]))

theorem State.eyeTaken_keeps {eye : Option (Nat × Nat)} {ctle : Fin 16} {ph : Fin 64} :
    Keeps (partMask [.ports]) (s.calResult p 0 4 eye) (s.eyeTaken p eye ctle ph) :=
  Keeps.ite (fun _ => State.modPort_keeps.mono rfl) fun _ => Keeps.refl

theorem State.length_eyeTaken {eye : Option (Nat × Nat)} {ctle : Fin 16} {ph : Fin 64} :
    (s.eyeTaken p eye ctle ph).ports.length = s.ports.length := by
  obtain ⟨r, hr⟩ := State.calResult_ports (s := s) (p := p) (h := 0) (k := 4) (eye := eye)
  unfold State.eyeTaken
  split <;> simp [hr]

theorem State.port_eyeTaken {eye : Option (Nat × Nat)} {ctle : Fin 16} {ph : Fin 64} (hp : p < s.ports.length) :
    ((s.eyeTaken p eye ctle ph).port p).blk0 = (s.port p).blk0 ∧ (eye.isSome = true →
      ((s.eyeTaken p eye ctle ph).port p).upCtle = ctle ∧ ((s.eyeTaken p eye ctle ph).port p).upPhase = ph) := by
  obtain ⟨r, hr⟩ := State.calResult_ports (s := s) (p := p) (h := 0) (k := 4) (eye := eye)
  have hport : (s.calResult p 0 4 eye).port p = (s.port p).setCal 0 4 r := (State.port_of_ports hr).trans (State.port_modPort_same hp)
  unfold State.eyeTaken
  split
  · rw [State.port_modPort_same (by rw [hr]; simpa using hp), hport]
    exact ⟨rfl, fun _ => ⟨rfl, rfl⟩⟩
  next h =>
    rw [hport]
    exact ⟨rfl, fun he => absurd he h⟩

theorem State.eyeTaken_blockNext {eye : Option (Nat × Nat)} {ctle : Fin 16} {ph : Fin 64} (hp : p < s.ports.length) :
    (s.eyeTaken p eye ctle ph).blockNext p = s.blockNext p :=
  State.blockNext_congr ((State.eyeTaken_keeps.same .tb rfl).trans (State.calResult_keeps.same .tb rfl)) (State.port_eyeTaken hp).1

theorem State.eyeTaken_ticks {eye : Option (Nat × Nat)} {ctle : Fin 16} {ph : Fin 64} : (s.eyeTaken p eye ctle ph).ticks = s.ticks :=
  State.eyeTaken_keeps.lasting.ticks.trans State.calResult_keeps.lasting.ticks

/- The lane restored, and its report (R155, R157). -/

/-- A downstream lane back in the stripe; the own upstream lane was never out of it. -/
def State.laneRestored (s : State) (p : Nat) (c : CalRun) : State :=
  if c.lane == 4 then s
  else s.modPort p fun q => { q with lanes := setBit q.lanes c.lane, bipBad := setBit q.bipBad c.lane, restored := some (c.hop, c.lane) }

theorem State.laneRestored_keeps : Keeps (partMask [.ports]) s (s.laneRestored p c) :=
  Keeps.ite (fun _ => Keeps.refl) fun _ => State.modPort_keeps.mono rfl

theorem State.port_laneRestored (hp : p < s.ports.length) : (s.laneRestored p c).port p = if c.lane = 4 then s.port p else
    { s.port p with lanes := setBit (s.port p).lanes c.lane, bipBad := setBit (s.port p).bipBad c.lane, restored := some (c.hop, c.lane) } := by
  unfold State.laneRestored
  by_cases hk : c.lane = 4
  · rw [if_pos hk, if_pos (by simpa using hk)]
  · rw [if_neg hk, if_neg (by simpa using hk), State.port_modPort_same hp]

theorem execCalRestoreChange_of_due {p : Fin 16} (hc : (s.port p).cal = some c) (hph : c.phase = .restoring)
    (hb : c.blk + 64 ≤ s.blockNow p) : execCalRestoreChange p s = if c.aborted || c.got then .next ((s.laneRestored p c).nextTurn p)
      else .next ((s.laneRestored p c).modPort p fun q => { q with cal := some { c with phase := .waiting, tick := s.ticks } }) := by
  unfold execCalRestoreChange
  rw [hc, ← (State.laneRestored_keeps (s := s) (p := p) (c := c)).lasting.ticks]
  exact if_neg (by simp [hph, hb])

theorem execCalReportTimeout_of_due {p : Fin 16} (hc : (s.port p).cal = some c) (hph : c.phase = .waiting) (ht : c.tick + 625000 ≤ s.ticks) :
    execCalReportTimeout p s = .next ((s.modPort p fun q => q.setCal c.hop c.lane ⟨4, 0, 0, 0⟩).nextTurn p) := by
  unfold execCalReportTimeout
  rw [hc]
  exact if_neg (by simp [hph, State.past, msT, ht])

end

/-- Settles O50: a calibration is announced by `State.calAnnounce`, its lane leaves the stripe as `State.laneDropped`, is announced for
restoring by `State.restoreLane` and is back as `State.laneRestored` (log entry 66 for the order of a round's calibrations and for the turn
that passes on without a pause). -/
theorem calibrationOfALane : Obligations.CalibrationOfALane := by
  intro s p hp
  refine ⟨fun hu hc ht hn hs => ?_, fun c hc => ⟨fun hph hb ha => ?_, fun hph hb ha => ?_,
    fun hph hb eye ctle ph => ⟨fun hk => ?_, fun hk hh => ?_, fun hk hh => ?_⟩,
    fun hph hb => ⟨s.laneRestored p c, State.laneRestored_keeps.only_parts rfl, State.port_laneRestored hp, fun h => ?_, fun ha hg => ?_⟩,
    execCalReportTimeout_of_due hc⟩⟩
  · have hexec : exec (.calStart p) s = _ := execCalStart_of_due hu hc ht hn hs
    rw [hexec]
    refine ⟨fun hend => if_pos hend, fun hlt hk hout => ?_, fun hlt hin hheld => ?_⟩
    · rw [if_neg (Nat.not_le.2 hlt), if_pos]
      obtain h | h := hout <;> simp [hk, h]
    · rw [if_neg (Nat.not_le.2 hlt), if_neg, if_neg]
      · exact ⟨fun hfree => if_pos (by simp [hfree]), fun hfree => ⟨_, if_neg (by simp [hfree]), State.calAnnounce_keeps.only_parts rfl,
          State.port_calAnnounce hp, State.calAnnounce_out⟩⟩
      · obtain h | h := hheld <;> simp [h]
      · by_cases hk : (s.port p).calTurn.2 = 4
        · simp [hk]
        · obtain ⟨hlane, hdrop⟩ := hin hk
          simp [hlane, hdrop]
  · have hexec : exec (.calDropChange p) s = _ := execCalDropChange_of_due hc hph hb
    rw [if_neg (by simp [ha])] at hexec
    exact ⟨_, hexec, State.laneDropped_keeps.only_parts rfl, State.port_laneDropped hp, State.laneDropped_out ha⟩
  · have hexec : exec (.calDropChange p) s = _ := execCalDropChange_of_due hc hph hb
    obtain ⟨_, _, hport⟩ := State.port_restoreLane (c := c.inPhase .pattern (s.blockNow p) s.ticks)
      (State.length_laneDropped (s := s) (p := p) (c := c) ▸ hp)
    rw [if_pos ha] at hexec
    refine ⟨_, hexec, (execCalDropChange_keeps _ hexec).only_parts rfl, ?_⟩
    rw [hport, State.blockNext_congr (State.laneDropped_keeps.same .tb rfl) (by rw [State.port_laneDropped hp]), State.laneDropped_keeps.lasting.ticks]
    rfl
  · have hexec : exec (.calPatternEnd p eye ctle ph) s = _ := execCalPatternEnd_of_due hc hph hb (.inl hk)
    obtain ⟨_, _, hport⟩ := State.port_restoreLane (c := c) hp
    obtain ⟨o, hout⟩ := State.restoreAnnounced_out (s := s) (p := p) (c := c)
    refine ⟨_, o, hexec, State.restoreLane_keeps.only_parts rfl, by rw [hport]; rfl, by rw [hport], ?_⟩
    rw [State.restoreLane_of_downstream hp hk]
    exact hout
  · have hexec : exec (.calPatternEnd p eye ctle ph) s = _ := execCalPatternEnd_of_due hc hph hb (.inr hh)
    rw [State.restoreLane_of_upstream hk] at hexec
    exact ⟨_, hexec, State.modPort_keeps.only_parts rfl, State.port_modPort_same hp⟩
  · refine ⟨_, rfl, _, execCalPatternEnd_of_own hc hph hb hk hh, ?_⟩
    obtain ⟨-, htrim⟩ := State.port_eyeTaken (eye := eye) (ctle := ctle) (ph := ph) hp
    rw [State.restoreLane_of_upstream (c := { c with got := true }) hk, State.port_modPort_same (State.length_eyeTaken.symm ▸ hp),
      State.eyeTaken_blockNext hp, State.eyeTaken_ticks]
    exact ⟨(State.eyeTaken_keeps.andThen State.modPort_keeps rfl).only_parts rfl, rfl, htrim⟩
  · exact (execCalRestoreChange_of_due hc hph hb).trans (if_pos (by obtain h | h := h <;> simp [h]))
  · exact (execCalRestoreChange_of_due hc hph hb).trans (if_neg (by simp [ha, hg]))

end Sys2Proof.Machine
end

section
/-! SUPPORT. What a tile sends (R171, R172, R179, R186): the envelope of its frame, the judgement of its sequence number, and what one record or
census answer does. -/

namespace Sys2Proof.Machine

/-- A frame or message as long as its LEN says holds its whole body. -/
theorem length_body_of_length {d : List Byte} {n : Nat} (h : d.length = 12 + n) : ((d.drop 8).take n).length = n := by
  rw [List.length_take, List.length_drop]
  omega

theorem UpFrame.parse_some {dev : Nat} {d : List Byte} {f : UpFrame} (h : UpFrame.parse dev d = some f) :
    d.length = 12 + leAt d 6 2 ∧ leAt d (8 + leAt d 6 2) 4 = (crc32 (d.take (8 + leAt d 6 2))).toNat ∧ (f.kind = 0x81 ∨ f.kind = 0x87) ∧
    f.pos < 32 ∧ f.body.length = leAt d 6 2 := by
  obtain ⟨hok, hf⟩ := Option.ite_none_right_eq_some.1 h
  simp only [Bool.and_eq_true, Bool.or_eq_true, beq_iff_eq, decide_eq_true_eq] at hok
  obtain ⟨⟨⟨⟨⟨hlen, hcrc⟩, hkind⟩, -⟩, -⟩, hpos⟩ := hok
  obtain rfl := Option.some.inj hf
  exact ⟨hlen, hcrc, hkind, hpos, length_body_of_length hlen⟩

section
variable {r : RxStream} {n : Nat}

/-- How far a sequence number lies ahead of the last one of a stream, modulo 2^16 (R172). -/
def RxStream.ahead (r : RxStream) (n : Nat) : Nat := (n + 65536 - r.last) % 65536

theorem RxStream.take_of_ahead (h1 : 1 ≤ r.ahead n) (h : r.ahead n ≤ 1024) : r.take n = (.accept (r.ahead n - 1), ⟨n, false, 0⟩) :=
  if_pos (Bool.and_eq_true_iff.2 ⟨decide_eq_true h1, decide_eq_true h⟩)

theorem RxStream.take_of_far (h : r.ahead n = 0 ∨ 1024 < r.ahead n) : r.take n =
    if r.fresh || 3 ≤ r.rejects then (.accept 0, ⟨n, false, 0⟩) else (.reject, { r with rejects := r.rejects + 1 }) :=
  if_neg (by
    unfold RxStream.ahead at h
    simp only [Bool.and_eq_true, decide_eq_true_eq]
    omega)

end

section
variable {s : State} {p : Fin 16} {l : UpLoss} {d : List Byte} {f : UpFrame} {ok : Bool} {x : State}

theorem execStatusFrameRx_of_deaf (h : (s.port p).hears = false) : execStatusFrameRx p l d s = .next s := if_pos (by simp [h])

theorem execCensusDataRx_of_deaf (h : (s.port p).hears = false) : execCensusDataRx p l d s = .next s := if_pos (by simp [h])

section
variable (hh : (s.port p).hears = true)
include hh

theorem execStatusFrameRx_of_broken (h : UpFrame.parse s.cfg.devNum d = none) :
    execStatusFrameRx p l d s = .next ((s.upLoss p l).bump (Reg.upCrcErrors p)) := by
  unfold execStatusFrameRx
  rw [if_neg (by simp [hh]), h]

theorem execCensusDataRx_of_broken (h : UpFrame.parse s.cfg.devNum d = none) :
    execCensusDataRx p l d s = .next ((s.upLoss p l).bump (Reg.upCrcErrors p)) := by
  unfold execCensusDataRx
  rw [if_neg (by simp [hh]), h]

variable (hf : UpFrame.parse s.cfg.devNum d = some f) (ht : (s.upLoss p l).takeSeq p f.pos (leAt d 2 2) = (ok, x))
include hf ht

theorem execStatusFrameRx_of_status (hk : f.kind = 0x81) : execStatusFrameRx p l d s =
    .next (if ok then (statusRecords 256 f.body).foldl (State.statusRecord p f.pos) x else x) := by
  unfold execStatusFrameRx
  rw [if_neg (by simp [hh]), hf]
  simp only [hk, ht]
  cases ok <;> rfl

theorem execCensusDataRx_of_census (hk : f.kind = 0x87) : execCensusDataRx p l d s =
    .next (if ok = false then x else if f.arg = 2 then x.enumAnswer p f.pos f.body
      else if f.arg = 3 then x.readAnswer p f.pos f.body else x) := by
  unfold execCensusDataRx
  rw [if_neg (by simp [hh]), hf]
  simp only [hk, ht, apply_ite Host.Outcome.next, beq_iff_eq]
  cases ok <;> rfl

end

end

section
variable {s : State} {p q : Nat} {r : List Byte}

/-- A tile that is not admitted is heard only in TILE and LANES records (R179). -/
theorem State.statusRecord_of_unadmitted (htile : leAt r 0 1 ≠ 1) (hlanes : leAt r 0 1 ≠ 6)
    (h : ∀ t, s.tile? p q = some t → t.admitted = false) : State.statusRecord p q s r = s := by
  unfold State.statusRecord
  extract_lets adm scan
  have hadm : adm = false := by
    unfold adm
    split
    next t ht => exact h t ht
    next => rfl
  rw [hadm]
  split
  case h_1 hkind => exact absurd hkind htile
  case h_2 hkind => exact absurd hkind hlanes
  all_goals rfl

theorem State.statusRecord_of_sense {t : Tile} (hkind : leAt r 0 1 = 2) (ht : s.tile? p q = some t) (ha : t.admitted = true) :
    State.statusRecord p q s r = s.senseRecord p q r := by
  unfold State.statusRecord
  rw [hkind, ht]
  exact if_pos ha

theorem State.enumAnswer_of_unfit (h : (s.port p).census.phase ≠ .enum ∨ q ≠ (s.port p).census.next ∨ r.length < 72) :
    s.enumAnswer p q r = s :=
  if_pos (by
    simp only [Bool.or_eq_true, bne_iff_ne, decide_eq_true_eq]
    tauto)

end

/-- Settles O51: a frame that does not pass is counted (`execStatusFrameRx_of_broken`), one that passes is judged by `RxStream.take`, and a
record of an unadmitted tile is heard by `State.statusRecord_of_unadmitted` (log entry 74 for a record of an unknown kind, 77 for an answer
out of turn or below 64 bytes of record, which have no effect). -/
theorem upstreamFrames : Obligations.UpstreamFrames := by
  refine ⟨fun dev d f => UpFrame.parse_some, fun r n => ⟨RxStream.take_of_ahead, fun hfar h => ?_, fun hfar hf hr => ?_⟩, fun s p l d =>
    ⟨fun hh => ⟨execStatusFrameRx_of_deaf hh, execCensusDataRx_of_deaf hh⟩,
      fun hh hn => ⟨execStatusFrameRx_of_broken hh hn, execCensusDataRx_of_broken hh hn⟩,
      fun hh f hf => ⟨_, _, rfl, execStatusFrameRx_of_status hh hf rfl, execCensusDataRx_of_census hh hf rfl⟩,
      fun q r => ⟨State.statusRecord_of_unadmitted, fun hkind t ht ha => ?_⟩, fun q b => State.enumAnswer_of_unfit⟩⟩
  · exact (RxStream.take_of_far hfar).trans (if_pos (by simpa using h))
  · exact (RxStream.take_of_far hfar).trans (if_neg (by simp [hf, hr]))
  · rw [State.statusRecord_of_sense hkind ht ha]
    rfl

end Sys2Proof.Machine
end

section
/-! SUPPORT. The timeouts of the census and of AGE frames (R186, R189, R190): an enumeration or a read without an answer, a tile dropped from
the reads, and an AGE frame sent again or given up. -/

namespace Sys2Proof.Machine

section
variable {s : State} {p : Nat}

theorem State.port_modCensus {f : Census → Census} (hp : p < s.ports.length) :
    (s.modCensus p f).port p = { s.port p with census := f (s.port p).census } := State.port_modPort_same hp

/- An enumeration (R186). -/

theorem execCensusEnumTimeout_of_waiting {p : Fin 16} (hu : (s.port p).up = true) (hph : (s.port p).census.phase = .enum)
    (hw : (s.port p).censusWaits (fun f => f.arg == 2) = false) :
    execCensusEnumTimeout p s = if s.past (s.port p).census.tick msT then .next (s.endEnum p) else .next s := by
  simp [execCensusEnumTimeout, hu, hph, hw]

/- A read (R186). -/

/-- Whether a read of a port is late: its frame went out 1 ms ago. -/
def State.readLate (s : State) (p : Nat) (r : CensusRead) : Bool :=
  s.past r.tick msT && !((s.port p).censusWaits fun f => f.arg == 3 && f.addr == r.pos && leAt f.body 0 1 == r.part && leAt f.body 4 4 == r.off)

/-- A read of a port counted as sent once more, now. -/
def State.readAgain (s : State) (p : Nat) (r : CensusRead) : State :=
  s.modCensus p fun c => { c with reads := c.reads.map fun x => if x == r then { x with tries := x.tries + 1, tick := s.ticks } else x }

theorem execCensusReadTimeout_of_late {p : Fin 16} {r : CensusRead} (hu : (s.port p).up = true) (hph : (s.port p).census.phase = .reading)
    (h : (s.port p).census.reads.find? (s.readLate p) = some r) : execCensusReadTimeout p s =
      if 8 ≤ r.tries then .next (s.dropTile p r.pos) else .next (((s.readAgain p r).bump (Reg.censusRetries p)).sendRead p r true) := by
  have hfind : ((s.port p).census.reads.find? fun r => s.readLate p r) = some r := h
  unfold State.readLate at hfind
  unfold execCensusReadTimeout
  simp only [hfind, hu, hph]
  rfl

/-- A tile that a census no longer admits, with none of its reads left: cause 6, unless it was refused before (R189). -/
def State.readsGivenUp (s : State) (p pos : Nat) : State :=
  (s.modTile p pos fun t => { t with admitted := false, cause := if t.admitted then 6 else t.cause, part1 := [], part2 := [] }).modCensus p
    fun c => { c with reads := c.reads.filter (·.pos != pos), todo := c.todo.filter (·.pos != pos) }

theorem State.readsGivenUp_keeps {pos : Nat} : Keeps (partMask [.ports, .tiles]) s (s.readsGivenUp p pos) :=
  (State.modTile_keeps.mono rfl).andThen State.modCensus_keeps rfl

theorem State.dropTile_of_tile {pos : Nat} {t : Tile} (ht : s.tile? p pos = some t) : s.dropTile p pos =
    (if t.admitted then (s.readsGivenUp p pos).refused t 6 else s.readsGivenUp p pos).nextReads p := by
  unfold State.dropTile
  rw [ht]
  rfl

/- An AGE frame (R190). -/

section
variable {q : Nat} {a : AgeOut}

/-- An AGE frame of a tile counted as sent once more and queued with RETRY (log entry 65). -/
def State.ageRetried (s : State) (p q : Nat) (a : AgeOut) : State :=
  State.queueFrame (s.modTile p q fun t =>
    { t with ageOut := t.ageOut.map fun x => if x == a then { x with tries := x.tries + 1, sent := false, tick := s.ticks } else x }) p
    { posFrame .age q 0 a.body with retry := true }

theorem State.ageRetried_keeps : Keeps (partMask [.ports, .tiles]) s (s.ageRetried p q a) :=
  (State.modTile_keeps.mono rfl).andThen State.queueFrame_keeps rfl

theorem State.port_ageRetried (hp : p < s.ports.length) : ∃ f, f.kind = .age ∧ f.retry = true ∧ f.body = a.body ∧ f.addr = q ∧
    ((s.ageRetried p q a).port p).queue = (s.port p).queue ++ [f] :=
  ⟨_, rfl, rfl, rfl, rfl, congrArg Port.queue (State.port_queueFrame hp)⟩

/-- An AGE frame of a tile given up, counted and recorded. -/
def State.ageGivenUp (s : State) (p q : Nat) (a : AgeOut) : State :=
  ((s.modTile p q fun t => { t with ageOut := t.ageOut.erase a }).bump (Reg.ageUnackedCount p)).ev Ev.ageUnacked [p, q, a.first]

theorem State.ageGivenUp_keeps : Keeps (partMask [.cnt, .evt, .tiles]) s (s.ageGivenUp p q a) :=
  ((State.modTile_keeps.mono rfl).andThen State.bump_keeps rfl).andThen State.ev_keeps rfl

theorem State.ageAgain_eq : s.ageAgain p q a = if 3 ≤ a.tries then State.ageFill 4 (s.ageGivenUp p q a) p q
    else s.ageRetried p q a := rfl

theorem execAgeAckTimeout_of_late {p : Fin 16} {q : Fin 32} {t : Tile} (ht : s.tile? p q = some t)
    (h : t.ageOut.find? (fun a => a.sent && s.past a.tick (20 * msT)) = some a) : execAgeAckTimeout p q s = .next (s.ageAgain p q a) := by
  unfold execAgeAckTimeout
  simp only [ht, h]

end

end

/-- Settles O52: a late read is `State.readAgain` or ends in `State.readsGivenUp`, and a late AGE frame `State.ageRetried` or
`State.ageGivenUp`, by its tries. -/
theorem censusAndAgeTimeouts : Obligations.CensusAndAgeTimeouts := by
  intro s p hp
  refine ⟨fun hu hph hw => ?_, fun hu hph r hr => ?_, fun k t ht => ?_, fun k t a ht ha => ?_⟩
  · have hexec : exec (.censusEnumTimeout p) s = _ := execCensusEnumTimeout_of_waiting hu hph hw
    rw [hexec]
    exact ⟨fun hdue => if_pos (decide_eq_true hdue), fun hearly => if_neg (by simp [State.past, msT, Nat.not_le.2 hearly])⟩
  · have hexec : exec (.censusReadTimeout p) s = _ := execCensusReadTimeout_of_late hu hph hr
    rw [hexec]
    exact ⟨fun hmany => if_pos hmany, fun hfew => ⟨s.readAgain p r, congrArg Port.census (State.port_modCensus hp),
      State.modCensus_keeps.only_parts rfl, if_neg (Nat.not_le.2 hfew)⟩⟩
  · exact ⟨s.readsGivenUp p k, State.dropTile_of_tile ht, rfl, State.readsGivenUp_keeps.only_parts rfl⟩
  · have hexec : exec (.ageAckTimeout p k) s = _ := execAgeAckTimeout_of_late ht ha
    rw [hexec, State.ageAgain_eq]
    refine ⟨fun hfew => ?_, fun hmany => ?_⟩
    · obtain ⟨f, hkind, hretry, hbody, haddr, hqueue⟩ := State.port_ageRetried (q := k) (a := a) hp
      exact ⟨s.ageRetried p k a, f, congrArg _ (if_neg (Nat.not_le.2 hfew)), hkind, hretry, hbody, haddr, hqueue,
        State.ageRetried_keeps.only_parts rfl, rfl⟩
    · exact ⟨s.ageGivenUp p k a, congrArg _ (if_pos hmany), State.ageGivenUp_keeps.only_parts rfl, State.ev_p_tiles⟩

end Sys2Proof.Machine
end

section
/-! SUPPORT. What the receiver of the relay link takes (R170 to R172, R413), and what a STANDBY that is not COLD mirrors of it (R415). -/

namespace Sys2Proof.Machine

theorem RelayMsg.parse_some {d : List Byte} {m : RelayMsg} (h : RelayMsg.parse d = some m) :
    d.length = 12 + leAt d 6 2 ∧ leAt d (8 + leAt d 6 2) 4 = (crc32 (d.take (8 + leAt d 6 2))).toNat ∧ m.kind = leAt d 0 1 ∧
    0xC1 ≤ m.kind ∧ m.kind ≤ 0xCB ∧ nbit (leAt d 4 1) 7 = false ∧ m.body = (d.drop 8).take (leAt d 6 2) := by
  obtain ⟨hok, hm⟩ := Option.ite_none_right_eq_some.1 h
  simp only [Bool.and_eq_true, Bool.not_eq_true', beq_iff_eq, decide_eq_true_eq] at hok
  obtain ⟨⟨⟨⟨hlen, hcrc⟩, hlow⟩, hhigh⟩, horigin⟩ := hok
  obtain rfl := Option.some.inj hm
  exact ⟨hlen, hcrc, rfl, hlow, hhigh, horigin, rfl⟩

section
variable {s : State} {k : Nat} {d : List Byte} {m : RelayMsg} {r : RxStream}

/-- The unit as a message arrives: the lanes of the relay are locked. -/
def State.relayHeard (s : State) : State := s.modRl fun r => { r with lanes := true }

theorem State.relayTake_of_off (h : s.relayOn = false) : s.relayTake k d = (none, s) := if_pos (by simp [h])

section
variable (hon : s.relayOn = true)
include hon

theorem State.relayTake_of_broken (h : RelayMsg.parse d = none) : s.relayTake k d = (none, s.relayHeard.bump Reg.relayLinkErrors) := by
  unfold State.relayTake
  rw [if_neg (by simp [hon]), h]
  rfl

theorem State.relayTake_of_kind (h : RelayMsg.parse d = some m) (hk : m.kind ≠ k) : s.relayTake k d = (none, s.relayHeard) := by
  unfold State.relayTake
  rw [if_neg (by simp [hon]), h]
  exact if_pos (bne_iff_ne.2 hk)

theorem State.relayTake_of_judged {j : SeqJudge} (h : RelayMsg.parse d = some m) (hk : m.kind = k)
    (ht : s.rl.rx.take (leAt d 2 2) = (j, r)) : s.relayTake k d =
      if j = .reject then (none, (s.relayHeard.modRl fun y => { y with rx := r }).bump Reg.relayLinkErrors)
      else (if relayLen k ≤ m.body.length then some m.body else none, s.relayHeard.modRl fun y => { y with rx := r }) := by
  have hrx : (s.modRl fun r => { r with lanes := true }).rl.rx.take (leAt d 2 2) = (j, r) := ht
  unfold State.relayTake
  rw [if_neg (by simp [hon]), h]
  simp only [hk, bne_self_eq_false, Bool.false_eq_true, if_false, hrx]
  cases j <;> rfl

end

/- The messages that only the ACTIVE unit sends (R413, R415). -/

section
variable {f : List Byte → State → State} {b : List Byte} {x : State}

theorem State.fromActive_of_none (h : s.relayTake k d = (none, x)) : s.fromActive k d f = x := by
  unfold State.fromActive
  rw [h]

theorem State.fromActive_of_some (h : s.relayTake k d = (some b, x)) :
    s.fromActive k d f = if x.rl.role == .standby && !x.rl.cold then f b x else x := by
  unfold State.fromActive
  rw [h]

/-- A command that is a message of the ACTIVE unit has its effect on a STANDBY that is not COLD and on no other unit. -/
theorem exec_of_fromActive {c : Instr} (hc : exec c s = .next (s.fromActive k d f)) :
    (∀ x, s.relayTake k d = (none, x) → exec c s = .next x) ∧
    ∀ b x, s.relayTake k d = (some b, x) → (x.rl.role = .standby → x.rl.cold = false → exec c s = .next (f b x)) ∧
      (x.rl.role ≠ .standby ∨ x.rl.cold = true → exec c s = .next x) := by
  refine ⟨fun x hx => hc.trans (congrArg _ (State.fromActive_of_none hx)), fun b x hx => ?_⟩
  rw [hc, State.fromActive_of_some hx]
  refine ⟨fun hrole hcold => congrArg _ (if_pos (by simp [hrole, hcold])), fun hout => congrArg _ (if_neg ?_)⟩
  obtain h | h := hout <;> simp [h]

end

theorem State.mirrorCue_of_scene {b : List Byte} (h : leAt b 0 1 ≠ 2) : State.mirrorCue b s = s.modRl fun r =>
    { r with mcues := (r.mcues.filter fun x => x.plan || x.lap != leAt b 8 4) ++
        [⟨false, leAt b 1 1, leAt b 2 2, nbit (leAt b 4 1) 1, leAt b 8 4, leAt b 12 5, s.ticks⟩] } := by
  unfold State.mirrorCue
  rw [beq_eq_false_iff_ne.2 h]
  rfl

end

/-- Settles O53: the receiver's answers are the cases of `State.relayTake` (log entry 108 for a short body and for a kind the command does not
name), and each of the four commands is `State.fromActive` of what it mirrors. -/
theorem relayMessagesMirrored : Obligations.RelayMessagesMirrored := by
  refine ⟨fun d m => RelayMsg.parse_some, fun s k d => ⟨State.relayTake_of_off, fun hon => ⟨State.relayTake_of_broken hon, fun m hm =>
    ⟨State.relayTake_of_kind hon hm, fun hk r => ⟨fun g ht => (State.relayTake_of_judged hon hm hk ht).trans (if_neg nofun),
      fun ht => (State.relayTake_of_judged hon hm hk ht).trans (if_pos rfl)⟩⟩⟩⟩,
    ?_, fun s lap leg m => ⟨rfl, State.mirrorIn_keeps.only_parts rfl⟩, fun b s hscene => ?_⟩
  · intro rows r hr s d
    have hexec : exec (r.2.1 d) s = .next (s.fromActive r.1 d r.2.2) := by
      simp only [rows, List.mem_cons, List.not_mem_nil, or_false] at hr
      obtain rfl | rfl | rfl | rfl := hr <;> rfl
    exact exec_of_fromActive hexec
  · rw [State.mirrorCue_of_scene hscene]
    exact ⟨rfl, State.modRl_keeps.only_parts rfl⟩

end Sys2Proof.Machine
end

section
/-! SUPPORT. A flow's receiver (R207 to R211): which packets it takes, what a path notes of them, how a due frame closes, and what a
completed frame leaves. -/

namespace Sys2Proof.Machine

section
variable {s t : State} {f : Nat} {g : Flow → Flow} {r : FlowRec} {sec : Bool}

/- One flow changed. -/

theorem State.flow_modFlow_same (hf : f < s.net.flows.length) : (s.modFlow f g).flow f = g (s.flow f) :=
  (State.flow_modFlow s f f g).trans (if_pos ⟨rfl, hf⟩)

@[simp] theorem State.length_modFlow : (s.modFlow f g).net.flows.length = s.net.flows.length := length_modAt ..

theorem State.flow_of_net (h : t.net = s.net) : t.flow f = s.flow f := congrArg (·.flows.getD f .reset) h

@[simp] theorem State.flow_bump {o : Nat} : (s.bump o).flow f = s.flow f := rfl
@[simp] theorem State.flow_evtAt {src code : Nat} {args : List Nat} : (s.evtAt src code args).flow f = s.flow f :=
  State.flow_of_net State.evtAt_p_net

/- The paths of a flow (R211). -/

/-- One path of a flow. -/
def Flow.path (w : Flow) (sec : Bool) : FlowPath := if sec then w.sec else w.pri

/-- A flow with one of its paths replaced. -/
def Flow.setPath (w : Flow) (sec : Bool) (q : FlowPath) : Flow := if sec then { w with sec := q } else { w with pri := q }

@[simp] theorem Flow.path_setPath (w : Flow) (q : FlowPath) : (w.setPath sec q).path sec = q := by cases sec <;> rfl

@[simp] theorem Flow.setPath_setPath (w : Flow) (q q' : FlowPath) : (w.setPath sec q).setPath sec q' = w.setPath sec q' := by
  cases sec <;> rfl

@[simp] theorem Flow.setPath_rx (w : Flow) (q : FlowPath) : (w.setPath sec q).rx = w.rx := by cases sec <;> rfl
@[simp] theorem Flow.setPath_lastTs (w : Flow) (q : FlowPath) : (w.setPath sec q).lastTs = w.lastTs := by cases sec <;> rfl

@[simp] theorem State.length_countPath : (s.countPath f sec r).net.flows.length = s.net.flows.length := State.length_modFlow

theorem State.flow_countPath (hf : f < s.net.flows.length) : ∃ miss, (s.countPath f sec r).flow f =
    (s.flow f).setPath sec { (s.flow f).path sec with miss := miss } :=
  ⟨_, State.flow_modFlow_same (s := s.bumpN _ _) hf⟩

@[simp] theorem State.length_pathPacket {n : Nat} : (s.pathPacket f sec r n).net.flows.length = s.net.flows.length := by
  unfold State.pathPacket
  extract_lets t w q gap q' u
  have hu : u.net.flows.length = s.net.flows.length := State.length_modFlow.trans State.length_countPath
  split
  · exact hu
  · rw [State.evtAt_p_net, hu]

theorem State.flow_pathPacket {n : Nat} (hf : f < s.net.flows.length) :
    ∃ q, (s.pathPacket f sec r n).flow f = (s.flow f).setPath sec q := by
  obtain ⟨miss, hcount⟩ := State.flow_countPath (sec := sec) (r := r) hf
  unfold State.pathPacket
  extract_lets t w q gap q' u
  have hu : u.flow f = (s.flow f).setPath sec q' := by
    have hmod : u.flow f = (t.flow f).setPath sec q' := State.flow_modFlow_same (State.length_countPath.symm ▸ hf)
    rw [hmod, hcount, Flow.setPath_setPath]
  refine ⟨q', ?_⟩
  split
  · exact hu
  · rw [State.flow_evtAt, hu]

/- Which packets a receiver takes (R207, R210). -/

section
variable {d : List Byte} {p : RtpPkt} (hr : s.flowRec? f = some r) (hp : RtpPkt.parse d = some p)
include hr hp

theorem State.flowPacket_of_unfit
    (h : (s.flow f).valid = false ∨ p.pt ≠ r.pt ∨ (if sec then (s.flow f).sec.joined else (s.flow f).pri.joined) = false) :
    s.flowPacket f sec d = s := by
  unfold State.flowPacket
  simp only [hr, hp]
  refine if_pos ?_
  obtain h | h | h := h <;> simp [h]

variable (hv : (s.flow f).valid = true) (hpt : p.pt = r.pt)
  (hj : (if sec then (s.flow f).sec.joined else (s.flow f).pri.joined) = true)
include hv hpt hj

theorem State.flowPacket_of_otherSource (h : s.ssrcOk f sec p.ssrc = (false, t)) : s.flowPacket f sec d = t := by
  unfold State.flowPacket
  simp [hr, hp, hv, hpt, hj, h]

/-- A packet of the locked source that is not far behind, on a flow of one path: it is noted, and then taken into its frame unless its
header or its time stamp forbids that. -/
theorem State.flowPacket_of_single {u : State} (h : s.ssrcOk f sec p.ssrc = (true, t)) (hseq : t.seqOk f sec p.seq = (true, u))
    (hd : r.dual = false) : s.flowPacket f sec d =
      if p.srds.any (·.field) || (((u.pathPacket f sec r p.seq).noteSeq f p.seq).flow f).tsOld p.ts then
        ((u.pathPacket f sec r p.seq).noteSeq f p.seq).bump (Reg.flowBad f)
      else ((u.pathPacket f sec r p.seq).noteSeq f p.seq).takePacket f r p := by
  unfold State.flowPacket
  simp [hr, hp, hv, hpt, hj, h, hseq, hd]

end

theorem State.ssrcOk_of_other {k n : Nat} (h : (s.flow f).ssrc = some k) (hk : k ≠ n)
    (hfew : (if (s.flow f).otherSsrc = n then (s.flow f).other + 1 else 1) < 8) : s.ssrcOk f sec n =
      (false, s.modFlow f fun w => { w with other := if (s.flow f).otherSsrc = n then (s.flow f).other + 1 else 1, otherSsrc := n }) := by
  unfold State.ssrcOk
  simp [h, hk, hfew]

theorem State.ssrcOk_of_locked {n : Nat} (h : (s.flow f).ssrc = some n) :
    s.ssrcOk f sec n = (true, s.modFlow f fun w => { w with other := 0 }) := by
  unfold State.ssrcOk
  simp [h]

theorem State.seqOk_of_near {n q : Nat} (h : (s.flow f).newest = some n) (hq : -1048576 ≤ diff32 q n) : s.seqOk f sec q =
    (true, s.modFlow f fun w => { w with newest := some (if 0 < diff32 q n then q else n), back := 0 }) := by
  unfold State.seqOk
  simp only [h]
  exact if_neg (Int.not_lt.2 hq)

/-- The state as a receiver has noted a packet of its source that is not far behind (R207, R210). -/
def State.packetSeen (s : State) (f : Nat) (q n : Nat) : State :=
  (s.modFlow f fun w => { w with other := 0 }).modFlow f fun w => { w with newest := some (if 0 < diff32 q n then q else n), back := 0 }

/-- The same, once the path has noted it too, and the count of lost packets. -/
def State.packetNoted (s : State) (f : Nat) (sec : Bool) (r : FlowRec) (q n : Nat) : State :=
  ((s.packetSeen f q n).pathPacket f sec r q).noteSeq f q

theorem State.packetNoted_keeps {q n : Nat} : Keeps (partMask [.cnt, .evt, .net]) s (s.packetNoted f sec r q n) :=
  have hseen : Keeps (partMask [.cnt, .evt, .net]) s (s.packetSeen f q n) := (State.modFlow_keeps.mono rfl).andThen State.modFlow_keeps rfl
  (hseen.andThen State.pathPacket_keeps rfl).andThen State.noteSeq_keeps rfl

/-- Noting a packet leaves the frames in reception and the time stamps that are over. -/
theorem State.flow_packetNoted {q n : Nat} (hf : f < s.net.flows.length) :
    ((s.packetNoted f sec r q n).flow f).rx = (s.flow f).rx ∧ ((s.packetNoted f sec r q n).flow f).lastTs = (s.flow f).lastTs := by
  have hlen : f < (s.packetSeen f q n).net.flows.length := by simpa [State.packetSeen] using hf
  have hseen : (s.packetSeen f q n).flow f =
      { s.flow f with other := 0, newest := some (if 0 < diff32 q n then q else n), back := 0 } :=
    (State.flow_modFlow_same (by simpa using hf)).trans (by rw [State.flow_modFlow_same hf])
  obtain ⟨path, hpath⟩ := State.flow_pathPacket (sec := sec) (r := r) (n := q) hlen
  unfold State.packetNoted State.noteSeq
  rw [State.flow_modFlow_same (State.length_pathPacket.symm ▸ hlen), hpath, hseen]
  simp

/- The close of a frame (R208). -/

variable {x : FrameRx}

theorem State.closeDue_of_none (h : (s.flow f).rx.filter (·.due r s.ticks) = []) : s.closeDue f r = s := by
  unfold State.closeDue
  rw [h]
  rfl

theorem State.closeDue_of_one (h : (s.flow f).rx.filter (·.due r s.ticks) = [x]) : s.closeDue f r = s.frameClose f r x := by
  unfold State.closeDue
  rw [h]
  rfl

theorem State.frameClose_of_dropped (hc : r.conceal = false) (hb : x.buf.isSome = true) : s.frameClose f r x =
    (((s.bump (Reg.flowDropped f)).modFlow f fun w => w.dropRx x.ts).countLost f x).freeBufs f := by
  unfold State.frameClose
  simp [hc, hb]

theorem State.frameClose_of_concealed (hc : r.conceal = true) (hb : x.buf.isSome = true) : s.frameClose f r x =
    (s.bump (Reg.flowConcealed f)).frameDone f r x ((s.flow f).doneRuns ++ x.runs) := by
  unfold State.frameClose
  simp [hc, hb]

theorem execFlowFrameClose_of_flow {f : Fin 64} (hr : s.flowRec? f = some r) :
    execFlowFrameClose f s = .next (((s.closeDue f r).countPath f false r).countPath f true r) := by
  unfold execFlowFrameClose
  rw [hr]

/- A frame completes (R208, R209). -/

theorem State.flow_countLost (hf : f < s.net.flows.length) : (s.countLost f x).net.flows.length = s.net.flows.length ∧
    ∃ acct recv, (s.countLost f x).flow f = { s.flow f with acct := acct, recv := recv } := by
  unfold State.countLost
  extract_lets w
  split
  · exact ⟨rfl, _, _, rfl⟩
  · extract_lets e n got
    split
    · exact ⟨rfl, _, _, rfl⟩
    · exact ⟨State.length_modFlow, _, _, State.flow_modFlow_same (s := s.bumpN _ _) hf⟩

/-- The use of the buffers brought up to date leaves what is in them, and all else of the flow. -/
theorem State.flow_freeBufs (hf : f < s.net.flows.length) : ∃ bufs, (s.freeBufs f).flow f = { s.flow f with bufs := bufs } ∧
    ∀ b, b < (s.flow f).bufs.length → ∃ used freed,
      bufs.getD b ⟨false, 0, false, [], 0, false⟩ = { (s.flow f).buf b with used := used, freed := freed } := by
  refine ⟨_, State.flow_modFlow_same hf, fun b hb => ?_⟩
  simp only [List.getD_eq_getElem?_getD, Flow.buf, List.getElem?_zipWith, List.getElem?_range hb, List.getElem?_eq_getElem hb,
    Option.getD_some]
  exact ⟨_, _, rfl⟩

/-- A flow with a frame completed in a buffer (R209). -/
def Flow.complete (w : Flow) (now : Nat) (service : Bool) (b ts : Nat) (runs : List Run) : Flow :=
  { w with count := (w.count + 1) % 2 ^ 32, rtpTs := ts, done := some b, prior := w.doneBefore now, doneTick := now,
           bufs := modAt w.bufs b fun _ => ⟨true, (w.count + 1) % 2 ^ 32, service, runs, 0, true⟩ }

/-- The state as a frame has left reception, its lost packets counted. -/
def State.frameLeft (s : State) (f : Nat) (x : FrameRx) : State := (s.modFlow f fun w => w.dropRx x.ts).countLost f x

theorem State.frameLeft_keeps : Keeps (partMask [.cnt, .net]) s (s.frameLeft f x) :=
  (State.modFlow_keeps.mono rfl).andThen State.countLost_keeps rfl

theorem State.flow_frameLeft (hf : f < s.net.flows.length) : f < (s.frameLeft f x).net.flows.length ∧
    ∃ acct recv, (s.frameLeft f x).flow f = { (s.flow f).dropRx x.ts with acct := acct, recv := recv } := by
  obtain ⟨hlen, acct, recv, hflow⟩ :=
    State.flow_countLost (s := s.modFlow f fun w => w.dropRx x.ts) (x := x) (State.length_modFlow.symm ▸ hf)
  rw [State.flow_modFlow_same hf] at hflow
  exact ⟨hlen.symm ▸ State.length_modFlow.symm ▸ hf, acct, recv, hflow⟩

/-- The state as a frame has completed in its buffer, before a warm-up source shows it. -/
def State.frameKept (s : State) (f : Nat) (r : FlowRec) (x : FrameRx) (b : Nat) (runs : List Run) : State :=
  ((((s.frameLeft f x).modFlow f fun w => w.complete (s.frameLeft f x).ticks (s.frameLeft f x).tl.service b x.ts runs)).storeFrame
    f b r runs).freeBufs f

section
variable {b : Nat} {runs : List Run}

/-- A completed frame leaves the receivers and HBM as it stands in its buffer, whether or not it is the warm-up source's. -/
theorem State.frameDone_of_buf (hb : x.buf = some b) : (s.frameDone f r x runs).net = (s.frameKept f r x b runs).net ∧
    (s.frameDone f r x runs).mem = (s.frameKept f r x b runs).mem := by
  unfold State.frameDone
  rw [hb]
  dsimp only
  split
  · exact ⟨State.warmTake_p_net, State.warmTake_p_mem⟩
  · exact ⟨rfl, rfl⟩

theorem State.storeFrame_congr (h : t.mem = s.mem) : (t.storeFrame f b r runs).mem = (s.storeFrame f b r runs).mem := by
  unfold State.storeFrame
  rw [h]

theorem State.frameKept_mem : (s.frameKept f r x b runs).mem = (s.storeFrame f b r runs).mem :=
  (State.freeBufs_keeps.same .mem rfl).trans (State.storeFrame_congr (State.frameLeft_keeps.same .mem rfl))

/-- A frame completed in its buffer is the flow's newest, and has left reception. -/
theorem State.flow_frameKept (hf : f < s.net.flows.length) (hb : b < (s.flow f).bufs.length) :
    let y := (s.frameKept f r x b runs).flow f
    y.done = some b ∧ y.count = ((s.flow f).count + 1) % 2 ^ 32 ∧ y.rtpTs = x.ts ∧ (y.buf b).runs = runs ∧
      (y.buf b).frame = ((s.flow f).count + 1) % 2 ^ 32 ∧ y.rx = (s.flow f).rx.filter (·.ts != x.ts) := by
  obtain ⟨hleft, acct, recv, hflow⟩ := State.flow_frameLeft (x := x) hf
  let v := ((s.frameLeft f x).modFlow f fun w =>
    w.complete (s.frameLeft f x).ticks (s.frameLeft f x).tl.service b x.ts runs).storeFrame f b r runs
  have hv : v.flow f = Flow.complete _ _ _ _ _ _ := State.flow_modFlow_same hleft
  rw [hflow] at hv
  have hbuf : (v.flow f).buf b = ⟨true, ((s.flow f).count + 1) % 2 ^ 32, (s.frameLeft f x).tl.service, runs, 0, true⟩ := by
    rw [hv]
    exact (getD_modAt ..).trans (if_pos ⟨rfl, hb⟩)
  obtain ⟨bufs, hfree, hbufs⟩ := State.flow_freeBufs (s := v) (State.length_modFlow.symm ▸ hleft)
  obtain ⟨used, freed, hkept⟩ := hbufs b (by rw [hv]; exact (length_modAt ..).symm ▸ hb)
  rw [hbuf] at hkept
  have hy : (s.frameKept f r x b runs).flow f = _ := hfree
  rw [hy, hv]
  exact ⟨rfl, rfl, rfl, congrArg FrameBuf.runs hkept, congrArg FrameBuf.frame hkept, rfl⟩

end

end

/-- Settles O41: a packet goes through `State.ssrcOk` and `State.seqOk` to `State.packetNoted`, a due frame through `State.frameClose`,
and a frame completed in its buffer is `State.frameKept`; that its lines stand in HBM as it completes is log entry 127. -/
theorem flowPacketsAndFrames : Obligations.FlowPacketsAndFrames := by
  intro s f r hr hf w
  refine ⟨fun sec d p hp => ⟨fun h => congrArg _ (State.flowPacket_of_unfit hr hp h), fun hv hpt hj => ⟨fun k hk hne hfew => ?_,
      fun n hssrc hn hnear hdual => ?_⟩⟩, fun x hdue hbuf => ?_, fun hdue => ?_, fun x b runs hb hlt => ?_⟩
  · exact congrArg _ (State.flowPacket_of_otherSource hr hp hv hpt hj (State.ssrcOk_of_other hk hne hfew))
  · obtain ⟨hrx, hts⟩ := State.flow_packetNoted (sec := sec) (r := r) (q := p.seq) (n := n) hf
    refine ⟨s.packetNoted f sec r p.seq n, rfl, hrx, hts, State.packetNoted_keeps.only_parts rfl, congrArg Host.Outcome.next ?_⟩
    have hnewest : ((s.modFlow f fun w => { w with other := 0 }).flow f).newest = some n := by rw [State.flow_modFlow_same hf]; exact hn
    have hold : ((s.packetNoted f sec r p.seq n).flow f).tsOld p.ts = w.tsOld p.ts := by unfold Flow.tsOld; rw [hts]
    rw [← hold]
    exact State.flowPacket_of_single hr hp hv hpt hj (State.ssrcOk_of_locked hssrc) (State.seqOk_of_near hnewest hnear) hdual
  · have hexec : exec (.flowFrameClose f) s = _ := execFlowFrameClose_of_flow hr
    rw [hexec, State.closeDue_of_one hdue]
    exact ⟨_, rfl, fun hc => State.frameClose_of_dropped hc hbuf, fun hc => State.frameClose_of_concealed hc hbuf⟩
  · have hexec : exec (.flowFrameClose f) s = _ := execFlowFrameClose_of_flow hr
    rw [hexec, State.closeDue_of_none hdue]
  · obtain ⟨hnet, hmem⟩ := State.frameDone_of_buf (s := s) (f := f) (r := r) (runs := runs) hb
    obtain ⟨hdone, hcount, hts, hruns, hframe, hrx⟩ := State.flow_frameKept (r := r) (x := x) (runs := runs) hf hlt
    intro u y
    have hy : y = (s.frameKept f r x b runs).flow f := State.flow_of_net hnet
    rw [hy]
    exact ⟨hdone, hcount, hts, hruns, hframe, hrx, hmem.trans State.frameKept_mem⟩

end Sys2Proof.Machine
end

section
/-! SUPPORT. The checks of a cue datagram, in the order of Table 7.8 (R214, R215). -/

namespace Sys2Proof.Machine

section
variable {s : State} {i : Nat} {d : List Byte}

theorem execCueDatagramRx_of_on {sub : Fin 8} (h : s.subOn sub = true) : execCueDatagramRx sub d s = .next (s.cueDatagram sub d) := if_pos h

/- Checks 1 and 2: the form and the tag. -/

section
variable (hcfg : wfld (s.rws Reg.cueDgCfg) 31 16 ≠ 0)
include hcfg

theorem State.cueDatagram_of_malformed (hd : dgFormed d = false) : s.cueDatagram i d = s.bump Reg.cueDgMalformed := by
  unfold State.cueDatagram
  rw [if_neg (by simpa using hcfg), if_pos (by simp [hd])]

theorem State.cueDatagram_of_badTag (hd : dgFormed d = true) (ht : s.dgTag d = false) : s.cueDatagram i d = s.dgBadTag (beAt d 8 1) := by
  unfold State.cueDatagram
  rw [if_neg (by simpa using hcfg), if_neg (by simp [hd]), if_pos (by simp [ht])]

theorem State.cueDatagram_of_tag (hd : dgFormed d = true) (ht : s.dgTag d = true) :
    s.cueDatagram i d = (s.dgNote (beAt d 8 1)).dgChecks i d := by
  unfold State.cueDatagram
  rw [if_neg (by simpa using hcfg), if_neg (by simp [hd]), if_neg (by simp [ht])]

end

/-- A bad tag leaves the datagrams accepted before and their senders. -/
theorem State.dgBadTag_net {k : Nat} : (s.dgBadTag k).net.dgQueue = s.net.dgQueue ∧ (s.dgBadTag k).net.senders = s.net.senders := by
  unfold State.dgBadTag State.dgReject
  extract_lets t old
  split
  · rw [State.ev_p_net]
    exact ⟨rfl, rfl⟩
  · exact ⟨rfl, rfl⟩

/- Checks 3 to 6: the device, the time, the window and the counter. -/

theorem State.dgChecks_of_otherDevice (h : nbit (leAt d 6 2) s.cfg.devNum = false) : s.dgChecks i d = s.bump Reg.cueDgOther :=
  if_pos (by simp [h])

section
variable (hdev : nbit (leAt d 6 2) s.cfg.devNum = true)
include hdev

theorem State.dgChecks_of_noTime (h : s.timeValid = false) : s.dgChecks i d = s.bump Reg.cueDgNoTime := by
  unfold State.dgChecks
  rw [if_neg (by simp [hdev]), if_pos (by simp [h])]

variable (htime : s.timeValid = true)
include htime

theorem State.dgChecks_of_stale (h : s.cueWindow * 1000000 < (splitDiff (leAt d 20 5) s.split).natAbs) :
    s.dgChecks i d = s.bump Reg.cueDgStale := by
  unfold State.dgChecks
  rw [if_neg (by simp [hdev]), if_neg (by simp [htime]), if_pos h]

theorem State.dgChecks_of_window (h : (splitDiff (leAt d 20 5) s.split).natAbs ≤ s.cueWindow * 1000000) :
    s.dgChecks i d = s.dgCount i d := by
  unfold State.dgChecks
  rw [if_neg (by simp [hdev]), if_neg (by simp [htime]), if_neg (Nat.not_lt.2 h)]

end

/-- The state as a datagram newer than the last of its sender is accepted, 20 µs from now. -/
def State.dgAccepted (s : State) (i : Nat) (d : List Byte) : State :=
  { s.bump Reg.cueDgAccepted with net := { s.net with
      senders := setAt s.net.senders (beAt d 8 1) ⟨some (leAt d 12 8), d, s.ticks, i⟩
      dgQueue := s.net.dgQueue ++ [⟨s.ticks + 20 * usT, d⟩] } }

theorem State.dgCount_of_newer
    (h : ∀ l, (s.net.senders.getD (beAt d 8 1) ⟨none, [], 0, 0⟩).last = some l → l < leAt d 12 8) :
    s.dgCount i d = s.dgAccepted i d := by
  unfold State.dgCount
  extract_lets k n x fresh
  refine if_pos ?_
  unfold fresh
  split
  next l hl => exact decide_eq_true (h l hl)
  next => rfl

theorem State.dgAccepted_keeps : Keeps (partMask [.cnt, .net]) s (s.dgAccepted i d) :=
  (State.bump_keeps (a1 := Reg.cueDgAccepted).mono rfl).andThen Keeps.net rfl

end

/-- Settles O33: the checks of `State.cueDatagram` and, once the tag has been noted, those of `State.dgChecks`, one lemma for each that
fails; a datagram that passes them is `State.dgAccepted`. -/
theorem cueDatagramChecks : Obligations.CueDatagramChecks := by
  intro s sub d hon hcfg
  have hexec : exec (.cueDatagramRx sub d) s = _ := execCueDatagramRx_of_on hon
  rw [hexec]
  refine ⟨fun hd => by rw [State.cueDatagram_of_malformed hcfg hd], fun hd => ⟨fun ht => ?_, fun ht => ?_⟩⟩
  · rw [State.cueDatagram_of_badTag hcfg hd ht]
    obtain ⟨hqueue, hsenders⟩ := State.dgBadTag_net (s := s) (k := beAt d 8 1)
    exact ⟨_, rfl, hqueue, hsenders, State.dgBadTag_keeps.only_parts rfl⟩
  · rw [State.cueDatagram_of_tag hcfg hd ht]
    let t := s.dgNote (beAt d 8 1)
    refine ⟨fun hdev => congrArg _ (State.dgChecks_of_otherDevice (s := t) hdev), fun hdev =>
      ⟨fun htime => congrArg _ (State.dgChecks_of_noTime (s := t) hdev htime), fun htime =>
      ⟨fun hstale => congrArg _ (State.dgChecks_of_stale (s := t) hdev htime hstale), fun hwindow hnew => ?_⟩⟩⟩
    rw [State.dgChecks_of_window (s := t) hdev htime hwindow, State.dgCount_of_newer (s := t) hnew]
    have hkeeps : Keeps (partMask [.cnt, .net]) s (t.dgAccepted sub d) :=
      (State.dgNote_keeps.mono rfl).andThen State.dgAccepted_keeps rfl
    exact ⟨_, rfl, rfl, rfl, rfl, hkeeps.only_parts rfl⟩

end Sys2Proof.Machine
end

section
/-! SUPPORT. Ethernet frames in (R198 to R200, R220): the checks of the MAC, what is taken in, the answer to ARP, and a sub-port whose link
changes. -/

namespace Sys2Proof.Machine

section
variable {s : State}

/- A frame at the MAC (R198, R199). -/

/-- A frame of an allowed size with a good FCS that is no PAUSE frame (R199). -/
def MacGood (rx : EthRx) (d : List Byte) : Prop :=
  rx.errored = false ∧ 64 ≤ d.length ∧ d.length ≤ 9216 ∧ leAt d (d.length - 4) 4 = (crc32 (d.take (d.length - 4))).toNat ∧
    beAt d 12 2 ≠ 0x8808

/-- The state as a frame comes off the PCS, the corrections of its FEC counted (R198). -/
def State.fecCounted (s : State) (e : Nat) (rx : EthRx) : State :=
  (s.bumpN (Reg.fecCorrected e) rx.corrected).bumpN (Reg.fecUncorrected e) rx.lost

/-- A good frame without its FCS, opened where its port has MACsec, is taken in (R199, R201). -/
def State.macTake (s : State) (i phase : Nat) (f : List Byte) : State :=
  if s.macsecOn (i / 2) then
    match s.macsecOpen (i / 2) f with
    | none => s.bump (Reg.macsecDiscards (i / 2))
    | some (p, t) => t.ethTake i phase (f.take 6) p
  else s.ethTake i phase (f.take 6) (f.drop 12)

section
variable {i phase : Nat} {f : List Byte}

theorem State.macTake_of_plain (h : s.macsecOn (i / 2) = false) : s.macTake i phase f = s.ethTake i phase (f.take 6) (f.drop 12) :=
  if_neg (ne_true_of_eq_false h)

variable (h : s.macsecOn (i / 2) = true)
include h

theorem State.macTake_of_closed (hopen : s.macsecOpen (i / 2) f = none) :
    s.macTake i phase f = s.bump (Reg.macsecDiscards (i / 2)) := by
  unfold State.macTake
  rw [if_pos h, hopen]

theorem State.macTake_of_opened {p : List Byte} {t : State} (hopen : s.macsecOpen (i / 2) f = some (p, t)) :
    s.macTake i phase f = t.ethTake i phase (f.take 6) p := by
  unfold State.macTake
  rw [if_pos h, hopen]

end

section
variable {i : Fin 8} {rx : EthRx} {d : List Byte}

theorem execEthFrameRx_of_off (h : s.subOn i = false) : execEthFrameRx i rx d s = .next s := if_pos (by simp [h])

section
variable (hon : s.subOn i = true)
include hon

theorem execEthFrameRx_of_full (hfull : rx.full = true) :
    execEthFrameRx i rx d s = .next ((s.fecCounted (i / 2) rx).elasticLoss 2) := by
  unfold execEthFrameRx
  rw [if_neg (by simp [hon])]
  exact if_pos hfull

variable (hfull : rx.full = false)
include hfull

theorem execEthFrameRx_of_bad (h : ¬ MacGood rx d) :
    execEthFrameRx i rx d s = .next ((s.fecCounted (i / 2) rx).bump (Reg.rxDiscards (i / 2))) := by
  unfold execEthFrameRx
  rw [if_neg (by simp [hon])]
  refine (if_neg (ne_true_of_eq_false hfull)).trans (if_pos ?_)
  by_contra hno
  exact h (by simpa [MacGood, and_assoc] using hno)

theorem execEthFrameRx_of_good (h : MacGood rx d) :
    execEthFrameRx i rx d s = .next ((s.fecCounted (i / 2) rx).macTake i rx.phase (d.take (d.length - 4))) := by
  obtain ⟨herr, hshort, hlong, hfcs, hpause⟩ := h
  unfold execEthFrameRx State.macTake State.fecCounted
  rw [if_neg (by simp [hon])]
  refine ((if_neg (ne_true_of_eq_false hfull)).trans
    (if_neg (by simp [herr, hfcs, hpause, Nat.not_lt.2 hshort, Nat.not_lt.2 hlong]))).trans ?_
  rw [apply_ite Host.Outcome.next]
  refine if_congr Iff.rfl ?_ rfl
  generalize State.macsecOpen _ _ _ = opened
  cases opened <;> rfl

end

end

/- A frame taken in (R199, R200). -/

section
variable {i ph : Nat} {da p : List Byte}

theorem State.ethTake_of_otherVlan (h : vlanTake (s.ethVid (i / 2)) p = none) : s.ethTake i ph da p = s.bump (Reg.rxDiscards (i / 2)) := by
  unfold State.ethTake
  rw [h]
  rfl

theorem State.ethTake_of_vlan {t : Nat} {b : List Byte} (h : vlanTake (s.ethVid (i / 2)) p = some (t, b)) : s.ethTake i ph da p =
    if s.macOk i da t = false then s.bump (Reg.rxDiscards (i / 2)) else if t = 0x0806 then s.arp i b
    else if t = 0x0800 then s.ipTake i ph b else s.bump (Reg.rxDiscards (i / 2)) := by
  unfold State.ethTake
  rw [h]
  simp only [Bool.not_eq_true', beq_iff_eq]
  rfl

end

/- ARP (R200). -/

section
variable {i : Nat} {d : List Byte}

/-- An ARP request for the address of a sub-port that has one. -/
def State.ArpAsks (s : State) (i : Nat) (d : List Byte) : Prop :=
  28 ≤ d.length ∧ beAt d 0 2 = 1 ∧ beAt d 2 2 = 0x0800 ∧ leAt d 4 1 = 6 ∧ leAt d 5 1 = 4 ∧ beAt d 6 2 = 1 ∧
    beAt d 24 4 = s.ip i ∧ s.ip i ≠ 0

theorem State.arp_of_other (h : ¬ s.ArpAsks i d) : s.arp i d = s := by
  refine if_pos ?_
  by_contra hno
  exact h (by simpa [State.ArpAsks, and_assoc] using hno)

theorem State.arp_of_request (h : s.ArpAsks i d) : s.arp i d = s.ethSend i (slice d 8 6) 0x0806
    ([0, 1, 8, 0, 6, 4, 0, 2] ++ s.mac (i / 2) ++ beBytes 4 (s.ip i) ++ slice d 8 6 ++ slice d 14 4) := by
  obtain ⟨hlen, hhw, hproto, hhlen, hplen, hop, haddr, hip⟩ := h
  exact if_neg (by simp [Nat.not_lt.2 hlen, hhw, hproto, hhlen, hplen, hop, haddr, hip])

end

/- A link change (R213, R220). -/

section
variable {i : Fin 8} {up hi : Bool}

/-- A sub-port with its link state set. -/
def State.linkSet (s : State) (i : Nat) (up hi : Bool) : State := s.modSub i fun p => { p with up := up, hiSer := hi }

/-- The records of the groups of a sub-port that comes up. -/
def State.groupsAnew (s : State) (i : Nat) : List GroupRec := (s.sub i).groups.flatMap fun g => groupChange g.1 none (some g.2)

/-- A sub-port that has come up, recorded, its groups still to be reported once more. -/
def State.linkUp (s : State) (i : Nat) (hi : Bool) (recs : List GroupRec) : State :=
  ((s.linkSet i true hi).evtAt (srcSub i) Ev.ethLinkUp [i / 2, i % 2]).modSub i fun p => { p with again := recs, repTick := s.ticks }

theorem State.groupsAnew_linkSet_evtAt {code : Nat} {args : List Nat} :
    ((s.linkSet i up hi).evtAt (srcSub i) code args).groupsAnew i = s.groupsAnew i := by
  have hsub : ((s.linkSet i up hi).evtAt (srcSub i) code args).sub i = (s.linkSet i up hi).sub i :=
    congrArg (·.subs.getD i .reset) State.evtAt_p_net
  unfold State.groupsAnew
  rw [hsub, State.linkSet, State.sub_modSub]
  split <;> rfl

theorem execEthLinkChange_of_off (h : s.subOn i = false) : execEthLinkChange i up hi s = .next s := if_pos (by simp [h])

section
variable (hon : s.subOn i = true)
include hon

theorem execEthLinkChange_of_same (h : up = (s.sub i).up) : execEthLinkChange i up hi s = .next (s.linkSet i up hi) := by
  unfold execEthLinkChange
  rw [if_neg (by simp [hon])]
  exact if_pos (beq_iff_eq.2 h)

theorem execEthLinkChange_of_down (hup : up = false) (h : (s.sub i).up = true) :
    execEthLinkChange i up hi s = .next ((s.linkSet i up hi).evtAt (srcSub i) Ev.ethLinkDown [i / 2, i % 2]) := by
  unfold execEthLinkChange
  rw [if_neg (by simp [hon])]
  exact (if_neg (by simp [hup, h])).trans (if_pos (by simp [hup]))

theorem execEthLinkChange_of_up (h : (s.sub i).up = false) :
    execEthLinkChange i true hi s = .next ((s.linkUp i hi (s.groupsAnew i)).igmpReport i (s.groupsAnew i)) := by
  unfold execEthLinkChange
  rw [if_neg (by simp [hon])]
  refine (if_neg (by simp [h])).trans ((if_neg (by decide)).trans ?_)
  let t := (s.linkSet i true hi).evtAt (srcSub i) Ev.ethLinkUp [i / 2, i % 2]
  have hrecs : t.groupsAnew i = s.groupsAnew i := State.groupsAnew_linkSet_evtAt
  have hticks : t.ticks = s.ticks := State.evtAt_p_ticks
  unfold State.linkUp
  rw [← hrecs, ← hticks]
  rfl

end

theorem State.linkUp_net {recs : List GroupRec} : (s.linkUp i hi recs).net = { (s.linkSet i true hi).net with
    subs := modAt (s.linkSet i true hi).net.subs i fun p => { p with again := recs, repTick := s.ticks } } := by
  unfold State.linkUp State.modSub
  rw [State.evtAt_p_net]

theorem State.linkUp_keeps {recs : List GroupRec} : Keeps (partMask [.cnt, .evt, .net]) s (s.linkUp i hi recs) :=
  have hset : Keeps (partMask [.cnt, .evt, .net]) s (s.linkSet i true hi) := State.modSub_keeps.mono rfl
  (hset.andThen State.evtAt_keeps rfl).andThen State.modSub_keeps rfl

end

end

/-- Settles O39: the branches of ETH_FRAME_RX and of `State.ethTake` in the order of R198 to R200, `State.arp` by whether it is asked, and
a link change by its two ends (the layouts of Ethernet and ARP are log entry 27, the second report at link-up log entry 83). -/
theorem ethernetFramesIn : Obligations.EthernetFramesIn := by
  intro s i
  refine ⟨fun hoff => ⟨fun rx d => execEthFrameRx_of_off hoff, fun up hi => execEthLinkChange_of_off hoff⟩, fun hon rx d => ?_,
    fun ph da p => ⟨State.ethTake_of_otherVlan, fun t b => State.ethTake_of_vlan⟩,
    fun d => ⟨fun h => congrArg _ (State.arp_of_other h), fun h => congrArg _ (State.arp_of_request h)⟩, fun hon up hi => ?_⟩
  · refine ⟨execEthFrameRx_of_full hon, execEthFrameRx_of_bad hon, fun hfull hgood => ?_⟩
    have hexec : exec (.ethFrameRx i rx d) s = _ := execEthFrameRx_of_good hon hfull hgood
    rw [hexec]
    let x := s.fecCounted (i / 2) rx
    exact ⟨fun h => congrArg Host.Outcome.next (State.macTake_of_plain (s := x) h),
      fun h hno => congrArg Host.Outcome.next (State.macTake_of_closed (s := x) h hno),
      fun h p y hopen => congrArg Host.Outcome.next (State.macTake_of_opened (s := x) h hopen)⟩
  · refine ⟨execEthLinkChange_of_same hon, execEthLinkChange_of_down hon, fun hup hwas _ => ?_⟩
    subst hup
    exact ⟨_, State.linkUp_net, State.linkUp_keeps.only_parts rfl, execEthLinkChange_of_up hon hwas⟩

end Sys2Proof.Machine
end

section
/-! SUPPORT. IGMP queries and their answers (R213), a flow left after its 2 s (R212), and a path that goes silent (R211). -/

namespace Sys2Proof.Machine

section
variable {s : State} {i : Nat} {d : List Byte}

/- An IGMP message (R213). -/

/-- A query with a good checksum on a running sub-port. -/
def State.IgmpAsks (s : State) (i : Nat) (d : List Byte) : Prop :=
  leAt d 0 1 = 0x11 ∧ 8 ≤ d.length ∧ fold16 (sum16 d) = 65535 ∧ s.subOn i = true

/-- The current state of the groups of a sub-port that a query names, cut to some sources. -/
def State.groupsAsked (s : State) (i : Nat) (d : List Byte) (srcs : List Nat) : List GroupRec :=
  ((s.sub i).groups.filter fun x => beAt d 4 4 == 0 || x.1 == beAt d 4 4).flatMap fun x => queryRec x.1 x.2 srcs

/-- The sources that a version 3 query names. -/
def querySources (d : List Byte) : List Nat := (List.range (beAt d 10 2)).map fun k => beAt d (12 + 4 * k) 4

/-- An older querier recorded. -/
def State.oldQuerier (s : State) (i : Nat) (d : List Byte) : State :=
  (s.modSub i fun p => { p with oldTick := some s.ticks }).evtAt (srcSub i) Ev.igmpOldQuerier
    [i / 2, i % 2, if leAt d 1 1 = 0 then 1 else 2]

/-- Whether an older querier is to be recorded: none was within the last hour. -/
def State.oldQuerierDue (s : State) (i : Nat) : Bool :=
  match (s.sub i).oldTick with
  | none => true
  | some t => s.past t (3600 * secT)

theorem State.oldQuerierDue_of_recent {k : Nat} (hk : (s.sub i).oldTick = some k) (h : s.ticks < k + 3600 * 625000000) :
    s.oldQuerierDue i = false := by
  unfold State.oldQuerierDue
  rw [hk]
  exact decide_eq_false (Nat.not_le.2 h)

theorem State.oldQuerierDue_of_first (hk : (s.sub i).oldTick = none) : s.oldQuerierDue i = true := by
  unfold State.oldQuerierDue
  rw [hk]

theorem State.igmp_of_other (h : ¬ s.IgmpAsks i d) : s.igmp i d = s := by
  refine if_pos ?_
  by_contra hno
  exact h (by simpa [State.IgmpAsks, and_assoc] using hno)

section
variable (h : s.IgmpAsks i d)
include h

/-- A query goes on to its length. -/
theorem State.igmp_of_query : s.igmp i d =
    if 8 < d.length && d.length < 12 then s
    else if d.length < 12 then
      (if s.oldQuerierDue i then s.oldQuerier i d else s).igmpReport i (s.groupsAsked i d [])
    else s.igmpReport i (s.groupsAsked i d (querySources d)) := by
  obtain ⟨hkind, hlen, hsum, hon⟩ := h
  unfold State.igmp
  rw [if_neg (by simp [hkind, hsum, hon, Nat.not_lt.2 hlen])]
  simp only [beq_iff_eq]
  rfl

theorem State.igmp_of_v3 (hlen : 12 ≤ d.length) : s.igmp i d = s.igmpReport i (s.groupsAsked i d (querySources d)) := by
  rw [State.igmp_of_query h, if_neg (by simp [hlen]), if_neg (Nat.not_lt.2 hlen)]

theorem State.igmp_of_oddLength (hlong : 8 < d.length) (hshort : d.length < 12) : s.igmp i d = s := by
  rw [State.igmp_of_query h, if_pos (by simp [hlong, hshort])]

variable (hlen : d.length = 8)
include hlen

theorem State.igmp_of_old : s.igmp i d = (if s.oldQuerierDue i then s.oldQuerier i d else s).igmpReport i (s.groupsAsked i d []) := by
  rw [State.igmp_of_query h, if_neg (by simp [hlen]), if_pos (by omega)]

end

theorem State.oldQuerier_keeps : Keeps (partMask [.cnt, .evt, .net]) s (s.oldQuerier i d) :=
  have hset : Keeps (partMask [.cnt, .evt, .net]) s (s.modSub i fun p => { p with oldTick := some s.ticks }) := State.modSub_keeps.mono rfl
  hset.andThen State.evtAt_keeps rfl

end

section
variable {s : State} {f : Nat} {sec : Bool}

/- A flow left (R212). -/

theorem execFlowLeaveTimer_of_due {f : Fin 64} {k : Nat} (hk : (s.flow f).unused = some k) (hdue : k + 1250000000 ≤ s.ticks)
    (hw : s.flowWanted f = false) : execFlowLeaveTimer f s = .next (s.leaveFlow f).syncGroups := by
  unfold execFlowLeaveTimer
  rw [hk]
  have hpast : s.past k (2 * secT) = true := decide_eq_true hdue
  exact if_pos (by simp [hpast, hw])

/-- A flow that is left is on no path and receives no frame; its buffers are those no longer in use. -/
theorem State.flow_leaveFlow (hf : f < s.net.flows.length) : ∃ bufs, (s.leaveFlow f).flow f =
    { s.flow f with pri := { (s.flow f).pri with joined := false, last := none, miss := [] }
                    sec := { (s.flow f).sec with joined := false, last := none, miss := [] }
                    rx := [], acct := none, recv := [], unused := none, bufs := bufs } := by
  unfold State.leaveFlow
  obtain ⟨bufs, hfree, -⟩ := State.flow_freeBufs (s := s.modFlow f _) (State.length_modFlow.symm ▸ hf)
  rw [State.flow_modFlow_same hf] at hfree
  exact ⟨bufs, hfree⟩

/- A path that goes silent (R211). -/

/-- The numbers awaited too long on a path counted, where the flow has a record. -/
def State.pathCounted (s : State) (f : Nat) (sec : Bool) : State :=
  match s.flowRec? f with
  | some r => s.countPath f sec r
  | none => s

/-- A path of a flow no longer alive, and recorded. -/
def State.pathDown (s : State) (f : Nat) (sec : Bool) : State :=
  ((s.pathCounted f sec).modFlow f fun w => w.setPath sec { w.path sec with alive := false }).evtAt (srcFlow f) Ev.flowPathDown [f, b2n sec]

theorem execFlowPathTimeout_of_silent {f : Fin 64} (ha : ((s.flow f).path sec).alive = true)
    (hdue : ((s.flow f).path sec).tick + 625000000 ≤ s.ticks) : execFlowPathTimeout f sec s = .next (s.pathDown f sec) := by
  have hpast : s.past ((s.flow f).path sec).tick secT = true := decide_eq_true hdue
  unfold execFlowPathTimeout State.pathDown
  refine (if_neg ?_).trans ?_
  · unfold Flow.path at ha hpast
    simp [ha, hpast]
  · cases sec <;> rfl

theorem State.pathCounted_keeps : Keeps (partMask [.cnt, .net]) s (s.pathCounted f sec) := by
  unfold State.pathCounted
  split
  · exact State.countPath_keeps.mono rfl
  · exact .refl

theorem State.flow_pathCounted (hf : f < s.net.flows.length) : (s.pathCounted f sec).net.flows.length = s.net.flows.length ∧
    ∃ miss, (s.pathCounted f sec).flow f = (s.flow f).setPath sec { (s.flow f).path sec with miss := miss } := by
  unfold State.pathCounted
  split
  · exact ⟨State.length_countPath, State.flow_countPath hf⟩
  · exact ⟨rfl, ((s.flow f).path sec).miss, by cases sec <;> rfl⟩

theorem State.pathDown_keeps : Keeps (partMask [.cnt, .evt, .net]) s (s.pathDown f sec) :=
  ((State.pathCounted_keeps.mono rfl).andThen State.modFlow_keeps rfl).andThen State.evtAt_keeps rfl

/-- A silent path stays joined; the flow's other path and its frames stay. -/
theorem State.flow_pathDown (hf : f < s.net.flows.length) : ∃ miss, (s.pathDown f sec).flow f =
    (s.flow f).setPath sec { (s.flow f).path sec with miss := miss, alive := false } := by
  obtain ⟨hlen, miss, hcount⟩ := State.flow_pathCounted (sec := sec) hf
  refine ⟨miss, ?_⟩
  unfold State.pathDown
  rw [State.flow_evtAt, State.flow_modFlow_same (hlen.symm ▸ hf), hcount, Flow.path_setPath, Flow.setPath_setPath]

end

/-- Settles O40: the branches of `State.igmp` by the message's length, and what each timer leaves once it is due (answers at once and the
second report are log entry 83, the lengths of queries log entry 27). -/
theorem groupQueriesAndTimers : Obligations.GroupQueriesAndTimers := by
  intro s
  refine ⟨fun i d => ?_, fun i => ⟨_, rfl, rfl⟩, fun f k hk hdue hw hf => ?_, fun f hf => ⟨fun ha hdue => ?_, fun ha hdue => ?_⟩⟩
  · refine ⟨fun h => congrArg _ (State.igmp_of_other h), fun h hlen => congrArg _ (State.igmp_of_v3 h hlen),
      fun h hlong hshort => congrArg _ (State.igmp_of_oddLength h hlong hshort), fun h hlen => ?_⟩
    have hexec : exec (.igmpQuery i d) s = _ := congrArg Host.Outcome.next (State.igmp_of_old h hlen)
    rw [hexec]
    refine ⟨fun k hk hrecent => ?_, fun hk => ⟨s.oldQuerier i d, ?_, State.oldQuerier_keeps.only_parts rfl, rfl⟩⟩
    · rw [if_neg (ne_true_of_eq_false (State.oldQuerierDue_of_recent hk hrecent))]
      rfl
    · rw [if_pos (State.oldQuerierDue_of_first hk)]
      rfl
  · obtain ⟨bufs, hleft⟩ := State.flow_leaveFlow hf
    refine ⟨s.leaveFlow f, execFlowLeaveTimer_of_due hk hdue hw, ?_⟩
    rw [hleft]
    exact ⟨rfl, rfl, rfl, rfl, rfl, rfl, rfl, rfl, State.leaveFlow_keeps.only_parts rfl⟩
  · obtain ⟨miss, hdown⟩ := State.flow_pathDown (sec := true) hf
    refine ⟨s.pathDown f true, execFlowPathTimeout_of_silent ha hdue, ?_⟩
    rw [hdown]
    exact ⟨rfl, rfl, rfl, rfl, rfl, State.pathDown_keeps.only_parts rfl⟩
  · obtain ⟨miss, hdown⟩ := State.flow_pathDown (sec := false) hf
    refine ⟨s.pathDown f false, execFlowPathTimeout_of_silent ha hdue, ?_⟩
    rw [hdown]
    exact ⟨rfl, rfl, rfl, rfl, rfl, State.pathDown_keeps.only_parts rfl⟩

end Sys2Proof.Machine
end

section
/-! SUPPORT. The local time counter as one number, what a tick adds to it (R222), and a settled state that has nothing more to settle. -/

namespace Sys2Proof.Machine

/-- The counter's fields are in range: nanoseconds below a second, the fraction in 32 bits, seconds in 48. -/
def TimeBase.InRange (t : TimeBase) : Prop := t.ns < 1000000000 ∧ t.frac < 2 ^ 32 ∧ t.sec < 2 ^ 48

/-- The counter as one number of 2^-32 ns. -/
def TimeBase.total (t : TimeBase) : Nat := (t.sec * 1000000000 + t.ns) * 2 ^ 32 + t.frac

section
variable {t : TimeBase}

/-- A tick leaves the fields in range, whatever they were. -/
theorem TimeBase.advance_inRange : t.advance.InRange :=
  ⟨Nat.mod_lt _ (by decide), Nat.mod_lt _ (by decide), Nat.mod_lt _ (by decide)⟩

/-- Both carries at once: what leaves the fraction goes to the nanoseconds, what leaves these to the seconds. -/
theorem TimeBase.advance_total : t.advance.total = (t.total + t.incr) % (2 ^ 48 * 1000000000 * 2 ^ 32) := by
  unfold TimeBase.advance TimeBase.total
  dsimp only
  omega

end

section
variable {s u : State}

theorem step_of_idle (h : s.pending = []) : step s = .next (tick s) := by
  unfold step
  rw [h]

theorem tick_tb (hu : s.settle = u) (h : u.boot.running = true) : (tick s).tb = u.tb.advance := by
  have k : (tick s).tb = s.settle.later.tb := (tick_keeps s).same .tb rfl
  rw [hu] at k
  exact k.trans (if_pos h)

/-- The counter, and what the turns of the memory, the host link and the NVM may change in a tick. -/
def tickParts : List Part := [.tb, .cnt, .mem, .host, .nvm, .out]

theorem tick_same (hu : s.settle = u) {p : Part} (hp : p ∉ tickParts) : p.same u (tick s) := by
  have hturns : (partMask tickParts).testBit p.code = false :=
    testBit_partMask_of_ne _ fun q hq hcode => hp (Part.code_injective hcode ▸ hq)
  have k : p.same s.settle.later (tick s) := ((tick_keeps s).mono (by rfl)).same p hturns
  rw [hu] at k
  have hlater : p.same u u.later := by
    cases p with
    | tb | cnt => exact absurd (by decide) hp
    | _ => rfl
  exact Part.same_trans hlater k

/- What a tick settles, where nothing is due. -/

theorem State.settleSource_of_chosen (h : s.tb.judge = false) : s.settleSource = s := if_neg (by simp [h])

theorem State.settleFences_of_retired (h : ∀ n < 16, (s.fence n).priorLive = false) : s.settleFences = s := by
  unfold State.settleFences
  refine List.foldlRecOn (motive := (· = s)) _ _ rfl fun t ht n hn => ?_
  subst ht
  exact if_neg (by simp [h n (List.mem_range.1 hn)])

theorem State.settleStage_of_entered (hstage : s.boot.stageDue = false) (hlimp : s.boot.limpDue = false) : s.settleStage = s := by
  unfold State.settleStage
  simp [hstage, hlimp]

theorem State.settleSlow_of_known (h : s.fab.slowDue = false) : s.settleSlow = s := if_pos (by simp [h])

end

/-- Settles O3: a tick from a settled state is `TimeBase.advance` of its counter, and each part of `State.settle` leaves a state in which it
finds nothing due (log entry 1 for the idle step). -/
theorem idleTickAdvancesTheCounter : Obligations.IdleTickAdvancesTheCounter := by
  refine ⟨?_, fun s hjudge hfences hstage hlimp hslow => ?_⟩
  · intro s hidle
    generalize hu : s.settle = settled
    intro u hrun _ _ _
    have htb : (tick s).tb = u.tb.advance := tick_tb hu hrun
    obtain ⟨hns, hfrac, hsec⟩ := TimeBase.advance_inRange (t := u.tb)
    refine ⟨tick s, step_of_idle hidle, ?_⟩
    rw [State.wall, htb]
    exact ⟨hns, hfrac, hsec, TimeBase.advance_total, rfl, rfl, rfl, tick_ticks s, fun p => tick_same hu⟩
  · unfold State.settle
    rw [State.settleSource_of_chosen hjudge, State.settleFences_of_retired hfences, State.settleStage_of_entered hstage hlimp,
      State.settleSlow_of_known hslow]

end Sys2Proof.Machine
end

section
/-! SUPPORT. The registers of a snapshot (R225), and what LAPREF_IN's decoder makes of a pulse and of silence (R238 to R240). -/

namespace Sys2Proof.Machine

section
variable {s : State}

/-- The LAPREF_IN decoder changed. -/
def State.modLapref (s : State) (f : LapRef → LapRef) : State := { s with tb := { s.tb with lapref := f s.tb.lapref } }

theorem State.modLapref_keeps {f : LapRef → LapRef} : Keeps (partMask [.tb]) s (s.modLapref f) := Keeps.tb

/- The snapshot's registers. -/

theorem State.readTb_nowSec : s.readTb Reg.tbNowSecLo = some (Word.of (s.tb.snapSec % 2 ^ 32)) ∧
    s.readTb Reg.tbNowSecHi = some (Word.of (s.tb.snapSec / 2 ^ 32)) := ⟨rfl, rfl⟩

theorem State.readTb_nowFrac : s.readTb Reg.tbNowFrac = some (Word.of s.tb.snapFrac) := rfl

theorem State.readTb_split : s.readTb Reg.tbSplitLo = some (Word.of (splitOf ((s.tb.snapSec * giga + s.tb.snapNs : Nat) : Int) % 2 ^ 32)) ∧
    s.readTb Reg.tbSplitHi = some (Word.of (splitOf ((s.tb.snapSec * giga + s.tb.snapNs : Nat) : Int) / 2 ^ 32)) := ⟨rfl, rfl⟩

/- A pulse (R238). -/

/-- A width outside the three windows of Table 8.5 is no symbol. -/
theorem laprefSym_eq_three_iff {w : Nat} : laprefSym w = 3 ↔ ¬ (10 ≤ w ∧ w ≤ 30 ∨ 50 ≤ w ∧ w ≤ 70 ∨ 90 ≤ w ∧ w ≤ 110) := by
  unfold laprefSym
  simp only [Bool.and_eq_true, decide_eq_true_eq]
  split_ifs <;> simp <;> omega

section
variable {w : Nat} {ph : Fin 8}

/-- A pulse that is no symbol, or one whose edge is more than 1 ms from a whole second once a word has been decoded. -/
def State.PulseBad (s : State) (w : Nat) (ph : Fin 8) : Prop :=
  laprefSym w = 3 ∨ s.tb.lapref.decoded = true ∧ 1000000 < phaseNs (s.stamp10 ph)

/-- The decoder with a pulse's width and symbol noted. -/
def LapRef.noted (l : LapRef) (w : Nat) : LapRef := { l with width := min w 65535, sym := laprefSym w }

theorem execLaprefPulse_of_bad (h : s.PulseBad w ph) : execLaprefPulse w ph s =
    .next ((s.modLapref fun l => { l.noted w with word := none }).bump Reg.laprefBad) :=
  if_pos (by simpa [State.PulseBad] using h)

theorem execLaprefPulse_of_usable (h : ¬ s.PulseBad w ph) : execLaprefPulse w ph s =
    .next ((s.modLapref (·.noted w)).laprefEdge (laprefSym w) (s.stamp10 ph)) :=
  if_neg (by simpa [State.PulseBad] using h)

end

/- Edges (R239, R240). -/

/-- The decoder after its first edge: a marker begins a word, and one second is valid. -/
def LapRef.begun (l : LapRef) (sym now : Nat) : LapRef :=
  { l with mark := if sym = 2 then some now else l.mark, word := if sym = 2 then some [] else none, run := 1, edgeTick := some now }

theorem nextWord_of_first {w : Option (List Bool)} {sym : Nat} : nextWord w sym 0 = if sym = 2 then some [] else none := by
  unfold nextWord
  by_cases h : sym = 2 <;> simp [h]

theorem State.laprefEdge_of_first {sym : Nat} {at10 : Int} (hdec : s.tb.lapref.decoded = false) (hedge : s.tb.lapref.edgeTick = none) :
    s.laprefEdge sym at10 = s.modLapref (·.begun sym s.ticks) := by
  unfold State.laprefEdge State.modLapref LapRef.begun
  simp only [hedge, nextWord_of_first]
  by_cases h : sym = 2 <;> simp [h, hdec]

theorem execLaprefEdgeTimeout_of_silent {k : Nat} (hk : s.tb.lapref.edgeTick = some k) (hdue : k + 1250000000 ≤ s.ticks)
    (hrun : s.tb.lapref.run ≠ 0) : execLaprefEdgeTimeout s = .next ((s.modLapref fun l => { l with run := 0, word := none }).setQual 3 false) := by
  have hpast : s.past k (2 * secT) = true := decide_eq_true hdue
  unfold execLaprefEdgeTimeout
  rw [hk]
  exact if_pos (by simp [hpast, hrun])

end

/-- Settles O34: the registers of `State.snapshot`, the two answers to a pulse by `State.PulseBad`, the first edge as `LapRef.begun`, and the
silence after an edge (by log entry 94 a symbol is judged by its width). -/
theorem counterReadsAndReferencePulses : Obligations.CounterReadsAndReferencePulses := by
  intro s
  refine ⟨?_, fun w ph => ⟨laprefSym_eq_three_iff, fun hbad => ?_, fun hsym hdec _ hedge => ?_⟩, fun k hk hdue hrun => ?_⟩
  · obtain ⟨hlo, hhi⟩ := State.readTb_nowSec (s := s.snapshot)
    obtain ⟨hslo, hshi⟩ := State.readTb_split (s := s.snapshot)
    have hkeeps : Keeps (partMask [.tb, .out]) s (s.snapshot.send (.readWords [Word.of s.tb.ns])) :=
      (State.snapshot_keeps.mono rfl).andThen State.send_keeps rfl
    exact ⟨_, rfl, rfl, hlo, hhi, State.readTb_nowFrac (s := s.snapshot), hslo, hshi, rfl, hkeeps.only_parts rfl⟩
  · have hkeeps : Keeps (partMask [.cnt, .tb]) s ((s.modLapref fun l => { l.noted w with word := none }).bump Reg.laprefBad) :=
      (State.modLapref_keeps.mono rfl).andThen State.bump_keeps rfl
    exact ⟨_, execLaprefPulse_of_bad hbad, rfl, rfl, hkeeps.only_parts rfl⟩
  · have husable : ¬ s.PulseBad w ph := by simp [State.PulseBad, hsym, hdec]
    have hexec : exec (.laprefPulse w ph) s = _ := execLaprefPulse_of_usable husable
    rw [State.laprefEdge_of_first (s := s.modLapref (·.noted w)) hdec hedge] at hexec
    have hkeeps : Keeps (partMask [.tb]) s ((s.modLapref (·.noted w)).modLapref (·.begun (laprefSym w) s.ticks)) :=
      State.modLapref_keeps.andThen State.modLapref_keeps rfl
    exact ⟨_, hexec, rfl, rfl, hdec, rfl, rfl, hkeeps.only_parts rfl⟩
  · exact ⟨_, execLaprefEdgeTimeout_of_silent hk hdue hrun, rfl, State.modLapref_keeps.only_parts rfl⟩

end Sys2Proof.Machine
end

section
/-! SUPPORT. A re-step asked for and decided (R235, R236), and the selection brought up to date (R227, R228). -/

namespace Sys2Proof.Machine

section
variable {s : State}

/- A write to TB_RESTEP (R235). -/

/-- GO is refused: outside a large offset or a running plan, or with a re-step in progress. -/
def State.RestepBarred (s : State) : Prop :=
  s.tb.large = false ∨ s.tl.on = false ∨ s.boot.stage = 6 ∨ s.tl.stepB.isSome = true ∨ s.tl.stepHeld = true

theorem wbit_wput_go (w : Word) : wbit (wput w 0 0 1) 0 = true := by
  have := w.isLt
  unfold wbit wput wfld Word.of
  simp only [BitVec.toNat_ofNat, Nat.shiftRight_zero, beq_iff_eq]
  omega

theorem execTbRestep_of_barred {v : Word} (h : s.RestepBarred) : execTbRestep v s = .next (s.bump Reg.restepRefused) := by
  unfold execTbRestep State.writeRestep
  rw [wbit_wput_go]
  refine congrArg _ ((if_neg (by decide)).trans (if_pos ?_))
  simpa [State.RestepBarred, or_assoc] using h

theorem execTbRestep_of_open {v : Word} (h : ¬ s.RestepBarred) : execTbRestep v s = .next s.askStep := by
  unfold execTbRestep State.writeRestep
  rw [wbit_wput_go]
  refine congrArg _ ((if_neg (by decide)).trans (if_neg ?_))
  simpa [State.RestepBarred, or_assoc] using h

theorem State.askStep_of_fixed (h : s.changeFixed = true) : s.askStep = { s with tl := { s.tl with stepHeld := true } } := if_pos h

theorem State.askStep_of_free (h : s.changeFixed = false) : s.askStep = s.acceptStep := if_neg (by simp [h])

/-- A request accepted with no plan cue fixed: a cue that is pending is held. -/
theorem State.acceptStep_tl (h : s.tl.fixed = false) : s.acceptStep.tl = { s.tl with
    stepB := some (s.changeAt s.wall), stepGo := none, stepHeld := false
    held := if s.tl.pend.isSome then s.tl.pend else s.tl.held, pend := none } := by
  unfold State.acceptStep
  cases hp : s.tl.pend <;> simp [h]

/- The decision point (R236). -/

/-- A re-step cancelled, and recorded. -/
def State.stepCancelled (s : State) : State :=
  { s with tl := { s.tl with stepGo := some false }, tb := { s.tb with firstDue := false } }.ev Ev.restepCancelled [sat32 s.tb.est]

theorem State.stepCancelled_keeps : Keeps (partMask [.cnt, .evt, .tb, .tl]) s s.stepCancelled :=
  (Keeps.tb_tl.mono rfl).andThen State.ev_keeps rfl

theorem execRestepDecisionPoint_of_due {b : Int} (hb : s.tl.stepB = some b) (hgo : s.tl.stepGo = none) (hdue : b - 2000000 ≤ s.wall) :
    execRestepDecisionPoint s = if s.tb.est.natAbs < 1000 then .next s.stepCancelled
      else .next { s with tl := { s.tl with stepGo := some true } } := by
  unfold execRestepDecisionPoint State.stepCancelled
  rw [hb, hgo]
  exact if_neg (Int.not_lt.2 hdue)

/- The choice of source (R227, R228). -/

/-- A newly chosen source in force, recorded and counted; 0 is none. -/
def State.sourceTaken (s : State) (n : Nat) : State :=
  ({ s with tb := { s.tb with judge := false, sel := n, prev := if n == 0 then s.tb.prev else n } }.ev Ev.tbSourceChange [s.tb.sel, n]).bump
    Reg.tbSwitches

theorem State.sourceTaken_tb {n : Nat} : (s.sourceTaken n).tb =
    { s.tb with judge := false, sel := n, prev := if n == 0 then s.tb.prev else n } := by
  rw [State.sourceTaken, State.bump_tb, State.ev_p_tb]

theorem State.sourceTaken_keeps {n : Nat} : Keeps (partMask [.cnt, .evt, .tb]) s (s.sourceTaken n) :=
  ((Keeps.tb.mono rfl).andThen State.ev_keeps rfl).andThen State.bump_keeps rfl

/-- Holdover: no source left, recorded once the counter has been stepped. -/
def State.heldOver (s : State) : State := if s.tb.stepped then (s.sourceTaken 0).ev Ev.tbHoldover [s.tb.sel] else s.sourceTaken 0

theorem State.heldOver_tb : s.heldOver.tb = { s.tb with sel := 0, judge := false } := by
  unfold State.heldOver
  split
  · exact State.ev_p_tb.trans State.sourceTaken_tb
  · exact State.sourceTaken_tb

theorem State.heldOver_keeps : Keeps (partMask [.cnt, .evt, .tb]) s s.heldOver :=
  Keeps.ite (fun _ => State.sourceTaken_keeps.andThen State.ev_keeps rfl) fun _ => State.sourceTaken_keeps

theorem State.select_of_same (h : s.nextSel = s.tb.sel) : s.select = { s with tb := { s.tb with judge := false } } := if_pos (beq_iff_eq.2 h)

theorem State.select_of_none (hne : s.nextSel ≠ s.tb.sel) (h : s.nextSel = 0) : s.select = s.heldOver := by
  have hstepped : (s.sourceTaken 0).tb.stepped = s.tb.stepped := by rw [State.sourceTaken_tb]
  unfold State.heldOver
  rw [← hstepped]
  unfold State.select
  rw [h] at hne ⊢
  exact (if_neg (by simpa using hne)).trans (if_pos rfl)

theorem State.select_of_some {n : Nat} (hne : n + 1 ≠ s.tb.sel) (h : s.nextSel = n + 1) :
    s.select = (s.sourceTaken (n + 1)).judgeLarge.firstStep := by
  unfold State.select
  rw [h]
  exact (if_neg (by simpa using hne)).trans (if_neg (by simp))

/-- Judging the offset changes OFFSET_LARGE alone in the time base (R234). -/
theorem State.judgeLarge_tb : ∃ b, s.judgeLarge.tb = { s.tb with large := b } := by
  unfold State.judgeLarge
  extract_lets o
  split
  · exact ⟨true, State.ev_p_tb⟩
  · split
    · exact ⟨false, rfl⟩
    · exact ⟨s.tb.large, rfl⟩

/-- The first step is made once (R232). -/
theorem State.firstStep_of_stepped (h : s.tb.stepped = true) : s.firstStep = s := if_pos (by simp [h])

/-- Once the counter has been stepped, a new source is taken and its offset judged, and nothing else. -/
theorem State.select_of_stepped {n : Nat} (hne : n + 1 ≠ s.tb.sel) (h : s.nextSel = n + 1) (hs : s.tb.stepped = true) :
    s.select = (s.sourceTaken (n + 1)).judgeLarge := by
  obtain ⟨b, hlarge⟩ := State.judgeLarge_tb (s := s.sourceTaken (n + 1))
  rw [State.select_of_some hne h]
  refine State.firstStep_of_stepped ?_
  rw [hlarge, State.sourceTaken_tb]
  exact hs

end

/-- Settles O35: GO is refused by `State.RestepBarred` and otherwise `State.askStep`, the decision turns on the estimate, and a new choice is
`State.heldOver` or `State.sourceTaken`. -/
theorem restepsAndSources : Obligations.RestepsAndSources := by
  intro s
  refine ⟨fun v => ⟨execTbRestep_of_barred, fun hlarge hon hstage hstep hheld => ?_⟩, fun b hb hgo hdue => ?_,
    fun hsame => congrArg _ (State.select_of_same hsame), fun hne hnone => ?_, fun n hn hne hstepped => ?_⟩
  · have hopen : ¬ s.RestepBarred := by simp [State.RestepBarred, hlarge, hon, hstage, hstep, hheld]
    have hexec : exec (.tbRestep v) s = _ := execTbRestep_of_open hopen
    rw [hexec]
    refine ⟨fun hfixed => congrArg _ (State.askStep_of_fixed hfixed), fun hfree hunfixed => ?_⟩
    refine ⟨s.acceptStep, congrArg _ (State.askStep_of_free hfree), ?_⟩
    rw [State.acceptStep_tl hunfixed]
    exact ⟨rfl, rfl, rfl, rfl, State.acceptStep_keeps.only_parts rfl⟩
  · have hexec : exec .restepDecisionPoint s = _ := execRestepDecisionPoint_of_due hb hgo hdue
    rw [hexec]
    exact ⟨fun hsmall => ⟨s.stepCancelled, if_pos hsmall, State.ev_p_tl, State.ev_p_tb, State.stepCancelled_keeps.only_parts rfl⟩,
      fun hbig => if_neg (Nat.not_lt.2 hbig)⟩
  · exact ⟨s.heldOver, congrArg _ (State.select_of_none hne hnone), State.heldOver_tb, State.heldOver_keeps.only_parts rfl⟩
  · obtain ⟨b, hlarge⟩ := State.judgeLarge_tb (s := s.sourceTaken (n + 1))
    refine ⟨_, congrArg Host.Outcome.next (State.select_of_stepped hne hn hstepped), ?_⟩
    rw [hlarge, State.sourceTaken_tb]
    exact ⟨rfl, rfl, (State.sourceTaken_keeps.andThen State.judgeLarge_keeps rfl).only_parts rfl⟩

end Sys2Proof.Machine
end

section
/-! SUPPORT. One PTP slot changed, the counts of a slot's measurements, and what completes, asks for or misses one (R229, R230). -/

namespace Sys2Proof.Machine

section
variable {s : State} {a : Nat} {f : PtpSlot → PtpSlot}

/- One slot changed. -/

theorem State.length_modPtp : (s.modPtp a f).tb.ptp.length = s.tb.ptp.length := length_modAt ..

theorem State.ptp_modPtp_same (ha : a < s.tb.ptp.length) : (s.modPtp a f).ptp a = f (s.ptp a) :=
  (State.ptp_modPtp s a a f).trans (if_pos ⟨rfl, ha⟩)

theorem State.ptp_of_ptp_eq {t : State} (h : t.tb.ptp = s.tb.ptp) : t.ptp a = s.ptp a := congrArg (·.getD a .reset) h

/-- Only a slot of the device has a master. -/
theorem State.lt_length_of_sel {m : Nat × Nat} (h : (s.ptp a).sel = some m) : a < s.tb.ptp.length := by
  by_contra hout
  rw [State.ptp, List.getD_eq_default _ _ (Nat.not_lt.1 hout)] at h
  cases h

theorem State.setQual_ptp {i : Nat} {b : Bool} : (s.setQual i b).tb.ptp = s.tb.ptp := by
  unfold State.setQual
  extract_lets was qt
  split <;> rfl

theorem State.ptp_ptpLost (ha : a < s.tb.ptp.length) : (s.ptpLost a).ptp a = { s.ptp a with qual := false, good := 0 } :=
  (State.ptp_of_ptp_eq State.setQual_ptp).trans (State.ptp_modPtp_same ha)

theorem State.length_chooseMaster : (s.chooseMaster a).tb.ptp.length = s.tb.ptp.length := by
  unfold State.chooseMaster
  extract_lets p sel u
  split
  · rfl
  · rw [State.ev_p_tb]
    exact State.length_modPtp

/- The counts of a slot's measurements, which a step of the counter leaves (R232). -/

/-- Consecutive measurements, missed intervals and qualification. -/
def PtpSlot.counts (p : PtpSlot) : Nat × Nat × Bool := (p.good, p.missed, p.qual)

/-- The counts of every slot. -/
def TimeBase.counts (t : TimeBase) : List (Nat × Nat × Bool) := t.ptp.map PtpSlot.counts

theorem State.counts_ptp : (s.ptp a).counts = s.tb.counts.getD a PtpSlot.reset.counts := (List.getD_map ..).symm

theorem State.judgeLarge_counts : s.judgeLarge.tb.counts = s.tb.counts := by
  obtain ⟨b, hlarge⟩ := State.judgeLarge_tb (s := s)
  rw [hlarge]
  rfl

theorem State.applyStep_counts {d : Int} : (s.applyStep d).tb.counts = s.tb.counts := by
  unfold State.applyStep
  rw [State.judgeLarge_counts, State.ev_p_tb]
  exact List.map_map

theorem State.firstStep_counts : s.firstStep.tb.counts = s.tb.counts := by
  unfold State.firstStep
  split_ifs
  · rfl
  · exact State.applyStep_counts
  · rfl
  · rw [State.askStep_p_tb]
    rfl

/-- No count depends on the increment. -/
theorem State.setIncr_counts {x now : Nat} :
    ({ s with tb := { s.tb with incr := x, incrTick := now } } : State).tb.counts = s.tb.counts := rfl

theorem State.discipline_counts : s.discipline.tb.counts = s.tb.counts := by
  unfold State.discipline
  split
  · rfl
  · exact State.setIncr_counts

theorem State.newOffset_counts {i : Nat} {off : Int} : (s.newOffset i off).tb.counts = s.tb.counts := by
  unfold State.newOffset
  extract_lets u
  split
  · rw [State.firstStep_counts, State.discipline_counts, State.judgeLarge_counts]
    rfl
  · rfl

theorem State.setQual_counts {i : Nat} {b : Bool} : (s.setQual i b).tb.counts = s.tb.counts :=
  congrArg (List.map PtpSlot.counts) State.setQual_ptp

/- Measurements (R229). -/

section
variable {r : SyncRec} {t1 : Int}

/-- A measurement counts as one more in a row, ends the missed intervals, and qualifies the slot if it is the sixteenth. -/
theorem State.measured_counts (ha : a < s.tb.ptp.length) : ((s.measured a r t1).ptp a).counts =
    (min 16 ((s.ptp a).good + 1), 0, (s.ptp a).qual || decide (15 ≤ (s.ptp a).good)) := by
  have hsixteen : (min 16 ((s.ptp a).good + 1) == 16) = decide (15 ≤ (s.ptp a).good) := by
    rw [Bool.eq_iff_iff, beq_iff_eq, decide_eq_true_eq]
    omega
  unfold State.measured
  extract_lets p raw off rate good noted offset
  have hoffset : (offset.ptp a).counts = (noted.ptp a).counts := by
    rw [State.counts_ptp, State.counts_ptp]
    exact congrArg (·.getD a PtpSlot.reset.counts) State.newOffset_counts
  have hlast : ((if good == 16 then offset.setQual a true else offset).ptp a).counts = (offset.ptp a).counts := by
    split
    · rw [State.counts_ptp, State.setQual_counts, State.counts_ptp]
    · rfl
  rw [hlast, hoffset, State.ptp_modPtp_same ha, ← hsixteen]
  rfl

theorem State.tryMeasure_of_complete (hr : (s.ptp a).sync = some r) (ht : r.t1 = some t1) (hd : (s.ptp a).delayOk = true) :
    s.tryMeasure a = s.measured a r t1 := by
  unfold State.tryMeasure
  simp [hr, ht, hd]

theorem State.tryMeasure_of_noDelay (h : (s.ptp a).delayOk = false ∨ (s.ptp a).sync = none) : s.tryMeasure a = s := by
  unfold State.tryMeasure
  obtain hd | hnone := h
  · simp only [hd, Bool.false_eq_true, if_false]
    split
    · split <;> rfl
    · rfl
  · simp [hnone]

theorem State.tryMeasure_of_waiting (hr : (s.ptp a).sync = some r) (ht : r.t1 = none) : s.tryMeasure a = s := by
  unfold State.tryMeasure
  simp [hr, ht]

end

end

section
variable {s : State} {a : Fin 2} {ph : Fin 8}

/- Requests for a delay (R230). -/

/-- A slot that has sent a Delay_Req: its next sequence number, its departure stamp and its tick. -/
def State.delayAsked (s : State) (a : Fin 2) (ph : Fin 8) : State := s.modPtp a fun p => { p with
  dreqSeq := ((s.ptp a).dreqSeq + 1) % 65536, dreqT3 := some (s.txStamp (s.ptpSub a) ph), dreqTick := s.ticks }

/-- A slot that has sent a Pdelay_Req: as for a Delay_Req, and no response to an earlier one counts any more. -/
def State.pdelayAsked (s : State) (a : Fin 2) (ph : Fin 8) : State := s.modPtp a fun p => { p with
  dreqSeq := ((s.ptp a).dreqSeq + 1) % 65536, dreqT3 := some (s.txStamp (s.ptpSub a) ph), dreqTick := s.ticks, pdT2 := none }

theorem execDelayReqSend_of_due (hon : s.ptpOn a = true) (hmode : s.ptpP2p a = false) (hsel : (s.ptp a).sel.isSome = true)
    (hdue : (s.ptp a).dreqTick + max (logTicks (s.ptp a).dreqLog) (logTicks (s.ptpLog a)) ≤ s.ticks) :
    execDelayReqSend a ph s = .next ((s.delayAsked a ph).ptpSend a 319 false
      ((s.delayAsked a ph).ptpHead a 1 44 0 (((s.ptp a).dreqSeq + 1) % 65536) 0x7F 0 ++ List.replicate 10 0)) := by
  have hpast : s.past (s.ptp a).dreqTick (max (logTicks (s.ptp a).dreqLog) (logTicks (s.ptpLog a))) = true := decide_eq_true hdue
  have hsel' : (s.ptp a).sel.isNone = false := by simp [hsel]
  exact if_neg (by simp [hon, hmode, hsel', hpast])

theorem execPdelayReqSend_of_due (hon : s.ptpOn a = true) (hmode : s.ptpP2p a = true)
    (hdue : (s.ptp a).dreqTick + 625000000 ≤ s.ticks) : execPdelayReqSend a ph s = .next ((s.pdelayAsked a ph).ptpSend a 319 true
      ((s.pdelayAsked a ph).ptpHead a 2 54 0 (((s.ptp a).dreqSeq + 1) % 65536) 0x7F 0 ++ List.replicate 20 0)) := by
  have hpast : s.past (s.ptp a).dreqTick secT = true := decide_eq_true hdue
  exact if_neg (by simp [hon, hmode, hpast])

/- A master lost (R229). -/

/-- The masters of a slot that have fallen silent forgotten, and the timeout counted. -/
def State.mastersForgotten (s : State) (a : Fin 2) : State :=
  (s.modPtp a fun p => { p with masters := p.masters.filter fun x => !(s.masterLate a x) }).bump (Reg.announceTimeouts a)

theorem State.mastersForgotten_keeps : Keeps (partMask [.cnt, .tb]) s (s.mastersForgotten a) :=
  (State.modPtp_keeps.mono rfl).andThen State.bump_keeps rfl

theorem State.length_mastersForgotten : (s.mastersForgotten a).tb.ptp.length = s.tb.ptp.length := State.length_modPtp

theorem execAnnounceReceiptTimeout_of_master {m : Master}
    (hm : (s.ptp a).masters.find? (fun m => (s.ptp a).sel == some (m.clock, m.port)) = some m) :
    execAnnounceReceiptTimeout a s =
      if s.masterLate a m then .next (((s.mastersForgotten a).chooseMaster a).ptpLost a) else .next s := by
  unfold execAnnounceReceiptTimeout
  extract_lets p late
  rw [hm]
  rfl

/- An interval without a measurement (R229). -/

/-- A Sync interval without a measurement counted: it ends the run, and a new interval begins. -/
def State.syncMissed (s : State) (a : Fin 2) : State :=
  (s.modPtp a fun p => { p with missed := min 3 (p.missed + 1), good := 0, syncTick := s.ticks, meas := false }).bump (Reg.syncMissed a)

theorem State.syncMissed_keeps : Keeps (partMask [.cnt, .tb]) s (s.syncMissed a) :=
  (State.modPtp_keeps.mono rfl).andThen State.bump_keeps rfl

theorem execSyncIntervalMiss_of_due (hsel : (s.ptp a).sel.isSome = true)
    (hdue : (s.ptp a).syncTick + logTicks (s.ptp a).syncLog ≤ s.ticks) : execSyncIntervalMiss a s =
      .next (if 3 ≤ (s.ptp a).missed + 1 then (s.syncMissed a).ptpLost a else s.syncMissed a) := by
  have hpast : s.past (s.ptp a).syncTick (logTicks (s.ptp a).syncLog) = true := decide_eq_true hdue
  have hsel' : (s.ptp a).sel.isNone = false := by simp [hsel]
  exact if_neg (by simp [hsel', hpast])

/-- The third missed interval in a row ends the qualification. -/
theorem State.counts_of_syncMissed (ha : a < s.tb.ptp.length) :
    ((if 3 ≤ (s.ptp a).missed + 1 then (s.syncMissed a).ptpLost a else s.syncMissed a).ptp a).counts =
      (0, min 3 ((s.ptp a).missed + 1), (s.ptp a).qual && decide ((s.ptp a).missed < 2)) := by
  have hmissed : (s.syncMissed a).ptp a =
      { s.ptp a with missed := min 3 ((s.ptp a).missed + 1), good := 0, syncTick := s.ticks, meas := false } :=
    State.ptp_modPtp_same ha
  have hlen : a < (s.syncMissed a).tb.ptp.length := ha.trans_eq State.length_modPtp.symm
  split
  next hthird =>
    rw [State.ptp_ptpLost hlen, hmissed, decide_eq_false (by omega), Bool.and_false]
    rfl
  next hfew =>
    rw [hmissed, decide_eq_true (by omega), Bool.and_true]
    rfl

end

/-- Settles O38: a measurement's counts are `State.measured_counts`, which a step of the counter leaves; a request, a lost master and a missed
interval are `State.delayAsked`, `State.mastersForgotten` and `State.syncMissed` (log entry 27 for the bodies of requests). -/
theorem ptpMeasuringAndTimeouts : Obligations.PtpMeasuringAndTimeouts := by
  intro s a ha p
  refine ⟨fun r t1 => State.tryMeasure_of_complete, State.tryMeasure_of_noDelay, fun r t1 => ?_, fun ph hon hmode hsel hdue => ?_,
    fun ph hon hmode hdue => ?_, fun m hm => ⟨fun hearly => ?_, fun hlate => ?_⟩, fun hsel hdue => ?_⟩
  · have hcounts := State.measured_counts (r := r) (t1 := t1) ha
    exact ⟨congrArg (·.1) hcounts, congrArg (·.2.1) hcounts, congrArg (·.2.2) hcounts⟩
  · exact ⟨s.delayAsked a ph, execDelayReqSend_of_due hon hmode hsel hdue, State.ptp_modPtp_same ha, State.modPtp_keeps.only_parts rfl⟩
  · exact ⟨s.pdelayAsked a ph, execPdelayReqSend_of_due hon hmode hdue, State.ptp_modPtp_same ha, State.modPtp_keeps.only_parts rfl⟩
  · exact (execAnnounceReceiptTimeout_of_master hm).trans (if_neg (ne_true_of_eq_false hearly))
  · have hlen : a < ((s.mastersForgotten a).chooseMaster a).tb.ptp.length := by
      rwa [State.length_chooseMaster, State.length_mastersForgotten]
    refine ⟨s.mastersForgotten a, (execAnnounceReceiptTimeout_of_master hm).trans (if_pos hlate), State.ptp_modPtp_same ha, rfl,
      State.mastersForgotten_keeps.only_parts rfl, ?_⟩
    rw [State.ptp_ptpLost hlen]
  · have hcounts := State.counts_of_syncMissed ha
    refine ⟨_, execSyncIntervalMiss_of_due hsel hdue, congrArg (·.1) hcounts, congrArg (·.2.1) hcounts, congrArg (·.2.2) hcounts,
      fun hfew => ?_⟩
    rw [if_neg (Nat.not_le.2 (Nat.succ_lt_succ hfew))]
    exact ⟨rfl, State.syncMissed_keeps.only_parts rfl⟩

end Sys2Proof.Machine
end

section
/-! SUPPORT. A PTP message at its slot: what every message is checked for, and what each kind does to a slot of its domain (R229 to R231). -/

namespace Sys2Proof.Machine

section
variable {s : State} {i a t : Nat} {d : List Byte} {h : PtpHdr}

/- A message handed to the one slot of its sub-port (R230). -/

section
variable {f : State → Nat → PtpHdr → State} (hone : s.slotsOn i = [a])
include hone

theorem State.ptpEach_of_malformed (hparse : PtpHdr.parse d = none) : s.ptpEach i t d f = s.bump (Reg.badMessages a) := by
  unfold State.ptpEach
  rw [hone, List.foldl_cons, List.foldl_nil, hparse]

theorem State.ptpEach_of_parsed (hparse : PtpHdr.parse d = some h) :
    s.ptpEach i t d f = if h.type = t ∧ h.domain = s.ptpDomain a then f s a h else s := by
  unfold State.ptpEach
  rw [hone, List.foldl_cons, List.foldl_nil, hparse]
  simp only [Bool.and_eq_true, beq_iff_eq]

theorem State.ptpEach_of_otherDomain (hparse : PtpHdr.parse d = some h) (hdom : h.domain ≠ s.ptpDomain a) : s.ptpEach i t d f = s := by
  rw [State.ptpEach_of_parsed hone hparse, if_neg fun hboth => hdom hboth.2]

theorem State.ptpEach_of_own (hparse : PtpHdr.parse d = some h) (hdom : h.domain = s.ptpDomain a) (ht : h.type = t) :
    s.ptpEach i t d f = f s a h := by
  rw [State.ptpEach_of_parsed hone hparse, if_pos ⟨ht, hdom⟩]

theorem State.ptpEach_ignored (hparse : PtpHdr.parse d = some h) : s.ptpEach i t d (fun s _ _ => s) = s := by
  rw [State.ptpEach_of_parsed hone hparse, ite_self]

end

/-- The nine PTP messages as they arrive at a sub-port. -/
def ptpArrivals (i : Fin 8) (d : List Byte) (ph : Fin 8) : List Instr :=
  [.ptpAnnounce i d, .ptpSync i d ph, .ptpFollowUp i d, .ptpDelayResp i d, .ptpPdelayReq i d ph, .ptpPdelayResp i d ph,
    .ptpPdelayRespFollowUp i d, .ptpManagement i d, .ptpSignaling i d]

/-- Each of them is handed to the slots of its sub-port, whatever it then does. -/
theorem exec_eq_ptpEach {i ph : Fin 8} {c : Instr} (hc : c ∈ ptpArrivals i d ph) : ∃ t f, exec c s = .next (s.ptpEach i t d f) := by
  simp only [ptpArrivals, List.mem_cons, List.not_mem_nil, or_false] at hc
  obtain rfl | rfl | rfl | rfl | rfl | rfl | rfl | rfl | rfl := hc <;> exact ⟨_, _, rfl⟩

/- A slot changed twice, and a slot changed in two ways that agree on it. -/

theorem State.modPtp_modPtp {g k : PtpSlot → PtpSlot} : (s.modPtp a g).modPtp a k = s.modPtp a fun p => k (g p) :=
  congrArg (fun l => { s with tb := { s.tb with ptp := l } }) (List.modify_modify_eq g k a s.tb.ptp)

theorem State.modPtp_congr {g k : PtpSlot → PtpSlot} (hgk : g (s.ptp a) = k (s.ptp a)) : s.modPtp a g = s.modPtp a k := by
  have hlists : modAt s.tb.ptp a g = modAt s.tb.ptp a k := by
    refine List.ext_getElem? fun j => ?_
    unfold modAt
    rw [List.getElem?_modify, List.getElem?_modify]
    by_cases hj : a = j
    · subst hj
      cases hl : s.tb.ptp[a]? with
      | none => rfl
      | some p =>
        have hp : s.ptp a = p := by simp [State.ptp, hl]
        simp [← hp, hgk]
    · simp [hj]
  exact congrArg (fun l => { s with tb := { s.tb with ptp := l } }) hlists

/- Announce (R230). -/

/-- Whether a known master is the sender of a message. -/
def Master.sent (h : PtpHdr) (x : Master) : Bool := x.clock == h.clock && x.port == h.port

/-- A slot's masters as an Announce finds them: those that have fallen silent no longer count, but for the selected one and the sender. -/
def State.mastersKnown (s : State) (a : Nat) (h : PtpHdr) : List Master :=
  (s.ptp a).masters.filter fun x => !(s.masterLate a x) || (s.ptp a).sel == some (x.clock, x.port) || x.sent h

/-- The master that an Announce makes known. -/
def PtpHdr.announced (h : PtpHdr) (d : List Byte) (now : Nat) : Master :=
  { clock := h.clock, port := h.port, prio1 := leAt d 47 1, cls := leAt d 48 1, acc := leAt d 49 1, var := beAt d 50 2
    prio2 := leAt d 52 1, gm := beAt d 53 8, steps := beAt d 61 2, logInt := h.log, tick := now }

theorem State.announce_eq (ha : a < s.tb.ptp.length) : s.announce a h d =
    if (s.mastersKnown a h).any (·.sent h) = false ∧ 8 ≤ (s.mastersKnown a h).length then
      s.modPtp a fun p => { p with masters := s.mastersKnown a h }
    else (s.modPtp a fun p =>
      { p with masters := ((s.mastersKnown a h).filter fun x => !x.sent h) ++ [h.announced d s.ticks] }).chooseMaster a := by
  unfold State.announce
  extract_lets m cut p known rest
  have hcut : cut = s.modPtp a fun p => { p with masters := s.mastersKnown a h } := State.modPtp_congr rfl
  have hmasters : p.masters = s.mastersKnown a h := by
    unfold p
    rw [hcut, State.ptp_modPtp_same ha]
  have hknown : known = (s.mastersKnown a h).any (·.sent h) := congrArg (List.any · (·.sent h)) hmasters
  have hrest : rest = (s.mastersKnown a h).filter fun x => !x.sent h := congrArg (List.filter fun x => !x.sent h) hmasters
  rw [hcut, State.modPtp_modPtp, hrest, hknown, hmasters]
  exact if_congr (by simp) rfl rfl

theorem State.announce_of_full (ha : a < s.tb.ptp.length) (hnew : (s.mastersKnown a h).any (·.sent h) = false)
    (hfull : 8 ≤ (s.mastersKnown a h).length) : s.announce a h d = s.modPtp a fun p => { p with masters := s.mastersKnown a h } :=
  (State.announce_eq ha).trans (if_pos ⟨hnew, hfull⟩)

theorem State.announce_of_room (ha : a < s.tb.ptp.length)
    (hroom : (s.mastersKnown a h).any (·.sent h) = true ∨ (s.mastersKnown a h).length < 8) : s.announce a h d =
      (s.modPtp a fun p =>
        { p with masters := ((s.mastersKnown a h).filter fun x => !x.sent h) ++ [h.announced d s.ticks] }).chooseMaster a := by
  refine (State.announce_eq ha).trans (if_neg ?_)
  rintro ⟨hnew, hfull⟩
  obtain hknown | hfew := hroom
  · exact Bool.false_ne_true (hnew.symm.trans hknown)
  · exact Nat.not_lt.2 hfull hfew

/- Sync and Follow_Up (R230). -/

section
variable {ph : Nat}

/-- A Sync of the selected master kept, with its origin time where that is known. -/
def State.syncKept (s : State) (a ph : Nat) (h : PtpHdr) (t1 : Option Int) : State := s.modPtp a fun p =>
  { p with sync := some ⟨h.seq, s.rxStamp (s.ptpSub a) ph, h.corr, t1⟩, syncLog := h.log }

theorem State.syncMsg_of_other (hother : (s.ptp a).sel ≠ some (h.clock, h.port) ∨ h.log < -7 ∨ 1 < h.log) : s.syncMsg a ph h = s :=
  if_pos (by simpa [PtpSlot.fromMaster, or_assoc] using hother)

theorem State.syncMsg_of_master (hsel : (s.ptp a).sel = some (h.clock, h.port)) (hlow : -7 ≤ h.log) (hhigh : h.log ≤ 1) :
    s.syncMsg a ph h = (s.syncKept a ph h (if h.twoStep then none else some h.time)).tryMeasure a :=
  if_neg (by simp [PtpSlot.fromMaster, hsel, hlow, hhigh])

/-- A two-step Sync waits for its Follow_Up. -/
theorem State.tryMeasure_syncKept_none (ha : a < s.tb.ptp.length) : (s.syncKept a ph h none).tryMeasure a = s.syncKept a ph h none :=
  State.tryMeasure_of_waiting (congrArg PtpSlot.sync (State.ptp_modPtp_same ha)) rfl

end

theorem State.followUp_of_sync {r : SyncRec} (hr : (s.ptp a).sync = some r) (hsel : (s.ptp a).sel = some (h.clock, h.port))
    (hseq : r.seq = h.seq) (ht : r.t1 = none) : s.followUp a h =
      (s.modPtp a fun p => { p with sync := some { r with corr := r.corr + h.corr, t1 := some h.time } }).tryMeasure a := by
  unfold State.followUp
  extract_lets p
  rw [hr]
  exact if_neg (by simp [p, PtpSlot.fromMaster, hsel, hseq, ht])

/- Responses to the slot's own request (R230). -/

theorem State.delayResp_of_own {t3 t1 t2 : Int} (ht3 : (s.ptp a).dreqT3 = some t3) (hlast : (s.ptp a).last = some (t1, t2))
    (hmode : s.ptpP2p a = false) (hsel : (s.ptp a).sel = some (h.clock, h.port)) (hme : s.forMe a d = true)
    (hseq : h.seq = (s.ptp a).dreqSeq) : s.delayResp a h d =
      (s.modPtp a fun p => { p with dreqLog := h.log }).gotDelay a (((t2 - t1) + (h.time - h.corr - t3)) / 2) := by
  unfold State.delayResp
  extract_lets p
  rw [ht3, hlast]
  exact if_neg (by simp [p, PtpSlot.fromMaster, hsel, hmode, hme, hseq])

section
variable {t1 : Int} {ph : Nat} (ht1 : (s.ptp a).dreqT3 = some t1) (hmode : s.ptpP2p a = true) (hme : s.forMe a d = true)
  (hseq : h.seq = (s.ptp a).dreqSeq)
include ht1 hmode hme hseq

theorem State.pdelayResp_of_own : s.pdelayResp a ph h d =
    if h.twoStep then s.modPtp a fun p => { p with pdT2 := some (h.time - h.corr), pdT4 := s.rxStamp (s.ptpSub a) ph }
    else s.gotDelay a ((s.rxStamp (s.ptpSub a) ph - t1 - h.corr) / 2) := by
  unfold State.pdelayResp
  extract_lets p
  rw [ht1]
  exact if_neg (by simp [p, hmode, hme, hseq])

theorem State.pdelayFollow_of_own {r2 : Int} (hr2 : (s.ptp a).pdT2 = some r2) : s.pdelayFollow a h d =
    s.gotDelay a ((((s.ptp a).pdT4 - t1) - (h.time + h.corr - r2)) / 2) := by
  unfold State.pdelayFollow
  extract_lets p
  rw [ht1, hr2]
  exact if_neg (by simp [p, hmode, hme, hseq])

end

/- A peer's request (R230). -/

theorem State.pdelayReq_of_e2e {ph : Nat} (hmode : s.ptpP2p a = false) : s.pdelayReq a ph h d = s := if_pos (by simp [hmode])

/-- The first answer to a peer's request: a two-step Pdelay_Resp with the request's receive stamp. -/
def State.peerAnswered (s : State) (a ph : Nat) (h : PtpHdr) (d : List Byte) : State := s.ptpSend a 319 true
  (s.ptpHead a 3 54 0x0200 h.seq 0x7F 0 ++ timeBytes (s.rxStamp (s.ptpSub a) ph) ++ slice d 20 10)

theorem State.pdelayReq_of_p2p {ph : Nat} (hmode : s.ptpP2p a = true) : s.pdelayReq a ph h d =
    let x := s.peerAnswered a ph h d
    x.ptpSend a 320 true (x.ptpHead a 0xA 54 0 h.seq 0x7F (h.corr / 10) ++ timeBytes (x.txStamp (x.ptpSub a) 0) ++ slice d 20 10) :=
  if_neg (by simp [hmode])

end

/-- Settles O37: every message goes through `State.ptpEach`, and each kind has one lemma for what it does to a slot of its domain (log entry
27 for the layouts). -/
theorem ptpMessagesTaken : Obligations.PtpMessagesTaken := by
  intro s i ph a d hone
  refine ⟨fun hparse c hc => ?_, fun h hparse => ⟨congrArg _ (State.ptpEach_ignored hone hparse), congrArg _ (State.ptpEach_ignored hone hparse),
    fun hdom c hc => ?_, fun hdom => ?_⟩⟩
  · obtain ⟨t, f, hexec⟩ := exec_eq_ptpEach (s := s) (ph := ph) hc
    rw [hexec, State.ptpEach_of_malformed hone hparse]
  · obtain ⟨t, f, hexec⟩ := exec_eq_ptpEach (s := s) (ph := ph) (List.mem_append_left [.ptpManagement i d, .ptpSignaling i d] hc)
    rw [hexec, State.ptpEach_of_otherDomain hone hparse hdom]
  · intro p t2
    have hown {c t f} (hc : exec c s = .next (s.ptpEach i t d f)) (ht : h.type = t) : exec c s = .next (f s a h) :=
      hc.trans (congrArg _ (State.ptpEach_of_own hone hparse hdom ht))
    refine ⟨?_, fun ht => ?_, fun ht r hr hsel hseq hwait => ?_, fun ht t3 t1 t2' ht3 hlast hmode hsel hme hseq => ?_,
      fun ht t1 ht1 hmode hme hseq => ?_, fun ht t1 r2 ht1 hr2 hmode hme hseq => ?_, fun ht => ?_⟩
    · intro ht same known ha
      have hexec : exec (.ptpAnnounce i d) s = _ := hown rfl ht
      rw [hexec]
      exact ⟨fun hnew hfull => congrArg _ (State.announce_of_full ha hnew hfull),
        fun hroom => ⟨h.announced d s.ticks, rfl, rfl, rfl, rfl, rfl, rfl, rfl, rfl, congrArg _ (State.announce_of_room ha hroom)⟩⟩
    · have hexec : exec (.ptpSync i d ph) s = _ := hown rfl ht
      rw [hexec]
      refine ⟨fun hother => congrArg _ (State.syncMsg_of_other hother), fun hsel hlow hhigh => ?_⟩
      rw [State.syncMsg_of_master hsel hlow hhigh]
      refine ⟨fun htwo => congrArg _ ?_, fun hsingle => congrArg _ ?_⟩
      · rw [if_pos htwo]
        exact State.tryMeasure_syncKept_none (State.lt_length_of_sel hsel)
      · rw [if_neg (ne_true_of_eq_false hsingle)]
        rfl
    · exact (hown rfl ht).trans (congrArg _ (State.followUp_of_sync hr hsel hseq hwait))
    · exact (hown rfl ht).trans (congrArg _ (State.delayResp_of_own ht3 hlast hmode hsel hme hseq))
    · refine (hown rfl ht).trans ?_
      rw [State.pdelayResp_of_own ht1 hmode hme hseq]
    · exact (hown rfl ht).trans (congrArg _ (State.pdelayFollow_of_own ht1 hmode hme hseq hr2))
    · have hexec : exec (.ptpPdelayReq i d ph) s = _ := hown rfl ht
      rw [hexec]
      exact ⟨fun hmode => congrArg _ (State.pdelayReq_of_e2e hmode),
        fun hmode => ⟨s.peerAnswered a ph h d, rfl, congrArg _ (State.pdelayReq_of_p2p hmode)⟩⟩

end Sys2Proof.Machine
end

section
/-! SUPPORT. A host surface pull (R255, R257): what each completion does to it, and what its end and its failure leave of its surface, of the
other surfaces and of the rest of the host port. -/

namespace Sys2Proof.Machine

section
variable {s : State} {n m : Nat} {p : Pull} {r : SurfRec}

/- The surface changed, and the others. -/

theorem State.surf_of_host {t : State} (h : t.host = s.host) : t.surf m = s.surf m := congrArg (·.surfs.getD m .reset) h

theorem State.surf_modSurf_same {f : Surf → Surf} (hn : n < s.host.surfs.length) : (s.modSurf n f).surf n = f (s.surf n) :=
  (State.surf_modSurf ..).trans (if_pos ⟨rfl, hn⟩)

theorem State.surf_modSurf_other {f : Surf → Surf} (h : m ≠ n) : (s.modSurf n f).surf m = s.surf m :=
  (State.surf_modSurf ..).trans (if_neg fun hc => h hc.1.symm)

/- A pull ends. -/

theorem State.endPull_keeps_modSurf :
    Keeps (partMask [.cnt, .evt, .sc, .warm]) (s.modSurf n fun f => { f with pull := none }) (s.endPull n p r) := by
  have hsigned : Keeps (partMask [.cnt, .evt, .sc, .warm]) (s.modSurf n fun f => { f with pull := none })
      (((s.modSurf n fun f => { f with pull := none }).retire n p.fence p.seq false false).signSlot n p.slot) :=
    (State.retire_keeps.mono rfl).andThen State.signSlot_keeps rfl
  exact .ite (fun _ => hsigned.andThen State.warmTake_keeps rfl) fun _ => hsigned

theorem State.endPull_host : (s.endPull n p r).host = (s.modSurf n fun f => { f with pull := none }).host :=
  State.endPull_keeps_modSurf.same .host rfl

theorem State.endPull_surf_same (hn : n < s.host.surfs.length) : (s.endPull n p r).surf n = { (s.surf n) with pull := none } :=
  (State.surf_of_host State.endPull_host).trans (State.surf_modSurf_same hn)

theorem State.endPull_surf_other (h : m ≠ n) : (s.endPull n p r).surf m = s.surf m :=
  (State.surf_of_host State.endPull_host).trans (State.surf_modSurf_other h)

theorem State.endPull_warm (h : p.warm = false) : (s.endPull n p r).warm = s.warm := by
  unfold State.endPull
  rw [if_neg (ne_true_of_eq_false h), State.signSlot_p_warm, State.retire_p_warm]
  rfl

/- A pull fails. -/

/-- The lines of a pull's slot, those it lacks filled from the slot before (R257). -/
def State.filledLines (s : State) (n : Nat) (p : Pull) : List (Option (List Byte)) :=
  fillLines ((s.surf n).slots.getD p.slot .reset).lines
    (match p.prev with | some i => ((s.surf n).slots.getD i .reset).lines | none => [])

/-- A surface as its pull fails. -/
def State.brokenSurf (s : State) (n : Nat) (p : Pull) (f : Surf) : Surf :=
  { f with pull := none, slots := modAt f.slots p.slot fun x => { x with lines := s.filledLines n p } }

theorem State.breakPull_keeps_modSurf :
    Keeps (partMask [.cnt, .evt, .sc, .mem]) (s.modSurf n (s.brokenSurf n p)) (s.breakPull n p r) := by
  have hstored : Keeps (partMask [.cnt, .evt, .sc, .mem]) (s.modSurf n (s.brokenSurf n p)) ((s.filledLines n p).zipIdx.foldl
      (fun s x => s.storeLine n p.slot x.2 r (x.1.getD (List.replicate r.lineBytes 0))) (s.modSurf n (s.brokenSurf n p))) :=
    Keeps.refl.foldl fun _ _ h => h.andThen State.storeLine_keeps rfl
  exact (((hstored.andThen State.bump_keeps rfl).andThen State.evtAt_keeps rfl).andThen State.retire_keeps rfl).andThen
    State.signSlot_keeps rfl

theorem State.breakPull_host : (s.breakPull n p r).host = (s.modSurf n (s.brokenSurf n p)).host :=
  State.breakPull_keeps_modSurf.same .host rfl

theorem State.breakPull_surf_same (hn : n < s.host.surfs.length) : (s.breakPull n p r).surf n = s.brokenSurf n p (s.surf n) :=
  (State.surf_of_host State.breakPull_host).trans (State.surf_modSurf_same hn)

theorem State.breakPull_surf_other (h : m ≠ n) : (s.breakPull n p r).surf m = s.surf m :=
  (State.surf_of_host State.breakPull_host).trans (State.surf_modSurf_other h)

theorem State.failPull_of_lacking (hp : (s.surf n).pull = some p) (hr : s.surfRec? n = some r) (h : p.addr = none ∨ p.line < r.h) :
    s.failPull n = s.breakPull n p r := by
  have hlacks : (p.addr.isSome && r.h ≤ p.line) = false := by
    rcases h with ha | hl
    · simp [ha]
    · simp [hl]
  unfold State.failPull
  simp only [hp, hr, Option.getD_some, hlacks]
  rfl

/- The completion of a read, or its lack (R255, R257). -/

theorem State.pullEntry_of_good {data : List Byte} (hne : leAt data 0 8 ≠ 0) (hmod : leAt data 0 8 % 256 = 0) :
    s.pullEntry n p data = s.modPull n { p with addr := some (leAt data 0 8) } := if_neg (by simp [hne, hmod])

theorem State.pullEntry_of_bad {data : List Byte} (h : leAt data 0 8 = 0 ∨ leAt data 0 8 % 256 ≠ 0) : s.pullEntry n p data = s.failPull n :=
  if_pos (by simpa using h)

/-- A surface as the next line of its pull has come. -/
def Surf.lined (p : Pull) (data : List Byte) (f : Surf) : Surf :=
  { f with lines := p.line + 1, slots := modAt f.slots p.slot fun x => { x with lines := setAt x.lines p.line (some data) } }

/-- The next line of a pull in its slot and in HBM. -/
def State.lineStored (s : State) (n : Nat) (r : SurfRec) (p : Pull) (data : List Byte) : State :=
  (s.modSurf n (Surf.lined p data)).storeLine n p.slot p.line r data

theorem State.pullLine_eq {data : List Byte} :
    s.pullLine n r p data = (s.lineStored n r p data).modPull n { p with line := p.line + 1 } := rfl

theorem State.pullLine_surf_same {data : List Byte} (hn : n < s.host.surfs.length) :
    (s.pullLine n r p data).surf n = { (s.surf n).lined p data with pull := some { p with line := p.line + 1 } } := by
  have hlined : (s.lineStored n r p data).surf n = (s.surf n).lined p data :=
    (State.surf_of_host rfl).trans (State.surf_modSurf_same hn)
  have hlen : n < (s.lineStored n r p data).host.surfs.length := hn.trans_eq (length_modAt ..).symm
  rw [State.pullLine_eq, State.modPull, State.surf_modSurf_same hlen, hlined]

theorem State.pullLine_surf_other {data : List Byte} (h : m ≠ n) : (s.pullLine n r p data).surf m = s.surf m :=
  (State.surf_modSurf_other (s := s.lineStored n r p data) h).trans ((State.surf_of_host rfl).trans (State.surf_modSurf_other h))

/-- The error bits that a failed read has left in the configuration space (R257). -/
def State.readFailed (s : State) (status aer : Nat) : State := { s with host := { s.host with status := status, aer := aer } }

theorem HostPort.badCpl_eq (h : HostPort) (status : Nat) : ∃ x a, h.badCpl status = { h with status := x, aer := a } := by
  unfold HostPort.badCpl
  split <;> exact ⟨_, _, rfl⟩

end

section
variable {s : State} {n : Fin 16} {p : Pull} {r : SurfRec} (hp : (s.surf n).pull = some p) (hr : s.surfRec? n = some r)
include hp hr

theorem execPullCompletionRx_of_bad {st : Fin 4} {data : List Byte} (hout : p.addr = none ∨ p.line < p.sent) (hst : st.val ≠ 0) :
    execPullCompletionRx n st data s = .next (({ s with host := s.host.badCpl st } : State).failPull n) := by
  have hwaits : ¬ (p.addr.isSome && p.sent ≤ p.line) = true := by
    rcases hout with ha | hl
    · simp [ha]
    · simp [hl]
  unfold execPullCompletionRx
  simp only [hp, hr]
  rw [if_neg hwaits, if_pos (by simpa using hst)]

theorem execPullCompletionRx_of_entry {data : List Byte} (ha : p.addr = none) (hlen : data.length = 8) :
    execPullCompletionRx n 0 data s = .next (s.pullEntry n p data) := by
  unfold execPullCompletionRx
  simp only [hp, hr]
  rw [if_neg (by simp [ha]), if_neg (by simp), if_pos (by simp [ha]), if_pos (by simp [hlen])]

theorem execPullCompletionRx_of_line {a : Nat} {data : List Byte} (ha : p.addr = some a) (hline : p.line < r.h) (hsent : p.line < p.sent)
    (hlen : data.length = r.lineBytes) : execPullCompletionRx n 0 data s = .next (s.pullLine n r p data) := by
  unfold execPullCompletionRx
  simp only [hp, hr]
  rw [if_neg (by simp [hsent]), if_neg (by simp), if_neg (by simp [ha]), if_neg (by simp [hline, hlen])]

omit hr in
theorem execPullCompletionTimeout_of_pull : execPullCompletionTimeout n s =
    .next (({ s with host := { s.host with aer := s.host.aer ||| 2 ^ 14 } } : State).failPull n) := if_pos (by rw [hp]; rfl)

theorem execHsPullComplete_of_full {a : Nat} (ha : p.addr = some a) (hline : r.h ≤ p.line) :
    execHsPullComplete n s = .next (s.endPull n p r) := by
  unfold execHsPullComplete
  simp only [hp, hr]
  rw [if_neg (by simp [ha, hline])]

/-- An error on a read that is out and a timeout do the same to a pull that lacks a line. -/
theorem exec_of_failedRead {c : Instr} (hlacks : p.addr = none ∨ p.line < r.h) (hc : c = .pullCompletionTimeout n ∨
    (p.addr = none ∨ p.line < p.sent) ∧ ∃ (st : Fin 4) (data : List Byte), st.val ≠ 0 ∧ c = .pullCompletionRx n st data) :
    ∃ x a, exec c s = .next ((s.readFailed x a).breakPull n p r) := by
  have hfail (x a : Nat) : (s.readFailed x a).failPull n = _ := State.failPull_of_lacking hp hr hlacks
  rcases hc with rfl | ⟨hout, st, data, hst, rfl⟩
  · exact ⟨_, _, (execPullCompletionTimeout_of_pull hp).trans (congrArg _ (hfail _ _))⟩
  · obtain ⟨x, a, hbad⟩ := s.host.badCpl_eq st
    refine ⟨x, a, (execPullCompletionRx_of_bad hp hr hout hst).trans ?_⟩
    rw [hbad]
    exact congrArg _ (hfail x a)

end

/-- Settles O28: the completions by what the pull waits for, a failed read as `State.breakPull` and a full pull as `State.endPull` (log entry 89
for whole lines). -/
theorem hostSurfacePulls : Obligations.HostSurfacePulls := by
  intro s n p r hp hr hlen
  have hn : n.val < s.host.surfs.length := n.isLt.trans_eq hlen.symm
  refine ⟨fun data hdata ha => ?_, fun a data ha hline hsent hdata => ?_, fun c hlacks hc => ?_, fun a ha hline => ?_⟩
  · rw [show exec (.pullCompletionRx n 0 data) s = _ from execPullCompletionRx_of_entry hp hr ha hdata]
    exact ⟨fun hne hmod => congrArg _ (State.pullEntry_of_good hne hmod),
      fun hbad => congrArg _ ((State.pullEntry_of_bad hbad).trans (State.failPull_of_lacking hp hr (.inl ha)))⟩
  · have hsurf := State.pullLine_surf_same (r := r) (p := p) (data := data) hn
    exact ⟨s.pullLine n r p data, execPullCompletionRx_of_line hp hr ha hline hsent hdata, by rw [hsurf], by rw [hsurf]; rfl,
      by rw [hsurf]; rfl, fun m hm => State.pullLine_surf_other hm, rfl, State.pullLine_keeps.only_parts rfl⟩
  · obtain ⟨x, a, hexec⟩ := exec_of_failedRead hp hr hlacks hc
    have hsurf : ((s.readFailed x a).breakPull n p r).surf n = s.brokenSurf n p (s.surf n) := State.breakPull_surf_same hn
    have hkeeps : Keeps (partMask [.cnt, .evt, .sc, .host, .mem]) s ((s.readFailed x a).breakPull n p r) :=
      (Keeps.host.mono rfl).andThen State.breakPull_keeps rfl
    exact ⟨(s.readFailed x a).breakPull n p r, x, a, hexec, rfl, by rw [hsurf]; rfl, fun m hm => State.breakPull_surf_other hm,
      by rw [hsurf]; rfl, hkeeps.only_parts rfl⟩
  · have hsurf : (s.endPull n p r).surf n = { (s.surf n) with pull := none } := State.endPull_surf_same hn
    exact ⟨s.endPull n p r, execHsPullComplete_of_full hp hr ha hline, by rw [hsurf], by rw [hsurf],
      fun m hm => State.endPull_surf_other hm, State.endPull_warm, State.endPull_keeps.only_parts rfl⟩

end Sys2Proof.Machine
end

section
/-! SUPPORT. What queuing leaves of the NVM (R331, R346, R347): the header and the flash change only where a header is put or an operation
completes; and a staging's end (R259). -/

namespace Sys2Proof.Machine

/-- The header last put and the flash are the same. -/
def State.SameStore (s t : State) : Prop := t.nvm.hdr = s.nvm.hdr ∧ t.nvm.flash = s.nvm.flash

section
variable {s t u : State}

theorem State.SameStore.refl : s.SameStore s := ⟨rfl, rfl⟩

theorem State.SameStore.trans (h : s.SameStore t) (k : t.SameStore u) : s.SameStore u := ⟨k.1.trans h.1, k.2.trans h.2⟩

theorem State.SameStore.of_nvm (h : t.nvm = s.nvm) : s.SameStore t := ⟨by rw [h], by rw [h]⟩

theorem State.SameStore.ite {c : Prop} [Decidable c] (ht : s.SameStore t) (hu : s.SameStore u) : s.SameStore (if c then t else u) := by
  split
  · exact ht
  · exact hu

theorem State.nvmKick_sameStore : s.SameStore s.nvmKick := by
  refine .ite .refl ?_
  split
  · exact .refl
  · exact ⟨rfl, rfl⟩

theorem State.nvmJob_sameStore {j : NvmJob} : s.SameStore (s.nvmJob j) :=
  State.nvmKick_sameStore (s := { s with nvm := { s.nvm with jobs := s.nvm.jobs ++ [j] } })

theorem State.journalRec_sameStore {r : JRec} : s.SameStore (s.journalRec r) :=
  .ite .refl (.ite (State.nvmKick_sameStore (s := { s with nvm := { s.nvm with jq := s.nvm.queued r } }))
    (.ite (State.SameStore.trans (t := { s.bump Reg.journalDropped with nvm := { s.nvm with lostTick := some s.ticks } }) ⟨rfl, rfl⟩
      (.of_nvm State.ev_p_nvm)) ⟨rfl, rfl⟩))

theorem State.journal_sameStore {kind code : Nat} {data : List Byte} : s.SameStore (s.journal kind code data) :=
  State.journalRec_sameStore

theorem State.hdrRoom_sameStore : s.SameStore s.hdrRoom :=
  .ite .refl (.ite ⟨rfl, rfl⟩ (State.nvmJob_sameStore (s := { s with nvm := { s.nvm with hdrSect := s.nvm.otherHdr, hdrSlot := 0 } })))

theorem State.hdrTidy_sameStore : s.SameStore s.hdrTidy := .ite State.nvmJob_sameStore .refl

/-- A header is put with its HSEQ one on (R331). -/
theorem State.putHeader_hdr {h : NvmHeader} {code : Nat} : (s.putHeader h code).nvm.hdr = { h with hseq := s.nvm.hdr.hseq + 1 } := by
  have hput : State.SameStore { s.hdrRoom with nvm := { s.hdrRoom.nvm with
      hdr := { h with hseq := s.hdrRoom.nvm.hdr.hseq + 1 }, hdrSlot := s.hdrRoom.nvm.hdrSlot + 1 } } (s.putHeader h code) :=
    (State.nvmJob_sameStore.trans State.journal_sameStore).trans State.hdrTidy_sameStore
  rw [← State.hdrRoom_sameStore (s := s).1]
  exact hput.1

/- Staging ends (R259). -/

/-- A staging as it ends with a code. -/
def Stage.ended (st : Stage) (code : Nat) : Stage :=
  { st with state := if code == 0 then 6 else 7, code := code, wait := false, image := [], list := [], abort := false, mark := false }

theorem State.stageEnd_host {code : Nat} : (s.stageEnd code).host = { s.host with stage := s.host.stage.ended code } := by
  unfold State.stageEnd
  rw [State.journal_p_host, State.ev_p_host]
  rfl

theorem State.stageEnd_of_failed (s : State) {code : Nat} (h : code ≠ 0) :
    (s.stageEnd code).host.stage.state = 7 ∧ (s.stageEnd code).host.stage.code = code := by
  rw [State.stageEnd_host]
  exact ⟨if_neg (by simpa using h), rfl⟩

/-- Staging ended with a code, nothing of it left in the NVM's queue, before its records. -/
def State.stageCleared (s : State) (code : Nat) : State :=
  { s with host := { s.host with stage := s.host.stage.ended code }, nvm := { s.nvm with jobs := s.nvm.jobs.filter fun j => !j.staging } }

theorem State.stageCleared_sameStore {code : Nat} : s.SameStore (s.stageCleared code) := ⟨rfl, rfl⟩

theorem State.stageEnd_sameStore {code : Nat} : s.SameStore (s.stageEnd code) :=
  (State.stageCleared_sameStore.trans (.of_nvm State.ev_p_nvm)).trans State.journal_sameStore

end

end Sys2Proof.Machine
end

section
/-! SUPPORT. The link, the attached state and what ends it (R247, R252, R483): the pulls that go on are stopped, and of the rest of the host
port leaving the attached state changes only a staging that pulls. -/

namespace Sys2Proof.Machine

/- The pulls stopped (R257). -/

/-- Of a host port the pulls of some surfaces have ended and none has begun; nothing but the surfaces has changed. -/
def HostPort.Stopped (ns : List Nat) (a b : HostPort) : Prop :=
  b = { a with surfs := b.surfs } ∧
    ∀ n, n ∈ ns ∨ (a.surfs.getD n .reset).pull = none → (b.surfs.getD n .reset).pull = none

theorem HostPort.Stopped.trans {ns ms : List Nat} {a b c : HostPort} (h : a.Stopped ns b) (k : b.Stopped ms c) : a.Stopped (ns ++ ms) c := by
  obtain ⟨hb, hstop⟩ := h
  obtain ⟨hc, kstop⟩ := k
  refine ⟨hc.trans (by rw [hb]), fun n hn => kstop n ?_⟩
  rw [List.mem_append] at hn
  exact hn.elim (Or.elim · (fun hn => .inr (hstop n (.inl hn))) .inl) fun hn => .inr (hstop n (.inr hn))

section
variable {s : State} {n : Nat}

theorem State.modSurf_stopped {f : Surf → Surf} (hf : ∀ x, (f x).pull = none) : s.host.Stopped [n] (s.modSurf n f).host := by
  refine ⟨rfl, fun m hm => ?_⟩
  rw [show ((s.modSurf n f).host.surfs.getD m .reset) = _ from State.surf_modSurf s n m f]
  split
  · exact hf _
  · rename_i hother
    rcases hm with hm | hnone
    · have hmn : m = n := List.mem_singleton.1 hm
      have hout : s.host.surfs.length ≤ m := Nat.le_of_not_lt fun hlt => hother ⟨hmn.symm, hlt⟩
      rw [State.surf, List.getD_eq_default _ _ hout]
      rfl
    · exact hnone

theorem State.failPull_stopped : s.host.Stopped [n] (s.failPull n).host := by
  unfold State.failPull
  split
  · refine iteInduction (motive := fun t : State => s.host.Stopped [n] t.host) (fun _ => ?_) fun _ => ?_
    · rw [State.endPull_host]
      exact State.modSurf_stopped fun _ => rfl
    · rw [State.breakPull_host]
      exact State.modSurf_stopped fun _ => rfl
  · rename_i hnone
    exact ⟨rfl, fun m hm => hm.elim (fun hmn => List.mem_singleton.1 hmn ▸ hnone) id⟩

theorem State.failPulls_stopped {ns : List Nat} : s.host.Stopped ns (ns.foldl State.failPull s).host := by
  induction ns generalizing s with
  | nil => exact ⟨rfl, fun _ hn => hn.elim (absurd · List.not_mem_nil) id⟩
  | cons n ns ih => exact State.failPull_stopped.trans ih

end

/- The attached state left (R247). -/

section
variable {s : State}

/-- Every pull stopped, the attached state left. -/
def State.pullsStopped (s : State) : State :=
  (List.range 16).foldl State.failPull { s with host := { s.host with attached := false } }

theorem State.pullsStopped_stopped : ({ s.host with attached := false } : HostPort).Stopped (List.range 16) s.pullsStopped.host :=
  State.failPulls_stopped (s := { s with host := { s.host with attached := false } }) (ns := List.range 16)

theorem State.pullsStopped_host (s : State) : s.pullsStopped.host = { s.host with attached := false, surfs := s.pullsStopped.host.surfs } :=
  State.pullsStopped_stopped.1

theorem State.pullsStopped_pull {n : Nat} (hn : n < 16) : (s.pullsStopped.host.surfs.getD n .reset).pull = none :=
  State.pullsStopped_stopped.2 n (.inl (List.mem_range.2 hn))

theorem State.detach_eq (h : s.host.attached = true) :
    s.detach = if s.pullsStopped.host.stage.state == 1 then s.pullsStopped.stageEnd 1 else s.pullsStopped := by
  unfold State.detach State.pullsStopped
  exact if_neg (by simp [h])

theorem State.detach_of_attached (h : s.host.attached = true) : ∃ surfs stage, s.detach.host =
    { s.host with attached := false, surfs := surfs, stage := stage } ∧ ∀ n, n < 16 → (surfs.getD n .reset).pull = none := by
  refine ⟨s.pullsStopped.host.surfs, ?_⟩
  have hhost := s.pullsStopped_host
  rw [State.detach_eq h]
  split
  · rw [State.stageEnd_host]
    exact ⟨s.pullsStopped.host.stage.ended 1, by rw [hhost], fun n => State.pullsStopped_pull⟩
  · exact ⟨s.host.stage, hhost, fun n => State.pullsStopped_pull⟩

theorem State.detach_of_detached (h : s.host.attached = false) : s.detach = s := by
  unfold State.detach
  exact if_pos (by simp [h])

theorem State.detach_host : ∃ surfs stage, s.detach.host = { s.host with attached := false, surfs := surfs, stage := stage } := by
  cases h : s.host.attached with
  | true =>
    obtain ⟨surfs, stage, hhost, _⟩ := State.detach_of_attached h
    exact ⟨surfs, stage, hhost⟩
  | false => exact ⟨s.host.surfs, s.host.stage, by rw [State.detach_of_detached h, ← h]⟩

theorem State.detach_pull (h : s.host.attached = true) {n : Nat} (hn : n < 16) : (s.detach.surf n).pull = none := by
  obtain ⟨surfs, stage, hhost, hpulls⟩ := State.detach_of_attached h
  rw [State.surf, hhost]
  exact hpulls n hn

@[simp] theorem State.detach_attached : s.detach.host.attached = false := by
  obtain ⟨surfs, stage, hhost⟩ := s.detach_host
  rw [hhost]

@[simp] theorem State.detach_link : s.detach.host.link = s.host.link := by
  obtain ⟨surfs, stage, hhost⟩ := s.detach_host
  rw [hhost]

@[simp] theorem State.detach_perst : s.detach.host.perst = s.host.perst := by
  obtain ⟨surfs, stage, hhost⟩ := s.detach_host
  rw [hhost]

@[simp] theorem State.detach_conf : s.detach.host.conf = s.host.conf := by
  obtain ⟨surfs, stage, hhost⟩ := s.detach_host
  rw [hhost]

theorem State.writeAttach_of_detach {v : Word} (h : wbit v 0 = false) : s.writeAttach (wput v 1 1 1) = s.detach := by
  unfold State.writeAttach
  rw [wbit_wput_same v (by decide), (wbit_wput_other v).2, h]
  rfl

/-- What leaves the attached state and not the link: the state is then detached, and of its configuration space only the power state, the
error bits and what was written may be others (R247). -/
theorem exec_of_leaving {c : Instr} (hc : c = .functionLevelReset ∨ c = .busMasterEnableClear ∨ c = .d3hotEntry ∨
    ∃ v, wbit v 0 = false ∧ c = .detach v) : ∃ conf d3hot status aer,
    exec c s = .next { s.detach with host := { s.detach.host with conf := conf, d3hot := d3hot, status := status, aer := aer } } ∧
    (c = .functionLevelReset → conf = confReset ∧ d3hot = false) ∧
    (c = .busMasterEnableClear → conf = { s.host.conf with master := false }) ∧ (c = .d3hotEntry → d3hot = s.host.link) := by
  rcases hc with rfl | rfl | rfl | ⟨v, hv, rfl⟩
  · exact ⟨_, _, _, _, rfl, fun _ => ⟨rfl, rfl⟩, nofun, nofun⟩
  · exact ⟨_, _, _, _, rfl, nofun, fun _ => by rw [State.detach_conf], nofun⟩
  · exact ⟨_, _, _, _, rfl, nofun, nofun, fun _ => State.detach_link⟩
  · exact ⟨_, _, _, _, congrArg _ (State.writeAttach_of_detach hv), nofun, nofun, nofun⟩

/- The link lost (R247, R483). -/

theorem State.linkDown_perst : s.linkDown.host.perst = s.host.perst := State.detach_perst

/-- A link-down, a hot reset and PE_PERST_N low take the link down alike; the last holds the port in reset. -/
theorem exec_of_linkLost {c : Instr} (hc : c = .pcieLinkDown ∨ c = .hotReset ∨ c = .pePerstAssert) : ∃ perst,
    exec c s = .next { s.linkDown with host := { s.linkDown.host with perst := perst } } ∧
    (perst = true ↔ s.host.perst = true ∨ c = .pePerstAssert) := by
  rcases hc with rfl | rfl | rfl
  · exact ⟨s.linkDown.host.perst, rfl, by simp [State.linkDown_perst]⟩
  · exact ⟨s.linkDown.host.perst, rfl, by simp [State.linkDown_perst]⟩
  · exact ⟨true, rfl, by simp⟩

/- The link trained (R246, R248). -/

/-- The link up as it has trained, the function configured and in D0. -/
def State.pcieUp (s : State) (speed : Fin 7) (width : Fin 17) (flit : Bool) (conf : HostConf) : State :=
  { s with host := { s.host with link := true, speed := speed, width := width, flit := flit, conf := conf, d3hot := false } }

/-- HOST_LINK_SLOW recorded where the link lies below the configured minimum (R248). -/
def State.slowNoted (s : State) (speed width : Nat) : State :=
  if s.linkSlow speed width then s.ev Ev.hostLinkSlow [speed, width] else s

theorem State.slowNoted_keeps {speed width : Nat} : Keeps (partMask [.cnt, .evt]) s (s.slowNoted speed width) :=
  .ite (fun _ => State.ev_keeps) fun _ => .refl

theorem execPcieLinkTrained_of_ready {speed : Fin 7} {width : Fin 17} {flit : Bool} {conf : HostConf} (hrails : s.pwr.serdes = true)
    (hperst : s.host.perst = false) (hok : linkOk speed width flit = true) : execPcieLinkTrained speed width flit conf s =
      .next (((if conf.master then s else s.detach).pcieUp speed width flit conf).slowNoted speed width) :=
  if_neg (by simp [hrails, hperst, hok])

/- ATTACH (R252, R383). -/

/-- The port attached, PI and CI at 0, nothing yet written to the ring. -/
def State.attachedAnew (s : State) : State :=
  ({ s with host := { s.host with attached := true, fail := 0 }, evt := { s.evt with pi := 0, sinceIdx := 0 } } : State).setRw Reg.evtHostCi 0

/-- The records that wait written to the ring. -/
def State.ringFilled (s : State) : State := s.attachedAnew.ringDrain (s.evt.hostQ.length + 1)

section
variable (ha : s.host.attached = false)
include ha

theorem State.attach_of_refused (h : s.attachFail ≠ 0) : s.attach = { s with host := { s.host with fail := s.attachFail } } := by
  unfold State.attach
  rw [if_neg (by simp [ha]), if_pos (by simpa using h)]

theorem State.attach_of_allowed (h : s.attachFail = 0) : s.attach =
    if s.evt.hostQ.isEmpty || s.ringFilled.evt.sinceIdx != 0 then s.ringFilled.writeIndex else s.ringFilled := by
  unfold State.attach
  rw [if_neg (by simp [ha]), if_neg (by simp [h])]
  rfl

theorem State.attach_keeps_attachedAnew (h : s.attachFail = 0) : Keeps (partMask [.cnt, .evt, .out]) s.attachedAnew s.attach := by
  rw [State.attach_of_allowed ha h]
  exact .ite (fun _ => State.ringDrain_keeps.andThen State.writeIndex_keeps rfl) fun _ => State.ringDrain_keeps

theorem State.attach_pi_of_empty (h : s.attachFail = 0) (hq : s.evt.hostQ = []) : s.attach.evt.pi = 0 := by
  have hempty : s.attachedAnew.evt.hostQ.isEmpty = true := by rw [show s.attachedAnew.evt.hostQ = [] from hq]; rfl
  have hfilled : s.ringFilled = s.attachedAnew := if_pos (by rw [hempty, Bool.true_or])
  rw [State.attach_of_allowed ha h, if_pos (by rw [hq]; rfl), hfilled]
  rfl

end

theorem State.writeAttach_of_attach {v : Word} (h : wbit v 1 = false) : s.writeAttach (wput v 0 0 1) = s.attach := by
  unfold State.writeAttach
  rw [(wbit_wput_other v).1, h, wbit_wput_same v (by decide)]
  rfl

end

/-- Settles O27: every end of the attached state is `State.detach` (`exec_of_leaving`, and with the link lost `exec_of_linkLost`), a trained
link `State.pcieUp`, and ATTACH `State.attachedAnew` or its refusal. Log entry 136: D0 after training. Log entries 29 and 125: what resets the
configuration space, and its layout. -/
theorem hostLinkAndAttachment : Obligations.HostLinkAndAttachment := by
  intro s
  refine ⟨fun speed width flit conf hrails hperst hok => ?_, fun c hc => ?_, fun c hc => ?_, fun hperst => ?_,
    fun v hw hv ha => ⟨fun hnone => ?_, fun hwhy => ?_⟩⟩
  · let u : State := (if conf.master then s else s.detach).pcieUp speed width flit conf
    have hexec : exec (.pcieLinkTrained speed width flit conf) s = .next (u.slowNoted speed width) :=
      execPcieLinkTrained_of_ready hrails hperst hok
    have hhost : (u.slowNoted speed width).host = u.host := State.slowNoted_keeps.same .host rfl
    rw [hexec]
    refine ⟨_, rfl, ?_⟩
    rw [hhost]
    refine ⟨rfl, rfl, rfl, rfl, rfl, rfl, fun hm => ?_, fun hm => ?_, (execPcieLinkTrained_keeps _ hexec).only_parts rfl⟩
    · have hu : u = s.pcieUp speed width flit conf := congrArg (State.pcieUp · speed width flit conf) (if_pos hm)
      rw [hu]
      exact ⟨rfl, ((Keeps.host.mono rfl).andThen State.slowNoted_keeps rfl : Keeps (partMask [.cnt, .evt, .host]) s _).only_parts rfl⟩
    · have hu : u = s.detach.pcieUp speed width flit conf := congrArg (State.pcieUp · speed width flit conf) (if_neg (ne_true_of_eq_false hm))
      rw [hu]
      exact State.detach_attached
  · obtain ⟨perst, hexec, hperst⟩ := exec_of_linkLost (s := s) hc
    exact ⟨_, hexec, rfl, rfl, rfl, rfl, rfl, State.detach_attached, hperst, fun ha n hn => State.detach_pull ha hn,
      (State.linkDown_keeps.andThen Keeps.host rfl).only_parts rfl⟩
  · obtain ⟨conf, d3hot, status, aer, hexec, hreset, hmaster, hd3⟩ := exec_of_leaving (s := s) hc
    exact ⟨_, hexec, State.detach_attached, State.detach_link, hreset, hmaster, hd3, fun ha n hn => State.detach_pull ha hn,
      (State.detach_keeps.andThen Keeps.host rfl).only_parts rfl⟩
  · exact ⟨_, if_pos hperst, rfl, Keeps.host.only_parts rfl⟩
  · have hkeeps := State.attach_keeps_attachedAnew ha hnone
    have hci : s.attachedAnew.rw Reg.evtHostCi = 0 := (State.rw_setRw _ _ _ _ hw).trans (if_pos rfl)
    exact ⟨s.attach, congrArg _ (State.writeAttach_of_attach hv), hkeeps.same .host rfl,
      (congrArg (Sparse.get rwReset · _) (hkeeps.same .rw rfl)).trans hci, State.attach_pi_of_empty ha hnone,
      State.attach_keeps.only_parts rfl⟩
  · exact ⟨{ s with host := { s.host with fail := s.attachFail } },
      congrArg Host.Outcome.next ((State.writeAttach_of_attach hv).trans (State.attach_of_refused ha hwhy)), rfl, Keeps.host.only_parts rfl⟩

end Sys2Proof.Machine
end

section
/-! SUPPORT. The passes of staging (R258, R259, R341, R347): what GO, ABORT and each completion do in each of the cases a statement is made of. -/

namespace Sys2Proof.Machine

section
variable {s : State}

theorem State.stageArea_congr {t : State} (hkind : t.host.stage.kind = s.host.stage.kind) (hhdr : t.nvm.hdr = s.nvm.hdr) :
    t.stageArea = s.stageArea := by
  unfold State.stageArea
  rw [hkind, hhdr]

/- GO and ABORT (R258, R259). -/

theorem State.writeStageCtrl_of_go {v : Word} (h : wbit v 1 = false) : s.writeStageCtrl (wput v 0 0 1) = s.stageGo := by
  unfold State.writeStageCtrl
  rw [(wbit_wput_other v).1, h, wbit_wput_same v (by decide)]
  rfl

theorem State.writeStageCtrl_of_abort {v : Word} (h : wbit v 0 = false) : s.writeStageCtrl (wput v 1 1 1) = s.stageAbort := by
  unfold State.writeStageCtrl
  rw [wbit_wput_same v (by decide), (wbit_wput_other v).2, h]
  rfl

/-- Staging begun: it pulls, and nothing has come yet. -/
def State.stageBegun (s : State) : State := s.modStage fun _ => { Stage.reset with state := 1 }

theorem State.stageGo_of_idle (hrun : s.host.stage.runs = false) (ha : s.host.attached = true) (hok : s.mem.ok = true)
    (hmin : 1 ≤ s.stageCount) (hmax : s.stageCount ≤ 65536) : s.stageGo = s.stageBegun.readHostMem s.stageList (16 * s.stageCount) := by
  have hmem : ¬ (!s.stageBegun.mem.ok && !s.stageBegun.starting) = true := by simp [show s.stageBegun.mem.ok = true from hok]
  have hcount : ¬ (s.stageBegun.stageCount < 1 || 65536 < s.stageBegun.stageCount) = true := by
    simpa [show s.stageBegun.stageCount = s.stageCount from rfl] using ⟨Nat.ne_of_gt hmin, hmax⟩
  unfold State.stageGo
  rw [if_neg (by simp [hrun]), if_neg (by simp [ha])]
  exact (if_neg hmem).trans (if_neg hcount)

section
variable (hrun : s.host.stage.runs = true)
include hrun

theorem State.stageAbort_of_between (h : s.stageWriting = false) : s.stageAbort = s.stageEnd 9 := by
  unfold State.stageAbort
  rw [if_neg (by simp [hrun]), if_neg (by simp [h])]

theorem State.stageAbort_of_writing (h : s.stageWriting = true) : s.stageAbort = s.modStage fun st => { st with abort := true } := by
  unfold State.stageAbort
  rw [if_neg (by simp [hrun]), if_pos h]

end

/- The list and the image pulled (R258). -/

section
variable {es : List (Nat × Nat)} {data : List Byte} (hst : s.host.stage.state = 1) (ha : s.host.attached = true)
include hst ha

theorem execStagePullDone_of_failed : execStagePullDone es data true s = .next (s.stageEnd 3) := by
  unfold execStagePullDone
  rw [if_neg (by simp [hst, ha]), if_pos rfl]

theorem execStagePullDone_of_list (hlist : s.host.stage.list = []) (hok : stageListOk es = true) (hlen : es.length = s.stageCount)
    (hne : listBytes es ≠ 0) (hfits : listBytes es ≤ max (s.slotSize 1) (s.slotSize 3)) :
    execStagePullDone es data false s = .next (s.modStage fun st => { st with list := es }) := by
  have hgood : ¬ (!(stageListOk es) || es.length != s.stageCount || listBytes es == 0 ||
      decide (max (s.slotSize 1) (s.slotSize 3) < listBytes es)) = true := by
    simpa only [hok, hlen, Bool.not_true, bne_self_eq_false, Bool.or_eq_true, beq_iff_eq, decide_eq_true_eq, Bool.false_eq_true, false_or,
      not_or, not_lt] using ⟨hne, hfits⟩
  unfold execStagePullDone
  rw [if_neg (by simp [hst, ha]), if_neg Bool.false_ne_true, if_pos (by rw [hlist]; rfl), if_neg hgood]

theorem execStagePullDone_of_image (hlist : s.host.stage.list ≠ []) : execStagePullDone es data false s = .next (s.stageBytes data) := by
  unfold execStagePullDone
  rw [if_neg (by simp [hst, ha]), if_neg Bool.false_ne_true, if_neg (by simpa using hlist)]

end

section
variable {data : List Byte} (hread : (s.host.stage.image ++ data).length ≤ listBytes (s.host.stage.list.take s.host.stage.pos))
  (hfits : listBytes s.host.stage.list ≤ s.slotSize (leAt (s.host.stage.image ++ data) 5 1))
include hread hfits

theorem State.stageBytes_of_some (h : (s.host.stage.image ++ data).length < listBytes s.host.stage.list) : s.stageBytes data =
    s.modStage fun st => { st with image := s.host.stage.image ++ data, kib := (s.host.stage.image ++ data).length / 1024 } := by
  unfold State.stageBytes
  rw [if_neg (Nat.not_lt.2 hread), if_neg (by simp [Nat.not_lt.2 hfits]), if_pos h]

theorem State.stageBytes_of_all (h : listBytes s.host.stage.list ≤ (s.host.stage.image ++ data).length) : s.stageBytes data =
    s.modStage fun st => { st with state := 2, kib := 0, image := s.host.stage.image ++ data, pos := 0 } := by
  unfold State.stageBytes
  rw [if_neg (Nat.not_lt.2 hread), if_neg (by simp [Nat.not_lt.2 hfits]), if_neg (Nat.not_lt.2 h)]

end

/- The check, and erasing begun (R341, R354). -/

theorem State.stageErase_stage : s.stageErase.host.stage = { s.host.stage with state := 3, kib := 0, pos := 0, wait := false } := by
  unfold State.stageErase
  rw [State.nvmJob_p_host, State.putHeader_p_host]
  rfl

theorem State.stageErase_hdr : s.stageErase.nvm.hdr = { s.nvm.hdr.setArea s.stageArea 1 with hseq := s.nvm.hdr.hseq + 1 } :=
  State.nvmJob_sameStore.1.trans State.putHeader_hdr

theorem stageCode_ne_zero (n : Nat) : stageCode n ≠ 0 := by
  unfold stageCode
  split <;> decide

/-- The kind and the version taken from the image. -/
def State.stageIdentified (s : State) : State :=
  s.modStage fun st => { st with kind := leAt s.host.stage.image 5 1, version := leAt s.host.stage.image 12 4 }

/-- The container taken from the image, with its SHA-256, held for TRIAL or not. -/
def State.stageContained (s : State) (held : Bool) : State :=
  s.stageIdentified.modStage fun st => { st with image := s.host.stage.image.take (containerLen s.host.stage.image)
                                                 sealHash := sha256 (s.host.stage.image.take (containerLen s.host.stage.image)), wait := held }

theorem State.stageHeld_stageIdentified
    (h : leAt s.host.stage.image 5 1 = 3 ∨ s.nvm.hdr.trial (leAt s.host.stage.image 5 1) = false) : s.stageIdentified.stageHeld = false := by
  change (leAt s.host.stage.image 5 1 != 3 && s.nvm.hdr.trial (leAt s.host.stage.image 5 1)) = false
  rcases h with hkind | htrial
  · simp [hkind]
  · simp [htrial]

section
variable (hst : s.host.stage.state = 2) (hwait : s.host.stage.wait = false)
include hst hwait

theorem execStageCheckDone_of_failed (h : s.stageCheck ≠ 0) :
    execStageCheckDone s = .next (s.stageIdentified.stageEnd (stageCode s.stageCheck)) := by
  unfold execStageCheckDone
  rw [if_neg (by simp [hst, hwait])]
  exact if_pos (by simpa using h)

theorem execStageCheckDone_of_passed (h : s.stageCheck = 0) (hheld : s.stageIdentified.stageHeld = false) :
    execStageCheckDone s = .next (s.stageContained false).stageErase := by
  have hfree : (s.stageContained s.stageIdentified.stageHeld).stageHeld = false := hheld
  unfold execStageCheckDone
  rw [if_neg (by simp [hst, hwait]), if_neg (by simp [h])]
  exact (if_neg (ne_true_of_eq_false hfree)).trans (congrArg (fun held => Host.Outcome.next (s.stageContained held).stageErase) hheld)

end

theorem execStageEraseResume_of_free (hst : s.host.stage.state = 2) (hwait : s.host.stage.wait = true) (hheld : s.stageHeld = false) :
    execStageEraseResume s = .next s.stageErase := if_pos (by simp [hst, hwait, hheld])

/- Sectors erased and pages programmed (R258, R347). -/

/-- Staging at a boundary: its figures changed, its next operation queued behind those that go first. -/
def State.stageNext (s : State) (f : Stage → Stage) (j : NvmJob) : State := ((s.modStage f).nvmJob j).nvmKick

section
variable {f : Stage → Stage} {j : NvmJob}

theorem State.stageNext_stage : (s.stageNext f j).host.stage = f s.host.stage := by
  unfold State.stageNext
  rw [State.nvmKick_p_host, State.nvmJob_p_host]
  rfl

theorem State.stageNext_sameStore : s.SameStore (s.stageNext f j) :=
  (State.nvmJob_sameStore (s := s.modStage f)).trans State.nvmKick_sameStore

theorem State.stageNext_keeps : Keeps (partMask [.nvm, .host]) s (s.stageNext f j) :=
  ((State.modStage_keeps.mono rfl).andThen State.nvmJob_keeps rfl).andThen State.nvmKick_keeps rfl

theorem State.stageGoOn_of_running (h : s.host.stage.abort = false) : s.stageGoOn j = s.nvmJob j := if_neg (ne_true_of_eq_false h)

end

/-- The operation in flight ended with the flash that it leaves. -/
def State.flashDone (s : State) (flash : List (Nat × Byte)) : State := { s with nvm := { s.nvm with op := none, flash := flash } }

theorem State.flashDone_stageNext_keeps {flash : List (Nat × Byte)} {f : Stage → Stage} {j : NvmJob}
    (h : Sparse.wf erased s.nvm.flash = true → Sparse.wf erased flash = true) :
    Keeps (partMask [.nvm, .host]) s ((s.flashDone flash).stageNext f j) := ((Keeps.nvm h).mono rfl).andThen State.stageNext_keeps rfl

/-- A failed erase or program tried once more (R347). -/
def State.flashRetried (s : State) (j : NvmJob) : State := { s.bump Reg.nvmErrors with nvm := { s.nvm with op := some ⟨j, true⟩ } }

theorem State.stageFlashFail_of_first {j : NvmJob} : s.stageFlashFail ⟨j, false⟩ = s.flashRetried j := rfl

section
variable {a left n : Nat} {r : Bool} (hop : s.nvm.op = some ⟨.stErase a left, r⟩) (hfrozen : s.nvm.frozen = false)
include hop hfrozen

theorem execStageEraseDone_of_failed (hr : r = false) :
    execStageEraseDone ⟨n, false⟩ s = .next (s.flashRetried (.stErase a left)) := by
  unfold execStageEraseDone
  simp only [hop]
  rw [if_neg (ne_true_of_eq_false hfrozen), if_pos Bool.not_false, hr, State.stageFlashFail_of_first]

variable (habort : s.host.stage.abort = false)
include habort

theorem execStageEraseDone_of_last (h : left ≤ max 1 n) : execStageEraseDone ⟨n, true⟩ s =
    .next ((s.flashDone (flashErase s.nvm.flash a (left * sector))).stageNext (fun st => { st with state := 4, kib := 0, pos := 0 })
      (.stProg (areaAddr s.stageArea) s.host.stage.image)) := by
  unfold execStageEraseDone
  simp only [hop]
  rw [if_neg (ne_true_of_eq_false hfrozen), if_neg (by simp), Nat.min_eq_left h, if_pos (Nat.le_refl left),
    State.stageGoOn_of_running (by exact habort)]
  rfl

theorem execStageEraseDone_of_more (h : max 1 n < left) : execStageEraseDone ⟨n, true⟩ s =
    .next ((s.flashDone (flashErase s.nvm.flash a (max 1 n * sector))).stageNext
      (fun st => { st with pos := st.pos + max 1 n, kib := 64 * (st.pos + max 1 n) })
      (.stErase (a + max 1 n * sector) (left - max 1 n))) := by
  unfold execStageEraseDone
  simp only [hop]
  rw [if_neg (ne_true_of_eq_false hfrozen), if_neg (by simp), Nat.min_eq_right (Nat.le_of_lt h), if_neg (Nat.not_le.2 h),
    State.stageGoOn_of_running (by exact habort)]
  rfl

end

section
variable {a n : Nat} {b : List Byte} {r : Bool} (hop : s.nvm.op = some ⟨.stProg a b, r⟩) (hfrozen : s.nvm.frozen = false)
include hop hfrozen

theorem execStageProgramDone_of_failed (hr : r = false) : execStageProgramDone ⟨n, false⟩ s = .next (s.flashRetried (.stProg a b)) := by
  unfold execStageProgramDone
  simp only [hop]
  rw [if_pos (by simp [hfrozen]), hr, State.stageFlashFail_of_first]

variable (habort : s.host.stage.abort = false)
include habort

theorem execStageProgramDone_of_last (h : b.length ≤ 256 * max 1 n) : execStageProgramDone ⟨n, true⟩ s =
    .next ((s.flashDone (flashWrite s.nvm.flash a b)).stageNext (fun st => { st with state := 5, kib := 0, pos := 0 }) .stRead) := by
  unfold execStageProgramDone
  simp only [hop]
  rw [if_neg (show ¬ (!true && !s.nvm.frozen) = true by simp), if_neg (ne_true_of_eq_false hfrozen),
    if_neg (ne_true_of_eq_false hfrozen), if_pos h, List.take_of_length_le h,
    State.stageGoOn_of_running (by exact habort)]
  rfl

theorem execStageProgramDone_of_more (h : 256 * max 1 n < b.length) : execStageProgramDone ⟨n, true⟩ s =
    .next ((s.flashDone (flashWrite s.nvm.flash a (b.take (256 * max 1 n)))).stageNext
      (fun st => { st with pos := st.pos + max 1 n, kib := (st.pos + max 1 n) / 4 })
      (.stProg (a + 256 * max 1 n) (b.drop (256 * max 1 n)))) := by
  unfold execStageProgramDone
  simp only [hop]
  rw [if_neg (show ¬ (!true && !s.nvm.frozen) = true by simp), if_neg (ne_true_of_eq_false hfrozen),
    if_neg (ne_true_of_eq_false hfrozen), if_neg (Nat.not_le.2 h),
    Nat.mul_div_cancel_left _ (by decide : 0 < 256), State.stageGoOn_of_running (by exact habort)]
  rfl

end

/- The read-back, and the STAGED header (R341). -/

/-- The STAGED header put after a read-back that is equal. -/
def State.stageVerified (s : State) : State :=
  (((s.flashDone s.nvm.flash).modStage fun st => { st with kib := st.image.length / 1024, mark := true }).putHeader
    (s.nvm.hdr.setArea s.stageArea 2) 1).nvmKick

theorem State.stageVerified_stage :
    s.stageVerified.host.stage = { s.host.stage with kib := s.host.stage.image.length / 1024, mark := true } := by
  unfold State.stageVerified
  rw [State.nvmKick_p_host, State.putHeader_p_host]
  rfl

theorem State.stageVerified_hdr : s.stageVerified.nvm.hdr = { s.nvm.hdr.setArea s.stageArea 2 with hseq := s.nvm.hdr.hseq + 1 } :=
  State.nvmKick_sameStore.1.trans State.putHeader_hdr

/-- The image as the flash gives it back. -/
def State.readBack (s : State) : List Byte := flashRead s.nvm.flash (areaAddr s.stageArea) s.host.stage.image.length

section
variable {r : Bool} (hop : s.nvm.op = some ⟨.stRead, r⟩) (hfrozen : s.nvm.frozen = false)
include hop hfrozen

theorem execStageVerifyDone_of_equal (h : sha256 s.readBack = s.host.stage.sealHash) :
    execStageVerifyDone s = .next s.stageVerified := by
  have hsame : (sha256 s.readBack != s.host.stage.sealHash) = false := by simpa using h
  unfold execStageVerifyDone
  simp only [hop]
  rw [if_neg (ne_true_of_eq_false hfrozen)]
  exact if_neg (ne_true_of_eq_false hsame)

theorem execStageVerifyDone_of_different (h : sha256 s.readBack ≠ s.host.stage.sealHash) :
    execStageVerifyDone s = .next ((s.flashDone s.nvm.flash).stageEnd 8).nvmKick := by
  have hdiffers : (sha256 s.readBack != s.host.stage.sealHash) = true := by simpa using h
  unfold execStageVerifyDone
  simp only [hop]
  rw [if_neg (ne_true_of_eq_false hfrozen)]
  exact if_pos hdiffers

end

theorem State.pnReserveAll_of_plain (h : ∀ e, s.macsecOn e = false) : s.pnReserveAll = s := by
  have hone (e : Nat) : s.pnReserve e = s := if_pos (by simp [State.pnWanted, h])
  simp only [State.pnReserveAll, List.foldl_cons, List.foldl_nil, hone]

theorem State.macsecOn_congr {t : State} (hv : t.variant = s.variant) (hrws : t.regs.rws = s.regs.rws) (e : Nat) :
    t.macsecOn e = s.macsecOn e := by
  unfold State.macsecOn State.rws
  rw [hv, hrws]

/-- A header copy programmed: the flash holds it, and it is in force (R331). -/
def State.headerProgrammed (s : State) (a : Nat) (h : NvmHeader) : State :=
  { s with nvm := { s.nvm with op := none, flash := flashWrite s.nvm.flash a h.bytes, hdrShown := h } }

section
variable {a : Nat} {h : NvmHeader}

/- In the proofs about it the flash written is generalized, or a check of equal states would write its bytes one by one. -/

theorem State.headerProgrammed_keeps : Keeps (partMask [.nvm]) s (s.headerProgrammed a h) := by
  have hwf := flashWrite_wf (m := s.nvm.flash) a h.bytes
  unfold State.headerProgrammed
  generalize flashWrite s.nvm.flash a h.bytes = flash at *
  exact Keeps.nvm hwf

/-- Staging ended with the STAGED header programmed (R341). -/
def State.stagedDone (s : State) (a : Nat) (h : NvmHeader) : State := ((s.headerProgrammed a h).stageEnd 0).nvmKick

theorem State.stagedDone_stage : (s.stagedDone a h).host.stage = s.host.stage.ended 0 := by
  unfold State.stagedDone
  rw [State.nvmKick_p_host, State.stageEnd_host]
  rfl

theorem State.stagedDone_flash : (s.stagedDone a h).nvm.flash = flashWrite s.nvm.flash a h.bytes := by
  unfold State.stagedDone
  rw [State.nvmKick_sameStore.2, State.stageEnd_sameStore.2]
  unfold State.headerProgrammed
  dsimp only

theorem State.stagedDone_keeps : Keeps (partMask [.cnt, .evt, .nvm, .host]) s (s.stagedDone a h) := by
  unfold State.stagedDone
  exact ((State.headerProgrammed_keeps.mono rfl).andThen State.stageEnd_keeps rfl).andThen State.nvmKick_keeps rfl

theorem State.headerDone_of_staged (hmark : s.host.stage.mark = true) (harea : h.area s.stageArea = 2) :
    State.headerDone { s with nvm := { s.nvm with op := none } } a h = (s.headerProgrammed a h).stageEnd 0 := by
  have hstaged : (s.host.stage.mark && h.area s.stageArea == 2) = true := by rw [hmark, harea]; rfl
  unfold State.headerDone State.headerProgrammed
  dsimp only
  generalize flashWrite s.nvm.flash a h.bytes = flash
  exact if_pos hstaged

theorem execNvmOpDone_of_staged {r : Bool} (hop : s.nvm.op = some ⟨.header a h, r⟩) (hmark : s.host.stage.mark = true)
    (harea : h.area s.stageArea = 2) (hplain : ∀ e, s.macsecOn e = false) :
    execNvmOpDone true s = .next (s.stagedDone a h).vioRelease := by
  have hended (e : Nat) : (s.stagedDone a h).macsecOn e = false :=
    (State.macsecOn_congr State.stagedDone_keeps.lasting.variant (State.stagedDone_keeps.same .rws rfl) e).trans (hplain e)
  rw [← State.pnReserveAll_of_plain hended]
  unfold execNvmOpDone State.stagedDone
  rw [← State.headerDone_of_staged hmark harea]
  simp only [hop]
  rw [if_neg (by simp [NvmJob.op]), if_neg (by simp [NvmJob.staging]), if_pos (by simp)]
  rfl

end

end

/-- Settles O21: one lemma for each case of a completion, a staging's end as `State.stageEnd_host`. Log entry 132: the STAGED header ends in
DONE also with an ABORT pending. -/
theorem stagingPasses : Obligations.StagingPasses := by
  intro s
  refine ⟨fun v hrun ha hok hmin hmax hv => ?_, fun v hrun hv => ⟨fun hbetween => ?_, fun hwriting => ?_⟩,
    fun hst ha => ⟨fun es data hlist hgood hlen hne hfits => ?_, fun es data hlist hread hfits => ⟨fun hsome => ?_, fun hall => ?_⟩,
      fun es data => ?_⟩,
    fun hst hwait => ⟨fun hpass hheld => ?_, fun hfail => ?_⟩, fun hst hwait hheld => ?_,
    fun a left n r hop hfrozen habort => ⟨fun hlast => ?_, fun hmore => ?_, fun hr => ?_⟩,
    fun a n b r hop hfrozen habort => ⟨fun hlast => ?_, fun hmore => ?_, fun hr => ?_⟩, fun r hop hfrozen => ?_,
    fun a h r hop _ hmark harea hplain => ?_⟩
  · exact ⟨_, congrArg Host.Outcome.next ((State.writeStageCtrl_of_go hv).trans (State.stageGo_of_idle hrun ha hok hmin hmax)),
      congrArg HostPort.stage (State.readHostMem_keeps.same .host rfl), rfl⟩
  · obtain ⟨hstate, hcode⟩ := s.stageEnd_of_failed (code := 9) (by decide)
    exact ⟨s.stageEnd 9, congrArg Host.Outcome.next ((State.writeStageCtrl_of_abort hv).trans (State.stageAbort_of_between hrun hbetween)),
      hstate, hcode, State.stageEnd_keeps.only_parts rfl⟩
  · exact ⟨s.modStage fun st => { st with abort := true },
      congrArg Host.Outcome.next ((State.writeStageCtrl_of_abort hv).trans (State.stageAbort_of_writing hrun hwriting)), rfl,
      State.modStage_keeps.only_parts rfl⟩
  · exact ⟨_, execStagePullDone_of_list hst ha hlist hgood hlen hne hfits, rfl, State.modStage_keeps.only_parts rfl⟩
  · exact ⟨_, (execStagePullDone_of_image hst ha hlist).trans (congrArg _ (State.stageBytes_of_some hread hfits hsome)), rfl,
      State.modStage_keeps.only_parts rfl⟩
  · exact ⟨_, (execStagePullDone_of_image hst ha hlist).trans (congrArg _ (State.stageBytes_of_all hread hfits hall)), rfl,
      State.modStage_keeps.only_parts rfl⟩
  · obtain ⟨hstate, hcode⟩ := s.stageEnd_of_failed (code := 3) (by decide)
    exact ⟨s.stageEnd 3, execStagePullDone_of_failed hst ha, hstate, hcode, State.stageEnd_keeps.only_parts rfl⟩
  · exact ⟨_, execStageCheckDone_of_passed hst hwait hpass (State.stageHeld_stageIdentified hheld), State.stageErase_stage,
      State.stageErase_hdr.trans (congrArg (fun area => { s.nvm.hdr.setArea area 1 with hseq := s.nvm.hdr.hseq + 1 })
        (State.stageArea_congr rfl rfl))⟩
  · obtain ⟨hstate, hcode⟩ := s.stageIdentified.stageEnd_of_failed (stageCode_ne_zero s.stageCheck)
    exact ⟨_, execStageCheckDone_of_failed hst hwait hfail, hstate, hcode, State.stageEnd_sameStore.2⟩
  · exact ⟨_, execStageEraseResume_of_free hst hwait hheld, State.stageErase_stage, State.stageErase_hdr⟩
  · exact ⟨_, execStageEraseDone_of_last hop hfrozen habort hlast, State.stageNext_stage, State.stageNext_sameStore.2,
      (State.flashDone_stageNext_keeps (flashErase_wf _ _)).only_parts rfl⟩
  · exact ⟨_, execStageEraseDone_of_more hop hfrozen habort hmore, State.stageNext_stage, State.stageNext_sameStore.2,
      (State.flashDone_stageNext_keeps (flashErase_wf _ _)).only_parts rfl⟩
  · exact ⟨_, execStageEraseDone_of_failed hop hfrozen hr, rfl, rfl, rfl⟩
  · exact ⟨_, execStageProgramDone_of_last hop hfrozen habort hlast, State.stageNext_stage, State.stageNext_sameStore.2,
      (State.flashDone_stageNext_keeps (flashWrite_wf _ _)).only_parts rfl⟩
  · exact ⟨_, execStageProgramDone_of_more hop hfrozen habort hmore, State.stageNext_stage, State.stageNext_sameStore.2,
      (State.flashDone_stageNext_keeps (flashWrite_wf _ _)).only_parts rfl⟩
  · exact ⟨_, execStageProgramDone_of_failed hop hfrozen hr, rfl, rfl, rfl⟩
  · by_cases hsame : sha256 s.readBack = s.host.stage.sealHash
    · exact ⟨_, execStageVerifyDone_of_equal hop hfrozen hsame, fun _ => ⟨State.stageVerified_stage, State.stageVerified_hdr⟩,
        fun hdiffers => absurd hsame hdiffers⟩
    · obtain ⟨hstate, hcode⟩ := (s.flashDone s.nvm.flash).stageEnd_of_failed (code := 8) (by decide)
      refine ⟨_, execStageVerifyDone_of_different hop hfrozen hsame, fun heq => absurd heq hsame, fun _ => ?_⟩
      rw [State.nvmKick_p_host]
      exact ⟨hstate, hcode, (State.stageEnd_sameStore.trans State.nvmKick_sameStore).2⟩
  · refine ⟨_, execNvmOpDone_of_staged hop hmark harea hplain, ?_⟩
    rw [State.vioRelease_p_host, State.vioRelease_p_nvm, State.stagedDone_stage]
    exact ⟨rfl, rfl, State.stagedDone_flash⟩

end Sys2Proof.Machine
end

section
/-! SUPPORT. Stacks and pseudo-channels: what a read gives after one of them, or each of a list of them, is changed, and what the operations on
HBM's bytes and on an uncorrectable burst leave of them (R263, R283). -/

namespace Sys2Proof.Machine

theorem Variant.stacksN_le (v : Variant) : v.stacksN ≤ 4 := by cases v <;> decide

theorem Variant.pcsN_le (v : Variant) : v.pcsN ≤ 128 := Nat.mul_le_mul_left 32 v.stacksN_le

theorem State.place_pc_lt {s : State} {a : Nat} : (s.place a).pc < 128 := by
  have hpos : 0 < s.variant.pcsN := by cases s.variant <;> decide
  exact (Nat.mod_lt (a / 256) hpos).trans_le s.variant.pcsN_le

section
variable {s t : State} {i p q : Nat} {f : StackSt → StackSt} {g : PcSt → PcSt}

@[simp] theorem State.pc_modStk : (s.modStk i f).mem.pc p = s.mem.pc p := rfl
@[simp] theorem State.length_modStk : (s.modStk i f).mem.stks.length = s.mem.stks.length := length_modAt ..

theorem State.stk_modStk_same (h : i < s.mem.stks.length) : (s.modStk i f).mem.stk i = f (s.mem.stk i) :=
  (State.stk_modStk ..).trans (if_pos ⟨rfl, h⟩)

theorem State.pc_modPc_same (h : p < s.mem.pcs.length) : (s.modPc p g).mem.pc p = g (s.mem.pc p) :=
  (State.pc_modPc ..).trans (if_pos ⟨rfl, h⟩)

theorem State.pc_modPc_other (h : q ≠ p) : (s.modPc p g).mem.pc q = s.mem.pc q :=
  (State.pc_modPc ..).trans (if_neg fun hpq => h hpq.1.symm)

/-- Two changes of one pseudo-channel are one. -/
theorem State.modPc_modPc (g' : PcSt → PcSt) : (s.modPc p g).modPc p g' = s.modPc p (g' ∘ g) := by
  have hpcs : modAt (modAt s.mem.pcs p g) p g' = modAt s.mem.pcs p (g' ∘ g) := List.modify_modify_eq ..
  exact congrArg (fun l => { s with mem := { s.mem with pcs := l } }) hpcs

/-- A change that leaves a field of a pseudo-channel leaves it of all of them. -/
theorem State.pc_modPc_field {α : Type} (field : PcSt → α) (h : ∀ x, field (g x) = field x) :
    field ((s.modPc p g).mem.pc q) = field (s.mem.pc q) := by
  rw [State.pc_modPc]
  split
  · exact h _
  · rfl

end

/- Every pseudo-channel of a list changed. -/

/-- Each pseudo-channel of a list changed. -/
def State.modPcs (s : State) (l : List Nat) (g : Nat → PcSt → PcSt) : State :=
  { s with mem := { s.mem with pcs := l.foldl (fun ps p => modAt ps p (g p)) s.mem.pcs } }

theorem getD_foldl_modAt {α : Type} {g : Nat → α → α} {d : α} {q : Nat} {l : List Nat} (hl : l.Nodup) (ps : List α) :
    (l.foldl (fun ps p => modAt ps p (g p)) ps).getD q d = if q ∈ l ∧ q < ps.length then g q (ps.getD q d) else ps.getD q d := by
  induction l generalizing ps with
  | nil => simp
  | cons p l ih =>
    obtain ⟨hp, hl⟩ := List.nodup_cons.1 hl
    rw [List.foldl_cons, ih hl, length_modAt, getD_modAt]
    by_cases hpq : p = q
    · subst hpq
      simp [hp]
    · simp [hpq, Ne.symm hpq]

section
variable {s : State} {l : List Nat} {g : Nat → PcSt → PcSt} {q : Nat}

/-- A scan that changes the pseudo-channels of a list in turn, by what the state is apart from them. -/
theorem State.foldl_modPc {g : State → Nat → PcSt → PcSt} (hg : ∀ t p f, g (t.modPc p f) = g t) :
    l.foldl (fun t p => t.modPc p (g t p)) s = s.modPcs l (g s) := by
  induction l generalizing s with
  | nil => rfl
  | cons p l ih =>
    rw [List.foldl_cons, ih, hg]
    rfl

theorem State.modPcs_keeps : Keeps (partMask [.mem]) s (s.modPcs l g) := Keeps.mem rfl rfl

@[simp] theorem State.stk_modPcs {i : Nat} : (s.modPcs l g).mem.stk i = s.mem.stk i := rfl
@[simp] theorem State.length_stks_modPcs : (s.modPcs l g).mem.stks.length = s.mem.stks.length := rfl

theorem State.pc_modPcs (hl : l.Nodup) (hq : q ∈ l) (hlt : q < s.mem.pcs.length) : (s.modPcs l g).mem.pc q = g q (s.mem.pc q) :=
  (getD_foldl_modAt hl _).trans (if_pos ⟨hq, hlt⟩)

end

theorem mem_pcsOf {st p : Nat} : p ∈ pcsOf st ↔ stackOf p = st := by
  unfold pcsOf stackOf
  rw [List.mem_map]
  refine ⟨fun ⟨i, hi, hp⟩ => ?_, fun h => ⟨p % 32, List.mem_range.2 (Nat.mod_lt _ (by decide)), ?_⟩⟩
  · have := List.mem_range.1 hi
    omega
  · omega

theorem lt_of_mem_pcsOf {st p : Nat} (hst : st < 4) (hp : p ∈ pcsOf st) : p < 128 := by
  have hstack := mem_pcsOf.1 hp
  unfold stackOf at hstack
  omega

theorem nodup_pcsOf (st : Nat) : (pcsOf st).Nodup := List.nodup_range.map fun _ _ h => Nat.add_left_cancel h

/- The operations that change HBM's bytes, and the note of what of them is lost, alone. -/

/-- The same memory but for its bytes and what uncorrectable bursts have spoilt. -/
def Mem.SameControl (a b : Mem) : Prop := b = { a with bytes := b.bytes, lampLost := b.lampLost, poison := b.poison }

theorem Mem.SameControl.refl {a : Mem} : a.SameControl a := rfl

theorem Mem.SameControl.of_eq {a b : Mem} (h : b = a) : a.SameControl b := h ▸ .refl

theorem Mem.SameControl.trans {a b c : Mem} (h : a.SameControl b) (k : b.SameControl c) : a.SameControl c := by
  refine Eq.trans k ?_
  rw [h]

section
variable {a b : Mem} (h : a.SameControl b)
include h

theorem Mem.SameControl.pcs : b.pcs = a.pcs := by rw [h]
theorem Mem.SameControl.pc (p : Nat) : b.pc p = a.pc p := congrArg (·.getD p .reset) h.pcs
theorem Mem.SameControl.stk (i : Nat) : b.stk i = a.stk i := by rw [h]; rfl
theorem Mem.SameControl.stks_length : b.stks.length = a.stks.length := by rw [h]
theorem Mem.SameControl.ueAddr : b.ueAddr = a.ueAddr := by rw [h]
theorem Mem.SameControl.uePort : b.uePort = a.uePort := by rw [h]

end

section
variable {s : State}

theorem State.bar2Do_sameControl {x : Bar2Op} : s.mem.SameControl (s.bar2Do x).mem := by
  cases x with
  | read a n => exact rfl
  | write a d =>
    unfold State.bar2Do
    dsimp only
    split
    · exact .refl
    · rw [State.bar2Put_mem]
      exact rfl

theorem State.bar2Drain_sameControl {kept l : List Bar2Op} : s.mem.SameControl (s.bar2Drain kept l).mem := by
  induction l generalizing s kept with
  | nil => exact .refl
  | cons x l ih =>
    unfold State.bar2Drain
    split
    · exact ih
    · exact State.bar2Do_sameControl.trans ih

theorem State.bar2Go_sameControl : s.mem.SameControl s.bar2Go.mem := State.bar2Drain_sameControl

theorem State.modLampTile_mem {i : Nat} {f : Nat → Tile → Tile} : (s.modLampTile i f).mem = s.mem :=
  State.modLampTile_keeps.same .mem rfl

theorem State.ueHandle_sameControl {r : MemReq} {hit : BurstHit} : s.mem.SameControl (s.ueHandle r hit).mem := by
  unfold State.ueHandle
  split
  case h_1 =>
    extract_lets i u
    have hu : u.mem = s.mem := State.modLampTile_mem
    exact (Mem.SameControl.of_eq hu).trans rfl
  case h_2 => split <;> exact .refl
  case h_3 =>
    split
    · exact .of_eq (List.foldlRecOn (motive := fun t : State => t.mem = s.mem) _ _ rfl
        fun t h i _ => State.modLampTile_mem.trans h)
    · exact .refl
  case h_4 => split <;> exact .refl
  case h_5 => exact rfl
  case h_6 =>
    split
    · exact .of_eq State.fault_p_mem
    · exact .refl
  case h_7 => exact .refl

/-- The loss of a pseudo-channel leaves what its reads in flight are, and which burst was uncorrectable last. -/
theorem State.losePc_reads {p train : Nat} : (s.losePc p train).mem.ueAddr = s.mem.ueAddr ∧ (s.losePc p train).mem.uePort = s.mem.uePort ∧
    ∀ q, ((s.losePc p train).mem.pc q).flight = (s.mem.pc q).flight := by
  unfold State.losePc
  extract_lets first u v
  have hgo := State.bar2Go_sameControl (s := { v with mem := { v.mem with ok := false, lostPc := first } }.fault Fk.memPcLost (srcPc p) [])
  rw [State.fault_p_mem] at hgo
  exact ⟨hgo.ueAddr, hgo.uePort, fun q => (congrArg PcSt.flight (hgo.pc q)).trans (State.pc_modPc_field PcSt.flight fun _ => rfl)⟩

end

end Sys2Proof.Machine
end

section
/-! SUPPORT. The controllers (R265 to R270, R274, R281, R283): a request taken, the oldest read returned, a refresh, an idle row closed, and a
parity alert with its replays. -/

namespace Sys2Proof.Machine

/- MEM_REQUEST (R265, R267, R274). -/

/-- A stack whose pending rest a request has aborted; a step up goes on. -/
def StackSt.aborted (k : StackSt) : StackSt :=
  if k.phase = .entering ∧ ¬(k.step = true ∧ k.down = true) then { k with phase := .active, step := false } else k

/-- A real-time port's level noted as it is no cause for panic. -/
def State.levelNoted (s : State) (port level : Nat) (busy : Bool) : State :=
  { s with mem := { s.mem with rt := if rtClass port then setAt s.mem.rt port ⟨level, false, busy⟩ else s.mem.rt } }

/-- The state as a request has reached its controller. -/
def State.requestTaken (s : State) (r : MemReq) (pc : Nat) : State :=
  (s.stirStack (stackOf pc)).modPc pc fun q => { q with queue := enqueue r q.queue }

section
variable {s : State} {i pc port level : Nat} {busy : Bool} {r : MemReq}

theorem StackSt.aborted_phase {k : StackSt} :
    k.aborted.phase = if k.phase = .entering ∧ ¬(k.step = true ∧ k.down = true) then .active else k.phase := by
  unfold StackSt.aborted
  split <;> rfl

theorem State.stk_abortRest (h : i < s.mem.stks.length) : (s.abortRest i).mem.stk i = (s.mem.stk i).aborted := by
  unfold State.abortRest StackSt.aborted
  extract_lets k
  split
  case h_1 hphase =>
    by_cases hup : k.step = true ∧ k.down = true
    · rw [if_pos (by simpa using hup), if_neg fun hk => hk.2 hup]
    · rw [if_neg (by simpa using hup), if_pos ⟨hphase, hup⟩]
      exact State.stk_modStk_same h
  case h_2 hphase => exact (if_neg fun hk => hphase hk.1).symm

theorem State.stk_stirStack (h : i < s.mem.stks.length) :
    (s.stirStack i).mem.stk i = { (s.mem.stk i).aborted with quiet := s.ticks } := by
  have hlen : i < (s.abortRest i).mem.stks.length := by
    unfold State.abortRest
    extract_lets k
    split
    · split
      · exact h
      · exact h.trans_eq State.length_modStk.symm
    · exact h
  unfold State.stirStack
  rw [State.stk_modStk_same hlen, State.stk_abortRest h]

theorem State.stirStack_pcs : (s.stirStack i).mem.pcs = s.mem.pcs := by rw [State.stirStack_sameSleep.1]

theorem State.stirStack_rt : (s.stirStack i).mem.rt = s.mem.rt := by rw [State.stirStack_sameSleep.1]

theorem State.rtLevel_of_calm (h : rtClass port = true → s.panicMark port ≤ level) :
    (if rtClass port then s.rtLevel port level busy else s) = s.levelNoted port level busy := by
  unfold State.levelNoted
  by_cases hrt : rtClass port = true
  · have hcalm : decide (level < s.panicMark port) = false := decide_eq_false (Nat.not_lt.2 (h hrt))
    rw [if_pos hrt, if_pos hrt]
    unfold State.rtLevel
    simp only [hcalm, Bool.false_and]
    rfl
  · rw [if_neg hrt, if_neg hrt]

theorem State.levelNoted_keeps : Keeps (partMask [.mem]) s (s.levelNoted port level busy) := Keeps.mem rfl rfl

theorem State.requestTaken_keeps : Keeps (partMask [.cnt, .mem]) s (s.requestTaken r pc) :=
  State.stirStack_keeps.andThen State.modPc_keeps rfl

theorem State.pc_requestTaken_same (h : pc < s.mem.pcs.length) :
    (s.requestTaken r pc).mem.pc pc = { s.mem.pc pc with queue := enqueue r (s.mem.pc pc).queue } := by
  unfold State.requestTaken
  rw [State.pc_modPc_same (h.trans_eq (congrArg _ State.stirStack_pcs.symm))]
  unfold Mem.pc
  rw [State.stirStack_pcs]

theorem State.pc_requestTaken_other {p : Nat} (h : p ≠ pc) : (s.requestTaken r pc).mem.pc p = s.mem.pc p := by
  unfold State.requestTaken
  rw [State.pc_modPc_other h]
  unfold Mem.pc
  rw [State.stirStack_pcs]

theorem State.stk_requestTaken (h : stackOf pc < s.mem.stks.length) :
    (s.requestTaken r pc).mem.stk (stackOf pc) = { (s.mem.stk (stackOf pc)).aborted with quiet := s.ticks } := State.stk_stirStack h

theorem State.requestTaken_rt : (s.requestTaken r pc).mem.rt = s.mem.rt := State.stirStack_rt

end

/-- MEM_REQUEST of working HBM for a port with room, no cause for panic. -/
theorem execMemRequest_of_room {s : State} {port : Fin 8} {addr : BitVec 40} {write : Bool} {level : Fin 16385} {busy : Bool}
    (hok : s.mem.ok = true) (haddr : addr.toNat < s.variant.hbmBytes) (hcalm : rtClass port = true → s.panicMark port ≤ level)
    (hroom : ((s.mem.pc (s.place addr.toNat).pc).queue.filter (·.port == port.val)).length < 64) :
    execMemRequest port addr write level busy s =
      .next ((s.levelNoted port level busy).requestTaken ⟨port, addr.toNat, write, s.ticks⟩ (s.place addr.toNat).pc) := by
  unfold execMemRequest
  rw [State.rtLevel_of_calm hcalm, if_neg (by simp [hok])]
  extract_lets u p v w
  refine (if_neg (Nat.not_le.2 haddr)).trans ((if_neg (Nat.not_le.2 hroom)).trans (congrArg Host.Outcome.next ?_))
  have hticks : v.ticks = s.ticks := State.abortRest_keeps.lasting.ticks
  show (v.modPc p.pc fun q => { q with queue := enqueue ⟨port, addr.toNat, write, v.ticks⟩ q.queue }).modStk (stackOf p.pc)
    (fun k => { k with quiet := v.ticks }) = _
  rw [hticks]
  rfl

/- MEM_READ_BURST (R283). -/

/-- The state as the oldest read of a pseudo-channel has come off. -/
def State.readOff (s : State) (p : Nat) (rest : List MemReq) : State := s.modPc p fun q => { q with flight := rest }

/-- The state as an uncorrectable burst is shown and its reader told. -/
def State.ueTold (s : State) (p : Nat) (r : MemReq) (hit : BurstHit) : State :=
  ({ s.bump (Reg.stackUe (stackOf p)) with mem := { s.mem with ueAddr := r.addr, uePort := r.port } }.fault Fk.memUe (srcPc p) []).ueHandle
    r hit

/-- The state as an uncorrectable burst has come off, is told, and its instant is noted. -/
def State.ueNoted (s : State) (p : Nat) (r : MemReq) (rest : List MemReq) (hit : BurstHit) : State :=
  let u := (s.readOff p rest).ueTold p r hit
  let ticks := ((u.mem.pc p).ueTicks.filter fun t => u.ticks < t + secT) ++ [u.ticks]
  u.modPc p fun q => { q with ueTicks := ticks }

section
variable {s : State} {p : Fin 128} {r : MemReq} {rest : List MemReq} {hit : BurstHit}

theorem State.readOff_keeps : Keeps (partMask [.mem]) s (s.readOff p rest) := State.modPc_keeps

theorem State.readOff_flight (hp : p < s.mem.pcs.length) : ((s.readOff p rest).mem.pc p).flight = rest :=
  congrArg PcSt.flight (State.pc_modPc_same hp)

theorem State.ueTold_sameControl : { s.mem with ueAddr := r.addr, uePort := r.port }.SameControl (s.ueTold p r hit).mem := by
  unfold State.ueTold
  exact (Mem.SameControl.of_eq State.fault_p_mem).trans State.ueHandle_sameControl

theorem execMemReadBurst_of_read (hf : (s.mem.pc p).flight = r :: rest) :
    execMemReadBurst p 0 hit s = .next (s.readOff p rest) ∧
    execMemReadBurst p 1 hit s = .next ((s.readOff p rest).bump (Reg.stackCe (stackOf p))) := by
  unfold execMemReadBurst
  rw [hf]
  exact ⟨rfl, rfl⟩

/-- An uncorrectable burst loses its pseudo-channel or not (R282). -/
theorem execMemReadBurst_of_uncorrectable (hf : (s.mem.pc p).flight = r :: rest) : ∃ lost : Bool,
    execMemReadBurst p 2 hit s = .next (if lost then (s.ueNoted p r rest hit).losePc p 4 else s.ueNoted p r rest hit) := by
  unfold execMemReadBurst
  rw [hf]
  exact ⟨_, rfl⟩

/-- What an uncorrectable burst leaves of the reads in flight, and shows of itself. -/
theorem State.ueNoted_reads (hp : p < s.mem.pcs.length) : ((s.ueNoted p r rest hit).mem.pc p).flight = rest ∧
    (s.ueNoted p r rest hit).mem.ueAddr = r.addr ∧ (s.ueNoted p r rest hit).mem.uePort = r.port := by
  have htold := State.ueTold_sameControl (s := s.readOff p rest) (p := p) (r := r) (hit := hit)
  refine ⟨Eq.trans (State.pc_modPc_field PcSt.flight fun _ => rfl) ?_, htold.ueAddr, htold.uePort⟩
  exact (congrArg PcSt.flight (htold.pc p)).trans (State.readOff_flight hp)

end

/- REFRESH_DUE (R269 to R271) and PAGE_IDLE_TIMEOUT (R268). -/

/-- The state as a refresh has fallen due. -/
def State.refreshFell (s : State) (p : Nat) : State := s.modPc p fun q => { q with refTick := q.refTick + s.refiPb p }

/-- Nothing postpones a refresh: no real-time request waits, owed refreshes are being paid, or the stack has just become hot. -/
def State.RefreshFree (s : State) (p : Nat) : Prop :=
  (s.mem.pc p).rtQueued = false ∨ (s.mem.pc p).payAll = true ∨ (s.mem.stk (stackOf p)).hotTick = some s.ticks

section
variable {s : State} {p : Fin 128}

theorem execRefreshDue_of_due (hruns : s.pcRuns p = true) (hdue : (s.mem.pc p).refTick + s.refiPb p ≤ 64 * s.ticks) :
    execRefreshDue p s =
      if !(s.mem.pc p).rtQueued || (s.mem.pc p).payAll || (s.mem.stk (stackOf p)).hotTick == some s.ticks then
        .next ((s.refreshFell p).modPc p PcSt.refresh)
      else if (s.mem.pc p).owed < s.oweLimit p then .next ((s.refreshFell p).modPc p fun q => { q with owed := q.owed + 1 })
      else .next (((s.refreshFell p).modPc p PcSt.refresh).bump Reg.refreshForced) :=
  if_neg (by simpa [hruns] using hdue)

theorem State.refreshFree_iff : s.RefreshFree p ↔
    (!(s.mem.pc p).rtQueued || (s.mem.pc p).payAll || (s.mem.stk (stackOf p)).hotTick == some s.ticks) = true := by
  simp [State.RefreshFree, or_assoc]

/-- A refresh is issued, at once or forced, or postponed. -/
theorem execRefreshDue_pc (hruns : s.pcRuns p = true) (hdue : (s.mem.pc p).refTick + s.refiPb p ≤ 64 * s.ticks) :
    ∃ t g, execRefreshDue p s = .next t ∧ t.mem = ((s.refreshFell p).modPc p g).mem ∧
      (s.RefreshFree p ∨ s.oweLimit p ≤ (s.mem.pc p).owed → g = PcSt.refresh) ∧
      (¬(s.RefreshFree p ∨ s.oweLimit p ≤ (s.mem.pc p).owed) → g = fun q => { q with owed := q.owed + 1 }) := by
  rw [execRefreshDue_of_due hruns hdue]
  by_cases hfree : s.RefreshFree p
  · exact ⟨_, _, if_pos (State.refreshFree_iff.1 hfree), rfl, fun _ => rfl, fun h => absurd (.inl hfree) h⟩
  · rw [if_neg fun h => hfree (State.refreshFree_iff.2 h)]
    by_cases hlimit : (s.mem.pc p).owed < s.oweLimit p
    · exact ⟨_, _, if_pos hlimit, rfl, fun h => absurd (h.resolve_left hfree) (Nat.not_le.2 hlimit), fun _ => rfl⟩
    · exact ⟨_, _, if_neg hlimit, rfl, fun _ => rfl, fun h => absurd (.inr (Nat.not_lt.1 hlimit)) h⟩

theorem PcSt.closeRow_rows {q : PcSt} {b : Nat} : (q.closeRow b).rows = q.rows.filter (·.bank != b) := by
  unfold PcSt.closeRow
  split
  case isTrue => rfl
  case isFalse hnone =>
    refine (List.filter_eq_self.2 fun o ho => ?_).symm
    simpa using fun heq => hnone (List.any_eq_true.2 ⟨o, ho, by simpa using heq⟩)

theorem PcSt.closeRow_queue {q : PcSt} {b : Nat} : (q.closeRow b).queue = q.queue := by
  unfold PcSt.closeRow
  split <;> rfl

theorem execPageIdleTimeout_of_idle {b : Fin 48} (hruns : s.pcRuns p = true)
    (hidle : ∃ o ∈ (s.mem.pc p).rows, o.bank = b.val ∧ o.tick + (s.pageIdle * 5 + 1) / 2 ≤ s.ticks) :
    execPageIdleTimeout p b s = .next (s.modPc p fun q => q.closeRow b) := by
  obtain ⟨o, ho, hbank, hpast⟩ := hidle
  refine if_pos (Bool.and_eq_true_iff.2 ⟨hruns, List.any_eq_true.2 ⟨o, ho, ?_⟩⟩)
  simpa [hbank, State.past] using hpast

end

/- PARITY_ALERT and PARITY_ALERT_CLEAR (R280, R281). -/

/-- A controller that has stopped at the command an alert names, a calibration slot in progress aborted. -/
def PcSt.alerted (q : PcSt) (c : Nat) : PcSt :=
  let on := q.slotOn.isSome
  { q with alert := some (q.cmds.drop c), tries := 0, slotOn := none, trimStatus := if on then 4 else q.trimStatus,
           trimQ := if on then 0 else q.trimQ, eye := if on then 0 else q.eye }

/-- The state as an alert's commands have been issued again. -/
def State.replayed (s : State) (p : Nat) (cs : List MemCmd) : State :=
  (s.bump (Reg.pcReplays p)).modPc p fun q => q.replay s.ticks cs

section
variable {s : State} {p : Fin 128} {cs : List MemCmd}

theorem execParityAlert_of_command {c : Fin 32} (hok : s.mem.ok = true) (hnone : (s.mem.pc p).alert = none)
    (hc : c.val < (s.mem.pc p).cmds.length) : execParityAlert p c s = .next (s.modPc p fun q => q.alerted c) :=
  if_neg (by simp [hok, hnone, hc])

theorem PcSt.foldl_issue_tries {q : PcSt} : (cs.foldl PcSt.issue q).tries = q.tries := by
  induction cs generalizing q with
  | nil => rfl
  | cons c cs ih => exact ih

theorem PcSt.replay_tries {q : PcSt} {now : Nat} : (q.replay now cs).tries = q.tries := PcSt.foldl_issue_tries

theorem State.replayed_keeps : Keeps (partMask [.cnt, .mem]) s (s.replayed p cs) :=
  (State.bump_keeps.mono rfl).andThen State.modPc_keeps rfl

theorem State.pc_replayed_modPc {g : PcSt → PcSt} (hp : p < s.mem.pcs.length) :
    ((s.replayed p cs).modPc p g).mem.pc p = g ((s.mem.pc p).replay s.ticks cs) := by
  rw [State.replayed, State.modPc_modPc]
  exact State.pc_modPc_same hp

theorem execParityAlertClear_of_clear (ha : (s.mem.pc p).alert = some cs) :
    execParityAlertClear p false s = .next ((s.replayed p cs).modPc p fun q => { q with alert := none, tries := 0 }) := by
  unfold execParityAlertClear
  rw [ha]
  rfl

/-- A replay that an alert ends before the third is counted, and every row is closed. -/
theorem execParityAlertClear_of_again (hp : p < s.mem.pcs.length) (ha : (s.mem.pc p).alert = some cs) (ht : (s.mem.pc p).tries < 2) :
    execParityAlertClear p true s =
      .next ((s.replayed p cs).modPc p fun q => { q with tries := (s.mem.pc p).tries + 1, rows := [] }) := by
  unfold execParityAlertClear
  rw [ha]
  have htries : ((s.replayed p cs).mem.pc p).tries = (s.mem.pc p).tries :=
    (congrArg PcSt.tries (State.pc_modPc_same hp)).trans PcSt.replay_tries
  refine (if_neg (by decide)).trans ((if_pos ?_).trans ?_)
  · exact Nat.add_lt_add_right (htries.trans_lt ht) 1
  · exact congrArg (fun n => Host.Outcome.next ((s.replayed p cs).modPc p fun q => { q with tries := n + 1, rows := [] })) htries

end

/-- Settles O30: a request is `State.requestTaken`, a read comes off by `State.readOff`, a refresh falls due by `State.refreshFell`, and an
alert's commands are issued again by `State.replayed`. Log entry 92: a refresh falls due in 64ths of a tick; log entry 131: after a failed
replay every row is closed and everything is issued again. -/
theorem controllersServe : Obligations.ControllersServe := by
  intro s hpcs hstks
  have hin : ∀ p : Fin 128, p < s.mem.pcs.length := fun p => p.2.trans_eq hpcs.symm
  refine ⟨fun port addr write level busy hok haddr hstack hcalm hroom => ?_, fun p sev hit r rest hf => ?_,
    fun p hruns hdue => ?_, fun p b hruns hidle => ?_, fun p c hok hnone hc => ?_,
    fun p cs ha => ⟨?_, fun ht => ?_⟩⟩
  · have hstk := State.stk_requestTaken (s := s.levelNoted port level busy) (r := ⟨port, addr.toNat, write, s.ticks⟩)
      (hstack.trans_eq hstks.symm)
    exact ⟨_, execMemRequest_of_room hok haddr hcalm hroom,
      congrArg PcSt.queue (State.pc_requestTaken_same (s := s.levelNoted port level busy) (State.place_pc_lt.trans_eq hpcs.symm)),
      fun p hp => State.pc_requestTaken_other (s := s.levelNoted port level busy) hp, congrArg StackSt.quiet hstk,
      (congrArg StackSt.phase hstk).trans StackSt.aborted_phase, State.requestTaken_rt,
      Keeps.only_parts (m := partMask [.cnt, .mem]) ((State.levelNoted_keeps.mono rfl).andThen State.requestTaken_keeps rfl) rfl⟩
  · obtain ⟨hclean, hcorrected⟩ := execMemReadBurst_of_read (hit := hit) hf
    match sev with
    | 0 => exact ⟨_, hclean, State.readOff_flight (hin p), fun _ => State.readOff_keeps.only_parts rfl, nofun, nofun⟩
    | 1 =>
      exact ⟨_, hcorrected, State.readOff_flight (hin p), nofun,
        fun _ => ⟨rfl, Keeps.only_parts (m := partMask [.mem, .cnt]) ((State.readOff_keeps.mono rfl).andThen State.bump_keeps rfl) rfl⟩, nofun⟩
    | 2 =>
      obtain ⟨hflight, haddr, hport⟩ := State.ueNoted_reads (s := s) (r := r) (rest := rest) (hit := hit) (hin p)
      obtain ⟨lost, hnext⟩ := execMemReadBurst_of_uncorrectable (hit := hit) hf
      cases lost with
      | false => exact ⟨_, hnext, hflight, nofun, nofun, fun _ => ⟨haddr, hport⟩⟩
      | true =>
        obtain ⟨hsame, hsamePort, hsameFlight⟩ := State.losePc_reads (s := s.ueNoted p r rest hit) (p := p) (train := 4)
        exact ⟨_, hnext, (hsameFlight p).trans hflight, nofun, nofun, fun _ => ⟨hsame.trans haddr, hsamePort.trans hport⟩⟩
  · obtain ⟨t, g, hnext, hmem, hissued, hpostponed⟩ := execRefreshDue_pc hruns hdue
    rw [State.refreshFell, State.modPc_modPc] at hmem
    refine ⟨t, hnext, fun q hq => ?_, ?_, (execRefreshDue_keeps t hnext).only_parts rfl⟩
    · rw [hmem, State.pc_modPc_other hq]
    · rw [hmem, State.pc_modPc_same (hin p)]
      split
      case isTrue h => rw [hissued h]; rfl
      case isFalse h => rw [hpostponed h]; rfl
  · exact ⟨_, execPageIdleTimeout_of_idle hruns hidle, by rw [State.pc_modPc_same (hin p), PcSt.closeRow_rows],
      by rw [State.pc_modPc_same (hin p), PcSt.closeRow_queue], fun q hq => State.pc_modPc_other hq,
      State.modPc_keeps.only_parts rfl⟩
  · exact ⟨_, execParityAlert_of_command hok hnone hc, State.pc_modPc_same (hin p), fun q hq => State.pc_modPc_other hq,
      State.modPc_keeps.only_parts rfl⟩
  · exact ⟨_, execParityAlertClear_of_clear ha, State.pc_replayed_modPc (hin p),
      (State.replayed_keeps.andThen State.modPc_keeps rfl).only_parts rfl⟩
  · exact ⟨_, execParityAlertClear_of_again (hin p) ha ht, State.pc_replayed_modPc (hin p),
      (State.replayed_keeps.andThen State.modPc_keeps rfl).only_parts rfl⟩

end Sys2Proof.Machine
end

section
/-! SUPPORT. Stacks (R271 to R275, R438): a reading, a stack without one, a rest or a step begun, ended and left. -/

namespace Sys2Proof.Machine

/- Hot and cool (R271), and the limits of a reading (R438). -/

/-- The state as a stack's reading has made it hot, cool, or left it as it was. -/
def State.heated (s : State) (i : Nat) (v : Int) : State :=
  if 1360 ≤ v then s.setHot i true v else if v ≤ 1328 then s.setHot i false v else s

/-- The state as a stack's reading is stored. -/
def State.tempStored (s : State) (i : Nat) (v : Int) : State :=
  s.modStk i fun k => { k with temp := v, tempTick := s.ticks, tempPrior := k.temp }

section
variable {s : State} {i : Nat} {hot : Bool} {v : Int}

theorem State.stk_setHot (h : i < s.mem.stks.length) : ∃ tick,
    (s.setHot i hot v).mem.stk i = { s.mem.stk i with hot := hot, hotTick := tick } := by
  unfold State.setHot
  extract_lets k u w
  split
  case isTrue hsame => exact ⟨k.hotTick, by rw [← eq_of_beq hsame]⟩
  case isFalse =>
    refine ⟨if hot then some s.ticks else k.hotTick, ?_⟩
    have hw : w.mem.stk i = u.mem.stk i := by
      unfold w
      split
      · rw [State.foldl_modPc (g := fun _ _ q => { q with payAll := 0 < q.owed }) fun _ _ _ => rfl]
        exact State.stk_modPcs
      · rfl
    rw [State.ev_p_mem, hw]
    exact State.stk_modStk_same h

theorem State.heated_keeps : Keeps (partMask [.cnt, .evt, .mem]) s (s.heated i v) := by
  unfold State.heated
  exact Keeps.ite (fun _ => State.setHot_keeps) fun _ => Keeps.ite (fun _ => State.setHot_keeps) fun _ => Keeps.refl

theorem State.stk_heated (h : i < s.mem.stks.length) : ∃ hot tick,
    (s.heated i v).mem.stk i = { s.mem.stk i with hot := hot, hotTick := tick } ∧
    (hot = true ↔ 1360 ≤ v ∨ (s.mem.stk i).hot = true ∧ 1328 < v) := by
  unfold State.heated
  split
  case isTrue hhot =>
    obtain ⟨tick, htick⟩ := State.stk_setHot (hot := true) (v := v) h
    exact ⟨true, tick, htick, by simp [hhot]⟩
  case isFalse hhot =>
    split
    case isTrue hcool =>
      obtain ⟨tick, htick⟩ := State.stk_setHot (hot := false) (v := v) h
      exact ⟨false, tick, htick, by simp [hhot, hcool]⟩
    case isFalse hcool => exact ⟨(s.mem.stk i).hot, (s.mem.stk i).hotTick, rfl, by simp [hhot, Int.not_le.1 hcool]⟩

theorem State.stackWarn_congr {t : State} (h : t.regs.rws = s.regs.rws) : t.stackWarn = s.stackWarn := by
  unfold State.stackWarn State.rws
  rw [h]

theorem State.judgeStack_msgs_of_below {old : Int} (hshut : v < 1680) (hwarn : v < 16 * s.stackWarn) : (s.judgeStack i old v).2 = [] := by
  have hcount : (if 1680 ≤ v then min 3 (s.hk.stackHi.getD i 0 + 1) else 0) = 0 := if_neg (Int.not_le.2 hshut)
  unfold State.judgeStack
  dsimp only
  rw [hcount, if_neg (Int.not_le.2 hwarn)]
  rfl

end

/-- A stack's reading stored and judged: the state and what it raises. -/
def State.tempJudged (s : State) (i : Nat) (v : Int) : State × List FltMsg :=
  ((s.tempStored i v).heated i v).judgeStack i (s.mem.stk i).temp v

section
variable {s : State} {i : Nat} {v : Int}

theorem State.tempHeated_keeps : Keeps (partMask [.cnt, .evt, .mem]) s ((s.tempStored i v).heated i v) :=
  (State.modStk_keeps.mono rfl).andThen State.heated_keeps rfl

theorem State.tempJudged_keeps : Keeps (partMask [.cnt, .evt, .hk, .mem]) s (s.tempJudged i v).1 :=
  (State.tempHeated_keeps.mono rfl).andThen State.judgeStack_keeps rfl

theorem State.tempJudged_stk (h : i < s.mem.stks.length) : ∃ hot tick,
    (s.tempJudged i v).1.mem.stk i =
      { s.mem.stk i with temp := v, tempTick := s.ticks, tempPrior := (s.mem.stk i).temp, hot := hot, hotTick := tick } ∧
    (hot = true ↔ 1360 ≤ v ∨ (s.mem.stk i).hot = true ∧ 1328 < v) := by
  have hmem : (s.tempJudged i v).1.mem = ((s.tempStored i v).heated i v).mem := State.judgeStack_keeps.same .mem rfl
  obtain ⟨hot, tick, hstate, hhot⟩ := State.stk_heated (s := s.tempStored i v) (v := v) (h.trans_eq State.length_modStk.symm)
  rw [State.tempStored, State.stk_modStk_same h] at hstate hhot
  exact ⟨hot, tick, (congrArg (·.stk i) hmem).trans hstate, hhot⟩

theorem State.tempJudged_msgs (hshut : v < 1680) (hwarn : v < 16 * s.stackWarn) : (s.tempJudged i v).2 = [] :=
  State.judgeStack_msgs_of_below hshut (by rwa [State.stackWarn_congr (State.tempHeated_keeps.same .rws rfl)])

end

section
variable {s : State} {st : Fin 4} {v : BitVec 16}

theorem execStackTempReading_of_due (hread : s.stackRead st = true) (hdue : (s.mem.stk st).tempTick + 625000 ≤ s.ticks) :
    execStackTempReading st v s = .next ((s.tempJudged st v.toInt).1.hkRaise (s.tempJudged st v.toInt).2) :=
  if_neg (by simp [hread, State.past, msT, hdue])

theorem execStackReadTimeout_of_due (hread : s.stackRead st = true) (hdue : (s.mem.stk st).tempTick + 16 * 625000 ≤ s.ticks) :
    execStackReadTimeout st s =
      .next (({ s with hk := { s.hk with stackHi := setAt s.hk.stackHi st 0 } }.setHot st true (s.mem.stk st).temp).hkRaise
        [⟨Fk.hkStackUnread, srcStack st, []⟩]) :=
  if_neg (by simp [hread, State.past, msT, hdue])

end

/- Rest and step (R272 to R275). -/

/-- Whether a stack runs stepped down after its exit: a step has changed its rate. -/
def State.exitDown (s : State) (st : Nat) : Bool := if (s.mem.stk st).step then !(s.mem.stk st).down else (s.mem.stk st).down

/-- A stack at the end of its exit. -/
def StackSt.exited (k : StackSt) (down : Bool) (rate now : Nat) : StackSt :=
  { k with phase := .active, step := false, down := down, rate := if down then 0 else rate, quiet := now }

/-- The state as a stack has left its rest or step, before what waited for it. -/
def State.stackExited (s : State) (st : Nat) : State :=
  (s.modStk st fun k => k.exited (s.exitDown st) s.memRate s.ticks).modPcs (pcsOf st)
    fun _ q => { q with owed := 0, payAll := false, refTick := 64 * s.ticks }

section
variable {s : State} {st : Fin 4}

theorem execStackQuiet_of_ok {step : Bool} (h : s.restOk st step = true) :
    execStackQuiet st step s = .next (s.modStk st fun k => { k with phase := .entering, step := step, phaseTick := s.ticks }) :=
  if_pos h

theorem execStackWake_of_need (hphase : (s.mem.stk st).phase = .selfRefresh) (hdue : (s.mem.stk st).phaseTick + 625 ≤ s.ticks) :
    execStackWake st true s = .next (s.modStk st fun k => { k with phase := .exiting, phaseTick := s.ticks }) :=
  if_pos (by simp [hphase, State.past, usT, hdue])

theorem State.exitDown_eq : s.exitDown st = ((s.mem.stk st).down != (s.mem.stk st).step) := by
  unfold State.exitDown
  cases (s.mem.stk st).step <;> cases (s.mem.stk st).down <;> rfl

/-- At the exit the waiting accesses are made, and a stack still stepped down may begin its step up. -/
theorem execStackExitDone_of_exiting (hphase : (s.mem.stk st).phase = .exiting) : ∃ again : Bool,
    execStackExitDone st s =
      .next (if s.exitDown st && again then (s.stackExited st).bar2Go.beginStep st else (s.stackExited st).bar2Go) := by
  unfold execStackExitDone
  extract_lets k down u v w
  have hv : v = s.stackExited st :=
    State.foldl_modPc (s := u) (g := fun t _ q => { q with owed := 0, payAll := false, refTick := 64 * t.ticks }) fun _ _ _ => rfl
  rw [if_neg (by simp [k, hphase])]
  clear_value v
  subst hv
  exact ⟨_, rfl⟩

theorem State.stk_stackExited (h : st < s.mem.stks.length) :
    (s.stackExited st).mem.stk st = (s.mem.stk st).exited (s.exitDown st) s.memRate s.ticks := by
  rw [State.stackExited, State.stk_modPcs, State.stk_modStk_same h]

theorem State.pc_stackExited {p : Nat} (hp : p ∈ pcsOf st) (h : p < s.mem.pcs.length) :
    (s.stackExited st).mem.pc p = { s.mem.pc p with owed := 0, payAll := false, refTick := 64 * s.ticks } := by
  rw [State.stackExited, State.pc_modPcs (nodup_pcsOf st) hp (by exact h), State.pc_modStk]

theorem State.length_stackExited : (s.stackExited st).mem.stks.length = s.mem.stks.length := by
  rw [State.stackExited, State.length_stks_modPcs, State.length_modStk]

/-- A step up begun leaves the stack but for its phase. -/
theorem State.stk_beginStep {i : Nat} (h : i < s.mem.stks.length) :
    (s.beginStep i).mem.stk i = { s.mem.stk i with phase := .entering, step := true, phaseTick := s.ticks } := State.stk_modStk_same h

/-- A stack after its exit is awake, or begins its step up. -/
theorem execStackExitDone_stk (h : st < s.mem.stks.length) (hphase : (s.mem.stk st).phase = .exiting) :
    ∃ t, execStackExitDone st s = .next t ∧ t.mem.pcs = (s.stackExited st).mem.pcs ∧
      (t.mem.stk st = (s.mem.stk st).exited (s.exitDown st) s.memRate s.ticks ∨
        s.exitDown st = true ∧ t.mem.stk st =
          { (s.mem.stk st).exited (s.exitDown st) s.memRate s.ticks with phase := .entering, step := true, phaseTick := s.ticks }) := by
  obtain ⟨again, hnext⟩ := execStackExitDone_of_exiting hphase
  have hgo := State.bar2Go_sameControl (s := s.stackExited st)
  have hstate := (hgo.stk st).trans (State.stk_stackExited h)
  by_cases hup : (s.exitDown st && again) = true
  · rw [if_pos hup] at hnext
    have hbegun := State.stk_beginStep ((h.trans_eq State.length_stackExited.symm).trans_eq hgo.stks_length.symm)
    have hticks : (s.stackExited st).bar2Go.ticks = s.ticks := State.bar2Go_keeps.lasting.ticks
    rw [hstate, hticks] at hbegun
    exact ⟨_, hnext, hgo.pcs, .inr ⟨(Bool.and_eq_true_iff.1 hup).1, hbegun⟩⟩
  · rw [if_neg hup] at hnext
    exact ⟨_, hnext, hgo.pcs, .inl hstate⟩

end

end Sys2Proof.Machine
end

section
/-! SUPPORT. Calibration slots and training (R264, R277 to R280): a slot begun and ended, the delays it moves, and training that no lane
fails. -/

namespace Sys2Proof.Machine

/- Calibration slots (R278 to R280). -/

/-- PHY_DELAY of a lane with its delays moved toward their centres. -/
def trimWord (centre : List Int) (l : Nat) (w : Word) : Word :=
  wput (wput w 15 8 (trimMove (wfld w 15 8) (centre.getD (2 * l) (wfld w 15 8)))) 23 16
    (trimMove (wfld w 23 16) (centre.getD (2 * l + 1) (wfld w 23 16)))

/-- The state as a slot is over, before its result. -/
def State.slotOver (s : State) (p : Nat) : State :=
  s.modPc p fun q =>
    { q with slotOn := none, slotLate := false,
             slotTick := q.slotTick + s.trimPeriod * secT * (1 + (s.ticks - q.slotTick) / (s.trimPeriod * secT)) }

/-- The smallest eye that a slot has found. -/
def eyeOf (eye : List Nat) : Nat := min 63 (eye.foldl min (eye.headD 0))

/-- The state as a slot ends INVALID, before its event. -/
def State.slotInvalid (s : State) (p : Nat) : State :=
  ((s.slotOver p).modPc p fun q => { q with trimStatus := 3, trimQ := 0, eye := 0 }).bump Reg.trimInvalidCount

/-- The state as a slot ends with a quality, before the event of a weak lane. -/
def State.slotTrimmed (s : State) (p : Nat) (eye : List Nat) (centre : List Int) : State :=
  ((s.slotOver p).modPc p fun q =>
    { q with trimStatus := if 16 ≤ eyeOf eye then 1 else 2, trimQ := min 100 (100 * eyeOf eye / 24), eye := eyeOf eye }).trimDelays p centre

section
variable {s : State} {off : Nat → Nat} {f : Nat → Word → Word}

/-- Registers changed in turn, no two of them one, each by what it held. -/
theorem State.rws_foldl_setRws (hoff : Function.Injective off) (hw : s.wf) (n l : Nat) :
    ((List.range n).foldl (fun s l => s.setRws (off l) (f l (s.rws (off l)))) s).rws (off l) =
      if l < n then f l (s.rws (off l)) else s.rws (off l) := by
  have hwf : ∀ n, ((List.range n).foldl (fun s l => s.setRws (off l) (f l (s.rws (off l)))) s).wf := fun n =>
    List.foldlRecOn (motive := State.wf) _ _ hw fun t h l _ => State.setRws_keeps.lasting.wf h
  induction n with
  | zero => rfl
  | succ n ih =>
    rw [List.range_succ, List.foldl_append, List.foldl_cons, List.foldl_nil, State.rws_setRws _ _ _ _ (hwf n)]
    rcases Nat.lt_trichotomy l n with hlt | rfl | hgt
    · rw [if_neg fun h => hlt.ne (hoff h), ih, if_pos hlt, if_pos (Nat.lt_succ_of_lt hlt)]
    · rw [if_pos rfl, ih, if_neg (Nat.lt_irrefl l), if_pos (Nat.lt_succ_self l)]
    · rw [if_neg fun h => hgt.ne' (hoff h), ih, if_neg (Nat.lt_asymm hgt), if_neg (Nat.not_lt.2 hgt)]

theorem State.trimDelays_rws {p : Nat} {centre : List Int} (hw : s.wf) {l : Nat} (hl : l < 34) :
    (s.trimDelays p centre).rws (Reg.phyDelay p l) = trimWord centre l (s.rws (Reg.phyDelay p l)) := by
  have hinj : Function.Injective (Reg.phyDelay p) := fun a b h => by
    unfold Reg.phyDelay at h
    omega
  exact (State.rws_foldl_setRws (f := trimWord centre) hinj hw 34 l).trans (if_pos hl)

end

section
variable {s : State} {p : Fin 128} {t0 : Nat} {eye : List Nat} {centre : List Int}

theorem execTrimSlotDue_of_ok (hok : s.mem.ok = true) (hp : p.val < s.variant.pcsN) (hon : (s.mem.pc p).slotOn = none)
    (hdue : (s.mem.pc p).slotTick ≤ s.ticks) (hslot : s.slotOk p = true) :
    execTrimSlotDue p s = .next (s.modPc p fun q => { q with slotOn := some s.ticks }) :=
  (if_neg (by simp [hok, hon, hp, hdue])).trans (if_pos hslot)

theorem execTrimSlotEnd_of_unfound (hon : (s.mem.pc p).slotOn = some t0) (hdue : t0 + 1250 ≤ s.ticks) :
    execTrimSlotEnd p false eye centre s = .next ((s.slotInvalid p).ev Ev.memTrimInvalid [p]) := by
  unfold execTrimSlotEnd
  rw [hon]
  exact (if_neg (by simpa [State.past] using hdue)).trans (if_pos rfl)

theorem execTrimSlotEnd_of_found (hon : (s.mem.pc p).slotOn = some t0) (hdue : t0 + 1250 ≤ s.ticks) (heye : eye ≠ []) : ∃ args,
    execTrimSlotEnd p true eye centre s =
      .next (if 16 ≤ eyeOf eye then s.slotTrimmed p eye centre else (s.slotTrimmed p eye centre).ev Ev.memLaneWeak args) := by
  unfold execTrimSlotEnd
  rw [hon]
  exact ⟨_, (if_neg (by simpa [State.past] using hdue)).trans (if_neg (by simp [heye]))⟩

theorem State.slotOver_keeps : Keeps (partMask [.mem]) s (s.slotOver p) := State.modPc_keeps

theorem State.slotInvalid_keeps : Keeps (partMask [.cnt, .mem]) s (s.slotInvalid p) :=
  ((State.slotOver_keeps.mono rfl).andThen State.modPc_keeps rfl).andThen State.bump_keeps rfl

/-- A slot over, and its result noted. -/
theorem State.pc_slotOver_modPc {g : PcSt → PcSt} (hp : p < s.mem.pcs.length) : ∃ tick,
    ((s.slotOver p).modPc p g).mem.pc p = g { s.mem.pc p with slotOn := none, slotLate := false, slotTick := tick } := by
  rw [State.slotOver, State.modPc_modPc]
  exact ⟨_, State.pc_modPc_same hp⟩

theorem State.slotInvalid_pc (hp : p < s.mem.pcs.length) :
    ((s.slotInvalid p).mem.pc p).slotOn = none ∧ ((s.slotInvalid p).mem.pc p).trimStatus = 3 := by
  obtain ⟨tick, hpc⟩ := State.pc_slotOver_modPc (g := fun q => { q with trimStatus := 3, trimQ := 0, eye := 0 }) hp
  rw [State.slotInvalid, State.bump_mem, hpc]
  exact ⟨rfl, rfl⟩

theorem State.slotTrimmed_rws (hw : s.wf) {l : Nat} (hl : l < 34) :
    (s.slotTrimmed p eye centre).rws (Reg.phyDelay p l) = trimWord centre l (s.rws (Reg.phyDelay p l)) :=
  State.trimDelays_rws (State.modPc_keeps.lasting.wf (State.slotOver_keeps.lasting.wf hw)) hl

theorem State.slotTrimmed_pc (hp : p < s.mem.pcs.length) :
    ((s.slotTrimmed p eye centre).mem.pc p).slotOn = none ∧
    ((s.slotTrimmed p eye centre).mem.pc p).trimStatus = if 16 ≤ eyeOf eye then 1 else 2 := by
  obtain ⟨tick, hpc⟩ := State.pc_slotOver_modPc (p := p) (g := fun q =>
    { q with trimStatus := if 16 ≤ eyeOf eye then 1 else 2, trimQ := min 100 (100 * eyeOf eye / 24), eye := eyeOf eye }) hp
  rw [State.slotTrimmed, (State.trimDelays_keeps (p := p)).same .mem rfl, hpc]
  exact ⟨rfl, rfl⟩

end

/- Training (R264, R277). -/

/-- A pseudo-channel that training has found without a weak lane, its next slot in `period` or less. -/
def PcSt.trainedAt (p now period : Nat) (q : PcSt) : PcSt :=
  { q with train := 1, spares := [63, 63], refTick := 64 * now, slotTick := now + period * (p % 32 + 1) / 32 }

/-- A stack that training has found without a failure. -/
def State.stkTrained (s : State) (i : Nat) : StackSt :=
  if i < s.variant.stacksN then { s.mem.stk i with phase := .active, trained := true, rate := s.memRate, quiet := s.ticks } else s.mem.stk i

/-- The state as every pseudo-channel is trained. -/
def State.pcsTrained (s : State) : State :=
  s.modPcs (List.range s.variant.pcsN) fun p => PcSt.trainedAt p s.ticks (s.trimPeriod * secT)

/-- The memory with its stacks trained and its tables and buffers placed. -/
def Mem.placed (m : Mem) (stks : List StackSt) (order : Nat) (base : Word) (place : HbmPlaces) : Mem :=
  { m with ok := true, bytes := [], stks := stks, mapOrder := order, lampBase := base.toNat,
           canvasBase := (List.range 16).map fun i => (place.canvasBase.getD i 0).toNat,
           flowBase := (List.range 640).map fun i => (place.flowBase.getD i 0).toNat,
           slotBase := (List.range 48).map fun i => (place.slotBase.getD i 0).toNat }

section
variable {s : State}

theorem weakLanes_of_strong {eyes : List Nat} (h : ∀ l, l < 32 → 12 ≤ eyes.getD l 0) : weakLanes eyes = [] :=
  List.filter_eq_nil_iff.2 fun l hl => by simpa using h l (List.mem_range.1 hl)

theorem State.trainPc_of_strong {p : Nat} {eyes : List Nat} (h : weakLanes eyes = []) :
    s.trainPc [] p eyes = s.modPc p (PcSt.trainedAt p s.ticks (s.trimPeriod * secT)) := by
  unfold State.trainPc
  rw [h]
  rfl

theorem trainBad_of_strong {p : Nat} {eyes : List Nat} (h : weakLanes eyes = []) : trainBad [] p eyes = false := by
  unfold trainBad
  rw [h]
  rfl

theorem State.foldl_trainPc_of_strong {eyes : List (List Nat)} (h : ∀ p, p < s.variant.pcsN → weakLanes (eyes.getD p []) = []) :
    (List.range s.variant.pcsN).foldl (fun s p => s.trainPc [] p (eyes.getD p [])) s = s.pcsTrained := by
  have hstep : ∀ t : State, ∀ p ∈ List.range s.variant.pcsN, t.trainPc [] p (eyes.getD p []) =
      t.modPc p (PcSt.trainedAt p t.ticks (t.trimPeriod * secT)) := fun t p hp => State.trainPc_of_strong (h p (List.mem_range.1 hp))
  rw [List.foldl_ext _ _ s hstep]
  exact State.foldl_modPc (g := fun t p => PcSt.trainedAt p t.ticks (t.trimPeriod * secT)) fun _ _ _ => rfl

/-- HBM_TRAINING_DONE in SB4 without a failure or a weak lane. -/
theorem execHbmTrainingDone_of_strong {eyes : List (List Nat)} {base : Word} {place : HbmPlaces} (hstage : s.boot.stage = 4)
    (hseal : s.boot.sealWhen = .notYet) (hok : s.mem.ok = false) (hshut : s.flt.shutTick = none)
    (h : ∀ p, p < s.variant.pcsN → weakLanes (eyes.getD p []) = []) :
    execHbmTrainingDone eyes [] base place s = .next { s.pcsTrained with
      mem := s.pcsTrained.mem.placed ((List.range 4).map s.stkTrained) (wfld (s.rws Reg.memCfg) 1 0) base place } := by
  have hbad : ((List.range s.variant.pcsN).filter fun p => trainBad [] p (eyes.getD p [])) = [] :=
    List.filter_eq_nil_iff.2 fun p hp => ne_true_of_eq_false (trainBad_of_strong (h p (List.mem_range.1 hp)))
  unfold execHbmTrainingDone
  rw [if_neg (by simp [hstage, hseal, hok, hshut])]
  extract_lets fs bad u stks nats w
  have hu : u = s.pcsTrained := State.foldl_trainPc_of_strong h
  have hnone : bad = [] := hbad
  clear_value u bad
  subst hu hnone
  have hstks : stks = (List.range 4).map s.stkTrained := List.map_congr_left fun i _ => if_congr (by
    rw [List.any_nil, Bool.not_false, Bool.and_true, decide_eq_true_iff]
    rfl) rfl rfl
  exact congrArg (fun l => Host.Outcome.next { s.pcsTrained with
    mem := s.pcsTrained.mem.placed l (wfld (s.rws Reg.memCfg) 1 0) base place }) hstks

theorem State.pcsTrained_pc {p : Nat} (hp : p < s.variant.pcsN) (hlen : s.mem.pcs.length = 128) : (s.pcsTrained.mem.pc p).train = 1 :=
  congrArg PcSt.train (State.pc_modPcs List.nodup_range (List.mem_range.2 hp) ((hp.trans_le s.variant.pcsN_le).trans_eq hlen.symm))

theorem State.getD_stkTrained {i : Nat} (hi : i < s.variant.stacksN) : ((List.range 4).map s.stkTrained).getD i .reset =
    { s.mem.stk i with phase := .active, trained := true, rate := s.memRate, quiet := s.ticks } := by
  rw [List.getD_eq_getElem?_getD, List.getElem?_map, List.getElem?_range (hi.trans_le s.variant.stacksN_le)]
  exact if_pos hi

end

/-- Settles O31: a reading is `State.tempJudged`, an exit `State.stackExited` with the accesses that waited for it, a slot's delays move by
`State.trimDelays_rws`, and training without a weak lane is `State.pcsTrained`. -/
theorem stacksAndCalibration : Obligations.StacksAndCalibration := by
  intro s hpcs hstks
  have hpc : ∀ p : Fin 128, p < s.mem.pcs.length := fun p => p.2.trans_eq hpcs.symm
  have hstk : ∀ st : Fin 4, st < s.mem.stks.length := fun st => st.2.trans_eq hstks.symm
  refine ⟨fun st v hread hdue => ?_, fun st hread hdue => ?_, fun st step hok => ?_, fun st hphase hdue => ?_, fun st hphase => ?_,
    fun p hok hp hon hdue hslot => ?_, fun p t0 eye centre hw hon hdue => ⟨?_, fun heye => ?_⟩,
    fun eyes base place hstage hseal hok hshut heyes => ?_⟩
  · obtain ⟨hot, tick, hstate, hhot⟩ := State.tempJudged_stk (v := v.toInt) (hstk st)
    refine ⟨_, _, execStackTempReading_of_due hread hdue, congrArg StackSt.temp hstate, congrArg StackSt.tempTick hstate, ?_,
      State.tempJudged_msgs, State.tempJudged_keeps.only_parts rfl⟩
    rwa [hstate]
  · obtain ⟨tick, hhot⟩ := State.stk_setHot (s := { s with hk := { s.hk with stackHi := setAt s.hk.stackHi st 0 } }) (hot := true)
      (v := (s.mem.stk st).temp) (hstk st)
    exact ⟨_, execStackReadTimeout_of_due hread hdue, congrArg StackSt.hot hhot,
      Keeps.only_parts (m := partMask [.cnt, .evt, .hk, .mem]) ((Keeps.hk.mono rfl).andThen State.setHot_keeps rfl) rfl⟩
  · have hstate := State.stk_modStk_same (f := fun k => { k with phase := .entering, step := step, phaseTick := s.ticks }) (hstk st)
    exact ⟨_, execStackQuiet_of_ok hok, congrArg StackSt.phase hstate, congrArg StackSt.step hstate,
      congrArg StackSt.phaseTick hstate, rfl, State.modStk_keeps.only_parts rfl⟩
  · exact ⟨_, execStackWake_of_need hphase hdue, congrArg StackSt.phase (State.stk_modStk_same (hstk st)), rfl,
      State.modStk_keeps.only_parts rfl⟩
  · obtain ⟨t, hnext, hpcsOf, hstate⟩ := execStackExitDone_stk (hstk st) hphase
    have hserved : ∀ p ∈ pcsOf st, (t.mem.pc p).owed = 0 ∧ (t.mem.pc p).queue = (s.mem.pc p).queue := fun p hp => by
      have hlt : p < s.mem.pcs.length := (lt_of_mem_pcsOf st.2 hp).trans_eq hpcs.symm
      have hsame : t.mem.pc p = (s.stackExited st).mem.pc p := congrArg (·.getD p .reset) hpcsOf
      rw [hsame, State.pc_stackExited hp hlt]
      exact ⟨rfl, rfl⟩
    have honly := (execStackExitDone_keeps t hnext).only_parts (l := [.tiles, .mem, .host, .out]) rfl
    rw [← State.exitDown_eq]
    rcases hstate with hawake | ⟨hdown, hup⟩
    · exact ⟨t, hnext, by rw [hawake]; rfl, .inl (by rw [hawake]; exact ⟨rfl, rfl⟩), by rw [hawake]; rfl, hserved, honly⟩
    · exact ⟨t, hnext, by rw [hup]; rfl, .inr (by rw [hup]; exact ⟨hdown, rfl, rfl⟩), by rw [hup]; rfl, hserved, honly⟩
  · exact ⟨_, execTrimSlotDue_of_ok hok hp hon hdue hslot, State.pc_modPc_same (hpc p), State.modPc_keeps.only_parts rfl⟩
  · have hnext := execTrimSlotEnd_of_unfound (eye := eye) (centre := centre) hon hdue
    obtain ⟨hover, hinvalid⟩ := State.slotInvalid_pc (hpc p)
    refine ⟨_, hnext, ?_, ?_, State.ev_regs_rws.trans (State.slotInvalid_keeps.same .rws rfl),
      Keeps.only_parts (m := partMask [.cnt, .evt, .mem]) ((State.slotInvalid_keeps.mono rfl).andThen State.ev_keeps rfl) rfl⟩
    · rw [State.ev_p_mem, hover]
    · rw [State.ev_p_mem, hinvalid]
  · obtain ⟨args, hnext⟩ := execTrimSlotEnd_of_found (centre := centre) hon hdue heye
    obtain ⟨hover, hquality⟩ := State.slotTrimmed_pc (eye := eye) (centre := centre) (hpc p)
    have hdelays := fun l hl => State.slotTrimmed_rws (p := p) (eye := eye) (centre := centre) hw (l := l) hl
    split at hnext
    case isTrue => exact ⟨_, hnext, hover, hquality, hdelays, (execTrimSlotEnd_keeps _ hnext).only_parts rfl⟩
    case isFalse =>
      exact ⟨_, hnext, by rw [State.ev_p_mem, hover], by rw [State.ev_p_mem]; exact hquality,
        fun l hl => (State.ev_f_rws _).trans (hdelays l hl), (execTrimSlotEnd_keeps _ hnext).only_parts rfl⟩
  · have hstrong := fun p (hp : p < s.variant.pcsN) => weakLanes_of_strong (heyes p · hp)
    refine ⟨_, execHbmTrainingDone_of_strong hstage hseal hok hshut hstrong, rfl, rfl, fun i hi => ?_,
      fun p hp => State.pcsTrained_pc hp hpcs, ?_⟩
    · have hstate := State.getD_stkTrained (s := s) hi
      exact ⟨congrArg StackSt.phase hstate, congrArg StackSt.trained hstate⟩
    · exact Keeps.only_parts (m := partMask [.cnt, .evt, .mem])
        ((State.modPcs_keeps.mono rfl).andThen (Keeps.memBytes (fun _ => rfl) rfl) rfl) rfl

end Sys2Proof.Machine
end

section
/-! SUPPORT. A step (spec 95): a tick, or the front command, after which what must last has lasted; and the frame that `touches` gives each
command. -/

namespace Sys2Proof.Machine

section
variable {s t : State} {c : Instr} {rest : List Instr}

theorem step_of_cons (h : s.pending = c :: rest) : step s = exec c { s with pending := rest } := by
  unfold step
  rw [h]

/-- What a step that answers can be: a tick, or the front command, after which what must last has lasted. -/
theorem step_cases (h : step s = .next t) :
    (s.pending = [] ∧ t = tick s) ∨ ∃ c rest, s.pending = c :: rest ∧ Lasting { s with pending := rest } t := by
  cases hp : s.pending with
  | nil =>
    rw [step_of_idle hp] at h
    exact .inl ⟨rfl, (Host.Outcome.next.inj h).symm⟩
  | cons c rest =>
    rw [step_of_cons hp] at h
    exact .inr ⟨c, rest, rfl, (exec_keeps c _ t h).lasting⟩

/-- What a command may do to the seal is no part of the state. -/
theorem sealReach_testBit (c : Instr) (p : Part) : (sealReach c).testBit p.code = false := by
  unfold sealReach
  split <;> cases p <;> rfl

theorem exec_only (h : exec c s = .next t) : Only (touches c) s t := by
  have hkeeps : Keeps _ s t := exec_keeps c s t h
  refine ⟨hkeeps.lasting.variant, hkeeps.lasting.ticks, hkeeps.lasting.pending, fun p hp => hkeeps.same p ?_⟩
  have hout : (partMask (touches c)).testBit p.code = false :=
    testBit_partMask_of_ne _ fun q hq hcode => hp (Part.code_injective hcode ▸ hq)
  rw [Nat.testBit_or, hout, sealReach_testBit, Bool.or_false]

/-- The order in which a frame names its parts does not matter. -/
theorem Only.perm {l l' : List Part} (h : Only l s t) (hl : l.Perm l') : Only l' s t := by
  obtain ⟨hvariant, hticks, hpending, hsame⟩ := h
  exact ⟨hvariant, hticks, hpending, fun p hp => hsame p fun hin => hp (hl.mem_iff.1 hin)⟩

end

/-- Settles O1: by the two cases of the queue (log entry 1 for the tick). -/
theorem stepRunsTheFrontCommand : Obligations.StepRunsTheFrontCommand := by
  intro s c rest
  exact ⟨step_of_cons, step_of_idle⟩

/-- Settles O2: the command leaves the queue's rest as it finds it, and a tick finds an empty queue (log entry 12). -/
theorem commandsWaitInOrder : Obligations.CommandsWaitInOrder := by
  intro s t h
  obtain ⟨hp, ht⟩ | ⟨c, rest, hp, hl⟩ := step_cases h
  · rw [ht, tick_pending, tick_ticks, hp]
    exact ⟨rfl, rfl⟩
  · rw [hl.pending, hl.ticks, hp]
    exact ⟨rfl, rfl⟩

/-- Settles O6: each command's meaning keeps the parts that `touches` does not name (`exec_keeps`). -/
theorem commandsTouchOnlyTheirParts : Obligations.CommandsTouchOnlyTheirParts := by
  intro c s t h
  exact exec_only h

/-- Settles O7: a command keeps the stores' form with all that must last, and so does a tick. -/
theorem stepKeepsStoresCanonical : Obligations.StepKeepsStoresCanonical := by
  intro s t hw h
  obtain ⟨_, ht⟩ | ⟨c, rest, _, hl⟩ := step_cases h
  · exact ht ▸ tick_wf hw
  · exact hl.wf hw

/-- Settles O8: every store of the reset state is the empty list. -/
theorem resetIsCanonical : Obligations.ResetIsCanonical :=
  ⟨⟨rfl, rfl, rfl, rfl, rfl, rfl, rfl⟩, rfl, rfl, rfl, rfl⟩

/-- Settles O13: a command keeps the queues' order with all that must last, and so does a tick. -/
theorem queuesStayInOrder : Obligations.QueuesStayInOrder := by
  refine ⟨fun s t ho h => ?_, Evt.reset_ordered⟩
  obtain ⟨_, ht⟩ | ⟨c, rest, _, hl⟩ := step_cases h
  · exact ht ▸ tick_ordered ho
  · exact hl.queues ho

end Sys2Proof.Machine
end

section
/-! SUPPORT. The line coding (R140 to R143, R170): the blocks of a frame, the receiver that takes them, and the scrambler (R141). -/

namespace Sys2Proof.Machine

section
variable {bs : List Byte} {r : Deframer} {b : Block}

theorem padTo_length {k : Nat} : (padTo k bs).length = max k bs.length := by
  unfold padTo
  rw [List.length_append, List.length_replicate]
  omega

theorem slice_append {pre suf : List Byte} {off k : Nat} (ho : pre.length = off) (hk : bs.length = k) :
    slice (pre ++ bs ++ suf) off k = bs := by
  subst ho hk
  simp [slice]

theorem leBytes_length (k n : Nat) : (leBytes k n).length = k := by
  induction k generalizing n with
  | zero => rfl
  | succ k ih => rw [leBytes, List.length_cons, ih]

/- The blocks of a frame (R142, R143). -/

theorem ctlBlock_length {ty : Nat} (h : bs.length < 8) : (ctlBlock ty bs).payload.length = 8 := by
  unfold ctlBlock
  rw [padTo_length, List.length_cons]
  omega

theorem ctlBlock_type {ty : Nat} (h : ty < 256) : leAt (ctlBlock ty bs).payload 0 1 = ty := by
  simp [ctlBlock, padTo, leAt, slice, leNat, Nat.mod_eq_of_lt h]

theorem ctlBlock_bytes {ty : Nat} : slice (ctlBlock ty bs).payload 1 bs.length = bs :=
  slice_append (pre := [BitVec.ofNat 8 ty]) rfl rfl

/-- The blocks after START are one TERM block with the bytes left over, or a data block of eight bytes and the blocks of the rest. -/
theorem tailBlocks_of_lt {n : Nat} (h : bs.length < 8) : tailBlocks n bs = [(Ctl.term bs).block] := by
  cases n with
  | zero => rfl
  | succ n => exact if_pos h

theorem tailBlocks_of_le {n : Nat} (h : 8 ≤ bs.length) : tailBlocks (n + 1) bs = ⟨false, bs.take 8⟩ :: tailBlocks n (bs.drop 8) :=
  if_neg (Nat.not_lt.2 h)

/-- A block that a frame may hold: eight payload bytes, and of the control blocks only START and TERM. -/
def Block.OfFrame (b : Block) : Prop :=
  b.payload.length = 8 ∧ (b.control = true → leAt b.payload 0 1 = 0x33 ∨ ∃ k, k < 8 ∧ leAt b.payload 0 1 = 0x40 + k)

theorem Ctl.term_ofFrame (h : bs.length < 8) : (Ctl.term bs).block.OfFrame :=
  ⟨ctlBlock_length h, fun _ => .inr ⟨bs.length, h, ctlBlock_type (by omega)⟩⟩

theorem tailBlocks_spec {n : Nat} (h : bs.length ≤ n) :
    (tailBlocks n bs).length = 1 + bs.length / 8 ∧ ∀ b ∈ tailBlocks n bs, b.OfFrame := by
  induction n generalizing bs with
  | zero =>
    have hlt : bs.length < 8 := by omega
    rw [tailBlocks_of_lt hlt, Nat.div_eq_of_lt hlt]
    exact ⟨rfl, by simpa using Ctl.term_ofFrame hlt⟩
  | succ n ih =>
    rcases Nat.lt_or_ge bs.length 8 with hlt | hge
    · rw [tailBlocks_of_lt hlt, Nat.div_eq_of_lt hlt]
      exact ⟨rfl, by simpa using Ctl.term_ofFrame hlt⟩
    · obtain ⟨hlen, hof⟩ := ih (bs := bs.drop 8) (by rw [List.length_drop]; omega)
      rw [tailBlocks_of_le hge]
      refine ⟨?_, fun b hb => ?_⟩
      · rw [List.length_cons, hlen, List.length_drop]
        omega
      · rcases List.mem_cons.1 hb with rfl | hb
        · exact ⟨List.length_take_of_le hge, fun hc => nomatch hc⟩
        · exact hof b hb

theorem lineBlocks_spec (h : 7 ≤ bs.length) : (lineBlocks bs).length = 2 + (bs.length - 7) / 8 ∧ ∀ b ∈ lineBlocks bs, b.OfFrame := by
  obtain ⟨hlen, hof⟩ := tailBlocks_spec (bs := bs.drop 7) (n := bs.length) (by rw [List.length_drop]; omega)
  unfold lineBlocks
  refine ⟨by rw [List.length_cons, hlen, List.length_drop]; omega, fun b hb => ?_⟩
  rcases List.mem_cons.1 hb with rfl | hb
  · exact ⟨ctlBlock_length (by rw [List.length_take]; omega), fun _ => .inl (ctlBlock_type (by decide))⟩
  · exact hof b hb

/- The receiver (R142, R143). -/

/-- Lane-local blocks, which the receiver of the striped stream passes over. -/
def Block.laneLocal (b : Block) : Bool := b.control && ctlLaneLocal (leAt b.payload 0 1)

theorem Deframer.feed_laneLocal (h : b.laneLocal = true) : r.feed b = r := by
  unfold Block.laneLocal ctlLaneLocal at h
  obtain ⟨hc, ht⟩ := Bool.and_eq_true .. ▸ h
  unfold Deframer.feed ctlLaneLocal
  generalize leAt b.payload 0 1 = ty at ht ⊢
  rw [hc]
  simp only [List.contains_cons, List.contains_nil, Bool.or_false, Bool.or_eq_true, beq_iff_eq] at ht
  rcases ht with rfl | rfl | rfl | rfl | rfl | rfl <;> rfl

/-- Lane-local blocks change nothing of what a receiver takes. -/
theorem Deframer.foldl_feed_filter {l : List Block} : l.foldl Deframer.feed r = (l.filter fun b => !b.laneLocal).foldl Deframer.feed r := by
  induction l generalizing r with
  | nil => rfl
  | cons b l ih =>
    rw [List.foldl_cons, ih]
    cases h : b.laneLocal with
    | true => rw [Deframer.feed_laneLocal h, List.filter_cons_of_neg (by simp [h])]
    | false => rw [List.filter_cons_of_pos (by simp [h]), List.foldl_cons]

theorem Deframer.feed_start (h : bs.length = 7) :
    r.feed (Ctl.start bs).block = { r with cur := some bs, counted := r.counted + b2n r.cur.isSome } := by
  have hb : slice (ctlBlock 0x33 bs).payload 1 7 = bs := h ▸ ctlBlock_bytes
  unfold Deframer.feed Ctl.block
  dsimp only
  rw [ctlBlock_type (by decide), hb]
  rfl

theorem Deframer.feed_data {f : List Byte} (h : r.cur = some f) : r.feed ⟨false, bs⟩ = { r with cur := some (f ++ bs) } := by
  unfold Deframer.feed
  rw [h]
  rfl

theorem Deframer.feed_term {f : List Byte} (h : r.cur = some f) (hl : bs.length < 8) :
    r.feed (Ctl.term bs).block = { r with cur := none, done := r.done ++ [f ++ bs] } := by
  unfold Deframer.feed Ctl.block
  dsimp only
  rw [ctlBlock_type (by omega), h, Nat.add_sub_cancel_left, ctlBlock_bytes]
  rw [if_neg (show ¬ (!(ctlBlock (0x40 + bs.length) bs).control) = true from nofun), if_neg (by simp; omega), if_pos (by simp; omega)]

theorem Deframer.feed_tailBlocks {n : Nat} {f : List Byte} (h : r.cur = some f) (hn : bs.length ≤ n) :
    (tailBlocks n bs).foldl Deframer.feed r = { r with cur := none, done := r.done ++ [f ++ bs] } := by
  induction n generalizing bs r f with
  | zero =>
    have hlt : bs.length < 8 := by omega
    rw [tailBlocks_of_lt hlt]
    exact Deframer.feed_term h hlt
  | succ n ih =>
    rcases Nat.lt_or_ge bs.length 8 with hlt | hge
    · rw [tailBlocks_of_lt hlt]
      exact Deframer.feed_term h hlt
    · rw [tailBlocks_of_le hge, List.foldl_cons, Deframer.feed_data h, ih rfl (by rw [List.length_drop]; omega), List.append_assoc,
        List.take_append_drop]

theorem Deframer.feed_lineBlocks (h : 7 ≤ bs.length) :
    (lineBlocks bs).foldl Deframer.feed r = ⟨none, r.done ++ [bs], r.counted + b2n r.cur.isSome⟩ := by
  unfold lineBlocks
  rw [List.foldl_cons, Deframer.feed_start (List.length_take_of_le h),
    Deframer.feed_tailBlocks rfl (by rw [List.length_drop]; omega), List.take_append_drop]

theorem TxFrame.length_bytes {f : TxFrame} {dev seq : Nat} : (f.bytes dev seq).length = 12 + f.body.length := by
  unfold TxFrame.bytes
  simp only [List.length_append, leBytes_length, List.length_cons, List.length_nil]
  omega

/- The scrambler (R141). -/

/-- Two scrambler states that agree on their newest `n` bits. -/
def Scrambler.agree (n : Nat) (st st' : Scrambler) : Prop := ∀ i, i < n → st.getLsbD i = st'.getLsbD i

theorem Scrambler.getLsbD_push {st : Scrambler} {b : Bool} {i : Nat} (h : i < 58) :
    (st.push b).getLsbD i = if i = 0 then b else st.getLsbD (i - 1) := by
  unfold Scrambler.push
  cases i with
  | zero => cases b <;> simp
  | succ n => cases b <;> simp [h, BitVec.getLsbD_eq_getElem, Nat.lt_of_succ_lt h]

theorem Scrambler.agree.push {n : Nat} {st st' : Scrambler} {b : Bool} (h : Scrambler.agree n st st') (hn : n < 58) :
    Scrambler.agree (n + 1) (st.push b) (st'.push b) := by
  intro i hi
  rw [Scrambler.getLsbD_push (by omega), Scrambler.getLsbD_push (by omega)]
  split
  · rfl
  · exact h _ (by omega)

theorem Scrambler.agree.eq {st st' : Scrambler} (h : Scrambler.agree 58 st st') : st = st' := BitVec.eq_of_getLsbD_eq h

theorem descramble_scramble (st : Scrambler) (l : List Bool) : descramble st (scramble st l).1 = (l, (scramble st l).2) := by
  induction l generalizing st with
  | nil => rfl
  | cons p ps ih => simp [scramble, descramble, ih]

/-- A descrambler's state is the bits received: two of them agree on `n` bits after `n` bits, so all but the first 58 bits are the same. -/
theorem descramble_drop_of_agree {n : Nat} {st st' : Scrambler} (l : List Bool) (h : Scrambler.agree (58 - n) st st') (hn : n ≤ 58) :
    (descramble st l).1.drop n = (descramble st' l).1.drop n := by
  induction l generalizing n st st' with
  | nil => rfl
  | cons b l ih =>
    cases n with
    | zero => rw [h.eq]
    | succ n =>
      have hpush := h.push (b := b) (by omega)
      rw [show 58 - (n + 1) + 1 = 58 - n by omega] at hpush
      exact ih hpush (by omega)

end

/-- Settles O59: a frame's blocks by `lineBlocks_spec`, the receiver by induction over the blocks (`Deframer.feed_lineBlocks`, past
lane-local blocks by `Deframer.foldl_feed_filter`), and the descrambler because its state is the last 58 bits received (log entry 115 for
the scrambler as a function that no step keeps). -/
theorem lineCodingRoundTrips : Obligations.LineCodingRoundTrips := by
  refine ⟨fun bs h => ?_, fun bs r l h hl => ?_, fun f dev seq => ⟨TxFrame.length_bytes, ?_⟩, descramble_scramble, fun st st' l => ?_⟩
  · obtain ⟨hlen, hof⟩ := lineBlocks_spec (bs := bs) (by omega)
    exact ⟨hlen, fun b hb => (hof b hb).1, fun b hb => (hof b hb).2⟩
  · rw [Deframer.foldl_feed_filter]
    exact (congrArg (List.foldl Deframer.feed r) hl).trans (Deframer.feed_lineBlocks (by omega))
  · rw [(lineBlocks_spec (by rw [TxFrame.length_bytes]; omega)).1, TxFrame.length_bytes]
    unfold frameBlocks
    omega
  · rw [descramble_drop_of_agree (n := 58) (st := st') (st' := st) _ (fun i hi => absurd hi (by omega)) (Nat.le_refl _),
      descramble_scramble]

end Sys2Proof.Machine
end

section
/-! SUPPORT. Every command answers a next state (spec 95): the branches of each meaning, one lemma for each that matches on the state. -/

namespace Sys2Proof.Machine

/-- A command answers a next state. -/
def Goes (o : Host.Outcome State Fault Refusal) : Prop := ∃ t, o = .next t

theorem Goes.next {t : State} : Goes (.next t) := ⟨t, rfl⟩

theorem Goes.ite {c : Prop} [Decidable c] {a b : Host.Outcome State Fault Refusal} (ha : Goes a) (hb : Goes b) :
    Goes (if c then a else b) := by
  split
  · exact ha
  · exact hb

section
variable {s : State}

theorem execEvtLineEnableWrite_goes {who : Requester} {core : Option (Fin 4)} {value : Word} :
    Goes (execEvtLineEnableWrite who core value s) := by
  unfold execEvtLineEnableWrite
  split
  · exact .next
  · exact .next

theorem execShutdownClockStop_goes : Goes (execShutdownClockStop s) := by
  unfold execShutdownClockStop
  split
  · exact .ite .next .next
  · exact .next

theorem execNvmOpDone_goes {ok : Bool} : Goes (execNvmOpDone ok s) := by
  unfold execNvmOpDone
  split
  · exact .next
  · split
    · exact .next
    · exact .ite .next (.ite .next (.ite .next (.ite .next (.ite .next .next))))

theorem execJournalReadDone_goes : Goes (execJournalReadDone s) := by
  unfold execJournalReadDone
  split
  · exact .next
  · exact .next

theorem execStageEraseDone_goes {run : FlashRun} : Goes (execStageEraseDone run s) := by
  unfold execStageEraseDone
  split
  · exact .ite .next (.ite .next (.ite .next .next))
  · exact .next

theorem execStageProgramDone_goes {run : FlashRun} : Goes (execStageProgramDone run s) := by
  unfold execStageProgramDone
  split
  · exact .ite .next (.ite .next (.ite .next .next))
  · exact .next

theorem execStageVerifyDone_goes : Goes (execStageVerifyDone s) := by
  unfold execStageVerifyDone
  split
  · exact .ite .next (.ite .next .next)
  · exact .next

theorem execFlowFrameClose_goes {flow : Fin 64} : Goes (execFlowFrameClose flow s) := by
  unfold execFlowFrameClose
  split
  · exact .next
  · exact .next

theorem execFlowLeaveTimer_goes {flow : Fin 64} : Goes (execFlowLeaveTimer flow s) := by
  unfold execFlowLeaveTimer
  split
  · exact .ite .next .next
  · exact .next

theorem execRestepDecisionPoint_goes : Goes (execRestepDecisionPoint s) := by
  unfold execRestepDecisionPoint
  split
  · exact .ite .next (.ite .next .next)
  · exact .next

theorem execLaprefEdgeTimeout_goes : Goes (execLaprefEdgeTimeout s) := by
  unfold execLaprefEdgeTimeout
  split
  · exact .ite .next .next
  · exact .next

theorem execAnnounceReceiptTimeout_goes {slot : Fin 2} : Goes (execAnnounceReceiptTimeout slot s) := by
  unfold execAnnounceReceiptTimeout
  extract_lets p late
  split
  · exact .ite .next .next
  · exact .next

theorem execMemReadBurst_goes {pc : Fin 128} {sev : Fin 3} {hit : Sys2Proof.BurstHit} : Goes (execMemReadBurst pc sev hit s) := by
  unfold execMemReadBurst
  split
  · exact .next
  · split
    · exact .next
    · exact .next
    · exact .next

theorem execParityAlertClear_goes {pc : Fin 128} {again : Bool} : Goes (execParityAlertClear pc again s) := by
  unfold execParityAlertClear
  split
  · exact .next
  · exact .ite .next (.ite .next .next)

theorem execTrimSlotEnd_goes {pc : Fin 128} {found : Bool} {eye : List Nat} {centre : List Int} :
    Goes (execTrimSlotEnd pc found eye centre s) := by
  unfold execTrimSlotEnd
  split
  · exact .next
  · exact .ite .next (.ite .next .next)

theorem execPlanCueFixPoint_goes : Goes (execPlanCueFixPoint s) := by
  unfold execPlanCueFixPoint
  split
  · exact .next
  · exact .ite .next .next

theorem execCueDatagramAccept_goes : Goes (execCueDatagramAccept s) := by
  unfold execCueDatagramAccept
  split
  · exact .next
  · exact .ite .next .next

theorem execRelayDelayedAccept_goes : Goes (execRelayDelayedAccept s) := by
  unfold execRelayDelayedAccept
  split
  · exact .next
  · exact .ite .next .next

theorem execViewComposeDone_goes {view : Fin 8} : Goes (execViewComposeDone view s) := by
  unfold execViewComposeDone
  split
  · exact .ite .next .next
  · exact .next

theorem execBlockCorrectionDue_goes {view : Fin 8} {block : Nat} : Goes (execBlockCorrectionDue view block s) := by
  unfold execBlockCorrectionDue
  split
  · exact .ite .next .next
  · exact .next

theorem execMonitorPacketSend_goes : Goes (execMonitorPacketSend s) := by
  unfold execMonitorPacketSend
  extract_lets m
  split
  · exact .next
  · exact .ite .next (.ite .next (.ite .next .next))

theorem execPinPulseStart_goes {leg : Bool} : Goes (execPinPulseStart leg s) := by
  unfold execPinPulseStart
  split
  · exact .next
  · exact .next

theorem execPinPulseEnd_goes {leg : Bool} : Goes (execPinPulseEnd leg s) := by
  unfold execPinPulseEnd
  split
  · exact .ite .next .next
  · exact .next

theorem execSendDeadline_goes {port : Fin 16} {pos : Fin 32} {leg : Fin 8} {seg : Nat} : Goes (execSendDeadline port pos leg seg s) := by
  unfold execSendDeadline
  split
  · exact .next
  · exact .ite .next .next

theorem execTileTempStale_goes {port : Fin 16} {pos : Fin 32} : Goes (execTileTempStale port pos s) := by
  unfold execTileTempStale
  split
  · exact .next
  · exact .ite .next .next

theorem execChainTxDry_goes {port : Fin 16} : Goes (execChainTxDry port s) := by
  unfold execChainTxDry
  extract_lets q
  split
  · exact .next
  · exact .ite .next (.ite .next .next)

theorem execCalDropChange_goes {port : Fin 16} : Goes (execCalDropChange port s) := by
  unfold execCalDropChange
  split
  · exact .next
  · exact .ite .next .next

theorem execCalPatternEnd_goes {port : Fin 16} {eye : Option (Nat × Nat)} {ctle : Fin 16} {phase : Fin 64} :
    Goes (execCalPatternEnd port eye ctle phase s) := by
  unfold execCalPatternEnd
  split
  · exact .next
  · exact .ite .next (.ite .next .next)

theorem execCalRestoreChange_goes {port : Fin 16} : Goes (execCalRestoreChange port s) := by
  unfold execCalRestoreChange
  split
  · exact .next
  · exact .ite .next (.ite .next .next)

theorem execCalReportTimeout_goes {port : Fin 16} : Goes (execCalReportTimeout port s) := by
  unfold execCalReportTimeout
  split
  · exact .next
  · exact .ite .next .next

theorem execAgeAckTimeout_goes {port : Fin 16} {pos : Fin 32} : Goes (execAgeAckTimeout port pos s) := by
  unfold execAgeAckTimeout
  split
  · exact .next
  · split
    · exact .next
    · exact .next

theorem execCensusReadTimeout_goes {port : Fin 16} : Goes (execCensusReadTimeout port s) := by
  unfold execCensusReadTimeout
  extract_lets q late
  clear_value late
  split
  · exact .next
  · exact .ite .next (.ite .next .next)

theorem execPullCompletionRx_goes {surf : Fin 16} {status : Fin 4} {data : List Byte} : Goes (execPullCompletionRx surf status data s) := by
  unfold execPullCompletionRx
  split
  · exact .ite .next (.ite .next (.ite (.ite .next .next) (.ite .next .next)))
  · exact .next

theorem execHsPullComplete_goes {surf : Fin 16} : Goes (execHsPullComplete surf s) := by
  unfold execHsPullComplete
  split
  · exact .ite .next .next
  · exact .next

theorem execRelayHeartbeatRx_goes {data : List Byte} {standby : Bool} : Goes (execRelayHeartbeatRx data standby s) := by
  unfold execRelayHeartbeatRx
  split
  · exact .next
  · exact .next

theorem execRelayTrimDone_goes {valid : Bool} : Goes (execRelayTrimDone valid s) := by
  unfold execRelayTrimDone
  split
  · exact .next
  · exact .ite .next .next

theorem execRelayTimeRx_goes {data : List Byte} {mark : BitVec 16} {age : Nat} : Goes (execRelayTimeRx data mark age s) := by
  unfold execRelayTimeRx
  split
  · exact .next
  · exact .ite .next .next

theorem execRelayHandoverRx_goes {data : List Byte} : Goes (execRelayHandoverRx data s) := by
  unfold execRelayHandoverRx
  split
  · exact .next
  · exact .ite .next .next

theorem execHandoverSilenceEnd_goes : Goes (execHandoverSilenceEnd s) := by
  unfold execHandoverSilenceEnd
  split
  · exact .next
  · exact .ite .next (.ite .next .next)

theorem execMendTimer_goes : Goes (execMendTimer s) := by
  unfold execMendTimer
  extract_lets n
  split
  · exact .ite .next .next
  · exact .next

theorem execStagePullDone_goes {entries : List (Nat × Nat)} {data : List Byte} {fail : Bool} :
    Goes (execStagePullDone entries data fail s) :=
  .ite .next (.ite .next (.ite (.ite .next .next) .next))

theorem execSbStageComplete_goes {report : StageReport} : Goes (execSbStageComplete report s) := by
  refine .ite .next ?_
  split
  · refine .ite .next ?_
    split
    · exact .next
    · exact .next
  · exact .next
  · exact .next
  · exact .ite .next .next
  · exact .ite .next .next
  · exact .next

theorem execSbStageTimeout_goes {report : StageReport} : Goes (execSbStageTimeout report s) := by
  refine .ite .next ?_
  split
  · split
    · exact .next
    · exact .next
  · exact .next
  · exact .next
  · exact .next
  · exact .next
  · exact .next

theorem execSlateLoadDone_goes : Goes (execSlateLoadDone s) := by
  refine .ite .next ?_
  split
  · exact .next
  · exact .next

theorem execLapFrameSend_goes {port : Fin 16} : Goes (execLapFrameSend port s) := by
  refine .ite .next ?_
  split
  · exact .next
  · exact .ite .next .next

theorem execCalStart_goes {port : Fin 16} : Goes (execCalStart port s) :=
  .ite .next (.ite .next (.ite .next (.ite .next (.ite .next .next))))

theorem execStatusFrameRx_goes {port : Fin 16} {loss : UpLoss} {data : List Byte} : Goes (execStatusFrameRx port loss data s) := by
  refine .ite .next ?_
  extract_lets s'
  split
  · exact .next
  · exact .ite .next (.ite .next .next)

theorem execCensusDataRx_goes {port : Fin 16} {loss : UpLoss} {data : List Byte} : Goes (execCensusDataRx port loss data s) := by
  refine .ite .next ?_
  extract_lets s'
  split
  · exact .next
  · exact .ite .next (.ite .next (.ite .next (.ite .next .next)))

theorem execEthFrameRx_goes {sub : Fin 8} {rx : EthRx} {data : List Byte} : Goes (execEthFrameRx sub rx data s) := by
  refine .ite .next (.ite .next (.ite .next (.ite ?_ .next)))
  split
  · exact .next
  · exact .next

theorem execPartnerBeaconRx_goes {port : Fin 16} {data : List Byte} : Goes (execPartnerBeaconRx port data s) := by
  refine .ite .next ?_
  split
  · exact .next
  · exact .ite .next (.ite .next .next)

/-- The one command that a state may refuse: a debug instruction while a scope is open (R484; log entry 3). -/
theorem execDebugTapAccess_goes {op : TapOp} (h : op = .other → (s.pwr.trstN && s.sec.scope != 0) = false) :
    Goes (execDebugTapAccess op s) := by
  unfold execDebugTapAccess
  split
  · exact .next
  · exact .ite .next .next
  · exact .ite .next .next
  · rw [h rfl]
    exact .next

/-- Every command but a debug instruction answers a next state: each branch of its meaning is one. -/
theorem exec_goes {c : Instr} (h : c = .debugTapAccess .other → (s.pwr.trstN && s.sec.scope != 0) = false) : Goes (exec c s) := by
  cases c with
  | hostRingWrite | evtHostCiWrite | evtPop | evtDone | evtCoreStateWrite | evtRouteWrite | faultClear | faultClearAll | holdRequest
  | faultLogRead | activeRead | coreKick | holdTimeExpiry | journalRead | stageGo | stageAbort | ownerEnrol | attestNonceWrite | attestGo
  | attestReportDone | debugSubmit | zeroise | zeroisePermanent | entropyHealthFailure | flowPacketRx | arpRequest | igmpQuery
  | igmpReportTimer | sourceRevertTimer | tbNowNsRead | tbRestep | ptpAnnounce | ptpSync | ptpFollowUp | ptpDelayResp | ptpPdelayReq
  | ptpPdelayResp | ptpPdelayRespFollowUp | ptpManagement | ptpSignaling | restart | feedPresent | refClkStart | hurdleQueryWrite | cueGo
  | cueFlush | hsFenceHiWrite | hsFenceLoWrite | sceneQueryWrite | planCue | scheduleOccurrence | lampRecheck | lampWatchWrite
  | delayRecompute | alignSend | beaconSend | batonClaimRepeat | pcieLinkDown | functionLevelReset | hotReset | d3hotEntry
  | busMasterEnableClear | pePerstAssert | attach | detach | relayCueRx | relayTileRx | relayLampRx | relayFlushRx | relaySigsRx
  | relayDelaysRx | relayCensusReadyRx | relayPlaceRx | handover | mend => exact .next
  | indexBlockTimer | coreWdtExpiry | portStopComplete | hkSlot | fabricTrimDone | nvmGraceTimeout | stageEraseResume | flowPathTimeout
  | laprefPulse | delayReqSend | pdelayReqSend | syncIntervalMiss | restartTakesEffect | warmSourceTimeout | feedAbsent | powerLoss
  | hurdleCheckDone | hurdleQueryDone | fabricStallTimeout | bar2Read | pageIdleTimeout | stackTempReading | stackReadTimeout
  | stackQuiet | stackWake | stackExitDone | parityAlert | hbmTrainingDone | cueDatagramRx | legBoundary | probeCountSecond | portEnable
  | portBlocksStart | portStartTimeout | portRestartTimer | upstreamBlockLock | upstreamLockLoss | idleEntry | idleExit | chainFrameStart
  | censusEnumTimeout | pcieLinkTrained | pePerstRelease | pullCompletionTimeout | heartbeatPathMiss | pairingTimeout
  | relayHeartbeatSend | relayTrainSend | relayLinkRetrim | relayTimeSend | registerWrite => exact .ite .next .next
  | resetRelease | resetAssert | refClkStop | alignMissed => exact .ite .next (.ite .next .next)
  | stageCheckDone | ethLinkChange | memRequest | bar2Write | refreshDue | trimSlotDue | upAlignRx | relayLinkTimeout
  => exact .ite .next (.ite .next (.ite .next .next))
  | evtLineEnableWrite => exact execEvtLineEnableWrite_goes
  | shutdownClockStop => exact execShutdownClockStop_goes
  | nvmOpDone => exact execNvmOpDone_goes
  | journalReadDone => exact execJournalReadDone_goes
  | stagePullDone => exact execStagePullDone_goes
  | stageEraseDone => exact execStageEraseDone_goes
  | stageProgramDone => exact execStageProgramDone_goes
  | stageVerifyDone => exact execStageVerifyDone_goes
  | flowFrameClose => exact execFlowFrameClose_goes
  | flowLeaveTimer => exact execFlowLeaveTimer_goes
  | restepDecisionPoint => exact execRestepDecisionPoint_goes
  | laprefEdgeTimeout => exact execLaprefEdgeTimeout_goes
  | announceReceiptTimeout => exact execAnnounceReceiptTimeout_goes
  | sbStageComplete => exact execSbStageComplete_goes
  | sbStageTimeout => exact execSbStageTimeout_goes
  | slateLoadDone => exact execSlateLoadDone_goes
  | memReadBurst => exact execMemReadBurst_goes
  | parityAlertClear => exact execParityAlertClear_goes
  | trimSlotEnd => exact execTrimSlotEnd_goes
  | planCueFixPoint => exact execPlanCueFixPoint_goes
  | cueDatagramAccept => exact execCueDatagramAccept_goes
  | relayDelayedAccept => exact execRelayDelayedAccept_goes
  | viewComposeDone => exact execViewComposeDone_goes
  | blockCorrectionDue => exact execBlockCorrectionDue_goes
  | monitorPacketSend => exact execMonitorPacketSend_goes
  | pinPulseStart => exact execPinPulseStart_goes
  | pinPulseEnd => exact execPinPulseEnd_goes
  | lapFrameSend => exact execLapFrameSend_goes
  | sendDeadline => exact execSendDeadline_goes
  | tileTempStale => exact execTileTempStale_goes
  | chainTxDry => exact execChainTxDry_goes
  | calStart => exact execCalStart_goes
  | calDropChange => exact execCalDropChange_goes
  | calPatternEnd => exact execCalPatternEnd_goes
  | calRestoreChange => exact execCalRestoreChange_goes
  | calReportTimeout => exact execCalReportTimeout_goes
  | ageAckTimeout => exact execAgeAckTimeout_goes
  | statusFrameRx => exact execStatusFrameRx_goes
  | censusDataRx => exact execCensusDataRx_goes
  | censusReadTimeout => exact execCensusReadTimeout_goes
  | ethFrameRx => exact execEthFrameRx_goes
  | pullCompletionRx => exact execPullCompletionRx_goes
  | hsPullComplete => exact execHsPullComplete_goes
  | relayHeartbeatRx => exact execRelayHeartbeatRx_goes
  | partnerBeaconRx => exact execPartnerBeaconRx_goes
  | relayTrimDone => exact execRelayTrimDone_goes
  | relayTimeRx => exact execRelayTimeRx_goes
  | relayHandoverRx => exact execRelayHandoverRx_goes
  | handoverSilenceEnd => exact execHandoverSilenceEnd_goes
  | mendTimer => exact execMendTimer_goes
  | debugTapAccess => exact execDebugTapAccess_goes fun hop => h (hop ▸ rfl)

end

/-- Settles O4: the commands by `exec_goes`, and the debug instruction by its own test (log entry 3). -/
theorem commandsAnswerAState : Obligations.CommandsAnswerAState := by
  intro c s
  by_cases h : c = .debugTapAccess .other ∧ (s.pwr.trstN && s.sec.scope != 0) = true
  · obtain ⟨hc, hopen⟩ := h
    obtain ⟨htrst, hscope⟩ := Bool.and_eq_true .. ▸ hopen
    subst hc
    exact .inr ⟨rfl, htrst, by simpa using hscope, if_pos hopen⟩
  · exact .inl (exec_goes fun hc => by simpa [hc] using h)

end Sys2Proof.Machine
end

section
/-! SUPPORT. The marshal's registers (R377 to R381, R387): what POP and DONE leave of a core's queues, what the register writes of the
events block leave of the RWS and RW files, and a record of the host ring with its index block. -/

namespace Sys2Proof.Machine

section
variable {s : State} {c : Nat} {f : CoreQ → CoreQ}

/- POP and DONE (R377, R387). -/

/-- A core of the marshal changed. -/
def State.modCore (s : State) (c : Nat) (f : CoreQ → CoreQ) : State :=
  { s with evt := { s.evt with cores := modAt s.evt.cores c f } }

theorem State.core_modCore_same (hc : c < s.evt.cores.length) : (s.modCore c f).evt.core c = f (s.evt.core c) := by
  unfold State.modCore Evt.core
  dsimp only
  rw [getD_modAt, if_pos ⟨rfl, hc⟩]

theorem State.core_modCore_other {d : Nat} (h : d ≠ c) : (s.modCore c f).evt.core d = s.evt.core d := by
  unfold State.modCore Evt.core
  dsimp only
  rw [getD_modAt, if_neg fun hd => h hd.1.symm]

theorem CoreQ.queue_setQueue_same {q : CoreQ} {b : Bool} {l : List EvtRec} : (q.setQueue b l).queue b = l := by
  cases b <;> rfl

theorem CoreQ.queue_setQueue_other {q : CoreQ} {b : Bool} {l : List EvtRec} : (q.setQueue b l).queue (!b) = q.queue (!b) := by
  cases b <;> rfl

theorem CoreQ.active_setQueue {q : CoreQ} {b : Bool} {l : List EvtRec} : (q.setQueue b l).active = q.active := by
  cases b <;> rfl

variable {k : Fin 4} {v : Word}

theorem State.writePop_of_head {r : EvtRec} {rest : List EvtRec} (hv : wbit v 0 = true)
    (hq : (s.evt.core c).queue (wbit v 1) = r :: rest) : s.writePop (.core k) c v =
      s.modCore c fun q => { q.setQueue (wbit v 1) rest with active := q.active ++ [r.src] } := by
  unfold State.writePop State.pop
  dsimp only
  rw [if_pos hv, hq]
  rfl

theorem State.writeDone_of_active (hv : wbit v 31 = true) (ha : (s.evt.core c).active.contains (wfld v 8 0) = true) :
    s.writeDone (.core k) c v = s.modCore c fun q => { q with active := q.active.erase (wfld v 8 0) } := by
  unfold State.writeDone
  dsimp only
  rw [if_neg (by simp [hv]), if_pos ha]
  rfl

theorem State.writeDone_of_inactive (hv : wbit v 31 = true) (ha : (s.evt.core c).active.contains (wfld v 8 0) = false) :
    s.writeDone (.core k) c v = { s with regs := { s.regs with cnt := cntAdd16 s.regs.cnt Reg.evtInactiveDone } } := by
  unfold State.writeDone
  dsimp only
  rw [if_neg (by simp [hv]), if_neg (by simpa using ha)]

/-- A change that leaves a core's two queues leaves the marshal's in order. -/
theorem State.modCore_keeps (hf : ∀ q, (f q).normal = q.normal ∧ (f q).fast = q.fast) : Keeps (partMask [.evt]) s (s.modCore c f) := by
  refine Keeps.evt fun ho => ho.modCores fun q hq _ => ?_
  rw [(hf q).1, (hf q).2]
  exact ho.2.2 q hq

theorem cntAdd16_get {o off : Nat} (hw : s.wf) : (Sparse.get (fun _ => 0#32) (cntAdd16 s.regs.cnt off) o).toNat =
    if o = off then min 65535 (s.cnt off + 1) else s.cnt o := by
  obtain ⟨_, _, hcnt, _⟩ := hw
  unfold cntAdd16
  split
  next h =>
    rw [h, Sparse.get_set_same _ _ hcnt]
    exact Nat.mod_eq_of_lt (Nat.lt_of_le_of_lt (Nat.min_le_left _ _) (by decide))
  next h => rw [Sparse.get_set_other _ _ h hcnt, State.cnt]

end

/-- Settles O14: POP takes the head off its queue (`State.writePop_of_head`), and DONE ends the source or counts by whether it is active
there (log entry 30 for a core that names another core's register). -/
theorem popAndDone : Obligations.PopAndDone := by
  intro s k c v hw hlen
  have hc : c.val < s.evt.cores.length := by rw [hlen]; exact c.isLt
  refine ⟨fun r rest hv hq => ?_, fun hv ha => ?_, fun hv ha => ?_, rfl, rfl⟩
  · have hexec : exec (.evtPop (.core k) c v) s = .next (s.modCore c _) := congrArg Host.Outcome.next (State.writePop_of_head hv hq)
    refine ⟨_, hexec, ?_, ?_, ?_, fun d hd => State.core_modCore_other hd, rfl, exec_only hexec⟩
    · rw [State.core_modCore_same hc]
      exact CoreQ.queue_setQueue_same
    · rw [State.core_modCore_same hc]
      exact CoreQ.queue_setQueue_other
    · rw [State.core_modCore_same hc]
  · have hexec : exec (.evtDone (.core k) c v) s = .next (s.modCore c _) := congrArg Host.Outcome.next (State.writeDone_of_active hv ha)
    refine ⟨_, hexec, ?_, fun f => ?_, fun d hd => State.core_modCore_other hd,
      (State.modCore_keeps fun _ => by exact ⟨rfl, rfl⟩).only_parts rfl⟩
    · rw [State.core_modCore_same hc]
    · rw [State.core_modCore_same hc]
      rfl
  · refine ⟨_, congrArg Host.Outcome.next (State.writeDone_of_inactive hv ha), ?_, fun o ho => ?_, ?_⟩
    · exact (cntAdd16_get hw).trans (if_pos rfl)
    · exact (cntAdd16_get hw).trans (if_neg ho)
    · exact (Keeps.cnt fun h => Sparse.set_wf _ _ h.2.2.1).only_parts rfl

section
variable {s : State} {who : Requester} {off src c : Nat} {v new : Word} {k : Fin 4}

/- The registers of the events block (R378 to R381, R387). -/

/-- A setting of the events block set while it is open, and noted for a seal in the same tick (R457). -/
def State.putSetting (s : State) (who : Requester) (off : Nat) (v new : Word) : State := (s.tried who off v).setRws off new

theorem State.putSetting_keeps : Keeps (partMask [.rws, .boot] ||| sealBits) s (s.putSetting who off v new) :=
  (State.tried_keeps.mono rfl).andThen State.setRws_keeps rfl

theorem State.putSetting_rws (hw : s.wf) (o : Nat) : (s.putSetting who off v new).rws o = if o = off then new else s.rws o :=
  State.rws_setRws (s.tried who off v) off o new (State.tried_keeps.lasting.wf hw)

theorem State.writeEvtGlobal_of_core : s.writeEvtGlobal (.core k) v =
    s.putSetting (.core k) Reg.evtGlobal v (rwsNew 1 (s.rws Reg.evtGlobal) v) := rfl

/-- The routes that records of the present tick take, with the one of a source that changes in it (R379). -/
def State.routesHeld (s : State) (src : Nat) : List (Nat × Nat × Word) :=
  let was := s.evt.routed.filter fun x => x.1 == s.ticks
  if was.any (·.2.1 == src) then was else was ++ [(s.ticks, src, s.rws (Reg.evtRoute src))]

/-- A source's route set by a core. -/
def State.routeSet (s : State) (who : Requester) (src : Nat) (v : Word) : State :=
  { s.putSetting who (Reg.evtRoute src) v (rwsNew 0x73 (s.rws (Reg.evtRoute src)) v) with
    evt := { s.evt with routed := s.routesHeld src } }

theorem State.writeRoute_of_core (h : s.variant.routeAbsent src = false) : s.writeRoute (.core k) src v = s.routeSet (.core k) src v :=
  if_neg (ne_true_of_eq_false h)

theorem State.routeSet_keeps : Keeps (partMask [.rws, .evt, .boot] ||| sealBits) s (s.routeSet who src v) :=
  (State.putSetting_keeps.mono rfl).andThen (Keeps.evt fun ho => ho) rfl

theorem State.writeRoute_of_absent (h : s.variant.routeAbsent src = true) : s.writeRoute who src v = s := if_pos h

/-- After the seal a host write to a route is at most counted. -/
theorem State.writeRoute_of_sealed (h : s.boot.sealWhen ≠ .notYet) : (s.writeRoute .host src v).regs.rws = s.regs.rws := by
  have hmay : s.mayRoute .host = false := beq_false_of_ne h
  unfold State.writeRoute
  simp only [hmay, Bool.false_eq_true, if_false]
  split
  · rfl
  · split <;> rfl

/-- The STATE that a core takes: OFFLINE is not for MC0 (R380). -/
def coreTakes (c st old : Nat) : Nat := if c = 0 ∧ st = 3 then old else st

theorem coreTakes_eq (c st old : Nat) : (if c == 0 && st == 3 then old else st) = coreTakes c st old := by
  simp [coreTakes]

theorem coreTakes_lt {st old : Nat} (hs : st < 4) (ho : old < 4) : coreTakes c st old < 4 := by
  unfold coreTakes
  split
  · exact ho
  · exact hs

theorem coreTakes_again {st old : Nat} : coreTakes c (coreTakes c st old) old = coreTakes c st old := by
  unfold coreTakes
  by_cases h : c = 0 ∧ st = 3
  · simp only [h, and_self, if_true, ite_self]
  · simp only [h, if_false]

theorem wbit_rwsNew_of_mask {m i : Nat} {o : Word} (hi : i < 32) (hm : m.testBit i = true) (ho : (0xFFFFFFFF - m).testBit i = false) :
    wbit (rwsNew m o v) i = wbit v i := by
  rw [wbit_rwsNew _ _ _ _ hi, hm, ho, Bool.and_false, Bool.and_true, Bool.false_or, wbit_testBit]

theorem State.setCoreState_regs_rws {st : Nat} : (s.setCoreState c st).regs.rws = (s.setRws (Reg.evtCore c)
    (wput (s.rws (Reg.evtCore c)) 31 30 (coreTakes c st (coreSt (s.rws (Reg.evtCore c)))))).regs.rws := by
  rw [← coreTakes_eq]
  unfold State.setCoreState
  extract_lets
  split
  · exact State.coreOffline_keeps.same .rws rfl
  · rfl

theorem coreSt_lt (w : Word) : coreSt w < 4 := Nat.mod_lt _ (by decide)

/-- EVT_CORE after a core's write: the enables as written, STATE as `coreTakes` says. -/
theorem State.writeEvtCore_of_core (hw : s.wf) : ∃ w,
    (∀ o, (s.writeEvtCore (.core k) c v).rws o = if o = Reg.evtCore c then w else s.rws o) ∧
    wbit w 0 = wbit v 0 ∧ wbit w 1 = wbit v 1 ∧ coreSt w = coreTakes c (coreSt v) (coreSt (s.rws (Reg.evtCore c))) := by
  generalize hold : s.rws (Reg.evtCore c) = old
  let nst := coreTakes c (coreSt v) (coreSt old)
  let w1 := wput (wput (rwsNew 0xC0000003 old v) 31 30 nst) 31 30 (coreSt old)
  let u := (s.clearOverflow c v).putSetting (.core k) (Reg.evtCore c) v w1
  have hclear : Keeps (partMask [.evt]) s (s.clearOverflow c v) := State.clearOverflow_keeps
  have huw : u.wf := State.putSetting_keeps.lasting.wf (hclear.lasting.wf hw)
  have hu (o : Nat) : u.rws o = if o = Reg.evtCore c then w1 else s.rws o := by
    rw [State.putSetting_rws (hclear.lasting.wf hw), show (s.clearOverflow c v).rws o = s.rws o from congrArg (Sparse.get rwsReset · o)
      (hclear.same .rws rfl)]
  have hst : coreSt w1 = coreSt old := (coreSt_wput _ _).trans (Nat.mod_eq_of_lt (coreSt_lt old))
  have hwrite : s.writeEvtCore (.core k) c v = u.setCoreState c nst := by
    unfold State.writeEvtCore u w1 nst State.putSetting
    simp only [hold, coreTakes_eq]
    exact if_pos rfl
  refine ⟨wput w1 31 30 (coreTakes c nst (coreSt old)), fun o => ?_, ?_, ?_, ?_⟩
  · have hrws : (u.setCoreState c nst).rws o = _ := congrArg (Sparse.get rwsReset · o) State.setCoreState_regs_rws
    rw [hwrite, hrws, hu, if_pos rfl, hst]
    refine (State.rws_setRws u _ o _ huw).trans ?_
    rw [hu]
    split <;> rfl
  · rw [wbit_wput _ _ _ (by decide), wbit_wput _ _ _ (by decide), wbit_wput _ _ _ (by decide),
      wbit_rwsNew_of_mask (by decide) (by decide) (by decide)]
  · rw [wbit_wput _ _ _ (by decide), wbit_wput _ _ _ (by decide), wbit_wput _ _ _ (by decide),
      wbit_rwsNew_of_mask (by decide) (by decide) (by decide)]
  · rw [coreSt_wput, Nat.mod_eq_of_lt (coreTakes_lt (coreTakes_lt (coreSt_lt v) (coreSt_lt old)) (coreSt_lt old))]
    exact coreTakes_again

end

/-- Settles O15: a core's write is `State.putSetting` of its register, for EVT_CORE with STATE set as `State.writeEvtCore_of_core` says, and
the host's after the seal is at most counted. -/
theorem eventRegisterWrites : Obligations.EventRegisterWrites := by
  intro s k c src v hw
  refine ⟨⟨_, rfl, ?_, fun o ho => ?_, exec_only (c := .evtHostCiWrite v) rfl⟩, fun habs => ?_, fun habs => ?_, ?_, fun i hi => ?_,
    fun hseal => ?_⟩
  · exact (State.rw_setRw s _ _ v hw).trans (if_pos rfl)
  · exact (State.rw_setRw s _ _ v hw).trans (if_neg ho)
  · refine ⟨_, congrArg Host.Outcome.next (State.writeRoute_of_core habs), ?_, fun o ho => ?_, State.routeSet_keeps.only_parts rfl, rfl,
      rfl⟩
    · exact (State.putSetting_rws hw _).trans (if_pos rfl)
    · exact (State.putSetting_rws hw _).trans (if_neg ho)
  · exact congrArg Host.Outcome.next (State.writeRoute_of_absent habs)
  · refine ⟨_, congrArg Host.Outcome.next State.writeEvtGlobal_of_core, ?_, fun o ho => ?_, State.putSetting_keeps.only_parts rfl, rfl⟩
    · exact (State.putSetting_rws hw _).trans (if_pos rfl)
    · exact (State.putSetting_rws hw _).trans (if_neg ho)
  · obtain ⟨w, hrws, henN, henF, hst⟩ := State.writeEvtCore_of_core (k := k) (c := c) (v := v) hw
    have hexec : exec i s = .next (s.writeEvtCore (.core k) c v) := by obtain rfl | rfl := hi <;> rfl
    refine ⟨_, hexec, ?_, ?_, ?_, fun o ho => (hrws o).trans (if_neg ho)⟩
    · rw [hrws, if_pos rfl, henN]
    · rw [hrws, if_pos rfl, henF]
    · rw [hrws, if_pos rfl, hst]
      rfl
  · exact ⟨_, rfl, State.writeRoute_of_sealed hseal⟩

section
variable {s : State} {r : EvtRec} {rest : List EvtRec}

/- The host ring (R252, R381). -/

/-- The index block as it is written now (Table 15.4). -/
def State.indexBlock (s : State) : List Byte :=
  leBytes 4 s.evt.pi ++ leBytes 4 (s.cnt Reg.evtHostDropped) ++ leBytes 5 s.split ++ leBytes 3 0

theorem State.writeIndex_out : s.writeIndex.out =
    s.out ++ [.hostWrite (s.addr64 Reg.hostIndexAddrLo Reg.hostIndexAddrHi) s.indexBlock] := rfl

theorem State.ringPut_out : (s.ringPut r rest).out = s.out ++ [.hostWrite
    (s.addr64 Reg.hostRingBaseLo Reg.hostRingBaseHi + 64 * (s.evt.pi % 2 ^ s.ringLog2))
    (EvtRec.bytes { r with lost := s.evt.lostNext } s.evt.pi)] := rfl

theorem State.ringPut_indexBlock : (s.ringPut r rest).indexBlock =
    leBytes 4 ((s.evt.pi + 1) % 2 ^ 32) ++ leBytes 4 (s.cnt Reg.evtHostDropped) ++ leBytes 5 s.split ++ leBytes 3 0 := rfl

/-- The index block after a record, where it is due: the queue has emptied, or 16 records have gone since the last one. -/
def State.indexAfter (s : State) : State := if s.evt.hostQ.isEmpty || 16 ≤ s.evt.sinceIdx then s.writeIndex else s

theorem State.ringStep_of_head (ha : s.host.attached = true) (hr : s.ringSpace = true) (hq : s.evt.hostQ = r :: rest)
    (ht : r.tick < s.ticks) (hd : s.evt.dropped = 0) : s.ringStep = (s.ringPut r rest).indexAfter := by
  unfold State.ringStep
  rw [if_neg (by simp [ha, hr]), hq]
  simp only [Nat.not_le.2 ht, if_false, hd, beq_self_eq_true, if_true]
  rfl

/-- Records wait while the host is detached, the ring is full, or the head bears the present tick's stamp (log entry 138). -/
theorem State.ringStep_of_waiting
    (h : s.host.attached = false ∨ s.ringSpace = false ∨ ∀ r ∈ s.evt.hostQ.head?, s.ticks ≤ r.tick) : s.ringStep = s := by
  unfold State.ringStep
  split
  · rfl
  next hgo =>
    have hhead : ∀ r ∈ s.evt.hostQ.head?, s.ticks ≤ r.tick := by
      rcases h with h | h | h
      · simp [h] at hgo
      · simp [h] at hgo
      · exact h
    split
    · rfl
    next hq => exact if_pos (hhead _ (by rw [hq]; rfl))

theorem State.indexAfter_keeps : Keeps (partMask [.evt, .out]) s s.indexAfter :=
  Keeps.ite (fun _ => State.writeIndex_keeps) fun _ => .refl

theorem State.indexAfter_evt : s.indexAfter.evt.hostQ = s.evt.hostQ ∧ s.indexAfter.evt.pi = s.evt.pi ∧
    s.indexAfter.evt.cores = s.evt.cores := by
  unfold State.indexAfter
  split <;> exact ⟨rfl, rfl, rfl⟩

theorem State.indexAfter_out : ∃ more, s.indexAfter.out = s.out ++ more ∧
    (more = [] ↔ ¬ (s.evt.hostQ = [] ∨ 16 ≤ s.evt.sinceIdx)) ∧
    ∀ o ∈ more, o = .hostWrite (s.addr64 Reg.hostIndexAddrLo Reg.hostIndexAddrHi) s.indexBlock := by
  unfold State.indexAfter
  by_cases h : s.evt.hostQ = [] ∨ 16 ≤ s.evt.sinceIdx
  · rw [if_pos (by simpa using h), State.writeIndex_out]
    exact ⟨_, rfl, by simp [h], by simp⟩
  · rw [if_neg (by simpa using h)]
    exact ⟨[], (List.append_nil _).symm, by simp [h], by simp⟩

end

/-- Settles O16: a record that goes is `State.ringPut` with the index block after it as `State.indexAfter_out` says (log entry 138 for a
head of the present tick, which waits for the tick's end). -/
theorem hostRingTakesRecordsInOrder : Obligations.HostRingTakesRecordsInOrder := by
  intro s
  refine ⟨fun r rest ha hr hq ht hd => ?_, fun h => congrArg Host.Outcome.next (State.ringStep_of_waiting h), fun ha hdue => ?_⟩
  · obtain ⟨hhostQ, hpi, hcores⟩ := (s.ringPut r rest).indexAfter_evt
    obtain ⟨more, hout, hnone, hmore⟩ := (s.ringPut r rest).indexAfter_out
    refine ⟨_, congrArg Host.Outcome.next (State.ringStep_of_head ha hr hq ht hd), hhostQ, hpi, hcores, ?_, more, hout, hnone,
      fun o ho => ?_⟩
    · exact (Keeps.andThen (State.ringPut_keeps hq) State.indexAfter_keeps rfl).only_parts rfl
    · exact ⟨_, hmore o ho, State.ringPut_indexBlock⟩
  · have hexec : exec .indexBlockTimer s = .next s.writeIndex := if_pos (by
      rw [ha, Bool.true_and]
      exact decide_eq_true hdue)
    exact ⟨_, hexec, rfl, rfl, exec_only hexec, State.writeIndex_out⟩

end Sys2Proof.Machine
end

section
/-! SUPPORT. The fault collector (R391, R394, R396 to R404): the order in which messages are taken, what a clear leaves of the active
table, and what holds, watchdogs, unit stops and the shutdown do when they are due. -/

namespace Sys2Proof.Machine

section
variable {s : State} {sev : Nat → Nat → Nat} {m x : FltMsg} {l ms : List FltMsg}

/- The order of messages (R394). -/

/-- The order of R394 spelled out: a message that may stand before another. -/
def FltMsg.mayLead (sev : Nat → Nat → Nat) (a b : FltMsg) : Prop :=
  sev b.kind b.src < sev a.kind a.src ∨ sev a.kind a.src = sev b.kind b.src ∧ (a.src < b.src ∨ a.src = b.src ∧ a.kind ≤ b.kind)

theorem fltBefore_iff : fltBefore sev m x = true ↔ sev x.kind x.src < sev m.kind m.src ∨
    sev m.kind m.src = sev x.kind x.src ∧ (m.src < x.src ∨ m.src = x.src ∧ m.kind < x.kind) := by
  unfold fltBefore fltFirst
  generalize sev m.kind m.src = a
  generalize sev x.kind x.src = b
  by_cases hsev : a = b <;> by_cases hsrc : m.src = x.src <;> simp [hsev, hsrc]

theorem FltMsg.mayLead_of_before (h : fltBefore sev m x = true) : m.mayLead sev x := by
  rw [fltBefore_iff] at h
  unfold FltMsg.mayLead
  omega

theorem FltMsg.mayLead_of_not_before (h : ¬ fltBefore sev m x = true) : x.mayLead sev m := by
  rw [fltBefore_iff] at h
  unfold FltMsg.mayLead
  omega

theorem FltMsg.mayLead.trans {y : FltMsg} (h : m.mayLead sev x) (h' : x.mayLead sev y) : m.mayLead sev y := by
  unfold FltMsg.mayLead at *
  omega

theorem fltInsert_perm : (fltInsert sev m l).Perm (m :: l) := by
  induction l with
  | nil => exact .refl _
  | cons x l ih =>
    unfold fltInsert
    split
    · exact .refl _
    · exact (ih.cons x).trans (.swap m x l)

/-- A message put in its place keeps a list in order. -/
theorem fltInsert_inOrder (h : l.Pairwise (FltMsg.mayLead sev)) : (fltInsert sev m l).Pairwise (FltMsg.mayLead sev) := by
  induction l with
  | nil => exact List.pairwise_singleton ..
  | cons x l ih =>
    obtain ⟨hx, hl⟩ := List.pairwise_cons.1 h
    unfold fltInsert
    split
    next hb =>
      have hm : m.mayLead sev x := FltMsg.mayLead_of_before hb
      refine List.pairwise_cons.2 ⟨fun y hy => ?_, h⟩
      rcases List.mem_cons.1 hy with rfl | hy
      · exact hm
      · exact hm.trans (hx y hy)
    next hb =>
      refine List.pairwise_cons.2 ⟨fun y hy => ?_, ih hl⟩
      rcases List.mem_cons.1 (fltInsert_perm.subset hy) with rfl | hy
      · exact FltMsg.mayLead_of_not_before hb
      · exact hx y hy

theorem foldr_fltInsert_perm : (ms.foldr (fltInsert sev) []).Perm ms := by
  induction ms with
  | nil => exact .refl _
  | cons m ms ih => exact fltInsert_perm.trans (ih.cons m)

theorem foldr_fltInsert_inOrder : (ms.foldr (fltInsert sev) []).Pairwise (FltMsg.mayLead sev) := by
  induction ms with
  | nil => exact .nil
  | cons m ms ih => exact fltInsert_inOrder ih

end

/-- Settles O17: each message is put in its place (`fltInsert_perm`, `fltInsert_inOrder`), and they are taken from the front. -/
theorem faultMessagesInOrder : Obligations.FaultMessagesInOrder := by
  intro s ms
  exact ⟨_, foldr_fltInsert_perm, rfl, foldr_fltInsert_inOrder⟩

section
variable {s : State} {v : Word} {e : FltEntry}

/- A clear (R400). -/

theorem wput_all_toNat (w : Word) (n : Nat) :
    (wput w 30 30 n).toNat = w.toNat % 2 ^ 30 + (n % 2) * 2 ^ 30 + w.toNat / 2 ^ 31 * 2 ^ 31 := by
  unfold wput wfld Word.of
  have := w.isLt
  simp only [BitVec.toNat_ofNat, Nat.shiftRight_eq_div_pow]
  omega

/-- ALL put into a word leaves GO, SOURCE and KIND. -/
theorem wput_all_fields (w : Word) (n : Nat) : wbit (wput w 30 30 n) 31 = wbit w 31 ∧ wbit (wput w 30 30 n) 30 = (n % 2 == 1) ∧
    wfld (wput w 30 30 n) 11 0 = wfld w 11 0 ∧ wfld (wput w 30 30 n) 19 12 = wfld w 19 12 := by
  unfold wbit wfld
  have := w.isLt
  simp only [wput_all_toNat, Nat.shiftRight_eq_div_pow]
  refine ⟨congrArg (· == 1) ?_, congrArg (· == 1) ?_, ?_, ?_⟩ <;> omega

/-- The state as a clear begins, none refused yet. -/
def State.clearing (s : State) : State := { s with flt := { s.flt with clrRefused := 0 } }

theorem execFaultClear_of_go (hv : wbit v 31 = true) : execFaultClear v s = .next (s.faultClear (wfld v 19 12) (wfld v 11 0)) := by
  obtain ⟨hgo, hall, hsrc, hkind⟩ := wput_all_fields v 0
  unfold execFaultClear State.writeFaultClear
  rw [if_neg (by simp [hgo, hv]), if_neg (by simp [hall]), hsrc, hkind]

theorem execFaultClearAll_of_go (hv : wbit v 31 = true) : execFaultClearAll v s = .next s.faultClearAll := by
  obtain ⟨hgo, hall, _, _⟩ := wput_all_fields v 1
  unfold execFaultClearAll State.writeFaultClear
  rw [if_neg (by simp [hgo, hv]), if_pos (by simp [hall])]

/-- What else the clear of a fault sets going leaves the active table and the refusals. -/
theorem State.startUnit_table {u : Nat} : (s.startUnit u).flt.active = s.flt.active ∧
    (s.startUnit u).flt.clrRefused = s.flt.clrRefused := by
  unfold State.startUnit
  extract_lets x
  split
  · rw [State.startPort_keeps.same .flt rfl]
    exact ⟨rfl, rfl⟩
  · exact ⟨rfl, rfl⟩

theorem State.cleared_table {kind src : Nat} :
    (s.cleared kind src).flt.active = s.flt.active ∧ (s.cleared kind src).flt.clrRefused = s.flt.clrRefused := by
  unfold State.cleared
  extract_lets enable
  have henable (u : Nat) : (enable s u).flt.active = s.flt.active ∧ (enable s u).flt.clrRefused = s.flt.clrRefused := by
    unfold enable
    split
    · exact State.startUnit_table
    · exact ⟨rfl, rfl⟩
    · exact ⟨rfl, rfl⟩
  split
  · exact henable _
  · split
    · exact henable _
    · split
      · exact ⟨rfl, rfl⟩
      · split
        · exact ⟨rfl, rfl⟩
        · split <;> exact ⟨rfl, rfl⟩

theorem State.clear1_of_present (h : s.causePresent e.kind e.src = true) :
    (s.clear1 e).flt = { s.flt with clrRefused := s.flt.clrRefused + 1 } := by
  unfold State.clear1
  rw [if_pos h]
  exact State.ev_p_flt

/-- An entry taken out of the active table, and noted for the tick (Table 16.6). -/
def State.entryGone (s : State) (e : FltEntry) : State := { s with flt := { s.flt with
  active := s.flt.active.filter fun x => !(x.src == e.src && x.kind == e.kind)
  clrd := (s.flt.clrd.filter fun (x : Nat × FltEntry) => x.1 == s.ticks) ++ [(s.ticks, e)] } }

theorem State.clear1_of_gone (h : s.causePresent e.kind e.src = false) :
    (s.clear1 e).flt.active = (s.flt.active.filter fun x => !(x.src == e.src && x.kind == e.kind)) ∧
    (s.clear1 e).flt.clrRefused = s.flt.clrRefused := by
  have hclear : s.clear1 e = ((s.entryGone e).ev Ev.faultCleared [e.kind, e.src]).cleared e.kind e.src :=
    if_neg (ne_true_of_eq_false h)
  rw [hclear, State.cleared_table.1, State.cleared_table.2, State.ev_p_flt]
  exact ⟨rfl, rfl⟩

theorem State.clear1_subset : ∀ x ∈ (s.clear1 e).flt.active, x ∈ s.flt.active := by
  intro x hx
  cases h : s.causePresent e.kind e.src with
  | true => rwa [State.clear1_of_present h] at hx
  | false =>
    rw [(State.clear1_of_gone h).1] at hx
    exact List.mem_of_mem_filter hx

theorem State.foldl_clear1_subset {l : List FltEntry} : ∀ x ∈ (l.foldl State.clear1 s).flt.active, x ∈ s.flt.active := by
  induction l generalizing s with
  | nil => exact fun x hx => hx
  | cons e l ih => exact fun x hx => State.clear1_subset x (ih x hx)

theorem State.clrDone_flt {n : Nat} : (s.clrDone n).flt =
    { s.flt with clrResult := if n = 0 then 3 else if s.flt.clrRefused = 0 then 1 else 2 } := by
  unfold State.clrDone
  simp only [beq_iff_eq]

theorem State.faultClear_of_none {kind src : Nat} (h : ∀ e ∈ s.flt.active, ¬ (e.src = src ∧ e.kind = kind)) :
    s.faultClear kind src = s.clearing.clrDone 0 := by
  have hfind : s.clearing.flt.active.find? (fun e => e.src == src && e.kind == kind) = none := by
    rw [List.find?_eq_none]
    exact fun e he => by simpa using h e he
  unfold State.faultClear
  simp only [State.clearing] at hfind ⊢
  rw [hfind]

theorem State.faultClear_of_found {kind src : Nat} (h : s.flt.active.find? (fun e => e.src == src && e.kind == kind) = some e) :
    s.faultClear kind src = (s.clearing.clear1 e).clrDone 1 := by
  unfold State.faultClear
  dsimp only
  rw [h]
  rfl

/-- Every entry of the table cleared or refused; an empty table is no longer full. -/
def State.tableCleared (s : State) : State :=
  let t := s.flt.active.foldl State.clear1 s.clearing
  if t.flt.active.isEmpty then { t with flt := { t.flt with overflow := false } } else t

theorem State.tableCleared_subset : ∀ e ∈ s.tableCleared.flt.active, e ∈ s.flt.active := by
  unfold State.tableCleared
  dsimp only
  split <;> exact State.foldl_clear1_subset (s := s.clearing)

theorem State.faultClearAll_flt : s.faultClearAll.flt = { s.tableCleared.flt with
    clrResult := if s.flt.active.length = 0 then 3 else if s.tableCleared.flt.clrRefused = 0 then 1 else 2 } := State.clrDone_flt

end

/-- Settles O19: a clear by whether the table has the entry and its cause is present (`State.clear1_of_present`, `State.clear1_of_gone`),
and the two reads set their registers. -/
theorem faultClearAndReads : Obligations.FaultClearAndReads := by
  intro s v hw hv
  refine ⟨fun hnone => ?_, fun e hfind => ⟨fun hcause => ?_, fun hcause => ?_⟩, ?_, ?_, ?_⟩
  · refine ⟨_, (execFaultClear_of_go hv).trans (congrArg Host.Outcome.next (State.faultClear_of_none hnone)), ?_⟩
    rw [State.clrDone_flt]
    exact ⟨rfl, rfl⟩
  · refine ⟨_, (execFaultClear_of_go hv).trans (congrArg Host.Outcome.next (State.faultClear_of_found hfind)), ?_⟩
    rw [State.clrDone_flt, State.clear1_of_present (s := s.clearing) hcause]
    exact ⟨rfl, rfl, rfl⟩
  · obtain ⟨hactive, hrefused⟩ := State.clear1_of_gone (s := s.clearing) hcause
    refine ⟨_, (execFaultClear_of_go hv).trans (congrArg Host.Outcome.next (State.faultClear_of_found hfind)), ?_⟩
    rw [State.clrDone_flt]
    dsimp only
    rw [hrefused, hactive]
    exact ⟨rfl, rfl⟩
  · refine ⟨_, execFaultClearAll_of_go hv, ?_⟩
    rw [State.faultClearAll_flt]
    exact ⟨State.tableCleared_subset, by simp only [List.length_eq_zero_iff]⟩
  · have hrw (o : Nat) : (s.setRw Reg.faultLogRead v).rw o = _ := State.rw_setRw s _ o v hw
    refine ⟨_, rfl, (hrw _).trans (if_pos rfl), fun o ho => (hrw o).trans (if_neg ho), ?_, exec_only (c := .faultLogRead v) rfl⟩
    unfold State.logSel State.writeLogRead
    rw [hrw, if_pos rfl]
    rfl
  · have hrw (o : Nat) : (s.setRw Reg.activeRead (Word.of (wfld v 10 0))).rw o = _ := State.rw_setRw s _ o _ hw
    refine ⟨_, rfl, ?_, fun o ho => (hrw o).trans (if_neg ho), exec_only (c := .activeRead v) rfl⟩
    refine (congrArg BitVec.toNat ((hrw _).trans (if_pos rfl))).trans (Nat.mod_eq_of_lt ?_)
    exact Nat.lt_trans (Nat.mod_lt _ (by decide)) (by decide)

section
variable {s : State}

/- Holds, watchdogs, unit stops and the shutdown (R397 to R401). -/

theorem State.unit_modUnit {u w : Nat} {f : UnitRec → UnitRec} (hu : u < s.flt.units.length) :
    (s.modUnit u f).flt.unit w = if w = u then f (s.flt.unit u) else s.flt.unit w := by
  unfold State.modUnit Flt.unit
  dsimp only
  rw [getD_modAt]
  by_cases h : w = u
  · rw [if_pos ⟨h.symm, h ▸ hu⟩, if_pos h, h]
  · rw [if_neg fun hw => h hw.1.symm, if_neg h]

theorem State.unitRuns_kickTick {u : Nat} : (s.unitRuns u).flt.kickTick = s.flt.kickTick := by
  unfold State.unitRuns
  split
  · rw [State.ev_p_flt]
    rfl
  · rfl

theorem State.unitRuns_of_starting {u : Nat} (h : (s.flt.unit u).st = .starting) (hu : u < s.flt.units.length) :
    ((s.unitRuns u).flt.unit u).st = .running := by
  unfold State.unitRuns
  rw [h]
  dsimp only
  rw [State.ev_p_flt, State.unit_modUnit hu, if_pos rfl]

/-- A core's watchdog counted anew from this tick. -/
def State.kicked (s : State) (c : Nat) : State := { s with flt := { s.flt with kickTick := setAt s.flt.kickTick c s.ticks } }

theorem State.writeKick_of_own {c : Fin 4} {v : Word} (hv : wbit v 0 = true) :
    s.writeKick (.core c) c v = if c.val = 0 then s.kicked c else (s.kicked c).unitRuns (c - 1) := by
  unfold State.writeKick
  dsimp only
  rw [if_neg (by simp [hv])]
  simp only [beq_iff_eq]
  rfl

/-- A unit that stops at the end of its bus transactions or at its lap boundary (R398). -/
def State.unitStopped (s : State) (u : Nat) : State := s.modUnit u fun r => { r with st := .stopped, enPend := false }

theorem State.unitStops_of_stopping {u : Nat} (hst : (s.flt.unit u).st = .stopping) (hen : (s.flt.unit u).enPend = false) :
    s.unitStops u = (s.unitStopped u).ev Ev.unitStopped [u] := by
  unfold State.unitStops
  simp only [hst, hen]
  rfl

theorem State.powerOff_kept : s.powerOff.flt = { s.flt with shutDone := true } ∧ s.powerOff.regs.rws = s.regs.rws := by
  have hkeeps : Keeps (partMask [.rw, .cnt, .evt, .nvm, .sc, .warm, .ports, .host, .mem, .pwr, .out]) s s.stopClocks.linkDown.pinsLow :=
    ((State.stopClocks_keeps.mono rfl).andThen State.linkDown_keeps rfl).andThen State.pinsLow_keeps rfl
  unfold State.powerOff
  dsimp only
  rw [hkeeps.same .flt rfl, hkeeps.same .rws rfl]
  exact ⟨rfl, rfl⟩

theorem execShutdownClockStop_of_due {t0 : Nat} (ht : s.flt.shutTick = some t0) (hd : s.flt.shutDone = false) (h : t0 + 125000 ≤ s.ticks) :
    execShutdownClockStop s = .next s.powerOff := by
  unfold execShutdownClockStop
  rw [ht]
  exact if_pos (by simp [hd, State.past, usT, h])

theorem execHoldTimeExpiry_of_due (hh : s.flt.hold = .held) (hf : s.flt.holdFresh = false) (hc : s.cfg.holdTime ≠ 0)
    (h : s.flt.holdTick + s.cfg.holdTime * 625000000 ≤ s.ticks) :
    execHoldTimeExpiry s = .next (({ s with flt := { s.flt with hold := .heldDark } } : State).ev Ev.holdDark []) := by
  unfold execHoldTimeExpiry State.holdDark
  rw [hh]
  exact congrArg Host.Outcome.next (if_pos (by simp [hf, hc, State.past, secT, h]))

end

/-- Settles O20: each command is the one change it makes once it is due, `State.kicked`, `State.unitStopped`, `State.powerOff` among them; a
watchdog that has run out counts anew from its own expiry, the model's reading of R398. -/
theorem holdWatchdogAndStops : Obligations.HoldWatchdogAndStops := by
  intro s
  refine ⟨fun v => ⟨fun hv => ?_, fun hv => ?_⟩, fun c v hlen hv => ?_, fun c hdue => if_pos hdue, fun u hst hen hlen hclk => ?_,
    fun hh hf hc h => execHoldTimeExpiry_of_due hh hf hc h, fun t0 ht hd h => ?_⟩
  · exact congrArg Host.Outcome.next (if_pos (by simp [hv.1, hv.2]))
  · exact congrArg Host.Outcome.next (if_neg (by simp [hv]))
  · have hexec : exec (.coreKick (.core c) c v) s = _ := congrArg Host.Outcome.next (State.writeKick_of_own hv)
    have hkick : (s.kicked c).flt.kickTick.getD c 0 = s.ticks := by
      simp [State.kicked, setAt, List.getD_eq_getElem?_getD, hlen]
    refine ⟨_, hexec, ?_, fun hc hstart hu => ?_, (exec_only hexec).perm ?_⟩
    · split
      · exact hkick
      · rw [State.unitRuns_kickTick, hkick]
    · rw [if_neg hc]
      exact State.unitRuns_of_starting hstart hu
    · exact (by decide : [Part.cnt, .evt, .flt].Perm [.flt, .evt, .cnt])
  · have hexec : exec (.portStopComplete u) s = .next ((s.unitStopped u).ev Ev.unitStopped [u]) := by
      have hrun : ¬ (decide (3 ≤ u.val) && (s.port (u.val - 3)).clock) = true := by
        simpa using hclk
      exact (if_neg hrun).trans (congrArg Host.Outcome.next (State.unitStops_of_stopping hst hen))
    have hunit (w : Nat) : (s.unitStopped u).flt.unit w = _ := State.unit_modUnit (by rw [hlen]; exact u.isLt)
    refine ⟨_, hexec, ?_, fun w hw => ?_, ?_⟩
    · rw [State.ev_p_flt, hunit, if_pos rfl]
    · rw [State.ev_p_flt, hunit, if_neg hw]
    · rw [State.ev_p_flt]
      rfl
  · obtain ⟨hflt, hrws⟩ := State.powerOff_kept (s := s)
    refine ⟨_, execShutdownClockStop_of_due ht hd h, ?_, rfl, rfl, rfl, rfl, rfl, ?_, hrws⟩
    · rw [hflt]
    · rw [hflt]

end Sys2Proof.Machine
end

section
/-! SUPPORT. The NVM in operation (R346 to R350): what starting the next operation leaves, a journal read and its answer, a record
programmed, a first failure, and the end of the operation in flight after a freeze. -/

namespace Sys2Proof.Machine

section
variable {s : State}

/-- Starting the next operation takes a job and leaves all else. -/
theorem State.nvmKick_eq (s : State) : ∃ op jobs, s.nvmKick = { s with nvm := { s.nvm with op := op, jobs := jobs } } := by
  unfold State.nvmKick
  dsimp only
  split
  · exact ⟨_, _, rfl⟩
  · split
    · exact ⟨_, _, rfl⟩
    · exact ⟨_, _, rfl⟩

/- JOURNAL_READ (R350). -/

/-- The NVM with a journal read asked for. -/
def Nvm.readAsked (n : Nvm) (seq : Nat) : Nvm :=
  { n with rdSeq := seq, rdValid := false, rdMissing := false, rdBusy := n.present && !n.frozen
           jobs := n.jobs.filter fun j => match j with | .jread _ => false | _ => true }

theorem State.writeJournalRead_of_able {v : Word} (hp : s.nvm.present = true) (hf : s.nvm.frozen = false) : s.writeJournalRead v =
    State.nvmJob { s.setRw Reg.journalRead v with nvm := s.nvm.readAsked v.toNat } (.jread v.toNat) := by
  unfold State.writeJournalRead
  exact if_pos (by simp [hp, hf])

theorem State.writeJournalRead_of_unable {v : Word} (h : s.nvm.present = false ∨ s.nvm.frozen = true) : s.writeJournalRead v =
    { s.setRw Reg.journalRead v with nvm := { s.nvm.readAsked v.toNat with rdMissing := true } } := by
  unfold State.writeJournalRead
  refine if_neg ?_
  rcases h with h | h <;> simp [h]

/-- The NVM with a journal read answered. -/
def Nvm.readAnswered (n : Nvm) (seq : Nat) : Nvm :=
  match n.findRec seq with
  | some b => { n with op := none, rdValid := true, rdBusy := false, rdData := toWords b }
  | none => { n with op := none, rdMissing := true, rdBusy := false, rdData := List.replicate 16 0 }

theorem Nvm.readAnswered_of_found {n : Nvm} {seq : Nat} {b : List Byte} (h : n.findRec seq = some b) :
    n.readAnswered seq = { n with op := none, rdValid := true, rdBusy := false, rdData := toWords b } := by
  unfold Nvm.readAnswered
  rw [h]

theorem Nvm.readAnswered_of_missing {n : Nvm} {seq : Nat} (h : n.findRec seq = none) :
    n.readAnswered seq = { n with op := none, rdMissing := true, rdBusy := false, rdData := List.replicate 16 0 } := by
  unfold Nvm.readAnswered
  rw [h]

theorem Nvm.readAnswered_idle {n : Nvm} {seq : Nat} : (n.readAnswered seq).rdBusy = false := by
  cases h : n.findRec seq with
  | none => rw [Nvm.readAnswered_of_missing h]
  | some b => rw [Nvm.readAnswered_of_found h]

theorem execJournalReadDone_of_asked {q : Nat} {r : Bool} (hop : s.nvm.op = some ⟨.jread q, r⟩) (hq : s.nvm.rdSeq = q)
    (hb : s.nvm.rdBusy = true) : execJournalReadDone s = .next ({ s with nvm := s.nvm.readAnswered q } : State).nvmKick := by
  have hfind : ({ s.nvm with op := none } : Nvm).findRec q = s.nvm.findRec q := rfl
  unfold execJournalReadDone Nvm.readAnswered
  rw [hop]
  dsimp only
  rw [if_neg (by simp [hq, hb]), hfind] <;> rfl

/- NVM_OP_DONE (R346, R347). -/

theorem execNvmOpDone_of_job {ok r : Bool} {j : NvmJob} (hop : s.nvm.op = some ⟨j, r⟩) (hj : ∀ q, j ≠ .jread q) : execNvmOpDone ok s =
    if s.nvm.frozen && j.op == 3 then .next s.cutOp.vioRelease
    else if j.staging then .next s
    else if ok || j.op == 1 then .next (({ s with nvm := { s.nvm with op := none } }.jobDone j).nvmKick.pnReserveAll.vioRelease)
    else if s.nvm.frozen then .next (State.vioRelease { s.bump Reg.nvmErrors with nvm := { s.nvm with op := none } })
    else if !r then .next (s.flashRetried j)
    else .next ((State.jobLost { s.bump Reg.nvmErrors with nvm := { s.nvm with op := none } } j).nvmKick) := by
  unfold execNvmOpDone
  rw [hop]
  cases j with
  | jread q => exact absurd rfl (hj q)
  | _ => rfl

theorem execNvmOpDone_of_firstFailure {j : NvmJob} (hop : s.nvm.op = some ⟨j, false⟩) (hread : j.op ≠ 1) (hst : j.staging = false)
    (hf : s.nvm.frozen = false) : execNvmOpDone false s = .next (s.flashRetried j) := by
  rw [execNvmOpDone_of_job hop fun q hq => hread (hq ▸ rfl), if_neg (by simp [hf]), if_neg (by simp [hst]), if_neg (by simp [hread]),
    if_neg (by simp [hf]), if_pos Bool.not_false]

theorem State.flashRetried_keeps {j : NvmJob} : Keeps (partMask [.cnt, .nvm]) s (s.flashRetried j) :=
  (State.bump_keeps.mono rfl).andThen (Keeps.nvm id) rfl

/-- Turning to the next journal sector moves the slot alone. -/
theorem Nvm.jTurn_kept {n : Nvm} : n.jTurn.flash = n.flash ∧ n.jTurn.jNext = n.jNext ∧ n.jTurn.jq = n.jq := by
  unfold Nvm.jTurn
  split <;> exact ⟨rfl, rfl, rfl⟩

/-- Tidying the journal queues jobs alone. -/
theorem State.jTidy_kept {u : State} : u.jTidy.nvm.flash = u.nvm.flash ∧ u.jTidy.nvm.jNext = u.nvm.jNext ∧ u.jTidy.nvm.jq = u.nvm.jq := by
  unfold State.jTidy
  dsimp only
  split <;> exact ⟨rfl, rfl, rfl⟩

/-- The NVM with a record's bytes at their slot, before the journal turns to another sector. -/
def Nvm.recordAt (n : Nvm) (r : JRec) : Nvm :=
  { n with flash := flashWrite n.flash (jAddr n.jSect + 64 * n.jSlot) (r.bytes n.jNext n.ovr), jNext := nextSeq n.jNext
           jSlot := n.jSlot + 1, jq := n.jq.drop 1 }

theorem Nvm.recordAt_flash {n : Nvm} {r : JRec} :
    (n.recordAt r).flash = flashWrite n.flash (jAddr n.jSect + 64 * n.jSlot) (r.bytes n.jNext n.ovr) := by
  unfold Nvm.recordAt
  dsimp only

theorem State.recordDone_of_record {r : JRec} (hr : r.kind ≠ 0) :
    s.recordDone r = (State.pnBlock { s with nvm := (s.nvm.recordAt r).jTurn } r s.nvm.jNext).jTidy := by
  unfold State.recordDone
  exact if_neg (by simpa using hr)

/-- A record programmed at its slot leaves the journal as R345 and R346 say. -/
theorem State.recordDone_nvm {r : JRec} (hr : r.kind ≠ 0) :
    (s.recordDone r).nvm.flash = flashWrite s.nvm.flash (jAddr s.nvm.jSect + 64 * s.nvm.jSlot) (r.bytes s.nvm.jNext s.nvm.ovr) ∧
    (s.recordDone r).nvm.jNext = nextSeq s.nvm.jNext ∧ (s.recordDone r).nvm.jq = s.nvm.jq.drop 1 := by
  obtain ⟨hflash, hnext, hjq⟩ := State.jTidy_kept (u := State.pnBlock { s with nvm := (s.nvm.recordAt r).jTurn } r s.nvm.jNext)
  obtain ⟨hflash', hnext', hjq'⟩ := Nvm.jTurn_kept (n := s.nvm.recordAt r)
  rw [State.pnBlock_p_nvm] at hflash hnext hjq
  rw [State.recordDone_of_record hr]
  exact ⟨(hflash.trans hflash').trans Nvm.recordAt_flash, hnext.trans hnext', hjq.trans hjq'⟩

/-- The operation in flight ended. -/
def Nvm.idle (n : Nvm) : Nvm := { n with op := none }

/-- A record programmed, and the next operation started. -/
def State.recordTaken (s : State) (r : JRec) : State := (State.recordDone { s with nvm := s.nvm.idle } r).nvmKick

theorem State.recordTaken_keeps {r : JRec} : Keeps (partMask [.cnt, .evt, .nvm, .sec]) s (s.recordTaken r) := by
  have hidle : Keeps (partMask [.nvm]) s { s with nvm := s.nvm.idle } := Keeps.nvm id
  unfold State.recordTaken
  exact ((hidle.mono rfl).andThen State.recordDone_keeps rfl).andThen State.nvmKick_keeps rfl

/-- A record programmed on a device without MACsec: the journal takes it, and the next operation starts. -/
theorem execNvmOpDone_of_record {r : JRec} {f : Bool} (hop : s.nvm.op = some ⟨.record r, f⟩) (hplain : ∀ e, s.macsecOn e = false) :
    execNvmOpDone true s = .next (s.recordTaken r).vioRelease := by
  rw [execNvmOpDone_of_job hop (fun q hq => nomatch hq), if_neg (by simp [NvmJob.op]), if_neg (by simp [NvmJob.staging]), if_pos (by simp)]
  refine congrArg (fun u : State => Host.Outcome.next u.vioRelease) (State.pnReserveAll_of_plain fun e => ?_)
  exact (State.macsecOn_congr State.recordTaken_keeps.lasting.variant (State.recordTaken_keeps.same .rws rfl) e).trans (hplain e)

/- The freeze (R348). -/

/-- What is cut off leaves the flash as it was cut, and draws the bytes it could not bring to their value. -/
theorem State.cutOp_eq (s : State) : ∃ flash n, s.cutOp = { s with nvm := { s.nvm with op := none, flash := flash }, free := n } := by
  unfold State.cutOp
  split
  next h => exact ⟨s.nvm.flash, s.free, by rw [← h]⟩
  · dsimp only
    split
    · split <;> exact ⟨_, _, rfl⟩
    all_goals exact ⟨_, _, rfl⟩

theorem State.vioRelease_of_done (hf : s.nvm.frozen = true) (hop : s.nvm.op = none) (h : s.flt.shutDone = true ∨ s.boot.running = false) :
    s.vioRelease.pwr = { s.pwr with vioHold := false, vio := false } := by
  unfold State.vioRelease
  rw [if_pos (by rcases h with h | h <;> simp [hf, hop, h])]

theorem execNvmGraceTimeout_of_due (hf : s.nvm.frozen = true) (h : s.nvm.freezeTick + 5 * 625000 ≤ s.ticks) :
    execNvmGraceTimeout s = .next s.cutOp.vioRelease :=
  if_neg (by simp [hf, State.past, msT, h])

end

/-- Settles O22: a journal read by whether the flash can be read, a completion by its job (`execNvmOpDone_of_job`), and the freeze by
`State.cutOp_eq`. -/
theorem nvmOperations : Obligations.NvmOperations := by
  intro s
  refine ⟨fun v hw => ?_, fun q r hop hq hb => ?_, fun r f hop hr hplain => ?_, fun j hop hread hst hf => ?_, fun hf hdue => ?_⟩
  · have hrw (u : State) (hu : u.regs.rw = (s.setRw Reg.journalRead v).regs.rw) : u.rw Reg.journalRead = v := by
      unfold State.rw
      rw [hu]
      exact (State.rw_setRw s _ _ v hw).trans (if_pos rfl)
    have honly : Only [.rw, .nvm] s (s.writeJournalRead v) := exec_only (c := .journalRead v) rfl
    by_cases h : s.nvm.present = true ∧ s.nvm.frozen = false
    · obtain ⟨hp, hf⟩ := h
      obtain ⟨op, jobs, hkick⟩ := State.nvmKick_eq { s.setRw Reg.journalRead v with
        nvm := { s.nvm.readAsked v.toNat with jobs := (s.nvm.readAsked v.toNat).jobs ++ [.jread v.toNat] } }
      have hwrite := (State.writeJournalRead_of_able (v := v) hp hf).trans hkick
      refine ⟨_, rfl, hrw _ ?_, ?_, ?_, fun _ _ => ?_, fun hno => ?_, honly⟩
      · rw [hwrite]
      · rw [hwrite]
        rfl
      · rw [hwrite]
        rfl
      · rw [hwrite]
        exact ⟨by simp [Nvm.readAsked, hp, hf], rfl⟩
      · simp [hp, hf] at hno
    · have hno : s.nvm.present = false ∨ s.nvm.frozen = true := by
        rcases hp : s.nvm.present with _ | _
        · exact .inl rfl
        · exact .inr (by simpa [hp] using h)
      have hwrite := State.writeJournalRead_of_unable (v := v) hno
      refine ⟨_, rfl, hrw _ ?_, ?_, ?_, fun hp hf => absurd ⟨hp, hf⟩ h, fun _ => ?_, honly⟩
      · rw [hwrite]
      · rw [hwrite]
        rfl
      · rw [hwrite]
        rfl
      · rw [hwrite]
        refine ⟨?_, rfl⟩
        rcases hno with hno | hno <;> simp [Nvm.readAsked, hno]
  · obtain ⟨op, jobs, hkick⟩ := State.nvmKick_eq { s with nvm := s.nvm.readAnswered q }
    have hexec : exec .journalReadDone s = _ := execJournalReadDone_of_asked hop hq hb
    refine ⟨_, hexec, ?_, exec_only hexec, fun b hfound => ?_, fun hmissing => ?_⟩
    · rw [hkick]
      exact Nvm.readAnswered_idle
    · rw [hkick]
      dsimp only
      rw [Nvm.readAnswered_of_found hfound]
      exact ⟨rfl, rfl⟩
    · rw [hkick]
      dsimp only
      rw [Nvm.readAnswered_of_missing hmissing]
  · obtain ⟨hflash, hnext, hjq⟩ := State.recordDone_nvm (s := { s with nvm := s.nvm.idle }) hr
    obtain ⟨op, jobs, hkick⟩ := State.nvmKick_eq (State.recordDone { s with nvm := s.nvm.idle } r)
    refine ⟨_, execNvmOpDone_of_record hop hplain, ?_⟩
    rw [State.vioRelease_p_nvm, State.recordTaken, hkick]
    exact ⟨hflash, hnext, hjq⟩
  · exact ⟨_, execNvmOpDone_of_firstFailure hop hread hst hf, rfl, rfl, State.flashRetried_keeps.only_parts rfl⟩
  · obtain ⟨flash, n, hcut⟩ := State.cutOp_eq s
    have hexec : exec .nvmGraceTimeout s = _ := execNvmGraceTimeout_of_due hf hdue
    refine ⟨_, hexec, ?_, ?_, fun h => ?_, (exec_only hexec).perm (by decide)⟩
    · rw [State.vioRelease_p_nvm, hcut]
    · rw [State.vioRelease_p_nvm, hcut]
      exact hf
    · have hpwr : s.cutOp.vioRelease.pwr = { s.cutOp.pwr with vioHold := false, vio := false } := by
        rw [hcut]
        exact State.vioRelease_of_done hf rfl h
      rw [hpwr]
      exact ⟨rfl, rfl⟩

end Sys2Proof.Machine
end

section
/-! SUPPORT. The housekeeping slots (R431 to R439), the fabric trim (R440), a stalled stage (R300), and the hurdle check with its
query (R287 to R294, R305). -/

namespace Sys2Proof.Machine

section
variable {s : State}

/- The slots. -/

theorem Hk.chan_modAt_same {h : Hk} {n : Nat} {f : HkChan → HkChan} (hn : n < h.chans.length) :
    ({ h with chans := modAt h.chans n f } : Hk).chan n = f (h.chan n) := by
  unfold Hk.chan
  rw [getD_modAt, if_pos ⟨rfl, hn⟩]

theorem Hk.chan_modAt_other {h : Hk} {n k : Nat} {f : HkChan → HkChan} (hk : k ≠ n) :
    ({ h with chans := modAt h.chans n f } : Hk).chan k = h.chan k := by
  unfold Hk.chan
  rw [getD_modAt, if_neg fun h => hk h.1.symm]

/-- A reading taken by channel `n`, its counts set to none. -/
def State.goodReading (s : State) (n : Nat) (v : Int) : State :=
  (s.modChan n fun c => c.take s.ticks v).modChan n fun c => { c with fails := 0, count := 0 }

theorem State.goodReading_same {n : Nat} {v : Int} (hn : n < s.hk.chans.length) :
    (s.goodReading n v).hk.chan n = { (s.hk.chan n).take s.ticks v with fails := 0, count := 0 } := by
  unfold State.goodReading State.modChan
  rw [Hk.chan_modAt_same (by rwa [length_modAt]), Hk.chan_modAt_same hn]

theorem State.goodReading_other {n k : Nat} {v : Int} (hk : k ≠ n) : (s.goodReading n v).hk.chan k = s.hk.chan k := by
  unfold State.goodReading State.modChan
  rw [Hk.chan_modAt_other hk, Hk.chan_modAt_other hk]

/-- A temperature within range, below its limits, that passes the cross-check. -/
def State.GoodTemp (s : State) (n : Nat) (v : Int) : Prop :=
  -640 ≤ v ∧ v ≤ 2400 ∧ v < 1888 ∧ s.crossFails n v = false ∧ (s.hotLevel n = 0 ∨ v < 16 * s.hotLevel n) ∧
    (s.holdLevel n = 0 ∨ v < 16 * s.holdLevel n)

/-- A good temperature is taken with no count left and no fault; only level events may go out (R434, R437, R443). -/
theorem State.judgeTemp_of_good {n : Nat} {v : Int} (hb : (s.hk.chan n).broken = false) (hv : s.GoodTemp n v) :
    ∃ t, s.judgeTemp n v = (t, []) ∧ Keeps (partMask [.cnt, .evt]) (s.goodReading n v) t := by
  obtain ⟨hlo, hhi, hdie, hcross, hhot, hhold⟩ := hv
  have hrange : ¬ ((decide (v < -640) || decide (2400 < v) || decide (8 ≤ 0)) = true) := by simp; omega
  have hlevel (l : Nat) (h : l = 0 ∨ v < 16 * l) : ¬ ((l != 0 && decide ((16 * l : Int) ≤ v)) = true) := by
    rcases h with h | h <;> simp [h]
  have hcount : (if n < 4 then (if 1888 ≤ v then min 3 ((s.hk.chan n).count + 1) else 0) else 0) = 0 := by
    rw [if_neg (by omega : ¬ 1888 ≤ v), ite_self]
  have hfails : (if s.crossFails n v then (s.hk.chan n).fails + 1 else 0) = 0 := if_neg (by simp [hcross])
  unfold State.judgeTemp
  dsimp only
  rw [if_neg (by simp [hb]), hfails, if_neg hrange, hcount, if_neg (hlevel _ hhot), if_neg (hlevel _ hhold)]
  exact ⟨_, rfl, (State.levelEvent_keeps.mono rfl).andThen State.levelEvent_keeps rfl⟩

/-- Nothing raised changes nothing. -/
theorem State.hkRaise_nil : s.hkRaise [] = s := by
  unfold State.hkRaise
  exact ite_self _

theorem State.goodReading_keeps {n : Nat} {v : Int} : Keeps (partMask [.hk]) s (s.goodReading n v) :=
  (State.modChan_keeps.mono rfl).andThen State.modChan_keeps rfl

theorem execHkSlot_of_temp {r : HkReading} {t : State} (hdue : s.slotDue = true) (hn : s.hk.slot < 12)
    (ht : s.judgeTemp s.hk.slot (s.hkValue s.hk.slot r.raw) = (t, [])) : execHkSlot r s = .next { t with hk := t.hk.nextSlot } := by
  unfold execHkSlot
  dsimp only
  rw [if_neg (by simp [hdue]), if_pos hn, ht]
  dsimp only
  rw [if_neg (by simp; omega), State.hkRaise_nil]

/-- A supply's reading taken by channel `n`, within its range. -/
def State.supplyTaken (s : State) (n : Nat) (v : Int) : State := s.modChan n fun c => { c.take s.ticks v with oor := 0 }

theorem State.supplyTaken_keeps {n : Nat} {v : Int} : Keeps (partMask [.hk]) s (s.supplyTaken n v) := State.modChan_keeps

theorem State.judgeSupply_of_good {n : Nat} {v : Int} (hn : n ≠ 14) (hv : supplyOut n v = false) :
    s.judgeSupply n v = (s.supplyTaken n v, []) := by
  unfold State.judgeSupply
  rw [hv]
  exact if_neg (by simpa using hn)

theorem execHkSlot_of_supply {r : HkReading} (hdue : s.slotDue = true) (hn : s.hk.slot = 12 ∨ s.hk.slot = 13)
    (hv : supplyOut s.hk.slot r.raw = false) :
    execHkSlot r s = .next { s.supplyTaken s.hk.slot r.raw with hk := (s.supplyTaken s.hk.slot r.raw).hk.nextSlot } := by
  have hvalue : s.hkValue s.hk.slot r.raw = r.raw := by
    unfold State.hkValue
    exact if_pos (by rcases hn with hn | hn <;> simp [hn])
  unfold execHkSlot
  dsimp only
  rw [if_neg (by simp [hdue]), if_neg (by omega : ¬ s.hk.slot < 12), hvalue,
    State.judgeSupply_of_good (by omega : s.hk.slot ≠ 14) hv]
  dsimp only
  rw [if_neg (by simp; omega), State.hkRaise_nil]

/-- The slots before the last move on by one within their round. -/
theorem Hk.nextSlot_of_early {h : Hk} (hn : h.slot < 15) : h.nextSlot = { h with slot := h.slot + 1 } := by
  unfold Hk.nextSlot
  exact if_neg (by simp; omega)

/- The fabric trim. -/

/-- The housekeeping block with the trim's results stored. -/
def Hk.trimmed (h : Hk) (lines : List (List (List Int))) : Hk :=
  { h with fabTrim := ((List.range 4).map fun g => trimStage (lines.getD g [])).map fun r => r.getD (0, 0, 0, 0)
           fabLines := (List.range 4).map fun g => (lines.getD g []).length }

theorem execFabricTrimDone_of_trims {lines : List (List (List Int))} (hst : s.boot.stage = 4) (hseal : s.boot.sealWhen = .notYet)
    (hnone : ∀ x ∈ s.hk.fabTrim, x.1 = 0) (hall : ∀ g, g < 4 → (trimStage (lines.getD g [])).isSome = true) :
    execFabricTrimDone lines s = .next { s with hk := s.hk.trimmed lines } := by
  have hlost : idxs 4 (fun g => (((List.range 4).map fun g => trimStage (lines.getD g [])).getD g none).isNone) = [] := by
    refine List.filter_eq_nil_iff.2 fun g hg => ?_
    have hg : g < 4 := List.mem_range.1 hg
    have := hall g hg
    rw [List.getD_eq_getElem _ _ (by simpa using hg), List.getElem_map, List.getElem_range]
    simpa [Option.isSome_iff_ne_none] using this
  unfold execFabricTrimDone
  rw [if_neg (by simpa [hst, hseal] using fun a b c d h => hnone _ h)]
  dsimp only
  rw [hlost]
  rfl

/-- Every stage that trims has its result. -/
theorem Hk.trimmed_getD {h : Hk} {lines : List (List (List Int))} {g : Nat} (hg : g < 4)
    (hsome : (trimStage (lines.getD g [])).isSome = true) :
    some ((h.trimmed lines).fabTrim.getD g (0, 0, 0, 0)) = trimStage (lines.getD g []) := by
  obtain ⟨x, hx⟩ := Option.isSome_iff_exists.1 hsome
  have hget : (h.trimmed lines).fabTrim.getD g (0, 0, 0, 0) = (trimStage (lines.getD g [])).getD (0, 0, 0, 0) := by
    unfold Hk.trimmed
    rw [List.getD_eq_getElem _ _ (by simpa using hg), List.getElem_map, List.getElem_map, List.getElem_range]
  rw [hget, hx]
  rfl

theorem execFabricStallTimeout_of_first {g : Fin 5} (hg : g.val ≠ 0) (hl : s.fab.lost = false) (hr : s.boot.running = true)
    (h4 : 4 ≤ s.boot.stage) (h6 : s.boot.stage ≠ 6) :
    execFabricStallTimeout g s = .next (State.fabricStall { s with fab := { s.fab with slowDue := s.fab.slowDue || s.slowNow } } g) := by
  unfold execFabricStallTimeout
  exact if_neg (by simp [hg, hl, hr, h6]; omega)

theorem State.fabricStall_of_first {g : Nat} (hl : s.fab.lost = false) : s.fabricStall g =
    State.evFault { s with fab := { s.fab with lost := true, stage := g } } Ev.fabricStall Fk.fabricStall (fsStage g) [g] := by
  unfold State.fabricStall
  rw [hl]
  rfl

/- The hurdle check. -/

/-- The reasons of the plans of a device with a configuration, by number (R292, Table 4.2). -/
def State.planCodes (s : State) : List Nat := (List.range 8).map fun n => match s.cfg.plan? n with | some p => s.planCode p | none => 0

/-- The reasons of the scenes, by number (R292, Table 2.4). -/
def State.sceneCodes (s : State) : List Nat :=
  (List.range 64).map fun n => match s.scene? n with
    | some ws => s.sceneCode (s.cfg.plans.filter fun p => s.planCodes.getD p.num 0 == 0) ws
    | none => 0

theorem State.planCodes_getD {n : Nat} (hn : n < 8) :
    s.planCodes.getD n 0 = match s.cfg.plan? n with | some p => s.planCode p | none => 0 := by
  unfold State.planCodes
  rw [List.getD_eq_getElem _ _ (by simpa using hn), List.getElem_map, List.getElem_range]

theorem State.sceneCodes_getD {n : Nat} (hn : n < 64) : s.sceneCodes.getD n 0 = match s.scene? n with
    | some ws => s.sceneCode (s.cfg.plans.filter fun p => s.planCodes.getD p.num 0 == 0) ws
    | none => 0 := by
  unfold State.sceneCodes
  rw [List.getD_eq_getElem _ _ (by simpa using hn), List.getElem_map, List.getElem_range]

/-- The check's results stored, before the events of a run. -/
def State.judged (s : State) : State :=
  let ok := (List.range 64).filterMap fun n => match s.scene? n with
    | some ws => if s.sceneCodes.getD n 0 == 0 then some (n, ws) else none
    | none => none
  let plans := s.cfg.plans.filter fun p => s.planCodes.getD p.num 0 == 0
  { s with
    fab := { s.fab with runDone := some s.ticks, priorPlans := s.tl.reasons, priorScenes := s.sc.reasons, priorFades := s.fab.fades
                        runs := s.fab.runs + 1, runTick := none
                        fades := ok.flatMap fun a => (ok.filter fun b => s.fadeOk plans a.2 b.2).map fun b => (a.1, b.1) }
    tl := { s.tl with reasons := s.planCodes, usable := usableMask 8 (fun n => (s.cfg.plan? n).isSome) s.planCodes }
    sc := { s.sc with reasons := s.sceneCodes, usable := usableMask 64 (fun n => (s.scene? n).isSome) s.sceneCodes } }

/-- The check's results stored, and what they change told (R293). -/
def State.judgedTold (s : State) : State := State.inForceEvents (if s.fab.runs == 0 then s.judged
  else (s.judged.hurdleEvents 0 s.tl.reasons s.planCodes).hurdleEvents 1 s.sc.reasons s.sceneCodes)

theorem State.judgedTold_keeps : Keeps (partMask [.cnt, .evt]) s.judged s.judgedTold := by
  unfold State.judgedTold
  generalize s.judged = u
  refine Keeps.andThen ?_ State.inForceEvents_keeps rfl
  refine Keeps.ite (fun _ => Keeps.refl) fun _ => ?_
  refine Keeps.andThen ?_ State.hurdleEvents_keeps rfl
  exact State.hurdleEvents_keeps.mono rfl

/-- A run outside limp service leaves the results told. -/
theorem State.hurdleRun_of_stage (h7 : s.boot.stage ≠ 7) : s.hurdleRun = s.judgedTold := by
  have hboot : s.judgedTold.boot = s.judged.boot := State.judgedTold_keeps.same .boot rfl
  have hstage : ¬ ((s.judgedTold.boot.stage == 7) = true) := by
    rw [hboot]
    exact fun h => h7 (beq_iff_eq.1 h)
  unfold State.hurdleRun
  exact if_neg hstage

theorem execHurdleQueryDone_of_asked (h : s.fab.qTick.isSome = true) :
    execHurdleQueryDone s = .next { s with
      fab := { s.fab with
        qTick := none, qValid := true, qUnj := (s.queryFigures (s.rw Reg.hurdleQuery)).isNone
        qUse := (s.queryFigures (s.rw Reg.hurdleQuery)).getD (List.replicate 48 0) } } := by
  unfold execHurdleQueryDone
  refine if_neg ?_
  rw [Option.isNone_iff_eq_none]
  exact Option.isSome_iff_ne_none.1 h

end

/-- Settles O23: the slot by `State.judgeTemp_of_good` and `State.judgeSupply_of_good`, the trim by `execFabricTrimDone_of_trims`,
the hurdle check by `State.hurdleRun_parts`. -/
theorem housekeepingAndHurdle : Obligations.HousekeepingAndHurdle := by
  intro s
  refine ⟨fun r hdue hn hlen hb hv => ?_, fun r hdue hn hlen hv => ?_, fun lines hst hseal hnone hall => ?_,
    fun g hg hl hr h4 h6 => ?_, fun hrun h7 => ?_, fun v hw => ?_, fun hq => ?_⟩
  · obtain ⟨t, ht, hkeeps⟩ := State.judgeTemp_of_good (v := s.hkValue s.hk.slot r.raw) hb hv
    have hhk : t.hk = (s.goodReading s.hk.slot (s.hkValue s.hk.slot r.raw)).hk := hkeeps.same .hk rfl
    have hsame : t.hk.chan s.hk.slot =
        { (s.hk.chan s.hk.slot).take s.ticks (s.hkValue s.hk.slot r.raw) with fails := 0, count := 0 } := by
      rw [hhk, State.goodReading_same (by omega)]
    have hnext : t.hk.nextSlot = { t.hk with slot := t.hk.slot + 1 } := Hk.nextSlot_of_early (by rw [hhk]; exact hn.trans (by decide))
    refine ⟨_, execHkSlot_of_temp hdue hn ht, ?_⟩
    have hall : Keeps (partMask [.cnt, .evt, .hk]) s t := (State.goodReading_keeps.mono rfl).andThen hkeeps rfl
    have honly : Only [.cnt, .evt, .hk] s { t with hk := t.hk.nextSlot } := (hall.andThen Keeps.hk rfl).only_parts rfl
    refine ⟨?_, ?_, ?_, ?_, ?_, ?_, fun k hk => ?_, honly⟩ <;> rw [hnext]
    · exact congrArg (· + 1) ((congrArg Hk.slot hhk).trans rfl)
    · exact (congrArg Hk.rounds hhk).trans rfl
    · exact congrArg HkChan.value hsame
    · exact (congrArg HkChan.broken hsame).trans hb
    · exact congrArg HkChan.count hsame
    · exact congrArg HkChan.fails hsame
    · refine (congrArg (fun h : Hk => h.chan k) hhk).trans (State.goodReading_other hk)
  · have hslot : (s.supplyTaken s.hk.slot r.raw).hk.nextSlot = { (s.supplyTaken s.hk.slot r.raw).hk with slot := s.hk.slot + 1 } :=
      Hk.nextSlot_of_early (by change s.hk.slot < 15; omega)
    have hchan : (s.supplyTaken s.hk.slot r.raw).hk.chan s.hk.slot = { (s.hk.chan s.hk.slot).take s.ticks r.raw with oor := 0 } :=
      Hk.chan_modAt_same (by omega)
    refine ⟨_, execHkSlot_of_supply hdue hn hv, ?_, ?_, ?_, ?_⟩
    · rw [hslot]
    · rw [hslot]
      exact congrArg HkChan.value hchan
    · rw [hslot]
      exact congrArg HkChan.oor hchan
    · exact Keeps.only_parts (State.supplyTaken_keeps.andThen Keeps.hk rfl) rfl
  · exact ⟨_, execFabricTrimDone_of_trims hst hseal hnone hall, fun g hg => Hk.trimmed_getD hg (hall g hg), Keeps.hk.only_parts rfl⟩
  · refine (execFabricStallTimeout_of_first hg hl hr h4 h6).trans (congrArg _ ?_)
    exact State.fabricStall_of_first hl
  · have hplans : s.judgedTold.tl.reasons = s.planCodes := congrArg Timeline.reasons (State.judgedTold_keeps.same .tl rfl)
    have hscenes : s.judgedTold.sc.reasons = s.sceneCodes := congrArg Scenes.reasons (State.judgedTold_keeps.same .sc rfl)
    have hfab : s.judgedTold.fab = s.judged.fab := State.judgedTold_keeps.same .fab rfl
    rw [← State.hurdleRun_of_stage h7] at hplans hscenes hfab
    refine ⟨_, if_pos hrun, congrArg Fab.runs hfab, congrArg Fab.runTick hfab, fun n hn => ?_, fun n hn => ?_,
      State.hurdleRun_keeps.only_parts rfl⟩
    · rw [hplans]
      exact State.planCodes_getD hn
    · rw [hscenes, hplans]
      exact State.sceneCodes_getD hn
  · exact ⟨_, rfl, (State.rw_setRw s _ _ _ hw).trans (if_pos rfl), rfl, exec_only (c := .hurdleQueryWrite v) rfl⟩
  · refine ⟨_, execHurdleQueryDone_of_asked hq, rfl, rfl, Option.isNone_iff_eq_none, fun l hl => ?_, Keeps.fab.only_parts rfl⟩
    rw [hl]
    rfl

end Sys2Proof.Machine
end

section
/-! SUPPORT. The security block (R358 to R369): what a zeroisation leaves of its keys, and each of its commands under the conditions
of its rule. -/

namespace Sys2Proof.Machine

section
variable {s : State}

/- Zeroisation (R369). -/

/-- The datagrams of the tick undone, the event told and a staging check failed leave the block zeroised. -/
theorem State.zeroise_sec {cause : Nat} : (s.zeroise cause).sec = s.sec.zero := by
  have htold : Keeps (partMask [.cnt, .evt, .nvm, .net, .host]) { s with sec := s.sec.zero } (s.zeroise cause) := by
    unfold State.zeroise
    refine Keeps.ite (fun _ => ?_) (fun _ => ?_)
    · exact ((State.dgUndo_keeps.mono rfl).andThen State.evtW_keeps rfl).andThen State.stageEnd_keeps rfl
    · exact (State.dgUndo_keeps.mono rfl).andThen State.evtW_keeps rfl
  exact htold.same .sec rfl

theorem wput_low_toNat (w : Word) (n : Nat) : (wput w 1 0 n).toNat = w.toNat / 4 * 4 + n % 4 := by
  unfold wput wfld Word.of
  have := w.isLt
  simp only [BitVec.toNat_ofNat, Nat.shiftRight_eq_div_pow]
  omega

/-- GO and PERMANENT put into a word leave its key. -/
theorem wput_low_fields (w : Word) (n : Nat) : wfld (wput w 1 0 n) 31 16 = wfld w 31 16 ∧ wbit (wput w 1 0 n) 0 = (n % 2 == 1) ∧
    wbit (wput w 1 0 n) 1 = (n / 2 % 2 == 1) := by
  unfold wbit wfld
  have := w.isLt
  simp only [wput_low_toNat, Nat.shiftRight_eq_div_pow]
  refine ⟨?_, congrArg (· == 1) ?_, congrArg (· == 1) ?_⟩ <;> omega

theorem execZeroise_of_key {v : Word} (hv : wfld v 31 16 = 0xD1E5) : execZeroise v s = .next (s.zeroise 0) := by
  obtain ⟨hkey, hgo, hperm⟩ := wput_low_fields v 1
  unfold execZeroise State.writeZeroise
  rw [if_neg (by simp [hkey, hv, hgo]), if_neg (by simp [hperm])]

theorem execZeroisePermanent_of_key {v : Word} (hv : wfld v 31 16 = 0xD1E5) :
    execZeroisePermanent v s = .next { s.zeroise 0 with fuses := { (s.zeroise 0).fuses with retired := true } } := by
  obtain ⟨hkey, hgo, hperm⟩ := wput_low_fields v 3
  unfold execZeroisePermanent State.writeZeroise
  rw [if_neg (by simp [hkey, hv, hgo]), if_pos (by simp [hperm])]

/- Enrolment (R358). -/

theorem State.writeEnrol_of_open {v : Word} {blown : Bool} (hkey : wfld v 31 16 = 0x0E4C) (hgo : wbit v 0 = true)
    (hopen : s.mayEnrol = true) :
    s.writeEnrol v blown = if blown then { s with fuses := { s.fuses with ownerHash := s.sec.written } }
      else { s with sec := { s.sec with enrolFailed := true } } := by
  unfold State.writeEnrol
  exact if_neg (by simp [hkey, hgo, hopen])

/- Attestation (R361). -/

/-- A GO while no report is made is served by the debug unlock of its tick, the identity key and the self-test. -/
theorem execAttestGo_of_idle {v : Word} (hbusy : s.sec.busy = none) : execAttestGo v s = .next (
    if s.sec.opened == some s.ticks && !s.sec.err then s.lateReport
    else if s.sec.idKey.isNone || s.sec.err then { s with sec := { s.sec with refused := true } }
    else { s with sec := { s.sec with busy := some s.ticks, refused := false } }) := by
  unfold execAttestGo State.writeAttest
  rw [if_neg (by simp [wbit_wput_go, hbusy])]

/-- The report of a tick's debug unlock, as before it. -/
theorem State.lateReport_sec : s.lateReport.sec =
    { s.sec with report := State.attestBody { s with sec := { s.sec with unlocked := false } } ++
                   ecdsaSign (identityKey s.fuses.seed) (State.attestBody { s with sec := { s.sec with unlocked := false } })
                 valid := true, busy := none, refused := false, reports := s.sec.reports + 1 } := rfl

theorem State.finishReport_of_busy {b d : Nat} (hbusy : s.sec.busy = some b) (hkey : s.sec.idKey = some d) :
    s.finishReport = s.putReport d := by
  unfold State.finishReport
  rw [hbusy, hkey]

/- Debug tokens (R366). -/

/-- A token accepted: the keys zeroised, the unlock told. -/
def State.debugTold (s : State) : State := (s.zeroise 1).ev Ev.debugUnlocked [leAt s.sec.token 5 1]

theorem State.debugTold_keeps : Keeps (partMask [.cnt, .evt, .nvm, .sec, .net, .host]) s s.debugTold :=
  (State.zeroise_keeps.mono rfl).andThen State.ev_keeps rfl

theorem State.debugTold_sec : s.debugTold.sec = s.sec.zero :=
  (State.ev_keeps.same .sec rfl).trans State.zeroise_sec

theorem execDebugSubmit_of_idle {v : Word} (hfails : s.sec.fails < 8) (hbusy : s.sec.busy = none) : execDebugSubmit v s = .next (
    if s.tokenOk then { s.debugTold with sec := ({ s.debugTold.sec with
      scope := s.debugTold.sec.scope ||| leAt s.sec.token 5 1 % 8, unlocked := true
      opened := if s.sec.idKey.isSome then some s.ticks else s.sec.opened } : Sec).renew }
    else State.ev { s with sec :=
          ({ s.sec with fails := min 15 (s.sec.fails + 1) } : Sec).renew } Ev.debugRefused [leAt s.sec.token 5 1]) := by
  have hsame : (if s.sec.busy == some s.ticks then s.finishReport else s) = s := if_neg (by simp [hbusy])
  unfold execDebugSubmit State.writeDebug
  rw [if_neg (by simp [wbit_wput_go]; omega)]
  dsimp only
  rw [hsame]
  rfl

/- The entropy source (R368). -/

/-- A failed test noted and told, before its fault. -/
def State.selfTestFailed (s : State) (w : Word) : State :=
  State.evtW { s with sec := { s.sec with err := true, busy := none, refused := s.sec.refused || s.sec.busy.isSome } }
    (unitSrc Ev.secSelftestFailed) Ev.secSelftestFailed [w]

theorem State.selfTestFailed_keeps {w : Word} : Keeps (partMask [.cnt, .evt, .sec]) s (s.selfTestFailed w) :=
  (Keeps.sec.mono rfl).andThen State.evtW_keeps rfl

theorem State.selfTestFailed_sec {w : Word} : (s.selfTestFailed w).sec =
    { s.sec with err := true, busy := none, refused := s.sec.refused || s.sec.busy.isSome } := State.evtW_keeps.same .sec rfl

end

/-- Settles O26: each command under its conditions by its lemma, the keys gone by `State.zeroise_sec`. -/
theorem securityCommands : Obligations.SecurityCommands := by
  intro s
  refine ⟨fun v hkey hgo hopen => ⟨?_, ?_⟩, fun i v => ⟨_, rfl, rfl, exec_only (c := .attestNonceWrite i v) rfl⟩,
    fun v hbusy => ⟨fun hopened hkey herr => ?_, fun hopened hkey => ?_, fun hopened herr => ?_⟩, fun b d hbusy hkey => ?_,
    fun v hfails hbusy => ⟨fun htoken => ?_, fun htoken => ?_⟩, fun v hv => ⟨?_, ?_⟩, fun k => ?_⟩
  · have hexec : exec (.ownerEnrol v true) s = .next { s with fuses := { s.fuses with ownerHash := s.sec.written } } :=
      congrArg Host.Outcome.next (State.writeEnrol_of_open hkey hgo hopen)
    have hkeeps : Keeps (partMask [.fuses]) s { s with fuses := { s.fuses with ownerHash := s.sec.written } } :=
      Keeps.fuses rfl rfl rfl rfl id
    exact ⟨_, hexec, rfl, hkeeps.only_parts rfl⟩
  · have hexec : exec (.ownerEnrol v false) s = .next { s with sec := { s.sec with enrolFailed := true } } :=
      congrArg Host.Outcome.next (State.writeEnrol_of_open hkey hgo hopen)
    exact ⟨_, hexec, rfl, Keeps.sec.only_parts rfl⟩
  · have hexec : exec (.attestGo v) s = .next { s with sec := { s.sec with busy := some s.ticks, refused := false } } := by
      refine (execAttestGo_of_idle hbusy).trans ?_
      rw [if_neg (by simp [hopened]), if_neg (by simp [herr, Option.isSome_iff_ne_none.1 hkey])]
    exact ⟨_, hexec, rfl, exec_only hexec⟩
  · have hexec : exec (.attestGo v) s = .next { s with sec := { s.sec with refused := true } } := by
      refine (execAttestGo_of_idle hbusy).trans ?_
      rw [if_neg (by simp [hopened]), if_pos (by simp [hkey])]
    exact ⟨_, hexec, rfl, exec_only hexec⟩
  · have hexec : exec (.attestGo v) s = .next s.lateReport := by
      refine (execAttestGo_of_idle hbusy).trans ?_
      rw [if_pos (by simp [hopened, herr])]
    refine ⟨_, hexec, ?_, exec_only hexec⟩
    rw [State.lateReport_sec, ← hbusy]
  · have hexec : exec .attestReportDone s = .next (s.putReport d) := congrArg _ (State.finishReport_of_busy hbusy hkey)
    exact ⟨_, hexec, rfl, exec_only hexec⟩
  · refine ⟨_, execDebugSubmit_of_idle hfails hbusy, ?_⟩
    rw [if_pos htoken, State.debugTold_sec]
    exact ⟨rfl, rfl, rfl, rfl, rfl, (State.debugTold_keeps.andThen Keeps.sec rfl).only_parts rfl⟩
  · have hkeeps : Keeps (partMask [.cnt, .evt, .sec]) s
        (State.ev { s with sec :=
          ({ s.sec with fails := min 15 (s.sec.fails + 1) } : Sec).renew } Ev.debugRefused [leAt s.sec.token 5 1]) :=
      (Keeps.sec.mono rfl).andThen State.ev_keeps rfl
    refine ⟨_, execDebugSubmit_of_idle hfails hbusy, ?_⟩
    rw [if_neg (by simp [htoken]), State.ev_p_sec]
    exact ⟨Nat.min_eq_right (by omega), rfl, rfl, rfl, hkeeps.only_parts rfl⟩
  · refine ⟨_, execZeroise_of_key hv, State.zeroise_sec, ?_, ?_, State.zeroise_p_fuses⟩ <;> rw [State.zeroise_sec] <;> rfl
  · refine ⟨_, execZeroisePermanent_of_key hv, State.zeroise_sec, ?_⟩
    rw [State.zeroise_p_fuses]
  · refine ⟨s.selfTestFailed (Config.code Ev.secSelftestFailed k), rfl, ?_, ?_, ?_, State.selfTestFailed_keeps.only_parts rfl⟩ <;>
      rw [State.selfTestFailed_sec]

end Sys2Proof.Machine
end

section
/-! SUPPORT. The start of a device: what a start leaves of the state, a false start, the end of SB0, the seal at the end of SB4, and the
commands of the starting blocks (R311 to R321). -/

namespace Sys2Proof.Machine

section
variable {s : State}

/- A start (R314, R467). -/

theorem State.enterStage_boot {k : Nat} :
    (s.enterStage k).boot = { s.boot with stage := k, stageTick := s.ticks, entryMs := setAt s.boot.entryMs k s.bootMs } :=
  State.ev_keeps.same .boot rfl

/-- The device as a start begins, before SB0 is entered. -/
def State.started (s : State) : State :=
  { s.pinsLow.fresh with
    boot := { Boot.reset with running := true, startTick := s.pinsLow.ticks }
    hk := { s.pinsLow.fresh.hk with running := true, startTick := s.pinsLow.ticks }
    mem := { State.reset.mem with stks := State.reset.mem.stks.map fun k => { k with tempTick := s.pinsLow.ticks } }
    pwr := { s.pinsLow.pwr with vcore := true, hbmRail := true, serdes := true, vio := true, vioHold := false, waiting := false
                                shdn := s.pinsLow.hk.latch.isSome }
    fab := { State.reset.fab with vset := 900, vTick := s.pinsLow.ticks } }

theorem State.beginStart_eq : s.beginStart = s.started.enterStage 0 := rfl

/-- A start runs in SB0, unsealed, with no restart asked for. -/
theorem State.beginStart_boot : s.beginStart.boot.running = true ∧ s.beginStart.boot.stage = 0 ∧ s.beginStart.boot.sealWhen = .notYet ∧
    s.beginStart.boot.restart = false := by
  rw [State.beginStart_eq, State.enterStage_boot]
  exact ⟨rfl, rfl, rfl, rfl⟩

/-- What a start leaves volatile is as after reset. -/
theorem State.beginStart_reset : s.beginStart.flt = State.reset.flt ∧ s.beginStart.regs.rws = State.reset.regs.rws ∧
    s.beginStart.sec.idKey = none := by
  rw [State.beginStart_eq, State.enterStage_p_flt, State.enterStage_regs_rws, State.enterStage_p_sec]
  exact ⟨rfl, rfl, rfl⟩

theorem State.pinsLow_pwr : s.pinsLow.pwr = { s.pwr with lapOut := false, legOut := false } := by
  unfold State.pinsLow
  dsimp only
  split <;> split <;> rfl

/-- The rails are up as a start begins (VCORE with them: log entry 144). -/
theorem State.beginStart_pwr : s.beginStart.pwr =
    { s.pwr with lapOut := false, legOut := false, vcore := true, hbmRail := true, serdes := true, vio := true, vioHold := false
                 waiting := false, shdn := s.hk.latch.isSome } := by
  have hhk : s.pinsLow.hk = s.hk := State.pinsLow_keeps.same .hk rfl
  rw [State.beginStart_eq, State.enterStage_p_pwr]
  unfold State.started
  dsimp only
  rw [hhk, State.pinsLow_pwr]

theorem State.beginStart_fuses : s.beginStart.fuses = s.fuses := State.beginStart_keeps.same .fuses rfl

/- A false start (R320). -/

/-- The state that a false start of another stage leaves before its records. -/
def State.falsely (s : State) (code detail : Nat) : State :=
  { s.stopClocks with
    boot := { s.stopClocks.boot with
      stage := 6, stageTick := s.stopClocks.ticks, fsCode := code, fsStage := s.boot.stage, fsDetail := detail
      warmActive := false }
    tl := { s.stopClocks.tl with on := false }
    fab := { s.stopClocks.fab with vset := 900 } }

theorem State.falseStart_of_stage {code detail : Nat} (h6 : s.boot.stage ≠ 6) :
    Keeps (partMask [.cnt, .evt, .nvm]) (s.falsely code detail) (s.falseStart code detail) := by
  unfold State.falseStart
  rw [if_neg (by simpa using h6)]
  refine Keeps.ite (fun _ => ?_) (fun _ => ?_)
  · refine Keeps.andThen (Keeps.ite (fun _ => ?_) (fun _ => Keeps.refl)) State.revertTrial_keeps rfl
    exact State.journal_keeps.mono rfl
  · refine Keeps.ite (fun _ => ?_) (fun _ => Keeps.refl)
    exact State.journal_keeps.mono rfl

/-- A false start leaves its code, its stage and its detail, with VCORE at its highest. -/
theorem State.falseStart_parts {code detail : Nat} (h6 : s.boot.stage ≠ 6) : (s.falseStart code detail).boot.stage = 6 ∧
    (s.falseStart code detail).boot.fsCode = code ∧ (s.falseStart code detail).boot.fsStage = s.boot.stage ∧
    (s.falseStart code detail).boot.fsDetail = detail ∧ (s.falseStart code detail).fab.vset = 900 := by
  have hkeeps := State.falseStart_of_stage (code := code) (detail := detail) h6
  have hboot : (s.falseStart code detail).boot = (s.falsely code detail).boot := hkeeps.same .boot rfl
  have hfab : (s.falseStart code detail).fab = (s.falsely code detail).fab := hkeeps.same .fab rfl
  rw [hboot, hfab]
  exact ⟨rfl, rfl, rfl, rfl, rfl⟩

/- The end of SB0 (R314). -/

theorem State.doneSb0_out : s.doneSb0.out = s.out ++ [.nvmReset] := by
  unfold State.doneSb0 State.send
  dsimp only
  rw [State.enterStage_p_out]

theorem State.doneSb0_sec : s.doneSb0.sec.idKey = some (identityKey s.fuses.seed) := by
  unfold State.doneSb0
  rw [State.send_sec, State.enterStage_p_sec]
  rfl

theorem State.doneSb0_boot : s.doneSb0.boot.stage = 1 ∧ s.doneSb0.boot.selfOk = true ∧ s.doneSb0.boot.running = s.boot.running := by
  unfold State.doneSb0
  rw [State.send_boot, State.enterStage_boot]
  exact ⟨rfl, rfl, rfl⟩

theorem execSbStageComplete_of_stage0 {r : StageReport} (hrun : s.boot.running = true) (hshut : s.flt.shutTick = none)
    (h0 : s.boot.stage = 0) (hrounds : 3 ≤ s.hk.rounds) : execSbStageComplete r s = match s.sb0Fail r with
      | some (c, d) => .next (if c == 1 then s.thermalStart 2 fsHk else s.falseStart c d)
      | none => .next s.doneSb0 := by
  unfold execSbStageComplete
  rw [if_neg (by simp [hrun, hshut]), h0]
  exact if_neg (by omega)

theorem execSbStageComplete_of_stage4 {r : StageReport} (hrun : s.boot.running = true) (hshut : s.flt.shutTick = none)
    (h4 : s.boot.stage = 4) (hseal : s.boot.sealWhen = .notYet) (hready : s.sb4Ready = true) :
    execSbStageComplete r s = .next s.endSb4 := by
  unfold execSbStageComplete
  rw [if_neg (by simp [hrun, hshut]), h4]
  exact if_pos (by simp [hready, hseal])

theorem execSbStageComplete_of_sb0 {r : StageReport} (hrun : s.boot.running = true) (hshut : s.flt.shutTick = none) (h0 : s.boot.stage = 0)
    (hrounds : 3 ≤ s.hk.rounds) (hok : s.sb0Fail r = none) : execSbStageComplete r s = .next s.doneSb0 := by
  rw [execSbStageComplete_of_stage0 hrun hshut h0 hrounds, hok]

theorem execSbStageComplete_of_sb0Fail {r : StageReport} {c d : Nat} (hrun : s.boot.running = true) (hshut : s.flt.shutTick = none)
    (h0 : s.boot.stage = 0) (hrounds : 3 ≤ s.hk.rounds) (hfail : s.sb0Fail r = some (c, d)) (hc : c ≠ 1) :
    execSbStageComplete r s = .next (s.falseStart c d) := by
  rw [execSbStageComplete_of_stage0 hrun hshut h0 hrounds, hfail]
  exact congrArg _ (if_neg (by simpa using hc))

theorem execSbStageTimeout_of_sb0 {r : StageReport} (hrun : s.boot.running = true) (hshut : s.flt.shutTick = none) (h0 : s.boot.stage = 0)
    (hpast : s.boot.stageTick + 60 * 625000 ≤ s.ticks) (hok : s.sb0Fail r = none) : execSbStageTimeout r s = .next (s.falseStart 4 0) := by
  have hlate : s.past s.boot.stageTick (stageMs s.boot.stage * msT) = true := by
    rw [h0]
    exact decide_eq_true hpast
  unfold execSbStageTimeout
  rw [if_neg (by simp [hrun, hshut, hlate]), h0, hok]
  rfl

/- The seal at the end of SB4 (R319, R344). -/

/-- What a write of the seal's tick records leaves the seal as it is. -/
theorem State.lateTry_seal {x : Nat × Requester × Nat × Word} :
    (s.lateTry x).boot.sealWhen = s.boot.sealWhen ∧ (s.lateTry x).boot.sealSplit = s.boot.sealSplit := by
  unfold State.lateTry
  split
  extract_lets exempt
  split <;> exact ⟨rfl, rfl⟩

theorem State.foldl_lateTry_seal {xs : List (Nat × Requester × Nat × Word)} :
    (xs.foldl State.lateTry s).boot.sealWhen = s.boot.sealWhen ∧ (xs.foldl State.lateTry s).boot.sealSplit = s.boot.sealSplit := by
  induction xs generalizing s with
  | nil => exact ⟨rfl, rfl⟩
  | cons x xs ih =>
    obtain ⟨hwhen, hsplit⟩ := State.lateTry_seal (s := s) (x := x)
    exact ⟨(ih (s := s.lateTry x)).1.trans hwhen, (ih (s := s.lateTry x)).2.trans hsplit⟩

/-- The seal notes what it came by and the split in force. -/
theorem State.seal_boot {why : SealWhen} (h : s.boot.sealWhen = .notYet) :
    (s.seal why).boot.sealWhen = why ∧ (s.seal why).boot.sealSplit = s.split := by
  have hboot (t : State) (n : Nat) : (t.sealSettings n).boot = t.boot := State.sealSettings_keeps.same .boot rfl
  unfold State.seal
  rw [if_neg (by simp [h])]
  dsimp only
  rw [hboot]
  exact State.foldl_lateTry_seal

theorem State.endSb4_of_usable (hplan : (s.seal .endSb4).planWhy s.cfg.initPlan = 0)
    (hscene : (s.seal .endSb4).sceneWhy s.cfg.initScene = 0)
    (hstep : s.tl.stepB = none) : s.endSb4 =
    { s.seal .endSb4 with tl := { (s.seal .endSb4).tl with fullB := some ((s.seal .endSb4).changeAt (s.seal .endSb4).wall) } } := by
  have hcfg : (s.seal .endSb4).cfg = s.cfg := State.seal_keeps.same .cfg rfl
  have htl : (s.seal .endSb4).tl = s.tl := State.seal_keeps.same .tl rfl
  unfold State.endSb4
  dsimp only
  rw [hcfg, hplan, hscene, if_neg (by decide), if_neg (by simp [htl, hstep])]

/- RESTART (R321). -/

theorem wput_go_key (w : Word) : wfld (wput w 0 0 1) 31 16 = wfld w 31 16 := by
  unfold wput wfld Word.of
  have := w.isLt
  simp only [BitVec.toNat_ofNat, Nat.shiftRight_eq_div_pow]
  omega

theorem execRestart_of_key {v : Word} (hkey : wfld v 31 16 = 0x5A3C) (hst : s.boot.stage = 6 ∨ s.boot.stage = 7)
    (hshut : s.flt.shutTick = none) : execRestart v s = .next (State.nvmFreeze { s with boot := { s.boot with restart := true } }) := by
  unfold execRestart State.writeSbCtrl
  rw [if_neg (by rcases hst with h | h <;> simp [wput_go_key, wbit_wput_go, hkey, h, hshut])]

theorem execRestartTakesEffect_of_due (hask : s.boot.restart = true) (hdue : s.nvm.op = none ∨ s.nvm.freezeTick + 5 * 625000 ≤ s.ticks) :
    execRestartTakesEffect s = .next ((s.cutOp.zeroise 3).stopClocks).beginStart := by
  unfold execRestartTakesEffect
  rw [if_neg (by rcases hdue with h | h <;> simp [hask, h, State.past, msT])]

/- The slate (R311). -/

/-- The warm-up buffer that a slate goes to: one not latched, and rather one without the newest frame. -/
def Warm.slateBuf (w : Warm) : Nat :=
  (([0, 1].filter fun i => w.latched != some i && w.newest != some i) ++ ([0, 1].filter fun i => w.latched != some i)).headD 0

theorem headD_lt {l : List Nat} {n : Nat} (hn : 0 < n) (h : ∀ x ∈ l, x < n) : l.headD 0 < n := by
  cases l with
  | nil => exact hn
  | cons x l => exact h x List.mem_cons_self

theorem Warm.slateBuf_lt {w : Warm} : w.slateBuf < 2 := by
  refine headD_lt (by decide) fun x hx => ?_
  simp only [List.mem_append, List.mem_filter] at hx
  rcases hx with ⟨hx, -⟩ | ⟨hx, -⟩ <;> simp at hx <;> omega

/-- Whether a slate read waits or is in flight. -/
def Nvm.slateBusy (n : Nvm) : Bool :=
  n.jobs.any (fun j => match j with | .slate _ => true | _ => false) || (match n.op with | some ⟨.slate _, _⟩ => true | _ => false)

theorem Nvm.slateBusy_of_read {n : Nvm} (hjobs : ∀ j ∈ n.jobs, ∀ k, j ≠ .slate k) (hop : ∀ k f, n.op ≠ some ⟨.slate k, f⟩) :
    n.slateBusy = false := by
  unfold Nvm.slateBusy
  rw [Bool.or_eq_false_iff, List.any_eq_false]
  constructor
  · intro j hj
    cases j with
    | slate k => exact absurd rfl (hjobs _ hj k)
    | _ => simp
  · split
    next k f h => exact absurd h (hop k f)
    · rfl

theorem execSlateLoadDone_of_read {b : WarmBuf} (hload : s.warm.loading = true) (hbusy : s.nvm.slateBusy = false)
    (hb : s.ownerImage.bind slateOf = some b) : execSlateLoadDone s =
    .next { s with warm := { s.warm with bufs := setAt s.warm.bufs s.warm.slateBuf (some b), slate := some s.warm.slateBuf, loading := false
                                         newest := if s.warm.newest == some s.warm.slateBuf then none else s.warm.newest } } := by
  have hgo : ¬ ((!s.warm.loading || s.nvm.slateBusy) = true) := by simp [hload, hbusy]
  unfold execSlateLoadDone
  refine (if_neg hgo).trans ?_
  rw [hb]
  rfl

theorem State.loadSlate_warm : s.loadSlate.warm.present = s.warm.present ∧ s.loadSlate.warm.bufs = s.warm.bufs := by
  unfold State.loadSlate
  split
  · exact ⟨rfl, rfl⟩
  · dsimp only
    split
    · exact ⟨rfl, rfl⟩
    · rw [State.nvmJob_p_warm]
      exact ⟨rfl, rfl⟩

theorem execWarmSourceTimeout_of_late {d : Nat} (hp : s.warm.present = true) (hd : s.warm.done = some d) (hlate : d + 625000000 ≤ s.ticks) :
    execWarmSourceTimeout s = .next (State.loadSlate { s with warm := { s.warm with present := false } }) := by
  unfold execWarmSourceTimeout
  rw [hd]
  exact if_pos (by simp [hp, State.past, secT, hlate])

end

/-- Settles O25: the stages by `State.doneSb0_boot`, `State.falseStart_parts` and `State.seal_boot`, a restart by
`State.beginStart_boot`. -/
theorem startingStages : Obligations.StartingStages := by
  intro s
  refine ⟨fun r hrun hshut h0 hrounds => ⟨fun hok => ?_, fun c d hfail hc => ?_⟩, fun r hrun hshut h4 hseal hready hstep hplan hscene => ?_,
    fun r hrun hshut h0 hpast hok => ?_, fun v hkey hst hshut => ?_, fun hask hdue => ?_, fun b hload hjobs hop hlen hb => ?_,
    fun d hp hd hlate => ?_⟩
  · obtain ⟨hstage, hself, hkept⟩ := State.doneSb0_boot (s := s)
    exact ⟨_, execSbStageComplete_of_sb0 hrun hshut h0 hrounds hok, hstage, hself, hkept.trans hrun, State.doneSb0_sec, State.doneSb0_out,
      State.doneSb0_keeps.only_parts rfl⟩
  · obtain ⟨hstage, hcode, hwhere, hdetail, hvset⟩ := State.falseStart_parts (s := s) (code := c) (detail := d) (by omega)
    exact ⟨_, execSbStageComplete_of_sb0Fail hrun hshut h0 hrounds hfail hc, hstage, hcode, hwhere.trans h0, hdetail, hvset⟩
  · obtain ⟨hwhen, hsplit⟩ := State.seal_boot (why := .endSb4) hseal
    refine ⟨_, execSbStageComplete_of_stage4 hrun hshut h4 hseal hready, ?_⟩
    rw [State.endSb4_of_usable hplan hscene hstep]
    have hkeeps : Keeps (partMask [.rws, .cnt, .boot, .tb, .tl, .ports, .pwr, .out]) s (s.seal .endSb4) := State.seal_keeps.mono rfl
    exact ⟨hwhen, hsplit, rfl, (hkeeps.andThen Keeps.tl rfl).only_parts rfl⟩
  · obtain ⟨hstage, hcode, -, -, hvset⟩ := State.falseStart_parts (s := s) (code := 4) (detail := 0) (by omega)
    exact ⟨_, execSbStageTimeout_of_sb0 hrun hshut h0 hpast hok, hstage, hcode, hvset⟩
  · have hexec : exec (.restart v) s = _ := execRestart_of_key hkey hst hshut
    exact ⟨_, hexec, rfl, rfl, rfl, rfl, exec_only hexec⟩
  · obtain ⟨hrun, hstage, hseal, hask'⟩ := State.beginStart_boot (s := (s.cutOp.zeroise 3).stopClocks)
    obtain ⟨hflt, hrws, hkey⟩ := State.beginStart_reset (s := (s.cutOp.zeroise 3).stopClocks)
    refine ⟨_, execRestartTakesEffect_of_due hask hdue, hrun, hstage, hseal, hask', hflt, hrws, hkey, ?_⟩
    rw [State.beginStart_fuses, State.stopClocks_p_fuses, State.zeroise_p_fuses, State.cutOp_p_fuses]
  · refine ⟨_, execSlateLoadDone_of_read hload (Nvm.slateBusy_of_read hjobs hop) hb, rfl, ⟨s.warm.slateBuf, Warm.slateBuf_lt, rfl, ?_,
      ?_⟩, Keeps.warm.only_parts rfl⟩
    · have hlt : s.warm.slateBuf < s.warm.bufs.length := hlen.symm ▸ Warm.slateBuf_lt
      simp [setAt, hlt]
    · dsimp only
      split
      · exact nofun
      next h => exact fun h' => h (by simp [h'])
  · obtain ⟨hpresent, hbufs⟩ := State.loadSlate_warm (s := { s with warm := { s.warm with present := false } })
    have hkeeps : Keeps (partMask [.nvm, .warm]) s (State.loadSlate { s with warm := { s.warm with present := false } }) :=
      (Keeps.warm.mono rfl).andThen State.loadSlate_keeps rfl
    exact ⟨_, execWarmSourceTimeout_of_late hp hd hlate, hpresent, hbufs, hkeeps.only_parts rfl⟩

end Sys2Proof.Machine
end

section
/-! SUPPORT. The package: PWRGD_OUT brought up to date as the feeds and the reference clock change, the loss of power, RESET_N and the
test port (R465 to R475, R484). -/

namespace Sys2Proof.Machine

section
variable {s : State}

/- PWRGD_OUT (R467). -/

/-- PWRGD_OUT driven to its level. -/
def State.pwrgdShown (s : State) : State :=
  ({ s with pwr := { s.pwr with pwrgd := s.powerGood } }).send (.pin pinPwrgd s.powerGood)

theorem State.setPwrgd_of_same (h : s.powerGood = s.pwr.pwrgd) : s.setPwrgd = s := by
  unfold State.setPwrgd
  exact if_pos (by simp [h])

theorem State.setPwrgd_of_rise (hg : s.powerGood = true) (hp : s.pwr.pwrgd = false) :
    s.setPwrgd = if s.pwr.waiting then s.pwrgdShown.beginStart else s.pwrgdShown := by
  have hne : ¬ ((s.powerGood == s.pwr.pwrgd) = true) := by simp [hg, hp]
  unfold State.setPwrgd
  exact (if_neg hne).trans (if_pos hg)

theorem State.setPwrgd_of_fall (hg : s.powerGood = false) (hp : s.pwr.pwrgd = true) : s.setPwrgd = s.pwrgdShown.unstart := by
  have hne : ¬ ((s.powerGood == s.pwr.pwrgd) = true) := by simp [hg, hp]
  unfold State.setPwrgd
  exact (if_neg hne).trans (if_neg (by simp [hg]))

/-- A start not begun in this tick stands. -/
theorem State.unstart_of_earlier (h : s.boot.startTick ≠ s.ticks) : s.unstart = s := by
  unfold State.unstart
  exact if_neg (by simp [h])

/-- A start begun in this tick does not count. -/
theorem State.unstart_of_now (hr : s.boot.running = true) (h0 : s.boot.stage = 0) (h : s.boot.startTick = s.ticks) :
    s.unstart = { s.dark with pwr := { s.dark.pwr with waiting := true, shdn := s.dark.hk.latch.isSome } } := by
  unfold State.unstart
  exact if_pos (by simp [hr, h0, h])

/-- What PWRGD_OUT rests on stays as it is brought up to date. -/
def State.SameSupply (s t : State) : Prop :=
  t.pwr.feedA = s.pwr.feedA ∧ t.pwr.feedB = s.pwr.feedB ∧ t.tb.refClk = s.tb.refClk ∧ t.tb.oscOnly = s.tb.oscOnly

theorem State.beginStart_supply : s.SameSupply s.beginStart ∧ s.beginStart.pwr.pwrgd = s.pwr.pwrgd := by
  have htb : s.beginStart.tb = s.pinsLow.fresh.tb := by
    rw [State.beginStart_eq, State.enterStage_p_tb]
    rfl
  have hpins : s.pinsLow.tb = s.tb := State.pinsLow_keeps.same .tb rfl
  unfold State.SameSupply
  rw [State.beginStart_pwr, htb]
  unfold State.fresh
  rw [hpins]
  exact ⟨⟨rfl, rfl, rfl, rfl⟩, rfl⟩

theorem State.unstart_supply : s.SameSupply s.unstart ∧ s.unstart.pwr.pwrgd = s.pwr.pwrgd := by
  unfold State.unstart State.SameSupply
  split <;> exact ⟨⟨rfl, rfl, rfl, rfl⟩, rfl⟩

/-- PWRGD_OUT is high exactly when a feed is present and REF_CLK runs. -/
theorem State.setPwrgd_supply : s.SameSupply s.setPwrgd ∧ s.setPwrgd.pwr.pwrgd = s.powerGood := by
  have hshown : s.SameSupply s.pwrgdShown ∧ s.pwrgdShown.pwr.pwrgd = s.powerGood := ⟨⟨rfl, rfl, rfl, rfl⟩, rfl⟩
  rcases hg : s.powerGood with _ | _ <;> rcases hp : s.pwr.pwrgd with _ | _
  · rw [State.setPwrgd_of_same (hg.trans hp.symm)]
    exact ⟨⟨rfl, rfl, rfl, rfl⟩, hp⟩
  · obtain ⟨hsame, hpwrgd⟩ := State.unstart_supply (s := s.pwrgdShown)
    rw [State.setPwrgd_of_fall hg hp]
    exact ⟨hsame, hpwrgd.trans (hshown.2.trans hg)⟩
  · rw [State.setPwrgd_of_rise hg hp]
    obtain ⟨hsame, hpwrgd⟩ := State.beginStart_supply (s := s.pwrgdShown)
    split
    · exact ⟨hsame, hpwrgd.trans (hshown.2.trans hg)⟩
    · exact ⟨hshown.1, hshown.2.trans hg⟩
  · rw [State.setPwrgd_of_same (hg.trans hp.symm)]
    exact ⟨⟨rfl, rfl, rfl, rfl⟩, hp⟩

/-- With no release waiting and no start begun in this tick the starting blocks stay as they are. -/
theorem State.setPwrgd_boot (hw : s.powerGood = true → s.pwr.waiting = false) (ht : s.boot.startTick ≠ s.ticks) :
    s.setPwrgd.boot = s.boot := by
  rcases hg : s.powerGood with _ | _ <;> rcases hp : s.pwr.pwrgd with _ | _
  · rw [State.setPwrgd_of_same (hg.trans hp.symm)]
  · rw [State.setPwrgd_of_fall hg hp, State.unstart_of_earlier (s := s.pwrgdShown) ht]
    rfl
  · rw [State.setPwrgd_of_rise hg hp, if_neg (by simp [hw hg])]
    rfl
  · rw [State.setPwrgd_of_same (hg.trans hp.symm)]

/- The feeds (R465, R466). -/

theorem State.setFeed_shown {b present : Bool} :
    (if b then (s.setFeed b present).pwr.feedB else (s.setFeed b present).pwr.feedA) = present := by
  cases b <;> rfl

theorem State.setFeed_kept {b present : Bool} : (s.setFeed b present).pwr.pwrgd = s.pwr.pwrgd ∧
    (s.setFeed b present).pwr.waiting = s.pwr.waiting ∧ (s.setFeed b present).tb = s.tb ∧ (s.setFeed b present).boot = s.boot ∧
    (s.setFeed b present).ticks = s.ticks := by
  cases b <;> exact ⟨rfl, rfl, rfl, rfl, rfl⟩

theorem State.setFeed_powerGood {b : Bool} : (s.setFeed b true).powerGood = s.tb.refClk := by
  cases b <;> simp [State.setFeed, State.powerGood]

theorem State.setFeed_powerLost {b : Bool} (h : (if b then s.pwr.feedA else s.pwr.feedB) = false) :
    (s.setFeed b false).pwr.feedA = false ∧ (s.setFeed b false).pwr.feedB = false ∧ (s.setFeed b false).powerGood = false := by
  cases b
  · exact ⟨rfl, h, by simpa [State.setFeed, State.powerGood] using fun h' => absurd h' (by simpa using h)⟩
  · exact ⟨h, rfl, by simpa [State.setFeed, State.powerGood] using fun h' => absurd h' (by simpa using h)⟩

/-- The last feed gone: the shutdown latch is lost (R436, R469). -/
theorem execFeedAbsent_of_last {b : Bool} (h : (if b then s.pwr.feedA else s.pwr.feedB) = false) : execFeedAbsent b s =
    .next { (s.setFeed b false).setPwrgd with hk := { (s.setFeed b false).setPwrgd.hk with latch := none }
                                              pwr := { (s.setFeed b false).setPwrgd.pwr with shdn := false } } := by
  obtain ⟨hA, hB, -⟩ := State.setFeed_powerLost h
  obtain ⟨⟨hA', hB', -⟩, -⟩ := State.setPwrgd_supply (s := s.setFeed b false)
  unfold execFeedAbsent
  exact if_neg (by simp [hA', hB', hA, hB])

/-- A feed that falls leaves it shown absent, whichever of the two stays. -/
theorem execFeedAbsent_shown {b : Bool} : ∃ t, execFeedAbsent b s = .next t ∧ (if b then t.pwr.feedB else t.pwr.feedA) = false := by
  obtain ⟨⟨hA, hB, -⟩, -⟩ := State.setPwrgd_supply (s := s.setFeed b false)
  have hshown : (if b then (s.setFeed b false).setPwrgd.pwr.feedB else (s.setFeed b false).setPwrgd.pwr.feedA) = false := by
    rw [hA, hB]
    exact State.setFeed_shown
  unfold execFeedAbsent
  dsimp only
  split
  · exact ⟨_, rfl, hshown⟩
  · exact ⟨_, rfl, hshown⟩

/-- The device as the loss of power leaves it. -/
def State.lostPower (s : State) : State :=
  { s.cutOp.stopClocks.linkDown.pinsLow.dark with
    pwr := { s.cutOp.stopClocks.linkDown.pinsLow.dark.pwr with waiting := s.cutOp.stopClocks.linkDown.pinsLow.dark.pwr.resetN },
    hk := .reset }

/-- Every volatile part is as after reset, and every rail is down. -/
theorem State.lostPower_parts : s.lostPower.boot = State.reset.boot ∧ s.lostPower.regs = State.reset.regs ∧
    s.lostPower.flt = State.reset.flt ∧ s.lostPower.evt = State.reset.evt ∧ s.lostPower.ports = State.reset.ports ∧
    s.lostPower.tiles = State.reset.tiles ∧ s.lostPower.mem = State.reset.mem ∧ s.lostPower.hk = State.reset.hk ∧
    s.lostPower.fuses = s.fuses ∧ s.lostPower.pwr.vcore = false ∧ s.lostPower.pwr.vio = false := by
  have hfuses : s.cutOp.stopClocks.linkDown.pinsLow.fuses = s.fuses := by
    refine (State.pinsLow_keeps.same .fuses rfl).trans ?_
    rw [State.linkDown_p_fuses, State.stopClocks_p_fuses, State.cutOp_p_fuses]
  unfold State.lostPower State.dark State.fresh Power.reset
  dsimp only
  exact ⟨rfl, rfl, rfl, rfl, rfl, rfl, rfl, rfl, hfuses, rfl, rfl⟩

theorem execPowerLoss_of_absent (hA : s.pwr.feedA = false) (hB : s.pwr.feedB = false) : execPowerLoss s = .next s.lostPower := by
  unfold execPowerLoss
  exact if_neg (by simp [hA, hB])

/- The reference clock (R467, R475). -/

theorem execRefClkStop_of_running (h : s.tb.refClk = true) : execRefClkStop s =
    if (State.setPwrgd { s with tb := { s.tb with refClk := false } }).inSb0
    then .next ((State.setPwrgd { s with tb := { s.tb with refClk := false } }).falseStart 4 0)
    else .next { State.setPwrgd { s with tb := { s.tb with refClk := false } } with
      tb := { (State.setPwrgd { s with tb := { s.tb with refClk := false } }).tb with
        oscOnly := (State.setPwrgd { s with tb := { s.tb with refClk := false } }).boot.running } } := by
  unfold execRefClkStop
  exact if_neg (by simp [h])

theorem State.setPwrgd_ticks : s.setPwrgd.ticks = s.ticks := by
  exact State.setPwrgd_keeps.lasting.ticks

theorem State.inSb0_congr {t : State} (hb : t.boot = s.boot) (ht : t.ticks = s.ticks) : t.inSb0 = s.inSb0 := by
  unfold State.inSb0
  rw [hb, ht]

/-- A false start of SB0 leaves the lower code (Table 12.6). -/
theorem State.falseStart_sb0 {code detail : Nat} (h : s.inSb0 = true) : (s.falseStart code detail).boot.stage = 6 ∧
    (s.boot.stage = 0 → (s.falseStart code detail).boot.fsCode = code) ∧
    (s.boot.stage = 6 → 0 < code → (s.falseStart code detail).boot.fsCode = if code < s.boot.fsCode then code else s.boot.fsCode) := by
  by_cases h6 : s.boot.stage = 6
  · have htick : s.boot.stageTick = s.ticks := by
      unfold State.inSb0 at h
      simp [h6] at h
      obtain ⟨-, -, htick⟩ := h
      exact htick
    unfold State.falseStart
    rw [if_pos (by simp [h6])]
    refine ⟨?_, fun h0 => by omega, fun _ hc => ?_⟩
    · split
      · exact h6
      · exact h6
    · by_cases hlow : code < s.boot.fsCode
      · rw [if_pos hlow, if_pos (by simp [hlow, htick]; omega)]
      · rw [if_neg hlow, if_neg (by simp [hlow])]
  · obtain ⟨hstage, hcode, -⟩ := State.falseStart_parts (code := code) (detail := detail) h6
    exact ⟨hstage, fun _ => hcode, fun h => absurd h h6⟩

/- RESET_N (R467, R468). -/

theorem execResetRelease_of_low (h : s.pwr.resetN = false) : execResetRelease s =
    if s.pwr.pwrgd then .next (State.cutOp { s with pwr := { s.pwr with resetN := true } }).beginStart
    else .next { s with pwr := { s.pwr with resetN := true, waiting := true } } := by
  unfold execResetRelease
  exact if_neg (by simp [h])

/-- The device as it is stopped by RESET_N, its rails still up. -/
def State.resetStopped (s : State) : State :=
  (State.nvmFreeze (State.pinsLow (State.linkDown (State.stopClocks
    { s with pwr := { s.pwr with resetN := false, waiting := false } })))).zeroise 3

theorem execResetAssert_of_running (h : s.pwr.resetN = true) (hr : s.boot.running = true) (hs : s.flt.shutTick = none) :
    execResetAssert s = .next (s.resetStopped.dark.heldNvm s.resetStopped.nvm) := by
  unfold execResetAssert
  refine (if_neg (by simp [h])).trans (if_neg ?_)
  simp [hr, hs]

theorem State.resetStopped_kept : s.resetStopped.pwr.resetN = false ∧ s.resetStopped.fuses = s.fuses := by
  have hpwr (u : State) : u.pinsLow.nvmFreeze.pwr.resetN = u.pwr.resetN := by
    rw [State.nvmFreeze_p_pwr, State.pinsLow_pwr]
  have hfuses (u : State) : u.pinsLow.nvmFreeze.fuses = u.fuses := by
    rw [State.nvmFreeze_p_fuses]
    exact State.pinsLow_keeps.same .fuses rfl
  unfold State.resetStopped
  rw [State.zeroise_p_pwr, State.zeroise_p_fuses, hpwr, hfuses, State.linkDown_p_pwr, State.linkDown_p_fuses, State.stopClocks_p_pwr,
    State.stopClocks_p_fuses]
  exact ⟨rfl, rfl⟩

theorem State.reset_running : State.reset.boot.running = false := by
  unfold State.reset Boot.reset
  dsimp only

/-- A device held in reset has nothing volatile left, and no rail but the always-on one and that of the NVM in use. -/
theorem State.heldNvm_dark {n : Nvm} : (s.dark.heldNvm n).pwr.resetN = s.pwr.resetN ∧ (s.dark.heldNvm n).boot.running = false ∧
    (s.dark.heldNvm n).pwr.vcore = false ∧ (s.dark.heldNvm n).pwr.hbmRail = false ∧ (s.dark.heldNvm n).pwr.serdes = false ∧
    (s.dark.heldNvm n).sec.idKey = none ∧ (s.dark.heldNvm n).flt = State.reset.flt ∧ (s.dark.heldNvm n).fuses = s.fuses := by
  unfold State.heldNvm State.dark State.fresh Power.reset Sec.reset
  dsimp only
  exact ⟨rfl, State.reset_running, rfl, rfl, rfl, rfl, rfl, rfl⟩

end

/-- Settles O24: PWRGD_OUT by `State.setPwrgd_supply` and `State.setPwrgd_boot`, a start by `State.beginStart_boot` (VCORE up as SB0
begins is log entry 144). -/
theorem powerAndReset : Obligations.PowerAndReset := by
  intro s
  refine ⟨fun b => ?_, fun b => ?_, fun hA hB => ?_, ?_, fun href ht => ?_, fun hlow => ?_, fun hhigh hrun hshut => ?_,
    ⟨_, rfl, rfl, Keeps.pwr.only_parts rfl⟩, fun htrst => ⟨?_, fun pins => ?_⟩⟩
  · obtain ⟨hpwrgd, hwait, htb, hboot, hticks⟩ := State.setFeed_kept (s := s) (b := b) (present := true)
    obtain ⟨⟨hA, hB, -⟩, hgood⟩ := State.setPwrgd_supply (s := s.setFeed b true)
    refine ⟨_, rfl, ?_, hgood.trans State.setFeed_powerGood, fun hp href hw => ?_, fun hw ht => ?_⟩
    · rw [hA, hB]
      exact State.setFeed_shown
    · rw [State.setPwrgd_of_rise (State.setFeed_powerGood.trans href) (hpwrgd.trans hp), if_pos (hwait.trans hw)]
      obtain ⟨hrun, hstage, -⟩ := State.beginStart_boot (s := (s.setFeed b true).pwrgdShown)
      exact ⟨hrun, hstage, congrArg Power.vcore State.beginStart_pwr⟩
    · exact (State.setPwrgd_boot (fun _ => hwait.trans hw) (by rw [hboot, hticks]; exact ht)).trans hboot
  · by_cases hlast : (if b then s.pwr.feedA else s.pwr.feedB) = false
    · obtain ⟨hpwrgd, -, -, hboot, hticks⟩ := State.setFeed_kept (s := s) (b := b) (present := false)
      obtain ⟨hA, hB, hlost⟩ := State.setFeed_powerLost hlast
      obtain ⟨⟨hA', hB', -⟩, hgood⟩ := State.setPwrgd_supply (s := s.setFeed b false)
      refine ⟨_, execFeedAbsent_of_last hlast, ?_, fun _ => ⟨hgood.trans hlost, rfl, rfl, fun ht => ?_, fun hp hrun h0 ht => ?_⟩⟩
      · dsimp only
        rw [hA', hB']
        exact State.setFeed_shown
      · exact (State.setPwrgd_boot (fun h => absurd h (by simp [hlost])) (by rw [hboot, hticks]; exact ht)).trans hboot
      · rw [State.setPwrgd_of_fall hlost (hpwrgd.trans hp), State.unstart_of_now (s := (s.setFeed b false).pwrgdShown)
          (congrArg Boot.running hboot |>.trans hrun) (congrArg Boot.stage hboot |>.trans h0)
          ((congrArg Boot.startTick hboot).trans (ht.trans hticks.symm))]
        exact ⟨rfl, rfl⟩
    · obtain ⟨t, ht, hshown⟩ := execFeedAbsent_shown (s := s) (b := b)
      exact ⟨t, ht, hshown, fun h => absurd h hlast⟩
  · exact ⟨_, execPowerLoss_of_absent hA hB, State.lostPower_parts⟩
  · obtain ⟨⟨-, -, href, hosc⟩, hgood⟩ := State.setPwrgd_supply (s := { s with tb := { s.tb with refClk := true, oscOnly := false } })
    refine ⟨_, rfl, href, hosc, hgood.trans ?_⟩
    exact Bool.and_true _
  · obtain ⟨⟨-, -, hclk, -⟩, hgood⟩ := State.setPwrgd_supply (s := { s with tb := { s.tb with refClk := false } })
    have hlost : State.powerGood { s with tb := { s.tb with refClk := false } } = false := Bool.and_false _
    have hboot : (State.setPwrgd { s with tb := { s.tb with refClk := false } }).boot = s.boot :=
      State.setPwrgd_boot (fun h => absurd h (by simp [hlost])) ht
    have hin : (State.setPwrgd { s with tb := { s.tb with refClk := false } }).inSb0 = s.inSb0 :=
      State.inSb0_congr hboot State.setPwrgd_ticks
    have hstop : exec .refClkStop s = _ := execRefClkStop_of_running href
    generalize State.setPwrgd { s with tb := { s.tb with refClk := false } } = u at hclk hgood hboot hin hstop
    rcases hsb0 : s.inSb0 with _ | _
    · rw [if_neg (by simp [hin, hsb0])] at hstop
      exact ⟨_, hstop, hclk, hgood.trans hlost, nofun, fun _ => ⟨congrArg Boot.running hboot, hboot⟩⟩
    · rw [if_pos (hin.trans hsb0)] at hstop
      obtain ⟨hstage, hcode, hlower⟩ := State.falseStart_sb0 (code := 4) (detail := 0) (hin.trans hsb0)
      rw [hboot] at hcode hlower
      refine ⟨_, hstop, ?_, ?_, fun _ => ⟨hstage, hcode, fun h6 => hlower h6 (by decide)⟩, nofun⟩
      · rw [State.falseStart_p_tb]
        exact hclk
      · rw [State.falseStart_p_pwr]
        exact hgood.trans hlost
  · have hrelease : exec .resetRelease s = _ := execResetRelease_of_low hlow
    rcases hp : s.pwr.pwrgd with _ | _
    · rw [if_neg (by simp [hp])] at hrelease
      exact ⟨_, hrelease, rfl, nofun, fun _ => ⟨rfl, rfl⟩⟩
    · rw [if_pos hp] at hrelease
      obtain ⟨hrun, hstage, hseal, -⟩ := State.beginStart_boot (s := State.cutOp { s with pwr := { s.pwr with resetN := true } })
      obtain ⟨hflt, hrws, -⟩ := State.beginStart_reset (s := State.cutOp { s with pwr := { s.pwr with resetN := true } })
      refine ⟨_, hrelease, ?_, fun _ => ⟨hrun, hstage, hseal, congrArg Power.vcore State.beginStart_pwr, hflt, hrws⟩, nofun⟩
      refine (congrArg Power.resetN State.beginStart_pwr).trans ?_
      rw [State.cutOp_p_pwr]
  · obtain ⟨hreset, hfuses⟩ := State.resetStopped_kept (s := s)
    obtain ⟨hpin, hrunning, hvcore, hhbm, hserdes, hkey, hflt, hkept⟩ := State.heldNvm_dark (s := s.resetStopped) (n := s.resetStopped.nvm)
    exact ⟨_, execResetAssert_of_running hhigh hrun hshut, hpin.trans hreset, hrunning, hvcore, hhbm, hserdes, hkey, hflt,
      hkept.trans hfuses⟩
  · have hexec : exec (.debugTapAccess .ident) s = .next { s with pwr := { s.pwr with tapIr := tapIdent } } := if_pos htrst
    exact ⟨_, hexec, rfl, Keeps.pwr.only_parts rfl⟩
  · have hexec : exec (.debugTapAccess (.scan pins)) s = .next (State.send { s with pwr := { s.pwr with tapIr := tapScan } } (.tap pins)) :=
      if_pos htrst
    have hkeeps : Keeps (partMask [.pwr, .out]) s (State.send { s with pwr := { s.pwr with tapIr := tapScan } } (.tap pins)) :=
      (Keeps.pwr.mono rfl).andThen State.send_keeps rfl
    exact ⟨_, hexec, rfl, rfl, hkeeps.only_parts rfl⟩

end Sys2Proof.Machine
end

section
/-! SUPPORT. A relay's standby: its line signatures compared (R418), its chain delays (R412), and the pairing of its ports (R409). -/

namespace Sys2Proof.Machine

section
variable {s : State} {lap leg p q line sig : Nat}

/- Line signatures (R418). -/

/-- The unit's own signature of a line in a lap. -/
def State.ownLine (s : State) (lap leg p q line : Nat) : Option LineSig :=
  s.rl.sigs.find? fun x => x.port == p && x.pos == q && x.leg == leg && x.line == line && x.lap == lap

/-- Whether a kept difference is one of a line. -/
def LineDiff.isAt (p q leg line : Nat) (d : LineDiff) : Bool := d.port == p && d.pos == q && d.leg == leg && d.line == line

/-- The laps in a row in which a line has differed, this one counted. -/
def State.lineRun (s : State) (lap leg p q line : Nat) : Nat :=
  match s.rl.diffs.find? (LineDiff.isAt p q leg line) with
  | some d => if (d.lap + 1) % 2 ^ 32 == lap then d.runs + 1 else 1
  | none => 1

/-- The state with a line's difference counted and kept. -/
def State.lineDiffers (s : State) (lap leg p q line : Nat) : State :=
  (s.bump Reg.relaySigMismatches).modRl fun r =>
    { r with diffs := (r.diffs.filter fun d => !(d.isAt p q leg line)) ++ [⟨p, q, leg, line, lap, s.lineRun lap leg p q line⟩] }

theorem State.compareLine_of_none (h : s.ownLine lap leg p q line = none) : s.compareLine lap leg p q line sig = s := by
  unfold State.ownLine at h
  unfold State.compareLine
  rw [h]

theorem State.compareLine_of_equal {o : LineSig} (h : s.ownLine lap leg p q line = some o) (hs : o.sig = sig) :
    s.compareLine lap leg p q line sig = s.modRl fun r =>
      { r with diffs := (r.diffs.map fun d => if d.isAt p q leg line then { d with runs := 0 } else d).filter fun d =>
        (lap + 2 ^ 32 - d.lap) % 2 ^ 32 < 3 } := by
  unfold State.ownLine at h
  unfold State.compareLine
  rw [h]
  exact if_pos (beq_iff_eq.2 hs)

theorem State.compareLine_of_differs {o : LineSig} (h : s.ownLine lap leg p q line = some o) (hs : o.sig ≠ sig) :
    s.compareLine lap leg p q line sig = if s.lineRun lap leg p q line == 3 then
        ((s.lineDiffers lap leg p q line).modRl fun r => { r with fit := false }).evFault Ev.relaySigMismatch Fk.relaySigMismatch fsRelay
          [p, q, leg, line]
      else s.lineDiffers lap leg p q line := by
  unfold State.ownLine at h
  unfold State.compareLine
  rw [h]
  exact if_neg (by simpa using hs)

theorem State.lineDiffers_keeps : Keeps (partMask [.cnt, .rl]) s (s.lineDiffers lap leg p q line) :=
  (State.bump_keeps.mono rfl).andThen State.modRl_keeps rfl

/-- The lines of a SIGS message compared one by one. -/
def State.compareLines (b : List Byte) (s : State) : State :=
  (List.range (min (leAt b 6 2) ((b.length - 8) / 8))).foldl (fun s i =>
    match s.ownPlace (leAt b 5 1) (leAt b (8 + 8 * i) 1) with
    | some (p, q) => s.compareLine (leAt b 0 4) (leAt b 4 1) p q (leAt b (9 + 8 * i) 1) (leAt b (12 + 8 * i) 4)
    | none => s) s

theorem execRelaySigsRx_eq {d : List Byte} : execRelaySigsRx d s = .next (s.fromActive 0xC7 d State.compareLines) := by
  have hline (i : Nat) : 8 + 8 * i + 1 = 9 + 8 * i := by omega
  have hsig (i : Nat) : 8 + 8 * i + 4 = 12 + 8 * i := by omega
  refine congrArg (fun f => Host.Outcome.next (s.fromActive 0xC7 d f)) (funext fun b => funext fun s => ?_)
  unfold State.compareLines
  simp only [hline, hsig] <;> rfl

/-- The deltas of a DELAYS message kept for the partner's port, and applied to the ports paired with it. -/
def State.takeDeltas (b : List Byte) (s : State) : State :=
  let x := s.modRport (leAt b 0 1) fun r => { r with deltas := (List.range (min 33 (leAt b 1 1 + 1))).map fun h => leAt b (4 + 2 * h) 2 }
  (idxs 16 fun p => (x.rport p).paired && (x.rport p).partner == leAt b 0 1).foldl State.applyDeltas x

theorem execRelayDelaysRx_eq {d : List Byte} : execRelayDelaysRx d s = .next (s.fromActive 0xC8 d State.takeDeltas) := rfl

/-- The partner's census of a port noted, with the placements that it still may have. -/
def State.takeReady (b : List Byte) (s : State) : State :=
  s.modRport (leAt b 0 1) fun r => { r with ready := some (leAt b 1 1), places := r.places.filter fun x => x.1 < leAt b 1 1 }

theorem execRelayCensusReadyRx_eq {d : List Byte} :
    execRelayCensusReadyRx d s = .next (s.fromActive 0xC9 d fun b s => (State.takeReady b s).startShared.judgePairs) := rfl

/-- The placement of a partner's tile noted. -/
def State.takePlace (b : List Byte) (s : State) : State :=
  s.modRport (leAt b 0 1) fun r =>
    { r with places := (r.places.filter (·.1 != leAt b 1 1)) ++ [(leAt b 1 1, (List.range 7).map fun i => Word.of (leAt b (8 + 4 * i) 4))] }

theorem execRelayPlaceRx_eq {d : List Byte} :
    execRelayPlaceRx d s = .next (s.fromActive 0xCB d fun b s => (State.takePlace b s).judgePairs) := rfl

/- Chain delays (R412). -/

theorem standbyDelays_length (d0 : Nat) (ts : List Tile) (ds : List Nat) : (standbyDelays d0 ts ds).length = ts.length := by
  induction ts generalizing d0 ds with
  | nil => rfl
  | cons t ts ih => exact congrArg (· + 1) (ih ..)

theorem standbyDelays_head {d0 : Nat} {ts : List Tile} {ds : List Nat} (h : ts ≠ []) : (standbyDelays d0 ts ds)[0]? = some d0 := by
  cases ts with
  | nil => exact absurd rfl h
  | cons t ts => rfl

/-- Each tile's delay is that of the one before it, with its repeat latency and the hop between them. -/
theorem standbyDelays_succ {d0 : Nat} {ts : List Tile} {ds : List Nat} {q : Nat} {t : Tile} (ht : ts[q]? = some t)
    (hq : q + 1 < ts.length) :
    (standbyDelays d0 ts ds)[q + 1]? = (standbyDelays d0 ts ds)[q]?.map fun x => x + t.repeatLat + ds.getD q 0 := by
  induction ts generalizing d0 ds q with
  | nil => exact nomatch ht
  | cons u ts ih =>
    cases q with
    | zero =>
      obtain rfl : u = t := Option.some.inj ht
      have hrest : ts ≠ [] := List.ne_nil_of_length_pos (by simpa using hq)
      have hhead : ds.headD 0 = ds.getD 0 0 := by cases ds <;> rfl
      rw [← hhead]
      exact standbyDelays_head hrest
    | succ q =>
      have htail : ds.tail.getD q 0 = ds.getD (q + 1) 0 := by cases ds <;> simp
      rw [← htail]
      exact ih (d0 := d0 + u.repeatLat + ds.headD 0) (ds := ds.tail) ht (by simpa using hq)

/- Pairing (R409). -/

theorem State.judgePair_of_closed (h : s.rl.role ≠ .standby ∨ s.shared p = false ∨ (s.rport p).paired = true ∨
    (s.port p).census.phase ≠ .done) : s.judgePair p = s := by
  unfold State.judgePair
  exact if_pos (by rcases h with h | h | h | h <;> simp [h])

/-- A standby's shared port whose census is done and that is not judged yet. -/
def State.Judgeable (s : State) (p : Nat) : Prop :=
  s.rl.role = .standby ∧ s.shared p = true ∧ (s.rport p).paired = false ∧ (s.rport p).unpaired = false ∧
    (s.port p).census.phase = .done ∧ (s.port p).census.pass ≠ 1

/-- On a COLD unit a port pairs at once, with the partner's port of its number (log entry 105). -/
theorem State.judgePair_of_cold (h : s.Judgeable p) (hc : s.rl.cold = true) :
    s.judgePair p = s.modRport p fun r => { r with paired := true, partner := p } := by
  obtain ⟨hrole, hshared, hpaired, hunpaired, hdone, hpass⟩ := h
  unfold State.judgePair
  refine (if_neg ?_).trans (if_pos hc)
  simp [hrole, hshared, hpaired, hunpaired, hdone, hpass]

/-- Otherwise it pairs with the partner's port whose placements fit, by those alone (log entry 106). -/
theorem State.judgePair_of_partner {k : Nat} (h : s.Judgeable p) (hc : s.rl.cold = false) (hk : s.partnerPort p = some k) :
    s.judgePair p = (s.modRport p fun r => { r with paired := true, partner := k }).normalPort p := by
  obtain ⟨hrole, hshared, hpaired, hunpaired, hdone, hpass⟩ := h
  unfold State.judgePair
  refine (if_neg ?_).trans ((if_neg (by simp [hc])).trans ?_)
  · simp [hrole, hshared, hpaired, hunpaired, hdone, hpass]
  · rw [hk]

theorem State.rport_modRport_same {f : RPort → RPort} (hp : p < s.rl.ports.length) : (s.modRport p f).rport p = f (s.rport p) :=
  (State.rport_modRport s p p f).trans (if_pos ⟨rfl, hp⟩)

theorem State.normalPort_rport {k : Nat} : (s.normalPort p).rport k = s.rport k := rfl

/-- The words a tile's placement has in a PLACE message. -/
def Cfg.placeWords (c : Cfg) (t : Tile) : List Word := match c.placeOf t with | some x => x.words | none => List.replicate 7 0

theorem Cfg.placeWords_of_some {c : Cfg} {t : Tile} {x : Placement} (h : c.placeOf t = some x) : c.placeWords t = x.words := by
  unfold Cfg.placeWords
  rw [h]

/-- The partner's port found has as many tiles, with the same placements in reversed order. -/
theorem State.partnerPort_spec {k : Nat} (h : s.partnerPort p = some k) : (s.rport k).ready = some (s.byPos p).length ∧
    ∀ t ∈ s.byPos p, ((s.byPos p).length - 1 - t.pos, s.cfg.placeWords t) ∈ (s.rport k).places := by
  have hfit := List.find?_some h
  simp only [Bool.and_eq_true, beq_iff_eq, List.all_eq_true, List.any_eq_true] at hfit
  obtain ⟨⟨hready, -⟩, hall⟩ := hfit
  refine ⟨hready, fun t ht => ?_⟩
  obtain ⟨x, hx, hpos, hwords⟩ := hall t ht
  have hpair : x = ((s.byPos p).length - 1 - t.pos, s.cfg.placeWords t) := Prod.ext hpos hwords
  exact hpair ▸ hx

end

/-- Settles O54: the four messages by `exec_of_fromActive`, a line by `State.compareLine_of_differs` (log entry 109 where no own signature
stands), the delays by `standbyDelays_succ`, and the pairs by `State.judgePair_of_cold` (log entry 105) and
`State.judgePair_of_partner` (log entry 106). -/
theorem relaySignaturesDelaysAndPairs : Obligations.RelaySignaturesDelaysAndPairs := by
  refine ⟨?_, ?_, fun d0 ts ds => ⟨standbyDelays_length .., standbyDelays_head, fun q t => standbyDelays_succ⟩, fun s p hp => ⟨?_, ?_, ?_⟩⟩
  · intro rows r hr s d
    have hexec : exec (r.2.1 d) s = .next (s.fromActive r.1 d r.2.2) := by
      simp only [rows, List.mem_cons, List.not_mem_nil, or_false] at hr
      obtain rfl | rfl | rfl | rfl := hr
      · exact execRelaySigsRx_eq
      · exact execRelayDelaysRx_eq
      · dsimp only
        exact execRelayCensusReadyRx_eq
      · dsimp only
        exact execRelayPlaceRx_eq
    obtain ⟨hnone, hsome⟩ := exec_of_fromActive hexec
    refine ⟨hnone, fun b x hx => ⟨fun hrole hcold => ?_, (hsome b x hx).2⟩⟩
    exact ⟨_, (hsome b x hx).1 hrole hcold, rfl⟩
  · intro s lap leg p q line sig isAt own run
    have hrun : run = s.lineRun lap leg p q line := rfl
    refine ⟨State.compareLine_of_none, fun o ho hs => ?_, fun o ho hs => ?_⟩
    · rw [State.compareLine_of_equal ho hs]
      exact ⟨State.modRl_keeps.only_parts rfl, rfl⟩
    · have hdiffers := State.compareLine_of_differs ho hs
      by_cases h3 : run = 3
      · rw [if_pos (by simp [← hrun, h3])] at hdiffers
        have hkeeps : Keeps (partMask [.cnt, .rl]) s ((s.lineDiffers lap leg p q line).modRl fun r => { r with fit := false }) :=
          State.lineDiffers_keeps.andThen State.modRl_keeps rfl
        exact ⟨(s.lineDiffers lap leg p q line).modRl fun r => { r with fit := false }, rfl, rfl, hkeeps.only_parts rfl,
          fun h => absurd h3 h, fun _ => ⟨rfl, hdiffers⟩⟩
      · rw [if_neg (by simpa [← hrun] using h3)] at hdiffers
        exact ⟨s.lineDiffers lap leg p q line, rfl, rfl, State.lineDiffers_keeps.only_parts rfl, fun _ => ⟨rfl, hdiffers⟩,
          fun h => absurd h h3⟩
  · exact State.judgePair_of_closed
  · intro hrole hshared hpaired hunpaired hdone hpass
    have h : s.Judgeable p := ⟨hrole, hshared, hpaired, hunpaired, hdone, hpass⟩
    refine ⟨fun hcold => ?_, fun hwarm k hk => ?_⟩
    · rw [State.judgePair_of_cold h hcold, State.rport_modRport_same hp]
      exact ⟨rfl, State.modRport_keeps.only_parts rfl⟩
    · have hkeeps : Keeps (partMask [.rl, .tiles]) s ((s.modRport p fun r => { r with paired := true, partner := k }).normalPort p) :=
        (State.modRport_keeps.mono rfl).andThen State.normalPort_keeps rfl
      rw [State.judgePair_of_partner h hwarm hk, State.normalPort_rport, State.rport_modRport_same hp]
      exact ⟨rfl, hkeeps.only_parts rfl⟩
  · intro k hk
    obtain ⟨hready, hplaces⟩ := State.partnerPort_spec hk
    exact ⟨hready, fun t ht => ⟨_, hplaces t ht, fun x hx => Cfg.placeWords_of_some hx⟩⟩

end Sys2Proof.Machine
end

section
/-! SUPPORT. The relay link and its time (R406, R413, R414): the link taken down, its trims and TRAIN bursts, and the TIME messages. -/

namespace Sys2Proof.Machine

section
variable {s : State}

/- The link taken down (R406). -/

/-- The state with the lanes' condition noted. -/
def State.lanesNoted (s : State) (lanes : Bool) : State :=
  s.modRl fun r => { r with lanes := lanes, rx := if lanes then r.rx else { r.rx with fresh := true } }

/-- The link down, and the change recorded. -/
def State.linkLost (s : State) (lanes : Bool) : State :=
  ((s.lanesNoted lanes).modRl fun r => { r with up := false, downTick := s.ticks, measured := false }).ev Ev.relayLinkDown []

theorem State.linkLost_rl {lanes : Bool} : (s.linkLost lanes).rl =
    { s.rl with lanes := lanes, rx := if lanes then s.rl.rx else { s.rl.rx with fresh := true }, up := false, downTick := s.ticks
                measured := false } := State.ev_keeps.same .rl rfl

theorem State.linkLost_keeps {lanes : Bool} : Keeps (partMask [.cnt, .evt, .rl]) s (s.linkLost lanes) :=
  ((State.modRl_keeps.mono rfl).andThen State.modRl_keeps rfl).andThen State.ev_keeps rfl

theorem State.linkLost_pathUp {lanes : Bool} {i : Nat} : (s.linkLost lanes).pathUp i = s.pathUp i := by
  unfold State.pathUp
  rw [State.linkLost_rl]

theorem State.relayDown_of_down {lanes : Bool} (h : s.rl.up = false) : s.relayDown lanes = s.lanesNoted lanes := by
  have hdown : (!(s.lanesNoted lanes).rl.up) = true := congrArg (!·) h
  unfold State.relayDown
  exact if_pos hdown

theorem State.relayDown_of_up {lanes : Bool} (h : s.rl.up = true) : s.relayDown lanes =
    (if s.pathUp 1 then (s.linkLost lanes).fault Fk.relayLinkDown fsRelay [] else s.linkLost lanes).relayQual.updMend := by
  have hup : ¬ ((!(s.lanesNoted lanes).rl.up) = true) := by
    have hdown : (!(s.lanesNoted lanes).rl.up) = false := congrArg (!·) h
    simp [hdown]
  unfold State.relayDown
  rw [← State.linkLost_pathUp (lanes := lanes)]
  exact if_neg hup

/- The link's instants (R406). -/

section
variable (hon : s.relayOn = true)
include hon

theorem execRelayLinkTimeout_of_lost : execRelayLinkTimeout false s = .next (s.relayDown false) := by
  unfold execRelayLinkTimeout
  exact (if_neg (by simp [hon])).trans (if_pos rfl)

theorem execRelayLinkTimeout_of_lanes {h : Nat} (hup : s.rl.up = true) (hh : s.rl.hbTick = some h) : execRelayLinkTimeout true s =
    if h + 625000 ≤ s.ticks then .next (s.relayDown s.rl.lanes) else .next s := by
  unfold execRelayLinkTimeout
  rw [hh]
  refine (if_neg (by simp [hon])).trans ((if_neg (by decide)).trans ?_)
  by_cases hlate : h + 625000 ≤ s.ticks
  · exact (if_pos (by simp [hup, State.past, msT, hlate])).trans (if_pos hlate).symm
  · exact (if_neg (by simp [hup, State.past, msT, hlate])).trans (if_neg hlate).symm

theorem execRelayLinkRetrim_of_down (hdown : s.rl.up = false) (htrim : s.rl.trim = none) : execRelayLinkRetrim s =
    if s.rl.downTick + 6250000 ≤ s.ticks then .next { s with rl := { s.rl with trim := some s.ticks } } else .next s := by
  unfold execRelayLinkRetrim
  by_cases hdue : s.rl.downTick + 6250000 ≤ s.ticks
  · exact (if_pos (by simp [hon, hdown, htrim, State.past, msT, hdue])).trans (if_pos hdue).symm
  · exact (if_neg (by simp [hon, hdown, htrim, State.past, msT, hdue])).trans (if_neg hdue).symm

/-- The trim's 10 ms over: an INVALID one leaves the instant the next counts from (log entry 111). -/
theorem execRelayTrimDone_of_due {t : Nat} {ok : Bool} (htrim : s.rl.trim = some t) (hdue : t + 6250000 ≤ s.ticks) :
    execRelayTrimDone ok s =
    .next { s with rl := { s.rl with trim := none, trimBad := !ok, downTick := if ok then s.ticks else s.rl.downTick } } := by
  unfold execRelayTrimDone
  rw [htrim]
  exact if_neg (by simp [hon, State.past, msT, hdue])

theorem execRelayTrainSend_of_due (hdown : s.rl.up = false) (hdue : s.rl.trainSend + 625000 ≤ s.ticks) : execRelayTrainSend s =
    .next { s with rl := { s.rl with trainSend := s.ticks }, out := s.out ++ [.relayTrain] } := by
  unfold execRelayTrainSend
  exact if_pos (by simp [hon, hdown, State.past, msT, hdue])

end

theorem execRelayLinkRetrim_of_up (hup : s.rl.up = true) : execRelayLinkRetrim s = .next s := by
  unfold execRelayLinkRetrim
  exact if_neg (by simp [hup])

theorem execRelayTrainSend_of_up (hup : s.rl.up = true) : execRelayTrainSend s = .next s := by
  unfold execRelayTrainSend
  exact if_neg (by simp [hup])

/- TIME (R413, R414). -/

/-- The body of a TIME message. -/
def State.timeBody (s : State) : List Byte :=
  leBytes 2 s.txMark ++ leBytes 2 s.rl.rxMark ++ leBytes 5 (s.txSplit s.txMark) ++ [0, 0, 0] ++ leBytes 5 s.rl.rxSplit ++ List.replicate 7 0

theorem State.timeBody_fields : s.timeBody.length = 24 ∧ s.timeBody.take 2 = leBytes 2 s.txMark ∧
    (s.timeBody.drop 2).take 2 = leBytes 2 s.rl.rxMark ∧ (s.timeBody.drop 12).take 5 = leBytes 5 s.rl.rxSplit := by
  unfold State.timeBody
  refine ⟨?_, ?_, ?_, ?_⟩
  · simp [leBytes_length]
  all_goals simp [List.drop_append, leBytes_length, List.drop_of_length_le]

theorem execRelayTimeSend_of_due (hon : s.relayOn = true) (hdue : s.rl.timeSend + 625000 ≤ s.ticks) : execRelayTimeSend s =
    .next ((s.modRl fun r => { r with timeSend := s.ticks }).relaySend 0xC2 s.timeBody) := by
  unfold execRelayTimeSend
  exact if_pos (by simp [hon, State.past, msT, hdue])

/-- The marker that a TIME message arrived after kept, with its split. -/
def State.timeMarked (s : State) (mark age : Nat) : State :=
  s.modRl fun r => { r with rxMark := mark, rxSplit := splitOf (s.wallAt (s.ticks - age)) }

/-- The partner's offset measured (R414). -/
def State.offsetTaken (s : State) (b : List Byte) : State :=
  s.modRl fun r => { r with offset := relayOffset (leAt b 4 5) s.rl.rxSplit (s.txSplit (leAt b 2 2)) (leAt b 12 5), measured := true }

/-- The time base given what the offset brings: a rate and its negative as the counter's gain. -/
def State.offsetUsed (s : State) : State :=
  ((s.newRate 2 (Config.rateEstimate 2 (s.rl.offset) s.wall).toInt).newOffset 2 (-s.rl.offset)).relayQual

theorem State.offsetUsed_keeps : Keeps (partMask [.cnt, .evt, .tb, .tl, .sc, .ports]) s s.offsetUsed :=
  ((State.newRate_keeps.mono rfl).andThen State.newOffset_keeps rfl).andThen State.relayQual_keeps rfl

section
variable {d b : List Byte} {mark : BitVec 16} {age : Nat} {x : State}

theorem execRelayTimeRx_of_none (h : s.relayTake 0xC2 d = (none, x)) : execRelayTimeRx d mark age s = .next x := by
  unfold execRelayTimeRx
  rw [h]

theorem execRelayTimeRx_of_other (h : s.relayTake 0xC2 d = (some b, x)) (hm : leAt b 0 2 ≠ mark.toNat) :
    execRelayTimeRx d mark age s = .next (x.timeMarked mark.toNat age) := by
  have hne : (leAt b 0 2 != mark.toNat) = true := bne_iff_ne.2 hm
  unfold execRelayTimeRx
  rw [h]
  exact if_pos hne

theorem execRelayTimeRx_of_named (h : s.relayTake 0xC2 d = (some b, x)) (hm : leAt b 0 2 = mark.toNat) :
    execRelayTimeRx d mark age s = .next ((x.timeMarked mark.toNat age).offsetTaken b).offsetUsed := by
  have heq : ¬ ((leAt b 0 2 != mark.toNat) = true) := fun h => bne_iff_ne.1 h hm
  unfold execRelayTimeRx
  rw [h]
  exact if_neg heq

end

end

/-- Settles O55: the link by `State.relayDown_of_up`, its instants one by one (an INVALID trim: log entry 111), and TIME by
`execRelayTimeRx_of_named` (the offset: log entries 99 and 101). -/
theorem relayLinkAndTime : Obligations.RelayLinkAndTime := by
  intro s hon
  refine ⟨fun lanes => ⟨fun hup => ?_, fun hdown => ?_⟩, execRelayLinkTimeout_of_lost hon, fun h hup hh => ⟨fun hlate => ?_,
    fun hearly => ?_⟩,
    fun hdown htrim => ⟨fun hdue => ?_, fun hearly => ?_⟩, fun hup => ⟨execRelayLinkRetrim_of_up hup, execRelayTrainSend_of_up hup⟩,
    fun t ok htrim hdue => execRelayTrimDone_of_due hon htrim hdue, fun hdown hdue => execRelayTrainSend_of_due hon hdown hdue,
    fun hdue => ?_, fun d b mark age x hx => ⟨fun hm => execRelayTimeRx_of_other hx hm, fun hm => ?_⟩,
    fun d mark age x hx => execRelayTimeRx_of_none hx⟩
  · have hrl := State.linkLost_rl (s := s) (lanes := lanes)
    refine ⟨s.linkLost lanes, if s.pathUp 1 then (s.linkLost lanes).fault Fk.relayLinkDown fsRelay [] else s.linkLost lanes,
      congrArg Relay.up hrl, congrArg Relay.lanes hrl, congrArg Relay.downTick hrl, congrArg Relay.measured hrl,
      State.linkLost_keeps.only_parts rfl, fun h => if_pos h, fun h => if_neg (by simp [h]), State.relayDown_of_up hup⟩
  · rw [State.relayDown_of_down hdown]
    exact ⟨State.modRl_keeps.only_parts rfl, hdown⟩
  · exact (execRelayLinkTimeout_of_lanes hon hup hh).trans (if_pos hlate)
  · exact (execRelayLinkTimeout_of_lanes hon hup hh).trans (if_neg (by omega))
  · exact (execRelayLinkRetrim_of_down hon hdown htrim).trans (if_pos hdue)
  · exact (execRelayLinkRetrim_of_down hon hdown htrim).trans (if_neg (by omega))
  · obtain ⟨hlen, hmark, hrx, hsplit⟩ := State.timeBody_fields (s := s)
    have hkeeps : Keeps (partMask [.rl, .out]) s ((s.modRl fun r => { r with timeSend := s.ticks }).relaySend 0xC2 s.timeBody) :=
      (State.modRl_keeps.mono rfl).andThen State.relaySend_keeps rfl
    exact ⟨_, s.timeBody, execRelayTimeSend_of_due hon hdue, rfl, hlen, hmark, hrx, hsplit, rfl, hkeeps.only_parts rfl⟩
  · have hkeeps : Keeps (partMask [.rl]) x ((x.timeMarked mark.toNat age).offsetTaken b) :=
      (State.modRl_keeps.mono rfl).andThen State.modRl_keeps rfl
    have hall : Keeps (partMask [.cnt, .evt, .tb, .tl, .sc, .ports, .rl]) x ((x.timeMarked mark.toNat age).offsetTaken b).offsetUsed :=
      (hkeeps.mono rfl).andThen State.offsetUsed_keeps rfl
    exact ⟨_, execRelayTimeRx_of_named hx hm, State.offsetUsed_keeps.same .rl rfl, hall.only_parts rfl⟩

end Sys2Proof.Machine
end

section
/-! SUPPORT. The baton given away and claimed (R193, R194, R425, R426): the release, mending, a claim on a port and the end of the
silence. -/

namespace Sys2Proof.Machine

section
variable {s : State} {p : Nat}

/- A release (R425). -/

theorem State.release_of_fit (hnone : s.rl.release = none) (hfit : s.partnerFit = true) :
    s.release = { s with
      rl := { s.rl with txSeq := (s.rl.txSeq + 1) % 65536, release := some ⟨s.ticks, s.releaseMask⟩ }
      out := s.out ++ [.relay 0xCA ((s.rl.txSeq + 1) % 65536) ([1, 0] ++ leBytes 2 s.releaseMask ++ [0, 0, 0, 0])] } := by
  unfold State.release
  exact if_neg (by simp [hnone, hfit])

theorem State.release_of_unfit (h : s.rl.release ≠ none ∨ s.partnerFit = false) : s.release = s := by
  unfold State.release
  exact if_pos (by rcases h with h | h <;> simp [h, Option.isSome_iff_ne_none])

theorem State.partnerFit_iff : s.partnerFit = true ↔ s.rl.up = true ∧ nbit s.rl.pFlags 0 = true ∧ nbit s.rl.pFlags 2 = false ∧
    nbit s.rl.pFlags 5 = true ∧ nbit s.rl.pFlags 6 = false := by
  unfold State.partnerFit
  simp [and_assoc]

/- RELAY_CTRL (R425, R426). -/

theorem wput_mend_key (w : Word) : wfld (wput w 1 1 1) 31 16 = wfld w 31 16 := by
  unfold wput wfld Word.of
  have := w.isLt
  simp only [BitVec.toNat_ofNat, Nat.shiftRight_eq_div_pow]
  omega

theorem execHandover_of_wrongKey {v : Word} (h : wfld v 31 16 ≠ 0x6E1A) : execHandover v s = .next s := by
  unfold execHandover State.writeRelayCtrl
  rw [if_pos (by simpa [wput_go_key] using h)]

theorem execMend_of_wrongKey {v : Word} (h : wfld v 31 16 ≠ 0x6E1A) : execMend v s = .next s := by
  unfold execMend State.writeRelayCtrl
  rw [if_pos (by simpa [wput_mend_key] using h)]

theorem execHandover_of_key {v : Word} (h : wfld v 31 16 = 0x6E1A) (h1 : wbit v 1 = false) :
    execHandover v s = .next s.releaseIfActive := by
  unfold execHandover State.writeRelayCtrl
  dsimp only
  rw [if_neg (by simp [wput_go_key, h]), if_neg (by simp [(wbit_wput_other v).1, h1]), if_pos (wbit_wput_go v)]

theorem execMend_of_key {v : Word} (h : wfld v 31 16 = 0x6E1A) (h0 : wbit v 0 = false) : execMend v s = .next s.mend := by
  unfold execMend State.writeRelayCtrl
  dsimp only
  rw [if_neg (by simp [wput_mend_key, h]), if_pos (wbit_wput_same v (by decide)), if_neg (by simp [(wbit_wput_other v).2, h0])]

/- Mending (R426). -/

theorem State.mend_of_ready (hm : s.mendable = true) (hc : s.claimsOpen = false) (hr : s.mendReleases = true) : s.mend = s.release := by
  unfold State.mend
  exact if_pos (by simp [hm, hc, hr])

/-- The unit that keeps its tiles does nothing (log entry 110). -/
theorem State.mend_of_other (h : s.mendable = false ∨ s.claimsOpen = true ∨ s.mendReleases = false) : s.mend = s := by
  unfold State.mend
  exact if_neg (by rcases h with h | h | h <;> simp [h])

theorem State.mendable_spec (h : s.mendable = true) : s.rl.role = .solo ∧ s.rl.pRole = some .solo ∧ s.pathUp 0 = true ∧
    s.pathUp 1 = true ∧ s.rl.up = true ∧ s.digestOk = true := by
  unfold State.mendable at h
  simp only [Bool.and_eq_true, beq_iff_eq] at h
  obtain ⟨⟨⟨⟨⟨⟨hrole, hprole⟩, hlink⟩, hup⟩, hchain⟩, hdigest⟩, -⟩ := h
  exact ⟨hrole, hprole, hlink, hchain, hup, hdigest⟩

/-- The unit with fewer tiles releases; with as many, the one that R408 does not prefer. -/
theorem State.mendReleases_eq : s.mendReleases =
    if s.heldBy s.cfg.devNum = s.heldBy s.partnerDev then !(s.preferred s.rl.pStandby)
    else decide (s.heldBy s.cfg.devNum < s.heldBy s.partnerDev) := by
  unfold State.mendReleases
  simp only [beq_iff_eq]

theorem execMendTimer_of_since {t : Nat} (h : s.rl.mendTick = some t) : execMendTimer s =
    if wfld (s.rws Reg.relayCfg) 7 0 ≠ 0 ∧ t + wfld (s.rws Reg.relayCfg) 7 0 * 625000000 ≤ s.ticks then .next s.mend else .next s := by
  unfold execMendTimer
  rw [h]
  by_cases hdue : wfld (s.rws Reg.relayCfg) 7 0 ≠ 0 ∧ t + wfld (s.rws Reg.relayCfg) 7 0 * 625000000 ≤ s.ticks
  · obtain ⟨hn, ht⟩ := hdue
    exact (if_pos (by simp [hn, State.past, secT, ht])).trans (if_pos ⟨hn, ht⟩).symm
  · refine Eq.trans (if_neg fun h' => hdue ?_) (if_neg hdue).symm
    obtain ⟨hn, ht⟩ := (Bool.and_eq_true _ _).mp h'
    exact ⟨bne_iff_ne.1 hn, of_decide_eq_true ht⟩

/- A claim (R193, R194). -/

/-- A calibration aborted as a claim begins leaves the port's queue. -/
theorem State.abortCal_queue (hp : p < s.ports.length) (hu : (s.port p).up = true) :
    ((s.abortCal p).port p).queue = (s.port p).queue ∧ (s.abortCal p).ports.length = s.ports.length := by
  unfold State.abortCal
  dsimp only
  split
  · exact ⟨rfl, rfl⟩
  · split
    · exact ⟨rfl, rfl⟩
    · rw [if_neg (by simp [hu])]
      split
      · obtain ⟨_, _, hport⟩ := State.port_restoreLane (s := s.modPort p fun q => q.setCal _ _ ⟨4, 0, 0, 0⟩) (by simpa using hp)
        rw [hport, State.port_modPort_same hp]
        exact ⟨rfl, by simp⟩
      · rw [State.port_modPort_same (by simpa using hp), State.port_modPort_same hp]
        exact ⟨rfl, by simp⟩

/-- A claim's frame. -/
def batonClaim (tag : Nat) : TxFrame := { allFrame .baton 0 batonBody with tag := tag }

theorem State.claimOn_of_down (h : (s.port p).up = false) : s.claimOn p = s := by
  unfold State.claimOn
  exact if_pos (by simp [h])

theorem State.claimOn_of_up (h : (s.port p).up = true) : s.claimOn p =
    ((s.abortCal p).queueFrame p (allFrame .baton 0 batonBody)).modPort p fun q => { q with claim := some s.ticks } := by
  unfold State.claimOn
  exact if_neg (by simp [h])

theorem State.claimOn_keeps_ports (h : (s.port p).up = true) : Keeps (partMask [.ports, .out]) s (s.claimOn p) := by
  rw [State.claimOn_of_up h]
  exact ((State.abortCal_keeps.mono rfl).andThen State.queueFrame_keeps rfl).andThen State.modPort_keeps rfl

/-- A port that is up has its claim noted, and the claim's frame behind what it still sends. -/
theorem State.port_claimOn (hp : p < s.ports.length) (h : (s.port p).up = true) : ((s.claimOn p).port p).claim = some s.ticks ∧
    ∃ f, f.kind = .baton ∧ ((s.claimOn p).port p).queue = (s.port p).queue ++ [f] := by
  obtain ⟨hqueue, hlen⟩ := State.abortCal_queue hp h
  rw [State.claimOn_of_up h, State.port_modPort_same (by simpa [State.queueFrame, hlen] using hp), State.port_queueFrame (by rwa [hlen])]
  exact ⟨rfl, _, rfl, congrArg (· ++ _) hqueue⟩

/- HANDOVER on the link (R425). -/

section
variable {d b : List Byte} {x : State}

theorem execRelayHandoverRx_of_none (h : s.relayTake 0xCA d = (none, x)) : execRelayHandoverRx d s = .next x := by
  unfold execRelayHandoverRx
  rw [h]

theorem execRelayHandoverRx_of_some (h : s.relayTake 0xCA d = (some b, x)) : execRelayHandoverRx d s =
    if leAt b 0 1 = 1 ∧ (x.rl.role = .standby ∨ x.rl.role = .solo) then
      .next (x.claimAll (maskOf ((List.range 16).map fun p => (x.rport p).paired && nbit (leAt b 2 2) (x.rport p).partner)))
    else .next x := by
  unfold execRelayHandoverRx
  rw [h]
  simp

end

/- The end of the silence (R425). -/

/-- The release taken back. -/
def State.unreleased (s : State) : State := { s with rl := { s.rl with release := none } }

/-- The unit standing by as its tiles are released. -/
def State.standingBy (s : State) : State :=
  (s.unreleased.modRl fun x => { x with fit := !(s.boot.stage == 7 || s.flt.hold != .none), cold := false }).setRole .standby

/-- Its paired ports' lamps normal. -/
def State.releasedStandby (s : State) : State := (idxs 16 fun p => (s.standingBy.rport p).paired).foldl State.normalPort s.standingBy

theorem execHandoverSilenceEnd_of_due {r : Release} (h : s.rl.release = some r) (ht : r.tick + 250000 ≤ s.ticks) :
    execHandoverSilenceEnd s = if ((idxs 16 (nbit r.mask)).any fun p => 0 < s.heldOn p) = true
      then .next (s.unreleased.evFault Ev.relayHandoverFailed Fk.relayHandoverFailed fsRelay [r.mask])
      else .next ((List.range 16).foldl State.judgeSplit s.releasedStandby) := by
  have hpast : ¬ ((!s.past r.tick (400 * usT)) = true) := by simp [State.past, usT, ht]
  unfold execHandoverSilenceEnd
  rw [h]
  refine (if_neg hpast).trans ?_
  by_cases hheld : ((idxs 16 (nbit r.mask)).any fun p => 0 < s.heldOn p) = true
  · exact (if_pos hheld).trans (if_pos hheld).symm
  · exact (if_neg hheld).trans (if_neg hheld).symm

theorem execHandoverSilenceEnd_of_early {r : Release} (h : s.rl.release = some r) (ht : s.ticks < r.tick + 250000) :
    execHandoverSilenceEnd s = .next s := by
  unfold execHandoverSilenceEnd
  rw [h]
  have hpast : s.past r.tick (400 * usT) = false := decide_eq_false (by unfold usT; omega)
  exact if_pos (by simp [hpast])

theorem execHandoverSilenceEnd_of_none (h : s.rl.release = none) : execHandoverSilenceEnd s = .next s := by
  unfold execHandoverSilenceEnd
  rw [h]

theorem State.setRole_rl {r : Role} : (s.setRole r).rl = { s.rl with role := r } := by
  unfold State.setRole
  split
  next h =>
    rw [← beq_iff_eq.1 h]
  · exact State.ev_keeps.same .rl rfl

theorem State.releasedStandby_keeps : Keeps (partMask [.cnt, .evt, .tiles, .rl]) s s.releasedStandby := by
  have hrole : Keeps (partMask [.cnt, .evt, .tiles, .rl]) s s.standingBy :=
    ((Keeps.rl.mono rfl).andThen State.modRl_keeps rfl).andThen State.setRole_keeps rfl
  exact Keeps.foldl hrole fun _ _ h => h.andThen State.normalPort_keeps rfl

theorem State.releasedStandby_rl : s.releasedStandby.rl =
    { s.rl with release := none, role := .standby, cold := false, fit := !(s.boot.stage == 7 || s.flt.hold != .none) } := by
  have hnormal (l : List Nat) (u : State) : (l.foldl State.normalPort u).rl = u.rl :=
    (Keeps.foldl (m := partMask [.tiles]) Keeps.refl fun _ _ h => h.andThen State.normalPort_keeps rfl).same .rl rfl
  unfold State.releasedStandby State.standingBy
  rw [hnormal, State.setRole_rl]
  rfl

end

/-- Settles O57: the release by `State.release_of_fit`, mending by `State.mendReleases_eq` (the unit that keeps its tiles does nothing: log
entry 110), a claim by `State.port_claimOn`, and the end of the silence by `State.releasedStandby_rl`. -/
theorem relayHandoverAndMending : Obligations.RelayHandoverAndMending := by
  intro s
  refine ⟨⟨State.release_of_fit, State.release_of_unfit⟩, State.partnerFit_iff, fun v => ⟨fun hkey => ?_, fun hkey => ⟨fun h1 hrole => ?_,
    fun h1 hrole => ?_, execMend_of_key hkey⟩⟩, State.mend_of_ready, State.mend_of_other, State.mendable_spec, fun hless => ?_,
      fun hmore => ?_,
    fun hequal => ?_, fun t ht => ⟨fun hn hdue => ?_, fun hnot => ?_⟩, fun d x => ⟨execRelayHandoverRx_of_none,
      fun b hx => ⟨fun hop hrole => ?_,
    fun hother => ?_⟩⟩, fun p => State.claimOn_of_down, fun p hp hup => ?_, fun r hr => ⟨execHandoverSilenceEnd_of_early hr, fun hdue =>
    ⟨fun hheld => ?_, fun hfree => ?_⟩⟩, execHandoverSilenceEnd_of_none⟩
  · exact ⟨execHandover_of_wrongKey hkey, execMend_of_wrongKey hkey⟩
  · exact (execHandover_of_key hkey h1).trans (congrArg _ (if_pos (by simp [hrole])))
  · exact (execHandover_of_key hkey h1).trans (congrArg _ (if_neg (by simp [hrole])))
  · rw [State.mendReleases_eq, if_neg (by omega)]
    exact decide_eq_true hless
  · rw [State.mendReleases_eq, if_neg (by omega)]
    exact decide_eq_false (by omega)
  · rw [State.mendReleases_eq, if_pos hequal]
  · exact (execMendTimer_of_since ht).trans (if_pos ⟨hn, hdue⟩)
  · exact (execMendTimer_of_since ht).trans (if_neg (by omega))
  · exact (execRelayHandoverRx_of_some hx).trans (if_pos ⟨hop, hrole⟩)
  · refine (execRelayHandoverRx_of_some hx).trans (if_neg fun ⟨hop, hrole⟩ => ?_)
    rcases hother with h | h
    · exact h hop
    · rcases hrole with hrole | hrole <;> exact nomatch h.symm.trans hrole
  · obtain ⟨hclaim, hframe⟩ := State.port_claimOn hp hup
    exact ⟨hclaim, (State.claimOn_keeps_ports hup).only_parts rfl, hframe⟩
  · exact (execHandoverSilenceEnd_of_due hr hdue).trans (if_pos hheld)
  · exact ⟨s.releasedStandby, (execHandoverSilenceEnd_of_due hr hdue).trans (if_neg (by simp [hfree])), State.releasedStandby_rl,
      State.releasedStandby_keeps.only_parts rfl⟩

end Sys2Proof.Machine
end

section
/-! SUPPORT. The heartbeats and roles of a relay pair (R407, R408, R413, R420, R421): a HEARTBEAT sent and taken, a partner's BEACON, the
role decided, the misses of a path, and the loss of the partner. -/

namespace Sys2Proof.Machine

section
variable {s : State}

/- HEARTBEAT sent (R413). -/

theorem length_slice (bs : List Byte) (off k : Nat) : (slice bs off k).length = k := by
  unfold slice
  simp only [List.length_append, List.length_take, List.length_drop, List.length_replicate]
  omega

/-- The body of a HEARTBEAT. -/
def State.beatBody (s : State) : List Byte :=
  [byte s.rl.role.code, byte s.beatFlags] ++ leBytes 2 s.holdMask ++ leBytes 4 s.lapNo ++ slice s.rl.digest 0 8
    ++ [byte s.tb.sel, byte s.tl.num] ++ List.replicate 14 0

theorem State.beatBody_fields : s.beatBody.length = 32 ∧ s.beatBody.take 2 = [byte s.rl.role.code, byte s.beatFlags] := by
  unfold State.beatBody
  refine ⟨?_, rfl⟩
  simp [leBytes_length, length_slice]

theorem State.heartbeat_eq : s.heartbeat =
    { s.relaySend 0xC1 s.beatBody with rl := { (s.relaySend 0xC1 s.beatBody).rl with hbSend := (s.relaySend 0xC1 s.beatBody).ticks } } :=
      rfl

theorem execRelayHeartbeatSend_of_due (hon : s.relayOn = true) (hdue : s.rl.hbSend + 59375 ≤ s.ticks) :
    execRelayHeartbeatSend s = .next s.heartbeat := by
  unfold execRelayHeartbeatSend
  exact if_pos (by simp [hon, State.past, usT, hdue])

/- Roles (R407, R408). -/

theorem State.beHolder_rl {r : Role} : (s.beHolder r).rl = { s.rl with role := r, fit := true } := by
  unfold State.beHolder
  rw [State.startShared_keeps.same .rl rfl, State.setRole_rl]
  rfl

theorem State.beStandby_of_same {cold : Bool} (h : s.digestOk = true) :
    s.beStandby cold = ((s.modRl fun r => { r with cold := cold, fit := !cold }).setRole .standby).startShared := by
  unfold State.beStandby
  exact if_neg (by simp [h])

theorem State.beStandby_of_other {cold : Bool} (h : s.digestOk = false) : s.beStandby cold =
    (s.setRole .unpaired).evFault Ev.relayConfigMismatch Fk.relayConfigMismatch fsRelay [s.rl.pDigest % 2 ^ 32] := by
  unfold State.beStandby
  exact if_pos (by simp [h])

theorem State.beStandby_keeps_same {cold : Bool} (h : s.digestOk = true) :
    Keeps (partMask [.cnt, .evt, .ports, .rl]) s (s.beStandby cold) := by
  rw [State.beStandby_of_same h]
  exact ((State.modRl_keeps.mono rfl).andThen State.setRole_keeps rfl).andThen State.startShared_keeps rfl

theorem State.beStandby_rl {cold : Bool} (h : s.digestOk = true) :
    (s.beStandby cold).rl = { s.rl with role := .standby, cold := cold, fit := !cold } := by
  rw [State.beStandby_of_same h, State.startShared_keeps.same .rl rfl, State.setRole_rl]
  rfl

theorem State.decideRole_of_decided {link st : Bool} (h : s.rl.role ≠ .pairing) : s.decideRole link st = s := by
  unfold State.decideRole
  exact if_pos (by simpa using h)

theorem State.decideRole_of_holder {link st : Bool} (h : s.rl.role = .pairing) (hp : s.rl.pRole = some .active ∨ s.rl.pRole = some .solo) :
    s.decideRole link st = s.beStandby (!s.rl.up) := by
  unfold State.decideRole
  rw [if_neg (by simp [h])]
  rcases hp with hp | hp <;> rw [hp]

theorem State.decideRole_of_pairing {link st : Bool} (h : s.rl.role = .pairing) (hp : s.rl.pRole = some .pairing) :
    s.decideRole link st = if (!(link && s.rl.up)) = true then s
      else if s.preferred st then s.beHolder .active else s.beStandby false := by
  unfold State.decideRole
  rw [if_neg (by simp [h]), hp]

theorem State.preferred_of_relay {st : Bool} {r : RelayRec} (h : s.cfg.relay = some r) :
    s.preferred st = if r.standby = st then decide (s.cfg.devNum < r.partner) else !r.standby := by
  unfold State.preferred
  rw [h]
  simp only [beq_iff_eq]

theorem execPairingTimeout_of_due (hrole : s.rl.role = .pairing) (hon : s.tl.on = true) (hdue : s.rl.sb3Tick + 62500000 ≤ s.ticks)
    (hhb : s.rl.hbTick = none) (hbc : s.rl.bcTick = none) : execPairingTimeout s = .next (s.beHolder .solo) := by
  unfold execPairingTimeout
  exact if_pos (by simp [hrole, hon, State.past, msT, hdue, hhb, hbc])

theorem execPairingTimeout_of_not (h : s.rl.role ≠ .pairing ∨ s.ticks < s.rl.sb3Tick + 62500000 ∨ s.rl.hbTick.isSome = true ∨
    s.rl.bcTick.isSome = true) : execPairingTimeout s = .next s := by
  unfold execPairingTimeout
  refine if_neg ?_
  rcases h with h | h | h | h
  · simp [h]
  · have hpast : s.past s.rl.sb3Tick (100 * msT) = false := decide_eq_false (by unfold msT; omega)
    simp [hpast]
  · simp [Option.isSome_iff_ne_none.1 h]
  · simp [Option.isSome_iff_ne_none.1 h]

/- The loss of the partner (R420, R421). -/

/-- The loss noted and told. -/
def State.partnerLost (s : State) (cause : Nat) : State :=
  ({ s with rl := { s.rl with lostTick := some s.ticks, pRole := none, pHold := 0, mendTick := none } }).evFault Ev.relayPartnerLost
    Fk.relayPartnerLost fsRelay [s.partnerDev, cause]

theorem State.losePartner_of_lost {c : Nat} (h : s.rl.lostTick.isSome = true) : s.losePartner c = s := by
  unfold State.losePartner
  exact if_pos h

theorem State.losePartner_of_held {c : Nat} (h : s.rl.lostTick = none) : s.losePartner c = match s.rl.role with
    | .active => ((s.partnerLost c).claimAll (s.partnerLost c).pairedMask).setRole .solo
    | .standby => if s.qualified then ((s.partnerLost c).claimAll (s.partnerLost c).pairedMask).setRole .solo else s.partnerLost c
    | _ => s.partnerLost c := by
  unfold State.losePartner
  exact if_neg (by simp [h])

/- What a heartbeat does (R408, R420). -/

theorem State.heard_of_shutting {was : Option Role} {cold link st : Bool} (h : nbit s.rl.pFlags 3 = true) :
    s.heard was cold link st = s.losePartner 2 := by
  unfold State.heard
  exact if_pos h

theorem State.relayUp_rl : s.relayUp.rl = { s.rl with up := true, trim := if s.rl.up then s.rl.trim else none } := by
  unfold State.relayUp
  split
  next h => rw [← h]
  · exact State.ev_keeps.same .rl rfl

/-- A HEARTBEAT's items kept, its path's misses ended and the link up, before what it brings. -/
def State.beatTaken (s : State) (b : List Byte) (st : Bool) : State :=
  (((s.modRl fun r => { r with pStandby := st }).takeBeat b).beatOn 0).relayUp

theorem State.beatTaken_keeps {b : List Byte} {st : Bool} : Keeps (partMask [.cnt, .evt, .rl]) s (s.beatTaken b st) :=
  (((State.modRl_keeps.mono rfl).andThen State.takeBeat_keeps rfl).andThen State.beatOn_keeps rfl).andThen State.relayUp_keeps rfl

section
variable {d b : List Byte} {x : State}

theorem execRelayHeartbeatRx_of_none {st : Bool} (h : s.relayTake 0xC1 d = (none, x)) : execRelayHeartbeatRx d st s = .next x := by
  unfold execRelayHeartbeatRx
  rw [h]

theorem execRelayHeartbeatRx_of_some {st : Bool} (h : s.relayTake 0xC1 d = (some b, x)) :
    execRelayHeartbeatRx d st s = .next ((x.beatTaken b st).heard x.rl.pRole (nbit x.rl.pFlags 6) true st).relayQual := by
  unfold execRelayHeartbeatRx
  rw [h]
  rfl

end

/- A partner's BEACON (R409, R420). -/

section
variable {p : Fin 16} {d b : List Byte} {x : State} (hon : s.relayOn = true) (hshared : s.shared p = true)
    (hhears : (s.port p).hears = true)
include hon hshared hhears

theorem execPartnerBeaconRx_of_broken (hb : beaconBody s.partnerDev d = none) :
    execPartnerBeaconRx p d s = .next (s.bump (Reg.upCrcErrors p)) := by
  unfold execPartnerBeaconRx
  rw [if_neg (by simp [hon, hshared, hhears]), hb]

theorem execPartnerBeaconRx_of_rejected (hb : beaconBody s.partnerDev d = some b) (hx : s.takeSeq p 32 (leAt d 2 2) = (false, x)) :
    execPartnerBeaconRx p d s = .next x := by
  unfold execPartnerBeaconRx
  rw [if_neg (by simp [hon, hshared, hhears]), hb]
  dsimp only
  rw [hx]
  rfl

/-- A BEACON's items kept, and the chain path's misses ended, before what it brings. -/
def State.beaconTaken (s : State) (p : Nat) (b : List Byte) : State :=
  ((s.modRport p fun r => { r with beatTick := some s.ticks }).takeBeacon b).beatOn 1

omit hon hshared hhears in
theorem State.beaconTaken_keeps {q : Nat} : Keeps (partMask [.rl]) s (s.beaconTaken q b) :=
  ((State.modRport_keeps.mono rfl).andThen State.takeBeacon_keeps rfl).andThen State.beatOn_keeps rfl

omit hon hshared hhears in
theorem State.rport_modRport_paired {q k : Nat} {t : Option Nat} :
    ((s.modRport q fun r => { r with beatTick := t }).rport k).paired = (s.rport k).paired := by
  rw [State.rport_modRport]
  split <;> rfl

/-- A BEACON that passes, while the role is open or the port paired, is heard on the chain path; with the link down and that path silent
until now the fault is raised besides. -/
theorem execPartnerBeaconRx_of_open (hb : beaconBody s.partnerDev d = some b) (hx : s.takeSeq p 32 (leAt d 2 2) = (true, x))
    (hopen : x.rl.role = .pairing ∨ (x.rport p).paired = true) : ∃ c : Bool,
    let u := (x.beaconTaken p b).heard x.rl.pRole (nbit x.rl.pFlags 6) false false
    execPartnerBeaconRx p d s = .next (State.startWaiting (if c then u.fault Fk.relayLinkDown fsRelay [] else u) p) := by
  have hgo : ¬ ((!(x.rl.role == .pairing) && !(((x.modRport p fun r => { r with beatTick := some x.ticks }).rport p).paired)) = true) := by
    rw [State.rport_modRport_paired]
    rcases hopen with h | h <;> simp [h]
  unfold execPartnerBeaconRx
  rw [if_neg (by simp [hon, hshared, hhears]), hb]
  dsimp only
  rw [hx]
  exact ⟨!(x.pathUp 1) && !x.rl.up && !(x.rl.role == .pairing) &&
    !((x.beaconTaken p b).heard x.rl.pRole (nbit x.rl.pFlags 6) false false).rl.up, (if_neg (by simp)).trans ((if_neg hgo).trans rfl)⟩

/-- What such a BEACON leaves: its items kept, its path's misses ended, and what waited for it begun. -/
theorem exec_partnerBeaconRx_of_open (hb : beaconBody s.partnerDev d = some b) (hx : s.takeSeq p 32 (leAt d 2 2) = (true, x))
    (hopen : s.rl.role = .pairing ∨ (s.rport p).paired = true) : ∃ y u : State, exec (.partnerBeaconRx p d) s = .next (u.startWaiting p) ∧
      (u = y.heard x.rl.pRole (nbit x.rl.pFlags 6) false false ∨
        u = (y.heard x.rl.pRole (nbit x.rl.pFlags 6) false false).fault Fk.relayLinkDown fsRelay []) ∧
      y.rl.bcTick = some s.ticks ∧ y.rl.miss = setAt s.rl.miss 1 0 ∧ y.rl.pRole = some (Role.of (leAt b 4 1)) ∧ y.rl.pFlags = leAt b 5 1 ∧
      Only [.rl] x y := by
  have hseq : Keeps (partMask [.cnt, .ports]) s x := Keeps.snd (e := s.takeSeq p 32 (leAt d 2 2)) State.takeSeq_keeps hx
  have hrl : x.rl = s.rl := hseq.same .rl rfl
  obtain ⟨c, hexec⟩ := execPartnerBeaconRx_of_open hon hshared hhears hb hx (by simpa [State.rport, hrl] using hopen)
  have hmiss : (x.beaconTaken p b).rl.miss = setAt x.rl.miss 1 0 := rfl
  have htick : (x.beaconTaken p b).rl.bcTick = some x.ticks := rfl
  refine ⟨x.beaconTaken p b, _, hexec, ?_, htick.trans (congrArg some hseq.lasting.ticks), hrl ▸ hmiss, rfl, rfl,
    State.beaconTaken_keeps.only_parts rfl⟩
  cases c
  · exact .inl rfl
  · exact .inr rfl

end

/- The misses of a path (R420). -/

theorem State.updMend_eq (s : State) : ∃ m, s.updMend = s.modRl fun r => { r with mendTick := m } := by
  unfold State.updMend
  split
  · split
    · exact ⟨s.rl.mendTick, rfl⟩
    · exact ⟨_, rfl⟩
  · exact ⟨_, rfl⟩

/-- A miss of a path counted, from the instant it fell due. -/
def State.beatMissed (s : State) (chain : Bool) : State :=
  ((s.modRl fun r => { r with missRef := setAt r.missRef (b2n chain) (s.rl.missRef.getD (b2n chain) 0 + 65625)
                              miss := modAt r.miss (b2n chain) (· + 1) }).bump
    (if chain then Reg.relayHbMissedChain else Reg.relayHbMissedLink)).updMend

theorem State.beatMissed_keeps {chain : Bool} : Keeps (partMask [.cnt, .rl]) s (s.beatMissed chain) :=
  ((State.modRl_keeps.mono rfl).andThen State.bump_keeps rfl).andThen State.updMend_keeps rfl

theorem State.beatMissed_rl {chain : Bool} : (s.beatMissed chain).rl.miss = modAt s.rl.miss (b2n chain) (· + 1) ∧
    (s.beatMissed chain).rl.missRef = setAt s.rl.missRef (b2n chain) (s.rl.missRef.getD (b2n chain) 0 + 65625) := by
  unfold State.beatMissed
  obtain ⟨m, hmend⟩ := State.updMend_eq ((s.modRl fun r =>
    { r with missRef := setAt r.missRef (b2n chain) (s.rl.missRef.getD (b2n chain) 0 + 65625)
             miss := modAt r.miss (b2n chain) (· + 1) }).bump (if chain then Reg.relayHbMissedChain else Reg.relayHbMissedLink))
  rw [hmend]
  exact ⟨rfl, rfl⟩

/-- A path counts its misses from the first word of the partner on (log entry 102). -/
theorem execHeartbeatPathMiss_of_heard {chain : Bool} (hon : s.relayOn = true)
    (hheard : s.rl.hbTick.isSome = true ∨ s.rl.bcTick.isSome = true) :
    execHeartbeatPathMiss chain s = if s.ticks ≤ s.rl.missRef.getD (b2n chain) 0 + 65625 then .next s
      else .next (if 3 ≤ (s.beatMissed chain).rl.miss.getD 0 0 && 3 ≤ (s.beatMissed chain).rl.miss.getD 1 0
        then (s.beatMissed chain).losePartner 1 else s.beatMissed chain) := by
  have hwait : (!s.relayOn || (s.rl.hbTick.isNone && s.rl.bcTick.isNone)) = false := by
    rcases hheard with h | h <;> simp [hon, h, Option.isSome_iff_ne_none.1 h]
  unfold execHeartbeatPathMiss
  dsimp only
  rw [hwait]
  by_cases ht : s.ticks ≤ s.rl.missRef.getD (b2n chain) 0 + 65625
  · rw [if_pos ht]
    exact if_pos (decide_eq_true ht)
  · rw [if_neg ht]
    exact if_neg (by simpa [usT] using ht)

end

/-- Settles O56: the role by `State.decideRole_of_pairing` (FIT at the decision: log entry 103; the partner's preference as an operand: log
entry 112), a HEARTBEAT by `State.beatTaken`, a BEACON by `execPartnerBeaconRx_of_shutting`, the misses by
`execHeartbeatPathMiss_of_heard` (log entry 102), and the loss by `State.losePartner_of_held`. -/
theorem relayHeartbeatsAndRoles : Obligations.RelayHeartbeatsAndRoles := by
  intro s
  refine ⟨fun hon hdue => ?_, fun hrole hon hdue hhb hbc => ?_, execPairingTimeout_of_not, fun link st => ⟨State.decideRole_of_decided,
    fun hrole => ⟨State.decideRole_of_holder hrole, fun hp hlink hup => ?_, fun hp hdown => ?_⟩⟩, fun st r hr => ⟨fun hne => ?_,
      fun heq => ?_⟩,
    fun cold => ⟨fun hsame => ?_, fun hother => ?_⟩, fun d b st x hx => ?_, fun d st x => execRelayHeartbeatRx_of_none,
    fun was cold link st => State.heard_of_shutting, fun p d hon hshared hhears => ⟨execPartnerBeaconRx_of_broken hon hshared hhears,
    fun b hb => ⟨fun x => execPartnerBeaconRx_of_rejected hon hshared hhears hb, fun x hx hopen hflag => ?_⟩⟩,
      fun chain hon hheard => ⟨fun hearly => ?_,
    fun hlate => ?_⟩, fun c => ⟨State.losePartner_of_lost, fun hheld => ?_⟩⟩
  · obtain ⟨hlen, hhead⟩ := State.beatBody_fields (s := s)
    have hexec : exec .relayHeartbeatSend s = .next s.heartbeat := execRelayHeartbeatSend_of_due hon hdue
    exact ⟨s.heartbeat, s.beatBody, hexec, hlen, hhead, rfl, rfl, State.heartbeat_keeps.only_parts rfl⟩
  · have hexec : exec .pairingTimeout s = .next (s.beHolder .solo) := execPairingTimeout_of_due hrole hon hdue hhb hbc
    exact ⟨_, hexec, State.beHolder_rl, State.beHolder_keeps.only_parts rfl⟩
  · rw [State.decideRole_of_pairing hrole hp, if_neg (by simp [hlink, hup])]
  · rw [State.decideRole_of_pairing hrole hp, if_pos (by rcases hdown with h | h <;> simp [h])]
  · rw [State.preferred_of_relay hr, if_neg hne]
  · rw [State.preferred_of_relay hr, if_pos heq, decide_eq_true_iff]
  · exact ⟨State.beStandby_rl hsame, (State.beStandby_keeps_same hsame).only_parts rfl⟩
  · exact ⟨s.setRole .unpaired, State.setRole_rl, State.setRole_keeps.only_parts rfl, State.beStandby_of_other hother⟩
  · have hrl : (x.beatTaken b st).rl = _ := State.relayUp_rl
    exact ⟨x.beatTaken b st, execRelayHeartbeatRx_of_some hx, State.beatTaken_keeps.only_parts rfl, by rw [hrl]; rfl, by rw [hrl],
      by rw [hrl]; rfl,
      by rw [hrl]; rfl, by rw [hrl]; rfl, by rw [hrl]; rfl, by rw [hrl]; rfl, by rw [hrl]; rfl⟩
  · obtain ⟨y, u, hexec, hu, htick, hmiss, hrole, hflags, honly⟩ := exec_partnerBeaconRx_of_open hon hshared hhears hb hx hopen
    have hlost (was : Option Role) (cold : Bool) : y.heard was cold false false = y.losePartner 2 :=
      State.heard_of_shutting (hflags ▸ hflag)
    simp only [hlost] at hu
    exact ⟨y, _, hexec, htick, hmiss, hrole, hflags, honly, hu.imp (congrArg (State.startWaiting · p)) (congrArg (State.startWaiting · p))⟩
  · exact (execHeartbeatPathMiss_of_heard hon hheard).trans (if_pos hearly)
  · obtain ⟨hmiss, href⟩ := State.beatMissed_rl (s := s) (chain := chain)
    refine ⟨s.beatMissed chain, hmiss, href, State.beatMissed_keeps.only_parts rfl, (execHeartbeatPathMiss_of_heard hon hheard).trans ?_⟩
    rw [if_neg (by omega)]
    simp only [Bool.and_eq_true, decide_eq_true_eq]
  · have hlost := State.losePartner_of_held (c := c) hheld
    refine ⟨s.partnerLost c, rfl, fun hrole => ?_, fun hrole hunfit => ?_⟩
    · have hclaims : s.losePartner c = ((s.partnerLost c).claimAll (s.partnerLost c).pairedMask).setRole .solo := by
        rcases hrole with h | ⟨h, hfit⟩
        · rw [hlost, h]
        · rw [hlost, h]
          exact if_pos hfit
      exact ⟨hclaims, by rw [hclaims, State.setRole_rl]⟩
    · rw [hlost, hrole]
      exact if_neg (by simp [hunfit])

end Sys2Proof.Machine
end

section
/-! SUPPORT. What the completion of every command needs beyond the statements of the families: a message of the ACTIVE unit taken, a lost
upstream lane, and a monitor packet lost. -/

namespace Sys2Proof.Machine

/-- The arms of a statement about every command on every state. -/
@[reducible] def armsOf {q : Prop} (arms : Instr → State → Prop) (_ : q = ∀ c s, arms c s) : Instr → State → Prop := arms

/-- What EveryCommandCompletes says of one command on one state. -/
abbrev Completes : Instr → State → Prop := armsOf (q := Obligations.EveryCommandCompletes) _ rfl

section
variable {s x : State}

/-- A message of the ACTIVE unit has its effect on a STANDBY that is not COLD. -/
theorem exec_of_mirrored {c : Instr} {k : Nat} {d b : List Byte} {f : List Byte → State → State}
    (hc : exec c s = .next (s.fromActive k d f))
    (htake : s.relayTake k d = (some b, x)) (hrole : x.rl.role = .standby) (hwarm : x.rl.cold = false) : exec c s = .next (f b x) :=
  ((exec_of_fromActive hc).2 b x htake).1 hrole hwarm

/-- The state as 16 invalid headers have ended the lock of a port's upstream lane (R145), before the port loses that lane. -/
def State.lockLost (s : State) (p : Nat) : State :=
  ((s.feedLock p 16 (false, false)).bump (Reg.upLockLoss p)).ev Ev.laneLockLost [p, 0, 4]

theorem State.length_lockLost {p : Nat} : (s.lockLost p).ports.length = s.ports.length := by
  unfold State.lockLost
  rw [State.ev_keeps.same .ports rfl, State.bump_keeps.same .ports rfl]
  exact State.length_modPort

theorem execUpstreamLockLoss_of_locked {p : Fin 16} (h : (s.port p).lock = true) :
    execUpstreamLockLoss p s = .next ((s.lockLost p).loseUp p) := if_neg (by simp [h])

/-- A monitor packet that the transmit buffer runs dry in is lost, and its frame goes on. -/
theorem State.monDry_eq (rest : List (List Byte)) : ∃ x : State, s.monDry rest = x.elasticLoss 3 ∧ x.net.mon.packets = rest ∧
    x.net.mon.sent = s.net.mon.sent + 1 := by
  unfold State.monDry
  exact ⟨_, rfl, rfl, rfl⟩

end

end Sys2Proof.Machine
end

section
/-! SUPPORT. The commands of the timeline, cues, composition, lamps, pins and the time base complete: each arm is read off the statement
of its family. -/

namespace Sys2Proof.Machine

section
variable {s : State}

theorem cuesFromEverySource_complete :
    (∀ v, Completes (.cueGo v) s) ∧ (∀ v, Completes (.cueFlush v) s) ∧ (∀ v, Completes (.planCue v) s) ∧ Completes .planCueFixPoint s ∧
    (∀ i, Completes (.scheduleOccurrence i) s) ∧ Completes .cueDatagramAccept s ∧ Completes .relayDelayedAccept s := by
  obtain ⟨hgo, hflush, hplan, hfix, hsched, haccept, hdelayed⟩ := cuesFromEverySource s
  refine ⟨?_, ?_, ?_, ?_, ?_, ?_, ?_⟩
  · intro v hv hrole hwarm hwhy
    obtain ⟨-, -, htake, -⟩ := hgo v hv
    obtain ⟨x, hx, hsc, -⟩ := htake hrole hwarm hwhy
    exact ⟨x, hx, hsc⟩
  · intro v hv
    obtain ⟨x, hx, hsc, -⟩ := hflush v hv
    exact ⟨x, hx, hsc⟩
  · intro v hrole hwarm w hwhy hnum hstep hpend
    obtain ⟨htake, -⟩ := hplan v hrole hwarm
    obtain ⟨x, hx, -, ⟨c, hc, hcn, -, -, hcb⟩, -⟩ := htake hwhy hnum hstep hpend
    exact ⟨x, hx, c, hc, hcn, hcb⟩
  · intro hpend hfree hdue
    obtain ⟨t, ht, htl, -⟩ := hfix hpend hfree hdue
    exact ⟨t, ht, htl⟩
  · intro i e m a he hm ha hnew hvalid hserv
    obtain ⟨x, hsc, -, hx⟩ := hsched i e m a he hm ha hnew
    rw [if_pos (by simp [hvalid, hserv])] at hx
    exact ⟨x, hx, hsc⟩
  · exact haccept
  · intro d rest c hq hdue hwhat
    obtain ⟨x, hnet, -, hcue, -⟩ := hdelayed d rest hq hdue
    exact ⟨x, hcue c hwhat, hnet⟩

theorem fencesAndSceneQueries_complete :
    (∀ n v, Completes (.hsFenceHiWrite n v) s) ∧ (∀ n v, Completes (.hsFenceLoWrite n v) s) ∧
    (∀ v, Completes (.sceneQueryWrite v) s) := by
  refine ⟨?_, ?_, ?_⟩
  · intro n v
    obtain ⟨hhi, -⟩ := fencesAndSceneQueries s v
    exact hhi n
  · intro n v hn hup
    obtain ⟨-, hlo, -⟩ := fencesAndSceneQueries s v
    obtain ⟨-, hlo, -⟩ := hlo n hn
    obtain ⟨t, ht, hfence, -⟩ := hlo hup
    exact ⟨t, ht, by rw [hfence], by rw [hfence], by rw [hfence]⟩
  · intro v
    obtain ⟨-, -, t, ht, hrw, -⟩ := fencesAndSceneQueries s v
    rw [hrw] at ht
    exact ht

theorem lampsAndTilesByTimeAndSoftware_complete :
    (∀ v, Completes (.lampRecheck v) s) ∧ (∀ v, Completes (.lampWatchWrite v) s) ∧ Completes .probeCountSecond s ∧
    (∀ p q, Completes (.tileTempStale p q) s) ∧ Completes .delayRecompute s := by
  obtain ⟨hcheck, -, hwatch, hprobe, hstale, -⟩ := lampsAndTilesByTimeAndSoftware s
  refine ⟨?_, ?_, ?_, ?_, ?_⟩
  · intro v hmay
    exact (hcheck v).2 hmay
  · intro v hwf
    obtain ⟨t, ht, htl, hrw, -⟩ := hwatch v
    exact ⟨t, ht, htl, hrw hwf⟩
  · intro hserv hdue
    obtain ⟨t, ht, htiles, -⟩ := hprobe hserv hdue
    exact ⟨t, ht, htiles⟩
  · intro p q t ht hadm hfresh htends hdue
    obtain ⟨-, hstale⟩ := hstale p q t ht
    obtain ⟨u, hu, htiles, -⟩ := hstale hadm hfresh htends hdue
    exact ⟨u, hu, htiles⟩
  · obtain ⟨-, -, -, -, -, x, hx, -, htiles⟩ := lampsAndTilesByTimeAndSoftware s
    exact ⟨x, hx, htiles⟩

theorem legBoundaries_complete :
    Completes .legBoundary s := by
  obtain ⟨-, hgo⟩ := legBoundaries s
  intro hon hdue hleg
  obtain ⟨hgo, -⟩ := hgo hon hdue
  obtain ⟨t, ht, hlegs, hlap, hnext, hat, -⟩ := hgo hleg
  exact ⟨t, ht, hlegs, hlap, hnext, hat⟩

theorem pinsLapFramesAndDeadlines_complete :
    (∀ leg, Completes (.pinPulseStart leg) s) ∧ (∀ leg, Completes (.pinPulseEnd leg) s) ∧ (∀ p, Completes (.lapFrameSend p) s) ∧
    (∀ p q j k, Completes (.sendDeadline p q j k) s) := by
  obtain ⟨hstart, hend, -, hlap, hlate⟩ := pinsLapFramesAndDeadlines s
  refine ⟨?_, ?_, ?_, ?_⟩
  · intro leg p hfind hon
    obtain ⟨-, hstart⟩ := hstart leg p hfind
    obtain ⟨x, hx, -, hpulses, -⟩ := hstart hon
    exact ⟨x, hx, hpulses⟩
  · intro leg k hpin hdue
    cases leg with
    | true => exact (hend k).1 hpin hdue
    | false => exact (hend k).2 hpin hdue
  · intro p l hp hon hup hdrives hloud hfind hfrom hto
    obtain ⟨hlap, -⟩ := hlap p l hp hon hup hdrives hloud hfind
    obtain ⟨t, f, ht, hport, hkind, -⟩ := hlap ⟨hfrom, hto⟩
    exact ⟨t, f, ht, hport, hkind⟩
  · intro p q j k t ht hon hj hunsent hdue
    obtain ⟨-, hlate⟩ := hlate p q j k t ht
    obtain ⟨u, hu, htiles, -⟩ := hlate hon hj hunsent hdue
    exact ⟨u, hu, htiles⟩

theorem compositionAndMonitor_complete :
    (∀ v b, Completes (.blockCorrectionDue v b) s) ∧ (∀ v, Completes (.viewComposeDone v) s) ∧ Completes .monitorPacketSend s := by
  obtain ⟨hcompose, hlate, -, hsend⟩ := compositionAndMonitor s
  refine ⟨?_, ?_, ?_⟩
  · intro v b l r hl hr hv hnew
    obtain ⟨-, hlate⟩ := hlate v b
    obtain ⟨-, hlate⟩ := hlate l r hl hr hv
    obtain ⟨x, t, ht, heq, hlatch, hcheck, -⟩ := hlate hnew
    exact ⟨x, t, ht, heq, hlatch, hcheck⟩
  · intro v l r hl hr hopen hchanged hpulled hv
    obtain ⟨-, hcompose⟩ := hcompose v
    obtain ⟨-, hcompose⟩ := hcompose l r hl hr
    obtain ⟨t, k, ht, hcanvas, -, hbuf, hlatch, hdone, -⟩ := hcompose hopen hchanged hpulled hv
    exact ⟨t, k, ht, hcanvas, hbuf, hlatch, hdone⟩
  · intro p rest hpackets hruns hdue
    obtain ⟨-, -, hsend⟩ := hsend p rest hpackets
    obtain ⟨x, hnet, -, ht⟩ := hsend hruns hdue
    obtain ⟨y, hlost, hrest, hsent⟩ := State.monDry_eq (s := s.draw.2) rest
    cases hdry : s.draw.1.getLsbD 0 with
    | true =>
      rw [hdry, if_pos rfl] at ht
      exact ⟨y, _, ht, .inr hlost, hrest, hsent⟩
    | false =>
      rw [hdry, if_neg nofun] at ht
      exact ⟨x, _, ht, .inl rfl, by rw [hnet], by rw [hnet]⟩

theorem restepsAndSources_complete :
    (∀ v, Completes (.tbRestep v) s) ∧ Completes .restepDecisionPoint s ∧ Completes .sourceRevertTimer s := by
  obtain ⟨hask, hdecide, hstays, hlost, hnew⟩ := restepsAndSources s
  refine ⟨?_, ?_, ?_⟩
  · intro v hlarge hon hstage hstep hheld hfixed htl
    obtain ⟨-, hask⟩ := hask v
    obtain ⟨-, hask⟩ := hask hlarge hon hstage hstep hheld
    obtain ⟨t, ht, hb, hgo, -⟩ := hask hfixed htl
    exact ⟨t, ht, hb, hgo⟩
  · intro b hstep hgo hdue
    obtain ⟨hdrop, hkeep⟩ := hdecide b hstep hgo hdue
    rcases Nat.lt_or_ge s.tb.est.natAbs 1000 with hsmall | hlarge
    · obtain ⟨t, ht, htl, -⟩ := hdrop hsmall
      exact ⟨t, ht, by rw [htl, decide_eq_false (by omega)]⟩
    · exact ⟨_, hkeep hlarge, by rw [decide_eq_true hlarge]⟩
  · intro hmay
    rcases eq_or_ne s.nextSel s.tb.sel with hsame | hdiff
    · exact ⟨_, hstays hsame, hsame.symm⟩
    cases hnext : s.nextSel with
    | zero =>
      obtain ⟨t, ht, htb, -⟩ := hlost hdiff hnext
      exact ⟨t, ht, by rw [htb]⟩
    | succ n =>
      obtain ⟨t, ht, hsel, -⟩ := hnew n hnext (hnext ▸ hdiff) (hmay.resolve_left (by omega))
      exact ⟨t, ht, hsel⟩

theorem counterReadsAndReferencePulses_complete :
    Completes .tbNowNsRead s ∧ (∀ w ph, Completes (.laprefPulse w ph) s) ∧ Completes .laprefEdgeTimeout s := by
  obtain ⟨htbNowNsRead, hpulse, htimeout⟩ := counterReadsAndReferencePulses s
  refine ⟨?_, ?_, ?_⟩
  · obtain ⟨t, ht, hout, -, -, -, -, -, htb, -⟩ := htbNowNsRead
    exact ⟨t, ht, hout, htb⟩
  · intro w ph hsym hdecoded hword hedge
    obtain ⟨-, -, hfirst⟩ := hpulse w ph
    obtain ⟨t, ht, htick, hrun, -, hword, -⟩ := hfirst hsym hdecoded hword hedge
    exact ⟨t, ht, htick, hrun, hword⟩
  · intro k hedge hdue hrun
    obtain ⟨x, hx, htb, -⟩ := htimeout k hedge hdue hrun
    exact ⟨x, hx, htb⟩

theorem ptpMessagesTaken_complete :
    (∀ i d, Completes (.ptpAnnounce i d) s) ∧ (∀ i d ph, Completes (.ptpSync i d ph) s) ∧ (∀ i d, Completes (.ptpFollowUp i d) s) ∧
    (∀ i d, Completes (.ptpDelayResp i d) s) ∧ (∀ i d ph, Completes (.ptpPdelayReq i d ph) s) ∧
    (∀ i d ph, Completes (.ptpPdelayResp i d ph) s) ∧ (∀ i d, Completes (.ptpPdelayRespFollowUp i d) s) ∧
    (∀ i d, Completes (.ptpManagement i d) s) ∧ (∀ i d, Completes (.ptpSignaling i d) s) := by
  refine ⟨?_, ?_, ?_, ?_, ?_, ?_, ?_, ?_, ?_⟩
  · intro i d a h hi ha hd hdomain htype hknown
    obtain ⟨-, hmsg⟩ := ptpMessagesTaken s i 0 a d hi
    obtain ⟨-, -, -, hmsg⟩ := hmsg h hd
    obtain ⟨hannounce, -⟩ := hmsg hdomain
    obtain ⟨-, htake⟩ := hannounce htype ha
    obtain ⟨m, hclock, hport, hprio, -, -, -, -, htick, ht⟩ := htake (.inl (by
      simp only [List.any_eq_true, List.mem_filter] at hknown ⊢
      obtain ⟨x, hx, hsame⟩ := hknown
      exact ⟨x, ⟨hx, by simp [hsame]⟩, hsame⟩))
    exact ⟨m, _, ht, hclock, hport, hprio, htick⟩
  · intro i d ph a h hi hd hdomain htype hsel hlo hhi
    obtain ⟨-, hmsg⟩ := ptpMessagesTaken s i ph a d hi
    obtain ⟨-, -, -, hmsg⟩ := hmsg h hd
    obtain ⟨-, hsync, -⟩ := hmsg hdomain
    obtain ⟨-, htake⟩ := hsync htype
    obtain ⟨htwo, hone⟩ := htake hsel hlo hhi
    cases hstep : h.twoStep with
    | true => exact htwo hstep
    | false => exact hone hstep
  · intro i d a h r hi hd hdomain htype hsync hsel hseq hwaits
    obtain ⟨-, hmsg⟩ := ptpMessagesTaken s i 0 a d hi
    obtain ⟨-, -, -, hmsg⟩ := hmsg h hd
    obtain ⟨-, -, hfollow, -⟩ := hmsg hdomain
    exact hfollow htype r hsync hsel hseq hwaits
  · intro i d a h t3 t1 t2 hi hd hdomain htype ht3 hlast hmode hsel hme hseq
    obtain ⟨-, hmsg⟩ := ptpMessagesTaken s i 0 a d hi
    obtain ⟨-, -, -, hmsg⟩ := hmsg h hd
    obtain ⟨-, -, -, hresp, -⟩ := hmsg hdomain
    exact hresp htype t3 t1 t2 ht3 hlast hmode hsel hme hseq
  · intro i d ph a h hi hd hdomain htype hmode
    obtain ⟨-, hmsg⟩ := ptpMessagesTaken s i ph a d hi
    obtain ⟨-, -, -, hmsg⟩ := hmsg h hd
    obtain ⟨-, -, -, -, -, -, hreq⟩ := hmsg hdomain
    exact (hreq htype).2 hmode
  · intro i d ph a h t1 hi hd hdomain htype ht1 hmode hme hseq
    obtain ⟨-, hmsg⟩ := ptpMessagesTaken s i ph a d hi
    obtain ⟨-, -, -, hmsg⟩ := hmsg h hd
    obtain ⟨-, -, -, -, hresp, -⟩ := hmsg hdomain
    exact hresp htype t1 ht1 hmode hme hseq
  · intro i d a h t1 r2 hi hd hdomain htype ht1 hr2 hmode hme hseq
    obtain ⟨-, hmsg⟩ := ptpMessagesTaken s i 0 a d hi
    obtain ⟨-, -, -, hmsg⟩ := hmsg h hd
    obtain ⟨-, -, -, -, -, hfollow, -⟩ := hmsg hdomain
    exact hfollow htype t1 r2 ht1 hr2 hmode hme hseq
  · intro i d a h hi hd
    obtain ⟨-, hmsg⟩ := ptpMessagesTaken s i 0 a d hi
    exact (hmsg h hd).1
  · intro i d a h hi hd
    obtain ⟨-, hmsg⟩ := ptpMessagesTaken s i 0 a d hi
    exact (hmsg h hd).2.1

theorem ptpMeasuringAndTimeouts_complete :
    (∀ a ph, Completes (.delayReqSend a ph) s) ∧ (∀ a ph, Completes (.pdelayReqSend a ph) s) ∧
    (∀ a, Completes (.announceReceiptTimeout a) s) ∧ (∀ a, Completes (.syncIntervalMiss a) s) := by
  refine ⟨?_, ?_, ?_, ?_⟩
  · intro a ph ha hon hmode hsel hdue
    obtain ⟨-, -, -, hreq, -⟩ := ptpMeasuringAndTimeouts s a ha
    obtain ⟨x, hx, hslot, -⟩ := hreq ph hon hmode hsel hdue
    exact ⟨x, hx, by rw [hslot], by rw [hslot]⟩
  · intro a ph ha hon hmode hdue
    obtain ⟨-, -, -, -, hreq, -⟩ := ptpMeasuringAndTimeouts s a ha
    obtain ⟨x, hx, hslot, -⟩ := hreq ph hon hmode hdue
    exact ⟨x, hx, by rw [hslot], by rw [hslot]⟩
  · intro a m ha hfind hlate
    obtain ⟨-, -, -, -, -, hlost, -⟩ := ptpMeasuringAndTimeouts s a ha
    obtain ⟨-, hlost⟩ := hlost m hfind
    obtain ⟨x, hx, hslot, -, -, hqual⟩ := hlost hlate
    exact ⟨x, hx, by rw [hslot], hqual⟩
  · intro a ha hsel hdue
    obtain ⟨-, -, -, -, -, -, hmiss⟩ := ptpMeasuringAndTimeouts s a ha
    obtain ⟨t, ht, hgood, hmissed, hqual, -⟩ := hmiss hsel hdue
    exact ⟨t, ht, hgood, hmissed, hqual⟩

end

end Sys2Proof.Machine
end

section
/-! SUPPORT. The commands of the host port, staging, the register writes, the network and HBM complete: each arm is read off the statement
of its family. -/

namespace Sys2Proof.Machine

section
variable {s : State}

theorem registerWritesByTheirFields_complete :
    (∀ who off first last data, Completes (.registerWrite who off first last data) s) := by
  intro who off first last data
  obtain ⟨hwrite, -⟩ := registerWritesByTheirFields
  exact hwrite s who off first last data

theorem hbmWindow_complete :
    (∀ addr len, Completes (.bar2Read addr len) s) ∧ (∀ addr data, Completes (.bar2Write addr data) s) := by
  refine ⟨?_, ?_⟩
  · intro addr len hlen haddr hgo
    obtain ⟨hread, -⟩ := hbmWindow s addr
    obtain ⟨-, hread⟩ := hread len hlen haddr
    obtain ⟨t, ht, -, ⟨bad, hout, -⟩, -⟩ := hread hgo
    exact ⟨t, ht, bad, hout⟩
  · intro addr data hwf hlimp htop hdata hopen hgo
    obtain ⟨-, hwrite⟩ := hbmWindow s addr
    obtain ⟨hwrite, -⟩ := hwrite data hwf hlimp htop hdata
    obtain ⟨-, hwrite⟩ := hwrite hopen
    obtain ⟨t, ht, -, hbytes⟩ := hwrite hgo
    exact ⟨t, ht, hbytes⟩

theorem hostLinkAndAttachment_complete :
    (∀ v, Completes (.attach v) s) ∧ (∀ v, Completes (.detach v) s) ∧
    (∀ speed width flit conf, Completes (.pcieLinkTrained speed width flit conf) s) ∧ Completes .pcieLinkDown s ∧
    Completes .functionLevelReset s ∧ Completes .hotReset s ∧ Completes .d3hotEntry s ∧ Completes .busMasterEnableClear s ∧
    Completes .pePerstAssert s ∧ Completes .pePerstRelease s := by
  obtain ⟨htrained, hdown, hleave, hrelease, hattach⟩ := hostLinkAndAttachment s
  refine ⟨?_, ?_, ?_, ?_, ?_, ?_, ?_, ?_, ?_, ?_⟩
  · intro v hwf hv hfree hok
    obtain ⟨hattach, -⟩ := hattach v hwf hv hfree
    obtain ⟨t, ht, hhost, hci, -⟩ := hattach hok
    exact ⟨t, ht, hhost, hci⟩
  · intro v hv
    obtain ⟨t, ht, hfree, -, -, -, -, hpulls, -⟩ := hleave _ (.inr (.inr (.inr ⟨v, hv, rfl⟩)))
    exact ⟨t, ht, hfree, hpulls⟩
  · intro speed width flit conf hrail hperst hok
    obtain ⟨t, ht, hlink, hspeed, hwidth, hflit, hconf, -⟩ := htrained speed width flit conf hrail hperst hok
    exact ⟨t, ht, hlink, hspeed, hwidth, hflit, hconf⟩
  · obtain ⟨t, ht, hlink, -, -, hconf, -, hfree, -⟩ := hdown _ (.inl rfl)
    exact ⟨t, ht, hlink, hfree, hconf⟩
  · obtain ⟨t, ht, hfree, hlink, hreset, -⟩ := hleave _ (.inl rfl)
    obtain ⟨hconf, hd0⟩ := hreset rfl
    exact ⟨t, ht, hconf, hd0, hfree, hlink⟩
  · obtain ⟨t, ht, hlink, -, -, hconf, -, hfree, -⟩ := hdown _ (.inr (.inl rfl))
    exact ⟨t, ht, hlink, hfree, hconf⟩
  · obtain ⟨t, ht, hfree, -, -, -, hd3, -⟩ := hleave _ (.inr (.inr (.inl rfl)))
    exact ⟨t, ht, hd3 rfl, hfree⟩
  · obtain ⟨t, ht, hfree, -, -, hmaster, -⟩ := hleave _ (.inr (.inl rfl))
    exact ⟨t, ht, hmaster rfl, hfree⟩
  · obtain ⟨t, ht, hlink, -, -, hconf, -, hfree, hperst, -⟩ := hdown _ (.inr (.inr rfl))
    exact ⟨t, ht, hperst.2 (.inr rfl), hlink, hfree, hconf⟩
  · intro hperst
    obtain ⟨t, ht, hhost, -⟩ := hrelease hperst
    exact ⟨t, ht, hhost⟩

theorem hostSurfacePulls_complete :
    (∀ n st data, Completes (.pullCompletionRx n st data) s) ∧ (∀ n, Completes (.pullCompletionTimeout n) s) ∧
    (∀ n, Completes (.hsPullComplete n) s) := by
  refine ⟨?_, ?_, ?_⟩
  · intro n st data p r a hpull hrec hlen hst haddr hline hsent hdata
    obtain rfl : st = 0 := Fin.ext hst
    obtain ⟨-, htake, -⟩ := hostSurfacePulls s n p r hpull hrec hlen
    obtain ⟨t, ht, hpull, -, hslots, -⟩ := htake a data haddr hline hsent hdata
    exact ⟨t, ht, hpull, hslots⟩
  · intro n p r hpull hrec hlen hlacks
    obtain ⟨-, -, hfail, -⟩ := hostSurfacePulls s n p r hpull hrec hlen
    obtain ⟨t, -, -, ht, -, hpull, -, hslots, -⟩ := hfail _ hlacks (.inl rfl)
    exact ⟨t, ht, hpull, hslots⟩
  · intro n p r a hpull hrec hlen haddr hfull
    obtain ⟨-, -, -, hdone⟩ := hostSurfacePulls s n p r hpull hrec hlen
    obtain ⟨t, ht, hpull, hslots, -⟩ := hdone a haddr hfull
    exact ⟨t, ht, hpull, hslots⟩

theorem stagingPasses_complete :
    (∀ v, Completes (.stageGo v) s) ∧ (∀ v, Completes (.stageAbort v) s) ∧ (∀ es data fail, Completes (.stagePullDone es data fail) s) ∧
    Completes .stageCheckDone s ∧ Completes .stageEraseResume s ∧ (∀ run, Completes (.stageEraseDone run) s) ∧
    (∀ run, Completes (.stageProgramDone run) s) ∧ Completes .stageVerifyDone s := by
  obtain ⟨hgo, habort, hpull, hcheck, hresume, herase, hprog, hverify, -⟩ := stagingPasses s
  refine ⟨?_, ?_, ?_, ?_, ?_, ?_, ?_, ?_⟩
  · intro v hidle hatt hmem hlo hhi hv
    obtain ⟨t, ht, hstage, -⟩ := hgo v hidle hatt hmem hlo hhi hv
    exact ⟨t, ht, hstage⟩
  · intro v hruns hv hquiet
    obtain ⟨habort, -⟩ := habort v hruns hv
    obtain ⟨t, ht, hst, hcode, -⟩ := habort hquiet
    exact ⟨t, ht, hst, hcode⟩
  · intro es data fail hpulling hatt
    obtain ⟨hlist, -, hfail⟩ := hpull hpulling hatt
    cases fail with
    | true =>
      obtain ⟨t, ht, hst, hcode, -⟩ := hfail es data
      exact ⟨t, ht, fun _ => ⟨hst, hcode⟩, nofun⟩
    | false =>
      by_cases hgood : s.host.stage.list = [] ∧ stageListOk es = true ∧ es.length = s.stageCount ∧ listBytes es ≠ 0 ∧
          listBytes es ≤ max (s.slotSize 1) (s.slotSize 3)
      · obtain ⟨hnone, hok, hcount, hsome, hfits⟩ := hgood
        obtain ⟨t, ht, hstage, -⟩ := hlist es data hnone hok hcount hsome hfits
        exact ⟨t, ht, nofun, fun _ _ _ _ _ _ => hstage⟩
      · obtain ⟨t, ht⟩ := (commandsAnswerAState (.stagePullDone es data false) s).resolve_right nofun
        exact ⟨t, ht, nofun, fun _ hnone hok hcount hsome hfits => absurd ⟨hnone, hok, hcount, hsome, hfits⟩ hgood⟩
  · intro hchecking hgo hok htrial
    obtain ⟨hcheck, -⟩ := hcheck hchecking hgo
    obtain ⟨t, ht, hstage, -⟩ := hcheck hok htrial
    exact ⟨t, ht, by rw [hstage], by rw [hstage], by rw [hstage]⟩
  · intro hchecking hwait hclear
    obtain ⟨t, ht, hstage, -⟩ := hresume hchecking hwait hclear
    exact ⟨t, ht, hstage⟩
  · intro run a left hop hthawed hgoes
    obtain ⟨n, ok⟩ := run
    obtain ⟨hlast, hmore, hfail⟩ := herase a left n false hop hthawed hgoes
    cases ok with
    | true =>
      rcases Nat.lt_or_ge (max 1 n) left with hlt | hle
      · obtain ⟨t, ht, -, hflash, -⟩ := hmore hlt
        exact ⟨t, ht, nofun, fun _ hle => absurd hle (Nat.not_le.2 hlt), fun _ _ => hflash⟩
      · obtain ⟨t, ht, hstage, hflash, -⟩ := hlast hle
        exact ⟨t, ht, nofun, fun _ _ => ⟨hstage, hflash⟩, fun _ hlt => absurd hlt (Nat.not_lt.2 hle)⟩
    | false =>
      obtain ⟨t, ht, -, hnvm, -⟩ := hfail rfl
      exact ⟨t, ht, fun _ => hnvm, nofun, nofun⟩
  · intro run a b hop hthawed hgoes
    obtain ⟨n, ok⟩ := run
    obtain ⟨hlast, hmore, hfail⟩ := hprog a n b false hop hthawed hgoes
    cases ok with
    | true =>
      rcases Nat.lt_or_ge (256 * max 1 n) b.length with hlt | hle
      · obtain ⟨t, ht, -, hflash, -⟩ := hmore hlt
        exact ⟨t, ht, nofun, fun _ hle => absurd hle (Nat.not_le.2 hlt), fun _ _ => hflash⟩
      · obtain ⟨t, ht, hstage, hflash, -⟩ := hlast hle
        exact ⟨t, ht, nofun, fun _ _ => ⟨hstage, hflash⟩, fun _ hlt => absurd hlt (Nat.not_lt.2 hle)⟩
    | false =>
      obtain ⟨t, ht, -, hnvm, -⟩ := hfail rfl
      exact ⟨t, ht, fun _ => hnvm, nofun, nofun⟩
  · intro r hop hthawed
    obtain ⟨t, ht, hsame, hdiff⟩ := hverify r hop hthawed
    refine ⟨t, ht, fun h => (hsame h).1, fun h => ?_⟩
    obtain ⟨hst, hcode, -⟩ := hdiff h
    exact ⟨hst, hcode⟩

theorem hostRingTakesRecordsInOrder_complete :
    Completes .hostRingWrite s ∧ Completes .indexBlockTimer s := by
  obtain ⟨hring, -, hindex⟩ := hostRingTakesRecordsInOrder s
  refine ⟨?_, ?_⟩
  · intro r rest hatt hspace hq hold hdrop
    obtain ⟨t, ht, hrest, hpi, -⟩ := hring r rest hatt hspace hq hold hdrop
    exact ⟨t, ht, hrest, hpi⟩
  · intro hatt hdue
    obtain ⟨t, ht, htick, -, -, hout⟩ := hindex hatt hdue
    exact ⟨t, ht, htick, hout⟩

theorem ethernetFramesIn_complete :
    (∀ i rx d, Completes (.ethFrameRx i rx d) s) ∧ (∀ i d, Completes (.arpRequest i d) s) ∧
    (∀ i up hi, Completes (.ethLinkChange i up hi) s) := by
  refine ⟨?_, ?_, ?_⟩
  · intro i rx d hon hroom hplain hgood hmin hmax hfcs htype
    obtain ⟨-, hframe, -⟩ := ethernetFramesIn s i
    obtain ⟨-, -, hframe⟩ := hframe hon rx d
    obtain ⟨hframe, -⟩ := hframe hroom ⟨hgood, hmin, hmax, hfcs, htype⟩
    exact hframe hplain
  · intro i d hlen hhw hproto hhwlen hplen hop hip hset
    obtain ⟨-, -, -, harp, -⟩ := ethernetFramesIn s i
    obtain ⟨-, hanswer⟩ := harp d
    exact hanswer ⟨hlen, hhw, hproto, hhwlen, hplen, hop, hip, hset⟩
  · intro i up hi hon hdown hup
    obtain ⟨-, -, -, -, hlink⟩ := ethernetFramesIn s i
    exact (hlink hon up hi).2.1 hdown hup

theorem groupQueriesAndTimers_complete :
    (∀ i d, Completes (.igmpQuery i d) s) ∧ (∀ i, Completes (.igmpReportTimer i) s) ∧ (∀ f sec, Completes (.flowPathTimeout f sec) s) ∧
    (∀ f, Completes (.flowLeaveTimer f) s) := by
  obtain ⟨hquery, hreport, hleave, hpath⟩ := groupQueriesAndTimers s
  refine ⟨?_, ?_, ?_, ?_⟩
  · intro i d htype hlen hsum hon
    obtain ⟨-, hanswer, -⟩ := hquery i d
    exact hanswer ⟨htype, by omega, hsum, hon⟩ hlen
  · intro i
    obtain ⟨x, rfl, hx⟩ := hreport i
    exact hx
  · intro f sec hf halive hdue
    obtain ⟨hsec, hpri⟩ := hpath f hf
    cases sec with
    | true =>
      obtain ⟨t, ht, hdead, -⟩ := hsec halive hdue
      exact ⟨t, ht, hdead⟩
    | false =>
      obtain ⟨t, ht, hdead, -⟩ := hpri halive hdue
      exact ⟨t, ht, hdead⟩
  · intro f k hunused hdue hunwanted hf
    obtain ⟨x, hx, hpri, hsec, -, -, hrx, -⟩ := hleave f k hunused hdue hunwanted hf
    exact ⟨x, hx, hpri, hsec, hrx⟩

theorem flowPacketsAndFrames_complete :
    (∀ f sec d, Completes (.flowPacketRx f sec d) s) ∧ (∀ f, Completes (.flowFrameClose f) s) := by
  refine ⟨?_, ?_⟩
  · intro f sec d r p n hr hf hp hvalid hpt hjoined hssrc hnewest hback hsingle hframe hnew
    obtain ⟨hpacket, -⟩ := flowPacketsAndFrames s f r hr hf
    obtain ⟨-, hpacket⟩ := hpacket sec d p hp
    obtain ⟨-, hpacket⟩ := hpacket hvalid hpt hjoined
    obtain ⟨x, -, hrx, hts, -, hx⟩ := hpacket n hssrc hnewest hback hsingle
    rw [if_neg (by simp [hframe, hnew])] at hx
    exact ⟨x, hx, hrx, hts⟩
  · intro f r x hr hf hdue hbuf
    obtain ⟨-, hclose, -⟩ := flowPacketsAndFrames s f r hr hf
    obtain ⟨y, hy, hdrop, hconceal⟩ := hclose x hdue hbuf
    cases hc : r.conceal with
    | true => exact (hconceal hc) ▸ hy
    | false => exact (hdrop hc) ▸ hy

theorem cueDatagramChecks_complete :
    (∀ i d, Completes (.cueDatagramRx i d) s) := by
  intro i d hon hport hformed htag hdev htime hwindow hnewer
  obtain ⟨-, hdg⟩ := cueDatagramChecks s i d hon hport
  obtain ⟨-, hdg⟩ := hdg hformed
  obtain ⟨-, hdg⟩ := hdg htag
  obtain ⟨-, hdg⟩ := hdg hdev
  obtain ⟨-, hdg⟩ := hdg htime
  obtain ⟨t, ht, hqueue, -, hcnt, -⟩ := hdg hwindow hnewer
  exact ⟨t, ht, hqueue, hcnt⟩

theorem controllersServe_complete :
    (∀ port addr write level busy, Completes (.memRequest port addr write level busy) s) ∧
    (∀ p sev hit, Completes (.memReadBurst p sev hit) s) ∧ (∀ p, Completes (.refreshDue p) s) ∧
    (∀ p b, Completes (.pageIdleTimeout p b) s) ∧ (∀ p c, Completes (.parityAlert p c) s) ∧
    (∀ p again, Completes (.parityAlertClear p again) s) := by
  refine ⟨?_, ?_, ?_, ?_, ?_, ?_⟩
  · intro port addr write level busy hpcs hstks hok haddr hstack hlevel hroom
    obtain ⟨hreq, -⟩ := controllersServe s hpcs hstks
    obtain ⟨t, ht, hqueue, -⟩ := hreq port addr write level busy hok haddr hstack hlevel hroom
    exact ⟨t, ht, hqueue⟩
  · intro p sev hit r rest hpcs hstks hflight
    obtain ⟨-, hburst, -⟩ := controllersServe s hpcs hstks
    obtain ⟨t, ht, hrest, -⟩ := hburst p sev hit r rest hflight
    exact ⟨t, ht, hrest⟩
  · intro p hpcs hstks hruns hdue hfree
    obtain ⟨-, -, hrefresh, -⟩ := controllersServe s hpcs hstks
    obtain ⟨t, ht, -, hpc, -⟩ := hrefresh p hruns hdue
    exact ⟨t, ht, hpc.trans (if_pos (.inl (.inl hfree)))⟩
  · intro p b o ho hpcs hstks hruns hbank hidle
    obtain ⟨-, -, -, hpage, -⟩ := controllersServe s hpcs hstks
    obtain ⟨t, ht, hrows, -⟩ := hpage p b hruns ⟨o, ho, hbank, hidle⟩
    exact ⟨t, ht, hrows⟩
  · intro p c hpcs hstks hok hfree hc
    obtain ⟨-, -, -, -, halert, -⟩ := controllersServe s hpcs hstks
    obtain ⟨t, ht, hpc, -⟩ := halert p c hok hfree hc
    exact ⟨t, ht, by rw [hpc], by rw [hpc]⟩
  · rintro p again cs hpcs hstks halert rfl
    obtain ⟨-, -, -, -, -, hclear⟩ := controllersServe s hpcs hstks
    obtain ⟨⟨t, ht, hpc, -⟩, -⟩ := hclear p cs halert
    exact ⟨t, ht, hpc⟩

theorem stacksAndCalibration_complete :
    (∀ st v, Completes (.stackTempReading st v) s) ∧ (∀ st, Completes (.stackReadTimeout st) s) ∧
    (∀ st step, Completes (.stackQuiet st step) s) ∧ (∀ st need, Completes (.stackWake st need) s) ∧
    (∀ st, Completes (.stackExitDone st) s) ∧ (∀ p, Completes (.trimSlotDue p) s) ∧
    (∀ p found eye centre, Completes (.trimSlotEnd p found eye centre) s) ∧
    (∀ eyes fails base place, Completes (.hbmTrainingDone eyes fails base place) s) := by
  refine ⟨?_, ?_, ?_, ?_, ?_, ?_, ?_, ?_⟩
  · intro st v hpcs hstks hread hdue
    obtain ⟨htemp, -⟩ := stacksAndCalibration s hpcs hstks
    obtain ⟨x, ms, hx, htemp, htick, -⟩ := htemp st v hread hdue
    exact ⟨x, ms, hx, htemp, htick⟩
  · intro st hpcs hstks hread hdue
    obtain ⟨-, hlate, -⟩ := stacksAndCalibration s hpcs hstks
    obtain ⟨x, hx, hhot, -⟩ := hlate st hread hdue
    exact ⟨x, hx, hhot⟩
  · intro st step hpcs hstks hrest
    obtain ⟨-, -, hquiet, -⟩ := stacksAndCalibration s hpcs hstks
    obtain ⟨t, ht, hphase, hstep, -⟩ := hquiet st step hrest
    exact ⟨t, ht, hphase, hstep⟩
  · rintro st need hpcs hstks rfl hphase hdue
    obtain ⟨-, -, -, hwake, -⟩ := stacksAndCalibration s hpcs hstks
    obtain ⟨t, ht, hexit, -⟩ := hwake st hphase hdue
    exact ⟨t, ht, hexit⟩
  · intro st hpcs hstks hphase
    obtain ⟨-, -, -, -, hexit, -⟩ := stacksAndCalibration s hpcs hstks
    obtain ⟨t, ht, hdown, -, -, howed, -⟩ := hexit st hphase
    exact ⟨t, ht, hdown, fun p hp => (howed p hp).1⟩
  · intro p hpcs hstks hok hp hfree hdue hslot
    obtain ⟨-, -, -, -, -, hdue', -⟩ := stacksAndCalibration s hpcs hstks
    obtain ⟨t, ht, hpc, -⟩ := hdue' p hok hp hfree hdue hslot
    exact ⟨t, ht, hpc⟩
  · intro p found eye centre t0 hpcs hstks hwf hslot hdue heye
    obtain ⟨-, -, -, -, -, -, hend, -⟩ := stacksAndCalibration s hpcs hstks
    obtain ⟨hlost, hfound⟩ := hend p t0 eye centre hwf hslot hdue
    cases found with
    | true =>
      obtain ⟨t, ht, hfree, hstatus, -⟩ := hfound (heye.resolve_left nofun)
      exact ⟨t, ht, hfree, hstatus⟩
    | false =>
      obtain ⟨t, ht, hfree, hstatus, -⟩ := hlost
      exact ⟨t, ht, hfree, hstatus⟩
  · rintro eyes fails base place hpcs hstks hstage hopen hdown hup heyes rfl
    obtain ⟨-, -, -, -, -, -, -, htrain⟩ := stacksAndCalibration s hpcs hstks
    obtain ⟨t, ht, hok, -, hstks, -⟩ := htrain eyes base place hstage hopen hdown hup heyes
    exact ⟨t, ht, hok, hstks⟩

end

end Sys2Proof.Machine
end

section
/-! SUPPORT. The commands of events, faults, the NVM, the fabric, security, the starting blocks and power complete: each arm is read off
the statement of its family. -/

namespace Sys2Proof.Machine

section
variable {s : State}

theorem popAndDone_complete :
    (∀ who c v, Completes (.evtPop who c v) s) ∧ (∀ who c v, Completes (.evtDone who c v) s) := by
  refine ⟨?_, ?_⟩
  · rintro who c v k r rest rfl hwf hcores hv hq
    obtain ⟨hpop, -⟩ := popAndDone s k c v hwf hcores
    obtain ⟨t, ht, hqueue, -, hactive, -⟩ := hpop r rest hv hq
    exact ⟨t, ht, hqueue, hactive⟩
  · rintro who c v k rfl hwf hcores hv hactive
    obtain ⟨-, hdone, -⟩ := popAndDone s k c v hwf hcores
    obtain ⟨t, ht, hactive, -⟩ := hdone hv hactive
    exact ⟨t, ht, hactive⟩

theorem eventRegisterWrites_complete :
    (∀ v, Completes (.evtHostCiWrite v) s) ∧ (∀ who c v, Completes (.evtCoreStateWrite who c v) s) ∧
    (∀ who core v, Completes (.evtLineEnableWrite who core v) s) ∧ (∀ who src v, Completes (.evtRouteWrite who src v) s) := by
  refine ⟨?_, ?_, ?_, ?_⟩
  · intro v hwf
    obtain ⟨⟨t, ht, hrw, -⟩, -⟩ := eventRegisterWrites s 0 0 0 v hwf
    exact ⟨t, ht, hrw⟩
  · rintro who c v k rfl hwf
    obtain ⟨-, -, -, -, hcore, -⟩ := eventRegisterWrites s k c 0 v hwf
    obtain ⟨t, ht, -, -, hst, -⟩ := hcore _ (.inl rfl)
    exact ⟨t, ht, hst⟩
  · rintro who core v k rfl hwf
    cases core with
    | none =>
      obtain ⟨-, -, -, ⟨t, ht, hglobal, -⟩, -⟩ := eventRegisterWrites s k 0 0 v hwf
      exact ⟨t, ht, fun _ => hglobal, nofun⟩
    | some c =>
      obtain ⟨-, -, -, -, hcore, -⟩ := eventRegisterWrites s k c 0 v hwf
      obtain ⟨t, ht, hen0, hen1, -⟩ := hcore _ (.inr rfl)
      refine ⟨t, ht, nofun, ?_⟩
      rintro _ ⟨⟩
      exact ⟨hen0, hen1⟩
  · rintro who src v k rfl hwf hhere
    obtain ⟨-, hroute, -⟩ := eventRegisterWrites s k 0 src v hwf
    obtain ⟨t, ht, hrws, -⟩ := hroute hhere
    exact ⟨t, ht, hrws⟩

theorem faultClearAndReads_complete :
    (∀ v, Completes (.faultClear v) s) ∧ (∀ v, Completes (.faultClearAll v) s) ∧ (∀ v, Completes (.faultLogRead v) s) ∧
    (∀ v, Completes (.activeRead v) s) := by
  refine ⟨?_, ?_, ?_, ?_⟩
  · intro v e hwf hv hfind hgone
    obtain ⟨-, hclear, -⟩ := faultClearAndReads s v hwf hv
    obtain ⟨-, hclear⟩ := hclear e hfind
    exact hclear hgone
  · intro v hwf hv
    obtain ⟨-, -, hall, -⟩ := faultClearAndReads s v hwf hv
    exact hall
  · intro v hwf hv
    obtain ⟨-, -, -, ⟨t, ht, hrw, -, hsel, -⟩, -⟩ := faultClearAndReads s v hwf hv
    exact ⟨t, ht, hrw, hsel⟩
  · intro v hwf hv
    obtain ⟨-, -, -, -, t, ht, hrw, -⟩ := faultClearAndReads s v hwf hv
    exact ⟨t, ht, hrw⟩

theorem holdWatchdogAndStops_complete :
    (∀ v, Completes (.holdRequest v) s) ∧ (∀ who c v, Completes (.coreKick who c v) s) ∧ (∀ c, Completes (.coreWdtExpiry c) s) ∧
    (∀ u, Completes (.portStopComplete u) s) ∧ Completes .holdTimeExpiry s ∧ Completes .shutdownClockStop s := by
  obtain ⟨hhold, hkick, hwdt, hstop, hholdTimeExpiry, hshutdownClockStop⟩ := holdWatchdogAndStops s
  refine ⟨?_, ?_, ?_, ?_, ?_, ?_⟩
  · intro v hkey hv
    exact (hhold v).1 ⟨hkey, hv⟩
  · rintro who c v rfl hlen hv
    obtain ⟨t, ht, htick, -⟩ := hkick c v hlen hv
    exact ⟨t, ht, htick⟩
  · intro c
    exact hwdt c
  · intro u hst hen hunits hclock
    obtain ⟨t, ht, hstopped, -, heq⟩ := hstop u hst hen hunits hclock
    exact ⟨t, ht, hstopped, heq⟩
  · exact hholdTimeExpiry
  · intro t0 hshut hopen hdue
    obtain ⟨t, ht, hdone, hshdn, hcore, -⟩ := hshutdownClockStop t0 hshut hopen hdue
    exact ⟨t, ht, hdone, hshdn, hcore⟩

theorem nvmOperations_complete :
    (∀ v, Completes (.journalRead v) s) ∧ Completes .journalReadDone s ∧ (∀ ok, Completes (.nvmOpDone ok) s) ∧
    Completes .nvmGraceTimeout s := by
  obtain ⟨hread, hdone, hnvmOpDone, -, hgrace⟩ := nvmOperations s
  refine ⟨?_, ?_, ?_, ?_⟩
  · intro v hwf hpresent hthawed
    obtain ⟨t, ht, -, hvalid, hseq, hbusy, -⟩ := hread v hwf
    exact ⟨t, ht, (hbusy hpresent hthawed).1, hseq, hvalid⟩
  · intro q r hop hseq hbusy
    obtain ⟨t, ht, hidle, -, hfound, hmiss⟩ := hdone q r hop hseq hbusy
    exact ⟨t, ht, hidle, hfound, hmiss⟩
  · rintro ok r f hop hkind hplain rfl
    obtain ⟨t, ht, hflash, hnext, -⟩ := hnvmOpDone r f hop hkind hplain
    exact ⟨t, ht, hflash, hnext⟩
  · intro hfrozen hdue
    obtain ⟨t, ht, hop, -, hvio, -⟩ := hgrace hfrozen hdue
    exact ⟨t, ht, hop, fun h => (hvio h).1⟩

theorem housekeepingAndHurdle_complete :
    (∀ v, Completes (.hurdleQueryWrite v) s) ∧ Completes .hurdleQueryDone s ∧ (∀ lines, Completes (.fabricTrimDone lines) s) ∧
    (∀ g, Completes (.fabricStallTimeout g) s) ∧ Completes .hurdleCheckDone s ∧ (∀ r, Completes (.hkSlot r) s) := by
  obtain ⟨-, hsupply, htrim, hstall, hcheck, hquery, hdone⟩ := housekeepingAndHurdle s
  refine ⟨?_, ?_, ?_, ?_, ?_, ?_⟩
  · intro v hwf
    obtain ⟨t, ht, hrw, hfab, -⟩ := hquery v hwf
    exact ⟨t, ht, hrw, hfab⟩
  · intro hasked
    obtain ⟨t, ht, hvalid, -, hunj, huse, -⟩ := hdone hasked
    exact ⟨t, ht, hvalid, hunj, huse⟩
  · intro lines hstage hopen hfirst hall
    obtain ⟨t, ht, hkept, -⟩ := htrim lines hstage hopen hfirst hall
    exact ⟨t, ht, hkept⟩
  · intro g
    exact hstall g
  · intro hrun hstage
    obtain ⟨t, ht, hruns, hidle, hplans, -⟩ := hcheck hrun hstage
    exact ⟨t, ht, hruns, hidle, hplans⟩
  · intro r hdue hslot hlen hrange
    obtain ⟨t, ht, hnext, hvalue, -⟩ := hsupply r hdue hslot hlen hrange
    exact ⟨t, ht, hnext, hvalue⟩

theorem securityCommands_complete :
    (∀ v blown, Completes (.ownerEnrol v blown) s) ∧ (∀ i v, Completes (.attestNonceWrite i v) s) ∧ (∀ v, Completes (.attestGo v) s) ∧
    Completes .attestReportDone s ∧ (∀ v, Completes (.debugSubmit v) s) ∧ (∀ v, Completes (.zeroise v) s) ∧
    (∀ v, Completes (.zeroisePermanent v) s) ∧ (∀ k, Completes (.entropyHealthFailure k) s) := by
  obtain ⟨henrol, hnonce, hgo, hreport, hsubmit, hzero, hfail⟩ := securityCommands s
  refine ⟨?_, ?_, ?_, ?_, ?_, ?_, ?_, ?_⟩
  · intro v blown hkey hv hmay
    obtain ⟨⟨t, ht, hfuses, -⟩, u, hu, hsec, -⟩ := henrol v hkey hv hmay
    cases blown with
    | true => exact ⟨t, ht, fun _ => hfuses, nofun⟩
    | false => exact ⟨u, hu, nofun, fun _ => hsec⟩
  · intro i v
    obtain ⟨t, ht, hsec, -⟩ := hnonce i v
    exact ⟨t, ht, hsec⟩
  · intro v hbusy hopened hkey hgood
    obtain ⟨hgo, -⟩ := hgo v hbusy
    obtain ⟨t, ht, hsec, -⟩ := hgo hopened hkey hgood
    exact ⟨t, ht, hsec⟩
  · intro b d hbusy hkey
    obtain ⟨t, ht, hsec, -⟩ := hreport b d hbusy hkey
    exact ⟨t, ht, hsec⟩
  · intro v hfails hbusy hok
    obtain ⟨hsubmit, -⟩ := hsubmit v hfails hbusy
    obtain ⟨t, ht, hopen, hscope, hkey, -⟩ := hsubmit hok
    exact ⟨t, ht, hopen, hscope, hkey⟩
  · intro v hkey
    obtain ⟨⟨t, ht, hsec, -, -, hfuses⟩, -⟩ := hzero v hkey
    exact ⟨t, ht, hsec, hfuses⟩
  · intro v hkey
    exact (hzero v hkey).2
  · intro k
    obtain ⟨x, hx, herr, hbusy, -⟩ := hfail k
    exact ⟨x, hx, herr, hbusy⟩

theorem startingStages_complete :
    (∀ v, Completes (.restart v) s) ∧ Completes .restartTakesEffect s ∧ (∀ r, Completes (.sbStageComplete r) s) ∧
    (∀ r, Completes (.sbStageTimeout r) s) ∧ Completes .slateLoadDone s ∧ Completes .warmSourceTimeout s := by
  obtain ⟨hsb0, -, hlate, hrestart, heffect, hdone, hlost⟩ := startingStages s
  refine ⟨?_, ?_, ?_, ?_, ?_, ?_⟩
  · intro v hkey hstage hup
    obtain ⟨t, ht, hboot, hfrozen, -⟩ := hrestart v hkey hstage hup
    exact ⟨t, ht, hboot, hfrozen⟩
  · intro hasked hdue
    obtain ⟨t, ht, hrun, hstage, hseal, -, -, hrws, -⟩ := heffect hasked hdue
    exact ⟨t, ht, hrun, hstage, hseal, hrws⟩
  · intro r hrun hup hstage hrounds hnone
    obtain ⟨hsb0, -⟩ := hsb0 r hrun hup hstage hrounds
    obtain ⟨t, ht, hsb1, -, -, hkey, hout, -⟩ := hsb0 hnone
    exact ⟨t, ht, hsb1, hkey, hout⟩
  · intro r hrun hup hstage hdue hnone
    exact hlate r hrun hup hstage hdue hnone
  · intro b hload hjobs hop hbufs hslate
    obtain ⟨t, ht, hloaded, ⟨i, hi, hslot, hbuf, -⟩, -⟩ := hdone b hload hjobs hop hbufs hslate
    exact ⟨t, ht, hloaded, i, hi, hslot, hbuf⟩
  · intro d hpresent hdone hdue
    obtain ⟨t, ht, habsent, hbufs, -⟩ := hlost d hpresent hdone hdue
    exact ⟨t, ht, habsent, hbufs⟩

theorem powerAndReset_complete :
    Completes .refClkStop s ∧ Completes .resetRelease s ∧ Completes .resetAssert s ∧ (∀ b, Completes (.feedPresent b) s) ∧
    (∀ b, Completes (.feedAbsent b) s) ∧ Completes .powerLoss s ∧ Completes .refClkStart s ∧
    (∀ op, Completes (.debugTapAccess op) s) := by
  obtain ⟨hfeed, hfeedAbsent, hloss, hrefClkStart, hstop, hrelease, hassert, hdebugTapAccess, htap⟩ := powerAndReset s
  refine ⟨?_, ?_, ?_, ?_, ?_, ?_, ?_, ?_⟩
  · intro hclk hstart
    obtain ⟨t, ht, hoff, hgood, -⟩ := hstop hclk hstart
    exact ⟨t, ht, hoff, hgood⟩
  · intro hlow
    obtain ⟨t, ht, hhigh, hstart, hwait⟩ := hrelease hlow
    refine ⟨t, ht, hhigh, fun h => ?_, fun h => (hwait h).1⟩
    obtain ⟨hrun, hstage, -⟩ := hstart h
    exact ⟨hrun, hstage⟩
  · intro hhigh hrun hup
    obtain ⟨t, ht, hlow, hstopped, hcore, -⟩ := hassert hhigh hrun hup
    exact ⟨t, ht, hlow, hstopped, hcore⟩
  · intro b
    obtain ⟨t, ht, hpresent, hgood, -⟩ := hfeed b
    exact ⟨t, ht, hpresent, hgood⟩
  · intro b
    obtain ⟨t, ht, habsent, hboth⟩ := hfeedAbsent b
    exact ⟨t, ht, habsent, fun h => (hboth h).1⟩
  · intro hA hB
    obtain ⟨t, ht, hboot, hregs, -, -, -, -, -, -, hfuses, -⟩ := hloss hA hB
    exact ⟨t, ht, hboot, hregs, hfuses⟩
  · obtain ⟨t, ht, hclk, -, hgood⟩ := hrefClkStart
    exact ⟨t, ht, hclk, hgood⟩
  · intro op
    obtain ⟨t, ht, htrst, -⟩ := hdebugTapAccess
    cases op with
    | trst b =>
      rintro rfl
      exact ⟨t, ht, htrst⟩
    | ident =>
      intro hhigh
      obtain ⟨⟨t, ht, hpwr, -⟩, -⟩ := htap hhigh
      exact ⟨t, ht, hpwr⟩
    | scan pins =>
      intro hhigh
      obtain ⟨-, hscan⟩ := htap hhigh
      obtain ⟨t, ht, hpwr, hout, -⟩ := hscan pins
      exact ⟨t, ht, hpwr, hout⟩
    | other =>
      intro hhigh hscope
      exact if_pos (by simp [hhigh, hscope])

end

end Sys2Proof.Machine
end

section
/-! SUPPORT. The commands of the chain ports and the relay complete: each arm is read off the statement of its family. -/

namespace Sys2Proof.Machine

section
variable {s : State}

theorem chainPortStartAndLocks_complete :
    (∀ p, Completes (.portEnable p) s) ∧ (∀ p, Completes (.portBlocksStart p) s) ∧ (∀ p, Completes (.portStartTimeout p) s) ∧
    (∀ p, Completes (.portRestartTimer p) s) ∧ (∀ p, Completes (.alignMissed p) s) ∧ (∀ p, Completes (.upstreamLockLoss p) s) ∧
    (∀ p, Completes (.upstreamBlockLock p) s) := by
  refine ⟨?_, ?_, ?_, ?_, ?_, ?_, ?_⟩
  · intro p hp hmay hclock
    obtain ⟨henable, -, ⟨hstarted, -⟩, -⟩ := chainPortStartAndLocks s p hp
    exact ⟨henable hmay hclock, hstarted⟩
  · intro p hp hclock hblocks hdue
    obtain ⟨-, -, -, hstart, -⟩ := chainPortStartAndLocks s p hp
    obtain ⟨t, ht, hport, -⟩ := hstart hclock hblocks hdue
    exact ⟨t, ht, hport⟩
  · intro p hp hclock hdown hok hdue
    obtain ⟨-, -, -, -, hlate, -⟩ := chainPortStartAndLocks s p hp
    obtain ⟨t, ht, hport, -⟩ := hlate hclock hdown hok hdue
    exact ⟨t, ht, hport⟩
  · intro p hp
    obtain ⟨-, -, -, -, -, hrestart, -⟩ := chainPortStartAndLocks s p hp
    exact hrestart
  · intro p hp hlock haligned hfew
    obtain ⟨-, -, -, -, -, -, -, -, hmiss, -⟩ := chainPortStartAndLocks s p hp
    obtain ⟨hmiss, -⟩ := hmiss hlock haligned
    obtain ⟨t, ht, hport, -⟩ := hmiss hfew
    exact ⟨t, ht, hport⟩
  · intro p hp hlock
    obtain ⟨hopen, hunaligned, -⟩ := State.port_loseUp (s := s.lockLost p) (State.length_lockLost.symm ▸ hp)
    exact ⟨_, execUpstreamLockLoss_of_locked hlock, hopen, hunaligned⟩
  · intro p hp hclock hopen hst
    obtain ⟨-, -, -, -, -, -, hlock, -⟩ := chainPortStartAndLocks s p hp
    obtain ⟨t, ht, hlocked, -⟩ := hlock hclock hopen hst
    exact ⟨t, ht, hlocked⟩

theorem markersIdleBeaconsAndClaims_complete :
    Completes .alignSend s ∧ (∀ p n echo bip rt, Completes (.upAlignRx p n echo bip rt) s) ∧ (∀ p, Completes (.idleEntry p) s) ∧
    (∀ p, Completes (.idleExit p) s) ∧ Completes .beaconSend s ∧ Completes .batonClaimRepeat s := by
  refine ⟨?_, ?_, ?_, ?_, ?_, ?_⟩
  · intro p hp hothers hblocks hdue hown hawake
    obtain ⟨hmark, -⟩ := markersIdleBeaconsAndClaims s p hp
    obtain ⟨t, ht, hnext, -, hsent, -⟩ := hmark hothers hblocks hdue hown
    obtain ⟨hout, hcount⟩ := hsent hawake
    exact ⟨t, ht, hnext, hcount, hout⟩
  · intro p n echo bip rt hp hlock hown hup hecho
    obtain ⟨-, -, -, hrx, -⟩ := markersIdleBeaconsAndClaims s p hp
    obtain ⟨-, hrx⟩ := hrx n echo bip rt
    obtain ⟨x, haligned, hmissed, -, hx, -⟩ := hrx hlock hown
    exact ⟨x, hx hecho hup, haligned, hmissed⟩
  · intro p hp hon hup hawake hexit hcal hbusy hempty hidle
    obtain ⟨-, -, -, -, -, henter, -⟩ := markersIdleBeaconsAndClaims s p hp
    obtain ⟨t, ht, hout, hport, -⟩ := henter.2 ⟨hon, hup, hawake, hexit, hcal, hbusy, hempty, hidle⟩
    exact ⟨t, ht, hout, hport⟩
  · intro p hp hidle hwork
    obtain ⟨-, -, -, -, -, -, hexit⟩ := markersIdleBeaconsAndClaims s p hp
    obtain ⟨t, ht, -, hport, -⟩ := hexit hidle hwork
    exact ⟨t, ht, hport⟩
  · intro p hp hothers hblocks hon hloud hdue
    obtain ⟨-, hbeacon, -⟩ := markersIdleBeaconsAndClaims s p hp
    exact hbeacon hothers hblocks hon hloud hdue
  · intro p k hp hothers hclaim hdue hopen hwhole
    obtain ⟨-, -, hrepeat, -⟩ := markersIdleBeaconsAndClaims s p hp
    obtain ⟨t, ht, -, -, hagain⟩ := hrepeat hothers k hclaim hdue
    obtain ⟨hclaimed, f, hkind, -, hqueue⟩ := hagain hopen hwhole
    exact ⟨t, f, ht, hclaimed, hkind, hqueue⟩

theorem chainFramesInOrder_complete :
    (∀ p, Completes (.chainFrameStart p) s) ∧ (∀ p, Completes (.chainTxDry p) s) := by
  refine ⟨?_, ?_⟩
  · intro p f hp hfree x hbest hrank
    obtain ⟨-, -, hframes⟩ := chainFramesInOrder
    obtain ⟨-, hstart, -⟩ := hframes s p hp
    obtain ⟨y, rfl, hfirst, -⟩ := hstart hfree
    exact hfirst f hbest hrank
  · intro p f hp hsending hinside hfew
    obtain ⟨-, -, hframes⟩ := chainFramesInOrder
    obtain ⟨-, -, -, -, hdry⟩ := hframes s p hp
    obtain ⟨x, hout, hidle, -, -, htiles, -, hx, -⟩ := hdry f hsending hinside
    refine ⟨x, hx ?_, hout, hidle, htiles⟩
    rw [List.length_append, List.length_singleton]
    omega

theorem calibrationOfALane_complete :
    (∀ p, Completes (.calStart p) s) ∧ (∀ p, Completes (.calDropChange p) s) ∧
    (∀ p eye ctle ph, Completes (.calPatternEnd p eye ctle ph) s) ∧ (∀ p, Completes (.calRestoreChange p) s) ∧
    (∀ p, Completes (.calReportTimeout p) s) := by
  refine ⟨?_, ?_, ?_, ?_, ?_⟩
  · intro p hp hup hfree hdue hasked hround hlane hleg hclear
    obtain ⟨hstart, -⟩ := calibrationOfALane s p hp
    obtain ⟨-, -, hgo⟩ := hstart hup hfree hdue (by omega) hasked
    obtain ⟨-, hgo⟩ := hgo hround (fun h => absurd hlane h) hleg
    obtain ⟨t, ht, -, hport, hout⟩ := hgo hclear
    refine ⟨t, ht, by rw [hport], ?_⟩
    rw [hout, if_pos hlane]
  · intro p c hp hcal hphase hdue hgoes
    obtain ⟨-, hcal'⟩ := calibrationOfALane s p hp
    obtain ⟨hdrop, -⟩ := hcal' c hcal
    obtain ⟨t, ht, -, hport, -⟩ := hdrop hphase hdue hgoes
    exact ⟨t, ht, hport⟩
  · intro p eye ctle ph c hp hcal hphase hdue hlane
    obtain ⟨-, hcal'⟩ := calibrationOfALane s p hp
    obtain ⟨-, -, hend, -⟩ := hcal' c hcal
    obtain ⟨hdown, -⟩ := hend hphase hdue eye ctle ph
    obtain ⟨t, o, ht, -, hnext, -, hout⟩ := hdown hlane
    exact ⟨t, o, ht, hnext, hout⟩
  · intro p c hp hcal hphase hdue hended
    obtain ⟨-, hcal'⟩ := calibrationOfALane s p hp
    obtain ⟨-, -, -, hrestore, -⟩ := hcal' c hcal
    obtain ⟨x, -, hport, hx, -⟩ := hrestore hphase hdue
    exact ⟨x, hx hended, hport⟩
  · intro p c hp hcal
    obtain ⟨-, hcal'⟩ := calibrationOfALane s p hp
    obtain ⟨-, -, -, -, hlate⟩ := hcal' c hcal
    exact hlate

theorem upstreamFrames_complete :
    (∀ p l d, Completes (.statusFrameRx p l d) s) ∧ (∀ p l d, Completes (.censusDataRx p l d) s) := by
  refine ⟨?_, ?_⟩
  · intro p l d f hhears hf hkind
    obtain ⟨-, -, hup⟩ := upstreamFrames
    obtain ⟨-, -, htake, -⟩ := hup s p l d
    obtain ⟨ok, x, hseq, hstatus, -⟩ := htake hhears f hf
    exact ⟨ok, x, hseq, hstatus hkind⟩
  · intro p l d f hhears hf hkind
    obtain ⟨-, -, hup⟩ := upstreamFrames
    obtain ⟨-, -, htake, -⟩ := hup s p l d
    obtain ⟨ok, x, hseq, -, hcensus⟩ := htake hhears f hf
    exact ⟨ok, x, hseq, hcensus hkind⟩

theorem censusAndAgeTimeouts_complete :
    (∀ p, Completes (.censusEnumTimeout p) s) ∧ (∀ p, Completes (.censusReadTimeout p) s) ∧
    (∀ p k, Completes (.ageAckTimeout p k) s) := by
  refine ⟨?_, ?_, ?_⟩
  · intro p hp hup hphase hsent hdue
    obtain ⟨henum, -⟩ := censusAndAgeTimeouts s p hp
    exact (henum hup hphase hsent).1 hdue
  · intro p r hp hup hphase hfind hfew
    obtain ⟨-, hread, -⟩ := censusAndAgeTimeouts s p hp
    obtain ⟨x, hcensus, -, hx⟩ := (hread hup hphase r hfind).2 hfew
    exact ⟨x, hx, hcensus⟩
  · intro p k t a hp ht hfind hfew
    obtain ⟨-, -, -, hage⟩ := censusAndAgeTimeouts s p hp
    obtain ⟨hretry, -⟩ := hage k t a ht hfind
    obtain ⟨u, f, hu, hkind, hflag, hbody, -, hqueue, -⟩ := hretry hfew
    exact ⟨u, f, hu, hkind, hflag, hbody, hqueue⟩

theorem mirroredMessages_complete :
    (∀ d, Completes (.relayCueRx d) s) ∧ (∀ d, Completes (.relayTileRx d) s) ∧ (∀ d, Completes (.relayLampRx d) s) ∧
    (∀ d, Completes (.relayFlushRx d) s) ∧ (∀ d, Completes (.relaySigsRx d) s) ∧ (∀ d, Completes (.relayDelaysRx d) s) ∧
    (∀ d, Completes (.relayCensusReadyRx d) s) ∧ (∀ d, Completes (.relayPlaceRx d) s) := by
  refine ⟨?_, ?_, ?_, ?_, ?_, ?_, ?_, ?_⟩
  · exact fun d b x => exec_of_mirrored (c := .relayCueRx d) rfl
  · exact fun d b x => exec_of_mirrored (c := .relayTileRx d) rfl
  · exact fun d b x => exec_of_mirrored (c := .relayLampRx d) rfl
  · exact fun d b x => exec_of_mirrored (c := .relayFlushRx d) rfl
  · exact fun d b x => exec_of_mirrored (c := .relaySigsRx d) execRelaySigsRx_eq
  · exact fun d b x => exec_of_mirrored (c := .relayDelaysRx d) execRelayDelaysRx_eq
  · intro d b x htake hrole hwarm
    have h := exec_of_mirrored (c := .relayCensusReadyRx d) execRelayCensusReadyRx_eq htake hrole hwarm
    dsimp only [State.takeReady] at h
    exact h
  · intro d b x htake hrole hwarm
    have h := exec_of_mirrored (c := .relayPlaceRx d) execRelayPlaceRx_eq htake hrole hwarm
    dsimp only [State.takePlace] at h
    exact h

theorem relayLinkAndTime_complete :
    (∀ lanes, Completes (.relayLinkTimeout lanes) s) ∧ Completes .relayLinkRetrim s ∧ (∀ ok, Completes (.relayTrimDone ok) s) ∧
    Completes .relayTrainSend s ∧ Completes .relayTimeSend s ∧ (∀ d mark age, Completes (.relayTimeRx d mark age) s) := by
  refine ⟨?_, ?_, ?_, ?_, ?_, ?_⟩
  · rintro lanes h hon rfl hup htick hdue
    obtain ⟨-, -, hlate, -⟩ := relayLinkAndTime s hon
    exact (hlate h hup htick).1 hdue
  · intro hon hdown htrim hdue
    obtain ⟨-, -, -, hretrim, -⟩ := relayLinkAndTime s hon
    exact (hretrim hdown htrim).1 hdue
  · intro ok t hon
    obtain ⟨-, -, -, -, -, hdone, -⟩ := relayLinkAndTime s hon
    exact hdone t ok
  · intro hon
    obtain ⟨-, -, -, -, -, -, htrain, -⟩ := relayLinkAndTime s hon
    exact htrain
  · intro hon hdue
    obtain ⟨-, -, -, -, -, -, -, htime, -⟩ := relayLinkAndTime s hon
    obtain ⟨u, b, hu, hout, hlen, -⟩ := htime hdue
    exact ⟨u, b, hu, hout, hlen⟩
  · intro d mark age b x hon htake hmark
    obtain ⟨-, -, -, -, -, -, -, -, htime, -⟩ := relayLinkAndTime s hon
    obtain ⟨-, htime⟩ := htime d b mark age x htake
    obtain ⟨u, hu, hrl, -⟩ := htime hmark
    exact ⟨u, hu, hrl⟩

theorem relayHeartbeatsAndRoles_complete :
    Completes .relayHeartbeatSend s ∧ (∀ d st, Completes (.relayHeartbeatRx d st) s) ∧ (∀ p d, Completes (.partnerBeaconRx p d) s) ∧
    (∀ chain, Completes (.heartbeatPathMiss chain) s) ∧ Completes .pairingTimeout s := by
  obtain ⟨hbeat, hpairing, -, -, -, -, hrelayHeartbeatRx, -, -, -, hmiss, -⟩ := relayHeartbeatsAndRoles s
  refine ⟨?_, ?_, ?_, ?_, ?_⟩
  · intro hon hdue
    obtain ⟨u, b, hu, hlen, -, hout, -⟩ := hbeat hon hdue
    exact ⟨u, b, hu, hlen, hout⟩
  · intro d st b x hon htake
    obtain ⟨y, hy, -, htick, hup, -, hrole, -⟩ := hrelayHeartbeatRx d b st x htake
    exact ⟨y, hy, htick, hup, hrole⟩
  · intro p d b x hon hshared hhears hb htake hopen
    obtain ⟨y, u, hu, hheard, htick, hmiss, hrole, hflags, -⟩ := exec_partnerBeaconRx_of_open hon hshared hhears hb htake hopen
    exact ⟨y, u, hu, hheard, htick, hmiss, hrole, hflags⟩
  · intro chain hon hheard hlate
    obtain ⟨x, hcount, -, -, hx⟩ := (hmiss chain hon hheard).2 hlate
    exact ⟨x, hx, hcount⟩
  · intro hrole hon hdue hbeat hbeacon
    obtain ⟨u, hu, hrl, -⟩ := hpairing hrole hon hdue hbeat hbeacon
    exact ⟨u, hu, hrl⟩

theorem relayHandoverAndMending_complete :
    (∀ v, Completes (.handover v) s) ∧ (∀ v, Completes (.mend v) s) ∧ (∀ d, Completes (.relayHandoverRx d) s) ∧
    Completes .handoverSilenceEnd s ∧ Completes .mendTimer s := by
  obtain ⟨hhandover, -, hkeyed, hmend, -, -, -, -, -, hmendTimer, hbaton, -, -, hsilence, -⟩ := relayHandoverAndMending s
  refine ⟨?_, ?_, ?_, ?_, ?_⟩
  · intro v hkey hv hrole hfree hfit
    obtain ⟨hrelease, -⟩ := hhandover
    obtain ⟨-, hkeyed⟩ := hkeyed v
    obtain ⟨hgo, -⟩ := hkeyed hkey
    exact (hgo hv hrole).trans (congrArg _ (hrelease hfree hfit))
  · intro v hkey hv hmay hclosed hrel
    obtain ⟨-, hkeyed⟩ := hkeyed v
    obtain ⟨-, -, hgo⟩ := hkeyed hkey
    exact (hgo hv).trans (congrArg _ (hmend hmay hclosed hrel))
  · intro d b x htake hop hrole
    obtain ⟨-, hbaton⟩ := hbaton d x
    exact (hbaton b htake).1 hop hrole
  · intro r hrelease hdue hfree
    obtain ⟨-, hsilence⟩ := hsilence r hrelease
    obtain ⟨x, hx, hrl, -⟩ := (hsilence hdue).2 hfree
    exact ⟨x, hx, hrl⟩
  · intro t htick hset hdue
    exact (hmendTimer t htick).1 hset hdue

end

end Sys2Proof.Machine
end

section
/-! SUPPORT. The completion of every command, from the commands of each family. -/

namespace Sys2Proof.Machine

/-- Settles O60: by cases on the command, each with the arm that its family's lemma gives (the refused debug instruction, of log entry 3,
with the rest of the test port's). -/
theorem everyCommandCompletes : Obligations.EveryCommandCompletes := by
  intro c s
  obtain ⟨cueGo, cueFlush, planCue, planCueFixPoint, scheduleOccurrence, cueDatagramAccept,
    relayDelayedAccept⟩ := cuesFromEverySource_complete (s := s)
  obtain ⟨hsFenceHiWrite, hsFenceLoWrite, sceneQueryWrite⟩ := fencesAndSceneQueries_complete (s := s)
  obtain ⟨lampRecheck, lampWatchWrite, probeCountSecond, tileTempStale, delayRecompute⟩ := lampsAndTilesByTimeAndSoftware_complete (s := s)
  have legBoundary := legBoundaries_complete (s := s)
  obtain ⟨pinPulseStart, pinPulseEnd, lapFrameSend, sendDeadline⟩ := pinsLapFramesAndDeadlines_complete (s := s)
  obtain ⟨blockCorrectionDue, viewComposeDone, monitorPacketSend⟩ := compositionAndMonitor_complete (s := s)
  obtain ⟨tbRestep, restepDecisionPoint, sourceRevertTimer⟩ := restepsAndSources_complete (s := s)
  obtain ⟨tbNowNsRead, laprefPulse, laprefEdgeTimeout⟩ := counterReadsAndReferencePulses_complete (s := s)
  obtain ⟨ptpAnnounce, ptpSync, ptpFollowUp, ptpDelayResp, ptpPdelayReq, ptpPdelayResp, ptpPdelayRespFollowUp, ptpManagement,
    ptpSignaling⟩ := ptpMessagesTaken_complete (s := s)
  obtain ⟨delayReqSend, pdelayReqSend, announceReceiptTimeout, syncIntervalMiss⟩ := ptpMeasuringAndTimeouts_complete (s := s)
  have registerWrite := registerWritesByTheirFields_complete (s := s)
  obtain ⟨bar2Read, bar2Write⟩ := hbmWindow_complete (s := s)
  obtain ⟨attach, detach, pcieLinkTrained, pcieLinkDown, functionLevelReset, hotReset, d3hotEntry, busMasterEnableClear, pePerstAssert,
    pePerstRelease⟩ := hostLinkAndAttachment_complete (s := s)
  obtain ⟨pullCompletionRx, pullCompletionTimeout, hsPullComplete⟩ := hostSurfacePulls_complete (s := s)
  obtain ⟨stageGo, stageAbort, stagePullDone, stageCheckDone, stageEraseResume, stageEraseDone, stageProgramDone,
    stageVerifyDone⟩ := stagingPasses_complete (s := s)
  obtain ⟨hostRingWrite, indexBlockTimer⟩ := hostRingTakesRecordsInOrder_complete (s := s)
  obtain ⟨ethFrameRx, arpRequest, ethLinkChange⟩ := ethernetFramesIn_complete (s := s)
  obtain ⟨igmpQuery, igmpReportTimer, flowPathTimeout, flowLeaveTimer⟩ := groupQueriesAndTimers_complete (s := s)
  obtain ⟨flowPacketRx, flowFrameClose⟩ := flowPacketsAndFrames_complete (s := s)
  have cueDatagramRx := cueDatagramChecks_complete (s := s)
  obtain ⟨memRequest, memReadBurst, refreshDue, pageIdleTimeout, parityAlert, parityAlertClear⟩ := controllersServe_complete (s := s)
  obtain ⟨stackTempReading, stackReadTimeout, stackQuiet, stackWake, stackExitDone, trimSlotDue, trimSlotEnd,
    hbmTrainingDone⟩ := stacksAndCalibration_complete (s := s)
  obtain ⟨evtPop, evtDone⟩ := popAndDone_complete (s := s)
  obtain ⟨evtHostCiWrite, evtCoreStateWrite, evtLineEnableWrite, evtRouteWrite⟩ := eventRegisterWrites_complete (s := s)
  obtain ⟨faultClear, faultClearAll, faultLogRead, activeRead⟩ := faultClearAndReads_complete (s := s)
  obtain ⟨holdRequest, coreKick, coreWdtExpiry, portStopComplete, holdTimeExpiry,
    shutdownClockStop⟩ := holdWatchdogAndStops_complete (s := s)
  obtain ⟨journalRead, journalReadDone, nvmOpDone, nvmGraceTimeout⟩ := nvmOperations_complete (s := s)
  obtain ⟨hurdleQueryWrite, hurdleQueryDone, fabricTrimDone, fabricStallTimeout, hurdleCheckDone,
    hkSlot⟩ := housekeepingAndHurdle_complete (s := s)
  obtain ⟨ownerEnrol, attestNonceWrite, attestGo, attestReportDone, debugSubmit, zeroise, zeroisePermanent,
    entropyHealthFailure⟩ := securityCommands_complete (s := s)
  obtain ⟨restart, restartTakesEffect, sbStageComplete, sbStageTimeout, slateLoadDone,
    warmSourceTimeout⟩ := startingStages_complete (s := s)
  obtain ⟨refClkStop, resetRelease, resetAssert, feedPresent, feedAbsent, powerLoss, refClkStart,
    debugTapAccess⟩ := powerAndReset_complete (s := s)
  obtain ⟨portEnable, portBlocksStart, portStartTimeout, portRestartTimer, alignMissed, upstreamLockLoss,
    upstreamBlockLock⟩ := chainPortStartAndLocks_complete (s := s)
  obtain ⟨alignSend, upAlignRx, idleEntry, idleExit, beaconSend, batonClaimRepeat⟩ := markersIdleBeaconsAndClaims_complete (s := s)
  obtain ⟨chainFrameStart, chainTxDry⟩ := chainFramesInOrder_complete (s := s)
  obtain ⟨calStart, calDropChange, calPatternEnd, calRestoreChange, calReportTimeout⟩ := calibrationOfALane_complete (s := s)
  obtain ⟨statusFrameRx, censusDataRx⟩ := upstreamFrames_complete (s := s)
  obtain ⟨censusEnumTimeout, censusReadTimeout, ageAckTimeout⟩ := censusAndAgeTimeouts_complete (s := s)
  obtain ⟨relayCueRx, relayTileRx, relayLampRx, relayFlushRx, relaySigsRx, relayDelaysRx, relayCensusReadyRx,
    relayPlaceRx⟩ := mirroredMessages_complete (s := s)
  obtain ⟨relayLinkTimeout, relayLinkRetrim, relayTrimDone, relayTrainSend, relayTimeSend,
    relayTimeRx⟩ := relayLinkAndTime_complete (s := s)
  obtain ⟨relayHeartbeatSend, relayHeartbeatRx, partnerBeaconRx, heartbeatPathMiss,
    pairingTimeout⟩ := relayHeartbeatsAndRoles_complete (s := s)
  obtain ⟨handover, mend, relayHandoverRx, handoverSilenceEnd, mendTimer⟩ := relayHandoverAndMending_complete (s := s)
  cases c with
  | registerWrite who off first last data => exact registerWrite who off first last data
  | bar2Read addr len => exact bar2Read addr len
  | bar2Write addr data => exact bar2Write addr data
  | cueGo v => exact cueGo v
  | cueFlush v => exact cueFlush v
  | hsFenceHiWrite n v => exact hsFenceHiWrite n v
  | hsFenceLoWrite n v => exact hsFenceLoWrite n v
  | sceneQueryWrite v => exact sceneQueryWrite v
  | lampRecheck v => exact lampRecheck v
  | lampWatchWrite v => exact lampWatchWrite v
  | planCue v => exact planCue v
  | tbRestep v => exact tbRestep v
  | tbNowNsRead => exact tbNowNsRead
  | attach v => exact attach v
  | detach v => exact detach v
  | stageGo v => exact stageGo v
  | stageAbort v => exact stageAbort v
  | evtHostCiWrite v => exact evtHostCiWrite v
  | evtPop who c v => exact evtPop who c v
  | evtDone who c v => exact evtDone who c v
  | evtCoreStateWrite who c v => exact evtCoreStateWrite who c v
  | evtLineEnableWrite who core v => exact evtLineEnableWrite who core v
  | evtRouteWrite who src v => exact evtRouteWrite who src v
  | faultClear v => exact faultClear v
  | faultClearAll v => exact faultClearAll v
  | holdRequest v => exact holdRequest v
  | faultLogRead v => exact faultLogRead v
  | activeRead v => exact activeRead v
  | journalRead v => exact journalRead v
  | journalReadDone => exact journalReadDone
  | restart v => exact restart v
  | restartTakesEffect => exact restartTakesEffect
  | ownerEnrol v blown => exact ownerEnrol v blown
  | attestNonceWrite i v => exact attestNonceWrite i v
  | attestGo v => exact attestGo v
  | attestReportDone => exact attestReportDone
  | debugSubmit v => exact debugSubmit v
  | zeroise v => exact zeroise v
  | zeroisePermanent v => exact zeroisePermanent v
  | handover v => exact handover v
  | mend v => exact mend v
  | hurdleQueryWrite v => exact hurdleQueryWrite v
  | hurdleQueryDone => exact hurdleQueryDone
  | coreKick who c v => exact coreKick who c v
  | coreWdtExpiry c => exact coreWdtExpiry c
  | portStopComplete u => exact portStopComplete u
  | holdTimeExpiry => exact holdTimeExpiry
  | pcieLinkTrained speed width flit conf => exact pcieLinkTrained speed width flit conf
  | pcieLinkDown => exact pcieLinkDown
  | functionLevelReset => exact functionLevelReset
  | hotReset => exact hotReset
  | d3hotEntry => exact d3hotEntry
  | busMasterEnableClear => exact busMasterEnableClear
  | pePerstAssert => exact pePerstAssert
  | pePerstRelease => exact pePerstRelease
  | pullCompletionRx n st data => exact pullCompletionRx n st data
  | pullCompletionTimeout n => exact pullCompletionTimeout n
  | hsPullComplete n => exact hsPullComplete n
  | stagePullDone es data fail => exact stagePullDone es data fail
  | stageCheckDone => exact stageCheckDone
  | stageEraseResume => exact stageEraseResume
  | stageEraseDone run => exact stageEraseDone run
  | stageProgramDone run => exact stageProgramDone run
  | stageVerifyDone => exact stageVerifyDone
  | hostRingWrite => exact hostRingWrite
  | indexBlockTimer => exact indexBlockTimer
  | legBoundary => exact legBoundary
  | pinPulseStart leg => exact pinPulseStart leg
  | pinPulseEnd leg => exact pinPulseEnd leg
  | planCueFixPoint => exact planCueFixPoint
  | restepDecisionPoint => exact restepDecisionPoint
  | lapFrameSend p => exact lapFrameSend p
  | scheduleOccurrence i => exact scheduleOccurrence i
  | blockCorrectionDue v b => exact blockCorrectionDue v b
  | sendDeadline p q j k => exact sendDeadline p q j k
  | viewComposeDone v => exact viewComposeDone v
  | probeCountSecond => exact probeCountSecond
  | tileTempStale p q => exact tileTempStale p q
  | delayRecompute => exact delayRecompute
  | ptpAnnounce i d => exact ptpAnnounce i d
  | ptpSync i d ph => exact ptpSync i d ph
  | ptpFollowUp i d => exact ptpFollowUp i d
  | ptpDelayResp i d => exact ptpDelayResp i d
  | ptpPdelayReq i d ph => exact ptpPdelayReq i d ph
  | ptpPdelayResp i d ph => exact ptpPdelayResp i d ph
  | ptpPdelayRespFollowUp i d => exact ptpPdelayRespFollowUp i d
  | ptpManagement i d => exact ptpManagement i d
  | ptpSignaling i d => exact ptpSignaling i d
  | delayReqSend a ph => exact delayReqSend a ph
  | pdelayReqSend a ph => exact pdelayReqSend a ph
  | announceReceiptTimeout a => exact announceReceiptTimeout a
  | syncIntervalMiss a => exact syncIntervalMiss a
  | sourceRevertTimer => exact sourceRevertTimer
  | laprefPulse w ph => exact laprefPulse w ph
  | laprefEdgeTimeout => exact laprefEdgeTimeout
  | refClkStop => exact refClkStop
  | ethFrameRx i rx d => exact ethFrameRx i rx d
  | arpRequest i d => exact arpRequest i d
  | igmpQuery i d => exact igmpQuery i d
  | igmpReportTimer i => exact igmpReportTimer i
  | flowPacketRx f sec d => exact flowPacketRx f sec d
  | flowFrameClose f => exact flowFrameClose f
  | flowPathTimeout f sec => exact flowPathTimeout f sec
  | flowLeaveTimer f => exact flowLeaveTimer f
  | cueDatagramRx i d => exact cueDatagramRx i d
  | cueDatagramAccept => exact cueDatagramAccept
  | relayDelayedAccept => exact relayDelayedAccept
  | monitorPacketSend => exact monitorPacketSend
  | ethLinkChange i up hi => exact ethLinkChange i up hi
  | memRequest port addr write level busy => exact memRequest port addr write level busy
  | memReadBurst p sev hit => exact memReadBurst p sev hit
  | refreshDue p => exact refreshDue p
  | pageIdleTimeout p b => exact pageIdleTimeout p b
  | stackTempReading st v => exact stackTempReading st v
  | stackReadTimeout st => exact stackReadTimeout st
  | stackQuiet st step => exact stackQuiet st step
  | stackWake st need => exact stackWake st need
  | stackExitDone st => exact stackExitDone st
  | parityAlert p c => exact parityAlert p c
  | parityAlertClear p again => exact parityAlertClear p again
  | trimSlotDue p => exact trimSlotDue p
  | trimSlotEnd p found eye centre => exact trimSlotEnd p found eye centre
  | hbmTrainingDone eyes fails base place => exact hbmTrainingDone eyes fails base place
  | fabricTrimDone lines => exact fabricTrimDone lines
  | fabricStallTimeout g => exact fabricStallTimeout g
  | hurdleCheckDone => exact hurdleCheckDone
  | resetRelease => exact resetRelease
  | resetAssert => exact resetAssert
  | sbStageComplete r => exact sbStageComplete r
  | sbStageTimeout r => exact sbStageTimeout r
  | slateLoadDone => exact slateLoadDone
  | warmSourceTimeout => exact warmSourceTimeout
  | nvmOpDone ok => exact nvmOpDone ok
  | nvmGraceTimeout => exact nvmGraceTimeout
  | entropyHealthFailure k => exact entropyHealthFailure k
  | portEnable p => exact portEnable p
  | portBlocksStart p => exact portBlocksStart p
  | portStartTimeout p => exact portStartTimeout p
  | portRestartTimer p => exact portRestartTimer p
  | alignSend => exact alignSend
  | upAlignRx p n echo bip rt => exact upAlignRx p n echo bip rt
  | alignMissed p => exact alignMissed p
  | upstreamLockLoss p => exact upstreamLockLoss p
  | idleEntry p => exact idleEntry p
  | idleExit p => exact idleExit p
  | chainFrameStart p => exact chainFrameStart p
  | chainTxDry p => exact chainTxDry p
  | beaconSend => exact beaconSend
  | calStart p => exact calStart p
  | calDropChange p => exact calDropChange p
  | calPatternEnd p eye ctle ph => exact calPatternEnd p eye ctle ph
  | calRestoreChange p => exact calRestoreChange p
  | calReportTimeout p => exact calReportTimeout p
  | statusFrameRx p l d => exact statusFrameRx p l d
  | censusDataRx p l d => exact censusDataRx p l d
  | censusEnumTimeout p => exact censusEnumTimeout p
  | censusReadTimeout p => exact censusReadTimeout p
  | ageAckTimeout p k => exact ageAckTimeout p k
  | batonClaimRepeat => exact batonClaimRepeat
  | relayHeartbeatSend => exact relayHeartbeatSend
  | relayHeartbeatRx d st => exact relayHeartbeatRx d st
  | relayLinkTimeout lanes => exact relayLinkTimeout lanes
  | relayLinkRetrim => exact relayLinkRetrim
  | relayTrimDone ok => exact relayTrimDone ok
  | relayTrainSend => exact relayTrainSend
  | relayTimeSend => exact relayTimeSend
  | relayTimeRx d mark age => exact relayTimeRx d mark age
  | relayCueRx d => exact relayCueRx d
  | relayTileRx d => exact relayTileRx d
  | relayLampRx d => exact relayLampRx d
  | relayFlushRx d => exact relayFlushRx d
  | relaySigsRx d => exact relaySigsRx d
  | relayDelaysRx d => exact relayDelaysRx d
  | relayCensusReadyRx d => exact relayCensusReadyRx d
  | relayPlaceRx d => exact relayPlaceRx d
  | relayHandoverRx d => exact relayHandoverRx d
  | partnerBeaconRx p d => exact partnerBeaconRx p d
  | heartbeatPathMiss chain => exact heartbeatPathMiss chain
  | pairingTimeout => exact pairingTimeout
  | handoverSilenceEnd => exact handoverSilenceEnd
  | mendTimer => exact mendTimer
  | hkSlot r => exact hkSlot r
  | shutdownClockStop => exact shutdownClockStop
  | feedPresent b => exact feedPresent b
  | feedAbsent b => exact feedAbsent b
  | powerLoss => exact powerLoss
  | upstreamBlockLock p => exact upstreamBlockLock p
  | refClkStart => exact refClkStart
  | debugTapAccess op => exact debugTapAccess op

end Sys2Proof.Machine
end
